-- ==== Sys2Proof/Word.lean ====
section
/-! DEFINITION. The word types of the block and their plainest arithmetic. -/

namespace Sys2Proof

/-- One byte. -/
abbrev Byte := BitVec 8
/-- A 32-bit word (registers, INT32, FP32 patterns). -/
abbrev W32 := BitVec 32
/-- A 64-bit word (registers, Lenri units, FP64 patterns). -/
abbrev W64 := BitVec 64
/-- A 72-bit word: 64 data bits below 8 check bits (R491, R493). -/
abbrev W72 := BitVec 72

end Sys2Proof
end

