-- ==== Sys2Proof/Syntax.lean ====
section
/-! DEFINITION. The commands of the block: one constructor for each row of spec/opcode_table.json, with the operands
that the row's rule lets the outside world decide (a pin level, a value written, what a read of host memory or of
the media returned). What the state decides is no operand. -/

namespace Sys2Proof

/-- The strap pins (R13, R454). -/
structure Straps where
  clkmode : BitVec 1
  bootsel : BitVec 2
  slotId  : BitVec 6
  deriving DecidableEq, Repr

/-- The four engine queues of a tile (R73). -/
inductive Engine where
  | arr | vec | pin | pout
  deriving DecidableEq, Repr

/-- What can wait on a tile (R162): the head of an engine queue, or the dispatcher blocked under R156. -/
inductive WaitEntity where
  | head (e : Engine)
  | dispatcher
  deriving DecidableEq, Repr

/-- The three conditions of R23. -/
inductive CoolantCause where
  | outletHot | reversedFlow | excessRise
  deriving DecidableEq, Repr

/-- How a read of flash or of host memory for a unit ended (R243, R292). -/
inductive MediaResult where
  | ok | mediaError | unrecoverable
  deriving DecidableEq, Repr

/-- How a copy unit's reread ended (R498). -/
inductive RefetchResult where
  | clean | parityAgain | masterLost
  deriving DecidableEq, Repr

/-- A flit as the link delivers it: 32 words of 72 bits, and whether every FEC codeword decoded (R306, R308). -/
structure Flit where
  fecOk : Bool
  words : List W72
  deriving DecidableEq, Repr

/-- A parcel: the 256-bit header of R316 and its payload words. -/
structure Parcel where
  header  : BitVec 256
  payload : List W64
  deriving DecidableEq, Repr

/-- What the peer reports in EXCHANGE (R301, R302). -/
structure PeerInfo where
  dev      : BitVec 12
  port     : BitVec 4
  quads    : BitVec 4
  maxLanes : BitVec 2
  deriving DecidableEq, Repr

/-- How each of the four codewords of a page read decoded: the step of Table "Retry steps" that succeeded, or lost
(R355). `busError` is the error end that a channel reset gives the operation (R452). -/
structure PageOutcome where
  steps    : List (Option (Fin 10))
  busError : Bool
  deriving DecidableEq, Repr

/-- Configuration-space writes that the spec gives an effect, and any other request (R371, R372). -/
inductive ConfigReq where
  | memEnable (on : Bool)
  | biEnable (on : Bool)
  | msixEnable (on : Bool)
  | functionMask (on : Bool)
  | other
  deriving DecidableEq, Repr

/-- What the host asks for with a read of the window (R383, R384). -/
inductive HdmIntent where
  | uncached | shared | exclusive
  deriving DecidableEq, Repr

/-- The two IDE streams (R387). -/
inductive IdeStream where
  | cacheMem | io
  deriving DecidableEq, Repr

/-- A fault that makes a release step fail, found by the step's own work (R455, R458, R502). -/
inductive StepWork where
  | done
  | failed
  | selftestFailed (unit : Fin 16) (pattern : BitVec 32) (syndrome : BitVec 32)
  deriving DecidableEq, Repr

/-- The units whose non-volatile pulses delay a reset (R451). -/
inductive PulseUnit where
  | configFlash
  | channel (c : Fin 64)
  deriving DecidableEq, Repr

/-- What the key unit computes over an image with SHA3-512 and ML-DSA-87 (checks 2, 4 and 5 of R507): the standards
FIPS 202 and FIPS 204 are outside the spec, so their verdicts come with the command. -/
structure ImageVerdict where
  keyDigestOk  : Bool
  bodyDigestOk : Bool
  signatureOk  : Bool
  deriving DecidableEq, Repr

/-- An authorisation block as read from host memory (R511), with the verdicts of SHA3-512 and ML-DSA-87 over it. -/
structure AuthInput where
  block       : List Byte
  keyMatches  : Bool
  signatureOk : Bool
  deriving DecidableEq, Repr

/-- The verdicts over an Itinerary library (checks 2, 5 and 6 of R514). -/
structure LibVerdict where
  keyMatches  : Bool
  digestOk    : Bool
  signatureOk : Bool
  deriving DecidableEq, Repr

/-- One command of the block. -/
inductive Instr where
  -- Module, connectors and ratings
  | pwrdisAssert
  | pwrdisRelease (straps : Straps)
  | bladeSeated (vinMv : Nat)
  | bladeUnseated
  | vin48OvervoltageDisconnect (vinMv : Nat)
  | powerOnResetRelease (straps : Straps)
  | inputLossDetect (vinMv : Nat)
  | inputLossRecordProgram
  | smbrstAssert
  | governorSample (vinMv : Nat) (currentMa : Nat)
  | governorWindowEnd
  | throttleStepChange
  | clkPwrLimitWrite (value : W32)
  | pwrLimitLock (value : W32)
  | sensorSample (readings : List (BitVec 16))
  | coolantFault (cause : CoolantCause)
  | tamperOpen
  -- Itineraries
  | itineraryFetchReturn (tile : Fin 128) (units : Nat)
  | wordDispatch (tile : Fin 128)
  | dispatcherUnblock (tile : Fin 128)
  | engineEntryStart (tile : Fin 128) (eng : Engine)
  | nullEntryRun (tile : Fin 128) (eng : Engine)
  | nop (tile : Fin 128) (eng : Engine)
  | waitTimeout (tile : Fin 128) (who : WaitEntity)
  -- Grid
  | grid (tile : Fin 128)
  | gridStreamStart (tile : Fin 128)
  | gridRowDeliver (tile : Fin 128)
  | correctionPassStart (tile : Fin 128)
  | correctionPassEnd (tile : Fin 128)
  | epilogueRowEnter (tile : Fin 128)
  | gridComplete (tile : Fin 128)
  -- Vector unit
  | vecAdd (tile : Fin 128)
  | vecSub (tile : Fin 128)
  | vecMul (tile : Fin 128)
  | vecFma (tile : Fin 128)
  | vecDiv (tile : Fin 128)
  | vecSqrt (tile : Fin 128)
  | vecMin (tile : Fin 128)
  | vecMax (tile : Fin 128)
  | vecMinnum (tile : Fin 128)
  | vecMaxnum (tile : Fin 128)
  | vecCmp (tile : Fin 128)
  | vecSel (tile : Fin 128)
  | vecAbs (tile : Fin 128)
  | vecNeg (tile : Fin 128)
  | vecCopysign (tile : Fin 128)
  | vecRint (tile : Fin 128)
  | vecScaleb (tile : Fin 128)
  | vecCvt (tile : Fin 128)
  | vecSplit2 (tile : Fin 128)
  | vecSplit3 (tile : Fin 128)
  | vecExp (tile : Fin 128)
  | vecExp2 (tile : Fin 128)
  | vecLog (tile : Fin 128)
  | vecLog2 (tile : Fin 128)
  | vecTanh (tile : Fin 128)
  | vecErf (tile : Fin 128)
  | vecSigmoid (tile : Fin 128)
  | vecRsqrt (tile : Fin 128)
  | vecRsum (tile : Fin 128)
  | vecRmax (tile : Fin 128)
  | vecRmin (tile : Fin 128)
  | vecRargmax (tile : Fin 128)
  | vecSignpack (tile : Fin 128)
  | vecIadd (tile : Fin 128)
  | vecIsub (tile : Fin 128)
  | vecImul (tile : Fin 128)
  | vecAnd (tile : Fin 128)
  | vecOr (tile : Fin 128)
  | vecXor (tile : Fin 128)
  | vecShl (tile : Fin 128)
  | vecShr (tile : Fin 128)
  | vecOpComplete (tile : Fin 128)
  -- SYNC and LOOP slots, drains and barriers
  | setctr (tile : Fin 128)
  | addctr (tile : Fin 128)
  | cmpset (tile : Fin 128)
  | fence (tile : Fin 128)
  | stepSlot (tile : Fin 128)
  | phaseSlot (tile : Fin 128)
  | endSlot (tile : Fin 128)
  | flaginit (tile : Fin 128)
  | loopBegin (tile : Fin 128)
  | tileDrainComplete (tile : Fin 128)
  | stepBarrierEnd
  | stepSetLoadComplete
  -- Porters, Caravans, Cellar Porters
  | load (tile : Fin 128)
  | store (tile : Fin 128)
  | caravanLoad (tile : Fin 128)
  | caravanRecv (tile : Fin 128)
  | cellarRead (tile : Fin 128)
  | cellarWrite (tile : Fin 128)
  | remoteGet (tile : Fin 128)
  | remotePut (tile : Fin 128)
  | remoteAdd (tile : Fin 128)
  | reduce (tile : Fin 128)
  | flagTile (tile : Fin 128)
  | flagRemote (tile : Fin 128)
  | porterEntryComplete (tile : Fin 128) (eng : Engine)
  | caravanDeliveryStart (group : Fin 256)
  | caravanDeliveryComplete (group : Fin 256)
  | cellarUnitIssue (porter : Fin 32)
  | cellarRequestDeadline (request : Nat)
  | cellarUnitComplete (request : Nat)
  | reservationFrameEnd (short : List (Fin 64 × Fin 256))
  | ptrAreaWrite (index : Fin 8) (value : W32)
  | ptrResvWrite (index : Fin 64) (value : W64)
  -- Jobs
  | jobSubmit (tr : Nat) (lib : LibVerdict)
  | jobAbort (tr : Nat)
  | jobKick (tr : Nat)
  | jobSuspend (tr : Nat)
  | jobResume (tr : Nat)
  | jobQuery (tr : Nat)
  | sliceExpiry
  | starvationPromotion (jobTag : W32)
  | urgentQuantumEnd
  | preemptLate
  | jobSaveComplete
  | switchClearComplete
  | switchTableLoadComplete
  | jobRestoreComplete
  | exchangeFirstBarrierDone (jobTag : W32)
  | exchangeLanded (jobTag : W32)
  | exchangeComplete (jobTag : W32)
  | exchangeTimeout (jobTag : W32)
  | jobEnd (jobTag : W32)
  -- Embedding service
  | embedBind (tr : Nat) (lib : LibVerdict)
  | embedSubmit (tr : Nat) (list : List Byte)
  | embedCancel (tr : Nat)
  | embedUnbind (tr : Nat)
  | embedUnbindComplete
  | stagingReadStart
  | stagingReadComplete (ctx : Nat) (result : MediaResult) (tokens : List W32)
  | batchStepBoundary
  | boundaryInsertResume
  | boundaryProcedureEnd (durationUs : Nat)
  -- Ralid
  | query (tr : Nat) (buffer : List Byte)
  | queryAdmit
  | walkExpand (query : Nat)
  | rerankDeadline (query : Nat)
  | mergeDeadline (query : Nat)
  | insert (tr : Nat) (buffer : List Byte)
  | insertComplete (node : Nat)
  | deleteByNode (tr : Nat)
  | deleteByKey (tr : Nat)
  | publish (tr : Nat)
  | publishProceed
  | publishApply
  | consolidationPassComplete
  | consolidationLogFull
  | attach (tr : Nat)
  | attachLoadComplete (result : MediaResult)
  | detach (tr : Nat)
  | detachComplete
  | ralLogWrite (value : W64)
  | ralParamWrite (value : W64)
  | ralShardsWrite (value : W64)
  -- Kyober fabric
  | portEnable (port : Fin 16)
  | portDisable (port : Fin 16)
  | portRetrain (port : Fin 16)
  | signalDetected (port : Fin 16)
  | equaliseComplete (port : Fin 16)
  | alignComplete (port : Fin 16) (healthy : BitVec 4)
  | linkExchangeComplete (port : Fin 16) (peer : PeerInfo)
  | trainingStateTimeout (port : Fin 16)
  | trainingRetryWaitExpiry (port : Fin 16)
  | quadFail (port : Fin 16) (quad : Fin 4)
  | fastRetrainComplete (port : Fin 16) (result : Option PeerInfo)
  | peerTransmitStop (port : Fin 16)
  | dataFlitReceive (port : Fin 16) (flit : Flit)
  | idleFlitReceive (port : Fin 16) (flit : Flit)
  | replayRequestReceive (port : Fin 16) (flit : Flit)
  | ackTimer (port : Fin 16)
  | flitSend (port : Fin 16) (vc : Fin 3)
  | put (port : Fin 16)
  | get (port : Fin 16)
  | add (port : Fin 16)
  | flagSet (port : Fin 16)
  | reduceUp (port : Fin 16)
  | reduceSegmentCombine (ctx : BitVec 12) (reduceId : BitVec 12) (segment : Nat)
  | reduceDown (port : Fin 16)
  | queryParcel (port : Fin 16)
  | result (port : Fin 16)
  | rsp (port : Fin 16)
  | getData (port : Fin 16)
  | responseTimeout (tag : BitVec 16)
  | kybDeviceIdWrite (value : W32)
  | kybRouteWrite (dest : BitVec 12) (value : W64)
  -- Flash media and the Ledger
  | nandReadComplete (request : Nat) (outcome : PageOutcome)
  | nandProgramComplete (sb : Nat) (failed : BitVec 32) (dur10us : Nat)
  | nandEraseComplete (sb : Nat) (failed : BitVec 32) (dur10us : Nat)
  | dieStatusTimeout (channel : Fin 64) (die : Fin 8)
  | writeBufferLeave (slot : Nat) (lost : BitVec 4)
  | foldStart
  | gcVictimSelect
  | refreshRelocate
  | backgroundErase (sb : Nat)
  | ledgerSegmentWrite (segment : Fin 8192)
  | ldgClockMinuteTick
  | ldgClockWrite (value : W32)
  | ldgPoolWrite (pool : Fin 3) (value : W32)
  | ledgerRecoveryComplete (ok : Bool) (lost : List (Nat × Nat))
  -- Host attachment
  | linkUp (rate : BitVec 2) (width : BitVec 2) (cxl : Bool) (latOpt : Bool)
  | l0pWidthChange (width : BitVec 2)
  | cxlHotReset
  | linkDown
  | flr
  | hostResetComplete
  | configRequest (req : ConfigReq)
  | d3hotRequest
  | ps3Entry
  | d0Request
  | bar0AccessError (write : Bool)
  | registerWrite (offset : BitVec 23) (wide : Bool) (value : W64)
  | cacheEnableSet
  | cacheEnableClear
  | hdmDecoderCommit (base : W64)
  | hdmHostRead (addr : BitVec 34) (intent : HdmIntent)
  | hdmHostWrite (addr : BitVec 34) (bytes : List Byte) (poison : Bool)
  | bisnpResponse (line : BitVec 28) (writeBack : List Byte)
  | ideIntegrityFail (stream : IdeStream)
  | ideKeyProgram (stream : IdeStream)
  | doeDiscovery (inst : Fin 2) (index : Byte)
  | cdatRead
  | doeAbort (inst : Fin 2)
  | msixUnmask (vector : Fin 2048)
  -- Rings
  | doorbellSnoop (line : BitVec 58)
  | doorbellLineReturn (line : BitVec 58) (words : List W32)
  | doorbellRereadTimer
  | commandFetch (sq : Fin 256) (desc : BitVec 1024)
  | descriptorReadError (sq : Fin 256)
  | fencedCommandStart (tr : Nat)
  | adminPairStart (value : W32)
  | adminPairStop (value : W32)
  | adminPairStopped
  | identify (tr : Nat)
  | createSq (tr : Nat)
  | createCq (tr : Nat)
  | deleteSq (tr : Nat)
  | deleteSqComplete (sq : Fin 256)
  | deleteCq (tr : Nat)
  | setPower (tr : Nat)
  | powerStateEntryComplete
  | powerStateExitComplete
  | drain (tr : Nat)
  | drainComplete
  | resume (tr : Nat)
  -- Storage
  | nsCreate (tr : Nat)
  | nsDelete (tr : Nat)
  | nsQuery (tr : Nat)
  | read (tr : Nat)
  | write (tr : Nat) (buffer : List Byte)
  | flush (tr : Nat)
  | trim (tr : Nat)
  | verify (tr : Nat)
  | rangeLockGrant (entry : Nat)
  | writeSlotGrant (tr : Nat)
  -- Reset and bring-up
  | perstAssert
  | perstRelease
  | softwareDeviceReset (value : W32)
  | watchdogExpiry
  | stepFailureReset
  | bringupTimeout
  | refclkAbsent
  | refclkLost
  | deferredResetTake (unit : PulseUnit)
  | channelResetForce (channel : Fin 64)
  | tileReset (tile : Fin 128) (byHost : Bool)
  | walkerGroupReset (group : Fin 64) (byHost : Bool)
  | flashChannelReset (channel : Fin 64) (byHost : Bool)
  | fabricPortReset (port : Fin 16) (byHost : Bool)
  | porterGroupReset (group : Fin 8) (byHost : Bool)
  | blockResetEnd (selftest : StepWork)
  | releaseStep (work : StepWork) (elapsedMs : Nat) (first second : ImageVerdict)
  | clearCounter (value : W32)
  | imageTransfer (message : List Byte) (verdict : ImageVerdict)
  -- Configuration flash
  | cflCycleStore (offset : BitVec 29) (size : Nat) (value : W64)
  | cflAbandon (bank : Fin 2)
  | cflSequenceTimeout (bank : Fin 2)
  | pageProgram (bank : Fin 2)
  | sectorErase (bank : Fin 2)
  | contReadEnter (bank : Fin 2)
  | contReadExit (bank : Fin 2)
  | protSet (bank : Fin 2)
  | protClear (bank : Fin 2)
  | passwordChange (bank : Fin 2)
  | cflWindowRead (offset : BitVec 29) (len : Nat)
  | cflProgramPulseEnd (bank : Fin 2) (verified : Bool)
  | cflErasePulseEnd (bank : Fin 2) (verified : Bool)
  | cflProtectionOpComplete (bank : Fin 2)
  | cflQueuedHostOpStart (bank : Fin 2)
  | deviceRecordWrite
  | cflSectorSelWrite (value : W32)
  -- Integrity
  | patrolRead (addr : BitVec 40) (errors : W72) (stuck : W72)
  | copyRefetchComplete (unit : Fin 16) (result : RefetchResult) (tile : Fin 128) (entry : W32) (mask : Byte)
  | integrityCorrectedRateCheck (unit : Fin 16)
  -- Security
  | secEnroll (tr : Nat) (digest : BitVec 512) (auth : AuthInput)
  | secRevoke (tr : Nat) (auth : AuthInput)
  | secSetPolicy (tr : Nat) (auth : AuthInput)
  | secAdvanceSvn (tr : Nat) (auth : AuthInput)
  | secChallenge (tr : Nat)
  | secDebugUnlock (tr : Nat) (auth : AuthInput)
  | fuseWriteComplete
  | spdmGetVersion
  | spdmGetCapabilities
  | spdmNegotiateAlgorithms (request : List Byte)
  | spdmGetCertificate (slot : Byte) (offset : Nat) (len : Nat)
  | spdmChallenge (request : List Byte)
  | spdmGetMeasurements (index : Byte) (raw : Bool) (request : List Byte)
  | spdmKeyExchange (request : List Byte)
  | spdmKeyUpdate (request : List Byte)
  | spdmHeartbeat
  | spdmChunkGet (handle : Byte) (seq : BitVec 16)
  -- Guest Book, counters and telemetry
  | gbRingStart (value : W32)
  | gbRingStop (value : W32)
  | gbHeadWrite (value : W32)
  | gbCopyBudgetTick
  | qstatCtrlWrite (value : W32)
  | qstatWindowLatch
  | evtWinCtrlWrite (bank : Fin 7) (value : W32)
  | statsWindowEnd (bank : Fin 7)
  | evtCtrSelWrite (value : W32)
  | gbRead (request : List Byte)
  | telemetryRead (request : List Byte)
  | counterRead (request : List Byte)
  -- Later rows of the table
  | vin48Return (vinMv : Nat)
  | tamperCoverClose
  | watchdogRestart
  | shardQueryBudgetExpiry (query : Nat)
  deriving DecidableEq, Repr

end Sys2Proof
end

