-- ==== Sys2Proof/Config.lean ====
section
/-! DEFINITION. What one QK-8064 fixes for good (the numbers of the spec's tables), and the free values: constants
with no body, which no proof can evaluate. -/

namespace Sys2Proof.Config

/-- Tiles of the tensor complex (R73). -/
def tiles : Nat := 128
/-- Bytes of tile memory (R103). -/
def tileBytes : Nat := 0x300000
/-- First byte of the shared memory of field F0 and the byte past that of F3 (R165). -/
def sharedBase : Nat := 0xF000000000
def sharedEnd : Nat := 0xF010000000
/-- The byte past the addressable stacked memory, 596 GiB (R165). -/
def stackedEnd : Nat := 0x9500000000
/-- Units of 256 MiB in stacked memory, and the most that areas other than the job area may take (R167). -/
def areaUnits : Nat := 2384
def areaOtherMax : Nat := 2320
/-- Entries of an engine queue, word trackers, entries in flight per Porter (R73, R153, R171). -/
def queueDepth : Nat := 512
def trackers : Nat := 256
def porterFlight : Nat := 4
/-- Fetch buffer and the longest resident loop body, in units of 8 B (R128, R130). -/
def fetchUnits : Nat := 1024
def residentUnits : Nat := 512
/-- Reservable slots of a frame (R192). -/
def reservable : Nat := 768
/-- Task registers: reserved for SQ 0, and shared by the others (R405). -/
def adminRegs : Nat := 64
def sharedRegs : Nat := 16320
/-- Lines of the device cache (R379), range-lock entries (R438), snoop-filter entries (R383). -/
def cacheLines : Nat := 512
def lockEntries : Nat := 4096
def snoopEntries : Nat := 1048576
def snoopFlight : Nat := 64
/-- Sequence contexts, admission queue, staging reads in flight, slots of a batch (R239, R242 to R244). -/
def contexts : Nat := 40960
def admissionQueue : Nat := 1024
def stagingFlight : Nat := 256
def batchSlots : Nat := 64
/-- Ralid: walkers, inserts in progress, staged keys, waiting remote queries (R274, R282, R284, R295). -/
def walkers : Nat := 1024
def inserts : Nat := 4096
def stagedKeys : Nat := 65536
def remoteWaiting : Nat := 4096
/-- Flash: superblocks, user capacity in bytes, the wear rating (R331, R426, R348). -/
def superblocks : Nat := 98304
def userCapacity : Nat := 112000000000000
def wearRating : Nat := 30000
/-- Guest Book: Innkeeper buffer, copy budget (R528, R529). -/
def gbBuffer : Nat := 1024
def copyBudget : Nat := 256
/-- Jobs: fabric windows, remembered ended jobs, held FLAG_SETs (R206, R537, R219). -/
def windows : Nat := 8
def rememberedJobs : Nat := 1024
def heldFlagSets : Nat := 1024
/-- Replay buffer and receive credits of a port (R308, R309). -/
def replayFlits : Nat := 2048
def creditsReq : Nat := 2048
def creditsRsp : Nat := 1024
def creditsRed : Nat := 1024
/-- TCLK cycles in a microsecond (R442). -/
def tclkPerUs : Nat := 1400

/-! Free values. -/

/-- The value an activation delivers for an FP32 pattern (R96): fixed by the part within a bound, not given. The first
argument is the act code. -/
opaque activation : Nat → W32 → W32
/-- The FP32 value a transcendental vector operation delivers (R96, R99), by opcode and operand. -/
opaque transcendental : Nat → W32 → W32
/-- Whether the delivered transcendental value differs from the exact one (R100). -/
opaque transcendentalInexact : Nat → W32 → Bool
/-- The FP32 value of an MX element that lies outside FP32 (R99 says the conversion is exact, and no FP32 value is), by
format, element code and scale. -/
opaque mxBeyondFp32 : Nat → Nat → Nat → W32
/-- Words of the device's entropy source (R511), the key unit's outputs (R508, R517) and other values the spec leaves
open, drawn with a counter that the state holds. -/
opaque fresh : Nat → BitVec 512
/-- SHA3-512 (FIPS 202, outside the spec). -/
opaque sha3 : List Byte → BitVec 512
/-- A signature by the Alias key over a message (R517, FIPS 204, outside the spec). -/
opaque aliasSign : BitVec 512 → List Byte → List Byte
/-- The certificate chain of R509 as completed for a measurement (DER, outside the spec). -/
opaque certificateChain : BitVec 512 → List Byte
/-- Fuse items written at manufacture (R505), the ROM's digest (R518), and the CDAT bytes (R389). -/
opaque vendorDigest : BitVec 512
opaque deviceSeed : BitVec 256
opaque deviceIdentity : BitVec 512
opaque romDigest : BitVec 512
opaque lanternMeasurement : BitVec 512
opaque cdatTable : List Byte
/-- The PCI-SIG vendor ID of Naravahus and the DOE object type of its management protocol (R371, R389). -/
opaque vendorId : BitVec 16
opaque mgmtType : Byte
/-- Bytes of the firmware version string (R413). -/
opaque firmwareVersion : List Byte
/-- Bytes of a tile-state block beyond what the spec lays out (R213). -/
opaque tileStateBlock : Nat → List Byte
/-- The SPDM 1.3 encoding of a response, by response code and the fields that the spec gives it; code 0x1000 + c: the
combined_spdm_prefix of the signed response c (R516, R517; DMTF, outside the spec). -/
opaque spdmBody : Nat → List Byte → List Byte
/-- Whether an SPDM 1.3 NEGOTIATE_ALGORITHMS request offers a value of Table: Negotiated algorithms, by the number of the
table's row, 0 to 6 (R516; the request's encoding is outside the spec). -/
opaque spdmOffers : Nat → List Byte → Bool
/-- The sq_head field of a record posted for an SQ that no longer exists (R404 gives its value for an existing SQ only). -/
opaque absentSqHead : Nat → BitVec 16
/-- Content of a page that a step conflict has touched (R384) or that failed to program (R476). -/
opaque unspecifiedByte : Nat → Nat → Byte

end Sys2Proof.Config
end

