-- ==== Sys2Proof/Machine/Events.lean ====
section
/-! DEFINITION. The events of the Guest Book (R521, R522, Table: Event codes). -/

namespace Sys2Proof.Machine

/-- The events of Table: Event codes. -/
inductive Ev where
  | thermalThrottle
  | thermalTrip
  | powerLimit
  | inputUndervoltage
  | coolantFault
  | tamperOpen
  | opticsOvertemp
  | inputOvervoltage
  | inputLoss
  | quantSaturation
  | resvBreach
  | areaLayoutRejected
  | preemptLate
  | jobPromoted
  | jobEnded
  | ralLogFull
  | ralEpochLimit
  | ralRecordCorrupt
  | ralEpochCorrupt
  | kybLinkUp
  | kybLinkDown
  | kybLinkDegraded
  | kybTrainFailed
  | kybIdConflict
  | kybHopLimit
  | ldgBlockRetired
  | ldgDieFailed
  | ldgRetryDepth
  | ldgEraseSlow
  | ldgProgSlow
  | ldgSpareLow
  | ldgRecovery
  | ldgWearLimit
  | ldgUncorrectable
  | ldgStateCorrupt
  | ldgRootCorrupt
  | hostLinkUp
  | hostLinkDegraded
  | hostLinkNoCxl
  | hostIdeFail
  | hdmStepConflict
  | hostAccessError
  | ringSqError
  | ringCqError
  | powerState
  | resetSource
  | bootFallback
  | bootStepFailed
  | lanternEntered
  | clkRefAbsent
  | clkRefLost
  | blockReset
  | deviceReady
  | cflEraseSlow
  | cflEraseFail
  | cflProgramFail
  | cflHalfErased
  | cflPwLocked
  | cflProtCorrupt
  | integrityUncorrectable
  | integrityStuckBit
  | selftestFail
  | integrityCorrectedRate
  | secImageRejected
  | secKeyEnrolled
  | secKeyRevoked
  | secPolicyChanged
  | secAuthFailed
  | secDebugUnlocked
  | secSignedWrite
  | gbRecordsLost
  | gbSeqMark
  deriving DecidableEq, Repr

/-- The Copy column of Table: Event codes (R522). -/
inductive CopyClass where
  | always | budget | never
  deriving DecidableEq, Repr

/-- The code of an event. -/
def Ev.code : Ev → Nat
  | .thermalThrottle => 0x0201
  | .thermalTrip => 0x0202
  | .powerLimit => 0x0203
  | .inputUndervoltage => 0x0204
  | .coolantFault => 0x0205
  | .tamperOpen => 0x0206
  | .opticsOvertemp => 0x0207
  | .inputOvervoltage => 0x0208
  | .inputLoss => 0x0209
  | .quantSaturation => 0x0320
  | .resvBreach => 0x0340
  | .areaLayoutRejected => 0x0341
  | .preemptLate => 0x0350
  | .jobPromoted => 0x0351
  | .jobEnded => 0x0352
  | .ralLogFull => 0x0360
  | .ralEpochLimit => 0x0361
  | .ralRecordCorrupt => 0x0362
  | .ralEpochCorrupt => 0x0363
  | .kybLinkUp => 0x0370
  | .kybLinkDown => 0x0371
  | .kybLinkDegraded => 0x0372
  | .kybTrainFailed => 0x0373
  | .kybIdConflict => 0x0374
  | .kybHopLimit => 0x0375
  | .ldgBlockRetired => 0x0380
  | .ldgDieFailed => 0x0381
  | .ldgRetryDepth => 0x0382
  | .ldgEraseSlow => 0x0383
  | .ldgProgSlow => 0x0384
  | .ldgSpareLow => 0x0385
  | .ldgRecovery => 0x0386
  | .ldgWearLimit => 0x0387
  | .ldgUncorrectable => 0x0388
  | .ldgStateCorrupt => 0x0389
  | .ldgRootCorrupt => 0x038A
  | .hostLinkUp => 0x0390
  | .hostLinkDegraded => 0x0391
  | .hostLinkNoCxl => 0x0392
  | .hostIdeFail => 0x0393
  | .hdmStepConflict => 0x0394
  | .hostAccessError => 0x0395
  | .ringSqError => 0x03A0
  | .ringCqError => 0x03A1
  | .powerState => 0x03A2
  | .resetSource => 0x03B0
  | .bootFallback => 0x03B1
  | .bootStepFailed => 0x03B2
  | .lanternEntered => 0x03B3
  | .clkRefAbsent => 0x03B4
  | .clkRefLost => 0x03B5
  | .blockReset => 0x03B6
  | .deviceReady => 0x03B7
  | .cflEraseSlow => 0x03C0
  | .cflEraseFail => 0x03C1
  | .cflProgramFail => 0x03C2
  | .cflHalfErased => 0x03C3
  | .cflPwLocked => 0x03C4
  | .cflProtCorrupt => 0x03C5
  | .integrityUncorrectable => 0x03D0
  | .integrityStuckBit => 0x03D1
  | .selftestFail => 0x03D2
  | .integrityCorrectedRate => 0x03D3
  | .secImageRejected => 0x03E0
  | .secKeyEnrolled => 0x03E1
  | .secKeyRevoked => 0x03E2
  | .secPolicyChanged => 0x03E3
  | .secAuthFailed => 0x03E4
  | .secDebugUnlocked => 0x03E5
  | .secSignedWrite => 0x03E6
  | .gbRecordsLost => 0x03F0
  | .gbSeqMark => 0x03F1

/-- The severity of an event: 1 Info, 2 Warning, 3 Error, 4 Fatal. -/
def Ev.severity : Ev → Nat
  | .thermalThrottle => 1
  | .thermalTrip => 4
  | .powerLimit => 1
  | .inputUndervoltage => 2
  | .coolantFault => 3
  | .tamperOpen => 2
  | .opticsOvertemp => 2
  | .inputOvervoltage => 2
  | .inputLoss => 4
  | .quantSaturation => 2
  | .resvBreach => 3
  | .areaLayoutRejected => 3
  | .preemptLate => 2
  | .jobPromoted => 1
  | .jobEnded => 1
  | .ralLogFull => 2
  | .ralEpochLimit => 3
  | .ralRecordCorrupt => 3
  | .ralEpochCorrupt => 3
  | .kybLinkUp => 1
  | .kybLinkDown => 2
  | .kybLinkDegraded => 2
  | .kybTrainFailed => 2
  | .kybIdConflict => 3
  | .kybHopLimit => 2
  | .ldgBlockRetired => 2
  | .ldgDieFailed => 3
  | .ldgRetryDepth => 2
  | .ldgEraseSlow => 2
  | .ldgProgSlow => 2
  | .ldgSpareLow => 3
  | .ldgRecovery => 1
  | .ldgWearLimit => 3
  | .ldgUncorrectable => 3
  | .ldgStateCorrupt => 3
  | .ldgRootCorrupt => 4
  | .hostLinkUp => 1
  | .hostLinkDegraded => 2
  | .hostLinkNoCxl => 3
  | .hostIdeFail => 3
  | .hdmStepConflict => 2
  | .hostAccessError => 2
  | .ringSqError => 2
  | .ringCqError => 2
  | .powerState => 1
  | .resetSource => 1
  | .bootFallback => 2
  | .bootStepFailed => 4
  | .lanternEntered => 3
  | .clkRefAbsent => 2
  | .clkRefLost => 3
  | .blockReset => 2
  | .deviceReady => 1
  | .cflEraseSlow => 2
  | .cflEraseFail => 3
  | .cflProgramFail => 3
  | .cflHalfErased => 2
  | .cflPwLocked => 2
  | .cflProtCorrupt => 3
  | .integrityUncorrectable => 3
  | .integrityStuckBit => 2
  | .selftestFail => 3
  | .integrityCorrectedRate => 2
  | .secImageRejected => 3
  | .secKeyEnrolled => 1
  | .secKeyRevoked => 1
  | .secPolicyChanged => 1
  | .secAuthFailed => 2
  | .secDebugUnlocked => 2
  | .secSignedWrite => 2
  | .gbRecordsLost => 2
  | .gbSeqMark => 1

/-- Whether an event reaches the persistent copy. -/
def Ev.copy : Ev → CopyClass
  | .thermalThrottle => .never
  | .thermalTrip => .always
  | .powerLimit => .never
  | .inputUndervoltage => .budget
  | .coolantFault => .budget
  | .tamperOpen => .always
  | .opticsOvertemp => .budget
  | .inputOvervoltage => .budget
  | .inputLoss => .always
  | .quantSaturation => .budget
  | .resvBreach => .budget
  | .areaLayoutRejected => .always
  | .preemptLate => .budget
  | .jobPromoted => .never
  | .jobEnded => .never
  | .ralLogFull => .budget
  | .ralEpochLimit => .budget
  | .ralRecordCorrupt => .budget
  | .ralEpochCorrupt => .always
  | .kybLinkUp => .never
  | .kybLinkDown => .budget
  | .kybLinkDegraded => .budget
  | .kybTrainFailed => .budget
  | .kybIdConflict => .budget
  | .kybHopLimit => .budget
  | .ldgBlockRetired => .budget
  | .ldgDieFailed => .always
  | .ldgRetryDepth => .budget
  | .ldgEraseSlow => .budget
  | .ldgProgSlow => .budget
  | .ldgSpareLow => .always
  | .ldgRecovery => .always
  | .ldgWearLimit => .always
  | .ldgUncorrectable => .budget
  | .ldgStateCorrupt => .always
  | .ldgRootCorrupt => .always
  | .hostLinkUp => .never
  | .hostLinkDegraded => .budget
  | .hostLinkNoCxl => .budget
  | .hostIdeFail => .budget
  | .hdmStepConflict => .budget
  | .hostAccessError => .budget
  | .ringSqError => .budget
  | .ringCqError => .budget
  | .powerState => .never
  | .resetSource => .always
  | .bootFallback => .always
  | .bootStepFailed => .always
  | .lanternEntered => .always
  | .clkRefAbsent => .always
  | .clkRefLost => .always
  | .blockReset => .budget
  | .deviceReady => .always
  | .cflEraseSlow => .budget
  | .cflEraseFail => .always
  | .cflProgramFail => .always
  | .cflHalfErased => .always
  | .cflPwLocked => .always
  | .cflProtCorrupt => .always
  | .integrityUncorrectable => .always
  | .integrityStuckBit => .budget
  | .selftestFail => .always
  | .integrityCorrectedRate => .budget
  | .secImageRejected => .always
  | .secKeyEnrolled => .always
  | .secKeyRevoked => .always
  | .secPolicyChanged => .always
  | .secAuthFailed => .budget
  | .secDebugUnlocked => .always
  | .secSignedWrite => .budget
  | .gbRecordsLost => .budget
  | .gbSeqMark => .always

/-- The severity that belongs to a code. -/
def sevOfCode (code : Nat) : Nat :=
  match code with
  | 0x0201 => 1
  | 0x0202 => 4
  | 0x0203 => 1
  | 0x0204 => 2
  | 0x0205 => 3
  | 0x0206 => 2
  | 0x0207 => 2
  | 0x0208 => 2
  | 0x0209 => 4
  | 0x0320 => 2
  | 0x0340 => 3
  | 0x0341 => 3
  | 0x0350 => 2
  | 0x0351 => 1
  | 0x0352 => 1
  | 0x0360 => 2
  | 0x0361 => 3
  | 0x0362 => 3
  | 0x0363 => 3
  | 0x0370 => 1
  | 0x0371 => 2
  | 0x0372 => 2
  | 0x0373 => 2
  | 0x0374 => 3
  | 0x0375 => 2
  | 0x0380 => 2
  | 0x0381 => 3
  | 0x0382 => 2
  | 0x0383 => 2
  | 0x0384 => 2
  | 0x0385 => 3
  | 0x0386 => 1
  | 0x0387 => 3
  | 0x0388 => 3
  | 0x0389 => 3
  | 0x038A => 4
  | 0x0390 => 1
  | 0x0391 => 2
  | 0x0392 => 3
  | 0x0393 => 3
  | 0x0394 => 2
  | 0x0395 => 2
  | 0x03A0 => 2
  | 0x03A1 => 2
  | 0x03A2 => 1
  | 0x03B0 => 1
  | 0x03B1 => 2
  | 0x03B2 => 4
  | 0x03B3 => 3
  | 0x03B4 => 2
  | 0x03B5 => 3
  | 0x03B6 => 2
  | 0x03B7 => 1
  | 0x03C0 => 2
  | 0x03C1 => 3
  | 0x03C2 => 3
  | 0x03C3 => 2
  | 0x03C4 => 2
  | 0x03C5 => 3
  | 0x03D0 => 3
  | 0x03D1 => 2
  | 0x03D2 => 3
  | 0x03D3 => 2
  | 0x03E0 => 3
  | 0x03E1 => 1
  | 0x03E2 => 1
  | 0x03E3 => 1
  | 0x03E4 => 2
  | 0x03E5 => 2
  | 0x03E6 => 2
  | 0x03F0 => 2
  | 0x03F1 => 1
  | _ => 0

/-- The unit that raises a code (R521, Table: Source units). -/
def sourceOfCode (code : Nat) : Nat :=
  if code < 0x0300 then 0x00
  else if code < 0x0340 then 0x01
  else if code < 0x0350 then 0x02
  else if code < 0x0360 then 0x03
  else if code < 0x0370 then 0x05
  else if code < 0x0380 then 0x06
  else if code < 0x0390 then 0x07
  else if code < 0x03A0 then 0x08
  else if code < 0x03B0 then 0x09
  else if code < 0x03C0 then 0x0A
  else if code < 0x03D0 then 0x0B
  else if code < 0x03E0 then 0x0C
  else if code < 0x03F0 then 0x0D
  else 0x0E

end Sys2Proof.Machine
end

