-- ==== Sys2Proof/Machine/Data.lean ====
section
/-! DEFINITION. Plain data that the parts of the state are made of: tables with rising keys, byte memories in one
canonical form, bit fields and little-endian bytes. -/

namespace Sys2Proof.Machine

/-- A table: pairs of key and value with strictly rising keys. What an absent key stands for is said where the table
is used. -/
abbrev Tbl (α : Type) := List (Nat × α)

/-- The value at key `k`, if listed. -/
def Tbl.look {α : Type} : Tbl α → Nat → Option α
  | [], _ => none
  | (j, v) :: t, k => if j = k then some v else Tbl.look t k

/-- The value at key `k`, or `d` where none is listed. -/
def Tbl.lookD {α : Type} (t : Tbl α) (k : Nat) (d : α) : α := (Tbl.look t k).getD d

/-- `t` with `v` at key `k`. -/
def Tbl.put {α : Type} : Tbl α → Nat → α → Tbl α
  | [], k, v => [(k, v)]
  | (j, w) :: t, k, v =>
    if k < j then (k, v) :: (j, w) :: t
    else if k = j then (k, v) :: t
    else (j, w) :: Tbl.put t k v

/-- `t` without key `k`. -/
def Tbl.del {α : Type} (t : Tbl α) (k : Nat) : Tbl α := t.filter (fun p => p.1 != k)

/-- Apply `f` to the value at `k` (`d` where none is listed). -/
def Tbl.upd {α : Type} (t : Tbl α) (k : Nat) (d : α) (f : α → α) : Tbl α := Tbl.put t k (f (Tbl.lookD t k d))

/-- Apply `f` to the value at `k`, if listed. -/
def Tbl.adjust {α : Type} (t : Tbl α) (k : Nat) (f : α → α) : Tbl α :=
  match Tbl.look t k with
  | some v => Tbl.put t k (f v)
  | none => t

/-- Apply `f` to every listed value. -/
def Tbl.mapVals {α β : Type} (t : Tbl α) (f : Nat → α → β) : Tbl β := t.map (fun p => (p.1, f p.1 p.2))

/-- Keys strictly rising. -/
def Tbl.sorted {α : Type} : Tbl α → Bool
  | [] => true
  | [_] => true
  | p :: q :: t => decide (p.1 < q.1) && Tbl.sorted (q :: t)

/-- The lowest key of `lo`, `lo + 1`, ..., below `lo + n`, that is not listed. -/
def Tbl.freeKey {α : Type} (t : Tbl α) : Nat → Nat → Option Nat
  | _, 0 => none
  | lo, n + 1 => if (Tbl.look t lo).isNone then some lo else Tbl.freeKey t (lo + 1) n

/-- A byte memory: (address, byte) pairs, addresses strictly rising, no entry equal to what an unlisted address
reads as. The reading of an unlisted address is the argument `d` of each operation. -/
abbrev Mem := List Host.Cell

/-- The byte at `a`. -/
def Mem.byte (d : Nat → Byte) (m : Mem) (a : Nat) : Byte := Tbl.lookD m a (d a)

/-- The `n` bytes from `a`. -/
def Mem.read (d : Nat → Byte) (m : Mem) (a n : Nat) : List Byte := (List.range n).map (fun i => Mem.byte d m (a + i))

/-- The cells of `bytes` from address `a`, less those that read so unlisted. -/
def Mem.cells (d : Nat → Byte) : Nat → List Byte → Mem
  | _, [] => []
  | a, b :: bs => if b = d a then Mem.cells d (a + 1) bs else (a, b) :: Mem.cells d (a + 1) bs

/-- `m` with `bytes` stored from `a`. -/
def Mem.write (d : Nat → Byte) (m : Mem) (a : Nat) (bytes : List Byte) : Mem :=
  m.filter (fun c => decide (c.1 < a)) ++ Mem.cells d a bytes ++ m.filter (fun c => decide (a + bytes.length ≤ c.1))

/-- The canonical form. -/
def Mem.wf (d : Nat → Byte) (m : Mem) : Bool := Tbl.sorted m && m.all (fun c => c.2 != d c.1)

/-- What stacked, shared, tile and host memory read as where nothing has been written: zero. DESIGN CHOICE, log 3. -/
def zeroByte (_ : Nat) : Byte := 0

/-- Little-endian value of bytes (R4). -/
def leNat : List Byte → Nat
  | [] => 0
  | b :: bs => b.toNat + 256 * leNat bs

/-- The `n` little-endian bytes of `v` (R4). -/
def leBytes : Nat → Nat → List Byte
  | 0, _ => []
  | n + 1, v => BitVec.ofNat 8 v :: leBytes n (v / 256)

/-- Bits [hi:lo] of `v` as a number (R3). -/
def bits (v hi lo : Nat) : Nat := v / 2 ^ lo % 2 ^ (hi + 1 - lo)

/-- Bit `i` of `v`. -/
def bit (v i : Nat) : Bool := v / 2 ^ i % 2 == 1

/-- `b` as 0 or 1. -/
def b2n (b : Bool) : Nat := if b then 1 else 0

/-- `v` as a two's complement number of `w` bits. -/
def sext (w v : Nat) : Int := if v < 2 ^ (w - 1) then (v : Int) else (v : Int) - 2 ^ w

/-- A saturating counter of `w` bits (R10). -/
def satAdd (w v k : Nat) : Nat := min (v + k) (2 ^ w - 1)

/-- The complement of `v` in `w` bits (R500). -/
def compl (w v : Nat) : Nat := 2 ^ w - 1 - v % 2 ^ w

/-- `x` and `y` are complements of each other in `w` bits (R500). -/
def isCompl (w x y : Nat) : Bool := x + y == 2 ^ w - 1

/-- `xs` cut into pieces of `n` (structural in the fuel `k`). -/
def chunksOf {α : Type} (n : Nat) : Nat → List α → List (List α)
  | 0, _ => []
  | k + 1, xs => if xs.isEmpty then [] else xs.take n :: chunksOf n k (xs.drop n)

/-- `xs` padded with `x` to at least `n`, and cut to `n`. -/
def padTo {α : Type} (n : Nat) (x : α) (xs : List α) : List α := (xs ++ List.replicate (n - xs.length) x).take n

/-- Position of `x` in `xs`. -/
def posOf (xs : List Nat) (x : Nat) : Option Nat :=
  match xs with
  | [] => none
  | y :: ys => if y = x then some 0 else (posOf ys x).map (· + 1)

end Sys2Proof.Machine
end

