-- ==== Sys2Proof/Machine/Parts/Module.lean ====
section
/-! DEFINITION. The state of the module itself: supply, pins, straps, governor, sensors (chapter 01), and of reset and
bring-up (chapter 15). -/

namespace Sys2Proof.Machine

/-- The rails besides VSTBY (R18, Table: In-package rails). -/
structure Rails where
  vbus  : Bool
  vcore : Bool
  vsram : Bool
  vaon  : Bool
  vddm  : Bool
  vnand : Bool
  vopt  : Bool
  deriving DecidableEq, Repr

/-- Supply, pins, governor and thermal state (chapter 01). -/
structure Power where
  /-- VIN48 as last reported, in mV (R17). -/
  vinMv : Nat
  /-- BLADE_SEATED_N is low (R17). -/
  seated : Bool
  /-- The hot-swap controller connects VIN48 (R17). -/
  connected : Bool
  /-- Pin PWRDIS is high (R16). -/
  pwrdis : Bool
  /-- Pin PERST_N is low (R446). -/
  perst : Bool
  /-- Power-on reset is asserted (R18). -/
  porAsserted : Bool
  rails : Rails
  /-- Pin PWR_GOOD (R18). -/
  pwrGood : Bool
  /-- Input loss detected and not yet at step 4 of R20. -/
  inputLoss : Bool
  /-- A thermal trip coincided with the input loss (R20). -/
  lossWithTrip : Bool
  /-- The SMBus interface holds a transfer (R12). -/
  smbusBusy : Bool
  /-- Pin ALERT_N low, pin LED_N low (R12). -/
  alert : Bool
  led : Bool
  /-- The strap pins, and the copies sampled at the release of power-on reset (R14). -/
  strapPins : Straps
  straps : Straps
  /-- The power request of R27. -/
  powerReq : Nat
  /-- The fast or current rule raised the power request last (cause_power_fast). -/
  fastHolds : Bool
  /-- The previous sample exceeded 110 % of the limit (R27). -/
  overPrev : Bool
  /-- Consecutive samples above 45 A (R27). -/
  overCurrent : Nat
  /-- Sum of the window's samples in µW, and their count (R27). -/
  winSum : Nat
  winCount : Nat
  /-- Consecutive windows below 97 % (R27). -/
  lowWindows : Nat
  /-- limit_w in force (R31). -/
  limitInForce : Nat
  /-- CLK_PWR_LIMIT. -/
  pwrLimit : W32
  /-- CLK_THROTTLE_STATUS.step, the step in force (R28). -/
  step : Nat
  /-- CLK_THROTTLE_STATUS.input_power_w. -/
  inputPowerW : Nat
  /-- The undervoltage request holds 2 (R32), and the excursion flags. -/
  undervoltage : Bool
  uvLogged : Bool
  ovLogged : Bool
  /-- The thermal request of each class: die, stacked memory, flash (R33). -/
  thermDie : Nat
  thermMem : Nat
  thermFlash : Nat
  /-- EVT_TEMP entries sampled, by sensor index; absent: valid = 0 (R534). -/
  temps : Tbl (BitVec 16)
  /-- EVT_INPUT.vin and current of the last sample, in 10 mV and 10 mA. -/
  vinSample : Nat
  curSample : Nat
  /-- Engines logged at 75 °C and still there, engines whose lasers are off since 85 °C (R35). -/
  opticsWarn : BitVec 16
  lasersOff : BitVec 16
  /-- A thermal trip holds the module: pin THERM_TRIP_N is low (R36). -/
  thermTrip : Bool
  /-- All sensors have been seen 15 °C below their trip temperatures since the trip (R36). -/
  tripCool : Bool
  /-- Pin TAMPER_N is low (R24). -/
  tamperLow : Bool
  /-- The tamper sticky bit, SEC_STATUS.tamper (R24). -/
  tamperSticky : Bool
  deriving DecidableEq, Repr

/-- HST_DEV_STATE.state, and RESET, which is never read (Table: HST_DEV_STATE). -/
inductive DevState where
  | reset | bringUp | lantern | ready | draining
  deriving DecidableEq, Repr

/-- A per-block reset in progress (R452). -/
structure BlockReset where
  kind   : Nat
  index  : Nat
  byHost : Bool
  /-- Waits for die operations of a flash channel to end (R451). -/
  waiting : Bool
  deriving DecidableEq, Repr

/-- Reset and bring-up (chapter 15). -/
structure Boot where
  dev : DevState
  /-- RST_BOOT_STATUS.stage: the last release step completed; 9 in READY. -/
  stage : Nat
  /-- RST_BOOT_STATUS.last_source, cause, image, fallback, ref_resonator, holdover, counter, bringup_ms (R466). -/
  lastSource : Nat
  cause : Nat
  image : Nat
  fallback : Bool
  refResonator : Bool
  holdover : Bool
  counter : Nat
  bringupMs : Nat
  /-- The link may not train until the next power-on reset (R445). -/
  linkBarred : Bool
  /-- A failed step or recovery waits 100 ms for its full reset (R458). -/
  stepFailed : Bool
  /-- Step 1 failed its self-test and holds the device (R455). -/
  stuckInStep1 : Bool
  /-- Ledger recovery has started, has completed (R457). -/
  recoveryRunning : Bool
  recoveryDone : Bool
  /-- The Innkeeper waits for a host image, and the bytes it holds with the total length announced (R461, R535). -/
  waitHostImage : Bool
  hostImage : List Byte
  hostImageTotal : Nat
  /-- A host-side reset is in progress, and the state to return to is LANTERN (R449). -/
  hostReset : Bool
  hostResetLantern : Bool
  /-- Units whose non-volatile operation delays a reset (R451), with: rails are to be removed after them. -/
  deferred : List PulseUnit
  railsAfter : Bool
  /-- RST_BLOCK kind, index, refused, and the block reset in progress (busy). -/
  blkKind : Nat
  blkIndex : Nat
  blkRefused : Bool
  blk : Option BlockReset
  /-- TCLK cycle of the last watchdog restart (R465). -/
  watchdogAt : Nat
  /-- CFL is not released in Lantern mode entered under R502. -/
  cflBarred : Bool
  deriving DecidableEq, Repr

/-- Power states of the device (R417 to R420). -/
inductive PsPhase where
  | steady
  | entering (target : Nat) (waitExit : Bool)
  | exiting (thenTarget : Nat)
  | d3Stopping
  | exitingPs3
  deriving DecidableEq, Repr

end Sys2Proof.Machine
end

