-- ==== Sys2Proof/Machine/Parts/Front.lean ====
section
/-! DEFINITION. The state of the host front end: link, configuration space, window, mailboxes (chapter 12), rings and
task registers (chapter 13), Guest Book and counters (chapter 19). -/

namespace Sys2Proof.Machine

/-- What the device answers to a read-type request. The host takes it before its next request. -/
inductive Answer where
  | none
  /-- Data bytes, lowest address first. -/
  | data (bytes : List Byte)
  /-- A poisoned completion (R382, R386). -/
  | poison
  /-- Request Retry Status (R372). -/
  | retryStatus
  /-- Unsupported Request (R373). -/
  | unsupported
  /-- A successful completion without data. -/
  | accepted
  /-- The CXL.mem request waits for a back-invalidate (R383). -/
  | waits
  deriving DecidableEq, Repr

/-- An MSI-X table entry (R378). -/
structure MsixEntry where
  masked : Bool
  addr   : W64
  data   : W32
  deriving DecidableEq, Repr

/-- A snoop-filter entry: a window line and whether it is recorded exclusive (R383). -/
structure SnoopEntry where
  line      : Nat
  exclusive : Bool
  deriving DecidableEq, Repr

/-- A back-invalidate snoop in flight, for a sweep, a device access or room in the filter (R383, R384). -/
structure BiSnoop where
  line     : Nat
  inv      : Bool
  /-- It belongs to the sweep of R384. -/
  sweep    : Bool
  deriving DecidableEq, Repr

/-- Host attachment (chapter 12). -/
structure HostSide where
  /-- HST_LINK_STATUS. -/
  linkUp : Bool
  rate : Nat
  width : Nat
  cxl : Bool
  latOpt : Bool
  linkDowns : Nat
  replays : Nat
  /-- HST_DEV_STATE.access_err, cache_en, mem_ready is computed, ide_secure is computed. -/
  accessErr : Bool
  cacheEn : Bool
  memEn : Bool
  biEn : Bool
  msixEn : Bool
  funcMask : Bool
  /-- Error Not Committed of the HDM decoder (R382). -/
  hdmError : Bool
  hdmCommitted : Bool
  hdmBase : Nat
  /-- HST_HDM_STATUS.conflicts, poisoned. -/
  conflicts : Nat
  poisoned : Bool
  /-- Snoop filter, earliest recorded first, and snoops in flight (R383). -/
  snoop : List SnoopEntry
  biOut : List BiSnoop
  /-- Window lines that the sweep of R384 has still to back-invalidate, and whether with BISnpInv. -/
  sweep : List (Nat × Bool)
  /-- HDM_STEP_CONFLICT has been logged in this step (R384). -/
  conflictLogged : Bool
  /-- A CXL.mem request of the host for a new line that waits for room in the filter, with its ownership (R383). -/
  waiting : Option (Nat × Bool)
  /-- The device cache: lines held Shared, and lines being read with RdShared (R379, R394). -/
  lines : List Nat
  reading : List Nat
  /-- MSI-X table (absent: masked, zero), PBA bits, and the messages sent, newest first (R378). -/
  msix : Tbl MsixEntry
  pba : List Nat
  msgs : List (W64 × W32)
  /-- IDE: keys programmed and secure, per stream; protocol stopped until a link reset (R387, R388). -/
  ideMem : Bool
  ideIo : Bool
  stopMem : Bool
  stopIo : Bool
  /-- The staged lower halves of 64-bit registers, by offset (R375). -/
  staged : Tbl Nat
  /-- The device is in D3hot (R373). -/
  d3hot : Bool
  /-- The request that each DOE instance still holds, as its answer: instance 0 and 1 (R389, R390). -/
  doe0 : Option (List Byte)
  doe1 : Option (List Byte)
  /-- Power state and transition (R417). -/
  pstate : Nat
  psPhase : PsPhase
  /-- The answer to the last read-type request. -/
  answer : Answer
  /-- Host memory as the device's posted writes leave it. -/
  mem : Mem
  deriving DecidableEq, Repr

/-- States of a submission ring (RNG_SQ_STATUS.state); an absent SQ is `none`. -/
inductive SqState where
  | running | error | deleting
  deriving DecidableEq, Repr

/-- A submission ring (R392, R409). -/
structure Sq where
  state   : SqState
  cls     : Nat
  cq      : Nat
  base    : Nat
  depth   : Nat
  /-- Byte address of the tail doorbell word. -/
  db      : Nat
  head    : Nat
  tail    : Nat
  trLimit : Nat
  /-- ADMIN pair stopped fetching (R398), or no fetch since Cache_Enable was cleared is computed. -/
  stopped : Bool
  /-- The last fetched command is an INSERT waiting for space (R282). -/
  insertWaits : Bool
  /-- µs counter of pauses (bank 5) is in the counters; order number of the next fetched command. -/
  nextOrder : Nat
  deriving DecidableEq, Repr

/-- A completion ring (R392). -/
structure Cq where
  error  : Bool
  vector : Nat
  base   : Nat
  depth  : Nat
  db     : Nat
  /-- Next entry the device writes, and the last head taken. -/
  tail   : Nat
  head   : Nat
  phase  : Bool
  agg    : Nat
  /-- Records posted since the last message (R411). -/
  since  : Nat
  deriving DecidableEq, Repr

/-- How far a fetched command is. -/
inductive TaskPhase where
  /-- Checked, and handed to its unit: its own row runs next. -/
  | ready
  /-- Checked, waiting for its fence (R406). -/
  | fenced
  /-- Its row has run and it waits for its unit. -/
  | running
  /-- It is delayed by an exit from a power state (R419), with the status of its descriptor checks; 0: they passed. -/
  | delayed (status : Nat)
  deriving DecidableEq, Repr

/-- A task register in use (R405). -/
structure Task where
  sq     : Nat
  order  : Nat
  desc   : BitVec 1024
  phase  : TaskPhase
  /-- The second record owed under R407 is still held for this command. -/
  owes2  : Bool
  deriving DecidableEq, Repr

/-- A completion record before it has a place in a CQ. -/
structure Completion where
  tag    : Nat
  sq     : Nat
  status : Nat
  opcode : Nat
  kind   : Nat
  result : Nat
  detail : Nat
  deriving DecidableEq, Repr

/-- Rings, doorbells and task registers (chapter 13). -/
structure Rings where
  /-- RNG_ADMIN_CTRL refused, running, vector, depth_m1; the base and doorbell registers. -/
  enable : Bool
  refused : Bool
  running : Bool
  vectorReg : Nat
  depthReg : Nat
  sqBase : Nat
  cqBase : Nat
  sqDb : Nat
  cqDb : Nat
  sqs : Tbl Sq
  cqs : Tbl Cq
  tasks : Tbl Task
  /-- The SQ that the fetcher served last (R406). -/
  round : Nat
  /-- Records held in PS3, with the CQ they go to, oldest first (R420). -/
  heldRecs : List (Nat × Completion)
  /-- The task register of the DRAIN outstanding (R414). -/
  drainTr : Option Nat
  /-- DELETE_SQ commands in progress: task register by SQ number (R412). -/
  deleting : Tbl Nat
  /-- SET_POWER commands: the one being carried out, and those waiting, oldest first (R418, R419). -/
  powerTr : Option Nat
  powerWait : List Nat
  deriving DecidableEq, Repr

/-- A Guest Book record (R520), less its phase bit. -/
structure EvtRec where
  code   : Nat
  seq    : Nat
  time   : Nat
  detail : Nat
  deriving DecidableEq, Repr

/-- A statistics window: register value and the settings in force (R121, R532). -/
structure WinCtl where
  reg   : W32
  inUse : W32
  seq   : Nat
  deriving DecidableEq, Repr

/-- Guest Book, counters and telemetry (chapter 19). -/
structure Evt where
  /-- EVT_GB_BASE, EVT_GB_CTRL, EVT_GB_HEAD. -/
  base : Nat
  enable : Bool
  refused : Bool
  running : Bool
  headErr : Bool
  vector : Nat
  depthM1 : Nat
  head : Nat
  /-- Next ring entry and its phase (R520, R527). -/
  tail : Nat
  phase : Bool
  /-- EVT_GB_STATUS. -/
  nextSeq : Nat
  lost : Nat
  copySkipped : Nat
  /-- Losses that no GB_RECORDS_LOST has reported yet: count and first seq (R528). -/
  lostPending : Nat
  lostFirst : Nat
  /-- The Innkeeper buffer, oldest first (R528). -/
  buffer : List EvtRec
  /-- Copy credits, and records waiting for a slot of the persistent copy, oldest first (R529). -/
  credits : Nat
  copyQueue : List EvtRec
  /-- EVT_TIMESTAMP is computed from this: the TCLK count when it was zero (R524). -/
  timeZero : Nat
  /-- EVT_WIN_CTRL_0..6 and EVT_WIN_SEQ_0..6 (absent: reset values). -/
  wins : Tbl WinCtl
  /-- Counters of banks 0 to 6 and their shadows: key bank·2^16 + instance·2^6 + index (R531). -/
  counters : Tbl Nat
  shadows : Tbl Nat
  /-- EVT_CTR_SEL. -/
  ctrSel : W32
  deriving DecidableEq, Repr

end Sys2Proof.Machine
end

