-- ==== Sys2Proof/Machine/Parts/Cfl.lean ====
section
/-! DEFINITION. The state of the configuration flash (chapter 16). -/

namespace Sys2Proof.Machine

/-- A protection row (R485): sequence number, protection bits, what stands for their complements, passwords by group. -/
structure ProtRow where
  seq       : Nat
  bits      : Nat
  bitsN     : Nat
  passwords : List W64
  deriving DecidableEq, Repr

/-- An operation that a whole sequence asks for (R470). Pages, sectors and groups are local to the bank. -/
inductive CflOp where
  | program (page : Nat) (words : List (Nat × W64))
  | erase (sector : Nat)
  | contEnter (code : Nat)
  | contExit
  | prot (cmd group : Nat) (pw pw2 : W64)
  deriving DecidableEq, Repr

/-- The sequence in progress of a bank (R469 to R471): cycles received, command byte, and what its tail has brought. -/
structure CflSeq where
  cycles : Nat
  cmd    : Nat
  page   : Option Nat
  words  : List (Nat × W64)
  group  : Option Nat
  pw     : Option W64
  deriving DecidableEq, Repr

/-- A device operation (R474, R486). -/
inductive CflDev where
  /-- Programs these bytes at a window offset: the staged layout, or a Guest Book record. -/
  | record (at_ : Nat) (bytes : List Byte) (layout : Bool)
  /-- Erases the partner sector. -/
  | erase (sector : Nat)
  deriving DecidableEq, Repr

/-- A bank controller. -/
structure CflBank where
  seq       : CflSeq
  /-- An operation whose last cycle has arrived and that has not started; one that runs; a device operation that runs. -/
  host      : Option CflOp
  run       : Option CflOp
  dev       : Option CflDev
  /-- Pulses applied, and the count that the erase in progress will record. -/
  pulses    : Nat
  count     : Nat
  /-- CFL_BANK_STATUS. -/
  seqErr    : Bool
  protErr   : Bool
  progErr   : Bool
  eraseErr  : Bool
  pwErr     : Bool
  lockedErr : Bool
  contCode  : Nat
  lastCmd   : Nat
  /-- Pages in the prefetch buffer: first and number (R482). -/
  prefetch  : Option (Nat × Nat)
  deriving DecidableEq, Repr

/-- Where records of a kind go on: which of its two sectors, the next slot, the next sequence number (R486). -/
structure RecCursor where
  second : Bool
  next   : Nat
  seq    : Nat
  deriving DecidableEq, Repr

/-- The configuration flash. -/
structure Cfl where
  /-- The array, by window offset; what is not listed reads 0xFF. -/
  array : Mem
  /-- Marker areas by sector: 0 to 2,047, and the hidden protection sectors 2,048 + 2·bank + which (absent: log 29). -/
  marks : Tbl (BitVec 256)
  /-- Protection rows by hidden sector: 2·bank + which. -/
  rows : Tbl ProtRow
  /-- CFL_PROT_STATUS and CFL_LOCK_STATUS by group, and consecutive failures. -/
  prot : Nat
  locked : Nat
  fails : Tbl Nat
  banks : Tbl CflBank
  /-- CFL_SECTOR_SEL, and the `tclk` of its write (none: never). -/
  sel : Nat
  selAt : Option Nat
  failedErases : Nat
  /-- Sectors that have logged a slow erase since the last full reset with rails. -/
  slowLogged : List Nat
  counterRec : RecCursor
  layoutRec : RecCursor
  gbRec : RecCursor
  /-- A staged layout waits to be stored (R167). -/
  layoutDue : Bool
  /-- Loss records of R20 that wait for the pulses in progress. -/
  loss : List EvtRec
  deriving DecidableEq, Repr

end Sys2Proof.Machine
end

