-- ==== Sys2Proof/Machine/Parts/Ecc.lean ====
section
/-! DEFINITION. The state of data integrity (chapter 17). -/

namespace Sys2Proof.Machine

/-- EVT_ECC_n (R504). -/
structure EccCtr where
  corrected : Nat
  uncorrectable : Nat
  refetched : Nat
  deriving DecidableEq, Repr

/-- Cells of a stacked-memory word that no write changes: which, and the value they read as. -/
structure StuckCells where
  mask : W72
  value : W72
  deriving DecidableEq, Repr

/-- Data integrity: counters by unit index, stuck cells by word, the known stuck locations (R497), corrections of each
unit since its last check, the checks that have still to pass before its next CORRECTED_RATE event (R504), and retries of the reread in progress
by unit (R498). -/
structure Ecc where
  ctrs : Tbl EccCtr
  cells : Tbl StuckCells
  known : List Nat
  lastSecond : Tbl Nat
  rateLogged : Tbl Nat
  retries : Tbl Nat
  deriving DecidableEq, Repr

end Sys2Proof.Machine
end

