-- ==== Sys2Proof/Machine/Parts/Embed.lean ====
section
/-! DEFINITION. The state of the embedding service (chapter 08). -/

namespace Sys2Proof.Machine

/-- A document of an EMBED_SUBMIT: what its list entry gives (R237), or its sequence context (R239). -/
structure EmbedDoc where
  /-- Task register of its command, and its place in the list. -/
  tr : Nat
  index : Nat
  key : W64
  srcAddr : Nat
  tokenCount : Nat
  srcNs : Nat
  srcKind : Nat
  /-- The rest is its context's state. -/
  tokensDone : Nat
  windowsDone : Nat
  staged : Bool
  fail : Nat
  admitSeq : Nat
  /-- State 0b10: it runs in a slot of the batch. -/
  running : Bool
  /-- A staging read of it is in flight (R243). -/
  reading : Bool
  deriving DecidableEq, Repr

/-- An EMBED_SUBMIT that has passed the checks of R237. -/
structure EmbedCmd where
  docs : List EmbedDoc
  outAddr : Nat
  hostFmt : Nat
  hostSketch : Bool
  insert : Bool
  /-- Documents that have not left, those that left with SUCCESS, and the lowest-indexed failure with its status. -/
  left : Nat
  good : Nat
  bad : Option (Nat × Nat)
  deriving DecidableEq, Repr

/-- Fields of the model table (R235). -/
structure ModelTable where
  batchBuffer : Nat
  embedTable : Nat
  vocab : Nat
  padId : Nat
  rowUnits : Nat
  outDim : Nat
  sketchSel : Nat
  boundaryLr : Nat
  deriving DecidableEq, Repr

/-- A slot of the batch: context, tokens of the window, and whether it is the last (R245). -/
structure BatchSlot where
  ctx : Nat
  tokens : Nat
  last : Bool
  deriving DecidableEq, Repr

/-- Where the boundary procedure is (R247). -/
inductive Boundary where
  /-- No boundary. -/
  | none
  /-- The job is held at the boundary Waypoint and the procedure has not begun. -/
  | due
  /-- The document in a slot waits for space in Ralid's insert staging (R253). -/
  | waits (slot : Nat)
  /-- Its transfers run. -/
  | running
  deriving DecidableEq, Repr

/-- RNG_EMB_STATS as latched, less seq (R257). -/
structure EmbStats where
  stepUs : Nat
  inUse : Nat
  joined : Nat
  left : Nat
  failed : Nat
  validSlots : Nat
  unstaged : Nat
  queueCmds : Nat
  headWait : Nat
  tokens : Nat
  insertWaitUs : Nat
  boundaryUs : Nat
  deriving DecidableEq, Repr

/-- The embedding service. -/
structure Embed where
  /-- Reservation entry of the bound job, and its model table. -/
  bound : Option Nat
  model : ModelTable
  /-- Task register of the EMBED_UNBIND in progress. -/
  unbindTr : Option Nat
  /-- Task registers in the admission queue, and every command not complete. -/
  queue : List Nat
  cmds : Tbl EmbedCmd
  /-- Contexts in use, by index. -/
  ctxs : Tbl EmbedDoc
  admitSeq : Nat
  /-- Valid slots of the batch table. -/
  slots : Tbl BatchSlot
  boundary : Boundary
  /-- RNG_EMB_STATS: sequence, latched values, and those of the boundary in progress. -/
  seq : Nat
  stats : EmbStats
  work : EmbStats
  /-- `tclk` at the end of the previous boundary, and at which the wait for Ralid began. -/
  lastEnd : Nat
  waitFrom : Nat
  headWait : Nat
  deriving DecidableEq, Repr

end Sys2Proof.Machine
end

