-- ==== Sys2Proof/Machine/Parts/Fabric.lean ====
section
/-! DEFINITION. The state of the Kyober fabric (chapter 10). -/

namespace Sys2Proof.Machine

/-- One virtual channel of a transmitter: queued parcels, what is left of the parcel being sent, credits held, and
credits owed to the peer (R309). -/
structure TxChannel where
  queue   : List Parcel
  rest    : List W64
  credits : Nat
  owed    : Nat
  deriving DecidableEq, Repr

/-- A data flit kept for replay (R308). -/
structure SentFlit where
  seq   : Nat
  words : List W72
  deriving DecidableEq, Repr

/-- One port (R301 to R309). -/
structure Port where
  /-- KYB_PORT_CTRL. -/
  enable   : Bool
  maxLanes : Nat
  /-- KYB_PORT_STATUS: state code, lanes, quads, peer, attempts. -/
  state    : Nat
  lanes    : Nat
  quads    : Nat
  peerValid : Bool
  peerDev  : Nat
  peerPort : Nat
  attempts : Nat
  /-- Quads that ALIGN or the fast retrain found healthy. -/
  healthy  : Nat
  /-- A failure since enable, or since it was last UP, has been logged (R301). -/
  failLogged : Bool
  /-- It waits in state 6 with its lasers off until its engine has cooled (R304). -/
  laserWait : Bool
  /-- Next sequence number to send, flits not acknowledged, oldest first, and replays in a row of the oldest. -/
  txSeq    : Nat
  replay   : List SentFlit
  replays  : Nat
  /-- The last flit that went out on the lanes. -/
  lastSent : List W72
  /-- Next number expected, whether it waits for a replay, flits accepted since the last acknowledgement. -/
  rxSeq    : Nat
  rxWait   : Bool
  rxSince  : Nat
  /-- Words received of the parcel in assembly, by channel, and whole parcels for this device, oldest first. -/
  asmReq   : List W64
  asmRsp   : List W64
  asmRed   : List W64
  inbox    : List Parcel
  txReq    : TxChannel
  txRsp    : TxChannel
  txRed    : TxChannel
  deriving DecidableEq, Repr

/-- What a request of this device belongs to. -/
inductive ReqFor where
  /-- A Porter slot of a tile: inbound or not, its number; the byte of tile memory that GET data fills, or that the
  payload came from. -/
  | slot (tile : Nat) (inbound : Bool) (entry at_ : Nat)
  /-- A send entry of a job's exchange (R226). -/
  | exchange (entry : Nat)
  /-- A segment of a reduction: context and reduce_id. -/
  | reduce (key : Nat)
  /-- A segment of a query message to a shard. -/
  | query (query : Nat) (shard : Nat)
  deriving DecidableEq, Repr

/-- A request of this device without its response (R321, R324). -/
structure FabReq where
  parcel  : Parcel
  for_    : ReqFor
  resends : Nat
  deriving DecidableEq, Repr

/-- A contribution to a segment of a reduction (R327, R329). -/
structure Contribution where
  src     : Nat
  root    : Nat
  fmt     : Nat
  segment : Nat
  payload : List W64
  deriving DecidableEq, Repr

/-- This device's own slot, or barrier, of a reduction. -/
structure Reduction where
  ctx  : Nat
  rid  : Nat
  root : Nat
  fmt  : Nat
  /-- Bytes contributed, by this device, and where the result goes; none for a barrier. -/
  data : List Byte
  dest : Option Nat
  /-- Tile of the POUT slot; for a barrier, the reservation entry of its job. -/
  owner : Nat
  barrier : Bool
  /-- Segments combined, and segments whose result has been written. -/
  combined : List Nat
  written  : List Nat
  deriving DecidableEq, Repr

/-- The fabric. -/
structure Fabric where
  ports   : Tbl Port
  id      : Nat
  refused : Bool
  hopLimit : Nat
  timeoutUs : Nat
  /-- Route entries by destination (absent: zero). -/
  routes  : Tbl W64
  /-- Requests outstanding by tag, and the next tag. -/
  reqs    : Tbl FabReq
  tagNext : Nat
  /-- Reductions by context × 4,096 + reduce_id, and contributions held, oldest first. -/
  reductions : Tbl Reduction
  held    : Tbl (List Contribution)
  /-- `tclk` of the last KYB_HOP_LIMIT event (R315). -/
  hopLogged : Option Nat
  deriving DecidableEq, Repr

end Sys2Proof.Machine
end

