-- ==== Sys2Proof/Machine/Parts/Ralid.lean ====
section
/-! DEFINITION. The state of Ralid, the vector search (chapter 09). -/

namespace Sys2Proof.Machine

/-- An epoch value with the complement it carries (R276, R298). -/
structure Epoch where
  v : Nat
  n : Nat
  deriving DecidableEq, Repr

/-- What ATTACH fixes (R258, R292). -/
structure RalIndex where
  capacity  : Nat
  dims      : Nat
  sketchSel : Nat
  metric    : Bool
  /-- Number of the vector namespace, 1 to 32. -/
  vecNs     : Nat
  entry     : Nat
  /-- Node IDs from here on are free, and the freed ones below (the free bitmap). -/
  top       : Nat
  freed     : List Nat
  /-- Nodes whose dead bit is set. -/
  dead      : List Nat
  deriving DecidableEq, Repr

/-- A candidate of a walk (R265), with the header as the walker read it. -/
structure Candidate where
  node     : Nat
  dist     : Nat
  birth    : Nat
  death    : Nat
  tomb     : Bool
  expanded : Bool
  deriving DecidableEq, Repr

/-- A candidate's re-rank read (R269). -/
inductive RankState where
  /-- Not yet returned; `queued`: its Cellar request has found room. -/
  | reading (queued : Bool)
  | onTime (distance : Nat)
  | late
  | failed
  deriving DecidableEq, Repr

/-- A member of the re-rank set, in queue order (R266). -/
structure RankEntry where
  node : Nat
  dist : Nat
  st   : RankState
  deriving DecidableEq, Repr

/-- A result entry (Table: Result entry). -/
structure Hit where
  key    : Nat
  value  : Nat
  late   : Bool
  node   : Nat
  device : Nat
  sketch : Nat
  deriving DecidableEq, Repr

/-- What a shard answers: status, counts and its list (R275, R330). -/
structure ShardList where
  device : Nat
  status : Nat
  late   : Nat
  failed : Nat
  limit  : Bool
  hits   : List Hit
  deriving DecidableEq, Repr

/-- Where a query is. -/
inductive QueryStage where
  /-- It waits for a walker slot. -/
  | waiting
  /-- A remote query that waits for the PUBLISH of its epoch (R295). -/
  | held
  | walking
  /-- Its re-rank reads are out. -/
  | ranking
  /-- Its own list is known; it waits for other shards. -/
  | merging
  deriving DecidableEq, Repr

/-- Who asked: a command of the host, or a coordinating device with its query ID. -/
inductive QueryFrom where
  | host (tr : Nat)
  | shard (device id : Nat)
  deriving DecidableEq, Repr

/-- A query that has passed its checks (R265 to R275). -/
structure Query where
  origin  : QueryFrom
  stage   : QueryStage
  walker  : Option Nat
  k       : Nat
  rerank  : Nat
  l       : Nat
  maxExp  : Nat
  /-- Epoch asked for; none: the current one at admission. Pinned once admitted. -/
  epoch   : Option Nat
  /-- FP32 patterns of the query vector, and its sketch as a number. -/
  vec     : List Nat
  sketch  : Nat
  resAddr : Nat
  fanout  : Bool
  /-- `tclk` at which its deadline began to run, and its length in µs (R268). -/
  since   : Nat
  budget  : Nat
  queue   : List Candidate
  expansions : Nat
  limit   : Bool
  ranks   : List RankEntry
  /-- The read deadline has passed. -/
  readsOver : Bool
  /-- Shards that have not answered, lists that have arrived, and counts of missing and refusing shards. -/
  expect  : List Nat
  lists   : List ShardList
  missing : Nat
  refused : Nat
  /-- Segments of RESULT messages: device, segment, segments in the message, payload. -/
  parts   : List (Nat × Nat × Nat × List W64)
  deriving DecidableEq, Repr

/-- An insert in progress (R280): its task register (none: from the embedding service), node, birth, and what is still to be
written. -/
structure Insert where
  tr     : Option Nat
  birth  : Nat
  near   : List Nat
  /-- Vector bytes that have not yet found a place in the write buffer. -/
  vector : List Byte
  deriving DecidableEq, Repr

/-- An entry of the edit log (R280, R288): a repair (x, d, y), or a reverse edge (x, y). -/
inductive LogEntry where
  | repair (x d : Nat) (y : Option Nat)
  | reverse (x y : Nat)
  deriving DecidableEq, Repr

/-- A PUBLISH in progress (R286). -/
structure Publish where
  tr      : Nat
  epoch   : Nat
  floor   : Nat
  compact : Bool
  /-- Keys staged before it was fetched. -/
  keys    : List Nat
  /-- The inserts of its epoch have completed, and it holds admissions until older queries have ended. -/
  holds   : Bool
  deriving DecidableEq, Repr

/-- An ATTACH in progress: its task register, the image header, and the Ledger index of the image. -/
structure Attach where
  tr     : Nat
  header : Nat
  base   : Nat
  deriving DecidableEq, Repr

/-- Ralid. -/
structure Ralid where
  index   : Option RalIndex
  current : Epoch
  open_   : Epoch
  floor   : Epoch
  queries : Tbl Query
  nextQuery : Nat
  /-- Segments of QUERY messages not yet whole: device, query ID, segment, segments, payload. -/
  parts   : List (Nat × Nat × Nat × Nat × List W64)
  /-- Inserts in progress by node. -/
  inserts : Tbl Insert
  staged  : List Nat
  publish : Option Publish
  attach  : Option Attach
  detach  : Option Nat
  /-- The edit log, the D of the pass in progress, and what the last completed pass covers. -/
  log     : List LogEntry
  pass    : Option (List Nat)
  covered : Option (List Nat)
  logFull : Bool
  edgesDropped : Nat
  /-- The shard table in force, and the registers RAL_LOG, RAL_PARAM, RAL_SHARDS. -/
  shards  : List Nat
  logReg  : W64
  paramReg : W64
  shardsReg : W64
  deriving DecidableEq, Repr

end Sys2Proof.Machine
end

