-- ==== Sys2Proof/Machine/Parts/Sec.lean ====
section
/-! DEFINITION. The state of security and attestation (chapter 18). -/

namespace Sys2Proof.Machine

/-- A customer key slot (R505, R506). -/
structure KeySlot where
  valid   : Bool
  revoked : Bool
  spent   : Bool
  digest  : BitVec 512
  deriving DecidableEq, Repr

/-- What a fuse write in progress sets when its last word is written (R506, R511, R512). -/
inductive FuseWrite where
  | enroll (slot : Nat) (digest : BitVec 512)
  | revoke (slot : Nat)
  | policy (requireSigned debugDisable : Bool)
  | svn (min : Nat)
  deriving DecidableEq, Repr

/-- A security command whose fuses are being written: task register, what it sets, words still to write. -/
structure FuseOp where
  tr    : Nat
  write : FuseWrite
  words : Nat
  deriving DecidableEq, Repr

/-- An SPDM connection (R516 to R518): how far negotiation is, the transcript, a session, and the rest of a long
response. -/
structure Spdm where
  version   : Bool
  caps      : Bool
  algs      : Bool
  session   : Bool
  transcript : List Byte
  chunks    : List Byte
  chunkSeq  : Nat
  deriving DecidableEq, Repr

/-- Security: fuses (slots, policy, minimum version), the running image, the authorisation nonce, the debug connector. -/
structure Sec where
  slots         : Tbl KeySlot
  requireSigned : Bool
  debugDisable  : Bool
  svnMin        : Nat
  svnRunning    : Nat
  measurement   : BitVec 512
  /-- The last nonce, unless consumed, and the `tclk` of its issue (R511). -/
  nonce         : Option (BitVec 512)
  nonceAt       : Nat
  authFails     : Nat
  debugUnlocked : Bool
  /-- key_class that unlocked the connector last (R518). -/
  unlockClass   : Nat
  fuse          : Option FuseOp
  spdm          : Spdm
  deriving DecidableEq, Repr

end Sys2Proof.Machine
end

