-- ==== Sys2Proof/Machine/Parts/Store.lean ====
section
/-! DEFINITION. The state of the flash media and the Ledger (chapter 11) and of the storage commands (chapter 14). -/

namespace Sys2Proof.Machine

/-- A namespace (R424 to R428). Key: its number, 1 to 32. -/
structure Namespace where
  /-- Size in blocks of 4 KiB, pool, and first Ledger index. -/
  blocks : Nat
  pool : Nat
  base : Nat
  deriving DecidableEq, Repr

/-- A Ledger entry (R337). An index with no entry is unmapped. -/
inductive LedgerEntry where
  | unmapped
  | flash (sb offset : Nat)
  | buffer (slot : Nat)
  deriving DecidableEq, Repr

/-- A write-buffer slot (R342, R433). Its 16 KiB lie in the write-buffer area of stacked memory. -/
structure BufSlot where
  ledgerIndex : Nat
  writeSeq : Nat
  pool : Nat
  mask : Nat
  prev : LedgerEntry
  /-- Its programming has started: it holds a place in a row. -/
  started : Bool
  /-- Blocks outside the mask that its merge has lost (R342). -/
  lost : Nat
  deriving DecidableEq, Repr

/-- A unit on the media (R335): metadata and data; a pad unit has no Ledger index. -/
structure MediaUnit where
  writeSeq : Nat
  ledgerIndex : Option Nat
  pool : Nat
  /-- A trim record: the Ledger indices that it lists. -/
  trim : Option (List Nat)
  data : Mem
  deriving DecidableEq, Repr

/-- Table: Superblock states. -/
inductive SbState where
  | free | erased | open_ | closed | collecting | retired
  deriving DecidableEq, Repr

/-- Write streams (Table: Write streams). -/
inductive Stream where
  | buffer
  | host (pool : Nat)
  | fold (pool : Nat)
  | reloc (pool : Nat)
  | system
  deriving DecidableEq, Repr

/-- Where a unit of a row that is being filled comes from. -/
inductive RowSource where
  | slot (n : Nat)
  | copy (sb offset : Nat)
  | trimRec
  | pad
  deriving DecidableEq, Repr

/-- A place of a row: offset, content and source. -/
structure RowUnit where
  offset : Nat
  unit : MediaUnit
  source : RowSource
  deriving DecidableEq, Repr

/-- A superblock (R347). -/
structure Superblock where
  state : SbState
  /-- state_n does not match: the entry is corrupt (R349). -/
  corrupt : Bool
  pool : Nat
  slc : Bool
  badMap : Nat
  erases : Nat
  progMinute : Nat
  progTemp : Int
  readCount : Nat
  retryMax : Nat
  closeSeq : Nat
  eraseDur : Nat
  progDur : Nat
  /-- While open: its stream, the next offset, and the units that wait to be programmed. -/
  stream : Option Stream
  next : Nat
  row : List RowUnit
  /-- Units copied into it and not yet switched: own offset, source superblock, source offset (R344). -/
  copies : List (Nat × Nat × Nat)
  /-- What holds back its erase (R345): destinations not closed, and Ledger segments not written. -/
  heldBy : List Nat
  segs : List Nat
  /-- Erase in progress. -/
  erasing : Bool
  /-- Due for refresh, and the minute of the last wear event of each kind (R365). -/
  due : Bool
  wearLogged : Tbl Nat
  deriving DecidableEq, Repr

/-- Who waits for units to become durable, or for reads (R432, R433, R435). -/
structure StoreOp where
  tr : Nat
  opcode : Nat
  ns : Nat
  slba : Nat
  nlb : Nat
  fua : Bool
  /-- Data of a WRITE as read from the host. -/
  data : List Byte
  /-- It has started (its lock entry has no earlier conflict, and its slots were free). -/
  started : Bool
  waitsSlots : Bool
  /-- Unit reads not yet answered. -/
  reads : Nat
  /-- Failing blocks: lowest address, count, and whether one was lost in the media (R432). -/
  failLow : Option Nat
  failCount : Nat
  lost : Bool
  busErr : Bool
  /-- Write-buffer slots and trim records that must become durable first. -/
  slots : List Nat
  trims : List Nat
  deriving DecidableEq, Repr

/-- Who holds a range-lock entry (R438). -/
inductive LockHolder where
  | command (tr : Nat)
  | cellar (tile : Nat) (inbound : Bool)
  deriving DecidableEq, Repr

/-- A range-lock entry. -/
structure RangeLock where
  holder : LockHolder
  ns : Nat
  first : Nat
  last : Nat
  writes : Bool
  deriving DecidableEq, Repr

/-- Registers of a pool (LDG_POOL_1 to LDG_POOL_3). -/
structure PoolReg where
  slc : Bool
  refreshEn : Bool
  readLimit : Nat
  ageDays : Nat
  deriving DecidableEq, Repr

/-- Flash media, Ledger and storage commands. -/
structure Flash where
  /-- Persistent: the media, the retired blocks and wear with each superblock, the Ledger segments and the root in
  SYSTEM, the checkpoint of the superblock table, the device clock and the write sequence. -/
  media : Tbl MediaUnit
  segments : Tbl LedgerEntry
  segSeq : Tbl Nat
  checkpoint : Tbl Superblock
  clockSaved : Nat
  slcSaved : Tbl Bool
  failedDies : List Nat
  dieTimeouts : Tbl Nat
  writeSeq : Nat
  closeCount : Nat
  /-- Volatile: the Ledger, the superblock table (absent: erased, never used), the write buffer. -/
  ledger : Tbl LedgerEntry
  sbs : Tbl Superblock
  slots : Tbl BufSlot
  /-- Dirty Ledger segments. -/
  dirty : List Nat
  /-- Trim records entered and not durable: write sequence number and indices. -/
  trims : Tbl (List Nat)
  /-- Next place of each stream's round, by stream code. -/
  rounds : Tbl Nat
  minute : Nat
  pools : Tbl PoolReg
  gcStart : Nat
  gcUrgent : Nat
  refreshDepth : Nat
  bufferMax : Nat
  foldStart : Nat
  refused : Bool
  spareLow : Bool
  urgent : Bool
  scanning : Bool
  thrDefault : Bool
  wearLimitLogged : Bool
  /-- Storage commands in progress, by task register, and the range locks, earliest first. -/
  ops : Tbl StoreOp
  locks : Tbl RangeLock
  lockNext : Nat
  /-- Superblocks due for refresh, in order. -/
  dueList : List Nat
  deriving DecidableEq, Repr

end Sys2Proof.Machine
end

