-- ==== Sys2Proof/Machine/Parts/Tensor.lean ====
section
/-! DEFINITION. The state of the tensor complex (chapters 02 to 05), of the memory tiers (chapter 06) and of the jobs
(chapter 07). -/

namespace Sys2Proof.Machine

/-- An entry of an engine queue (R152 to R154): the slot after indexing, its word, and how far it is. -/
structure QEntry where
  slot : BitVec 128
  /-- Number that the tile gave it when it was taken; its requests carry it. -/
  id : Nat
  /-- Byte address of the word, and its header. -/
  word : Nat
  hdr : W64
  /-- Word tracker (R153), if the word has one that is not yet freed. -/
  tracker : Option Nat
  /-- Predicated off (R152). -/
  null : Bool
  /-- The word's waits have resolved (R154). -/
  resolved : Bool
  /-- Delivered-cycle count at which it began to wait (R162). -/
  waitFrom : Option Nat
  /-- Its work is done and its completion is due. -/
  done : Bool
  /-- What is outstanding of a transfer in flight: requests or units not yet answered (R181, R317); units requested so
  far (R184); range-lock entry (R438). -/
  left : Nat
  next : Nat
  lock : Option Nat
  deriving DecidableEq, Repr

/-- A word tracker (R153). -/
structure Tracker where
  hdr : W64
  /-- The waits are unresolved. -/
  waits : Bool
  /-- Engine entries of the word that have not completed. -/
  out : Nat
  deriving DecidableEq, Repr

/-- The state of an active loop (R146 to R149). -/
structure LoopState where
  ctr      : Nat
  count    : Nat
  index    : Nat
  start    : Nat
  stop     : Nat
  stride0  : Int
  stride1  : Int
  stride2  : Int
  stride3  : Int
  extShift : Nat
  deriving DecidableEq, Repr

/-- A comparator definition (R143). -/
structure CmpDef where
  ctr : Nat
  src : Bool
  rel : Nat
  const : Nat
  deriving DecidableEq, Repr

/-- What a drain is for (R144, R159). -/
inductive DrainKind where
  | fence | step | phase | ending
  | waypoint (lr : Nat)
  deriving DecidableEq, Repr

/-- What holds the dispatcher. -/
inductive Hold where
  | none
  /-- Blocked on the waits of a word without engine slots (R156). -/
  | headerWait
  | drain (k : DrainKind)
  | barrierStep
  | barrierWaypoint (lr : Nat)
  | ended
  deriving DecidableEq, Repr

/-- The word whose SYNC or LOOP slot has not been executed yet. -/
structure CurWord where
  addr : Nat
  units : Nat
  hdr : W64
  sync : Option (BitVec 128)
  loop : Option (BitVec 128)
  hasEngine : Bool
  /-- Body end to move to when its loop was skipped (R147). -/
  skipTo : Option Nat
  /-- Its header waits have resolved (R156). -/
  waited : Bool
  deriving DecidableEq, Repr

/-- The correction pass of a grid instruction (R91 to R93). -/
inductive CorrStage where
  | absent | due | running | ended
  deriving DecidableEq, Repr

/-- A grid instruction that the grid has taken (R85 to R94). -/
structure GridJob where
  entry : QEntry
  /-- Staging buffer, instruction number mod 2 (R89). -/
  buf : Nat
  /-- The parameter record as read when the instruction issued. -/
  param : BitVec 512
  streaming : Bool
  /-- Accumulators of the valid rows and columns, FP32 or INT32 patterns. -/
  acc : List (List W32)
  /-- Rows delivered to staging (R85), of `rows` in all. -/
  rows : Nat
  delivered : Nat
  corr : CorrStage
  /-- The correction C of each valid element, and the flags that its terms raise (R60). -/
  cvals : List (List W32)
  cflags : Nat
  /-- Rows that have entered the epilogue (R89). -/
  entered : Nat
  deriving DecidableEq, Repr

/-- The stationary operand that the grid holds (R82, R87). -/
structure Stationary where
  fmt : Nat
  mxe : Bool
  nValid : Nat
  /-- Lines of element codes, their scale bytes, and their side lists (blocks of four bytes). -/
  elems : List (List Nat)
  scales : List (List Nat)
  sides : List (List (List Byte))
  deriving DecidableEq, Repr

/-- The quantisation counter bank of a tile (R118 to R120). FP64 patterns for the sums. -/
structure QBank where
  epiSse : W64
  epiSsr : W64
  vecSse : W64
  vecSsr : W64
  epiElems : Nat
  vecElems : Nat
  sat : Nat
  esc : Nat
  nonfinite : Nat
  accSat : Nat
  deriving DecidableEq, Repr

/-- One tensor tile (R73). -/
structure Tile where
  mem : Mem
  /-- Flag values (absent: 0), increments of the present cycle, and FLAGINITs of the present cycle (R145, R155). -/
  flags : Tbl Nat
  incs : Tbl Nat
  inits : Tbl Nat
  ctrs : Tbl Nat
  /-- Active loops, innermost first. -/
  loops : List LoopState
  cmps : Tbl CmpDef
  /-- Read pointer, Itinerary range, fetch buffer (R127 to R130). -/
  rp : Nat
  rangeLo : Nat
  rangeHi : Nat
  buf : Tbl W64
  trackers : Tbl Tracker
  qArr : List QEntry
  qVec : List QEntry
  qPin : List QEntry
  qPout : List QEntry
  /-- Entries taken from the queues and not completed: the ARR entry not yet issued, issued grid instructions oldest
  first, the vector operation, and the transfers of the two Porters oldest first. -/
  arr : Option QEntry
  grids : List GridJob
  vec : Option QEntry
  pin : List QEntry
  pout : List QEntry
  /-- Grid instructions issued in the job (R89), the stationary registers, and the latest grid instruction for keep
  (flow, fmt, b_mxe) since job start, phase start or Waypoint (R82). -/
  gridCount : Nat
  stat : Option Stationary
  lastGrid : Option (Bool × Nat × Bool)
  cur : Option CurWord
  hold : Hold
  /-- Word, op and sig_flag of what holds the dispatcher, and the delivered-cycle count since when. -/
  holdWord : Nat
  holdHdr : W64
  holdOp : Nat
  holdSig : Option Nat
  holdFrom : Nat
  /-- The Waypoint of the word at the read pointer has been passed (R159). -/
  wpPassed : Bool
  /-- It has dispatched PHASE or END in the present phase, and the next phase that a PHASE slot named (R144). -/
  left : Bool
  nextPhase : Option Nat
  /-- IEEE sticky flags (R43): invalid, div_by_zero, overflow, underflow, inexact at bits 4 to 0. -/
  ieee : BitVec 5
  /-- Delivered-cycle count at the last Waypoint (R215). -/
  gapFrom : Nat
  /-- Number of the next entry taken (the model's own field). -/
  entryNext : Nat
  deriving DecidableEq, Repr

/-- The state of a tile that a save keeps (R160). -/
structure TileSave where
  flags : Tbl Nat
  ctrs : Tbl Nat
  loops : List LoopState
  cmps : Tbl CmpDef
  rp : Nat
  left : Bool
  nextPhase : Option Nat
  deriving DecidableEq, Repr

/-- A FLAG_TILE increment on its way (R140): due cycle, issuing tile, target, flag, amount. -/
structure Landing where
  due : Nat
  src : Nat
  tile : Nat
  flag : Nat
  n : Nat
  deriving DecidableEq, Repr

/-- A Caravan group in force (Table: Caravan group entry), and its matching state (R175). -/
structure Caravan where
  leader : Nat
  members : BitVec 128
  /-- A delivery is under way: word and range of the leader's LOAD. -/
  running : Bool
  deriving DecidableEq, Repr

/-- A region-mode entry (Table: Region-mode entry): read-only or write-only pages. -/
structure Region where
  writeOnly : Bool
  base : Nat
  pages : Nat
  deriving DecidableEq, Repr

/-- What the load of the next step set has found (R189). -/
inductive NextSet where
  /-- Still loading. -/
  | loading
  | ready (set : List Region) (idx : Nat) (left : Nat)
  /-- An invalid set or the end of the list: a fault at the boundary. -/
  | bad
  /-- A word of it is unrecoverable (R499). -/
  | lost
  deriving DecidableEq, Repr

/-- The region-mode table of the owner (R189). -/
structure RegionTable where
  active : List Region
  /-- Index in the step-set list of the set in force, and steps under it still to run counting the step in force
  (0: repeat 0). -/
  idx : Nat
  left : Nat
  next : NextSet
  /-- The boundary has been reached and waits for the next set or for the sweep of R384. -/
  waits : Bool
  deriving DecidableEq, Repr

/-- Why and how a job stopped (R163, R164). -/
structure StopRec where
  cause : Nat
  status : Nat
  firstTile : Nat
  outsideWait : Bool
  firstKind : Nat
  expired : Nat
  faultWord : Nat
  faultSlot : Nat
  dropped : Nat
  /-- `tclk` of the stop cycle. -/
  cycle : Nat
  /-- Delivered-cycle count of the stop cycle. -/
  at_ : Nat
  deriving DecidableEq, Repr

/-- Table: Job states. ENDED jobs are remembered apart (R537). -/
inductive JobState where
  | ready | running | saving | restoring | waiting | parked | idle | suspended | exchanging
  deriving DecidableEq, Repr

/-- Stages of an exchange (R226). -/
inductive XStage where
  | barrier1 | sending | barrier2
  deriving DecidableEq, Repr

/-- An exchange in progress (R226): destination ranges, bytes landed, parcels not yet acknowledged. -/
structure Exchange where
  stage : XStage
  inRanges : List (Nat × Nat)
  inBytes : Nat
  landed : Nat
  outstanding : Nat
  /-- The phase that follows, and the last step set of the ending phase (R218). -/
  next : Nat
  kept : List Region
  deriving DecidableEq, Repr

/-- A FLAG_SET (R141): tile, flag, amount. -/
structure FlagSetOp where
  tile : Nat
  flag : Nat
  n : Nat
  deriving DecidableEq, Repr

/-- How a pending leave of the owner ends (R214). -/
inductive LeaveKind where
  | preempt | yielded | suspend | drain | d3hot
  deriving DecidableEq, Repr

/-- An admitted job (chapter 07). -/
structure Job where
  tag : Nat
  desc : BitVec 1024
  /-- CQ of its job-end record, and SQ, tag and opcode of the admitting command (R404). -/
  cq : Nat
  sq : Nat
  cmdTag : Nat
  opcode : Nat
  state : JobState
  phase : Nat
  /-- It holds Waypoint state in its present phase, and that state's Waypoint and step-set place (R213). -/
  hasWp : Bool
  lr : Nat
  stepIdx : Nat
  stepLeft : Nat
  workPending : Bool
  urgent : Bool
  urgentOrder : Nat
  /-- Order number of its becoming eligible: the lower has waited longer (R208). -/
  waitOrder : Nat
  sliceOver : Bool
  leave : Option LeaveKind
  yieldDecided : Bool
  suspendTrs : List Nat
  suspendPending : Bool
  abortTrs : List Nat
  abortPending : Bool
  /-- The device is draining and the job has to end with PREEMPTED (R228). -/
  drainPending : Bool
  window : Option Nat
  mapped : Bool
  heldFlags : List FlagSetOp
  /-- Flag image of FLAG_SETs landed after a phase end, by tile·64 + flag (R218). -/
  flagImage : Tbl Nat
  /-- Signed ranges of its library: kind, base, length in bytes (R513). -/
  signed : List (Nat × Nat × Nat)
  signedLogged : Bool
  exchange : Option Exchange
  stop : Option StopRec
  /-- The last step sets in force when it left, for parcels (R188). -/
  lastSet : List Region
  /-- Job status block (R231). -/
  ieee : BitVec 5
  cycles : Nat
  startAt : Nat
  leaves : Nat
  promotions : Nat
  lateCount : Nat
  longestGap : Nat
  longGaps : Nat
  flagsSaved : Nat
  refused : Nat
  stepLoad : Nat
  stallPriority : Nat
  stallBusy : Nat
  stallRetry : Nat
  stallQueue : Nat
  /-- The device at rank 0 of the mapping of its present phase (R222, R325). -/
  root : Nat
  /-- Order of admission: parcels go to the job admitted first (R319). -/
  admitOrder : Nat
  deriving DecidableEq, Repr

/-- A job that has ended and is remembered (R537). -/
structure Ended where
  tag : Nat
  status : Nat
  phase : Nat
  deriving DecidableEq, Repr

/-- Progress of a switch of owner (R216). -/
inductive SwitchStage where
  | none | saving | clearing | loading | restoring
  deriving DecidableEq, Repr

/-- The tensor complex and its jobs. -/
structure Tensor where
  /-- Absent tile: cleared state. -/
  tiles : Tbl Tile
  /-- Quantisation banks and shadows with job_tag by tile (absent: zero), control and sequence (R118 to R126). -/
  qbanks : Tbl QBank
  qshadows : Tbl (QBank × Nat)
  qctrl : W32
  qctrlInUse : W32
  qseq : Nat
  qsatLast : Option Nat
  qsatSuppressed : Nat
  /-- Delivered TCLK cycles (R28). -/
  delivered : Nat
  landings : List Landing
  caravans : Tbl Caravan
  region : RegionTable
  jobs : Tbl Job
  owner : Option Nat
  /-- The job that a switch brings in, and the part of the switch in progress. -/
  incoming : Option Nat
  switch : SwitchStage
  /-- ITN_SCHED_STATUS.pending and late; the request is satisfied only at a Waypoint (R209). -/
  request : Bool
  late : Bool
  /-- The owner is held at a Waypoint by throttle step 4 (R28). -/
  heldByStep4 : Bool
  remembered : List Ended
  /-- Tile-state blocks of save areas, by save-area address and tile (R213; layout of the block not given, log 8). -/
  saves : Tbl (Tbl TileSave)
  orderNext : Nat
  deriving DecidableEq, Repr

/-- What a unit request of a Cellar Porter is for (R179 to R185). -/
inductive CellarFor where
  /-- A tile's Porter entry: tile, inbound, its number, stacked-memory address of the unit, and whether durability is
  awaited. -/
  | slot (tile : Nat) (inbound : Bool) (entry addr : Nat) (fua : Bool)
  /-- A re-rank read of a query's candidate. -/
  | rerank (query node : Nat)
  /-- A read for a STORAGE command. -/
  | command (tr : Nat)
  deriving DecidableEq, Repr

/-- How the read of a unit ended: which of its codewords were lost, or an error of the die operation. -/
inductive CellarResult where
  | read (lost : Nat)
  | busError
  deriving DecidableEq, Repr

/-- A unit request queued at a Cellar Porter (R183). -/
structure CellarReq where
  porter : Nat
  cls : Nat
  /-- Ledger index, and where the Ledger placed the unit. -/
  index : Nat
  place : LedgerEntry
  for_ : CellarFor
  issued : Bool
  /-- It has been issued a second time after an error end (R452). -/
  again : Bool
  late : Bool
  result : Option CellarResult
  deriving DecidableEq, Repr

/-- The memory tiers (chapter 06) and the error state of stacked-memory words (chapter 17). -/
structure MemSide where
  stacked : Mem
  shared : Mem
  /-- Error patterns of stacked-memory words: key is the address divided by 8, value the flipped bits (R491). -/
  werr : Tbl W72
  /-- PTR_AREA_0..7 as staged, and as in force (R167). -/
  areasStaged : List W32
  areas : List W32
  /-- Slots of the standing entries 0 to 5, PTR_RESV_STATUS.refused, and the job entry now guaranteed (R196, R197). -/
  standing : List Nat
  resvRefused : Bool
  activeJob : Option Nat
  /-- The job entry that becomes active at the next frame start (R197); `some none`: none. -/
  nextActive : Option (Option Nat)
  /-- Cellar requests in order of arrival, by number; die operations issued per porter since class 4 and 5 were last
  served (R183). -/
  cellar : Tbl CellarReq
  cellarNext : Nat
  since4 : Tbl Nat
  since5 : Tbl Nat
  deriving DecidableEq, Repr

end Sys2Proof.Machine
end

