-- ==== Sys2Proof/Machine/State.lean ====
section
/-! DEFINITION. The whole state of the block, and the state right after reset. -/

namespace Sys2Proof.Machine

/-- The block's state: its parts, the clock, the queue of commands that wait, and the counter of free values. -/
structure State where
  /-- The commands that wait, first in, first out. -/
  pending : List Instr
  /-- TCLK cycles that have passed (model's clock; log 1). -/
  tclk : Nat
  /-- `tclk` at the last full reset: g = tclk - gZero (R28). -/
  gZero : Nat
  /-- Free values drawn so far (the model's own field; log 2). -/
  drawn : Nat
  power : Power
  boot : Boot
  host : HostSide
  rings : Rings
  evt : Evt
  tensor : Tensor
  mem : MemSide
  ecc : Ecc
  /-- Namespaces by number (R424). -/
  spaces : Tbl Namespace
  flash : Flash
  fabric : Fabric
  embed : Embed
  ralid : Ralid
  cfl : Cfl
  sec : Sec
  deriving DecidableEq, Repr

/-- Why the block stops: no reason exists. The spec lets no command of the table stop the block, so the type is empty and no
meaning answers with a fault (safe). -/
inductive Fault where
  deriving DecidableEq, Repr

/-- Why a command has no meaning. -/
inductive Refusal where
  /-- Raised by an arm of exec whose command is not modelled; safe: the model stops. -/
  | notModelled (mnemonic : String)
  deriving DecidableEq, Repr

/-- All rails present. -/
def Rails.allOn : Rails := { vbus := true, vcore := true, vsram := true, vaon := true, vddm := true, vnand := true, vopt := true }
/-- Only VSTBY present. -/
def Rails.allOff : Rails :=
  { vbus := false, vcore := false, vsram := false, vaon := false, vddm := false, vnand := false, vopt := false }

/-- Straps at reset: log 4. -/
def Straps.zero : Straps := { clkmode := 0, bootsel := 0, slotId := 0 }

/-- Supply and governor right after the release of power-on reset. -/
def Power.reset : Power :=
  { vinMv := 48000, seated := true, connected := true, pwrdis := false, perst := false, porAsserted := false,
    rails := Rails.allOn, pwrGood := true, inputLoss := false, lossWithTrip := false, smbusBusy := false, alert := false,
    led := false, strapPins := Straps.zero, straps := Straps.zero, powerReq := 0, fastHolds := false, overPrev := false,
    overCurrent := 0, winSum := 0, winCount := 0, lowWindows := 0, limitInForce := 0x640, pwrLimit := 0x640#32, step := 0,
    inputPowerW := 0, undervoltage := false, uvLogged := false, ovLogged := false, thermDie := 0, thermMem := 0,
    thermFlash := 0, temps := [], vinSample := 0, curSample := 0, opticsWarn := 0#16, lasersOff := 0#16, thermTrip := false,
    tripCool := false, tamperLow := false, tamperSticky := false }

/-- Bring-up at its start: the release of power-on reset has just happened (step 0 not yet complete). -/
def Boot.reset : Boot :=
  { dev := .bringUp, stage := 0, lastSource := 0, cause := 0, image := 0, fallback := false, refResonator := false,
    holdover := false, counter := 0, bringupMs := 0, linkBarred := false, stepFailed := false, stuckInStep1 := false,
    recoveryRunning := false, recoveryDone := false, waitHostImage := false, hostImage := [], hostImageTotal := 0,
    hostReset := false, hostResetLantern := false, deferred := [], railsAfter := false, blkKind := 0, blkIndex := 0,
    blkRefused := false, blk := none, watchdogAt := 0, cflBarred := false }

/-- Host attachment at reset. -/
def HostSide.reset : HostSide :=
  { linkUp := false, rate := 0, width := 0, cxl := false, latOpt := false, linkDowns := 0, replays := 0, accessErr := false,
    cacheEn := false, memEn := false, biEn := false, msixEn := false, funcMask := false, hdmError := false,
    hdmCommitted := false, hdmBase := 0, conflicts := 0, poisoned := false, snoop := [], biOut := [], sweep := [],
    conflictLogged := false, waiting := none, lines := [], reading := [], msix := [], pba := [], msgs := [], ideMem := false,
    ideIo := false, stopMem := false, stopIo := false, staged := [], d3hot := false, doe0 := none, doe1 := none,
    pstate := 0, psPhase := .steady, answer := .none, mem := [] }

/-- Rings at reset: none exists. -/
def Rings.reset : Rings :=
  { enable := false, refused := false, running := false, vectorReg := 0xFFF, depthReg := 0x3F, sqBase := 0, cqBase := 0,
    sqDb := 0, cqDb := 0, sqs := [], cqs := [], tasks := [], round := 0, heldRecs := [], drainTr := none, deleting := [],
    powerTr := none, powerWait := [] }

/-- Guest Book and counters at reset. -/
def Evt.reset : Evt :=
  { base := 0, enable := false, refused := false, running := false, headErr := false, vector := 0xFFF, depthM1 := 0x3FF,
    head := 0, tail := 0, phase := true, nextSeq := 0, lost := 0, copySkipped := 0, lostPending := 0, lostFirst := 0,
    buffer := [], credits := 256, copyQueue := [], timeZero := 0, wins := [], counters := [], shadows := [], ctrSel := 0#32 }

/-- A tile with everything cleared. -/
def Tile.fresh : Tile :=
  { mem := [], flags := [], incs := [], inits := [], ctrs := [], loops := [], cmps := [], rp := 0, rangeLo := 0,
    rangeHi := 0, buf := [], trackers := [], qArr := [], qVec := [], qPin := [], qPout := [], arr := none, grids := [],
    vec := none, pin := [], pout := [], gridCount := 0, stat := none, lastGrid := none, cur := none, hold := .none,
    holdWord := 0, holdHdr := 0#64, holdOp := 0, holdSig := none, holdFrom := 0, wpPassed := false, left := false,
    nextPhase := none, ieee := 0#5, gapFrom := 0, entryNext := 0 }

/-- A quantisation bank with all counters zero (R124). -/
def QBank.zero : QBank :=
  { epiSse := 0#64, epiSsr := 0#64, vecSse := 0#64, vecSsr := 0#64, epiElems := 0, vecElems := 0, sat := 0, esc := 0,
    nonfinite := 0, accSat := 0 }

/-- A region-mode table with nothing loaded. -/
def RegionTable.empty : RegionTable := { active := [], idx := 0, left := 0, next := .loading, waits := false }

/-- The tensor complex at reset: no job. -/
def Tensor.reset : Tensor :=
  { tiles := [], qbanks := [], qshadows := [], qctrl := 0x18000000#32, qctrlInUse := 0x18000000#32, qseq := 0,
    qsatLast := none, qsatSuppressed := 0, delivered := 0, landings := [], caravans := [], region := RegionTable.empty,
    jobs := [], owner := none, incoming := none, switch := .none, request := false, late := false, heldByStep4 := false,
    remembered := [], saves := [], orderNext := 0 }

/-- The default area layout (Table: Default area layout). -/
def defaultAreas : List W32 :=
  [0x70000000#32, 0x10000200#32, 0x20000200#32, 0x30000020#32, 0x40000080#32, 0x50000040#32, 0x6000000A#32, 0x00000000#32]

/-- The memory tiers at reset: nothing written, the default layout, the default standing entries. -/
def MemSide.reset : MemSide :=
  { stacked := [], shared := [], werr := [], areasStaged := defaultAreas, areas := defaultAreas,
    standing := [64, 24, 16, 8, 32, 4], resvRefused := false, activeJob := none, nextActive := none, cellar := [],
    cellarNext := 0, since4 := [], since5 := [] }

/-- Integrity counters at reset. -/
def Ecc.reset : Ecc := { ctrs := [], cells := [], known := [], lastSecond := [], rateLogged := [], retries := [] }

/-- The registers of pool `p` at reset (LDG_POOL_1 to LDG_POOL_3). -/
def PoolReg.reset (p : Nat) : PoolReg :=
  if p = 1 then { slc := true, refreshEn := true, readLimit := 100, ageDays := 365 }
  else { slc := false, refreshEn := false, readLimit := 4, ageDays := 90 }

/-- A superblock of a module that has never written it (log 17). -/
def Superblock.fresh : Superblock :=
  { state := .erased, corrupt := false, pool := 0, slc := false, badMap := 0, erases := 0, progMinute := 0, progTemp := 0,
    readCount := 0, retryMax := 0, closeSeq := 0, eraseDur := 0, progDur := 0, stream := none, next := 0, row := [],
    copies := [], heldBy := [], segs := [], erasing := false, due := false, wearLogged := [] }

/-- Flash media and Ledger of a module that has never written (log 17). -/
def Flash.reset : Flash :=
  { media := [], segments := [], segSeq := [], checkpoint := [], clockSaved := 0, slcSaved := [], failedDies := [],
    dieTimeouts := [], writeSeq := 0, closeCount := 0, ledger := [], sbs := [], slots := [], dirty := [], trims := [],
    rounds := [], minute := 0, pools := [(1, PoolReg.reset 1), (2, PoolReg.reset 2), (3, PoolReg.reset 3)], gcStart := 1024,
    gcUrgent := 256, refreshDepth := 6, bufferMax := 1536, foldStart := 256, refused := false, spareLow := false,
    urgent := false, scanning := false, thrDefault := false, wearLimitLogged := false, ops := [], locks := [], lockNext := 0,
    dueList := [] }

/-- A channel of a transmitter with `n` credits (R309). -/
def TxChannel.reset (n : Nat) : TxChannel := { queue := [], rest := [], credits := n, owed := 0 }

/-- A fabric port at reset (KYB_PORT_CTRL, KYB_PORT_STATUS): enabled and not yet released. -/
def Port.reset : Port :=
  { enable := true, maxLanes := 0, state := 0, lanes := 3, quads := 0, peerValid := false, peerDev := 0, peerPort := 0,
    attempts := 0, healthy := 0, failLogged := false, laserWait := false, txSeq := 0, replay := [], replays := 0,
    lastSent := [], rxSeq := 0, rxWait := false, rxSince := 0, asmReq := [], asmRsp := [], asmRed := [], inbox := [],
    txReq := TxChannel.reset Config.creditsReq, txRsp := TxChannel.reset Config.creditsRsp,
    txRed := TxChannel.reset Config.creditsRed }

/-- The fabric at reset (KYB_FABRIC_CTRL, KYB_DEVICE_ID with a strap of zero). -/
def Fabric.reset : Fabric :=
  { ports := [], id := 0, refused := false, hopLimit := 16, timeoutUs := 2000, routes := [], reqs := [], tagNext := 0,
    reductions := [], held := [], hopLogged := none }

/-- RNG_EMB_STATS at reset. -/
def EmbStats.zero : EmbStats :=
  { stepUs := 0, inUse := 0, joined := 0, left := 0, failed := 0, validSlots := 0, unstaged := 0, queueCmds := 0, headWait := 0,
    tokens := 0, insertWaitUs := 0, boundaryUs := 0 }

/-- A model table of zeros. -/
def ModelTable.zero : ModelTable :=
  { batchBuffer := 0, embedTable := 0, vocab := 0, padId := 0, rowUnits := 0, outDim := 0, sketchSel := 0, boundaryLr := 0 }

/-- The embedding service at reset: nothing bound. -/
def Embed.reset : Embed :=
  { bound := none, model := ModelTable.zero, unbindTr := none, queue := [], cmds := [], ctxs := [], admitSeq := 0, slots := [],
    boundary := .none, seq := 0, stats := EmbStats.zero, work := EmbStats.zero, lastEnd := 0, waitFrom := 0,
    headWait := 0 }

/-- Ralid at reset: nothing attached; RAL_PARAM at its reset value. -/
def Ralid.reset : Ralid :=
  { index := none, current := { v := 0, n := 0xFFFFFF }, open_ := { v := 1, n := 0xFFFFFE }, floor := { v := 0, n := 0xFFFFFF },
    queries := [], nextQuery := 0, parts := [], inserts := [], staged := [], publish := none, attach := none, detach := none,
    log := [], pass := none, covered := none, logFull := false, edgesDropped := 0, shards := [], logReg := 0#64,
    paramReg := BitVec.ofNat 64 (128 * 2 ^ 54 + 24 * 2 ^ 49 + 20 * 2 ^ 40), shardsReg := 0#64 }

/-- A sequence of which no cycle has arrived. -/
def CflSeq.empty : CflSeq := { cycles := 0, cmd := 0, page := Option.none, words := [], group := Option.none, pw := Option.none }

/-- A bank controller at reset (CFL_BANK_STATUS). -/
def CflBank.reset : CflBank :=
  { seq := CflSeq.empty, host := none, run := none, dev := none, pulses := 0, count := 0, seqErr := false, protErr := false,
    progErr := false, eraseErr := false, pwErr := false, lockedErr := false, contCode := 0, lastCmd := 0, prefetch := none }

/-- Where a record kind starts in blank sectors. -/
def RecCursor.zero : RecCursor := { second := false, next := 0, seq := 0 }

/-- The configuration flash of a new module at reset: blank, every sector erased once by nobody (log 29). -/
def Cfl.reset : Cfl :=
  { array := [], marks := [], rows := [], prot := 0, locked := 0, fails := [], banks := [], sel := 0, selAt := none,
    failedErases := 0, slowLogged := [], counterRec := RecCursor.zero, layoutRec := RecCursor.zero, gbRec := RecCursor.zero,
    layoutDue := false, loss := [] }

/-- A connection that nothing has negotiated. -/
def Spdm.reset : Spdm :=
  { version := false, caps := false, algs := false, session := false, transcript := [], chunks := [], chunkSeq := 0 }

/-- Security at reset on a module with blank customer fuses. -/
def Sec.reset : Sec :=
  { slots := [], requireSigned := false, debugDisable := false, svnMin := 0, svnRunning := 0, measurement := 0, nonce := none,
    nonceAt := 0, authFails := 0, debugUnlocked := false, unlockClass := 0, fuse := none, spdm := Spdm.reset }

/-- The block right after the release of power-on reset. -/
def State.reset : State :=
  { pending := [], tclk := 0, gZero := 0, drawn := 0, power := Power.reset, boot := Boot.reset, host := HostSide.reset,
    rings := Rings.reset, evt := Evt.reset, tensor := Tensor.reset, mem := MemSide.reset, ecc := Ecc.reset, spaces := [],
    flash := Flash.reset, fabric := Fabric.reset, embed := Embed.reset, ralid := Ralid.reset, cfl := Cfl.reset,
    sec := Sec.reset }

end Sys2Proof.Machine
end

