-- ==== Sys2Proof/Machine/Ops.lean ====
section
/-! DEFINITION. The shared operations: time, Guest Book, posted writes, MSI-X messages and completion records. -/

namespace Sys2Proof.Machine

/-! Time. -/

/-- EVT_TIMESTAMP: microseconds since the last full reset with rails (R524). -/
def nowUs (s : State) : Nat := (s.tclk - s.evt.timeZero) / Config.tclkPerUs % 2 ^ 48

/-- g, the TCLK cycles since the last full reset (R28). -/
def gNow (s : State) : Nat := s.tclk - s.gZero

/-- A free value of 512 bits, and the state that has drawn it. -/
def drawFree (s : State) : BitVec 512 × State := (Config.fresh s.drawn, { s with drawn := s.drawn + 1 })

/-! Device state. -/

/-- The release step that has completed is at least `n` (RST_BOOT_STATUS.stage). -/
def released (n : Nat) (s : State) : Bool := decide (n ≤ s.boot.stage)

/-- The device answers: neither held in reset nor without rails. -/
def alive (s : State) : Bool := s.boot.dev != .reset

/-- The host's memory requests to the BARs are served: the link is up, its CXL.io stream runs (R388), and the device is
not in D3hot (R373). -/
def barServed (s : State) : Bool := alive s && s.host.linkUp && !s.host.d3hot && !s.host.stopIo

/-- DOE answers: configuration space is published, and the CXL.io stream accepts requests (R390, R456, R388). -/
def doeServed (s : State) : Bool := alive s && released 1 s && s.host.linkUp && !s.host.stopIo

/-- A register of a unit released in step `stage` works (R376); `lantern`: it lies in a block that works in LANTERN. In
D3hot the write is an unsupported request (R373). -/
def regWorks (stage : Nat) (lantern : Bool) (s : State) : Bool :=
  !s.host.d3hot && match s.boot.dev with
    | .reset => false
    | .lantern => lantern
    | .bringUp => decide (stage ≤ s.boot.stage)
    | _ => true

/-- A register write that is performed only while the register works. -/
def regWrite (stage : Nat) (lantern : Bool) (f : State → State) (s : State) : State :=
  if regWorks stage lantern s then f s else s

/-! Power states (R417, R419). -/

/-- Something that starts an exit from power states `lo` and up happens: the exit starts, or follows the entry in progress. -/
def wakePower (lo : Nat) (s : State) : State :=
  match s.host.psPhase with
  | .steady =>
    if decide (lo ≤ s.host.pstate) && s.host.pstate != 3 && s.host.pstate != 0 then
      { s with host := { s.host with psPhase := .exiting 0 } }
    else s
  | .entering t _ => if lo ≤ t && t != 3 then { s with host := { s.host with psPhase := .entering t true } } else s
  | _ => s

/-- A job may become owner: the tiles have their clock, and no D3hot holds the scheduler (R417, R420). -/
def mayOwn (s : State) : Bool := s.host.pstate == 0 && s.host.psPhase == .steady && !s.host.d3hot

/-- Walkers have power (PS2 and PS3 gate them). -/
def walkersOn (s : State) : Bool := s.host.pstate != 2 && s.host.pstate != 3

/-! Posted writes and messages. -/

/-- A posted write of the device to host memory. While the CXL.io stream has failed (R388) or the link is down it does
not leave the device. -/
def hostWrite (addr : Nat) (bytes : List Byte) (s : State) : State :=
  if s.host.linkUp && !s.host.stopIo then
    { s with host := { s.host with mem := Mem.write zeroByte s.host.mem addr bytes } }
  else s

/-- An MSI-X table entry; an entry never written is masked (PRESUMED, log 5). -/
def msixEntry (v : Nat) (s : State) : MsixEntry := Tbl.lookD s.host.msix v { masked := true, addr := 0#64, data := 0#32 }

/-- Send the message of vector `v`, or set its PBA bit when it is masked (R378). 0xFFF: no interrupt. -/
def sendMsix (v : Nat) (s : State) : State :=
  if v = 0xFFF || !s.host.msixEn then s
  else
    let e := msixEntry v s
    if e.masked || s.host.funcMask then
      if s.host.pba.contains v then s else { s with host := { s.host with pba := v :: s.host.pba } }
    else if s.host.linkUp && !s.host.stopIo then
      { s with host := { s.host with msgs := (e.addr, e.data) :: s.host.msgs } }
    else s

/-- `b` with bit `p` of byte `i` set to `v`, counted from the least significant bit of the whole little-endian value. -/
def orBit (v : Nat) (i : Nat) (b : Bool) : Nat := if b then v + 2 ^ i else v

/-! Guest Book (R520 to R529). -/

/-- The 256-bit value of a record (Table: Guest Book record). -/
def EvtRec.value (r : EvtRec) (phase : Bool) : Nat :=
  r.code + compl 16 r.code * 2 ^ 16 + sevOfCode r.code * 2 ^ 32 + b2n phase * 2 ^ 39 + sourceOfCode r.code * 2 ^ 40
    + r.seq * 2 ^ 48 + r.time * 2 ^ 80 + r.detail % 2 ^ 128 * 2 ^ 128

/-- The 32 bytes of a record. -/
def EvtRec.bytes (r : EvtRec) (phase : Bool) : List Byte := leBytes 32 (r.value phase)

/-- Detail fields packed from byte 0, one 4-byte word each (R523). -/
def detailWords : List Nat → Nat
  | [] => 0
  | w :: ws => w % 2 ^ 32 + 2 ^ 32 * detailWords ws

/-- Records in the ring that the host has not released. -/
def gbUnreleased (e : Evt) : Nat := (e.tail + (e.depthM1 + 1) - e.head) % (e.depthM1 + 1)

/-- Whether the ring can take one more record (R527). -/
def gbHasRoom (e : Evt) : Bool := decide (gbUnreleased e < e.depthM1)

/-- Write a record into the next entry of the running ring, and signal it (R527). -/
def gbPut (r : EvtRec) (s : State) : State :=
  let e := s.evt
  let s1 := hostWrite (e.base + e.tail * 32) (r.bytes e.phase) s
  let wrap := e.tail == e.depthM1
  let s2 := { s1 with evt := { s1.evt with tail := if wrap then 0 else e.tail + 1, phase := if wrap then !e.phase else e.phase } }
  sendMsix e.vector s2

/-- A record finds no room: it is counted (R528). -/
def gbLose (r : EvtRec) (s : State) : State :=
  { s with evt := { s.evt with
      lost := satAdd 16 s.evt.lost 1
      lostPending := s.evt.lostPending + 1
      lostFirst := if s.evt.lostPending = 0 then r.seq else s.evt.lostFirst } }

/-- A record goes to the ring, or to the buffer while the ring does not run (R528). -/
def gbDeliver (r : EvtRec) (s : State) : State :=
  if s.evt.running then
    if gbHasRoom s.evt && s.evt.lostPending == 0 then gbPut r s else gbLose r s
  else if s.evt.buffer.length < Config.gbBuffer && s.evt.lostPending == 0 then
    { s with evt := { s.evt with buffer := s.evt.buffer ++ [r] } }
  else gbLose r s

/-- A record goes to the persistent copy as its Copy column and the budget say (R522, R529). In Lantern mode entered
under R502 no record reaches the copy (R462). -/
def gbCopy (c : CopyClass) (r : EvtRec) (s : State) : State :=
  if s.boot.cflBarred then s
  else match c with
  | .never => s
  | .always => { s with evt := { s.evt with copyQueue := s.evt.copyQueue ++ [r] } }
  | .budget =>
    if s.evt.credits = 0 then { s with evt := { s.evt with copySkipped := satAdd 16 s.evt.copySkipped 1 } }
    else { s with evt := { s.evt with credits := s.evt.credits - 1, copyQueue := s.evt.copyQueue ++ [r] } }

/-- A record takes the next sequence number (R525). -/
def gbNumber (code detail : Nat) (s : State) : EvtRec × State :=
  ({ code := code, seq := s.evt.nextSeq, time := nowUs s, detail := detail },
   { s with evt := { s.evt with nextSeq := (s.evt.nextSeq + 1) % 2 ^ 32 } })

/-- Write the GB_SEQ_MARK that is due when the next number is a multiple of 2^20; `copied` says whether it is copied
(R525). -/
def gbMark (copied : Bool) (s : State) : State :=
  if s.evt.nextSeq % 2 ^ 20 = 0 then
    let p := gbNumber Ev.gbSeqMark.code s.evt.nextSeq s
    let s1 := gbDeliver p.1 p.2
    if copied then gbCopy .always p.1 s1 else s1
  else s

/-- Raise event `ev` with its detail: numbered, stamped, delivered to the ring or the buffer, and copied as its rules
say (R520 to R529). -/
def logEvent (ev : Ev) (detail : Nat) (s : State) : State :=
  let p := gbNumber ev.code detail (gbMark true s)
  gbCopy ev.copy p.1 (gbDeliver p.1 p.2)

/-- Raise a loss record of R20, whose mark is not copied (R525), and whose copy goes to a reserved slot (R486): the
record is answered for the caller to program. -/
def logLoss (ev : Ev) (detail : Nat) (s : State) : EvtRec × State :=
  let p := gbNumber ev.code detail (gbMark false s)
  (p.1, gbDeliver p.1 p.2)

/-- When space appears after losses, one GB_RECORDS_LOST covers them (R528). -/
def gbReportLost (s : State) : State :=
  if s.evt.running && s.evt.lostPending != 0 && gbHasRoom s.evt then
    let d := detailWords [s.evt.lostPending, s.evt.lostFirst]
    logEvent .gbRecordsLost d { s with evt := { s.evt with lostPending := 0 } }
  else s

/-! Counters (R531). -/

/-- The key of a counter. -/
def ctrKey (bank inst idx : Nat) : Nat := bank * 2 ^ 16 + inst * 2 ^ 6 + idx

/-- The window settings of a bank. -/
def winOf (bank : Nat) (s : State) : WinCtl := Tbl.lookD s.evt.wins bank { reg := 0x18000000#32, inUse := 0x18000000#32, seq := 0 }

/-- mode of a window register. -/
def winMode (r : W32) : Nat := bits r.toNat 31 30

/-- Add `k` to a counter of 48 bits, saturating; while its bank's mode is 0b00 it holds (R532). -/
def bump (bank inst idx k : Nat) (s : State) : State :=
  if k = 0 || winMode (winOf bank s).inUse == 0 then s
  else { s with evt := { s.evt with counters := Tbl.upd s.evt.counters (ctrKey bank inst idx) 0 (fun v => satAdd 48 v k) } }

/-! Completion records (R404, R411). -/

/-- Fields of a host command descriptor (Table: Host command descriptor). -/
def dBits (d : BitVec 1024) (hi lo : Nat) : Nat := bits d.toNat hi lo
def dOpcode (d : BitVec 1024) : Nat := dBits d 7 0
def dTag (d : BitVec 1024) : Nat := dBits d 63 32
def dPtr0 (d : BitVec 1024) : Nat := dBits d 127 64
def dPtr1 (d : BitVec 1024) : Nat := dBits d 191 128
def dLen0 (d : BitVec 1024) : Nat := dBits d 223 192
def dLen1 (d : BitVec 1024) : Nat := dBits d 287 256
/-- Descriptor bits [hi:lo] of params, numbered in the whole descriptor. -/
def dParam (d : BitVec 1024) (hi lo : Nat) : Nat := dBits d hi lo

/-- The 256-bit value of a completion record (Table: Completion record). -/
def Completion.value (c : Completion) (sqHead : Nat) (phase : Bool) : Nat :=
  c.tag + c.sq * 2 ^ 32 + c.status * 2 ^ 40 + c.opcode * 2 ^ 48 + c.kind * 2 ^ 56 + sqHead * 2 ^ 64
    + c.result % 2 ^ 64 * 2 ^ 96 + c.detail % 2 ^ 64 * 2 ^ 160 + b2n phase * 2 ^ 255

/-- Records posted on a CQ and not released (R407). -/
def cqUnreleased (q : Cq) : Nat := (q.tail + q.depth - q.head) % q.depth

/-- The head of an SQ as a record carries it. -/
def sqHeadOf (sq : Nat) (s : State) : Nat :=
  match Tbl.look s.rings.sqs sq with
  | some q => q.head
  | none => (Config.absentSqHead s.drawn).toNat

/-- Post one record on CQ `n`. A CQ in error posts nothing (R422); in PS3 a record is held (R420). `more`: a further
record for this CQ is ready (R411). -/
def postOn (n : Nat) (more : Bool) (c : Completion) (s : State) : State :=
  match Tbl.look s.rings.cqs n with
  | none => s
  | some q =>
    if q.error then s
    else if s.host.pstate == 3 || s.host.psPhase == .exitingPs3 || s.host.stopIo then
      { s with rings := { s.rings with heldRecs := s.rings.heldRecs ++ [(n, c)] } }
    else
      let s1 := hostWrite (q.base + q.tail * 32) (leBytes 32 (c.value (sqHeadOf c.sq s) q.phase)) s
      let wrap := q.tail + 1 == q.depth
      let due := decide (q.agg ≤ q.since + 1) || !more
      let q1 := { q with
        tail := if wrap then 0 else q.tail + 1
        phase := if wrap then !q.phase else q.phase
        since := if due then 0 else q.since + 1 }
      let s2 := { s1 with rings := { s1.rings with cqs := Tbl.put s1.rings.cqs n q1 }, drawn := s1.drawn + 1 }
      if due then sendMsix q.vector s2 else s2

/-- Post several records that are ready together, in order. -/
def postAll : List (Nat × Completion) → State → State
  | [], s => s
  | (n, c) :: rest, s => postAll rest (postOn n (rest.any (fun p => p.1 == n)) c s)

/-- The ring class whose bank-5 counters an SQ feeds. -/
def classOf (sq : Nat) (s : State) : Nat :=
  match Tbl.look s.rings.sqs sq with
  | some q => q.cls
  | none => 0

/-- The command in task register `tr` completes: its record is posted and the register is free (R404, R405). -/
def complete (tr status result detail : Nat) (s : State) : State :=
  match Tbl.look s.rings.tasks tr with
  | none => s
  | some t =>
    let s1 := { s with rings := { s.rings with tasks := Tbl.del s.rings.tasks tr } }
    let c : Completion :=
      { tag := dTag t.desc, sq := t.sq, status := status, opcode := dOpcode t.desc, kind := 0, result := result, detail := detail }
    let s2 := bump 5 (classOf t.sq s) (if status = 0 then 1 else 2) 1 s1
    match Tbl.look s.rings.sqs t.sq with
    | some q => postOn q.cq false c s2
    | none => s2

/-- Complete with a status and nothing else. -/
def fail (tr status : Nat) (s : State) : State := complete tr status 0 0 s

/-- Complete several commands with one status. -/
def completeAll : List Nat → Nat → State → State
  | [], _, s => s
  | tr :: rest, status, s => completeAll rest status (complete tr status 0 0 s)

/-- READ, WRITE, TRIM and VERIFY: commands that take a range-lock entry when they pass their checks (R438). -/
def isDataOp (opcode : Nat) : Bool := opcode == 0x20 || opcode == 0x21 || opcode == 0x23 || opcode == 0x24

/-- Its own row has still to run: it is handed to its unit, or it is a data command with a fence that has not yet taken
its lock entry (R406, R438). -/
def awaitsRow (tr : Nat) (t : Task) (s : State) : Bool :=
  match t.phase with
  | .ready => true
  | .fenced => isDataOp (dOpcode t.desc) && (Tbl.look s.flash.ops tr).isNone
  | _ => false

/-- No earlier command of the SQ has still to start: commands of one SQ start in ring order (R406). -/
def inTurn (t : Task) (s : State) : Bool :=
  s.rings.tasks.all (fun p => p.2.sq != t.sq || decide (t.order ≤ p.2.order) || (match p.2.phase with
    | .delayed _ => false
    | _ => !awaitsRow p.1 p.2 s))

/-- The task in register `tr`, if its row may run: checked and handed to its unit, in its turn (R406). -/
def readyTask (tr : Nat) (opcode : Nat) (s : State) : Option Task :=
  match Tbl.look s.rings.tasks tr with
  | some t => if t.phase == .ready && dOpcode t.desc == opcode && inTurn t s then some t else none
  | none => none

/-- The same for a data command, which takes its lock entry even while its fence holds it (R438). -/
def dataTask (tr : Nat) (opcode : Nat) (s : State) : Option Task :=
  match Tbl.look s.rings.tasks tr with
  | some t => if awaitsRow tr t s && dOpcode t.desc == opcode && inTurn t s then some t else none
  | none => none

/-- The task is held by its fence. -/
def isFenced (tr : Nat) (s : State) : Bool := (Tbl.look s.rings.tasks tr).any (fun t => t.phase == .fenced)

/-- The task keeps its register while it waits for its unit (R405). -/
def setPhase (tr : Nat) (p : TaskPhase) (s : State) : State :=
  { s with rings := { s.rings with tasks := Tbl.adjust s.rings.tasks tr (fun t => { t with phase := p }) } }

end Sys2Proof.Machine
end

