-- ==== Sys2Proof/Machine/Ecc.lean ====
section
/-! DEFINITION. The codes W72 and P72, and stacked memory read and written through W72 (chapter 17). -/

namespace Sys2Proof.Machine

/-- Table: W72 data-bit columns. -/
def w72Columns : List Nat :=
  [0x07, 0x0B, 0x0D, 0x0E, 0x13, 0x15, 0x16, 0x19, 0x1A, 0x1C, 0x23, 0x25, 0x26, 0x29, 0x2A, 0x2C,
   0x31, 0x32, 0x34, 0x38, 0x43, 0x45, 0x46, 0x49, 0x4A, 0x4C, 0x51, 0x52, 0x54, 0x58, 0x61, 0x62] ++
  [0x64, 0x68, 0x70, 0x83, 0x85, 0x86, 0x89, 0x8A, 0x8C, 0x91, 0x92, 0x94, 0x98, 0xA1, 0xA2, 0xA4,
   0xA8, 0xB0, 0xC1, 0xC2, 0xC4, 0xC8, 0xD0, 0xE0, 0xF8, 0xF1, 0xE3, 0xC7, 0x8F, 0x1F, 0x3E, 0x7C]

/-- XOR of the columns of the data bits that are set, from bit 0 of `v` on. -/
def xorColumns : List Nat → Nat → Nat
  | [], _ => 0
  | c :: cs, v => if v % 2 = 1 then c ^^^ xorColumns cs (v / 2) else xorColumns cs (v / 2)

/-- The check byte of 64 data bits (R491). -/
def w72Check (data : Nat) : Nat := xorColumns w72Columns data

/-- The whole 72-bit word of 64 data bits. -/
def w72Encode (data : Nat) : Nat := data % 2 ^ 64 + w72Check (data % 2 ^ 64) * 2 ^ 64

/-- The syndrome of a 72-bit word (R492). -/
def w72Syndrome (w : Nat) : Nat := w72Check (w % 2 ^ 64) ^^^ (w / 2 ^ 64 % 256)

/-- What a checker makes of a word (Table: W72 syndromes). -/
inductive W72Result where
  | clean (data : Nat)
  | corrected (data : Nat) (bitPos : Nat)
  | uncorrectable (syndrome : Nat)
  deriving DecidableEq, Repr

/-- Check and correct a 72-bit word (R492). -/
def w72Decode (w : Nat) : W72Result :=
  let s := w72Syndrome w
  let data := w % 2 ^ 64
  if s = 0 then .clean data
  else match posOf w72Columns s with
    | some i => .corrected (data ^^^ 2 ^ i) i
    | none =>
      match posOf [1, 2, 4, 8, 16, 32, 64, 128] s with
      | some j => .corrected data (64 + j)
      | none => .uncorrectable s

/-- The parity byte of 64 data bits under P72: bit j makes byte j odd (R493). -/
def p72Parity (data : Nat) : Nat :=
  (List.range 8).foldl (fun acc j =>
    let b := data / 2 ^ (8 * j) % 256
    let ones := (List.range 8).foldl (fun n i => n + b / 2 ^ i % 2) 0
    if ones % 2 = 0 then acc + 2 ^ j else acc) 0

/-- The byte mask of the bytes of a P72 word found in error. -/
def p72Errors (w : Nat) : Nat := p72Parity (w % 2 ^ 64) ^^^ (w / 2 ^ 64 % 256)

/-! Counters. -/

/-- EVT_ECC_n of a unit. -/
def eccOf (u : Nat) (s : State) : EccCtr := Tbl.lookD s.ecc.ctrs u { corrected := 0, uncorrectable := 0, refetched := 0 }

/-- Count corrections of unit `u` (R496). -/
def countCorrected (u k : Nat) (s : State) : State :=
  if k = 0 then s
  else
    let c := eccOf u s
    { s with ecc := { s.ecc with
        ctrs := Tbl.put s.ecc.ctrs u { c with corrected := satAdd 32 c.corrected k }
        lastSecond := Tbl.upd s.ecc.lastSecond u 0 (· + k) } }

/-- An error that stays unrecovered: counted and logged with unit, address or entry, and syndrome or byte mask
(R499). -/
def logUncorrectable (u addr syn : Nat) (s : State) : State :=
  let c := eccOf u s
  let s1 := { s with ecc := { s.ecc with ctrs := Tbl.put s.ecc.ctrs u { c with uncorrectable := satAdd 16 c.uncorrectable 1 } } }
  -- the address takes 8 B where the unit is stacked memory (R523)
  let detail := if u = 0 then u + 2 ^ 32 * (addr % 2 ^ 64) + 2 ^ 96 * syn else detailWords [u, addr, syn]
  logEvent .integrityUncorrectable detail s1

/-- Count a retry from a master (R498). -/
def countRefetched (u : Nat) (s : State) : State :=
  let c := eccOf u s
  { s with ecc := { s.ecc with ctrs := Tbl.put s.ecc.ctrs u { c with refetched := satAdd 16 c.refetched 1 } } }

/-! Stacked memory through W72. -/

/-- The 72 bits that word `w` of stacked memory reads as: its encoded data, with its errors and stuck cells. -/
def rawWord (w : Nat) (s : State) : Nat :=
  let good := w72Encode (leNat (Mem.read zeroByte s.mem.stacked (w * 8) 8))
  let err := good ^^^ (Tbl.lookD s.mem.werr w 0#72).toNat
  match Tbl.look s.ecc.cells w with
  | none => err
  | some c => (err &&& (2 ^ 72 - 1 - c.mask.toNat)) ||| (c.value.toNat &&& c.mask.toNat)

/-- Words of the byte range that errors or stuck cells touch. -/
def touchedWords (a n : Nat) (s : State) : List Nat :=
  let hit := fun (w : Nat) => decide (a < w * 8 + 8) && decide (w * 8 < a + n)
  ((s.mem.werr.map (·.1)).filter hit) ++
    ((s.ecc.cells.map (·.1)).filter (fun w => hit w && (Tbl.look s.mem.werr w).isNone))

/-- The first uncorrectable word of the byte range, with its syndrome. -/
def firstBad (a n : Nat) (s : State) : Option (Nat × Nat) :=
  (touchedWords a n s).foldr (fun w acc =>
    match w72Decode (rawWord w s) with
    | .uncorrectable syn => some (w, syn)
    | _ => acc) none

/-- Words of the byte range that a read corrects. -/
def correctedWords (a n : Nat) (s : State) : List (Nat × Nat) :=
  (touchedWords a n s).filterMap (fun w =>
    match w72Decode (rawWord w s) with
    | .corrected d _ => some (w, d)
    | _ => none)

/-- The bytes of stacked memory as a checker delivers them. -/
def stackedBytes (a n : Nat) (s : State) : List Byte :=
  let fixed := correctedWords a n s
  if fixed.isEmpty then Mem.read zeroByte s.mem.stacked a n
  else (List.range n).map (fun i =>
    match Tbl.look fixed ((a + i) / 8) with
    | some d => BitVec.ofNat 8 (d / 2 ^ (8 * ((a + i) % 8)))
    | none => Mem.byte zeroByte s.mem.stacked (a + i))

/-- Read `n` bytes of stacked memory at `a`: the bytes, or the uncorrectable word found and its syndrome; corrections
are counted (R492, R496). An uncorrectable word is counted and logged (R499). -/
def readStacked (a n : Nat) (s : State) : Except (Nat × Nat) (List Byte) × State :=
  let s1 := countCorrected 0 (correctedWords a n s).length s
  match firstBad a n s with
  | some (w, syn) => (.error (w * 8, syn), logUncorrectable 0 (w * 8) syn s1)
  | none => (.ok (stackedBytes a n s), s1)

/-- Write bytes to stacked memory. Whole words take new check bits; a part word is merged (R495). Where the read of a
merge finds an uncorrectable word, the part is abandoned and the word keeps its content: the caller is told. -/
def writeStacked (a : Nat) (bytes : List Byte) (s : State) : Bool × State :=
  let n := bytes.length
  let first := a / 8
  let last := (a + n - 1) / 8
  let partial_ := fun (w : Nat) => decide (w * 8 < a) || decide (a + n < w * 8 + 8)
  let bad := fun (w : Nat) => match w72Decode (rawWord w s) with | .uncorrectable _ => true | _ => false
  let badFirst := n != 0 && partial_ first && bad first
  let badLast := n != 0 && first != last && partial_ last && bad last
  let kept := (List.range n).map (fun i =>
    let w := (a + i) / 8
    if (badFirst && w == first) || (badLast && w == last) then Mem.byte zeroByte s.mem.stacked (a + i)
    else bytes.getD i 0)
  let data := if badFirst || badLast then kept else bytes
  -- the corrected value of a merged word is what is written back (R495)
  let stacked0 := (correctedWords a n s).foldl
    (fun m p => if partial_ p.1 then Mem.write zeroByte m (p.1 * 8) (leBytes 8 p.2) else m) s.mem.stacked
  let werr := s.mem.werr.filter (fun p =>
    !(decide (first ≤ p.1) && decide (p.1 ≤ last)) || (badFirst && p.1 == first) || (badLast && p.1 == last))
  (badFirst || badLast,
   { s with mem := { s.mem with stacked := Mem.write zeroByte stacked0 a data, werr := if n = 0 then s.mem.werr else werr } })

/-- Write whole transfers of the device to stacked memory, where no merge can fail to matter. -/
def putStacked (a : Nat) (bytes : List Byte) (s : State) : State := (writeStacked a bytes s).2

/-- Poison the words of a byte range: all check bits inverted (R386, R492). -/
def poisonStacked (a n : Nat) (s : State) : State :=
  let ws := (List.range ((n + 7) / 8)).map (fun i => a / 8 + i)
  { s with mem := { s.mem with werr := ws.foldl (fun t w => Tbl.put t w (BitVec.ofNat 72 (255 * 2 ^ 64))) s.mem.werr } }

end Sys2Proof.Machine
end

