-- ==== Sys2Proof/Machine/Operands.lean ====
section
/-! DEFINITION. Operand forms: Lenri words and slots (chapter 05), Porter descriptors (chapter 06), job descriptors and
their tables (chapter 07). -/

namespace Sys2Proof.Machine

/-! Lenri header (Table: Lenri header). -/

def hMask (h : W64) : Nat := bits h.toNat 5 0
def hMaskN (h : W64) : Nat := bits h.toNat 11 6
def hWait0 (h : W64) : Nat × Nat := (bits h.toNat 17 12, bits h.toNat 21 18)
def hWait1 (h : W64) : Nat × Nat := (bits h.toNat 27 22, bits h.toNat 31 28)
def hSig0 (h : W64) : Nat × Nat := (bits h.toNat 37 32, bits h.toNat 41 38)
def hSig1 (h : W64) : Nat × Nat := (bits h.toNat 47 42, bits h.toNat 51 48)
def hWaypoint (h : W64) : Bool := bit h.toNat 52
def hLr (h : W64) : Nat := bits h.toNat 62 53

/-- The waits of a header that are in use: flag and amount. -/
def hWaits (h : W64) : List (Nat × Nat) := [hWait0 h, hWait1 h].filter (fun p => p.2 != 0)
/-- The signals of a header that are in use. -/
def hSigs (h : W64) : List (Nat × Nat) := [hSig0 h, hSig1 h].filter (fun p => p.2 != 0)

/-- Number of slots that a slot mask announces. -/
def maskCount (m : Nat) : Nat := (List.range 6).foldl (fun n i => n + m / 2 ^ i % 2) 0
/-- Units of 64 bits that a word occupies (R131). -/
def wordUnits (h : W64) : Nat := 1 + 2 * maskCount (hMask h)

/-! Slots (Table: Slot common fields). -/

def sOp (s : BitVec 128) : Nat := bits s.toNat 127 120
def sSigEn (s : BitVec 128) : Bool := bit s.toNat 119
def sSigFlag (s : BitVec 128) : Nat := bits s.toNat 118 113
def sIdxEn (s : BitVec 128) : Bool := bit s.toNat 112
def sIdxCtr (s : BitVec 128) : Nat := bits s.toNat 111 109
def sPredEn (s : BitVec 128) : Bool := bit s.toNat 108
def sPredCmp (s : BitVec 128) : Nat := bits s.toNat 107 105
def sPredPol (s : BitVec 128) : Bool := bit s.toNat 104
/-- Bits [hi:lo] of a slot. -/
def sBits (s : BitVec 128) (hi lo : Nat) : Nat := bits s.toNat hi lo

/-- A slot with field [hi:lo] replaced by `v`. -/
def sPut (s : BitVec 128) (hi lo v : Nat) : BitVec 128 :=
  BitVec.ofNat 128 (s.toNat - bits s.toNat hi lo * 2 ^ lo + v % 2 ^ (hi + 1 - lo) * 2 ^ lo)

/-- The completion flag of a slot, if it signals. -/
def sSig (s : BitVec 128) : Option Nat := if sSigEn s then some (sSigFlag s) else none

/-! ARR slot (Table: ARR slot body). -/

def gFlow (s : BitVec 128) : Bool := bit s.toNat 103
def gFmt (s : BitVec 128) : Nat := sBits s 102 99
def gAMxe (s : BitVec 128) : Bool := bit s.toNat 98
def gBMxe (s : BitVec 128) : Bool := bit s.toNat 97
def gKdim (s : BitVec 128) : Nat := sBits s 96 88
def gMValid (s : BitVec 128) : Nat := sBits s 87 80
def gNValid (s : BitVec 128) : Nat := sBits s 79 72
def gTaps (s : BitVec 128) : Nat := sBits s 71 69
def gDil (s : BitVec 128) : Nat := sBits s 68 65
def gKeep (s : BitVec 128) : Bool := bit s.toNat 64
def gAElem (s : BitVec 128) : Nat := sBits s 63 48
def gBElem (s : BitVec 128) : Nat := sBits s 47 32
def gParam (s : BitVec 128) : Nat := sBits s 31 16

/-! VEC slot (Table: VEC slot body). -/

def vFmtA (s : BitVec 128) : Nat := sBits s 103 100
def vFmtD (s : BitVec 128) : Nat := sBits s 99 96
def vRnd (s : BitVec 128) : Nat := sBits s 95 93
def vStats (s : BitVec 128) : Bool := bit s.toNat 92
def vSub (s : BitVec 128) : Nat := sBits s 91 86
def vN (s : BitVec 128) : Nat := sBits s 85 64
def vSrc1 (s : BitVec 128) : Nat := sBits s 63 48
def vSrc2 (s : BitVec 128) : Nat := sBits s 47 32
def vSrc3 (s : BitVec 128) : Nat := sBits s 31 16
def vDst (s : BitVec 128) : Nat := sBits s 15 0

/-! Porter descriptor (Table: Porter descriptor), Cellar descriptor (Table: Cellar descriptor). -/

def pExt (s : BitVec 128) : Nat := sBits s 103 70
def pTile (s : BitVec 128) : Nat := sBits s 69 54
def pLen (s : BitVec 128) : Nat := sBits s 53 38
def pRows (s : BitVec 128) : Nat := sBits s 37 30 + 1
def pPitch (s : BitVec 128) : Nat := sBits s 29 14
def pVariant (s : BitVec 128) : Nat := sBits s 13 0
/-- Caravan group of a Caravan slot. -/
def pGroup (s : BitVec 128) : Nat := sBits s 13 6
/-- Target device of a remote slot. -/
def pDev (s : BitVec 128) : Nat := sBits s 13 2
/-- Byte length of a transfer. -/
def pBytes (s : BitVec 128) : Nat := pLen s * pRows s * 64

def cNs (s : BitVec 128) : Nat := sBits s 69 65
def cUnitOff (s : BitVec 128) : Nat := sBits s 64 32
def cUnits (s : BitVec 128) : Nat := sBits s 31 16
def cFua (s : BitVec 128) : Bool := bit s.toNat 15

/-- The rows of a Porter transfer in external memory: byte address of each (R169). -/
def pRowAddrs (s : BitVec 128) : List Nat := (List.range (pRows s)).map (fun r => (pExt s + r * pPitch s) * 64)

/-! Job descriptor (Table: Job descriptor). -/

def jBits (d : BitVec 1024) (hi lo : Nat) : Nat := bits d.toNat hi lo
def jDiag (d : BitVec 1024) : Nat := jBits d 519 480
def jSavePages (d : BitVec 1024) : Nat := jBits d 479 448
def jSaveArea (d : BitVec 1024) : Nat := jBits d 423 384
def jLrTable (d : BitVec 1024) : Nat := jBits d 359 320
def jPhaseTable (d : BitVec 1024) : Nat := jBits d 295 256
def jFabricCtx (d : BitVec 1024) : Nat := jBits d 235 224
def jWaitTimeout (d : BitVec 1024) : Nat := jBits d 159 128
def jNsGrant (d : BitVec 1024) : Nat := jBits d 127 96
def jLrCount (d : BitVec 1024) : Nat := jBits d 82 72
def jPhaseCount (d : BitVec 1024) : Nat := jBits d 70 66
def jResvSlots (d : BitVec 1024) : Nat := jBits d 65 56
def jResume (d : BitVec 1024) : Bool := bit d.toNat 55
def jFabric (d : BitVec 1024) : Bool := bit d.toNat 54
def jRndDefault (d : BitVec 1024) : Nat := jBits d 53 51
def jPriority (d : BitVec 1024) : Nat := jBits d 50 48
def jClassN (d : BitVec 1024) : Nat := jBits d 47 40
def jClass (d : BitVec 1024) : Nat := jBits d 39 32
def jTag (d : BitVec 1024) : Nat := jBits d 31 0

/-! Areas of stacked memory (R165 to R168). -/

def areaCode (w : W32) : Nat := bits w.toNat 31 28
def areaUnitsOf (w : W32) : Nat := bits w.toNat 13 0

/-- The units of an area: for the job area 0 means the remainder. -/
def areaLen (areas : List W32) (w : W32) : Nat :=
  if areaCode w = 7 && areaUnitsOf w = 0 then
    Config.areaUnits - (areas.filter (fun x => areaCode x != 7)).foldl (fun n x => n + areaUnitsOf x) 0
  else if areaCode w = 0 then 0 else areaUnitsOf w

/-- Base and end, in bytes, of the area with a code, counting from unit `at_`. -/
def areaFind (all : List W32) (code : Nat) : List W32 → Nat → Option (Nat × Nat)
  | [], _ => none
  | w :: ws, at_ =>
    if areaCode w = code then some (at_ * 2 ^ 28, (at_ + areaLen all w) * 2 ^ 28)
    else areaFind all code ws (at_ + areaLen all w)

/-- The area with a code in the layout in force. -/
def area (code : Nat) (s : State) : Nat × Nat := (areaFind s.mem.areas code s.mem.areas 0).getD (0, 0)

/-- The job area. -/
def jobArea (s : State) : Nat × Nat := area 7 s

/-- A byte range lies in the job area. -/
def inJobArea (a n : Nat) (s : State) : Bool := decide ((jobArea s).1 ≤ a) && decide (a + n ≤ (jobArea s).2)

/-- W, the stacked-memory address of the HDM-DB window (R381). -/
def windowBase (s : State) : Nat := (jobArea s).2 - 2 ^ 34

/-- The layout check of R167. -/
def layoutOk (areas : List W32) : Bool :=
  let codes := (areas.map areaCode).filter (· != 0)
  let nodup := (List.range 16).all (fun c => decide ((codes.filter (· == c)).length ≤ 1))
  let unitsOf := fun c => (areas.filter (fun w => areaCode w == c)).foldl (fun n w => n + areaUnitsOf w) 0
  nodup && codes.all (fun c => decide (c ≤ 7)) && codes.contains 4 && codes.contains 5 && codes.contains 7
    && decide (128 ≤ unitsOf 4) && decide (16 ≤ unitsOf 5)
    && decide ((areas.filter (fun w => areaCode w != 7 && areaCode w != 0)).foldl (fun n w => n + areaUnitsOf w) 0 ≤ Config.areaOtherMax)

/-- A byte range lies wholly within one field's shared memory (R165). -/
def inShared (a n : Nat) : Bool :=
  decide (Config.sharedBase ≤ a) && decide (a + n ≤ Config.sharedEnd) && decide (n ≠ 0)
    && ((a - Config.sharedBase) / 2 ^ 26 == (a + n - 1 - Config.sharedBase) / 2 ^ 26)

/-- A byte range lies in shared memory. -/
def inAnyShared (a n : Nat) : Bool := decide (Config.sharedBase ≤ a) && decide (a + n ≤ Config.sharedEnd)

end Sys2Proof.Machine
end

