-- ==== Sys2Proof/Machine/TileOps.lean ====
section
/-! DEFINITION. Shared operations of the tiles: flags, waits, trackers, entries, region modes, and stopping the owning
job (chapters 05 and 06). -/

namespace Sys2Proof.Machine

/-! Access. -/

def tileOf (t : Nat) (s : State) : Tile := Tbl.lookD s.tensor.tiles t Tile.fresh

def setTile (t : Nat) (x : Tile) (s : State) : State :=
  { s with tensor := { s.tensor with tiles := Tbl.put s.tensor.tiles t x } }

def modTile (t : Nat) (f : Tile → Tile) (s : State) : State := setTile t (f (tileOf t s)) s

/-- Apply `f` to every tile that is listed. -/
def modAllTiles (f : Tile → Tile) (s : State) : State :=
  { s with tensor := { s.tensor with tiles := Tbl.mapVals s.tensor.tiles (fun _ x => f x) } }

def jobOf (e : Nat) (s : State) : Option Job := Tbl.look s.tensor.jobs e

def setJob (e : Nat) (j : Job) (s : State) : State :=
  { s with tensor := { s.tensor with jobs := Tbl.put s.tensor.jobs e j } }

def modJob (e : Nat) (f : Job → Job) (s : State) : State :=
  { s with tensor := { s.tensor with jobs := Tbl.adjust s.tensor.jobs e f } }

/-- The reservation entry and the job of a tag. -/
def findJob (tag : Nat) (s : State) : Option (Nat × Job) := s.tensor.jobs.find? (fun p => p.2.tag == tag)

/-- The owner of the tensor complex. -/
def ownerJob (s : State) : Option (Nat × Job) :=
  match s.tensor.owner with
  | some e => (jobOf e s).map (fun j => (e, j))
  | none => none

/-- The owner runs and has not stopped: its tiles may start work (R163). -/
def running (s : State) : Bool :=
  match ownerJob s with
  | some (_, j) => j.state == .running && j.stop.isNone && !s.tensor.heldByStep4
  | none => false

/-- The owner runs, or its stop cycle is the present one, in which every check still runs (R163). -/
def checking (s : State) : Bool :=
  match ownerJob s with
  | some (_, j) =>
    j.state == .running && !s.tensor.heldByStep4 && (match j.stop with | none => true | some r => r.cycle == s.tclk)
  | none => false

/-- The owner runs; entries already started go on after a stop (R163). -/
def draining (s : State) : Bool :=
  match ownerJob s with
  | some (_, j) => j.state == .running
  | none => false

/-- The owner's stop has been decided: flags raised from now on are discarded (R163). -/
def stopped (s : State) : Bool :=
  match ownerJob s with
  | some (_, j) => j.stop.isSome
  | none => true

/-! Queues. -/

def Tile.queue (x : Tile) : Engine → List QEntry
  | .arr => x.qArr
  | .vec => x.qVec
  | .pin => x.qPin
  | .pout => x.qPout

def Tile.setQueue (x : Tile) (e : Engine) (q : List QEntry) : Tile :=
  match e with
  | .arr => { x with qArr := q }
  | .vec => { x with qVec := q }
  | .pin => { x with qPin := q }
  | .pout => { x with qPout := q }

/-- Entries taken from a queue that have not completed. -/
def Tile.taken (x : Tile) : Engine → List QEntry
  | .arr => x.arr.toList ++ x.grids.map (·.entry)
  | .vec => x.vec.toList
  | .pin => x.pin
  | .pout => x.pout

/-- The four engines in the order of R154. -/
def engines : List Engine := [.arr, .vec, .pin, .pout]

/-- All four queues are empty and every entry taken has completed (R144). -/
def Tile.drained (x : Tile) : Bool := engines.all (fun e => (x.queue e).isEmpty && (x.taken e).isEmpty)

/-- Heads that have begun to wait note since when (R162). -/
def Tile.noteHeads (now : Nat) (x : Tile) : Tile :=
  engines.foldl (fun y e =>
    match y.queue e with
    | h :: rest =>
      if !h.resolved && h.waitFrom.isNone then y.setQueue e ({ h with waitFrom := some now } :: rest) else y
    | [] => y) x

/-! Flags (R153 to R155). -/

/-- The value of a flag, increments of the present cycle apart. -/
def Tile.flag (x : Tile) (f : Nat) : Nat := Tbl.lookD x.flags f 0

/-- Add to a flag: the increment takes effect at the end of the cycle (R155). -/
def Tile.inc (x : Tile) (f n : Nat) : Tile := { x with incs := Tbl.upd x.incs f 0 (· + n) }

/-- Raise signals on a tile, unless the job has stopped (R163). -/
def raiseSigs (t : Nat) (sigs : List (Nat × Nat)) (s : State) : State :=
  if stopped s then s else modTile t (fun x => sigs.foldl (fun y p => y.inc p.1 p.2) x) s

/-- The waits of a header are satisfied together by the flags of a tile (R154). -/
def Tile.satisfied (x : Tile) (h : W64) : Bool := (hWaits h).all (fun p => decide (p.2 ≤ x.flag p.1))

/-- Consume the amounts of a header's waits. -/
def Tile.consume (x : Tile) (h : W64) : Tile :=
  { x with flags := (hWaits h).foldl (fun t p => Tbl.put t p.1 (Tbl.lookD t p.1 0 - p.2)) x.flags }

/-- The waits of the word with tracker `k` have resolved: its entries may start, and a word without signals frees its
tracker (R153, R154). -/
def Tile.markResolved (x : Tile) (k : Nat) (h : W64) : Tile :=
  let free := (hSigs h).isEmpty
  let f := fun (q : QEntry) =>
    if q.tracker = some k then { q with resolved := true, tracker := if free then none else q.tracker } else q
  let y := { x with qArr := x.qArr.map f, qVec := x.qVec.map f, qPin := x.qPin.map f, qPout := x.qPout.map f }
  if free then { y with trackers := Tbl.del y.trackers k }
  else { y with trackers := Tbl.adjust y.trackers k (fun r => { r with waits := false }) }

/-- Examine the head of one queue: resolve its waits when they are satisfied (R154). -/
def Tile.examineHead (x : Tile) (e : Engine) : Tile :=
  match x.queue e with
  | h :: _ =>
    if h.resolved then x
    else if x.satisfied h.hdr then
      match h.tracker with
      | some k => (x.consume h.hdr).markResolved k h.hdr
      | none => x
    else x
  | [] => x

/-- Examine the heads in the order of R154, up to and including engine `e`. -/
def Tile.examineTo (x : Tile) : Engine → Tile
  | .arr => x.examineHead .arr
  | .vec => (x.examineHead .arr).examineHead .vec
  | .pin => ((x.examineHead .arr).examineHead .vec).examineHead .pin
  | .pout => (((x.examineHead .arr).examineHead .vec).examineHead .pin).examineHead .pout

/-- An entry of an engine completes: its sig_flag is raised, and with the last entry of its word the header signals,
which frees the tracker (R153). -/
def completeEntry (t : Nat) (q : QEntry) (s : State) : State :=
  let s1 := raiseSigs t ((sSig q.slot).toList.map (fun f => (f, 1))) s
  match q.tracker with
  | none => s1
  | some k =>
    match Tbl.look (tileOf t s1).trackers k with
    | none => s1
    | some r =>
      if r.out ≤ 1 then
        raiseSigs t (hSigs r.hdr) (modTile t (fun x => { x with trackers := Tbl.del x.trackers k }) s1)
      else modTile t (fun x => { x with trackers := Tbl.put x.trackers k { r with out := r.out - 1 } }) s1

/-! Fault causes. -/

def causeHeaderComplement : Nat := 0x0001
def causeHeaderReserved : Nat := 0x0002
def causeSlotOpcode : Nat := 0x0003
def causeSlotField : Nat := 0x0004
def causeRange : Nat := 0x0005
def causeIndexInactive : Nat := 0x0006
def causeLoopNesting : Nat := 0x0007
def causeFlagOverflow : Nat := 0x0008
def causeFetchUnrecoverable : Nat := 0x0009
def causeWaitTimeout : Nat := 0x000A
def causeBarrierMismatch : Nat := 0x000B
def causeRegionMode : Nat := 0x0010
def causeRegionTable : Nat := 0x0011
def causeCaravanMismatch : Nat := 0x0012
def causeCellarUnrecoverable : Nat := 0x0013
def causeNamespaceDenied : Nat := 0x0014
def causeMapping : Nat := 0x0020
def causeExchange : Nat := 0x0021
def causeFabricPeer : Nat := 0x0022
def causeAbort : Nat := 0x0023
def causeRemoteUnmapped : Nat := 0x0030
def causeRemoteRange : Nat := 0x0031
def causeRemoteRegion : Nat := 0x0032
def causeRemoteData : Nat := 0x0033
def causeRemoteField : Nat := 0x0034
def causeReduceTree : Nat := 0x0035
def causeReduceMismatch : Nat := 0x0036
def causeBlockReset : Nat := 0x0040
def causeHostReset : Nat := 0x0041
def causeStackedUncorrectable : Nat := 0x0050
def causeTileParity : Nat := 0x0051
def causeSharedParity : Nat := 0x0052
def causeCopyUnrecoverable : Nat := 0x0053
def causeClassComplement : Nat := 0x0054
def causeUnsignedFetch : Nat := 0x0060

/-- The status that a cause gives the job (the fault-cause tables of chapters 05, 06, 07, 10, 15, 17 and 18). -/
def causeStatus (c : Nat) : Nat :=
  match c with
  | 0x0001 => 0x04
  | 0x0009 => 0x11
  | 0x000A => 0x30
  | 0x0010 => 0x33
  | 0x0013 => 0x11
  | 0x0014 => 0x40
  | 0x0022 => 0x50
  | 0x0023 => 0x32
  | 0x0030 => 0x03
  | 0x0032 => 0x33
  | 0x0033 => 0x11
  | 0x0040 => 0x32
  | 0x0041 => 0x32
  | 0x0050 => 0x11
  | 0x0051 => 0x11
  | 0x0052 => 0x11
  | 0x0053 => 0x11
  | 0x0054 => 0x04
  | 0x0060 => 0x41
  | _ => 0x01

/-! The stop snapshot (R164). -/

/-- Waiting time of an entity, the cycle in which it began counted as the first (R162). -/
def waited (since now : Nat) : Nat := now - since + 1

/-- The 128-bit wait record (Table: Wait record). -/
def waitRecord (kind : Nat) (expired : Bool) (h : W64) (word op w : Nat) : Nat :=
  2 ^ 127 + kind * 2 ^ 124 + b2n expired * 2 ^ 123 + (hWait0 h).1 * 2 ^ 117 + (hWait0 h).2 * 2 ^ 113
    + (hWait1 h).1 * 2 ^ 107 + (hWait1 h).2 * 2 ^ 103 + word % 2 ^ 40 * 2 ^ 56 + op * 2 ^ 48 + min w (2 ^ 32 - 1) * 2 ^ 16

/-- The wait record of an engine: its waiting head, or for PIN a started Caravan entry that waits for its group
(R178). `limit`: the delivered cycles after which a wait expires. -/
def engineRecord (x : Tile) (e : Engine) (kind now limit : Nat) : Nat × Bool :=
  let fromHead :=
    match x.queue e with
    | h :: _ =>
      match h.resolved, h.waitFrom with
      | false, some since =>
        let w := waited since now
        (waitRecord kind (decide (limit < w)) h.hdr h.word (if h.null then 0 else sOp h.slot) w, decide (limit < w))
      | _, _ => (0, false)
    | [] => (0, false)
  match e with
  | .pin =>
    match x.pin.find? (fun q => !q.null && !q.done && q.waitFrom.isSome && (sOp q.slot == 2 || sOp q.slot == 3)) with
    | some q =>
      let w := waited (q.waitFrom.getD now) now
      (waitRecord kind (decide (limit < w)) 0#64 q.word (sOp q.slot) w, decide (limit < w))
    | none => fromHead
  | _ => fromHead

/-- The wait record of the dispatcher. -/
def dispatcherRecord (x : Tile) (now limit : Nat) : Nat × Bool :=
  let w := waited x.holdFrom now
  match x.hold with
  | .headerWait => (waitRecord 4 (decide (limit < w)) x.holdHdr x.holdWord 0 w, decide (limit < w))
  | .barrierStep => (waitRecord 5 false 0#64 x.holdWord x.holdOp w, false)
  | .drain .step => (waitRecord 5 false 0#64 x.holdWord x.holdOp w, false)
  | .barrierWaypoint _ => (waitRecord 6 false 0#64 x.holdWord x.holdOp w, false)
  | .drain (.waypoint _) => (waitRecord 6 false 0#64 x.holdWord x.holdOp w, false)
  | .drain _ => (waitRecord 7 false 0#64 x.holdWord x.holdOp w, false)
  | _ => (0, false)

/-- disp_state of the tile status. -/
def dispState (x : Tile) : Nat :=
  match x.hold with
  | .headerWait => 4
  | .barrierStep => 5
  | .barrierWaypoint _ => 5
  | .drain _ => 6
  | .ended => 7
  | .none =>
    match Tbl.look x.buf x.rp with
    | none => 1
    | some h =>
      if engines.any (fun e => decide (Config.queueDepth ≤ (x.queue e).length)) then 2
      else if Config.trackers ≤ x.trackers.length && !(hWaits h ++ hSigs h).isEmpty then 3
      else 0

/-- The 256-bit tile status (Table: Tile status). -/
def tileStatus (x : Tile) : Nat :=
  x.rp % 2 ^ 40 * 2 ^ 216 + x.qArr.length * 2 ^ 206 + x.qVec.length * 2 ^ 196 + x.qPin.length * 2 ^ 186
    + x.qPout.length * 2 ^ 176 + x.trackers.length * 2 ^ 167
    + ((List.range 8).foldl (fun n c => if x.loops.any (fun l => l.ctr == c) then n + 2 ^ c else n) 0) * 2 ^ 159
    + dispState x * 2 ^ 156
    + (List.range 8).foldl (fun n c => n + Tbl.lookD x.ctrs c 0 * 2 ^ (16 * c + 28)) 0

/-- The 192 bytes of a tile block. -/
def tileBlock (x : Tile) (now limit : Nat) : List Byte :=
  (List.range 64).map (fun f => BitVec.ofNat 8 (x.flag f))
    ++ leBytes 16 (engineRecord x .arr 0 now limit).1 ++ leBytes 16 (engineRecord x .vec 1 now limit).1
    ++ leBytes 16 (engineRecord x .pin 2 now limit).1 ++ leBytes 16 (engineRecord x .pout 3 now limit).1
    ++ leBytes 16 (dispatcherRecord x now limit).1
    ++ (List.range 8).flatMap (fun c => leBytes 2 (((x.loops.find? (fun l => l.ctr == c)).map (·.index)).getD 0))
    ++ leBytes 32 (tileStatus x)

/-- Waits of a tile that have expired. -/
def expiredOf (x : Tile) (now limit : Nat) : Nat :=
  b2n (engineRecord x .arr 0 now limit).2 + b2n (engineRecord x .vec 1 now limit).2 + b2n (engineRecord x .pin 2 now limit).2
    + b2n (engineRecord x .pout 3 now limit).2 + b2n (dispatcherRecord x now limit).2

/-- Delivered cycles after which a wait expires (R162). -/
def waitLimit (j : Job) : Nat := jWaitTimeout j.desc * 1024

/-- The 512-bit snapshot header (Table: Stop snapshot header). -/
def snapshotHeader (j : Job) (r : StopRec) : Nat :=
  (r.at_ - j.startAt) % 2 ^ 64 * 2 ^ 448 + r.cause * 2 ^ 432 + r.status * 2 ^ 424 + r.firstTile * 2 ^ 417
    + (if r.outsideWait then 0 else r.firstKind) * 2 ^ 414 + min r.expired 1023 * 2 ^ 404 + j.tag * 2 ^ 372
    + min r.dropped (2 ^ 32 - 1) * 2 ^ 340 + r.faultWord % 2 ^ 40 * 2 ^ 300 + r.faultSlot * 2 ^ 297 + b2n r.outsideWait * 2 ^ 296

/-- Write the stop snapshot of the job to its diagnostic area (R163, R164). -/
def writeSnapshot (j : Job) (r : StopRec) (s : State) : State :=
  let limit := waitLimit j
  putStacked (jDiag j.desc + 0x1000)
    (leBytes 64 (snapshotHeader j r) ++ (List.range Config.tiles).flatMap (fun t => tileBlock (tileOf t s) r.at_ limit)) s

/-- A fault or an expired wait arises on the owner in the present cycle. The first decides the stop cycle; causes of the
same cycle compete, the lowest code and then the lowest tile winning (R163). Word 0 and slot 7: none. -/
def raiseFault (cause tile : Nat) (outside : Bool) (kind word slot : Nat) (s : State) : State :=
  match ownerJob s with
  | none => s
  | some (e, j) =>
    let now := s.tensor.delivered
    let exp := (List.range Config.tiles).foldl (fun n t => n + expiredOf (tileOf t s) now (waitLimit j)) 0
    let r : StopRec :=
      { cause := cause, status := causeStatus cause, firstTile := tile, outsideWait := outside, firstKind := kind,
        expired := exp, faultWord := word, faultSlot := slot, dropped := 0, cycle := s.tclk, at_ := now }
    let r' :=
      match j.stop with
      | none => some r
      | some o =>
        if o.cycle = s.tclk && (cause < o.cause || (cause == o.cause && tile < o.firstTile)) then
          some { r with dropped := o.dropped }
        else none
    match r' with
    | none => s
    | some r2 =>
      let j2 := { j with stop := some r2 }
      writeSnapshot j2 r2 (setJob e j2 s)

/-! Region modes (R186 to R188). -/

/-- A page is in exactly one entry of the set, with the mode wanted. -/
def pageInSet (set : List Region) (write : Bool) (page : Nat) : Bool :=
  match set.filter (fun r => decide (r.base ≤ page) && decide (page < r.base + r.pages)) with
  | [r] => r.writeOnly == write
  | _ => false

/-- Pages of a byte range. -/
def pagesOf (a n : Nat) : List Nat :=
  if n = 0 then [] else (List.range ((a + n - 1) / 4096 - a / 4096 + 1)).map (fun i => a / 4096 + i)

/-- A page lies in an Itinerary range of the phase in force: the range of a tile, or a library range of kind 0b01
(R129). -/
def inItinerary (j : Job) (page : Nat) (s : State) : Bool :=
  s.tensor.tiles.any (fun p => decide (p.2.rangeLo / 4096 ≤ page) && decide (page < p.2.rangeHi / 4096))
    || j.signed.any (fun r => r.1 == 1 && decide (r.2.1 < (page + 1) * 4096) && decide (page * 4096 < r.2.1 + r.2.2))

/-- Every page of a range in stacked memory allows the access under the step set in force (R186, R187). -/
def rangeAllowed (j : Job) (write : Bool) (a n : Nat) (s : State) : Bool :=
  (pagesOf a n).all (fun p =>
    pageInSet s.tensor.region.active write p || (!write && inItinerary j p s))

/-- Every page of a Porter transfer allows the access; shared memory is not subject to region modes (R186). -/
def transferAllowed (j : Job) (write : Bool) (rows : List Nat) (len : Nat) (s : State) : Bool :=
  rows.all (fun a => decide (Config.sharedBase ≤ a) || rangeAllowed j write a len s)

/-! Tile and shared memory. -/

def tileRead (x : Tile) (a n : Nat) : List Byte := Mem.read zeroByte x.mem a n
def tileWrite (x : Tile) (a : Nat) (bytes : List Byte) : Tile := { x with mem := Mem.write zeroByte x.mem a bytes }

/-- Window lines that the host may hold and that a device-side access touches are snooped first (R383): the access is clear
when it needs no snoop; else the snoops go out, as far as 64 in flight allow, and the access waits for their answers. -/
def hostClear (write : Bool) (spans : List (Nat × Nat)) (s : State) : Bool × State :=
  let w := windowBase s
  let hit := s.host.snoop.filter (fun x =>
    (write || x.exclusive) && spans.any (fun p => decide (p.1 < w + 64 * x.line + 64) && decide (w + 64 * x.line < p.1 + p.2)))
  let new := hit.filter (fun x => !s.host.biOut.any (fun b => b.line == x.line))
  (hit.isEmpty,
   { s with host := { s.host with biOut := s.host.biOut
      ++ (new.take (Config.snoopFlight - s.host.biOut.length)).map (fun x => { line := x.line, inv := write, sweep := false }) } })

/-- Read external memory for a job agent (R165). -/
def readExt (a n : Nat) (s : State) : Except (Nat × Nat) (List Byte) × State :=
  if Config.sharedBase ≤ a then (.ok (Mem.read zeroByte s.mem.shared a n), s) else readStacked a n s

/-- Write external memory for a job agent. -/
def writeExt (a : Nat) (bytes : List Byte) (s : State) : State :=
  if Config.sharedBase ≤ a then { s with mem := { s.mem with shared := Mem.write zeroByte s.mem.shared a bytes } }
  else putStacked a bytes s

/-- Read the rows of a transfer in order. -/
def readRows : List Nat → Nat → State → Except (Nat × Nat) (List Byte) × State
  | [], _, s => (.ok [], s)
  | a :: rest, n, s =>
    match readExt a n s with
    | (.error e, s1) => (.error e, s1)
    | (.ok b, s1) =>
      match readRows rest n s1 with
      | (.error e, s2) => (.error e, s2)
      | (.ok bs, s2) => (.ok (b ++ bs), s2)

/-- Write the rows of a transfer in order. -/
def writeRows : List Nat → Nat → List Byte → State → State
  | [], _, _, s => s
  | a :: rest, n, bytes, s => writeRows rest n (bytes.drop n) (writeExt a (bytes.take n) s)

end Sys2Proof.Machine
end

