-- ==== Sys2Proof/Machine/SlotCheck.lean ====
section
/-! DEFINITION. The checks of a Lenri word before dispatch (R158), with the slot checks of chapters 03 and 06. Each
check answers the causes that it finds; the lowest decides (R163). -/

namespace Sys2Proof.Machine

/-- Bytes of `n` elements of a format (Table: Format codes). -/
def elemBytes (fmt n : Nat) : Nat :=
  match fmt with
  | 0 => n * 2
  | 3 => n * 3 / 4
  | 4 => n * 3 / 4
  | 5 => n / 2
  | 8 => n * 4
  | 9 => n * 8
  | 10 => n * 4
  | _ => n

/-- MX formats with block scales: codes 0x1 to 0x6. -/
def isMx (fmt : Nat) : Bool := decide (1 ≤ fmt) && decide (fmt ≤ 6)

/-- A range of tile memory given in 64 B units lies in the 3 MiB (R106). -/
def inTile (unit_ n : Nat) : Bool := decide (unit_ * 64 + n ≤ Config.tileBytes)

/-! Grid instructions. -/

/-- K of an instruction: the reduction length (R79, R87). -/
def gK (s : BitVec 128) : Nat := if gFlow s then (if gFmt s = 5 then 256 else 128) else 32 * gKdim s
/-- Rows delivered: 128, or N (R79, R80). -/
def gRows (s : BitVec 128) : Nat := if gFlow s then 32 * gKdim s else 128
/-- T and d of the row-stationary dataflow. -/
def gT (s : BitVec 128) : Nat := 2 ^ gTaps s
def gD (s : BitVec 128) : Nat := gDil s + 1
/-- Elements C of a streaming line, and the U lines read. -/
def gC (s : BitVec 128) : Nat := gK s / gT s
def gU (s : BitVec 128) : Nat := gRows s + (gT s - 1) * gD s
/-- Elements of operand a and of operand b. -/
def gACount (s : BitVec 128) : Nat := if gFlow s then gU s * gC s else 128 * gK s
def gBCount (s : BitVec 128) : Nat := 128 * gK s

/-- The most taps of a format in the row-stationary dataflow (R82). -/
def maxT (fmt : Nat) : Nat := if fmt = 0 || fmt = 7 then 16 else if fmt = 5 then 8 else 4

/-- The conditions of R82 that the slot alone decides. `last`: the latest grid instruction for keep. -/
def gridSlotOk (s : BitVec 128) (last : Option (Bool × Nat × Bool)) : Bool :=
  decide (gFmt s ≤ 7) && (!(gAMxe s || gBMxe s) || isMx (gFmt s))
    && decide (1 ≤ gKdim s) && decide (gKdim s ≤ 256)
    && decide (1 ≤ gNValid s) && decide (gNValid s ≤ 128)
    && (if gFlow s then
          gMValid s == 0 && decide (gT s ≤ maxT (gFmt s)) && (!(gAMxe s || gBMxe s) || decide (gRows s ≤ 128))
            && (!gKeep s || last == some (true, gFmt s, gBMxe s))
        else decide (1 ≤ gMValid s) && decide (gMValid s ≤ 128) && gTaps s == 0 && gDil s == 0 && !gKeep s)
    && inTile (gAElem s) (elemBytes (gFmt s) (gACount s))
    && (gKeep s || inTile (gBElem s) (elemBytes (gFmt s) (gBCount s)))
    && inTile (gParam s) 64

/-! The grid parameter record (Table: Grid parameter record). -/

def prBits (p : BitVec 512) (hi lo : Nat) : Nat := bits p.toNat hi lo
def prOutFmt (p : BitVec 512) : Nat := prBits p 255 252
def prOutMxe (p : BitVec 512) : Bool := bit p.toNat 251
def prScaleRule (p : BitVec 512) : Nat := prBits p 250 249
def prLine (p : BitVec 512) : Bool := bit p.toNat 248
def prAccIn (p : BitVec 512) : Bool := bit p.toNat 247
def prAct (p : BitVec 512) : Nat := prBits p 246 243
def prScaleMode (p : BitVec 512) : Nat := prBits p 242 240
def prBiasMode (p : BitVec 512) : Nat := prBits p 239 238
def prReduce (p : BitVec 512) : Nat := prBits p 237 235
def prStats (p : BitVec 512) : Bool := bit p.toNat 234
def prScaleAddr (p : BitVec 512) : Nat := prBits p 191 176
def prBiasAddr (p : BitVec 512) : Nat := prBits p 175 160
def prReduceAddr (p : BitVec 512) : Nat := prBits p 159 144
def prOutBase (p : BitVec 512) : Nat := prBits p 127 112
def prOutSc (p : BitVec 512) : Nat := prBits p 111 96
def prOutSide (p : BitVec 512) : Nat := prBits p 95 80
def prAccAddr (p : BitVec 512) : Nat := prBits p 79 64
def prAScale (p : BitVec 512) : Nat := prBits p 63 48
def prASide (p : BitVec 512) : Nat := prBits p 47 32
def prBScale (p : BitVec 512) : Nat := prBits p 31 16
def prBSide (p : BitVec 512) : Nat := prBits p 15 0

/-- A byte range of tile memory: start and length. -/
abbrev Span := Nat × Nat

/-- Two ranges overlap. -/
def Span.overlaps (x y : Span) : Bool := decide (x.1 < y.1 + y.2) && decide (y.1 < x.1 + x.2) && x.2 != 0 && y.2 != 0

/-- The ranges that a grid instruction reads (R82: whole arrays). -/
def gridReads (s : BitVec 128) (p : BitVec 512) : List Span :=
  let mx := isMx (gFmt s)
  let rows := gRows s
  let span := fun (a n : Nat) => (a * 64, n)
  [span (gParam s) 64, span (gAElem s) (elemBytes (gFmt s) (gACount s))]
    ++ (if gKeep s then [] else [span (gBElem s) (elemBytes (gFmt s) (gBCount s))])
    ++ (if mx then [span (prAScale p) (gACount s / 32)] else [])
    ++ (if mx && !gKeep s then [span (prBScale p) (gBCount s / 32)] else [])
    ++ (if gAMxe s then [span (prASide p) (gACount s / 32 * 4)] else [])
    ++ (if gBMxe s && !gKeep s then [span (prBSide p) (gBCount s / 32 * 4)] else [])
    ++ (if prAccIn p then [span (prAccAddr p) (rows * 128 * 4)] else [])
    ++ (match prScaleMode p with
        | 1 => [span (prScaleAddr p) 4]
        | 2 => [span (prScaleAddr p) 512]
        | 3 => [span (prScaleAddr p) (rows * 4)]
        | 4 => [span (prScaleAddr p) (rows * 4 + 512)]
        | _ => [])
    ++ (match prBiasMode p with
        | 1 => [span (prBiasAddr p) 512]
        | 2 => [span (prBiasAddr p) (rows * 4)]
        | _ => [])
    ++ (if isMx (prOutFmt p) && prScaleRule p == 2 then [span (prOutSc p) (rows * 4)] else [])
    ++ (if prOutFmt p == 7 then [span (prOutSc p) 512] else [])

/-- The ranges that a grid instruction writes (R78, R82). -/
def gridWrites (s : BitVec 128) (p : BitVec 512) : List Span :=
  let rows := gRows s
  let span := fun (a n : Nat) => (a * 64, n)
  [span (prOutBase p) (elemBytes (prOutFmt p) (rows * 128))]
    ++ (if isMx (prOutFmt p) && prScaleRule p != 2 then [span (prOutSc p) (rows * 4)] else [])
    ++ (if prOutMxe p then [span (prOutSide p) (rows * 16)] else [])
    ++ (match prReduce p with
        | 0 => []
        | 5 => [span (prReduceAddr p) (rows * 8)]
        | _ => [span (prReduceAddr p) (rows * 4)])

/-- No two ranges of the list overlap. -/
def disjointSpans : List Span → Bool
  | [] => true
  | x :: xs => xs.all (fun y => !Span.overlaps x y) && disjointSpans xs

/-- The conditions of R82 on the parameter record. -/
def gridParamOk (s : BitVec 128) (p : BitVec 512) : Bool :=
  let of := prOutFmt p
  let reads := gridReads s p
  let writes := gridWrites s p
  (decide (of ≤ 8) || of == 10)
    && (!prOutMxe p || isMx of)
    && (gFmt s != 7 || prScaleMode p == 4 || (of == 10 && prScaleMode p == 0))
    && (prScaleMode p != 4 || gFmt s == 7)
    && (of != 10 || (gFmt s == 7 && prScaleMode p == 0 && prBiasMode p == 0 && prAct p == 0 && prReduce p != 4))
    && prScaleRule p != 3 && (prScaleRule p != 1 || prOutMxe p) && (prScaleRule p == 0 || isMx of)
    && decide (prAct p ≤ 6) && decide (prScaleMode p ≤ 4) && decide (prBiasMode p ≤ 2) && decide (prReduce p ≤ 5)
    && (reads ++ writes).all (fun r => decide (r.1 + r.2 ≤ Config.tileBytes))
    && disjointSpans writes && writes.all (fun w => reads.all (fun r => !Span.overlaps w r))

/-! Vector operations (R99, R136 to R138). -/

/-- Formats of the floating-point arithmetic. -/
def isFp (fmt : Nat) : Bool := fmt == 0 || fmt == 8 || fmt == 9

/-- What an opcode reads and writes: the number of its sources among src1, src2, src3. -/
inductive VecShape where
  | unary | binary | ternary | cmp | sel | scaleb | cvt | split2 | split3 | reduce | argmax | signpack | invalid
  deriving DecidableEq, Repr

/-- The shape of each opcode of Table: VEC opcodes, and whether it uses the rounding attribute. -/
def vecShape (op : Nat) : VecShape × Bool :=
  match op with
  | 0x01 => (.binary, true)
  | 0x02 => (.binary, true)
  | 0x03 => (.binary, true)
  | 0x04 => (.ternary, true)
  | 0x05 => (.binary, true)
  | 0x06 => (.unary, true)
  | 0x07 => (.binary, false)
  | 0x08 => (.binary, false)
  | 0x09 => (.binary, false)
  | 0x0A => (.binary, false)
  | 0x0B => (.cmp, false)
  | 0x0C => (.sel, false)
  | 0x0D => (.unary, false)
  | 0x0E => (.unary, false)
  | 0x0F => (.binary, false)
  | 0x10 => (.unary, true)
  | 0x11 => (.scaleb, true)
  | 0x12 => (.cvt, true)
  | 0x13 => (.split2, false)
  | 0x14 => (.split3, false)
  | 0x20 => (.reduce, true)
  | 0x21 => (.reduce, false)
  | 0x22 => (.reduce, false)
  | 0x23 => (.argmax, false)
  | 0x24 => (.signpack, false)
  | _ =>
    if 0x18 ≤ op && op ≤ 0x1F then (.unary, false)
    else if 0x28 ≤ op && op ≤ 0x2F then (.binary, false)
    else (.invalid, false)

/-- The source formats of each opcode (Table: Vector operations). -/
def vecFormatOk (op fmt : Nat) : Bool :=
  if op == 0x05 || op == 0x06 || op == 0x10 || op == 0x11 || (0x20 ≤ op && op ≤ 0x23) then fmt == 8 || fmt == 9
  else if op == 0x0C || op == 0x12 then decide (fmt ≤ 10)
  else if op == 0x13 || op == 0x14 || op == 0x24 || (0x18 ≤ op && op ≤ 0x1F) then fmt == 8
  else if 0x28 ≤ op && op ≤ 0x2F then fmt == 10
  else isFp fmt

/-- MX formats and MXINT8 carry block scales and side lists. -/
def cvtInto (s : BitVec 128) : Bool := isMx (vFmtD s)
def cvtOutOf (s : BitVec 128) : Bool := isMx (vFmtA s)

/-- Formats and modifiers of a CVT (R138). -/
def cvtOk (s : BitVec 128) : Bool :=
  let a := vFmtA s
  let d := vFmtD s
  let narrowA := decide (1 ≤ a) && decide (a ≤ 7)
  let narrowD := decide (1 ≤ d) && decide (d ≤ 7)
  let sub := vSub s
  decide (a ≤ 10) && decide (d ≤ 10)
    && (!narrowD || a == 8) && (!narrowA || d == 8)
    && (!(cvtInto s || cvtOutOf s) || vN s % 32 == 0)
    && sub % 8 == 0
    && (if cvtInto s then
          sub / 16 != 3 && (sub / 16 != 1 || bit sub 3)
        else if cvtOutOf s then sub / 16 == 0
        else sub == 0)

/-- The ranges that a vector operation reads (R137). -/
def vecReads (s : BitVec 128) : List Span :=
  let n := vN s
  let a := vFmtA s
  let e := elemBytes a n
  let mxe := bit (vSub s) 3
  match (vecShape (sOp s)).1 with
  | .unary => [(vSrc1 s * 64, e)]
  | .binary => [(vSrc1 s * 64, e), (vSrc2 s * 64, e)]
  | .ternary => [(vSrc1 s * 64, e), (vSrc2 s * 64, e), (vSrc3 s * 64, e)]
  | .cmp => [(vSrc1 s * 64, e), (vSrc2 s * 64, e)]
  | .sel => [(vSrc1 s * 64, e), (vSrc2 s * 64, e), (vSrc3 s * 64, n)]
  | .scaleb => [(vSrc1 s * 64, e), (vSrc2 s * 64, n * 4)]
  | .cvt =>
    [(vSrc1 s * 64, e)]
      ++ (if cvtInto s && vSub s / 16 == 2 then [(vSrc2 s * 64, n / 32)] else [])
      ++ (if vFmtD s == 7 then [(vSrc2 s * 64, 4)] else [])
      ++ (if cvtOutOf s then [(vSrc2 s * 64, n / 32)] else [])
      ++ (if cvtOutOf s && mxe then [(vSrc3 s * 64, n / 32 * 4)] else [])
  | .split2 => [(vSrc1 s * 64, e)]
  | .split3 => [(vSrc1 s * 64, e)]
  | .reduce => [(vSrc1 s * 64, e)]
  | .argmax => [(vSrc1 s * 64, e)]
  | .signpack => [(vSrc1 s * 64, e)]
  | .invalid => []

/-- The ranges that a vector operation writes (R137). -/
def vecWrites (s : BitVec 128) : List Span :=
  let n := vN s
  let d := elemBytes (vFmtD s) n
  let mxe := bit (vSub s) 3
  match (vecShape (sOp s)).1 with
  | .cmp => [(vDst s * 64, n)]
  | .cvt =>
    [(vDst s * 64, d)]
      ++ (if cvtInto s && vSub s / 16 != 2 then [(vSrc2 s * 64, n / 32)] else [])
      ++ (if cvtInto s && mxe then [(vSrc3 s * 64, n / 32 * 4)] else [])
  | .split2 => [(vDst s * 64, n * 2), (vSrc2 s * 64, n * 2)]
  | .split3 => [(vDst s * 64, n * 2), (vSrc2 s * 64, n * 2), (vSrc3 s * 64, n * 2)]
  | .reduce => [(vDst s * 64, elemBytes (vFmtA s) 1)]
  | .argmax => [(vDst s * 64, 4)]
  | .signpack => [(vDst s * 64, (n + 7) / 8)]
  | .invalid => []
  | _ => [(vDst s * 64, d)]

/-- Fields that the operation does not use are zero (R137). -/
def vecUnusedZero (s : BitVec 128) : Bool :=
  let z2 := vSrc2 s == 0
  let z3 := vSrc3 s == 0
  let mxe := bit (vSub s) 3
  (match (vecShape (sOp s)).1 with
    | .unary => z2 && z3
    | .binary => z3
    | .cmp => z3
    | .scaleb => z3
    | .cvt => (cvtInto s || cvtOutOf s || vFmtD s == 7 || z2) && (((cvtInto s || cvtOutOf s) && mxe) || z3)
    | .split2 => z3
    | .reduce => z2 && z3
    | .argmax => z2 && z3
    | .signpack => z2 && z3
    | _ => true)
    && ((vecShape (sOp s)).2 || vRnd s == 0)

/-- fmt_d as R137 gives it. -/
def vecFmtDOk (s : BitVec 128) : Bool :=
  match (vecShape (sOp s)).1 with
  | .cvt => true
  | .split2 => vFmtD s == 0
  | .split3 => vFmtD s == 0
  | .cmp => vFmtD s == 0
  | .signpack => vFmtD s == 0
  | .argmax => vFmtD s == 0
  | _ => vFmtD s == vFmtA s

/-- The modifier of every operation (Table: VEC modifiers). -/
def vecSubOk (s : BitVec 128) : Bool :=
  match (vecShape (sOp s)).1 with
  | .cmp =>
    let p := vSub s % 16
    vSub s / 32 == 0 && decide (p ≤ 11) && !(bit (vSub s) 4 && (p == 6 || p == 11))
  | .cvt => cvtOk s
  | _ => vSub s == 0

/-- A vector slot is valid (R99 to R102, R136 to R138). -/
def vecSlotOk (s : BitVec 128) : Bool :=
  vecFormatOk (sOp s) (vFmtA s) && vecFmtDOk s && vecSubOk s && decide (vRnd s ≤ 5) && decide (1 ≤ vN s)
    && (!vStats s || (sOp s == 0x12 && decide (vFmtD s ≤ 7))) && vecUnusedZero s
    && (!(sOp s == 0x0C && isMx (vFmtA s)) || vN s % 32 == 0)
    && (vecReads s ++ vecWrites s).all (fun r => decide (r.1 + r.2 ≤ Config.tileBytes))
    && (vecWrites s).all (fun w => (vecReads s).all (fun r => !Span.overlaps w r || w == r))

/-! Porter slots (R165, R170, R174, R180). -/

/-- The fields of a Porter descriptor (R170). -/
def porterFieldsOk (s : BitVec 128) : Bool :=
  decide (1 ≤ pLen s) && decide (pLen s * pRows s ≤ 49152) && (pRows s == 1 || decide (pLen s ≤ pPitch s))

/-- A row of external memory is mapped and, in stacked memory, in the job area (R165). -/
def extRowOk (a n : Nat) (s : State) : Bool := inAnyShared a n || inJobArea a n s

/-- The range checks of a Porter transfer. -/
def porterRangeOk (slot : BitVec 128) (ext : Bool) (s : State) : Bool :=
  inTile (pTile slot) (pBytes slot) && (!ext || (pRowAddrs slot).all (fun a => extRowOk a (pLen slot * 64) s))

/-- Whole units of a namespace (R180). -/
def nsUnits (n : Nat) (s : State) : Option Nat := (Tbl.look s.spaces n).map (fun x => x.blocks / 4)

/-- Causes that a Cellar slot gives (R179, R180). -/
def cellarCauses (j : Job) (slot : BitVec 128) (s : State) : List Nat :=
  (if sBits slot 14 0 != 0 || cUnits slot == 0 || (sOp slot == 4 && cFua slot) then [causeSlotField] else [])
    ++ (if inJobArea (pExt slot * 64) (cUnits slot * 16384) s then [] else [causeRange])
    ++ (if !bit (jNsGrant j.desc) (cNs slot) then [causeNamespaceDenied]
        else match nsUnits (cNs slot + 1) s with
          | some u => if cUnitOff slot + cUnits slot ≤ u then [] else [causeRange]
          | none => [causeRange])

/-- Causes that a Caravan slot gives on tile `t` (R174). -/
def caravanCauses (t : Nat) (slot : BitVec 128) (s : State) : List Nat :=
  let grp := Tbl.look s.tensor.caravans (pGroup slot)
  let roleOk :=
    match grp with
    | none => false
    | some g => if sOp slot == 2 then g.leader == t else g.leader != t && bit g.members.toNat t
  (if porterFieldsOk slot && sBits slot 5 0 == 0 && roleOk && (sOp slot == 2 || (pExt slot == 0 && pPitch slot == 0)) then []
    else if sOp slot == 3 && pExt slot == 0 && pPitch slot == 0 && decide (1 ≤ pLen slot)
        && decide (pLen slot * pRows slot ≤ 49152) && sBits slot 5 0 == 0 && roleOk then []
    else [causeSlotField])
    ++ (if porterRangeOk slot (sOp slot == 2) s then [] else [causeRange])

/-- Causes that a remote slot gives (R169, R170, R317): its external range is checked by the target, once it is an
address. Bit 0 of the variant is the format of an ADD, and zero otherwise. -/
def remoteCauses (isAdd : Bool) (slot : BitVec 128) : List Nat :=
  (if porterFieldsOk slot && (isAdd || !bit slot.toNat 0) then [] else [causeSlotField])
    ++ (if inTile (pTile slot) (pBytes slot) && (pRowAddrs slot).all (fun a => decide (a + pLen slot * 64 ≤ 2 ^ 40)) then []
        else [causeRange])

/-- reduce_id and fmt of a REDUCE (R325). -/
def rdId (s : BitVec 128) : Nat := sBits s 11 0
def rdFmt (s : BitVec 128) : Nat := sBits s 13 12

/-- Causes that a REDUCE slot gives (R325): one row, a result in the job area, and no use of the reserved reduce_id. -/
def reduceCauses (slot : BitVec 128) (s : State) : List Nat :=
  (if decide (1 ≤ pLen slot) && decide (pLen slot ≤ 49152) && pRows slot == 1 && decide (rdFmt slot ≤ 1) && rdId slot != 4095 then []
    else [causeSlotField])
    ++ (if inTile (pTile slot) (pBytes slot) && inJobArea (pExt slot * 64) (pBytes slot) s then [] else [causeRange])

/-- Causes of a PIN or POUT slot. -/
def porterCauses (t : Nat) (j : Job) (pout : Bool) (slot : BitVec 128) (s : State) : List Nat :=
  match pout, sOp slot with
  | false, 1 =>
    (if porterFieldsOk slot && pVariant slot == 0 then [] else [causeSlotField]) ++ (if porterRangeOk slot true s then [] else [causeRange])
  | false, 2 => caravanCauses t slot s
  | false, 3 => caravanCauses t slot s
  | false, 4 => cellarCauses j slot s
  | false, 5 => remoteCauses false slot
  | true, 1 =>
    (if porterFieldsOk slot && pVariant slot == 0 then [] else [causeSlotField]) ++ (if porterRangeOk slot true s then [] else [causeRange])
  | true, 2 => cellarCauses j slot s
  | true, 3 => remoteCauses false slot
  | true, 4 => remoteCauses true slot
  | true, 5 => reduceCauses slot s
  | true, 0x10 => if sBits slot 86 0 == 0 && sBits slot 90 87 != 0 then [] else [causeSlotField]
  | true, 0x11 => if sBits slot 74 0 == 0 && sBits slot 78 75 != 0 then [] else [causeSlotField]
  | _, _ => [causeSlotOpcode]

/-! SYNC and LOOP slots (R142, R146). -/

/-- Causes of a SYNC slot by itself. -/
def syncCauses (slot : BitVec 128) : List Nat :=
  let zeroBelow := fun (k : Nat) => if slot.toNat % 2 ^ k == 0 then [] else [causeSlotField]
  match sOp slot with
  | 1 => zeroBelow 85
  | 2 => zeroBelow 85
  | 3 => zeroBelow 79
  | 4 => zeroBelow 104
  | 5 => zeroBelow 104
  | 6 => zeroBelow 96
  | 7 => zeroBelow 104
  | 8 => zeroBelow 90
  | _ => [causeSlotOpcode]

def lCtr (s : BitVec 128) : Nat := sBits s 103 101
def lSrc (s : BitVec 128) : Bool := bit s.toNat 100
def lCount (s : BitVec 128) : Nat := sBits s 99 84
def lBody (s : BitVec 128) : Nat := sBits s 83 68
def lShift (s : BitVec 128) : Nat := sBits s 67 64
def lStride (s : BitVec 128) (k : Nat) : Int := sext 16 (sBits s (63 - 16 * k) (48 - 16 * k))

/-- Causes of a LOOP slot at the end `next` of its word (R146, R150). -/
def loopCauses (x : Tile) (slot : BitVec 128) (next : Nat) : List Nat :=
  if sOp slot != 1 then [causeSlotOpcode]
  else
    let stop := next + 8 * lBody slot
    (if !lSrc slot && lCount slot != 0 then [causeSlotField] else [])
      ++ (if x.loops.any (fun l => l.ctr == lCtr slot) || lBody slot == 0 || x.loops.any (fun l => decide (l.stop < stop))
          then [causeLoopNesting] else [])

/-! Indexing and predication (R151, R152). -/

/-- The loop that indexes a slot. -/
def indexLoop (x : Tile) (slot : BitVec 128) : Option LoopState := x.loops.find? (fun l => l.ctr == sIdxCtr slot)

/-- Add `k` to an unsigned field of `w` bits at [lo + w - 1:lo]; none when the result leaves the field (R151). -/
def addField (slot : BitVec 128) (lo w : Nat) (k : Int) : Option (BitVec 128) :=
  let v := (sBits slot (lo + w - 1) lo : Int) + k
  if 0 ≤ v && v < 2 ^ w then some (sPut slot (lo + w - 1) lo v.toNat) else none

/-- Add to several fields. -/
def addFields (slot : BitVec 128) : List (Nat × Nat × Int) → Option (BitVec 128)
  | [] => some slot
  | (lo, w, k) :: rest =>
    match addField slot lo w k with
    | some s => addFields s rest
    | none => none

/-- The address fields of an engine slot and what index `i` of loop `l` adds to them (R135, R136, R139, R179). -/
def indexFields (eng : Engine) (slot : BitVec 128) (l : LoopState) : List (Nat × Nat × Int) :=
  let i : Int := l.index
  let ext := i * (l.stride3 * 2 ^ l.extShift)
  match eng with
  | .arr => [(48, 16, i * l.stride0), (32, 16, i * l.stride1), (16, 16, i * l.stride2)]
  | .vec => [(48, 16, i * l.stride0), (32, 16, i * l.stride1), (16, 16, i * l.stride2), (0, 16, i * l.stride3)]
  | .pin => if sOp slot == 4 then [(32, 33, i * l.stride0), (70, 34, ext)] else [(54, 16, i * l.stride0), (70, 34, ext)]
  | .pout =>
    if sOp slot == 2 then [(32, 33, i * l.stride0), (70, 34, ext)]
    else if 0x10 ≤ sOp slot then []
    else [(54, 16, i * l.stride0), (70, 34, ext)]

/-- A slot after indexing, or the cause (R151). -/
def indexSlot (x : Tile) (eng : Engine) (slot : BitVec 128) : Except Nat (BitVec 128) :=
  if !sIdxEn slot then .ok slot
  else match indexLoop x slot with
    | none => .error causeIndexInactive
    | some l =>
      match addFields slot (indexFields eng slot l) with
      | some s => .ok s
      | none => .error causeRange

/-- The value of a comparator, or none when its loop is not active (R143). -/
def evalCmp (x : Tile) (c : Nat) : Option Bool :=
  match Tbl.look x.cmps c with
  | none => some false
  | some d =>
    let op :=
      if d.src then some (Tbl.lookD x.ctrs d.ctr 0)
      else (x.loops.find? (fun l => l.ctr == d.ctr)).map (·.index)
    op.map (fun v =>
      match d.rel with
      | 0 => v == d.const
      | 1 => v != d.const
      | 2 => decide (v < d.const)
      | _ => decide (d.const ≤ v))

/-- Whether a slot runs: its predicate agrees (R152); none: the comparator faults. -/
def predRuns (x : Tile) (slot : BitVec 128) : Option Bool :=
  if !sPredEn slot then some true else (evalCmp x (sPredCmp slot)).map (fun b => b == sPredPol slot)

/-! The word. -/

/-- Causes in the common fields (R133, R134). -/
def commonCauses (slot : BitVec 128) (engine : Bool) : List Nat :=
  let bad := (!sSigEn slot && sSigFlag slot != 0) || (!sIdxEn slot && sIdxCtr slot != 0)
    || (!sPredEn slot && (sPredCmp slot != 0 || sPredPol slot)) || (!engine && sIdxEn slot)
  if bad then [causeSlotField] else []

/-- Causes of an engine slot on tile `t`. -/
def engineCauses (t : Nat) (x : Tile) (j : Job) (eng : Engine) (slot : BitVec 128) (s : State) : List Nat :=
  commonCauses slot true
    ++ (if sOp slot == 0 then (if sBits slot 103 0 != 0 || sIdxEn slot then [causeSlotField] else [])
        else
          match indexSlot x eng slot with
          | .error c => [c]
          | .ok sl =>
            match eng with
            | .arr =>
              if sOp slot != 1 then [causeSlotOpcode]
              else if sBits sl 15 0 == 0 && gridSlotOk sl x.lastGrid then [] else [causeSlotField]
            | .vec =>
              if (vecShape (sOp slot)).1 == .invalid then [causeSlotOpcode]
              else if vecSlotOk sl then [] else [causeSlotField]
            | .pin => porterCauses t j false sl s
            | .pout => porterCauses t j true sl s)
    ++ (if (predRuns x slot).isNone then [causeIndexInactive] else [])

/-- Causes of the header (R131, R132, R134, R150). -/
def headerCauses (x : Tile) (j : Job) (h : W64) : List Nat :=
  let w0 := hWait0 h
  let w1 := hWait1 h
  let s0 := hSig0 h
  let s1 := hSig1 h
  let flagBad := fun (p : Nat × Nat) => p.2 == 0 && p.1 != 0
  let reserved := bit h.toNat 63 || (!hWaypoint h && hLr h != 0) || flagBad w0 || flagBad w1 || flagBad s0 || flagBad s1
    || (w0.2 != 0 && w1.2 != 0 && w0.1 == w1.1)
  (if reserved then [causeHeaderReserved] else [])
    ++ (if hWaypoint h && decide (jLrCount j.desc ≤ hLr h) then [causeRange] else [])
    ++ (match x.loops with
        | l :: _ => if l.stop < x.rp + 8 * wordUnits h then [causeLoopNesting] else []
        | [] => [])

/-- The units of a word at the read pointer, when all are in the fetch buffer. -/
def fetchWord (x : Tile) (h : W64) : Option (List W64) :=
  let us := (List.range (wordUnits h)).map (fun i => Tbl.look x.buf (x.rp + 8 * i))
  if us.all Option.isSome then some (us.map (fun o => o.getD 0#64)) else none

/-- A 128-bit slot from its two units, the lower first. -/
def slotOf (lo hi : W64) : BitVec 128 := hi ++ lo

/-- The slots of a word by position 0 (ARR) to 5 (LOOP). -/
def wordSlots (h : W64) (us : List W64) : List (Nat × BitVec 128) :=
  let present := (List.range 6).filter (fun i => bit (hMask h) i)
  (List.range present.length).map (fun k => (present.getD k 0, slotOf (us.getD (1 + 2 * k) 0#64) (us.getD (2 + 2 * k) 0#64)))

/-- The engine at a slot position. -/
def engineAt : Nat → Engine
  | 0 => .arr
  | 1 => .vec
  | 2 => .pin
  | _ => .pout

/-- Every cause that a word gives, with its slot position (7: the header). -/
def wordCauses (t : Nat) (x : Tile) (j : Job) (h : W64) (slots : List (Nat × BitVec 128)) (s : State) : List (Nat × Nat) :=
  (headerCauses x j h).map (fun c => (c, 7))
    ++ slots.flatMap (fun p =>
      (if p.1 < 4 then engineCauses t x j (engineAt p.1) p.2 s
       else commonCauses p.2 false ++ (if (predRuns x p.2).isNone then [causeIndexInactive] else [])
          ++ (if p.1 = 4 then syncCauses p.2 else loopCauses x p.2 (x.rp + 8 * wordUnits h))).map (fun c => (c, p.1)))

/-- The cause that decides: the lowest code. -/
def lowestCause : List (Nat × Nat) → Option (Nat × Nat)
  | [] => none
  | p :: ps =>
    match lowestCause ps with
    | none => some p
    | some q => if q.1 < p.1 then some q else some p

end Sys2Proof.Machine
end

