-- ==== Sys2Proof/Machine/Dispatcher.lean ====
section
/-! DEFINITION. The family of Itinerary commands: fetching, dispatch, entry starts, waits, SYNC and LOOP slots
(chapter 05). -/

namespace Sys2Proof.Machine

/-! Fetching (R127 to R130). -/

/-- Addresses of the body units that a short active loop keeps resident (R130). -/
def residentIn (x : Tile) (a : Nat) : Bool :=
  x.loops.any (fun l => decide (l.start ≤ a) && decide (a < l.stop) && decide (l.stop - l.start ≤ 8 * Config.residentUnits))

/-- Units that the read pointer has passed leave the buffer, unless a loop keeps them (R130). -/
def pruneBuf (x : Tile) : Tile := { x with buf := x.buf.filter (fun p => decide (x.rp ≤ p.1) || residentIn x p.1) }

/-- The first unit from `a` on that is not in the buffer (at most `k` units ahead). -/
def firstMissing (x : Tile) : Nat → Nat → Nat
  | a, 0 => a
  | a, k + 1 => if (Tbl.look x.buf a).isSome then firstMissing x (a + 8) k else a

/-- A job that passed the library check fetches only from its ranges of kind 0b01 (R515). -/
def fetchSigned (a : Nat) (s : State) : Bool :=
  match ownerJob s with
  | some (_, j) => j.signed.isEmpty || j.signed.any (fun r => r.1 == 1 && decide (r.2.1 ≤ a) && decide (a + 8 ≤ r.2.1 + r.2.2))
  | none => true

/-- Fetch units one after another into the buffer; a unit that cannot be recovered, or the first unit beyond the range,
faults the job (R128, R129). -/
def fetchUnits (t : Nat) : Nat → Nat → State → State
  | 0, _, s => s
  | k + 1, a, s =>
    let x := tileOf t s
    if Config.fetchUnits ≤ x.buf.length then s
    else if x.rangeHi < a + 8 then s
    else if !fetchSigned a s then raiseFault causeUnsignedFetch t true 0 a 7 s
    else if !(hostClear false [(a, 8)] s).1 then (hostClear false [(a, 8)] s).2
    else
      match readStacked a 8 s with
      | (.error _, s1) => raiseFault causeFetchUnrecoverable t true 0 a 7 s1
      | (.ok b, s1) =>
        fetchUnits t k (a + 8) (modTile t (fun y => { y with buf := Tbl.put y.buf a (BitVec.ofNat 64 (leNat b)) }) s1)

/-- ITINERARY_FETCH_RETURN (R128 to R130): a read of the fetcher returns `units` units from the first one missing. A
needed unit beyond the tile's Itinerary range faults the job with RANGE. -/
def execItineraryFetchReturn (tile : Fin 128) (units : Nat) (s : State) : Host.Outcome State Fault Refusal :=
  if !running s then .next s
  else
    let t := tile.val
    let x := tileOf t s
    if x.left then .next s
    else
      let a := firstMissing x x.rp Config.fetchUnits
      if x.rangeHi < a + 8 then
        -- the word at the read pointer needs a unit beyond the range
        let need := match Tbl.look x.buf x.rp with
          | some h => decide (a < x.rp + 8 * wordUnits h)
          | none => true
        if need then .next (raiseFault causeRange t true 0 x.rp 7 s) else .next s
      else .next (fetchUnits t units a s)

/-! Finishing a word. -/

/-- At the body end of the innermost active loop: the next iteration, or the loop exits and the next one is tested
(R149). Structural in the list of loops. -/
def iterateLoops : List LoopState → Nat → List LoopState × Nat
  | [], rp => ([], rp)
  | l :: rest, rp =>
    if rp = l.stop then
      if l.index + 1 < l.count then ({ l with index := l.index + 1 } :: rest, l.start)
      else iterateLoops rest rp
    else (l :: rest, rp)

/-- A longer body is fetched again for each iteration (R130). -/
def refetchLong (x : Tile) (rpBefore : Nat) : Tile :=
  if x.rp < rpBefore && !residentIn x x.rp then { x with buf := [] } else x

/-- The read pointer advances past the present word, or past the body of a skipped loop; loops iterate; the next word
may be dispatched. -/
def advanceWord (x : Tile) (w : CurWord) : Tile :=
  let rp := w.skipTo.getD (w.addr + 8 * w.units)
  let p := iterateLoops x.loops rp
  pruneBuf (refetchLong { x with loops := p.1, rp := p.2, cur := none, wpPassed := false } rp)

/-- Go on with the present word: nothing while a SYNC or LOOP slot or a hold is open; block on the waits of a word
without engine slots (R156); raise the signals of such a word; else finish it. -/
def continueWord (t : Nat) (s : State) : State :=
  let x := tileOf t s
  match x.cur with
  | none => s
  | some w =>
    if w.sync.isSome || w.loop.isSome || x.hold != .none then s
    else if !w.hasEngine && !(hWaits w.hdr).isEmpty && !w.waited then
      setTile t { x with hold := .headerWait, holdWord := w.addr, holdHdr := w.hdr, holdOp := 0, holdFrom := s.tensor.delivered } s
    else
      let s1 := if !w.hasEngine && w.waited then raiseSigs t (hSigs w.hdr) s else s
      modTile t (fun y => advanceWord y w) s1

/-! Dispatch (R152, R153, R157). -/

/-- The queue entry of an engine slot. -/
def entryOf (x : Tile) (eng : Engine) (slot : BitVec 128) (addr : Nat) (h : W64) (tracker : Option Nat) : QEntry :=
  let sl := match indexSlot x eng slot with
    | .ok s => s
    | .error _ => slot
  { slot := sl, id := 0, word := addr, hdr := h, tracker := tracker, null := predRuns x slot == some false,
    resolved := (hWaits h).isEmpty, waitFrom := none, done := false, left := 0, next := 0, lock := none }

/-- Append the entries of the engine slots to their queues. -/
def enqueue (h : W64) (addr : Nat) (tracker : Option Nat) (x0 : Tile) : List (Nat × BitVec 128) → Tile → Tile
  | [], x => x
  | (p, slot) :: rest, x =>
    if p < 4 then
      let e := entryOf x0 (engineAt p) slot addr h tracker
      let y := x.setQueue (engineAt p) (x.queue (engineAt p) ++ [e])
      let y' := if p = 0 && sOp slot == 1 && !e.null then { y with lastGrid := some (gFlow e.slot, gFmt e.slot, gBMxe e.slot) } else y
      enqueue h addr tracker x0 rest y'
    else enqueue h addr tracker x0 rest x

/-- Dispatch the checked word `h` with its slots: trackers, queues, and the pending SYNC and LOOP slots. A SYNC slot that
is predicated off only raises its sig_flag (R152). -/
def dispatchWord (t : Nat) (h : W64) (slots : List (Nat × BitVec 128)) (s : State) : State :=
  let x := tileOf t s
  let engs := slots.filter (fun p => decide (p.1 < 4))
  let hasEngine := !engs.isEmpty
  let needs := hasEngine && !(hWaits h ++ hSigs h).isEmpty
  let tracker := if needs then Tbl.freeKey x.trackers 0 Config.trackers else none
  if engs.any (fun p => decide (Config.queueDepth ≤ (x.queue (engineAt p.1)).length)) || (needs && tracker.isNone) then s
  else
    let x1 := enqueue h x.rp tracker x engs x
    let x2 := match tracker with
      | some k => { x1 with trackers := Tbl.put x1.trackers k { hdr := h, waits := !(hWaits h).isEmpty, out := engs.length } }
      | none => x1
    let sync := (slots.find? (fun p => p.1 == 4)).map (·.2)
    let loop := (slots.find? (fun p => p.1 == 5)).map (·.2)
    let syncOff := match sync with
      | some sl => predRuns x sl == some false
      | none => false
    let cur : CurWord :=
      { addr := x.rp, units := wordUnits h, hdr := h, sync := if syncOff then none else sync,
        loop := loop, hasEngine := hasEngine, skipTo := none, waited := false }
    let x3 := ({ x2 with cur := some cur }).noteHeads s.tensor.delivered
    let s1 := setTile t x3 s
    let s2 := if syncOff then raiseSigs t ((sync.bind sSig).toList.map (fun f => (f, 1))) s1 else s1
    let s3 := if !hasEngine && (hWaits h).isEmpty then raiseSigs t (hSigs h) s2 else s2
    continueWord t s3

/-- WORD_DISPATCH (R157 to R159): the word at the read pointer is checked; a Waypoint word first drains the tile; then it
is dispatched whole, unless its units are not all in the buffer, a queue is full or no tracker is free. -/
def execWordDispatch (tile : Fin 128) (s : State) : Host.Outcome State Fault Refusal :=
  let t := tile.val
  let x := tileOf t s
  match ownerJob s with
  | none => .next s
  | some (_, j) =>
    if !checking s || x.cur.isSome || x.hold != .none || x.left then .next s
    else match Tbl.look x.buf x.rp with
      | none => .next s
      | some h =>
        if !isCompl 6 (hMask h) (hMaskN h) then .next (raiseFault causeHeaderComplement t true 0 x.rp 7 s)
        else match fetchWord x h with
          | none => .next s
          | some us =>
            let slots := wordSlots h us
            match lowestCause (wordCauses t x j h slots s) with
            | some c => .next (raiseFault c.1 t true 0 x.rp c.2 s)
            | none =>
              if !running s then .next s
              else if hWaypoint h && !x.wpPassed then
                .next (setTile t { x with hold := .drain (.waypoint (hLr h)), holdWord := x.rp, holdOp := 0, holdSig := none,
                                          holdFrom := s.tensor.delivered } s)
              else .next (dispatchWord t h slots s)

/-- DISPATCHER_UNBLOCK (R156): the waits that block the dispatcher are satisfied, after those of the queue heads. -/
def execDispatcherUnblock (tile : Fin 128) (s : State) : Host.Outcome State Fault Refusal :=
  let t := tile.val
  if !running s then .next s
  else
    let x := (tileOf t s).examineTo .pout
    let s1 := setTile t x s
    match x.hold, x.cur with
    | .headerWait, some w =>
      if x.satisfied x.holdHdr then
        let y := x.consume x.holdHdr
        .next (continueWord t (setTile t { y with hold := .none, cur := some { w with waited := true } } s1))
      else .next s1
    | _, _ => .next s1

/-! Starting entries. -/

/-- Whether engine `e` can take the head of its queue now. The grid takes the next instruction once the present one's
stream has started (R85); the vector unit one at a time; a Porter four in flight (R171); a flag operation waits until
every earlier entry of its queue has completed (R140). -/
def canTake (x : Tile) (e : Engine) (q : QEntry) : Bool :=
  match e with
  | .arr => x.arr.isNone && x.grids.all (fun g => g.streaming)
  | .vec => x.vec.isNone
  | .pin => decide (x.pin.length < Config.porterFlight)
  | .pout => decide (x.pout.length < Config.porterFlight) && !(!q.null && decide (0x10 ≤ sOp q.slot) && !x.pout.isEmpty)
      && !x.pout.any (fun p => !p.null && decide (0x10 ≤ sOp p.slot) && !p.done)

/-- The access of a Porter entry that region modes govern: write or read, and its rows in external memory. -/
def entryAccess (e : Engine) (q : QEntry) : Option (Bool × List Nat × Nat) :=
  if q.null then none
  else match e, sOp q.slot with
    | .pin, 1 => some (false, pRowAddrs q.slot, pLen q.slot * 64)
    | .pin, 2 => some (false, pRowAddrs q.slot, pLen q.slot * 64)
    | .pin, 4 => some (true, [pExt q.slot * 64], cUnits q.slot * 16384)
    | .pout, 1 => some (true, pRowAddrs q.slot, pLen q.slot * 64)
    | .pout, 2 => some (false, [pExt q.slot * 64], cUnits q.slot * 16384)
    | _, _ => none

/-- Take the head of queue `e` (it has started). -/
def takeHead (x : Tile) (e : Engine) (q : QEntry) (now : Nat) : Tile :=
  let y := { (x.setQueue e ((x.queue e).drop 1)).noteHeads now with entryNext := x.entryNext + 1 }
  let q' := { q with id := x.entryNext, waitFrom := if e == .pin && !q.null && (sOp q.slot == 2 || sOp q.slot == 3) then some now else none }
  match e with
  | .arr => { y with arr := some q' }
  | .vec => { y with vec := some q' }
  | .pin => { y with pin := y.pin ++ [q'] }
  | .pout => { y with pout := y.pout ++ [q'] }

/-- ENGINE_ENTRY_START (R154, R171, R186): the heads are examined in order up to this engine; the head whose waits have
resolved starts when its engine can take it, once the region modes allow its transfer. -/
def execEngineEntryStart (tile : Fin 128) (eng : Engine) (s : State) : Host.Outcome State Fault Refusal :=
  let t := tile.val
  match ownerJob s with
  | none => .next s
  | some (_, j) =>
    if !checking s then .next s
    else
      let x := if running s then (tileOf t s).examineTo eng else tileOf t s
      let s1 := setTile t x s
      match x.queue eng with
      | [] => .next s1
      | q :: _ =>
        if !q.resolved || !canTake x eng q then .next s1
        else
          match entryAccess eng q with
          | some (wr, rows, n) =>
            if !transferAllowed j wr rows n s1 then .next (raiseFault causeRegionMode t true 0 q.word (if eng == .pin then 2 else 3) s1)
            else if running s then .next (setTile t (takeHead x eng q s.tensor.delivered) s1) else .next s1
          | none => if running s then .next (setTile t (takeHead x eng q s.tensor.delivered) s1) else .next s1

/-- The started entry of an engine that `p` picks completes and leaves the engine. -/
def finishTaken (t : Nat) (eng : Engine) (p : QEntry → Bool) (s : State) : State :=
  let x := tileOf t s
  match eng with
  | .arr =>
    match x.arr with
    | some q => if p q then completeEntry t q (setTile t { x with arr := none } s) else s
    | none => s
  | .vec =>
    match x.vec with
    | some q => if p q then completeEntry t q (setTile t { x with vec := none } s) else s
    | none => s
  | .pin =>
    -- entries of a Porter complete in queue order (R171): one that is done waits for the earlier ones
    match x.pin with
    | q :: rest =>
      if p q then completeEntry t q (setTile t { x with pin := rest } s)
      else setTile t { x with pin := x.pin.map (fun r => if p r then { r with done := true } else r) } s
    | [] => s
  | .pout =>
    match x.pout with
    | q :: rest =>
      if p q then completeEntry t q (setTile t { x with pout := rest } s)
      else setTile t { x with pout := x.pout.map (fun r => if p r then { r with done := true } else r) } s
    | [] => s

/-- NULL_ENTRY_RUN (R152): a started null entry takes one cycle of its engine, reads and writes nothing, completes and
raises its sig_flag. -/
def execNullEntryRun (tile : Fin 128) (eng : Engine) (s : State) : Host.Outcome State Fault Refusal :=
  if !draining s then .next s else .next (finishTaken tile.val eng (fun q => q.null) s)

/-- NOP (R133): a started NOP of an engine slot does nothing and completes. -/
def execNop (tile : Fin 128) (eng : Engine) (s : State) : Host.Outcome State Fault Refusal :=
  if !draining s then .next s else .next (finishTaken tile.val eng (fun q => !q.null && sOp q.slot == 0) s)

/-- Since when an entity waits (R162): a queue head, a started Caravan entry without its group, the dispatcher. -/
def waitSince (x : Tile) : WaitEntity → Option (Nat × Nat × Nat)
  | .head e =>
    let kind := match e with
      | .arr => 0
      | .vec => 1
      | .pin => 2
      | .pout => 3
    let caravan := if e == .pin then x.pin.find? (fun q => !q.null && !q.done && q.waitFrom.isSome && (sOp q.slot == 2 || sOp q.slot == 3)) else none
    match caravan with
    | some q => q.waitFrom.map (fun f => (f, kind, q.word))
    | none =>
      match x.queue e with
      | h :: _ => if h.resolved then none else h.waitFrom.map (fun f => (f, kind, h.word))
      | [] => none
  | .dispatcher => if x.hold == .headerWait then some (x.holdFrom, 4, x.holdWord) else none

/-- WAIT_TIMEOUT (R162): the wait of an entity has lasted more than wait_timeout × 1,024 delivered cycles, and does not
resolve in this cycle. -/
def execWaitTimeout (tile : Fin 128) (who : WaitEntity) (s : State) : Host.Outcome State Fault Refusal :=
  let t := tile.val
  match ownerJob s with
  | none => .next s
  | some (_, j) =>
    if !draining s then .next s
    else
      let x := if stopped s then tileOf t s else (tileOf t s).examineTo .pout
      match waitSince x who with
      | none => .next s
      | some (since, kind, _) =>
        if waitLimit j < waited since s.tensor.delivered && !(who == .dispatcher && x.satisfied x.holdHdr) then
          .next (raiseFault causeWaitTimeout t false kind 0 7 s)
        else .next s

/-! SYNC slots (R142 to R145). -/

/-- The pending SYNC slot of a tile with opcode `op`. -/
def pendingSync (t op : Nat) (s : State) : Option (BitVec 128) :=
  if !running s then none
  else match (tileOf t s).cur with
    | some w => if (tileOf t s).hold == .none then w.sync.bind (fun sl => if sOp sl == op then some sl else none) else none
    | none => none

/-- The SYNC slot of the present word has been executed. -/
def clearSync (x : Tile) : Tile := { x with cur := x.cur.map (fun w => { w with sync := none }) }

/-- Execute a SYNC slot that takes effect at once: `f` on the tile, then its sig_flag, then on with the word. -/
def runSync (t : Nat) (sl : BitVec 128) (f : Tile → Tile) (s : State) : State :=
  continueWord t (raiseSigs t ((sSig sl).toList.map (fun g => (g, 1))) (modTile t (fun x => f (clearSync x)) s))

/-- Execute a SYNC slot that drains the tile (R144). -/
def runDrain (t : Nat) (sl : BitVec 128) (k : DrainKind) (f : Tile → Tile) (s : State) : State :=
  modTile t (fun x =>
    { f (clearSync x) with
      hold := .drain k
      holdWord := (x.cur.map (·.addr)).getD 0
      holdOp := sOp sl
      holdSig := sSig sl
      holdFrom := s.tensor.delivered }) s

/-- SETCTR: counter register ctr ← value (R142, R148). -/
def execSetctr (tile : Fin 128) (s : State) : Host.Outcome State Fault Refusal :=
  match pendingSync tile.val 1 s with
  | none => .next s
  | some sl => .next (runSync tile.val sl (fun x => { x with ctrs := Tbl.put x.ctrs (sBits sl 103 101) (sBits sl 100 85) }) s)

/-- ADDCTR: counter register ctr ← ctr + addend, modulo 2^16 (R142). -/
def execAddctr (tile : Fin 128) (s : State) : Host.Outcome State Fault Refusal :=
  match pendingSync tile.val 2 s with
  | none => .next s
  | some sl =>
    .next (runSync tile.val sl (fun x =>
      { x with ctrs := Tbl.upd x.ctrs (sBits sl 103 101) 0 (fun v => (v + sBits sl 100 85) % 2 ^ 16) }) s)

/-- CMPSET: defines a comparator, evaluated at each predicated dispatch (R143). -/
def execCmpset (tile : Fin 128) (s : State) : Host.Outcome State Fault Refusal :=
  match pendingSync tile.val 3 s with
  | none => .next s
  | some sl =>
    let d : CmpDef := { ctr := sBits sl 100 98, src := bit sl.toNat 97, rel := sBits sl 96 95, const := sBits sl 94 79 }
    .next (runSync tile.val sl (fun x => { x with cmps := Tbl.put x.cmps (sBits sl 103 101) d }) s)

/-- FENCE: the tile drains (R144). -/
def execFence (tile : Fin 128) (s : State) : Host.Outcome State Fault Refusal :=
  match pendingSync tile.val 4 s with
  | none => .next s
  | some sl => .next (runDrain tile.val sl .fence id s)

/-- STEP: the tile drains, then waits at the job-wide step barrier (R144). -/
def execStepSlot (tile : Fin 128) (s : State) : Host.Outcome State Fault Refusal :=
  match pendingSync tile.val 5 s with
  | none => .next s
  | some sl => .next (runDrain tile.val sl .step id s)

/-- PHASE: the tile drains and ends its part in the phase, naming the next phase (R144). -/
def execPhaseSlot (tile : Fin 128) (s : State) : Host.Outcome State Fault Refusal :=
  match pendingSync tile.val 6 s with
  | none => .next s
  | some sl => .next (runDrain tile.val sl .phase (fun x => { x with left := true, nextPhase := some (sBits sl 103 96) }) s)

/-- END: the tile drains and ends its Itinerary (R144). -/
def execEndSlot (tile : Fin 128) (s : State) : Host.Outcome State Fault Refusal :=
  match pendingSync tile.val 7 s with
  | none => .next s
  | some sl => .next (runDrain tile.val sl .ending (fun x => { x with left := true, nextPhase := none }) s)

/-- FLAGINIT: flag ← value at once, overriding an increment of the same cycle (R145). -/
def execFlaginit (tile : Fin 128) (s : State) : Host.Outcome State Fault Refusal :=
  match pendingSync tile.val 8 s with
  | none => .next s
  | some sl =>
    let f := sBits sl 103 98
    let v := sBits sl 97 90
    .next (runSync tile.val sl (fun x => { x with flags := Tbl.put x.flags f v, inits := Tbl.put x.inits f v }) s)

/-- The loop state that a BEGIN makes active, its body starting at `start` (R146, R147). -/
def loopOf (sl : BitVec 128) (count start : Nat) : LoopState :=
  { ctr := lCtr sl, count := count, index := 0, start := start, stop := start + 8 * lBody sl, stride0 := lStride sl 0,
    stride1 := lStride sl 1, stride2 := lStride sl 2, stride3 := lStride sl 3, extShift := lShift sl }

/-- LOOP_BEGIN (R146, R147): latch the count, from the slot into the counter register or from the register; a count of
zero, or a predicate that is false after the word's SYNC slot, skips the body; else the loop is active with index 0. -/
def execLoopBegin (tile : Fin 128) (s : State) : Host.Outcome State Fault Refusal :=
  let t := tile.val
  let x := tileOf t s
  if !running s || x.hold != .none then .next s
  else match x.cur with
    | none => .next s
    | some w =>
      match w.loop with
      | none => .next s
      | some sl =>
        if w.sync.isSome then .next s
        else if (predRuns x sl).isNone then .next (raiseFault causeIndexInactive t true 0 w.addr 5 s)
        else
          let runs := predRuns x sl == some true
          let start := w.addr + 8 * w.units
          let ctrs := if runs && lSrc sl then Tbl.put x.ctrs (lCtr sl) (lCount sl) else x.ctrs
          let count := if runs then Tbl.lookD ctrs (lCtr sl) 0 else 0
          let x1 :=
            if count = 0 then { x with ctrs := ctrs, cur := some { w with loop := none, skipTo := some (start + 8 * lBody sl) } }
            else { x with ctrs := ctrs, cur := some { w with loop := none }, loops := loopOf sl count start :: x.loops }
          let s1 := raiseSigs t ((sSig sl).toList.map (fun g => (g, 1))) (setTile t x1 s)
          .next (continueWord t s1)

end Sys2Proof.Machine
end

