-- ==== Sys2Proof/Machine/Fabric.lean ====
section
/-! DEFINITION. The family of fabric commands that concern ports, flits and routes (R300 to R317), and forming and sending
parcels. What a parcel does at its destination is in Parcels.lean. -/

namespace Sys2Proof.Machine

/-! Access. -/

def portOf (p : Nat) (s : State) : Port := Tbl.lookD s.fabric.ports p Port.reset

def setPort (p : Nat) (q : Port) (s : State) : State := { s with fabric := { s.fabric with ports := Tbl.put s.fabric.ports p q } }

def modPort (p : Nat) (f : Port → Port) (s : State) : State := setPort p (f (portOf p s)) s

/-- The port is UP: flits flow. -/
def portUp (p : Nat) (s : State) : Bool := (portOf p s).state == 5

/-! The parcel header (Table: Parcel header). -/

def phOp (p : Parcel) : Nat := bits p.header.toNat 255 252
def phDst (p : Parcel) : Nat := bits p.header.toNat 251 240
def phSrc (p : Parcel) : Nat := bits p.header.toNat 239 228
def phCtx (p : Parcel) : Nat := bits p.header.toNat 227 216
def phHops (p : Parcel) : Nat := bits p.header.toNat 215 211
def phPath (p : Parcel) : Bool := bit p.header.toNat 210
def phFmt (p : Parcel) : Nat := bits p.header.toNat 209 208
def phTag (p : Parcel) : Nat := bits p.header.toNat 207 192
def phWords (p : Parcel) : Nat := bits p.header.toNat 191 182
def phAddr (p : Parcel) : Nat := bits p.header.toNat 181 142
def phSpec (p : Parcel) : Nat := bits p.header.toNat 141 72
def phRsp (p : Parcel) : Nat := bits p.header.toNat 71 64

/-- Bits [hi:lo] of the header within opspec. -/
def phBits (p : Parcel) (hi lo : Nat) : Nat := bits p.header.toNat hi lo

/-- hop_limit as it acts (KYB_FABRIC_CTRL). -/
def hopLimit (s : State) : Nat := max 1 s.fabric.hopLimit

/-- Form a parcel of this device. opspec stands in bits [141:72]. -/
def mkParcel (op dst ctx : Nat) (path : Bool) (fmt tag addr spec rsp : Nat) (payload : List W64) (s : State) : Parcel :=
  { header := BitVec.ofNat 256
      (op * 2 ^ 252 + dst % 4096 * 2 ^ 240 + s.fabric.id * 2 ^ 228 + ctx % 4096 * 2 ^ 216 + hopLimit s * 2 ^ 211
        + b2n path * 2 ^ 210 + fmt % 4 * 2 ^ 208 + tag % 65536 * 2 ^ 192 + payload.length * 2 ^ 182
        + addr % 2 ^ 40 * 2 ^ 142 + spec % 2 ^ 70 * 2 ^ 72 + rsp % 256 * 2 ^ 64)
    payload := payload }

/-- The words of a parcel on a channel: the header first, its lowest word first. -/
def parcelWords (p : Parcel) : List W64 :=
  [p.header.extractLsb' 0 64, p.header.extractLsb' 64 64, p.header.extractLsb' 128 64, p.header.extractLsb' 192 64] ++ p.payload

/-- The virtual channel of an operation (Table: Parcel operations): 0 REQ, 1 RSP, 2 RED. -/
def channelOf (op : Nat) : Nat := if op = 5 || op = 6 then 2 else if op = 8 || op = 9 || op = 10 then 1 else 0

def Port.tx (q : Port) (vc : Nat) : TxChannel := if vc = 0 then q.txReq else if vc = 1 then q.txRsp else q.txRed

def Port.setTx (q : Port) (vc : Nat) (c : TxChannel) : Port :=
  if vc = 0 then { q with txReq := c } else if vc = 1 then { q with txRsp := c } else { q with txRed := c }

/-! Routing (R313, R314, R322). -/

def routeOf (d : Nat) (s : State) : Nat := (Tbl.lookD s.fabric.routes d 0#64).toNat
def rValid (e : Nat) : Bool := bit e 63
def rPort (e : Nat) : Nat := bits e 62 59
def rAltValid (e : Nat) : Bool := bit e 58
def rAltPort (e : Nat) : Nat := bits e 57 54
def rMember (e : Nat) : Bool := bit e 48
def rParent (e : Nat) : Nat := bits e 47 36
def rChildren (e : Nat) : Nat := bits e 35 24

/-- The output port of a parcel, if any: alt_port when its header says so, or when only that is UP (R314, R322). -/
def routePort (p : Parcel) (s : State) : Option Nat :=
  let e := routeOf (phDst p) s
  if !rValid e then none
  else if phPath p then
    (if rAltValid e && portUp (rAltPort e) s then some (rAltPort e) else if portUp (rPort e) s then some (rPort e) else none)
  else if portUp (rPort e) s then some (rPort e)
  else if rAltValid e && portUp (rAltPort e) s then some (rAltPort e)
  else none

/-- Put a parcel into the queue of its channel at a port. -/
def queueAt (n : Nat) (p : Parcel) (s : State) : State :=
  let vc := channelOf (phOp p)
  modPort n (fun q => q.setTx vc { q.tx vc with queue := (q.tx vc).queue ++ [p] }) s

/-- A response parcel to the sender of a request (R319, R321). -/
def rspParcel (p : Parcel) (code : Nat) (s : State) : Parcel := mkParcel 9 (phSrc p) 0 false 0 (phTag p) 0 0 code [] s

/-- An operation that expects an answer. -/
def wantsAnswer (p : Parcel) : Bool := decide (1 ≤ phOp p) && decide (phOp p ≤ 7)

/-- Send a parcel of this device: to its output port, or, where its destination is unreachable, answered UNREACHABLE; the
answer to a request of this device appears at port K0 (R322; log 21). -/
def sendParcel (p : Parcel) (s : State) : State :=
  match routePort p s with
  | some n => queueAt n p s
  | none =>
    if wantsAnswer p then
      modPort 0 (fun q => { q with inbox := q.inbox ++ [{ (mkParcel 9 s.fabric.id 0 false 0 (phTag p) 0 0 5 [] s) with
        header := BitVec.ofNat 256 ((mkParcel 9 s.fabric.id 0 false 0 (phTag p) 0 0 5 [] s).header.toNat
          - s.fabric.id * 2 ^ 228 + phDst p * 2 ^ 228) }] }) s
    else s

/-- Answer a request. -/
def answer (p : Parcel) (code : Nat) (s : State) : State := sendParcel (rspParcel p code s) s

/-- A request of this device: it takes a tag, and is sent (R321, R324). -/
def sendRequest (op dst ctx : Nat) (path : Bool) (fmt addr spec : Nat) (payload : List W64) (f : ReqFor) (s : State) : State :=
  let tag := ((Tbl.freeKey s.fabric.reqs s.fabric.tagNext (65536 - s.fabric.tagNext)).orElse
    (fun _ => Tbl.freeKey s.fabric.reqs 0 s.fabric.tagNext)).getD s.fabric.tagNext
  let p := mkParcel op dst ctx path fmt tag addr spec 0 payload s
  let s1 := { s with fabric := { s.fabric with
    reqs := Tbl.put s.fabric.reqs tag { parcel := p, for_ := f, resends := 0 }, tagNext := (tag + 1) % 65536 } }
  sendParcel p s1

/-- The hop limit ran out: counted, and logged at most once a second (R315). -/
def hopDrop (n : Nat) (s : State) : State :=
  let s1 := bump 4 n 8 1 s
  let quiet := match s.fabric.hopLogged with
    | some t => decide (s.tclk < t + 1000000 * Config.tclkPerUs)
    | none => false
  if quiet then s1
  else { logEvent .kybHopLimit 0 s1 with fabric := { (logEvent .kybHopLimit 0 s1).fabric with hopLogged := some s.tclk } }

/-- Flits that a parcel's words take. -/
def parcelFlits (p : Parcel) : Nat := (4 + p.payload.length + 30) / 31

/-- A whole parcel has arrived at port `n`: kept for this device, or forwarded with one hop less (R311, R315, R322). -/
def arriveParcel (n : Nat) (p : Parcel) (s : State) : State :=
  if phDst p = s.fabric.id then
    (if phOp p = 0 || 0xA < phOp p then answer p 6 s else modPort n (fun q => { q with inbox := q.inbox ++ [p] }) s)
  else if phHops p = 0 then
    let s1 := hopDrop n s
    if wantsAnswer p then answer p 5 s1 else s1
  else
    let p' : Parcel := { p with header := p.header - BitVec.ofNat 256 (2 ^ 211) }
    match routePort p' s with
    | some m => bump 4 n 7 (parcelFlits p) (queueAt m p' s)
    | none => if wantsAnswer p then answer p 5 s else s

/-! Assembling parcels. -/

/-- The header of the first four words. -/
def headerOf (ws : List W64) : BitVec 256 := (ws.getD 3 0) ++ (ws.getD 2 0) ++ (ws.getD 1 0) ++ (ws.getD 0 0)

/-- Feed body words into an assembly: what is left of it, and the parcels completed. Four words of zeros end the body: it
is not filled (log 22). -/
def feed : List W64 → List W64 → List Parcel → List W64 × List Parcel
  | [], acc, out => (acc, out)
  | w :: ws, acc, out =>
    let acc' := acc ++ [w]
    if acc'.length < 4 then feed ws acc' out
    else
      let h := headerOf acc'
      let n := bits h.toNat 191 182
      if h = 0 then ([], out)
      else if 4 + n ≤ acc'.length then feed ws [] (out ++ [{ header := h, payload := acc'.drop 4 }])
      else feed ws acc' out

def Port.asm (q : Port) (vc : Nat) : List W64 := if vc = 0 then q.asmReq else if vc = 1 then q.asmRsp else q.asmRed

def Port.setAsm (q : Port) (vc : Nat) (ws : List W64) : Port :=
  if vc = 0 then { q with asmReq := ws } else if vc = 1 then { q with asmRsp := ws } else { q with asmRed := ws }

/-! The flit header (Table: Flit header). -/

def flitWord (f : Flit) (i : Nat) : Nat := (f.words.getD i 0#72).toNat
def flitHeader (f : Flit) : Nat := flitWord f 0 % 2 ^ 64
def fhSeq (h : Nat) : Nat := bits h 63 52
def fhAck (h : Nat) : Nat := bits h 51 40
def fhKind (h : Nat) : Nat := bits h 39 38
def fhVc (h : Nat) : Nat := bits h 37 36
def fhFirst (h : Nat) : Nat := bits h 35 31

/-- Words of a flit whose syndrome is not zero (R307, R308). -/
def badWords (f : Flit) : Nat := (f.words.filter (fun w => w72Syndrome w.toNat != 0)).length

/-- Acknowledgement up to `ack`: the replay buffer keeps the later flits, in numbers modulo 4,096 (R308). -/
def Port.acked (q : Port) (ack : Nat) : Port :=
  let rest := q.replay.filter (fun f => decide (2048 ≤ (ack + 4096 - f.seq) % 4096))
  { q with replay := rest, replays := if rest.length < q.replay.length then 0 else q.replays }

/-- Credits that a flit header returns (R309). -/
def Port.credit (q : Port) (h : Nat) : Port :=
  { q with
    txReq := { q.txReq with credits := q.txReq.credits + bits h 29 20 }
    txRsp := { q.txRsp with credits := q.txRsp.credits + bits h 19 10 }
    txRed := { q.txRed with credits := q.txRed.credits + bits h 9 0 } }

/-- The header of a flit that goes out. -/
def mkFlitHeader (q : Port) (seq kind vc first : Nat) : Nat :=
  seq * 2 ^ 52 + (q.rxSeq + 4095) % 4096 * 2 ^ 40 + kind * 2 ^ 38 + vc * 2 ^ 36 + first * 2 ^ 31
    + min q.txReq.owed 1023 * 2 ^ 20 + min q.txRsp.owed 1023 * 2 ^ 10 + min q.txRed.owed 1023

/-- After a flit has gone out, the credits that it returned are no longer owed, and what came in is acknowledged. -/
def Port.returned (q : Port) : Port :=
  { q with
    txReq := { q.txReq with owed := q.txReq.owed - min q.txReq.owed 1023 }
    txRsp := { q.txRsp with owed := q.txRsp.owed - min q.txRsp.owed 1023 }
    txRed := { q.txRed with owed := q.txRed.owed - min q.txRed.owed 1023 }
    rxSince := 0 }

/-- Encode the 32 words of a flit. -/
def encodeWords (h : Nat) (body : List W64) : List W72 :=
  BitVec.ofNat 72 (w72Encode h) :: (padTo 31 0#64 body).map (fun w => BitVec.ofNat 72 (w72Encode w.toNat))

/-- An idle flit or a replay request goes out. -/
def sendControl (n kind : Nat) (s : State) : State :=
  modPort n (fun q => { q.returned with lastSent := encodeWords (mkFlitHeader q q.txSeq kind 0 0) [] }) s

/-! Flits. -/

/-- DATA_FLIT_RECEIVE (R308, R309): accepted when it decoded, every word is clean and its number is the next; else it and
every later flit are discarded until the replay, for which one request goes out. -/
def execDataFlitReceive (port : Fin 16) (flit : Flit) (s : State) : Host.Outcome State Fault Refusal :=
  let n := port.val
  let q := portOf n s
  let h := flitHeader flit
  let bad := badWords flit
  if q.state != 5 then .next s
  else if !flit.fecOk || bad != 0 || fhKind h != 1 || fhVc h == 3 || fhSeq h != q.rxSeq then
    let s1 := bump 4 n 5 bad (bump 4 n 4 (b2n (!flit.fecOk)) s)
    if q.rxWait then .next s1
    else .next (sendControl n 2 (bump 4 n 2 1 (modPort n (fun r => { r with rxWait := true }) s1)))
  else
    let vc := fhVc h
    let body := (flit.words.drop 1).map (fun w => w.extractLsb' 0 64)
    let start := if fhFirst h = 1 then [] else q.asm vc
    let r := feed body start []
    let q1 := (((q.acked (fhAck h)).credit h).setAsm vc r.1)
    let q2 := { q1 with rxSeq := (q.rxSeq + 1) % 4096, rxWait := false, rxSince := q.rxSince + 1 }
    let q3 := q2.setTx vc { q2.tx vc with owed := (q2.tx vc).owed + 1 }
    let s1 := bump 4 n 1 1 (setPort n q3 s)
    let s2 := r.2.foldl (fun acc p => arriveParcel n p acc) s1
    .next (if 64 ≤ q3.rxSince then sendControl n 0 s2 else s2)

/-- IDLE_FLIT_RECEIVE (R306): acknowledgements and credit returns. -/
def execIdleFlitReceive (port : Fin 16) (flit : Flit) (s : State) : Host.Outcome State Fault Refusal :=
  let q := portOf port.val s
  let h := flitHeader flit
  if q.state != 5 || !flit.fecOk || w72Syndrome (flitWord flit 0) != 0 || fhKind h != 0 then .next s
  else .next (setPort port.val ((q.acked (fhAck h)).credit h) s)

/-- REPLAY_REQUEST_RECEIVE (R308): what follows the acknowledged flit is sent again in order; the eighth replay of one flit
in a row starts a fast retrain. -/
def execReplayRequestReceive (port : Fin 16) (flit : Flit) (s : State) : Host.Outcome State Fault Refusal :=
  let q := portOf port.val s
  let h := flitHeader flit
  if q.state != 5 || !flit.fecOk || w72Syndrome (flitWord flit 0) != 0 || fhKind h != 2 then .next s
  else
    let q1 := (q.acked (fhAck h)).credit h
    match q1.replay with
    | [] => .next (setPort port.val q1 s)
    | f :: _ =>
      let k := q1.replays + 1
      .next (setPort port.val { q1 with replays := if k = 8 then 0 else k, state := if k = 8 then 7 else 5, lastSent := f.words } s)

/-- ACK_TIMER (R308): flits received since the last acknowledgement are acknowledged. -/
def execAckTimer (port : Fin 16) (s : State) : Host.Outcome State Fault Refusal :=
  let q := portOf port.val s
  if q.state != 5 || q.rxSince = 0 then .next s else .next (sendControl port.val 0 s)

/-- Fill a flit body: words of the parcel under way, then whole parcels back to back; what is left over, and the body word
at which the first header starts (R306, R309). -/
def fillBody : List Parcel → List W64 → List W64 → Nat → List W64 × Nat × List W64 × List Parcel
  | q, body, rest, first =>
    if 31 ≤ (body ++ rest).length then ((body ++ rest).take 31, first, (body ++ rest).drop 31, q)
    else match q with
      | [] => (body ++ rest, first, [], [])
      | p :: ps =>
        let b := body ++ rest
        fillBody ps b (parcelWords p) (if first = 0 then b.length + 1 else first)

/-- FLIT_SEND (R306, R308, R309): one data flit of a virtual channel goes out, for a credit, and stays in the replay
buffer. -/
def execFlitSend (port : Fin 16) (vc : Fin 3) (s : State) : Host.Outcome State Fault Refusal :=
  let n := port.val
  let q := portOf n s
  let c := q.tx vc.val
  if q.state != 5 || c.credits = 0 || (c.queue.isEmpty && c.rest.isEmpty) || Config.replayFlits ≤ q.replay.length then .next s
  else
    let r := fillBody c.queue [] c.rest 0
    let words := encodeWords (mkFlitHeader q q.txSeq 1 vc.val r.2.1) r.1
    let q1 := (q.returned).setTx vc.val { (q.returned).tx vc.val with queue := r.2.2.2, rest := r.2.2.1, credits := c.credits - 1 }
    let q2 := { q1 with txSeq := (q.txSeq + 1) % 4096, replay := q.replay ++ [{ seq := q.txSeq, words := words }], lastSent := words }
    .next (bump 4 n 0 1 (setPort n q2 s))

/-! Ports going down and training (R301 to R305, R323). -/

/-- Find a new way for a parcel that waited at a port that went down (R323). -/
def requeue (s : State) (p : Parcel) : State :=
  match routePort p s with
  | some m => queueAt m p s
  | none =>
    if !wantsAnswer p then s
    else if phSrc p = s.fabric.id then sendParcel p s
    else answer p 5 s

/-- A port goes down: logged, its replay buffer discarded, its queued parcels moved or answered, and it trains again, waits
for its engine to cool, or stays DISABLED (R304, R323). -/
def portDown (n : Nat) (laser : Bool) (s : State) : State :=
  let q := portOf n s
  let queued := q.txReq.queue ++ q.txRsp.queue ++ q.txRed.queue
  let q1 := { q with
    state := if !q.enable then 0 else if laser then 6 else 1
    lanes := 3, quads := 0, healthy := 0, failLogged := false, laserWait := laser && q.enable
    txSeq := 0, replay := [], replays := 0, rxSeq := 0, rxWait := false, rxSince := 0, asmReq := [], asmRsp := [], asmRed := []
    txReq := TxChannel.reset Config.creditsReq, txRsp := TxChannel.reset Config.creditsRsp
    txRed := TxChannel.reset Config.creditsRed }
  queued.foldl requeue (logEvent .kybLinkDown (detailWords [n]) (setPort n q1 s))

/-- The port is UP or in a fast retrain. -/
def portLinked (q : Port) : Bool := q.state == 5 || q.state == 7

/-- Fabric ports have been released (the last step of the release order). -/
def fabricReleased (s : State) : Bool := released 8 s && s.host.pstate != 3

/-- KYB_PORT_CTRL.enable = 1: the port trains, once the fabric has been released. -/
def enablePort (p : Nat) (s : State) : State :=
  let q := portOf p s
  if q.enable && q.state != 0 then s
  else setPort p { q with enable := true, state := if fabricReleased s then 1 else 0, failLogged := false } s

/-- KYB_PORT_CTRL.enable = 0: lasers off, the port is DISABLED. -/
def disablePort (p : Nat) (s : State) : State :=
  let q := portOf p s
  if portLinked q then portDown p false (setPort p { q with enable := false } s)
  else setPort p { q with enable := false, state := 0, laserWait := false } s

/-- KYB_PORT_CTRL.retrain: a full training starts; one in progress starts again. -/
def retrainPort (p : Nat) (s : State) : State :=
  let q := portOf p s
  if !q.enable || !fabricReleased s || q.laserWait then s else setPort p { q with state := 1, lanes := 3, quads := 0 } s

/-- PORT_ENABLE (R301): a DISABLED port starts training; its first failure will be logged. -/
def execPortEnable (port : Fin 16) (s : State) : Host.Outcome State Fault Refusal :=
  .next (regWrite 8 false (enablePort port.val) s)

/-- PORT_DISABLE (R304): lasers off; a port that was linked goes down. -/
def execPortDisable (port : Fin 16) (s : State) : Host.Outcome State Fault Refusal :=
  .next (regWrite 8 false (disablePort port.val) s)

/-- PORT_RETRAIN (R303): a full training starts, or one in progress restarts. -/
def execPortRetrain (port : Fin 16) (s : State) : Host.Outcome State Fault Refusal :=
  .next (regWrite 8 false (retrainPort port.val) s)

/-- SIGNAL_DETECTED (R301): SIGNAL ends, EQUALISE starts. -/
def execSignalDetected (port : Fin 16) (s : State) : Host.Outcome State Fault Refusal :=
  let q := portOf port.val s
  if q.state = 1 then .next (setPort port.val { q with state := 2 } s) else .next s

/-- EQUALISE_COMPLETE (R301): ALIGN starts. -/
def execEqualiseComplete (port : Fin 16) (s : State) : Host.Outcome State Fault Refusal :=
  let q := portOf port.val s
  if q.state = 2 then .next (setPort port.val { q with state := 3 } s) else .next s

/-- ALIGN_COMPLETE (R302): the healthy quads are known, EXCHANGE starts. -/
def execAlignComplete (port : Fin 16) (healthy : BitVec 4) (s : State) : Host.Outcome State Fault Refusal :=
  let q := portOf port.val s
  if q.state = 3 then .next (setPort port.val { q with state := 4, healthy := healthy.toNat } s) else .next s

/-- Quads that a max_lanes code allows. -/
def laneCap (code : Nat) : Nat := if code = 1 then 3 else if code = 2 then 2 else 4

/-- The lane set: candidates both ends report, the lowest-numbered up to the cap (R302). -/
def laneSet (mine peer cap : Nat) : List Nat := ((List.range 4).filter (fun i => bit mine i && bit peer i)).take cap

/-- The lanes code of a number of quads. -/
def lanesCode (n : Nat) : Nat := if n = 4 then 0 else if n = 3 then 1 else if n = 2 then 2 else 3

/-- An attempt fails: 100 ms of waiting, and the first failure is logged (R301). -/
def trainFail (n : Nat) (s : State) : State :=
  let q := portOf n s
  let s1 := setPort n { q with state := 6, attempts := satAdd 8 q.attempts 1, failLogged := true } s
  if q.failLogged then s1 else logEvent .kybTrainFailed (detailWords [n]) s1

/-- LINK_EXCHANGE_COMPLETE (R302, R305): the port enters UP on the lane set, fails with fewer than two common quads, or
finds its own ID at the peer. -/
def execLinkExchangeComplete (port : Fin 16) (peer : PeerInfo) (s : State) : Host.Outcome State Fault Refusal :=
  let n := port.val
  let q := portOf n s
  if q.state != 4 then .next s
  else
    let q1 := { q with peerValid := true, peerDev := peer.dev.toNat, peerPort := peer.port.toNat }
    let s1 := setPort n q1 s
    if peer.dev.toNat = s.fabric.id then
      .next (logEvent .kybIdConflict (detailWords [n]) (setPort n { q1 with state := 6, attempts := satAdd 8 q.attempts 1 } s1))
    else
      let set := laneSet q.healthy peer.quads.toNat (min (laneCap q.maxLanes) (laneCap peer.maxLanes.toNat))
      if set.length < 2 then .next (trainFail n s1)
      else
        let q2 := { q1 with
          state := 5, lanes := lanesCode set.length, quads := set.foldl (fun m i => m + 2 ^ i) 0, attempts := 0,
          failLogged := false }
        .next (logEvent .kybLinkUp (detailWords [n, 4 * set.length]) (setPort n q2 s1))

/-- TRAINING_STATE_TIMEOUT (R301): a state exceeded its limit. -/
def execTrainingStateTimeout (port : Fin 16) (s : State) : Host.Outcome State Fault Refusal :=
  let q := portOf port.val s
  if 1 ≤ q.state && q.state ≤ 4 then .next (trainFail port.val s) else .next s

/-- TRAINING_RETRY_WAIT_EXPIRY (R301): the port tries again while it is enabled. -/
def execTrainingRetryWaitExpiry (port : Fin 16) (s : State) : Host.Outcome State Fault Refusal :=
  let q := portOf port.val s
  if q.state = 6 && q.enable && !q.laserWait then .next (setPort port.val { q with state := 1 } s) else .next s

/-- QUAD_FAIL (R303): a quad of the lane set fails, and the port fast-retrains on the rest. -/
def execQuadFail (port : Fin 16) (quad : Fin 4) (s : State) : Host.Outcome State Fault Refusal :=
  let q := portOf port.val s
  if !portLinked q || !bit q.quads quad.val then .next s
  else
    let left := if q.state = 7 then q.healthy else q.quads
    let h := if bit left quad.val then left - 2 ^ quad.val else left
    .next (setPort port.val { q with state := 7, healthy := h } s)

/-- FAST_RETRAIN_COMPLETE (R303, R304): the port is UP again on the remaining quads, logged when they are fewer, or goes
down. Without a failed quad the healthy quads are those of the lane set. -/
def execFastRetrainComplete (port : Fin 16) (result : Option PeerInfo) (s : State) : Host.Outcome State Fault Refusal :=
  let n := port.val
  let q := portOf n s
  if q.state != 7 then .next s
  else match result with
    | none => .next (portDown n false s)
    | some peer =>
      let mine := (List.range 4).foldl (fun m i => if bit q.quads i && bit q.healthy i then m + 2 ^ i else m) 0
      let set := laneSet mine peer.quads.toNat (min (laneCap q.maxLanes) (laneCap peer.maxLanes.toNat))
      if set.length < 2 then .next (portDown n false s)
      else
        let code := lanesCode set.length
        let q1 := { q with state := 5, lanes := code, quads := set.foldl (fun m i => m + 2 ^ i) 0, rxWait := false, replays := 0,
                           peerValid := true, peerDev := peer.dev.toNat, peerPort := peer.port.toNat }
        let s1 := setPort n q1 s
        .next (if q.lanes < code then logEvent .kybLinkDegraded (detailWords [n, 4 * set.length]) s1 else s1)

/-- PEER_TRANSMIT_STOP (R304): a linked port goes down. -/
def execPeerTransmitStop (port : Fin 16) (s : State) : Host.Outcome State Fault Refusal :=
  if portLinked (portOf port.val s) then .next (portDown port.val false s) else .next s

/-! Registers (R312, R314). -/

/-- A write to KYB_DEVICE_ID: taken only while every port is DISABLED (R312). -/
def writeDeviceId (value : W32) (s : State) : State :=
  let quiet := (List.range 16).all (fun p => (portOf p s).state == 0)
  let cleared := s.fabric.refused && !bit value.toNat 31
  if quiet then { s with fabric := { s.fabric with id := bits value.toNat 11 0, refused := cleared } }
  else { s with fabric := { s.fabric with refused := true } }

/-- A write to KYB_ROUTE entry `d` (R313). -/
def writeRoute (d : Nat) (value : W64) (s : State) : State :=
  let v := value &&& 0xFFC1FFFFFF000000#64
  { s with fabric := { s.fabric with routes := if v = 0#64 then Tbl.del s.fabric.routes d else Tbl.put s.fabric.routes d v } }

/-- KYB_DEVICE_ID_WRITE (R312): only while every port is DISABLED; refused is cleared by writing 1. -/
def execKybDeviceIdWrite (value : W32) (s : State) : Host.Outcome State Fault Refusal :=
  .next (regWrite 8 false (writeDeviceId value) s)

/-- KYB_ROUTE_WRITE (R313, R314): the entry is replaced whole; reserved bits are not stored (R7). -/
def execKybRouteWrite (dest : BitVec 12) (value : W64) (s : State) : Host.Outcome State Fault Refusal :=
  .next (regWrite 8 false (writeRoute dest.toNat value) s)

end Sys2Proof.Machine
end

