-- ==== Sys2Proof/Machine/Flags.lean ====
section
/-! DEFINITION. IEEE 754-2019 arithmetic on bit patterns, with the exception flags and the rounding attributes of
chapter 02 (R39 to R45, R70). -/

namespace Sys2Proof.Machine

/-- Exception flags as a number: bit 4 invalid, 3 div_by_zero, 2 overflow, 1 underflow, 0 inexact (Table: IEEE flag
word). -/
abbrev Exc := Nat

def excInvalid : Exc := 16
def excDivZero : Exc := 8
def excOverflow : Exc := 4
def excUnderflow : Exc := 2
def excInexact : Exc := 1

/-- Flags raised by either of two operations. -/
def Exc.or (a b : Exc) : Exc := a ||| b

/-- Rounding attributes (Table: Rounding attribute). -/
inductive Rm where
  | tiesEven | tiesAway | up | down | zero
  deriving DecidableEq, Repr

/-- The attribute that an rnd field selects under a job default. -/
def rmOf (rnd dflt : Nat) : Rm :=
  match (if rnd = 0 then dflt else rnd) with
  | 2 => .tiesAway
  | 3 => .up
  | 4 => .down
  | 5 => .zero
  | _ => .tiesEven

/-- A binary format (Table: IEEE layouts): exponent and fraction widths, bias. -/
structure Fmt where
  ebits : Nat
  fbits : Nat
  bias : Nat
  deriving DecidableEq, Repr

def f64 : Fmt := { ebits := 11, fbits := 52, bias := 1023 }
def f32 : Fmt := { ebits := 8, fbits := 23, bias := 127 }
def bf16 : Fmt := { ebits := 8, fbits := 7, bias := 127 }

/-- The format of a format code. -/
def fmtOf (code : Nat) : Fmt := if code = 9 then f64 else if code = 0 then bf16 else f32

def Fmt.width (f : Fmt) : Nat := 1 + f.ebits + f.fbits
def Fmt.signBit (f : Fmt) : Nat := 2 ^ (f.ebits + f.fbits)
def Fmt.infBits (f : Fmt) : Nat := (2 ^ f.ebits - 1) * 2 ^ f.fbits
/-- The canonical NaN (R44). -/
def Fmt.nanBits (f : Fmt) : Nat := f.infBits + 2 ^ (f.fbits - 1)
def Fmt.maxBits (f : Fmt) : Nat := f.infBits - 1

/-- What a pattern stands for: a finite value is (-1)^neg × m × 2^e. -/
inductive Fv where
  | nan
  | inf (neg : Bool)
  | fin (neg : Bool) (m : Nat) (e : Int)
  deriving DecidableEq, Repr

/-- Decode a pattern (R39). -/
def Fmt.decode (f : Fmt) (v : Nat) : Fv :=
  let neg := bit v (f.ebits + f.fbits)
  let e := v / 2 ^ f.fbits % 2 ^ f.ebits
  let m := v % 2 ^ f.fbits
  if e = 2 ^ f.ebits - 1 then (if m = 0 then .inf neg else .nan)
  else if e = 0 then .fin neg m (1 - (f.bias : Int) - f.fbits)
  else .fin neg (m + 2 ^ f.fbits) ((e : Int) - f.bias - f.fbits)

def Fmt.isNan (f : Fmt) (v : Nat) : Bool := f.decode v == .nan
/-- A signalling NaN: its most significant fraction bit is 0. -/
def Fmt.isSnan (f : Fmt) (v : Nat) : Bool := f.isNan v && !bit v (f.fbits - 1)
/-- A NaN made quiet (R44). -/
def Fmt.quiet (f : Fmt) (v : Nat) : Nat := if bit v (f.fbits - 1) then v else v + 2 ^ (f.fbits - 1)

/-- Number of bits of `m`. -/
def bitLen (m : Nat) : Nat := if m = 0 then 0 else Nat.log2 m + 1

/-- Whether rounding away is due: `q` the kept part, `r` of 2^`sh` the part cut off. -/
def roundsUp (rm : Rm) (neg : Bool) (q r sh : Nat) : Bool :=
  let half := 2 ^ (sh - 1)
  match rm with
  | .tiesEven => decide (half < r) || (r == half && q % 2 == 1)
  | .tiesAway => decide (half ≤ r)
  | .up => !neg && r != 0
  | .down => neg && r != 0
  | .zero => false

/-- Round m × 2^e to a multiple of 2^q: the multiple, and whether it is inexact. -/
def roundAt (rm : Rm) (neg : Bool) (m : Nat) (e q : Int) : Nat × Bool :=
  if q ≤ e then (m * 2 ^ (e - q).toNat, false)
  else
    let sh := (q - e).toNat
    let k := m / 2 ^ sh
    let r := m % 2 ^ sh
    (if roundsUp rm neg k r sh then k + 1 else k, r != 0)

/-- Round (-1)^neg × m × 2^e to a format: the pattern and the flags. Tininess is detected after rounding (R41). -/
def Fmt.round (f : Fmt) (rm : Rm) (neg : Bool) (m : Nat) (e : Int) : Nat × Exc :=
  let sign := if neg then f.signBit else 0
  if m = 0 then (sign, 0)
  else
    let top : Int := e + bitLen m - 1
    let emin : Int := 1 - (f.bias : Int)
    let q := max (top - f.fbits) (emin - f.fbits)
    let (k, inexact) := roundAt rm neg m e q
    let (k, q) := if 2 ^ (f.fbits + 1) ≤ k then (k / 2, q + 1) else (k, q)
    if k < 2 ^ f.fbits then
      -- subnormal or zero; tiny unless rounding with unbounded exponent reaches the smallest normal
      let (k2, _) := roundAt rm neg m e (top - f.fbits)
      let tiny := !(top + 1 == emin && decide (2 ^ (f.fbits + 1) ≤ k2))
      (sign + k, if inexact then (if tiny then excUnderflow + excInexact else excInexact) else 0)
    else
      let be : Int := q + f.fbits + f.bias
      if (2 ^ f.ebits - 1 : Int) ≤ be then
        let toInf := match rm with
          | .tiesEven => true
          | .tiesAway => true
          | .up => !neg
          | .down => neg
          | .zero => false
        (sign + (if toInf then f.infBits else f.maxBits), excOverflow + excInexact)
      else
        -- a normal result may still have been tiny before it was rounded up to the smallest normal
        let (k2, _) := roundAt rm neg m e (top - f.fbits)
        let tiny := decide (top < emin) && !(top + 1 == emin && decide (2 ^ (f.fbits + 1) ≤ k2))
        (sign + be.toNat * 2 ^ f.fbits + (k - 2 ^ f.fbits),
          if inexact then (if tiny then excUnderflow + excInexact else excInexact) else 0)

/-- Round an exact nonzero integer multiple n × 2^e; `zneg` is the sign of a zero. -/
def Fmt.roundInt (f : Fmt) (rm : Rm) (n : Int) (e : Int) (zneg : Bool) : Nat × Exc :=
  if n = 0 then (if zneg then f.signBit else 0, 0) else f.round rm (decide (n < 0)) n.natAbs e

/-- The first NaN in operand order, made quiet, with invalid for a signalling one (R44); none when no operand is NaN. -/
def Fmt.nanResult (f : Fmt) (ops : List Nat) : Option (Nat × Exc) :=
  match ops.find? f.isNan with
  | none => none
  | some v => some (f.quiet v, if ops.any f.isSnan then excInvalid else 0)

/-- The signed mantissa of a finite value. -/
def signedM (neg : Bool) (m : Nat) : Int := if neg then -(m : Int) else m

/-- m1 × 2^e1 + m2 × 2^e2 over the smaller exponent. -/
def dyAdd (n1 e1 n2 e2 : Int) : Int × Int :=
  let e := min e1 e2
  (n1 * 2 ^ (e1 - e).toNat + n2 * 2 ^ (e2 - e).toNat, e)

/-- The sign of an exact zero sum. -/
def zeroSumNeg (rm : Rm) (s1 s2 : Bool) : Bool := if s1 == s2 then s1 else rm == .down

/-- IEEE addition. -/
def Fmt.add (f : Fmt) (rm : Rm) (a b : Nat) : Nat × Exc :=
  match f.nanResult [a, b] with
  | some r => r
  | none =>
    match f.decode a, f.decode b with
    | .inf s1, .inf s2 => if s1 == s2 then (a, 0) else (f.nanBits, excInvalid)
    | .inf _, _ => (a, 0)
    | _, .inf _ => (b, 0)
    | .fin s1 m1 e1, .fin s2 m2 e2 =>
      let p := dyAdd (signedM s1 m1) e1 (signedM s2 m2) e2
      f.roundInt rm p.1 p.2 (zeroSumNeg rm s1 s2)
    | _, _ => (f.nanBits, 0)

/-- The pattern with its sign inverted. -/
def Fmt.negate (f : Fmt) (v : Nat) : Nat := if bit v (f.ebits + f.fbits) then v - f.signBit else v + f.signBit

/-- IEEE subtraction. -/
def Fmt.sub (f : Fmt) (rm : Rm) (a b : Nat) : Nat × Exc :=
  match f.nanResult [a, b] with
  | some r => r
  | none => f.add rm a (f.negate b)

/-- IEEE multiplication. -/
def Fmt.mul (f : Fmt) (rm : Rm) (a b : Nat) : Nat × Exc :=
  match f.nanResult [a, b] with
  | some r => r
  | none =>
    match f.decode a, f.decode b with
    | .fin s1 m1 e1, .fin s2 m2 e2 => f.round rm (s1 != s2) (m1 * m2) (e1 + e2)
    | .inf s1, .fin s2 m2 _ => if m2 = 0 then (f.nanBits, excInvalid) else ((if s1 != s2 then f.signBit else 0) + f.infBits, 0)
    | .fin s1 m1 _, .inf s2 => if m1 = 0 then (f.nanBits, excInvalid) else ((if s1 != s2 then f.signBit else 0) + f.infBits, 0)
    | .inf s1, .inf s2 => ((if s1 != s2 then f.signBit else 0) + f.infBits, 0)
    | _, _ => (f.nanBits, 0)

/-- IEEE fusedMultiplyAdd a × b + c. Zero times infinity is invalid also with a quiet NaN as c. -/
def Fmt.fma (f : Fmt) (rm : Rm) (a b c : Nat) : Nat × Exc :=
  let zeroInf := match f.decode a, f.decode b with
    | .inf _, .fin _ 0 _ => true
    | .fin _ 0 _, .inf _ => true
    | _, _ => false
  match f.nanResult [a, b, c] with
  | some r => (r.1, Exc.or r.2 (if zeroInf then excInvalid else 0))
  | none =>
    if zeroInf then (f.nanBits, excInvalid)
    else
      match f.decode a, f.decode b, f.decode c with
      | .fin s1 m1 e1, .fin s2 m2 e2, .fin s3 m3 e3 =>
        let p := dyAdd (signedM (s1 != s2) (m1 * m2)) (e1 + e2) (signedM s3 m3) e3
        f.roundInt rm p.1 p.2 (zeroSumNeg rm (s1 != s2) s3)
      | .fin _ _ _, .fin _ _ _, _ => (c, 0)
      | x, y, z =>
        -- the product is infinite
        let sx := match x with
          | .inf s => s
          | .fin s _ _ => s
          | .nan => false
        let sy := match y with
          | .inf s => s
          | .fin s _ _ => s
          | .nan => false
        let sp := sx != sy
        match z with
        | .inf s3 => if s3 == sp then (c, 0) else (f.nanBits, excInvalid)
        | _ => ((if sp then f.signBit else 0) + f.infBits, 0)

/-- IEEE division. -/
def Fmt.div (f : Fmt) (rm : Rm) (a b : Nat) : Nat × Exc :=
  match f.nanResult [a, b] with
  | some r => r
  | none =>
    match f.decode a, f.decode b with
    | .inf _, .inf _ => (f.nanBits, excInvalid)
    | .inf s1, .fin s2 _ _ => ((if s1 != s2 then f.signBit else 0) + f.infBits, 0)
    | .fin s1 _ _, .inf s2 => (if s1 != s2 then f.signBit else 0, 0)
    | .fin s1 m1 e1, .fin s2 m2 e2 =>
      let sign := if s1 != s2 then f.signBit else 0
      if m2 = 0 then (if m1 = 0 then (f.nanBits, excInvalid) else (sign + f.infBits, excDivZero))
      else if m1 = 0 then (sign, 0)
      else
        let k := f.fbits + 3 + bitLen m2 - bitLen m1
        let n := m1 * 2 ^ k
        let q := n / m2
        let sticky := if n % m2 = 0 then 0 else 1
        f.round rm (s1 != s2) (2 * q + sticky) (e1 - e2 - k - 1)
    | _, _ => (f.nanBits, 0)

/-- Integer square root, one bit of the result at a time from bit `k` down. -/
def isqrtGo (n : Nat) : Nat → Nat → Nat
  | 0, r => r
  | k + 1, r => let c := r + 2 ^ k; if c * c ≤ n then isqrtGo n k c else isqrtGo n k r

def isqrt (n : Nat) : Nat := isqrtGo n (bitLen n / 2 + 1) 0

/-- IEEE squareRoot. -/
def Fmt.sqrt (f : Fmt) (rm : Rm) (a : Nat) : Nat × Exc :=
  match f.nanResult [a] with
  | some r => r
  | none =>
    match f.decode a with
    | .inf s => if s then (f.nanBits, excInvalid) else (a, 0)
    | .fin s m e =>
      if m = 0 then (a, 0)
      else if s then (f.nanBits, excInvalid)
      else
        let k0 := 2 * (f.fbits + 3)
        let k := if (e - k0) % 2 = 0 then k0 else k0 + 1
        let n := m * 2 ^ k
        let r := isqrt n
        let sticky := if r * r = n then 0 else 1
        f.round rm false (2 * r + sticky) ((e - k) / 2 - 1)
    | .nan => (f.nanBits, 0)

/-- A comparison of two values that are not NaN: less, equal, greater. -/
def cmpFv (x y : Fv) : Ordering :=
  let key := fun (v : Fv) => match v with
    | .inf s => (if s then (-1 : Int) else 1, (0 : Int), (0 : Int))
    | .fin s m e => (0, signedM s m, e)
    | .nan => (0, 0, 0)
  let a := key x
  let b := key y
  if a.1 != b.1 then compare a.1 b.1
  else if a.1 != 0 then .eq
  else compare (dyAdd a.2.1 a.2.2 (-b.2.1) b.2.2).1 0

/-- Whether `a` is less than `b`, −0 counting as less than +0 (IEEE minimum and maximum). -/
def Fmt.lessSigned (f : Fmt) (a b : Nat) : Bool :=
  match cmpFv (f.decode a) (f.decode b) with
  | .lt => true
  | .gt => false
  | .eq => bit a (f.ebits + f.fbits) && !bit b (f.ebits + f.fbits)

/-- IEEE minimum and maximum (R70). -/
def Fmt.minmax (f : Fmt) (isMax : Bool) (a b : Nat) : Nat × Exc :=
  match f.nanResult [a, b] with
  | some r => r
  | none => if isMax then (if f.lessSigned a b then b else a, 0) else (if f.lessSigned b a then b else a, 0)

/-- IEEE minimumNumber and maximumNumber. -/
def Fmt.minmaxNum (f : Fmt) (isMax : Bool) (a b : Nat) : Nat × Exc :=
  let inv := if f.isSnan a || f.isSnan b then excInvalid else 0
  if f.isNan a && !f.isNan b then (b, inv)
  else if f.isNan b && !f.isNan a then (a, inv)
  else f.minmax isMax a b

/-- The relation that a comparison predicate names (Table: VEC modifiers). -/
def cmpHolds (pred : Nat) (o : Option Ordering) : Bool :=
  match pred, o with
  | 0x0, some .eq => true
  | 0x1, some .eq => false
  | 0x1, _ => true
  | 0x2, some .gt => true
  | 0x3, some .gt => true
  | 0x3, some .eq => true
  | 0x4, some .lt => true
  | 0x5, some .lt => true
  | 0x5, some .eq => true
  | 0x6, none => true
  | 0x7, some .gt => false
  | 0x7, _ => true
  | 0x8, some .lt => true
  | 0x8, none => true
  | 0x9, some .lt => false
  | 0x9, _ => true
  | 0xA, some .gt => true
  | 0xA, none => true
  | 0xB, some _ => true
  | _, _ => false

/-- IEEE comparison predicate, quiet or signalling (R70). -/
def Fmt.cmp (f : Fmt) (pred : Nat) (signalling : Bool) (a b : Nat) : Bool × Exc :=
  let unord := f.isNan a || f.isNan b
  let inv := if (signalling && unord) || f.isSnan a || f.isSnan b then excInvalid else 0
  (cmpHolds pred (if unord then none else some (cmpFv (f.decode a) (f.decode b))), inv)

/-- IEEE roundToIntegralExact. -/
def Fmt.rint (f : Fmt) (rm : Rm) (a : Nat) : Nat × Exc :=
  match f.nanResult [a] with
  | some r => r
  | none =>
    match f.decode a with
    | .fin s m e =>
      if 0 ≤ e || m = 0 then (a, 0)
      else
        let (k, inexact) := roundAt rm s m e 0
        let v := if k = 0 then (if s then f.signBit else 0) else (f.round rm s k 0).1
        (v, if inexact then excInexact else 0)
    | _ => (a, 0)

/-- IEEE scaleB: a × 2^n. -/
def Fmt.scaleb (f : Fmt) (rm : Rm) (a : Nat) (n : Int) : Nat × Exc :=
  match f.nanResult [a] with
  | some r => r
  | none =>
    match f.decode a with
    | .fin s m e =>
      -- a shift beyond this range rounds alike, and keeps the numbers small
      let n' := max (-5000) (min 5000 n)
      f.round rm s m (e + n')
    | _ => (a, 0)

/-- IEEE convertFormat from `f` to `g`; a NaN keeps its sign and leading payload bits (R44). -/
def Fmt.convert (f g : Fmt) (rm : Rm) (a : Nat) : Nat × Exc :=
  match f.decode a with
  | .nan =>
    let neg := bit a (f.ebits + f.fbits)
    let pay := f.quiet a % 2 ^ f.fbits
    let p := if f.fbits ≤ g.fbits then pay * 2 ^ (g.fbits - f.fbits) else pay / 2 ^ (f.fbits - g.fbits)
    ((if neg then g.signBit else 0) + g.infBits + p, if f.isSnan a then excInvalid else 0)
  | .inf s => ((if s then g.signBit else 0) + g.infBits, 0)
  | .fin s m e => g.round rm s m e

/-- IEEE convertToIntegerExact to INT32 (R100): the 32-bit pattern. -/
def Fmt.toInt32 (f : Fmt) (rm : Rm) (a : Nat) : Nat × Exc :=
  match f.decode a with
  | .nan => (0x80000000, excInvalid)
  | .inf s => (if s then 0x80000000 else 0x7FFFFFFF, excInvalid)
  | .fin s m e =>
    let (k, inexact) := roundAt rm s m e 0
    let n := signedM s k
    if n < -2147483648 then (0x80000000, excInvalid)
    else if 2147483647 < n then (0x7FFFFFFF, excInvalid)
    else ((n % 4294967296).toNat, if inexact then excInexact else 0)

/-- IEEE convertFromInt of an INT32 pattern. -/
def Fmt.ofInt32 (f : Fmt) (rm : Rm) (v : Nat) : Nat × Exc := f.roundInt rm (sext 32 v) 0 false

end Sys2Proof.Machine
end

