-- ==== Sys2Proof/Machine/Media.lean ====
section
/-! DEFINITION. Shared operations of the flash: geometry, Ledger, superblocks, streams and the write buffer
(chapter 11). -/

namespace Sys2Proof.Machine

/-! Geometry (R331 to R333). -/

def sbOf (n : Nat) (s : State) : Superblock := Tbl.lookD s.flash.sbs n Superblock.fresh

def setSb (n : Nat) (b : Superblock) (s : State) : State := { s with flash := { s.flash with sbs := Tbl.put s.flash.sbs n b } }

def modSb (n : Nat) (f : Superblock → Superblock) (s : State) : State := setSb n (f (sbOf n s)) s

/-- Channel group and die position of a superblock (R332). -/
def sbGroup (n : Nat) : Nat := n % 8
def sbDie (n : Nat) : Nat := n / 8 % 8

/-- The channel position of the parity block of plane `q`: (s + q) mod 8, or the next higher one not retired (R333). -/
def parityPos (n bad q : Nat) : Nat :=
  let start := (n + q) % 8
  ((List.range 8).map (fun i => (start + i) % 8)).find? (fun c => !bit bad (q * 8 + c)) |>.getD start

/-- The data blocks of a superblock, as q × 8 + c in ascending order (R333). -/
def dataBlocks (n bad : Nat) : List Nat :=
  (List.range 32).filter (fun k => !bit bad k && parityPos n bad (k / 8) != k % 8)

/-- D, and the number of units (R333). -/
def sbD (n : Nat) (b : Superblock) : Nat := (dataBlocks n b.badMap).length
def sbUnits (n : Nat) (b : Superblock) : Nat := sbD n b * (if b.slc then 704 else 2816)

/-- Units of one program: a page row in SLC mode, a word line of four in QLC mode (R334). -/
def rowLen (n : Nat) (b : Superblock) : Nat := if b.slc then sbD n b else 4 * sbD n b

/-- The channel on which a unit lies (R332, R333). -/
def unitChannel (n off : Nat) (b : Superblock) : Nat :=
  8 * sbGroup n + (dataBlocks n b.badMap).getD (off % max 1 (sbD n b)) 0 % 8

/-- Retired blocks are too many: more than 8, or a plane stripe with fewer than 4 good blocks (R359). -/
def tooBad (bad : Nat) : Bool :=
  let count := fun (lo n : Nat) => ((List.range n).filter (fun i => bit bad (lo + i))).length
  decide (8 < count 0 32) || (List.range 4).any (fun q => decide (4 < count (8 * q) 8))

/-! The Ledger (R336, R337). -/

def ledgerOf (idx : Nat) (s : State) : LedgerEntry := Tbl.lookD s.flash.ledger idx .unmapped

/-- The 4 MiB segment that holds an entry (R362). -/
def segmentOf (idx : Nat) : Nat := idx * 5 / 2 ^ 22

/-- Change a Ledger entry; its segment becomes dirty. -/
def setLedger (idx : Nat) (e : LedgerEntry) (s : State) : State :=
  let l := if e == .unmapped then Tbl.del s.flash.ledger idx else Tbl.put s.flash.ledger idx e
  let sg := segmentOf idx
  { s with flash := { s.flash with ledger := l, dirty := if s.flash.dirty.contains sg then s.flash.dirty else s.flash.dirty ++ [sg] } }

/-- valid_units: Ledger entries that point to a superblock (R347). -/
def validUnits (n : Nat) (s : State) : Nat :=
  (s.flash.ledger.filter (fun p => match p.2 with | .flash sb _ => sb == n | _ => false)).length

/-- The key of a unit on the media. -/
def mediaKey (sb off : Nat) : Nat := sb * 2 ^ 17 + off

/-- Bytes of a unit on the media; a place never programmed reads as zeros. -/
def mediaBytes (sb off at_ n : Nat) (s : State) : List Byte :=
  match Tbl.look s.flash.media (mediaKey sb off) with
  | some u => Mem.read zeroByte u.data at_ n
  | none => List.replicate n 0#8

/-! Counting superblocks. -/

/-- Superblocks in state FREE or ERASED. -/
def freeCount (s : State) : Nat :=
  Config.superblocks - (s.flash.sbs.filter (fun p => p.2.state != .free && p.2.state != .erased)).length

/-- Superblocks in state ERASED. -/
def erasedCount (s : State) : Nat :=
  Config.superblocks - (s.flash.sbs.filter (fun p => p.2.state != .erased)).length

/-- Superblocks that a pool holds in OPEN, CLOSED or COLLECTING. -/
def heldByPool (pool : Nat) (s : State) : Nat :=
  (s.flash.sbs.filter (fun p => p.2.pool == pool && (p.2.state == .open_ || p.2.state == .closed || p.2.state == .collecting))).length

/-- gc_urgent as it acts (LDG_GC). -/
def reserve (s : State) : Nat := max 64 s.flash.gcUrgent

/-- refresh_depth as it acts (LDG_GC). -/
def dueDepth (s : State) : Nat := max 3 s.flash.refreshDepth

/-- Units of a good superblock in QLC mode. -/
def qlcUnits (n : Nat) (b : Superblock) : Nat := if b.state == .retired then 0 else sbD n b * 2816

/-- The spare, in units (R361). -/
def spareUnits (s : State) : Int :=
  let full : Nat := 28 * 2816
  let good : Int := (Config.superblocks - s.flash.sbs.length : Nat) * (full : Int)
    + s.flash.sbs.foldl (fun n p => n + (qlcUnits p.1 p.2 : Int)) 0
  good - ((Config.userCapacity / 16384 : Nat) : Int)
    - (((heldByPool 4 s + heldByPool 5 s + reserve s) * full : Nat) : Int)

/-- The spare is zero: writes that need new flash are refused (R361, R430). -/
def spareZero (s : State) : Bool := decide (spareUnits s ≤ 0)

/-- The reserve rule begins and ends, and the spare is checked (R352, R361). -/
def checkSpare (s : State) : State :=
  let f := freeCount s
  let urgent := if s.flash.urgent then decide (f < reserve s + 32) else decide (f < reserve s)
  let s1 := { s with flash := { s.flash with urgent := urgent } }
  -- 2 % of the raw capacity of 132 TiB, in units of 16 KiB
  let low := decide (spareUnits s < ((132 * 2 ^ 26 / 50 : Nat) : Int))
  let s2 := { s1 with flash := { s1.flash with spareLow := low } }
  if low && !s.flash.spareLow then
    logEvent .ldgSpareLow (detailWords [(max 0 (spareUnits s)).toNat / (28 * 2816)]) s2
  else s2

/-! Events of wear, once in 24 hours of LDG_CLOCK for each superblock and kind (R365). -/

def logWear (ev : Ev) (n : Nat) (detail : List Nat) (s : State) : State :=
  let b := sbOf n s
  let recent := match Tbl.look b.wearLogged ev.code with
    | some m => decide (s.flash.minute < m + 1440)
    | none => false
  if recent then s
  else logEvent ev (detailWords detail) (setSb n { b with wearLogged := Tbl.put b.wearLogged ev.code s.flash.minute } s)

/-- Blocks newly retired are marked and logged: superblock, plane, channel, failing operation (R359, R365). 0 stands for
a program and 1 for an erase. -/
def retireBlocks (n failed op : Nat) (s : State) : State :=
  (List.range 32).foldl (fun acc k =>
    if bit failed k && !bit (sbOf n acc).badMap k then
      logEvent .ldgBlockRetired (detailWords [n, k / 8, 8 * sbGroup n + k % 8, op])
        (modSb n (fun b => { b with badMap := b.badMap + 2 ^ k }) acc)
    else acc) s

/-- A superblock becomes due for refresh, once (R356). -/
def makeDue (n : Nat) (s : State) : State :=
  let b := sbOf n s
  if b.state == .closed && !b.due then
    let s1 := setSb n { b with due := true } s
    { s1 with flash := { s1.flash with dueList := s1.flash.dueList ++ [n] } }
  else s

/-- A CLOSED or COLLECTING superblock without valid units becomes FREE; the blocks of a failed die are retired with its
relocation, and one with too many retired blocks is never used again (R350, R359, R360). -/
def settleSb (n : Nat) (s : State) : State :=
  let b := sbOf n s
  if (b.state == .closed || b.state == .collecting) && validUnits n s == 0 then
    let dead := (List.range 8).filter (fun c => s.flash.failedDies.contains ((8 * sbGroup n + c) * 8 + sbDie n))
    let bad := (List.range 32).foldl (fun m k => if dead.contains (k % 8) && !bit m k then m + 2 ^ k else m) b.badMap
    let s1 := setSb n { b with state := if tooBad bad then .retired else .free, badMap := bad, due := false } s
    { s1 with flash := { s1.flash with dueList := s1.flash.dueList.filter (· != n) } }
  else s

/-- Settle the superblock that an entry pointed to. -/
def settleEntry (e : LedgerEntry) (s : State) : State :=
  match e with
  | .flash sb _ => settleSb sb s
  | _ => s

/-! Streams (R341, R348). -/

def streamCode : Stream → Nat
  | .buffer => 0
  | .host p => p
  | .fold p => 8 + p
  | .reloc p => 16 + p
  | .system => 24

def streamOpen : Stream → Nat
  | .reloc _ => 8
  | .system => 1
  | _ => 64

def streamPool : Stream → Nat
  | .buffer => 4
  | .host p => p
  | .fold p => p
  | .reloc p => p
  | .system => 5

/-- Registers of a pool. -/
def poolReg (p : Nat) (s : State) : PoolReg := Tbl.lookD s.flash.pools p (PoolReg.reset p)

def poolSlc (p : Nat) (s : State) : Bool := (poolReg p s).slc

def streamSlc (t : Stream) (s : State) : Bool :=
  match t with
  | .fold _ => false
  | .reloc p => poolSlc p s
  | _ => true

/-- The open superblock of a stream at place `k` of its round: group k mod 8, then die position (R341). -/
def openAt (t : Stream) (k : Nat) (s : State) : Option Nat :=
  (s.flash.sbs.find? (fun p => p.2.state == .open_ && p.2.stream == some t
    && (match t with
        | .system => true
        | .reloc _ => sbGroup p.1 == k % 8
        | _ => sbGroup p.1 == k % 8 && sbDie p.1 == k / 8))).map (·.1)

/-- Superblocks that may serve place `k`. -/
def placeCandidates (t : Stream) (k : Nat) : List Nat :=
  match t with
  | .system => List.range Config.superblocks
  | .reloc _ => (List.range 12288).map (fun i => i * 8 + k % 8)
  | _ => (List.range 1536).map (fun b => b * 64 + (k / 8) * 8 + k % 8)

/-- The ERASED superblock with the lowest erase_count, then the lowest index (R348). -/
def pickErased (s : State) : List Nat → Option Nat → Option Nat
  | [], best => best
  | n :: ns, best =>
    let b := sbOf n s
    if b.state != .erased || b.corrupt then pickErased s ns best
    else match best with
      | none => pickErased s ns (some n)
      | some m => pickErased s ns (if b.erases < (sbOf m s).erases then some n else some m)

/-- The hottest flash-stack temperature of a superblock's dies, in °C; stack k div 4 holds channel k (log 18). -/
def hottestStack (n : Nat) (s : State) : Int :=
  let temp := fun (st : Nat) => match Tbl.look s.power.temps (72 + st) with
    | some v => v.toInt / 16
    | none => 0
  max (temp (2 * sbGroup n)) (temp (2 * sbGroup n + 1))

/-- Open a superblock for a stream. BUFFER opens none beyond buffer_max (R346). -/
def openSb (t : Stream) (k : Nat) (s : State) : Option (Nat × State) :=
  if t == .buffer && s.flash.bufferMax ≤ heldByPool 4 s then none
  else match pickErased s (placeCandidates t k) none with
    | none => none
    | some n =>
      let b := { sbOf n s with
        state := .open_, pool := streamPool t, slc := streamSlc t s, progMinute := s.flash.minute,
        progTemp := hottestStack n s, readCount := 0, retryMax := 0, stream := some t, next := 0, row := [], copies := [] }
      some (n, checkSpare (setSb n b s))

/-- Put a unit into the next place of a stream's round; none when that place cannot take it now. -/
def placeUnit (t : Stream) (u : MediaUnit) (src : RowSource) (s : State) : Option (Nat × State) :=
  let k := Tbl.lookD s.flash.rounds (streamCode t) 0 % streamOpen t
  let found := match openAt t k s with
    | some n => some (n, s)
    | none => openSb t k s
  match found with
  | none => none
  | some (n, s1) =>
    let b := sbOf n s1
    if rowLen n b ≤ b.row.length || sbUnits n b ≤ b.next + b.row.length then none
    else
      let s2 := setSb n { b with row := b.row ++ [{ offset := b.next + b.row.length, unit := u, source := src }] } s1
      some (n, { s2 with flash := { s2.flash with rounds := Tbl.put s2.flash.rounds (streamCode t) (k + 1) } })

/-! The write buffer (R433). -/

/-- Stacked-memory address of a slot (R337). -/
def slotAddr (n : Nat) (s : State) : Nat := (area 5 s).1 + n * 16384

/-- Slots of the write buffer. -/
def slotCount (s : State) : Nat := ((area 5 s).2 - (area 5 s).1) / 16384

def slotAt (n : Nat) (s : State) : Option BufSlot := Tbl.look s.flash.slots n

/-- Where the content of block `b` of a unit is. -/
inductive BlockPlace where
  | zeros
  | slot (n : Nat)
  | flash (sb offset : Nat)
  /-- Lost in the merge of its slot (R342). -/
  | lost
  deriving DecidableEq, Repr

/-- Follow the previous places of the slots, which are fewer than `fuel`. -/
def blockPlace (s : State) (b : Nat) : Nat → LedgerEntry → BlockPlace
  | 0, _ => .zeros
  | fuel + 1, e =>
    match e with
    | .unmapped => .zeros
    | .flash sb off => .flash sb off
    | .buffer n =>
      match slotAt n s with
      | none => .zeros
      | some k => if bit k.mask b then .slot n else if bit k.lost b then .lost else blockPlace s b fuel k.prev

/-- The place of block `b` of the unit with a Ledger index. -/
def placeOf (idx b : Nat) (s : State) : BlockPlace := blockPlace s b (s.flash.slots.length + 2) (ledgerOf idx s)

/-- The flash place that a read of the listed blocks of a unit needs, if any. -/
def flashNeed (idx : Nat) (bs : List Nat) (s : State) : Option (Nat × Nat) :=
  bs.foldr (fun b acc => match placeOf idx b s with
    | .flash sb off => some (sb, off)
    | _ => acc) none

/-- Read block `b` of a unit; `lost` are the codewords lost in its flash read. None: the block is lost. -/
def readBlock (idx b lost : Nat) (s : State) : Option (List Byte) × State :=
  match placeOf idx b s with
  | .zeros => (some (List.replicate 4096 0#8), s)
  | .lost => (none, s)
  | .flash sb off => (if bit lost b then none else some (mediaBytes sb off (4096 * b) 4096 s), s)
  | .slot n =>
    match readStacked (slotAddr n s + 4096 * b) 4096 s with
    | (.ok bytes, s1) => (some bytes, s1)
    | (.error _, s1) => (none, s1)

/-- Read a whole unit; none when any block of it is lost. -/
def readUnit (idx lost : Nat) (s : State) : Option (List Byte) × State :=
  (List.range 4).foldl (fun acc b =>
    let r := readBlock idx b lost acc.2
    (match acc.1, r.1 with
      | some x, some y => some (x ++ y)
      | _, _ => none, r.2)) (some [], s)

/-- The write sequence takes its next value (R335). -/
def nextSeq (s : State) : Nat × State :=
  (s.flash.writeSeq + 1, { s with flash := { s.flash with writeSeq := s.flash.writeSeq + 1 } })

/-- The slot that a write to a unit uses: its present one while that has not started programming, else a free one
(R433). -/
def slotFor (idx : Nat) (s : State) : Option (Nat × Bool) :=
  let fresh := (Tbl.freeKey s.flash.slots 0 (slotCount s)).map (fun n => (n, true))
  match ledgerOf idx s with
  | .buffer n =>
    match slotAt n s with
    | some k => if k.started then fresh else some (n, false)
    | none => fresh
  | _ => fresh

/-- Write blocks of a unit into its slot: (block, 4 KiB) pairs (R433). The slot must exist (`slotFor`). -/
def writeUnit (idx pool : Nat) (blocks : List (Nat × List Byte)) (s : State) : Option (Nat × State) :=
  match slotFor idx s with
  | none => none
  | some (n, fresh) =>
    let q := nextSeq s
    let old := (slotAt n s).getD { ledgerIndex := idx, writeSeq := 0, pool := pool, mask := 0, prev := ledgerOf idx s,
                                   started := false, lost := 0 }
    let base := if fresh then { old with prev := ledgerOf idx s, mask := 0, lost := 0, started := false, ledgerIndex := idx } else old
    let mask := blocks.foldl (fun m p => if bit m p.1 then m else m + 2 ^ p.1) base.mask
    let lost := (List.range 4).foldl (fun m b => if bit base.lost b && !bit mask b then m + 2 ^ b else m) 0
    let k := { base with writeSeq := q.1, pool := pool, mask := mask, lost := lost }
    let s1 := { q.2 with flash := { q.2.flash with slots := Tbl.put q.2.flash.slots n k } }
    let s2 := setLedger idx (.buffer n) s1
    some (n, blocks.foldl (fun acc p => putStacked (slotAddr n s2 + 4096 * p.1) p.2 acc) s2)

/-- The free slots of the write buffer. -/
def freeSlots (s : State) : Nat := slotCount s - s.flash.slots.length

/-- New slots that writes to the listed units need. -/
def slotsNeeded (idxs : List Nat) (s : State) : Nat :=
  (idxs.filter (fun i => match ledgerOf i s with
    | .buffer n => (match slotAt n s with | some k => k.started | none => true)
    | _ => true)).length

/-! Cellar requests (R183). -/

/-- Queue a unit request at the Cellar Porter of its channel: class, Ledger index, place and purpose. -/
def cellarPorter (place : LedgerEntry) (idx : Nat) (s : State) : Nat :=
  match place with
  | .flash sb off => unitChannel sb off (sbOf sb s) / 2
  | _ => idx % 32

/-- Requests queued in a class at a porter. -/
def cellarQueued (porter cls : Nat) (s : State) : Nat :=
  (s.mem.cellar.filter (fun p => p.2.porter == porter && p.2.cls == cls && !p.2.issued)).length

/-- Add a request; the class queue holds at most 256 (R183). -/
def cellarAdd (cls idx : Nat) (place : LedgerEntry) (f : CellarFor) (s : State) : Option State :=
  let p := cellarPorter place idx s
  if 256 ≤ cellarQueued p cls s then none
  else
    let r : CellarReq := { porter := p, cls := cls, index := idx, place := place, for_ := f, issued := false, again := false, late := false, result := none }
    some { s with mem := { s.mem with cellar := Tbl.put s.mem.cellar s.mem.cellarNext r, cellarNext := s.mem.cellarNext + 1 } }

/-- Change a request. -/
def cellarMod (n : Nat) (f : CellarReq → CellarReq) (s : State) : State :=
  { s with mem := { s.mem with cellar := Tbl.adjust s.mem.cellar n f } }

/-- Remove a request. -/
def cellarDel (n : Nat) (s : State) : State := { s with mem := { s.mem with cellar := Tbl.del s.mem.cellar n } }

/-! Range locks (R438, R439). -/

/-- Two entries conflict. -/
def RangeLock.conflicts (a b : RangeLock) : Bool :=
  a.ns == b.ns && decide (a.first ≤ b.last) && decide (b.first ≤ a.last) && (a.writes || b.writes)

/-- Take an entry; none while all are in use. -/
def takeLock (l : RangeLock) (s : State) : Option (Nat × State) :=
  if Config.lockEntries ≤ s.flash.locks.length then none
  else some (s.flash.lockNext,
    { s with flash := { s.flash with locks := Tbl.put s.flash.locks s.flash.lockNext l, lockNext := s.flash.lockNext + 1 } })

/-- No earlier entry conflicts with entry `n`. -/
def lockClear (n : Nat) (s : State) : Bool :=
  match Tbl.look s.flash.locks n with
  | none => true
  | some l => s.flash.locks.all (fun p => decide (n ≤ p.1) || !RangeLock.conflicts p.2 l)

/-- Release an entry. -/
def dropLock (n : Nat) (s : State) : State := { s with flash := { s.flash with locks := Tbl.del s.flash.locks n } }

end Sys2Proof.Machine
end

