-- ==== Sys2Proof/Machine/Storage.lean ====
section
/-! DEFINITION. The family of storage commands and of Cellar requests' service (chapters 06, 11 and 14). -/

namespace Sys2Proof.Machine

/-! Parameters (R425, R429). -/

def stNs (d : BitVec 1024) : Nat := dParam d 327 320
def stSlba (d : BitVec 1024) : Nat := dParam d 391 328
def stNlb (d : BitVec 1024) : Nat := dParam d 423 392
def stFua (d : BitVec 1024) : Bool := bit d.toNat 424

/-- A namespace as commands find it. -/
def nsFind (n : Nat) (s : State) : Option Namespace := Tbl.look s.spaces n

/-- A pending command that waits for its unit. -/
def setOp (tr : Nat) (o : StoreOp) (s : State) : State := { s with flash := { s.flash with ops := Tbl.put s.flash.ops tr o } }

def delOp (tr : Nat) (s : State) : State := { s with flash := { s.flash with ops := Tbl.del s.flash.ops tr } }

/-- Release the lock entry of a command. -/
def dropCommandLock (tr : Nat) (s : State) : State :=
  { s with flash := { s.flash with locks := s.flash.locks.filter (fun p => p.2.holder != .command tr) } }

/-- A storage command completes when nothing of it is outstanding: its record is posted, then its lock released
(R429, R432, R439). -/
def finishOp (tr : Nat) (s : State) : State :=
  match Tbl.look s.flash.ops tr with
  | none => s
  | some o =>
    if !o.started || o.waitsSlots || o.reads != 0 || !o.slots.isEmpty || !o.trims.isEmpty then s
    else
      let status := if o.lost then 0x11 else if o.busErr then 0x10 else 0
      let low := if o.opcode == 0x20 || o.opcode == 0x24 then o.failLow.getD 0 else 0
      let cnt := if o.opcode == 0x20 || o.opcode == 0x24 then o.failCount else 0
      dropCommandLock tr (complete tr status low cnt (delOp tr s))

/-- Finish every command that can. -/
def finishOps (s : State) : State := (s.flash.ops.map (·.1)).foldl (fun acc tr => finishOp tr acc) s

/-! Reads (R431, R432). -/

/-- Blocks of unit `u` (0 to 3) that a command names. -/
def blocksIn (o : StoreOp) (u : Nat) : List Nat :=
  (List.range 4).filter (fun b => decide (o.slba ≤ 4 * u + b) && decide (4 * u + b < o.slba + o.nlb))

/-- Note a failing block. -/
def StoreOp.fail (o : StoreOp) (lba : Nat) (bus : Bool) : StoreOp :=
  { o with
    failLow := some (match o.failLow with | some l => min l lba | none => lba)
    failCount := o.failCount + 1
    lost := o.lost || !bus
    busErr := o.busErr || bus }

/-- Deliver the named blocks of one unit, with the codewords `lost` of its flash read, or the error end of its die
operation. READ writes each block that decoded to host memory; VERIFY transfers nothing. -/
def deliverUnit (o : StoreOp) (base u lost : Nat) (bus : Bool) (s : State) : StoreOp × State :=
  (blocksIn o u).foldl (fun acc b =>
    let lba := 4 * u + b
    let fromFlash := match placeOf (base + u) b acc.2 with
      | .flash _ _ => true
      | _ => false
    if bus && fromFlash then (acc.1.fail lba true, acc.2)
    else
      let r := readBlock (base + u) b lost acc.2
      match r.1 with
      | none => (acc.1.fail lba false, r.2)
      | some bytes =>
        if o.opcode = 0x20 then
          match Tbl.look r.2.rings.tasks o.tr with
          | some t => (acc.1, hostWrite (dPtr0 t.desc + 4096 * (lba - o.slba)) bytes r.2)
          | none => (acc.1, r.2)
        else (acc.1, r.2)) (o, s)

/-- Units that a command touches. -/
def unitsOf (o : StoreOp) : List Nat :=
  if o.nlb = 0 then [] else (List.range ((o.slba + o.nlb - 1) / 4 - o.slba / 4 + 1)).map (fun i => o.slba / 4 + i)

/-- Start the reads of a READ or VERIFY: a unit that needs the media becomes a class 3 request, any other is delivered
at once (R431). -/
def startReads (o : StoreOp) (base : Nat) (s : State) : State :=
  let r := (unitsOf o).foldl (fun acc u =>
    match flashNeed (base + u) (blocksIn o u) acc.2 with
    | none => deliverUnit acc.1 base u 0 false acc.2
    | some (sb, off) =>
      -- host commands wait in task registers, so a full class queue delays and never refuses (R184)
      let req : CellarReq := { porter := cellarPorter (.flash sb off) (base + u) acc.2, cls := 3, index := base + u,
                               place := .flash sb off, for_ := .command o.tr, issued := false, again := false, late := false, result := none }
      let n := acc.2.mem.cellarNext
      ({ acc.1 with reads := acc.1.reads + 1 },
        { acc.2 with mem := { acc.2.mem with cellar := Tbl.put acc.2.mem.cellar n req, cellarNext := n + 1 } }))
    ({ o with started := true }, s)
  finishOp o.tr (setOp o.tr r.1 r.2)

/-! Writes (R433, R434, R436, R437). -/

/-- The 4 KiB of block `lba` in a WRITE's buffer. -/
def writeBlock (o : StoreOp) (lba : Nat) : List Byte := padTo 4096 0#8 ((o.data.drop (4096 * (lba - o.slba))).take 4096)

/-- Units that a command writes through slots: all that a WRITE touches; the partly covered ones of a TRIM. -/
def slotUnits (o : StoreOp) : List Nat :=
  if o.opcode = 0x23 then (unitsOf o).filter (fun u => (blocksIn o u).length != 4) else unitsOf o

/-- Units that a TRIM covers wholly. -/
def trimUnits (o : StoreOp) : List Nat := if o.opcode = 0x23 then (unitsOf o).filter (fun u => (blocksIn o u).length == 4) else []

/-- A slot that has not started programming and is no longer wanted is freed, and nobody waits for it. -/
def freeSlot (n : Nat) (s : State) : State :=
  { s with flash := { s.flash with
      slots := Tbl.del s.flash.slots n
      ops := Tbl.mapVals s.flash.ops (fun _ o => { o with slots := o.slots.filter (· != n) }) } }

/-- Unmap one unit (R437). -/
def unmapUnit (idx : Nat) (s : State) : State :=
  let e := ledgerOf idx s
  let s1 := setLedger idx .unmapped s
  let s2 := match e with
    | .buffer n =>
      match slotAt n s1 with
      | some k => if k.started then s1 else settleEntry k.prev (freeSlot n s1)
      | none => s1
    | _ => s1
  settleEntry e s2

/-- Carry out a WRITE or TRIM whose slots are free: the blocks go into their slots, whole trimmed units are unmapped and
entered in a trim record (R433, R437). -/
def startWrites (o : StoreOp) (x : Namespace) (s : State) : State :=
  let need := slotsNeeded ((slotUnits o).map (fun u => x.base + u)) s
  if freeSlots s < need then setOp o.tr { o with waitsSlots := true } s
  else
    let zero := List.replicate 4096 0#8
    let r := (slotUnits o).foldl (fun acc u =>
      let blocks := (blocksIn o u).map (fun b => (b, if o.opcode = 0x23 then zero else writeBlock o (4 * u + b)))
      match writeUnit (x.base + u) x.pool blocks acc.2 with
      | some (n, s1) => (acc.1 ++ [n], s1)
      | none => acc) ([], s)
    let trimmed := (trimUnits o).map (fun u => x.base + u)
    let s2 := trimmed.foldl (fun acc i => unmapUnit i acc) r.2
    let s3 :=
      if trimmed.isEmpty then s2
      else
        let q := nextSeq s2
        { q.2 with flash := { q.2.flash with trims := Tbl.put q.2.flash.trims q.1 trimmed } }
    finishOp o.tr (setOp o.tr { o with started := true, waitsSlots := false, slots := if o.fua then r.1 else [] } s3)

/-- Start a command that holds its lock entry and has no earlier conflict (R439). -/
def startOp (o : StoreOp) (s : State) : State :=
  match Tbl.look s.spaces o.ns with
  | none => s
  | some x => if o.opcode == 0x20 || o.opcode == 0x24 then startReads o x.base s else startWrites o x s

/-- Check 7 of a data command (R430), and its lock entry (R438): it starts when no earlier entry conflicts. While the
table is full it keeps waiting (R440). A fence holds back its start only. -/
def dataCommand (tr opcode : Nat) (data : List Byte) (s : State) : State :=
  match dataTask tr opcode s with
  | none => s
  | some t =>
    let d := t.desc
    match nsFind (stNs d) s with
    | none => fail tr 0x03 s
    | some x =>
      if x.blocks < stSlba d + stNlb d then fail tr 0x01 s
      else if (opcode == 0x21 || opcode == 0x23) && spareZero s then fail tr 0x21 s
      else
        let o : StoreOp :=
          { tr := tr, opcode := opcode, ns := stNs d, slba := stSlba d, nlb := stNlb d, fua := stFua d, data := data,
            started := false, waitsSlots := false, reads := 0, failLow := none, failCount := 0, lost := false, busErr := false,
            slots := [], trims := [] }
        let l : RangeLock :=
          { holder := .command tr, ns := stNs d, first := stSlba d / 4, last := (stSlba d + stNlb d - 1) / 4,
            writes := opcode == 0x21 || opcode == 0x23 }
        match takeLock l s with
        | none => s
        | some (n, s1) =>
          let fenced := t.phase == .fenced
          let s2 := setOp tr o (if fenced then s1 else setPhase tr .running s1)
          if !fenced && lockClear n s2 then startOp o s2 else s2

/-- READ (R431, R432). -/
def execRead (tr : Nat) (s : State) : Host.Outcome State Fault Refusal := .next (dataCommand tr 0x20 [] s)

/-- WRITE (R433, R434): `buffer` is what the device reads from the host's data buffer. -/
def execWrite (tr : Nat) (buffer : List Byte) (s : State) : Host.Outcome State Fault Refusal :=
  .next (dataCommand tr 0x21 buffer s)

/-- TRIM (R437). -/
def execTrim (tr : Nat) (s : State) : Host.Outcome State Fault Refusal := .next (dataCommand tr 0x23 [] s)

/-- VERIFY (R432). -/
def execVerify (tr : Nat) (s : State) : Host.Outcome State Fault Refusal := .next (dataCommand tr 0x24 [] s)

/-- A Ledger index lies in the range of a namespace. -/
def inSpace (x : Namespace) (idx : Nat) : Bool := decide (x.base ≤ idx) && decide (idx < x.base + x.blocks / 4)

/-- Slots and trim records of the listed namespaces that are not yet durable; whether one of them is lost (R342, R435). -/
def notDurable (xs : List Namespace) (s : State) : List Nat × List Nat × Bool :=
  let mine := s.flash.slots.filter (fun p => xs.any (fun x => inSpace x p.2.ledgerIndex))
  ((mine.filter (fun p => p.2.lost == 0)).map (·.1),
   (s.flash.trims.filter (fun p => xs.any (fun x => p.2.any (inSpace x)))).map (·.1),
   mine.any (fun p => p.2.lost != 0))

/-- FLUSH (R435): waits until every unit and trim record of the namespaces that is not durable now has become so. -/
def execFlush (tr : Nat) (s : State) : Host.Outcome State Fault Refusal :=
  match readyTask tr 0x22 s with
  | none => .next s
  | some t =>
    let ns := stNs t.desc
    let xs := if ns = 0xFF then s.spaces.map (·.2) else (nsFind ns s).toList
    if ns != 0xFF && xs.isEmpty then .next (fail tr 0x03 s)
    else
      let w := notDurable xs s
      let o : StoreOp :=
        { tr := tr, opcode := 0x22, ns := ns, slba := 0, nlb := 0, fua := false, data := [], started := true, waitsSlots := false,
          reads := 0, failLow := none, failCount := 0, lost := w.2.2, busErr := false, slots := w.1, trims := w.2.1 }
      .next (finishOp tr (setOp tr o (setPhase tr .running s)))

/-- RANGE_LOCK_GRANT (R439): the waiting command of an entry starts when no earlier conflicting entry remains; a Cellar
slot goes on with its next request. -/
def execRangeLockGrant (entry : Nat) (s : State) : Host.Outcome State Fault Refusal :=
  match Tbl.look s.flash.locks entry with
  | none => .next s
  | some l =>
    match l.holder with
    | .cellar _ _ => .next s
    | .command tr =>
      match Tbl.look s.flash.ops tr with
      | none => .next s
      | some o =>
        if !o.started && !o.waitsSlots && !isFenced tr s && lockClear entry s then .next (startOp o s) else .next s

/-- WRITE_SLOT_GRANT (R436): a WRITE or TRIM that waits for slots proceeds when enough are free. -/
def execWriteSlotGrant (tr : Nat) (s : State) : Host.Outcome State Fault Refusal :=
  match Tbl.look s.flash.ops tr with
  | none => .next s
  | some o => if o.waitsSlots then .next (startOp { o with waitsSlots := false } s) else .next s

/-! Namespaces (R424 to R428). -/

/-- Charge in blocks of 4 KiB (R340, R426). -/
def nsCharge (blocks pool : Nat) (s : State) : Nat := if poolSlc pool s then 4 * blocks else blocks

/-- The lowest free contiguous range of `n` Ledger indices: the ends of the ranges in use are the places to try. -/
def ledgerFit (n : Nat) (s : State) : Option Nat :=
  let cap := ((area 4 s).2 - (area 4 s).1) / 5
  let used := s.spaces.map (fun p => (p.2.base, p.2.base + p.2.blocks / 4))
  let ok := fun (a : Nat) => decide (a + n ≤ cap) && used.all (fun r => decide (a + n ≤ r.1) || decide (r.2 ≤ a))
  let starts := (0 :: used.map (·.2)).filter ok
  starts.foldl (fun best a => match best with | some b => some (min a b) | none => some a) none

/-- NS_CREATE (R426): the root is durable in SYSTEM when it completes. -/
def execNsCreate (tr : Nat) (s : State) : Host.Outcome State Fault Refusal :=
  match readyTask tr 0x10 s with
  | none => .next s
  | some t =>
    let id := dParam t.desc 327 320
    let blocks := dParam t.desc 375 328
    let pool := dParam t.desc 378 376
    let total := s.spaces.foldl (fun n p => n + nsCharge p.2.blocks p.2.pool s) 0 + nsCharge blocks pool s
    if (Tbl.look s.spaces id).isSome then .next (fail tr 0x03 s)
    else if Config.userCapacity < total * 4096 then .next (fail tr 0x21 s)
    else match ledgerFit (blocks / 4) s with
      | none => .next (fail tr 0x21 s)
      | some base =>
        .next (complete tr 0 base 0
          { s with spaces := Tbl.put s.spaces id { blocks := blocks, pool := pool, base := base } })

/-- What keeps a namespace from being deleted (R427), beside the embedding service and Ralid, which `busy` reports. -/
def nsHeld (id : Nat) (s : State) : Bool :=
  s.flash.locks.any (fun p => p.2.ns == id) || s.tensor.jobs.any (fun p => bit (jNsGrant p.2.desc) (id - 1))

/-- Unmap every unit of a namespace. -/
def unmapSpace (x : Namespace) (s : State) : State :=
  ((s.flash.ledger.map (·.1)).filter (inSpace x)).foldl (fun acc i => unmapUnit i acc) s

/-- The 512-bit namespace record (Table: Namespace record). -/
def nsRecord (id : Nat) (x : Namespace) (s : State) : Nat :=
  let mapped := (s.flash.ledger.filter (fun p => inSpace x p.1)).length
  id + x.pool * 2 ^ 8 + b2n (poolSlc x.pool s) * 2 ^ 11 + x.blocks * 2 ^ 16 + x.base * 2 ^ 64
    + nsCharge x.blocks x.pool s * 2 ^ 128 + mapped * 2 ^ 192

/-- NS_QUERY (R428). -/
def execNsQuery (tr : Nat) (s : State) : Host.Outcome State Fault Refusal :=
  match readyTask tr 0x12 s with
  | none => .next s
  | some t =>
    let id := dParam t.desc 327 320
    match nsFind id s with
    | none => .next (fail tr 0x03 s)
    | some x => .next (complete tr 0 0 0 (hostWrite (dPtr0 t.desc) (leBytes 64 (nsRecord id x s)) s))

/-! Service of Cellar requests (R183, R184). -/

/-- The first request of a class that waits at a porter. -/
def firstWaiting (porter cls : Nat) (s : State) : Option (Nat × CellarReq) :=
  s.mem.cellar.find? (fun p => p.2.porter == porter && p.2.cls == cls && !p.2.issued)

/-- The class that the porter serves next: class 4 and class 5 get one of every 16 die operations while they wait; class
5 yields to background work under the reserve rule, which the background's own commands carry out (R183, R352). -/
def nextClass (porter : Nat) (s : State) : Option Nat :=
  let waits := fun (c : Nat) => (firstWaiting porter c s).isSome
  if waits 4 && decide (15 ≤ Tbl.lookD s.mem.since4 porter 0) then some 4
  else if waits 5 && decide (15 ≤ Tbl.lookD s.mem.since5 porter 0) then some 5
  else ([1, 2, 3, 4, 5].find? waits)

/-- CELLAR_UNIT_ISSUE (R183): the porter issues its next die operation. A request whose unit is not on the media is
answered at once. -/
def execCellarUnitIssue (porter : Fin 32) (s : State) : Host.Outcome State Fault Refusal :=
  let p := porter.val
  match nextClass p s with
  | none => .next s
  | some c =>
    match firstWaiting p c s with
    | none => .next s
    | some (n, r) =>
      let die := match r.place with
        | .flash _ _ => true
        | _ => false
      let s1 := cellarMod n (fun q => { q with issued := true, result := if die then none else some (.read 0) }) s
      let bumpSince := fun (t : Tbl Nat) (mine : Nat) => Tbl.put t p (if c = mine then 0 else Tbl.lookD t p 0 + 1)
      .next { s1 with mem := { s1.mem with since4 := bumpSince s1.mem.since4 4, since5 := bumpSince s1.mem.since5 5 } }

end Sys2Proof.Machine
end

