-- ==== Sys2Proof/Machine/Porter.lean ====
section
/-! DEFINITION. The family of Porter commands: transfers, Caravans, Cellar and fabric slots, flag operations and bandwidth
reservations (chapter 06, R140, R317, R325 to R328). -/

namespace Sys2Proof.Machine

/-! Started entries. -/

/-- The entries that a Porter has started. -/
def Tile.porter (x : Tile) (inbound : Bool) : List QEntry := if inbound then x.pin else x.pout

/-- Change the started entry with a number. -/
def modEntry (t : Nat) (inbound : Bool) (id : Nat) (f : QEntry → QEntry) (s : State) : State :=
  let g := fun (q : QEntry) => if q.id = id then f q else q
  modTile t (fun x => if inbound then { x with pin := x.pin.map g } else { x with pout := x.pout.map g }) s

/-- The oldest started entry of a Porter with opcode `op` whose work has not begun. -/
def startedEntry (t : Nat) (inbound : Bool) (op : Nat) (s : State) : Option QEntry :=
  if !draining s then none
  else ((tileOf t s).porter inbound).find? (fun q => !q.null && !q.done && q.next == 0 && sOp q.slot == op)

/-- Its work is done: it completes in queue order (R171). -/
def setDone (q : QEntry) : QEntry := { q with done := true, next := 1 }

/-- The slot position of a Porter in the stop snapshot. -/
def porterPos (inbound : Bool) : Nat := if inbound then 2 else 3

/-- A word of the source cannot be recovered (R499): the job faults, and the entry has nothing more to do. -/
def sourceLost (t : Nat) (inbound : Bool) (q : QEntry) (s : State) : State :=
  modEntry t inbound q.id setDone (raiseFault causeStackedUncorrectable t true 0 q.word (porterPos inbound) s)

/-- LOAD (R169, R171): rows from stacked or shared memory go to tile memory. -/
def execLoad (tile : Fin 128) (s : State) : Host.Outcome State Fault Refusal :=
  let t := tile.val
  match startedEntry t true 1 s with
  | none => .next s
  | some q =>
    let c := hostClear false ((pRowAddrs q.slot).map (fun a => (a, pLen q.slot * 64))) s
    if !c.1 then .next c.2
    else match readRows (pRowAddrs q.slot) (pLen q.slot * 64) s with
    | (.error _, s1) => .next (sourceLost t true q s1)
    | (.ok bytes, s1) => .next (modEntry t true q.id setDone (modTile t (fun x => tileWrite x (pTile q.slot * 64) bytes) s1))

/-- STORE (R169, R171, R172): rows from tile memory go to stacked or shared memory. -/
def execStore (tile : Fin 128) (s : State) : Host.Outcome State Fault Refusal :=
  let t := tile.val
  match startedEntry t false 1 s with
  | none => .next s
  | some q =>
    let c := hostClear true ((pRowAddrs q.slot).map (fun a => (a, pLen q.slot * 64))) s
    if !c.1 then .next c.2
    else .next (modEntry t false q.id setDone
      (writeRows (pRowAddrs q.slot) (pLen q.slot * 64) (tileRead (tileOf t s) (pTile q.slot * 64) (pBytes q.slot)) s))

/-! Caravans (R174 to R178). -/

/-- A started Caravan entry joins its group's sequence. -/
def joinGroup (t op : Nat) (s : State) : State :=
  match startedEntry t true op s with
  | none => s
  | some q => modEntry t true q.id (fun r => { r with next := 1 }) s

/-- CARAVAN_LOAD (R175). -/
def execCaravanLoad (tile : Fin 128) (s : State) : Host.Outcome State Fault Refusal := .next (joinGroup tile.val 2 s)

/-- CARAVAN_RECV (R175). -/
def execCaravanRecv (tile : Fin 128) (s : State) : Host.Outcome State Fault Refusal := .next (joinGroup tile.val 3 s)

/-- The entry of a tile that takes part in the next delivery of a group: its oldest that is not done. -/
def groupEntry (t op g : Nat) (s : State) : Option QEntry :=
  (tileOf t s).pin.find? (fun q => !q.null && !q.done && sOp q.slot == op && pGroup q.slot == g)

/-- The members of a group apart from its leader, in ascending order. -/
def groupMembers (c : Caravan) : List Nat := (List.range Config.tiles).filter (fun t => bit c.members.toNat t && t != c.leader)

/-- CARAVAN_DELIVERY_START (R175): every entry of the group has started; a RECV that differs from the LOAD in len or rows
faults the job on its tile. -/
def execCaravanDeliveryStart (group : Fin 256) (s : State) : Host.Outcome State Fault Refusal :=
  let g := group.val
  match Tbl.look s.tensor.caravans g with
  | none => .next s
  | some c =>
    match groupEntry c.leader 2 g s with
    | none => .next s
    | some l =>
      let ms := groupMembers c
      let joined := fun (q : Option QEntry) => match q with
        | some e => e.next == 1
        | none => false
      if !running s || c.running || l.next != 1 || !ms.all (fun t => joined (groupEntry t 3 g s)) then .next s
      else
        let differs := fun (t : Nat) => match groupEntry t 3 g s with
          | some q => pLen q.slot != pLen l.slot || pRows q.slot != pRows l.slot
          | none => false
        let bad := ms.filter differs
        if !bad.isEmpty then
          .next (bad.foldl (fun acc t =>
            raiseFault causeCaravanMismatch t true 0 (((groupEntry t 3 g s).map (·.word)).getD 0) 2 acc) s)
        else
          let start := fun (op t : Nat) (acc : State) => match groupEntry t op g acc with
            | some q => modEntry t true q.id (fun r => { r with waitFrom := none }) acc
            | none => acc
          let s1 := ms.foldl (fun acc t => start 3 t acc) (start 2 c.leader s)
          .next { s1 with tensor := { s1.tensor with caravans := Tbl.put s1.tensor.caravans g { c with running := true } } }

/-- CARAVAN_DELIVERY_COMPLETE (R175, R177): the source is read once and written into every member; the LOAD and every RECV
complete. -/
def execCaravanDeliveryComplete (group : Fin 256) (s : State) : Host.Outcome State Fault Refusal :=
  let g := group.val
  match Tbl.look s.tensor.caravans g with
  | none => .next s
  | some c =>
    match groupEntry c.leader 2 g s with
    | none => .next s
    | some l =>
      let clear := hostClear false ((pRowAddrs l.slot).map (fun a => (a, pLen l.slot * 64))) s
      if !c.running || !draining s then .next s
      else if !clear.1 then .next clear.2
      else
        let s0 := { s with tensor := { s.tensor with caravans := Tbl.put s.tensor.caravans g { c with running := false } } }
        let all := (c.leader, 2) :: (groupMembers c).map (fun t => (t, 3))
        match readRows (pRowAddrs l.slot) (pLen l.slot * 64) s0 with
        | (.error _, s1) =>
          .next (all.foldl (fun acc p => match groupEntry p.1 p.2 g acc with
            | some q => modEntry p.1 true q.id setDone acc
            | none => acc) (raiseFault causeStackedUncorrectable c.leader true 0 l.word 2 s1))
        | (.ok bytes, s1) =>
          .next (all.foldl (fun acc p => match groupEntry p.1 p.2 g acc with
            | some q => modEntry p.1 true q.id setDone (modTile p.1 (fun x => tileWrite x (pTile q.slot * 64) bytes) acc)
            | none => acc) s1)

/-! Cellar slots (R179 to R184, R438, R439). -/

/-- The job is latency-critical. -/
def latencyCritical (j : Job) : Bool := jClass j.desc == 1

/-- Queue the request of unit `u` of a Cellar slot; none while its class queue is full (R183, R184). -/
def cellarUnit (t : Nat) (inbound : Bool) (q : QEntry) (j : Job) (x : Namespace) (u : Nat) (s : State) : Option State :=
  let idx := x.base + cUnitOff q.slot + u
  let cls := if inbound then (if latencyCritical j then 2 else 4) else 5
  let porter := cellarPorter (ledgerOf idx s) idx s
  if 256 ≤ cellarQueued porter cls s then none
  else
    let place : LedgerEntry :=
      if inbound then (match flashNeed idx [0, 1, 2, 3] s with
        | some (sb, off) => .flash sb off
        | none => ledgerOf idx s)
      else .unmapped
    let r : CellarReq :=
      { porter := porter, cls := cls, index := idx, place := place, issued := false, again := false, late := false, result := none
        for_ := .slot t inbound q.id (pExt q.slot * 64 + 16384 * u) (!inbound && cFua q.slot) }
    some { s with mem := { s.mem with cellar := Tbl.put s.mem.cellar s.mem.cellarNext r, cellarNext := s.mem.cellarNext + 1 } }

/-- Queue requests from unit `u` on, at most `k`, until one finds its queue full: the first unit not requested. -/
def cellarUnits (t : Nat) (inbound : Bool) (q : QEntry) (j : Job) (x : Namespace) : Nat → Nat → State → Nat × State
  | 0, u, s => (u, s)
  | k + 1, u, s =>
    match cellarUnit t inbound q j x u s with
    | some s1 => cellarUnits t inbound q j x k (u + 1) s1
    | none => (u, s)

/-- The oldest started Cellar slot of a Porter that has units to request. -/
def cellarEntry (t : Nat) (inbound : Bool) (s : State) : Option QEntry :=
  if !draining s then none
  else ((tileOf t s).porter inbound).find? (fun q =>
    !q.null && !q.done && sOp q.slot == (if inbound then 4 else 2) && decide (q.next < cUnits q.slot))

/-- A Cellar slot takes its range lock, and requests its units while no earlier entry conflicts and the class queues have
room. -/
def cellarSlot (t : Nat) (inbound : Bool) (s : State) : State :=
  match ownerJob s, cellarEntry t inbound s with
  | some (_, j), some q =>
    match Tbl.look s.spaces (cNs q.slot + 1) with
    | none => s
    | some x =>
      let l : RangeLock :=
        { holder := .cellar t inbound, ns := cNs q.slot + 1, first := cUnitOff q.slot, last := cUnitOff q.slot + cUnits q.slot - 1,
          writes := !inbound }
      let held := match q.lock with
        | some n => some (n, s)
        | none => takeLock l s
      match held with
      | none => s
      | some (n, s1) =>
        let s2 := modEntry t inbound q.id (fun r => { r with lock := some n, left := if r.lock.isNone then cUnits r.slot else r.left }) s1
        if !lockClear n s2 then s2
        else
          let r := cellarUnits t inbound q j x (cUnits q.slot - q.next) q.next s2
          modEntry t inbound q.id (fun e => { e with next := r.1 }) r.2
  | _, _ => s

/-- CELLAR_READ (R179, R181, R184). -/
def execCellarRead (tile : Fin 128) (s : State) : Host.Outcome State Fault Refusal := .next (cellarSlot tile.val true s)

/-- CELLAR_WRITE (R179, R182, R184). -/
def execCellarWrite (tile : Fin 128) (s : State) : Host.Outcome State Fault Refusal := .next (cellarSlot tile.val false s)

/-- One unit of a Cellar slot is complete; with the last one the slot is done. -/
def unitDone (n t : Nat) (inbound : Bool) (entry : Nat) (s : State) : State :=
  modEntry t inbound entry (fun q => { q with left := q.left - 1, done := decide (q.left ≤ 1) }) (cellarDel n s)

/-- A unit of a Cellar slot is lost (R181). -/
def unitLost (n t : Nat) (entry : Nat) (s : State) : State :=
  let word := (((tileOf t s).pin.find? (fun q => q.id == entry)).map (·.word)).getD 0
  unitDone n t true entry (raiseFault causeCellarUnrecoverable t true 0 word 2 s)

/-- The unit that a request of a Cellar slot is for moves: a read into stacked memory, a write into the write buffer; with
fua it is complete only when durable (R181, R182). A write waits while no slot of the buffer is free (R436). -/
def completeSlotUnit (n : Nat) (r : CellarReq) (t : Nat) (inbound : Bool) (entry addr : Nat) (fua : Bool) (s : State) : State :=
  let clear := hostClear inbound [(addr, 16384)] s
  if r.result.isSome && !clear.1 then clear.2
  else if inbound then
    match r.result with
    | none => s
    | some .busError => unitLost n t entry s
    | some (.read lost) =>
      match readUnit r.index lost s with
      | (none, s1) => unitLost n t entry s1
      | (some bytes, s1) => unitDone n t true entry (putStacked addr bytes s1)
  else
    match r.place, r.result with
    | .unmapped, some _ =>
      match readStacked addr 16384 s with
      | (.error _, s1) =>
        let word := (((tileOf t s).pout.find? (fun q => q.id == entry)).map (·.word)).getD 0
        unitDone n t false entry (raiseFault causeStackedUncorrectable t true 0 word 3 s1)
      | (.ok bytes, s1) =>
        let pool := ((s.spaces.find? (fun p => inSpace p.2 r.index)).map (·.2.pool)).getD 0
        match writeUnit r.index pool ((List.range 4).map (fun b => (b, (bytes.drop (4096 * b)).take 4096))) s1 with
        | none => s
        | some (k, s2) => if fua then cellarMod n (fun q => { q with place := .buffer k }) s2 else unitDone n t false entry s2
    | .flash _ _, some _ => unitDone n t false entry s
    | _, _ => s

/-! Remote slots (R317). -/

/-- Bytes as words, the lowest first. -/
def wordsOf (bytes : List Byte) : List W64 :=
  (chunksOf 8 (bytes.length / 8 + 1) bytes).map (fun b => BitVec.ofNat 64 (leNat b))

/-- Words as bytes. -/
def bytesOf (ws : List W64) : List Byte := ws.flatMap (fun w => leBytes 8 w.toNat)

/-- The parcels of a remote slot: target address, tile-memory address and bytes, rows in order, at most 4 KiB each. -/
def remotePieces (q : BitVec 128) : List (Nat × Nat × Nat) :=
  let n := pLen q * 64
  (List.range (pRows q)).flatMap (fun r =>
    (List.range ((n + 4095) / 4096)).map (fun k =>
      ((pExt q + r * pPitch q) * 64 + 4096 * k, pTile q * 64 + r * n + 4096 * k, min 4096 (n - 4096 * k))))

/-- Split a remote slot into its requests. -/
def remoteSlot (t : Nat) (inbound : Bool) (op opcode : Nat) (s : State) : State :=
  match ownerJob s, startedEntry t inbound opcode s with
  | some (_, j), some q =>
    let pieces := remotePieces q.slot
    let s1 := modEntry t inbound q.id (fun r => { r with next := 1, left := pieces.length }) s
    let x := tileOf t s
    pieces.foldl (fun acc p =>
      sendRequest op (sBits q.slot 13 2) (jFabricCtx j.desc) (bit q.slot.toNat 1) (if op = 3 then b2n (bit q.slot.toNat 0) else 0) p.1
        (if inbound then p.2.2 / 8 * 2 ^ 60 else 0) (if inbound then [] else wordsOf (tileRead x p.2.1 p.2.2))
        (.slot t inbound q.id p.2.1) acc) s1
  | _, _ => s

/-- REMOTE_GET (R317). -/
def execRemoteGet (tile : Fin 128) (s : State) : Host.Outcome State Fault Refusal := .next (remoteSlot tile.val true 2 5 s)

/-- REMOTE_PUT (R317). -/
def execRemotePut (tile : Fin 128) (s : State) : Host.Outcome State Fault Refusal := .next (remoteSlot tile.val false 1 3 s)

/-- REMOTE_ADD (R317, R318). -/
def execRemoteAdd (tile : Fin 128) (s : State) : Host.Outcome State Fault Refusal := .next (remoteSlot tile.val false 3 4 s)

/-! REDUCE (R325 to R328). -/

/-- One element of a sum: FP32 to nearest, ties to even, with the canonical NaN, or INT32 that wraps (R318, R327). -/
def sumElem (fmt a b : Nat) : Nat :=
  if fmt = 1 then (a + b) % 2 ^ 32
  else
    let r := (f32.add .tiesEven a b).1
    if f32.isNan r then f32.nanBits else r

/-- The sum of two words of two elements each. -/
def sumWord (fmt : Nat) (a b : W64) : W64 :=
  BitVec.ofNat 64 (sumElem fmt (a.toNat % 2 ^ 32) (b.toNat % 2 ^ 32) + 2 ^ 32 * sumElem fmt (a.toNat / 2 ^ 32) (b.toNat / 2 ^ 32))

/-- The sum of two payloads. -/
def sumWords (fmt : Nat) (xs ys : List W64) : List W64 := List.zipWith (sumWord fmt) xs ys

/-- The key of a reduction. -/
def reduceKey (ctx rid : Nat) : Nat := ctx * 4096 + rid

/-- Segments of a reduction: 4 KiB each; a barrier has one. -/
def Reduction.segments (r : Reduction) : Nat := max 1 ((r.data.length + 4095) / 4096)

/-- This device's own words of a segment. -/
def Reduction.own (r : Reduction) (seg : Nat) : List W64 := wordsOf ((r.data.drop (4096 * seg)).take 4096)

/-- A contribution does not match this device's own slot (R326). -/
def Reduction.mismatch (r : Reduction) (c : Contribution) : Bool :=
  c.fmt != r.fmt || c.root != r.root || decide (r.segments ≤ c.segment) || c.payload.length != (r.own c.segment).length

/-- Children of this device in the tree of a root. -/
def childrenOf (root : Nat) (s : State) : Nat := rChildren (routeOf root s)

/-- The tree is usable from this device (R326). -/
def treeOk (root : Nat) (s : State) : Bool :=
  let e := routeOf root s
  rMember e && (root == s.fabric.id || rValid (routeOf (rParent e) s))

/-- Held contributions of a reduction. -/
def heldOf (key : Nat) (s : State) : List Contribution := Tbl.lookD s.fabric.held key []

/-- A held contribution contradicts the slot, or a segment has more than the children can send. -/
def heldBad (r : Reduction) (key : Nat) (s : State) : Bool :=
  (heldOf key s).any (fun c =>
    r.mismatch c || decide (childrenOf r.root s < ((heldOf key s).filter (fun d => d.segment == c.segment)).length))

/-- Enter a reduction. -/
def addReduction (r : Reduction) (s : State) : State :=
  { s with fabric := { s.fabric with reductions := Tbl.put s.fabric.reductions (reduceKey r.ctx r.rid) r } }

/-- REDUCE (R325, R326). -/
def execReduce (tile : Fin 128) (s : State) : Host.Outcome State Fault Refusal :=
  let t := tile.val
  match ownerJob s, startedEntry t false 5 s with
  | some (_, j), some q =>
    let ctx := jFabricCtx j.desc
    let key := reduceKey ctx (rdId q.slot)
    let root := j.root
    let stop := fun (c : Nat) => Host.Outcome.next (modEntry t false q.id setDone (raiseFault c t true 0 q.word 3 s))
    if !treeOk root s then stop causeReduceTree
    else if (Tbl.look s.fabric.reductions key).isSome then stop causeReduceMismatch
    else
      let r : Reduction :=
        { ctx := ctx, rid := rdId q.slot, root := root, fmt := rdFmt q.slot,
          data := tileRead (tileOf t s) (pTile q.slot * 64) (pBytes q.slot), dest := some (pExt q.slot * 64), owner := t, barrier := false,
          combined := [], written := [] }
      let s1 := addReduction r (modEntry t false q.id (fun e => { e with next := 1, left := r.segments }) s)
      .next (if heldBad r key s then raiseFault causeReduceMismatch t true 0 q.word 3 s1 else s1)
  | _, _ => .next s

/-! Flag operations (R140). -/

/-- Two tiles lie in one reticle field (R73). -/
def sameField (a b : Nat) : Bool := a / 32 == b / 32

/-- FLAG_TILE (R140): the increment lands 16 or 32 delivered cycles later; the clock lands it and the slot is then done. -/
def execFlagTile (tile : Fin 128) (s : State) : Host.Outcome State Fault Refusal :=
  let t := tile.val
  match startedEntry t false 0x10 s with
  | none => .next s
  | some q =>
    let u := sBits q.slot 103 97
    let l : Landing :=
      { due := s.tensor.delivered + (if sameField t u then 16 else 32), src := t, tile := u, flag := sBits q.slot 96 91, n := sBits q.slot 90 87 }
    let s1 := modEntry t false q.id (fun r => { r with next := 1 }) s
    .next { s1 with tensor := { s1.tensor with landings := s1.tensor.landings ++ [l] } }

/-- FLAG_REMOTE (R140): a FLAG_SET goes out; the slot completes when it is acknowledged. -/
def execFlagRemote (tile : Fin 128) (s : State) : Host.Outcome State Fault Refusal :=
  let t := tile.val
  match ownerJob s, startedEntry t false 0x11 s with
  | some (_, j), some q =>
    let s1 := modEntry t false q.id (fun r => { r with next := 1, left := 1 }) s
    .next (sendRequest 4 (sBits q.slot 103 92) (jFabricCtx j.desc) false 0 0
      (sBits q.slot 91 85 * 2 ^ 63 + sBits q.slot 84 79 * 2 ^ 57 + sBits q.slot 78 75 * 2 ^ 53) [] (.slot t false q.id 0) s1)
  | _, _ => .next s

/-! Completion. -/

/-- PORTER_ENTRY_COMPLETE (R171, R153): the oldest entry of a Porter whose work is done completes, raises its signals and
releases its range lock (R439). -/
def execPorterEntryComplete (tile : Fin 128) (eng : Engine) (s : State) : Host.Outcome State Fault Refusal :=
  let t := tile.val
  let x := tileOf t s
  let head := match eng with
    | .pin => x.pin.head?
    | .pout => x.pout.head?
    | _ => none
  match head with
  | none => .next s
  | some q =>
    if !q.done || !draining s then .next s
    else
      let s1 := match q.lock with
        | some n => dropLock n s
        | none => s
      .next (finishTaken t eng (fun r => r.id == q.id) s1)

/-! Bandwidth reservations (R192 to R198). -/

/-- Sum of the standing entries. -/
def standingTotal (s : State) : Nat := s.mem.standing.foldl (· + ·) 0

/-- The largest reservation of an admitted job. -/
def largestJob (s : State) : Nat := s.tensor.jobs.foldl (fun n p => max n (jResvSlots p.2.desc)) 0

/-- Whether an entry is guaranteed (R197). -/
def resvActive (e : Nat) (s : State) : Bool := decide (e ≤ 5) || s.mem.activeJob == some e

/-- RESERVATION_FRAME_END (R197, R198): entries that received too little on a channel count and log a breach; a switch of
owner hands the guarantee over. -/
def execReservationFrameEnd (short : List (Fin 64 × Fin 256)) (s : State) : Host.Outcome State Fault Refusal :=
  let s1 := short.foldl (fun acc p =>
    if resvActive p.1.val s then
      logEvent .resvBreach (detailWords [p.1.val, p.2.val]) (bump 1 p.1.val 2 1 acc)
    else acc) s
  match s1.mem.nextActive with
  | none => .next s1
  | some a => .next { s1 with mem := { s1.mem with activeJob := a, nextActive := none } }

/-- A write to PTR_AREA_n: the staged layout (R167). Reserved bits read as zero. -/
def writePtrArea (n : Nat) (v : W32) (s : State) : State :=
  { s with
    mem := { s.mem with areasStaged := s.mem.areasStaged.set n (v &&& 0xF0003FFF#32) }
    cfl := { s.cfl with layoutDue := true } }

/-- PTR_AREA_WRITE (R167). -/
def execPtrAreaWrite (index : Fin 8) (value : W32) (s : State) : Host.Outcome State Fault Refusal :=
  .next (regWrite 5 false (writePtrArea index.val value) s)

/-- A write to PTR_RESV_n (R196): only the slots of entries 0 to 4 are writable. -/
def writePtrResv (n : Nat) (v : W64) (s : State) : State :=
  if 5 ≤ n then s
  else
    let slots := bits v.toNat 9 0
    let total := (s.mem.standing.set n slots).foldl (· + ·) 0
    if Config.reservable < total + largestJob s then { s with mem := { s.mem with resvRefused := true } }
    else { s with mem := { s.mem with standing := s.mem.standing.set n slots } }

/-- PTR_RESV_WRITE (R196). -/
def execPtrResvWrite (index : Fin 64) (value : W64) (s : State) : Host.Outcome State Fault Refusal :=
  .next (regWrite 5 false (writePtrResv index.val value) s)

end Sys2Proof.Machine
end

