-- ==== Sys2Proof/Machine/Stats.lean ====
section
/-! DEFINITION. The family of Guest Book and statistics commands (chapter 19, R118 to R126), but for the requests that
need other units' registers. -/

namespace Sys2Proof.Machine

/-! Statistics windows (R121, R122, R124 to R126, R532). -/

/-- What ends a window besides a write and the SCLK count (R121). -/
inductive WinEnd where
  | step | batch | switch
  deriving DecidableEq, Repr

/-- Whether a mode ends its window there. -/
def WinEnd.ends (k : WinEnd) (mode : Nat) : Bool :=
  match k with
  | .step => mode == 2
  | .batch => mode == 3
  | .switch => mode != 0

/-- job_tag of the owner; 0 when none. -/
def ownerTag (s : State) : Nat := ((ownerJob s).map (·.2.tag)).getD 0

/-- The QUANT_SATURATION of a latch, if one is due (R125, R126). -/
def saturationEvent (banks : Tbl QBank) (s : State) : State :=
  let thr := bits s.tensor.qctrlInUse.toNat 23 0
  let exceeding := banks.filter (fun p => decide (thr < p.2.sat))
  if thr = 0 || exceeding.isEmpty then s
  else
    let recent := match s.tensor.qsatLast with
      | some t => decide (s.tclk < t + 10000 * Config.tclkPerUs)
      | none => false
    if recent then { s with tensor := { s.tensor with qsatSuppressed := satAdd 16 s.tensor.qsatSuppressed 1 } }
    else
      let max := banks.foldl (fun n p => Nat.max n p.2.sat) 0
      let first := (exceeding.head?.map (·.1)).getD 0
      let detail := ownerTag s + s.tensor.qsatSuppressed * 2 ^ 32 + exceeding.length * 2 ^ 48 + first * 2 ^ 56 + max * 2 ^ 64
        + s.tensor.qseq * 2 ^ 96
      let s1 := { s with tensor := { s.tensor with qsatLast := some s.tclk, qsatSuppressed := 0 } }
      logEvent .quantSaturation detail s1

/-- All tiles latch (R122, R124): shadows take the counters, which restart from zero, and the settings of the register
come into force. -/
def qstatLatch (s : State) : State :=
  let tag := ownerTag s
  let banks := s.tensor.qbanks
  let s1 := { s with tensor := { s.tensor with
    qshadows := (List.range Config.tiles).map (fun t => (t, (Tbl.lookD banks t QBank.zero, tag)))
    qbanks := []
    qseq := (s.tensor.qseq + 1) % 2 ^ 32 } }
  let s2 := saturationEvent banks s1
  { s2 with tensor := { s2.tensor with qctrlInUse := s2.tensor.qctrl } }

/-- A counter bank latches: its shadows take its counters, which restart from zero (R532). -/
def bankLatch (b : Nat) (s : State) : State :=
  let mine := fun (p : Nat × Nat) => p.1 / 2 ^ 16 == b
  let w := winOf b s
  { s with evt := { s.evt with
      shadows := s.evt.shadows.filter (fun p => decide (p.1 / 2 ^ 16 < b)) ++ s.evt.counters.filter mine
        ++ s.evt.shadows.filter (fun p => decide (b < p.1 / 2 ^ 16))
      counters := s.evt.counters.filter (fun p => !mine p)
      wins := Tbl.put s.evt.wins b { w with inUse := w.reg, seq := (w.seq + 1) % 2 ^ 32 } } }

/-- Every window that ends at this point (R121, R532). -/
def windowsEnd (k : WinEnd) (s : State) : State :=
  let s1 := if k.ends (winMode s.tensor.qctrlInUse) then qstatLatch s else s
  (List.range 7).foldl (fun acc b => if k.ends (winMode (winOf b acc).inUse) then bankLatch b acc else acc) s1

/-- A write to TIL_QSTAT_CTRL ends the window, in every mode (R121). -/
def writeQstatCtrl (value : W32) (s : State) : State := qstatLatch { s with tensor := { s.tensor with qctrl := value } }

/-- QSTAT_CTRL_WRITE (R121). -/
def execQstatCtrlWrite (value : W32) (s : State) : Host.Outcome State Fault Refusal :=
  .next (regWrite 7 false (writeQstatCtrl value) s)

/-- QSTAT_WINDOW_LATCH (R121, R122): the SCLK count of mode 0b01 has passed. -/
def execQstatWindowLatch (s : State) : Host.Outcome State Fault Refusal :=
  if winMode s.tensor.qctrlInUse = 1 then .next (qstatLatch s) else .next s

/-- A write to EVT_WIN_CTRL_n ends the bank's window, in every mode (R532). -/
def writeWinCtrl (bank : Nat) (value : W32) (s : State) : State :=
  let w := winOf bank s
  bankLatch bank { s with evt := { s.evt with wins := Tbl.put s.evt.wins bank { w with reg := value &&& 0xFF000000#32 } } }

/-- EVT_WIN_CTRL_WRITE (R532). -/
def execEvtWinCtrlWrite (bank : Fin 7) (value : W32) (s : State) : Host.Outcome State Fault Refusal :=
  .next (regWrite 1 true (writeWinCtrl bank.val value) s)

/-- STATS_WINDOW_END (R532): the SCLK count of mode 0b01 has passed. -/
def execStatsWindowEnd (bank : Fin 7) (s : State) : Host.Outcome State Fault Refusal :=
  if winMode (winOf bank.val s).inUse = 1 then .next (bankLatch bank.val s) else .next s

/-- A write to EVT_CTR_SEL (R533). -/
def writeCtrSel (value : W32) (s : State) : State := { s with evt := { s.evt with ctrSel := value &&& 0x0007007F#32 } }

/-- EVT_CTR_SEL_WRITE (R533). -/
def execEvtCtrSelWrite (value : W32) (s : State) : Host.Outcome State Fault Refusal :=
  .next (regWrite 1 true (writeCtrSel value) s)

/-! The Guest Book ring (R526 to R529). -/

/-- Records of the buffer go to the ring in seq order; one that finds it full is lost (R528). -/
def gbFlush : List EvtRec → State → State
  | [], s => s
  | r :: rest, s => gbFlush rest (if gbHasRoom s.evt then gbPut r s else gbLose r s)

/-- A write to EVT_GB_CTRL: start, stop, and the fields (R526). -/
def writeGbCtrl (v : W32) (s : State) : State :=
  let e := s.evt
  let n := v.toNat
  let e1 := { e with enable := bit n 31, refused := e.refused && !bit n 30, headErr := e.headErr && !bit n 28 }
  let e2 := if e.running then e1 else { e1 with vector := bits n 27 16, depthM1 := bits n 15 0 }
  let s1 := { s with evt := e2 }
  if !bit n 31 then { s with evt := { e2 with running := false } }
  else if e.running then s1
  else if 63 ≤ e2.depthM1 && (decide (e2.vector ≤ 2047) || e2.vector == 0xFFF) && e2.base % 4096 == 0 then
    let s2 := { s with evt := { e2 with running := true, head := 0, tail := 0, phase := true, buffer := [] } }
    gbReportLost (gbFlush e2.buffer s2)
  else { s with evt := { e2 with refused := true } }

/-- GB_RING_START (R526): a write of enable = 1. -/
def execGbRingStart (value : W32) (s : State) : Host.Outcome State Fault Refusal  :=
  .next (regWrite 1 true (writeGbCtrl (value ||| 0x80000000#32)) s)

/-- GB_RING_STOP (R526): a write of enable = 0. -/
def execGbRingStop (value : W32) (s : State) : Host.Outcome State Fault Refusal  :=
  .next (regWrite 1 true (writeGbCtrl (value &&& 0x7FFFFFFF#32)) s)

/-- A write to EVT_GB_HEAD (R527): it releases entries, unless the head is beyond the depth or would release an entry not
written. -/
def writeGbHead (v : W32) (s : State) : State :=
  let e := s.evt
  let h := bits v.toNat 15 0
  let depth := e.depthM1 + 1
  if !e.running then s
  else if depth ≤ h || gbUnreleased e < (h + depth - e.head) % depth then { s with evt := { e with headErr := true } }
  else gbReportLost { s with evt := { e with head := h } }

/-- GB_HEAD_WRITE (R527). -/
def execGbHeadWrite (value : W32) (s : State) : Host.Outcome State Fault Refusal  :=
  .next (regWrite 1 true (writeGbHead value) s)

/-- GB_COPY_BUDGET_TICK (R529): 4 credits a second, at most 256. -/
def execGbCopyBudgetTick (s : State) : Host.Outcome State Fault Refusal :=
  .next { s with evt := { s.evt with credits := min Config.copyBudget (s.evt.credits + 4) } }

/-! Management queries (R535). -/

/-- A DOE instance answers (R389, R390): the host reads the answer. -/
def doeAnswer (inst : Nat) (bytes : List Byte) (s : State) : State :=
  if inst = 0 then { s with host := { s.host with doe0 := some bytes, answer := .data bytes } }
  else { s with host := { s.host with doe1 := some bytes, answer := .data bytes } }

/-- The error response of the management protocol. -/
def mgmtError (code : Nat) (s : State) : State := doeAnswer 1 [0xFF#8, 0x00#8, BitVec.ofNat 8 code, 0x00#8] s

/-- A management request of a type: its complement and its zero bytes are checked; the rest is `f`. -/
def mgmtRequest (type : Nat) (req : List Byte) (f : State → State) (s : State) : State :=
  let b := fun (i : Nat) => (req.getD i 0#8).toNat
  if !doeServed s then s
  else if !isCompl 8 (b 0) (b 1) then mgmtError 0x04 s
  else if b 0 != type || b 2 != 0 || b 3 != 0 then mgmtError 0x01 s
  else f s

/-- Instances of a bank (Table: Counter banks). -/
def bankInstances : Nat → Nat
  | 0 => 128
  | 1 => 64
  | 2 => 1
  | 3 => 64
  | 4 => 16
  | 5 => 5
  | 6 => 1
  | _ => 0

/-- Word `k` of a bank's shadow instance (R533). -/
def shadowWord (bank inst k : Nat) (s : State) : Nat :=
  if bankInstances bank ≤ inst then 0 else Tbl.lookD s.evt.shadows (ctrKey bank inst k) 0

/-- EVT_CTR_DATA: the 32 words of the selected instance. -/
def ctrData (s : State) : List Nat :=
  (List.range 32).map (fun k => shadowWord (bits s.evt.ctrSel.toNat 18 16) (bits s.evt.ctrSel.toNat 6 0) k s)

/-- COUNTER_READ (R535): EVT_WIN_SEQ of the bank, then the shadow words of the instance. -/
def execCounterRead (request : List Byte) (s : State) : Host.Outcome State Fault Refusal :=
  let bank := (request.getD 4 0#8).toNat
  let inst := (request.getD 5 0#8).toNat
  .next (mgmtRequest 3 request (fun x =>
    if bankInstances bank ≤ inst then mgmtError 0x01 x
    else doeAnswer 1 (leBytes 4 (winOf bank x).seq ++ (List.range 32).flatMap (fun k => leBytes 8 (shadowWord bank inst k x))) x) s)

end Sys2Proof.Machine
end

