-- ==== Sys2Proof/Machine/Clock.lean ====
section
/-! DEFINITION. What one TCLK cycle does when no command waits (log 1): flag increments take effect (R145, R155), FLAG_TILE
increments land (R140), delivered cycles are counted (R28), and the counters of cycles count. -/

namespace Sys2Proof.Machine

/-- The governor, or a power state, removes the present cycle from the tiles (R28, R417). -/
def cycleRemoved (s : State) : Bool :=
  let g := gNow s
  s.host.pstate != 0 || (match s.power.step with
    | 0 => false
    | 1 => g % 8 == 7
    | 2 => g % 4 == 3
    | 3 => g % 2 == 1
    | _ => s.tensor.owner.isNone || s.tensor.heldByStep4 || g % 2 == 1)

/-- The FLAG_TILE slot of a tile whose increment has landed is done: it completes in the next cycle (R140). -/
def finishFlagTile (src : Nat) (s : State) : State :=
  match (tileOf src s).pout.find? (fun q => !q.null && !q.done && sOp q.slot == 0x10 && q.next == 1) with
  | some q => modEntry src false q.id (fun r => { r with done := true }) s
  | none => s

/-- Increments that are due land (R140). -/
def landDue (s : State) : State :=
  let now := s.tensor.delivered
  let due := s.tensor.landings.filter (fun l => decide (l.due ≤ now))
  let s1 := { s with tensor := { s.tensor with landings := s.tensor.landings.filter (fun l => decide (now < l.due)) } }
  due.foldl (fun acc l => finishFlagTile l.src (raiseSigs l.tile [(l.flag, l.n)] acc)) s1

/-- The increments of the cycle that count: those of a flag that FLAGINIT wrote are overridden (R145). -/
def Tile.counted (x : Tile) : Tbl Nat := x.incs.filter (fun p => (Tbl.look x.inits p.1).isNone)

/-- A flag would exceed 255 (R155). -/
def Tile.overflows (x : Tile) : Bool := x.counted.any (fun p => decide (255 < x.flag p.1 + p.2))

/-- The flags at the end of the cycle. A flag that would exceed 255 keeps its value: its job stops. -/
def Tile.commit (x : Tile) : Tile :=
  let put := fun (t : Tbl Nat) (p : Nat × Nat) =>
    let v := Tbl.lookD t p.1 0 + p.2
    if 255 < v then t else Tbl.put t p.1 v
  { x with flags := x.counted.foldl put x.flags, incs := [], inits := [] }

/-- Every tile's increments take effect; an overflow stops the job. -/
def commitFlags (s : State) : State :=
  let bad := (s.tensor.tiles.filter (fun p => p.2.overflows)).map (·.1)
  let s1 := { s with tensor := { s.tensor with tiles := Tbl.mapVals s.tensor.tiles (fun _ x => x.commit) } }
  bad.foldl (fun acc t => raiseFault causeFlagOverflow t true 0 0 7 acc) s1

/-- Cycle counters of a tile (bank 0 of R531). -/
def countTile (t : Nat) (x : Tile) (s : State) : State :=
  let d := dispState x
  let carried := x.pin.any (fun q => !q.null && !q.done && q.waitFrom.isSome && (sOp q.slot == 2 || sOp q.slot == 3))
  let hits : List (Nat × Bool) :=
    [(0, x.arr.isSome || !x.grids.isEmpty), (1, x.vec.isSome), (2, !x.pin.isEmpty), (3, !x.pout.isEmpty), (9, d == 1), (10, d == 2),
     (11, d == 3), (12, d == 4), (13, carried), (14, true)]
  hits.foldl (fun acc h => bump 0 t h.1 (b2n h.2) acc) s

/-- A CELLAR_READ slot stalls on a full class queue, or on a full lock table (R184, R440). -/
def queueFull (s : State) : Bool :=
  s.tensor.tiles.any (fun p => match cellarEntry p.1 true s, ownerJob s with
    | some q, some (_, j) =>
      match Tbl.look s.spaces (cNs q.slot + 1) with
      | none => false
      | some x =>
        let i := x.base + cUnitOff q.slot + q.next
        (q.lock.isNone && decide (Config.lockEntries ≤ s.flash.locks.length))
          || decide (256 ≤ cellarQueued (cellarPorter (ledgerOf i s) i s) (if jClass j.desc = 1 then 1 else 2) s)
    | _, _ => false)

/-- The stall causes of the owner's CELLAR_READ slots in this cycle (R199, R231). -/
def countStalls (j : Job) (s : State) : Job :=
  let mine := s.mem.cellar.filter (fun p => p.2.result.isNone && (match p.2.for_ with
    | .slot _ inbound _ _ _ => inbound
    | _ => false))
  { j with
    stallPriority := satAdd 64 j.stallPriority (b2n (mine.any (fun p => !p.2.issued)))
    stallBusy := satAdd 64 j.stallBusy (b2n (mine.any (fun p => p.2.issued && !p.2.again)))
    stallRetry := satAdd 64 j.stallRetry (b2n (mine.any (fun p => p.2.issued && p.2.again)))
    stallQueue := satAdd 64 j.stallQueue (b2n (queueFull s)) }

/-- What a delivered cycle counts: the owner's cycles, its waits for a step set (R190), its stalls, and bank 0. -/
def countCycle (s : State) : State :=
  let s1 := if winMode (winOf 0 s).inUse = 0 then s else s.tensor.tiles.foldl (fun acc p => countTile p.1 p.2 acc) s
  let s2 := match ownerJob s1 with
    | none => s1
    | some (e, j) =>
      let k := countStalls j s1
      setJob e { k with cycles := k.cycles + 1, stepLoad := satAdd 32 k.stepLoad (b2n s1.tensor.region.waits) } s1
  { s2 with tensor := { s2.tensor with delivered := s2.tensor.delivered + 1 } }

/-- One TCLK cycle passes. -/
def clockTick (s : State) : State :=
  let removed := cycleRemoved s
  let s1 := commitFlags (if removed then s else landDue s)
  let s2 := if removed then s1 else countCycle s1
  { s2 with tclk := s2.tclk + 1 }

end Sys2Proof.Machine
end

