-- ==== Sys2Proof/Machine/FlashMedia.lean ====
section
/-! DEFINITION. The family of flash commands: programs, erases, folding, collection, refresh, Ledger segments, the device
clock, pool registers and recovery (chapter 11). The end of a page read is in Ralid.lean, which all its readers precede. -/

namespace Sys2Proof.Machine

/-! Programs (R343, R344, R359). -/

/-- A slot's unit is durable: its place is the media, waiters are told, and slots that name it as previous place follow
(R343, R433). -/
def slotDurable (n sb off : Nat) (s : State) : State :=
  match slotAt n s with
  | none => s
  | some k =>
    let current := ledgerOf k.ledgerIndex s == .buffer n
    let s1 := if current then setLedger k.ledgerIndex (.flash sb off) s else s
    let swap := fun (e : LedgerEntry) => if e == .buffer n then .flash sb off else e
    let s2 := { s1 with
      flash := { s1.flash with
        slots := Tbl.mapVals (Tbl.del s1.flash.slots n) (fun _ q => { q with prev := swap q.prev })
        ops := Tbl.mapVals s1.flash.ops (fun _ o => { o with slots := o.slots.filter (· != n) }) }
      mem := { s1.mem with cellar := Tbl.mapVals s1.mem.cellar (fun _ r =>
        match r.for_ with
        | .slot _ false _ _ true => { r with place := swap r.place }
        | _ => r) } }
    settleEntry k.prev s2

/-- A trim record is durable (R437). -/
def trimDurable (q : Nat) (s : State) : State :=
  { s with flash := { s.flash with
      trims := Tbl.del s.flash.trims q
      ops := Tbl.mapVals s.flash.ops (fun _ o => { o with trims := o.trims.filter (· != q) }) } }

/-- Units of a programmed row take their places. -/
def landUnit (sb : Nat) (u : RowUnit) (s : State) : State :=
  let s1 := { s with flash := { s.flash with media := Tbl.put s.flash.media (mediaKey sb u.offset) u.unit } }
  match u.source with
  | .slot n => slotDurable n sb u.offset s1
  | .copy src off =>
    modSb src (fun b => { b with heldBy := if b.heldBy.contains sb then b.heldBy else b.heldBy ++ [sb] })
      (modSb sb (fun b => { b with copies := b.copies ++ [(u.offset, src, off)] }) s1)
  | .trimRec => trimDurable u.unit.writeSeq s1
  | .pad => s1

/-- A pad unit (R335, R343). -/
def padUnit : MediaUnit := { writeSeq := 0, ledgerIndex := none, pool := 0, trim := none, data := [] }

/-- A superblock closes: every copied unit whose entry still points at its source is switched to it, its sources no
longer wait for it but for the segments changed (R344, R345). -/
def closeSb (n : Nat) (s : State) : State :=
  let b := sbOf n s
  let close := s.flash.closeCount + 1
  let s1 := { setSb n { b with state := .closed, stream := none, row := [], copies := [], closeSeq := close } s with
    flash := { (setSb n { b with state := .closed, stream := none, row := [], copies := [], closeSeq := close } s).flash with
      closeCount := close } }
  let s2 := b.copies.foldl (fun acc c =>
    let idx := ((Tbl.look acc.flash.media (mediaKey n c.1)).bind (·.ledgerIndex))
    match idx with
    | none => acc
    | some i =>
      let acc1 := modSb c.2.1 (fun q => { q with heldBy := q.heldBy.filter (· != n) }) acc
      if ledgerOf i acc1 == .flash c.2.1 c.2.2 then
        modSb c.2.1 (fun q => { q with segs := if q.segs.contains (segmentOf i) then q.segs else q.segs ++ [segmentOf i] })
          (setLedger i (.flash n c.1) acc1)
      else acc1) s1
  let s3 := (b.copies.map (·.2.1)).foldl (fun acc src => settleSb src acc) s2
  settleSb n s3

/-- Somebody waits for the units of a row to become durable (R343). -/
def rowWanted (b : Superblock) (s : State) : Bool :=
  b.row.any (fun u => match u.source with
    | .slot n => s.flash.ops.any (fun o => o.2.slots.contains n) || s.rings.drainTr.isSome
        || s.mem.cellar.any (fun r => r.2.place == .buffer n && (match r.2.for_ with | .slot _ false _ _ true => true | _ => false))
    | .trimRec => s.rings.drainTr.isSome || s.flash.ops.any (fun o => o.2.trims.contains u.unit.writeSeq)
    | _ => false)

/-- Enter trim records that are not durable yet into the SYSTEM stream, as far as its row has room. -/
def enterTrims (s : State) : State :=
  s.flash.trims.foldl (fun acc p =>
    let already := acc.flash.sbs.any (fun b => b.2.row.any (fun u => u.source == .trimRec && u.unit.writeSeq == p.1))
    if already then acc
    else
      let u : MediaUnit := { writeSeq := p.1, ledgerIndex := none, pool := 5, trim := some p.2, data := [] }
      match placeUnit .system u .trimRec acc with
      | some (_, s1) => s1
      | none => acc) s

/-- NAND_PROGRAM_COMPLETE (R343, R344, R359, R365): the program of a superblock's row ends: a full row, or one filled with
pad units because somebody waits for it. On success its units are durable, and a full superblock closes. On failure the
blocks are retired, the superblock closes early, and the units stay in their source places. -/
def execNandProgramComplete (sb : Nat) (failed : BitVec 32) (dur10us : Nat) (s0 : State) : Host.Outcome State Fault Refusal :=
  let s := enterTrims s0
  let b := sbOf sb s
  let full := decide (rowLen sb b ≤ b.row.length)
  if b.state != .open_ || b.row.isEmpty || !(full || (b.slc && rowWanted b s)) then .next s
  else
    let ch := unitChannel sb b.next b
    let limit := if b.slc then 50 else 700
    let s1 := bump 3 ch 4 1 (setSb sb { b with progDur := max b.progDur (min dur10us 4095) } s)
    let s2 := if limit < dur10us then logWear .ldgProgSlow sb [sb, dur10us, b.erases] s1 else s1
    if failed.toNat = 0 then
      let pads := (List.range (rowLen sb b - b.row.length)).map (fun i =>
        ({ offset := b.next + b.row.length + i, unit := padUnit, source := RowSource.pad } : RowUnit))
      let row := b.row ++ pads
      let s3 := modSb sb (fun q => { q with row := [], next := q.next + row.length }) s2
      let s4 := row.foldl (fun acc u => landUnit sb u acc) s3
      let s5 := if sbUnits sb b ≤ b.next + row.length then closeSb sb s4 else s4
      .next (finishOps (checkSpare s5))
    else
      let s3 := retireBlocks sb failed.toNat 0 s2
      let back := fun (acc : State) (u : RowUnit) => match u.source with
        | .slot n => { acc with flash := { acc.flash with slots := Tbl.adjust acc.flash.slots n (fun k => { k with started := false }) } }
        | _ => acc
      .next (checkSpare (closeSb sb (b.row.foldl back s3)))

/-! Erases (R345, R348, R359). -/

/-- A slot's previous places keep a superblock from being erased while a merge may need it (R433; log 19). -/
def neededByMerge (n : Nat) (s : State) : Bool :=
  s.flash.slots.any (fun p => match p.2.prev with
    | .flash sb _ => sb == n
    | _ => false)

/-- BACKGROUND_ERASE (R345, R348): the erase of a FREE superblock starts while fewer than 64 are ERASED, once its
destinations have closed and its segments are written. -/
def execBackgroundErase (sb : Nat) (s : State) : Host.Outcome State Fault Refusal :=
  let b := sbOf sb s
  let barred := s.power.step == 4 || s.host.pstate == 2
  if b.state != .free || b.erasing || b.corrupt || !b.heldBy.isEmpty || !b.segs.isEmpty || 64 ≤ erasedCount s
      || neededByMerge sb s || (barred && !s.flash.urgent) then .next s
  else .next (setSb sb { b with erasing := true } s)

/-- Mean erase_count of the good superblocks, rounded down (LDG_WEAR). -/
def avgPoints (s : State) : Nat :=
  let good := Config.superblocks - (s.flash.sbs.filter (fun p => p.2.state == .retired)).length
  (s.flash.sbs.filter (fun p => p.2.state != .retired)).foldl (fun n p => n + p.2.erases) 0 / max 1 good

def maxPoints (s : State) : Nat := (s.flash.sbs.filter (fun p => p.2.state != .retired)).foldl (fun n p => max n p.2.erases) 0

/-- The wear limit is reached: logged once (R365). -/
def checkWear (s : State) : State :=
  if Config.wearRating ≤ avgPoints s && !s.flash.wearLimitLogged then
    logEvent .ldgWearLimit (detailWords [avgPoints s, maxPoints s]) { s with flash := { s.flash with wearLimitLogged := true } }
  else s

/-- NAND_ERASE_COMPLETE (R348, R359): an erase ends: wear points, blocks that failed retired, and the superblock ERASED,
or RETIRED when too few good blocks remain. -/
def execNandEraseComplete (sb : Nat) (failed : BitVec 32) (dur10us : Nat) (s : State) : Host.Outcome State Fault Refusal :=
  let b := sbOf sb s
  if !b.erasing then .next s
  else
    let s1 := bump 3 (8 * sbGroup sb) 5 1 (retireBlocks sb failed.toNat 1 s)
    let b1 := sbOf sb s1
    let pts := satAdd 16 b1.erases (if b.slc then 1 else 20)
    let keep := s1.flash.media.filter (fun p => p.1 / 2 ^ 17 != sb)
    let s2 := { setSb sb { b1 with
        state := if tooBad b1.badMap then .retired else .erased, erasing := false, erases := pts, eraseDur := min dur10us 4095 } s1 with
      flash := { (setSb sb { b1 with
        state := if tooBad b1.badMap then .retired else .erased, erasing := false, erases := pts, eraseDur := min dur10us 4095 } s1).flash with
        media := keep } }
    let s3 := if 800 < dur10us then logWear .ldgEraseSlow sb [sb, dur10us, pts] s2 else s2
    .next (checkWear (checkSpare s3))

/-- DIE_STATUS_TIMEOUT (R360): a die that twice failed its status poll is failed, and every superblock that holds a block
of it falls due. -/
def execDieStatusTimeout (channel : Fin 64) (die : Fin 8) (s : State) : Host.Outcome State Fault Refusal :=
  let key := channel.val * 8 + die.val
  if s.flash.failedDies.contains key then .next s
  else
    let s1 := logEvent .ldgDieFailed (detailWords [channel.val, die.val])
      { s with flash := { s.flash with failedDies := s.flash.failedDies ++ [key] } }
    let mine := (s.flash.sbs.map (·.1)).filter (fun n => sbGroup n == channel.val / 8 && sbDie n == die.val)
    .next (mine.foldl (fun acc n => makeDue n acc) s1)

/-! Leaving the write buffer (R342). -/

/-- The stream that a slot's unit enters. -/
def slotStream (k : BufSlot) (s : State) : Stream := if poolSlc k.pool s then .host k.pool else .buffer

/-- WRITE_BUFFER_LEAVE (R342, R346): a slot's unit enters its stream, in write_seq order within the stream; blocks outside
its mask are merged from the previous place, of which `lost` codewords fail. A unit with a lost block stays. -/
def execWriteBufferLeave (slot : Nat) (lost : BitVec 4) (s : State) : Host.Outcome State Fault Refusal :=
  match slotAt slot s with
  | none => .next s
  | some k =>
    let earlier := s.flash.slots.any (fun p => !p.2.started && p.2.lost == 0 && decide (p.2.writeSeq < k.writeSeq)
      && slotStream p.2 s == slotStream k s)
    if k.started || k.lost != 0 || earlier then .next s
    else
      let missing := (List.range 4).filter (fun b => !bit k.mask b)
      let lostNow := missing.filter (fun b =>
        match blockPlace s b (s.flash.slots.length + 2) k.prev with
        | .flash _ _ => bit lost.toNat b
        | .lost => true
        | _ => false)
      if !lostNow.isEmpty then
        let m := lostNow.foldl (fun n b => n + 2 ^ b) 0
        let d := match k.prev with
          | .flash sb off => [sb, off, k.ledgerIndex]
          | _ => [0, 0, k.ledgerIndex]
        let s1 := { s with flash := { s.flash with
          slots := Tbl.put s.flash.slots slot { k with lost := m }
          ops := Tbl.mapVals s.flash.ops (fun _ o =>
            if o.slots.contains slot then { o with slots := o.slots.filter (· != slot), lost := true } else o) } }
        .next (finishOps (logEvent .ldgUncorrectable (detailWords d) s1))
      else
        let r := (List.range 4).foldl (fun acc b =>
          let here : Option (List Byte) × State :=
            if bit k.mask b then
              match readStacked (slotAddr slot acc.2 + 4096 * b) 4096 acc.2 with
              | (.ok bs, s1) => (some bs, s1)
              | (.error _, s1) => (none, s1)
            else match blockPlace acc.2 b (s.flash.slots.length + 2) k.prev with
              | .flash sb off => (some (mediaBytes sb off (4096 * b) 4096 acc.2), acc.2)
              | .slot n =>
                match readStacked (slotAddr n acc.2 + 4096 * b) 4096 acc.2 with
                | (.ok bs, s1) => (some bs, s1)
                | (.error _, s1) => (none, s1)
              | _ => (some (List.replicate 4096 0#8), acc.2)
          (match acc.1, here.1 with
            | some m, some bs => some (Mem.write zeroByte m (4096 * b) bs)
            | _, _ => none, here.2)) (some ([] : Mem), s)
        match r.1 with
        | none => .next r.2
        | some data =>
          let u : MediaUnit := { writeSeq := k.writeSeq, ledgerIndex := some k.ledgerIndex, pool := k.pool, trim := none, data := data }
          match placeUnit (slotStream k r.2) u (.slot slot) r.2 with
          | none => .next r.2
          | some (_, s1) =>
            .next { s1 with flash := { s1.flash with slots := Tbl.put s1.flash.slots slot { k with started := true } } }

/-! Folding, collection and refresh (R344, R346, R350 to R352, R356). -/

/-- A unit of a superblock has already been copied into a destination that is not closed, or waits in its row. -/
def inCopy (sb off : Nat) (s : State) : Bool :=
  s.flash.sbs.any (fun p => p.2.copies.any (fun c => c.2.1 == sb && c.2.2 == off)
    || p.2.row.any (fun u => u.source == .copy sb off))

/-- The next valid unit of a superblock in ascending offset that is not copied yet, with its Ledger index. -/
def nextValid (sb : Nat) (s : State) : Option (Nat × Nat) :=
  let mine := s.flash.ledger.filterMap (fun p => match p.2 with
    | .flash n off => if n == sb && !inCopy sb off s then some (off, p.1) else none
    | _ => none)
  mine.foldl (fun best p => match best with
    | some q => some (if p.1 < q.1 then p else q)
    | none => some p) none

/-- Copy a unit into a stream. -/
def copyUnit (t : Stream) (sb off : Nat) (s : State) : State :=
  match Tbl.look s.flash.media (mediaKey sb off) with
  | none => s
  | some u =>
    match placeUnit t u (.copy sb off) s with
    | some (_, s1) => s1
    | none => s

/-- Background work may run: not at throttle step 4 nor in PS2, but for the reserve rule (R28, R29, R352, R417). -/
def backgroundRuns (s : State) : Bool := s.flash.urgent || (s.power.step != 4 && s.host.pstate != 2)

/-- The closed BUFFER superblock with the lowest close_seq that has a unit to fold. -/
def foldSource (s : State) : Option Nat :=
  let cs := s.flash.sbs.filter (fun p => p.2.pool == 4 && p.2.state == .closed && (nextValid p.1 s).isSome)
  (cs.foldl (fun best p => match best with
    | some q => some (if p.2.closeSeq < q.2.closeSeq then p else q)
    | none => some p) none).map (·.1)

/-- FOLD_START (R344, R346): while more than fold_start BUFFER superblocks are closed, the next unit of the oldest goes
into the fold stream of its destination pool. -/
def execFoldStart (s : State) : Host.Outcome State Fault Refusal :=
  let closed := (s.flash.sbs.filter (fun p => p.2.pool == 4 && p.2.state == .closed)).length
  if closed ≤ s.flash.foldStart || !backgroundRuns s then .next s
  else match foldSource s with
    | none => .next s
    | some sb =>
      match nextValid sb s with
      | none => .next s
      | some (off, _) =>
        let pool := ((Tbl.look s.flash.media (mediaKey sb off)).map (·.pool)).getD 2
        .next (bump 3 (unitChannel sb off (sbOf sb s)) 7 1 (copyUnit (.fold pool) sb off s))

/-- Relocate the next valid unit of a superblock into the relocation stream of its pool; `counter` of bank 3 counts it. -/
def relocateNext (sb counter : Nat) (s : State) : State :=
  match nextValid sb s with
  | none => settleSb sb s
  | some (off, _) =>
    let b := sbOf sb s
    let t := if b.pool = 4 then Stream.fold (((Tbl.look s.flash.media (mediaKey sb off)).map (·.pool)).getD 2) else .reloc b.pool
    bump 3 (unitChannel sb off b) counter 1 (copyUnit t sb off s)

/-- The superblock that the min-finder picks: fewest valid units, then lower erase_count, then lower index (R350). -/
def gcVictim (s : State) : Option Nat :=
  let cs := s.flash.sbs.filter (fun p => p.2.state == .closed && !p.2.corrupt && decide (1 ≤ p.2.pool) && decide (p.2.pool ≤ 3))
  (cs.foldl (fun best p =>
    let v := validUnits p.1 s
    match best with
    | some (q, w, e) => if v < w || (v == w && p.2.erases < e) then some (p.1, v, p.2.erases) else some (q, w, e)
    | none => some (p.1, v, p.2.erases)) none).map (·.1)

/-- GC_VICTIM_SELECT (R350, R351): below gc_start, and with no superblock due for refresh, the next valid unit of the
present victim is relocated, or the min-finder's choice enters COLLECTING. -/
def execGcVictimSelect (s : State) : Host.Outcome State Fault Refusal :=
  if s.flash.gcStart ≤ freeCount s || !backgroundRuns s then .next s
  else match s.flash.sbs.find? (fun p => p.2.state == .collecting && !p.2.due && (nextValid p.1 s).isSome) with
    | some p => .next (relocateNext p.1 6 s)
    | none =>
      if !s.flash.dueList.isEmpty then .next s
      else match gcVictim s with
        | none => .next s
        | some n => .next (relocateNext n 6 (modSb n (fun b => { b with state := .collecting }) s))

/-- REFRESH_RELOCATE (R356): the first superblock due enters COLLECTING once, and its next valid unit is relocated. -/
def execRefreshRelocate (s : State) : Host.Outcome State Fault Refusal :=
  if !backgroundRuns s then .next s
  else match s.flash.dueList with
    | [] => .next s
    | n :: rest =>
      let s1 := modSb n (fun b => if b.state == .closed then { b with state := .collecting } else b) s
      if (nextValid n s1).isNone then
        -- every unit is copied: the next one in order has its turn
        .next (settleSb n { s1 with flash := { s1.flash with dueList := rest } })
      else .next (relocateNext n 8 s1)

/-! Ledger segments and the clock (R358, R362). -/

/-- What a persisted segment says of an entry: the place of a unit's durable content. -/
def durableEntry (s : State) : Nat → LedgerEntry → LedgerEntry
  | 0, _ => .unmapped
  | fuel + 1, e =>
    match e with
    | .buffer n => match slotAt n s with
      | some k => durableEntry s fuel k.prev
      | none => .unmapped
    | x => x

/-- LEDGER_SEGMENT_WRITE (R345, R362): a dirty segment is written to SYSTEM with a checkpoint of the superblock table;
erases that waited for it may go on. -/
def execLedgerSegmentWrite (segment : Fin 8192) (s : State) : Host.Outcome State Fault Refusal :=
  let g := segment.val
  if !s.flash.dirty.contains g then .next s
  else
    let mine := s.flash.ledger.filter (fun p => segmentOf p.1 == g)
    let others := s.flash.segments.filter (fun p => segmentOf p.1 != g)
    let kept := mine.foldl (fun t p =>
      let e := durableEntry s (s.flash.slots.length + 2) p.2
      if e == .unmapped then t else Tbl.put t p.1 e) others
    .next { s with flash := { s.flash with
      segments := kept
      segSeq := Tbl.put s.flash.segSeq g s.flash.writeSeq
      checkpoint := s.flash.sbs
      dirty := s.flash.dirty.filter (· != g)
      sbs := Tbl.mapVals s.flash.sbs (fun _ b => { b with segs := b.segs.filter (· != g) }) } }

/-- Age in minutes at which a pool's superblocks fall due (R356). -/
def ageLimit (pool : Nat) (s : State) : Nat := max 1 (poolReg pool s).ageDays * 1440

/-- LDG_CLOCK_MINUTE_TICK (R356, R358): the minute advances, is written to SYSTEM every 10 minutes, and superblocks that
reach the age limit of their pool fall due. -/
def execLdgClockMinuteTick (s : State) : Host.Outcome State Fault Refusal :=
  let m := (s.flash.minute + 1) % 2 ^ 32
  let s1 := { s with flash := { s.flash with minute := m, clockSaved := if m % 10 = 0 then m else s.flash.clockSaved } }
  let old := (s1.flash.sbs.filter (fun p => p.2.state == .closed && decide (1 ≤ p.2.pool) && decide (p.2.pool ≤ 3)
    && decide (ageLimit p.2.pool s1 ≤ m - p.2.progMinute))).map (·.1)
  .next (old.foldl (fun acc n => makeDue n acc) s1)

/-- A write to LDG_CLOCK: only a later minute is taken (R358). -/
def writeClock (value : W32) (s : State) : State :=
  if s.flash.minute < value.toNat then { s with flash := { s.flash with minute := value.toNat } } else s

/-- A write to LDG_POOL_p (R340). -/
def writePool (p : Nat) (value : W32) (s : State) : State :=
  let v := value.toNat
  let old := poolReg p s
  let used := s.spaces.any (fun x => x.2.pool == p)
  let want := bit v 31
  let refuse := used && want != old.slc
  let reg : PoolReg := { slc := if refuse then old.slc else want, refreshEn := bit v 30, readLimit := bits v 29 16, ageDays := bits v 11 0 }
  { s with flash := { s.flash with
    pools := Tbl.put s.flash.pools p reg
    slcSaved := if refuse then s.flash.slcSaved else Tbl.put s.flash.slcSaved p reg.slc
    refused := s.flash.refused || refuse } }

/-- LDG_CLOCK_WRITE (R358): only a larger value takes effect. -/
def execLdgClockWrite (value : W32) (s : State) : Host.Outcome State Fault Refusal :=
  .next (regWrite 4 false (writeClock value) s)

/-- LDG_POOL_WRITE (R340): the fields are taken, but a change of slc while a namespace uses the pool is refused. An
accepted change is stored with the Ledger root. -/
def execLdgPoolWrite (pool : Fin 3) (value : W32) (s : State) : Host.Outcome State Fault Refusal :=
  .next (regWrite 4 false (writePool (pool.val + 1) value) s)

/-! Recovery (R363, R364). -/

/-- The Ledger after recovery: the persisted segments, with each index's candidate of highest write_seq applied when it
exceeds its segment's seg_seq; on equal write_seq the later close. -/
def recoverLedger (lost : List (Nat × Nat)) (s : State) : Tbl LedgerEntry × Nat :=
  let scanned := fun (n : Nat) =>
    let b := sbOf n s
    let was := (Tbl.lookD s.flash.checkpoint n Superblock.fresh).state
    b.corrupt || (b.state == .open_ && b.slc) || (b.state == .closed && was != .closed && was != .collecting)
  let units := s.flash.media.filter (fun p => scanned (p.1 / 2 ^ 17) && !lost.contains (p.1 / 2 ^ 17, p.1 % 2 ^ 17))
  -- a candidate: index, write_seq, close order, entry
  let cands := units.flatMap (fun p =>
    let sb := p.1 / 2 ^ 17
    let close := (sbOf sb s).closeSeq
    match p.2.trim with
    | some idxs => idxs.map (fun i => (i, p.2.writeSeq, close, LedgerEntry.unmapped))
    | none => (p.2.ledgerIndex.toList).map (fun i => (i, p.2.writeSeq, close, LedgerEntry.flash sb (p.1 % 2 ^ 17))))
  let best := cands.foldl (fun (t : Tbl (Nat × Nat × LedgerEntry)) c =>
    match Tbl.look t c.1 with
    | some o => if o.1 < c.2.1 || (o.1 == c.2.1 && o.2.1 < c.2.2.1) then Tbl.put t c.1 (c.2.1, c.2.2.1, c.2.2.2) else t
    | none => Tbl.put t c.1 (c.2.1, c.2.2.1, c.2.2.2)) []
  best.foldl (fun acc p =>
    if Tbl.lookD s.flash.segSeq (segmentOf p.1) 0 < p.2.1 then
      ((if p.2.2.2 == .unmapped then Tbl.del acc.1 p.1 else Tbl.put acc.1 p.1 p.2.2.2), acc.2 + 1)
    else acc) (s.flash.segments, 0)

/-- Superblocks that recovery scans. -/
def scannedCount (s : State) : Nat :=
  (s.flash.sbs.filter (fun p => p.2.corrupt || p.2.state == .open_)).length

/-- Recover the Ledger: open SLC superblocks close, open QLC ones become FREE, corrupt entries are rebuilt, the Ledger is
restored, and a new checkpoint and root are written (R363). -/
def recoverFlash (lost : List (Nat × Nat)) (s : State) : State :=
  let r := recoverLedger lost s
  let scanned := scannedCount s
  let close := fun (b : Superblock) =>
    if b.state == .open_ then
      { b with state := if b.slc then .closed else .free, stream := none, row := [], copies := [], corrupt := false,
               closeSeq := if b.slc then s.flash.closeCount + 1 else b.closeSeq }
    else { b with corrupt := false, heldBy := [], segs := [], erasing := false,
                  state := if b.state == .collecting then .closed else b.state }
  let sbs := Tbl.mapVals s.flash.sbs (fun _ b => close b)
  let s1 := { s with flash := { s.flash with
    ledger := r.1, segments := r.1, sbs := sbs, checkpoint := sbs, dirty := [], slots := [], trims := [],
    segSeq := Tbl.mapVals s.flash.segSeq (fun _ _ => s.flash.writeSeq), minute := s.flash.clockSaved,
    closeCount := s.flash.closeCount + 1 } }
  let s2 := (s1.flash.sbs.map (·.1)).foldl (fun acc n => settleSb n acc) s1
  logEvent .ldgRecovery (detailWords [scanned, r.2, lost.length]) s2

end Sys2Proof.Machine
end

