-- ==== Sys2Proof/Machine/Formats.lean ====
section
/-! DEFINITION. The microscaling formats, escapes and side lists, conversion, the ranking order, and the conversion
statistics (chapters 02 and 04). -/

namespace Sys2Proof.Machine

/-! Exact values. -/

/-- Zero. -/
def Fv.zero : Fv := .fin false 0 0

/-- An exact integer multiple as a value. -/
def Fv.ofInt (n : Int) (e : Int) : Fv := .fin (decide (n < 0)) n.natAbs e

/-- The value times 2^k. -/
def Fv.scale (v : Fv) (k : Int) : Fv :=
  match v with
  | .fin s m e => .fin s m (e + k)
  | w => w

/-- Exact product, and whether it is the invalid operation 0 × infinity. -/
def Fv.mul (x y : Fv) : Fv × Bool :=
  match x, y with
  | .nan, _ => (.nan, false)
  | _, .nan => (.nan, false)
  | .inf s1, .inf s2 => (.inf (s1 != s2), false)
  | .inf s1, .fin s2 m _ => if m = 0 then (.nan, true) else (.inf (s1 != s2), false)
  | .fin s1 m _, .inf s2 => if m = 0 then (.nan, true) else (.inf (s1 != s2), false)
  | .fin s1 m1 e1, .fin s2 m2 e2 => (.fin (s1 != s2) (m1 * m2) (e1 + e2), false)

/-- Exact sum, a zero being +0, and whether it is a sum of opposite infinities. -/
def Fv.add (x y : Fv) : Fv × Bool :=
  match x, y with
  | .nan, _ => (.nan, false)
  | _, .nan => (.nan, false)
  | .inf s1, .inf s2 => if s1 == s2 then (.inf s1, false) else (.nan, true)
  | .inf s1, _ => (.inf s1, false)
  | _, .inf s2 => (.inf s2, false)
  | .fin s1 m1 e1, .fin s2 m2 e2 =>
    if m1 = 0 then (.fin s2 m2 e2, false)
    else if m2 = 0 then (.fin s1 m1 e1, false)
    else
      let p := dyAdd (signedM s1 m1) e1 (signedM s2 m2) e2
      (Fv.ofInt p.1 p.2, false)

/-- Finite. -/
def Fv.isFin : Fv → Bool
  | .fin _ _ _ => true
  | _ => false

/-- Round an exact value to nearest with ties to even; a zero is +0 and a NaN is canonical. -/
def Fmt.ofFv (f : Fmt) (v : Fv) : Nat × Exc :=
  match v with
  | .nan => (f.nanBits, 0)
  | .inf s => ((if s then f.signBit else 0) + f.infBits, 0)
  | .fin s m e =>
    let p := f.round .tiesEven s m e
    (if p.1 = f.signBit then 0 else p.1, p.2)

/-- +0 in place of −0 (R45). -/
def Fmt.plusZero (f : Fmt) (v : Nat) : Nat := if v = f.signBit then 0 else v

/-- The canonical NaN in place of any NaN (R44). -/
def Fmt.canon (f : Fmt) (v : Nat) : Nat := if f.isNan v then f.nanBits else v

/-! Element formats (Table: MX element formats). -/

/-- Bits of one element (Table: Format codes). -/
def elemBits (fmt : Nat) : Nat :=
  match fmt with
  | 0 => 16
  | 3 => 6
  | 4 => 6
  | 5 => 4
  | 8 => 32
  | 9 => 64
  | 10 => 32
  | _ => 8

/-- The parameters of an MX element format: mantissa width, bias, largest normal exponent, sign bit, largest finite
code. MXINT8 (code 6) uses emax and the escape only. -/
structure MxFmt where
  mbits : Nat
  bias : Nat
  emax : Nat
  sign : Nat
  maxCode : Nat
  deriving DecidableEq, Repr

def mxOf (fmt : Nat) : MxFmt :=
  match fmt with
  | 1 => { mbits := 3, bias := 7, emax := 8, sign := 128, maxCode := 0x7E }
  | 2 => { mbits := 2, bias := 15, emax := 15, sign := 128, maxCode := 0x7B }
  | 3 => { mbits := 2, bias := 3, emax := 4, sign := 32, maxCode := 0x1F }
  | 4 => { mbits := 3, bias := 1, emax := 2, sign := 32, maxCode := 0x1F }
  | 5 => { mbits := 1, bias := 1, emax := 2, sign := 8, maxCode := 0x7 }
  | _ => { mbits := 0, bias := 0, emax := 0, sign := 128, maxCode := 127 }

/-- The escape code of a format: its negative zero, or 0x80 in MXINT8. -/
def escapeCode (fmt : Nat) : Nat := (mxOf fmt).sign

/-- The value of an element code, before the block scale (R47). -/
def mxDecode (fmt code : Nat) : Fv :=
  let x := mxOf fmt
  if fmt = 6 then Fv.ofInt (sext 8 code) (-6)
  else
    let neg := decide (x.sign ≤ code)
    let mag := code % x.sign
    let e := mag / 2 ^ x.mbits
    let m := mag % 2 ^ x.mbits
    if fmt = 1 && mag == 0x7F then .nan
    else if fmt = 2 && mag == 0x7C then .inf neg
    else if fmt = 2 && decide (0x7C < mag) then .nan
    else if e = 0 then .fin neg m (1 - (x.bias : Int) - x.mbits)
    else .fin neg (m + 2 ^ x.mbits) ((e : Int) - x.bias - x.mbits)

/-- The magnitude code nearest to m × 2^e, ties to even, the exponent field unbounded above. -/
def mxRound (x : MxFmt) (m : Nat) (e : Int) : Nat :=
  if m = 0 then 0
  else
    let top : Int := e + bitLen m - 1
    let q := max (top - x.mbits) (1 - (x.bias : Int) - x.mbits)
    let k := (roundAt .tiesEven false m e q).1
    let (k, q) := if 2 ^ (x.mbits + 1) ≤ k then (k / 2, q + 1) else (k, q)
    if k < 2 ^ x.mbits then k else (q + x.mbits + x.bias).toNat * 2 ^ x.mbits + (k - 2 ^ x.mbits)

/-- An integer from −127 to 127 as a byte. -/
def int8Byte (neg : Bool) (k : Nat) : Nat := if neg then (256 - k) % 256 else k

/-- Convert a value to an element under scale S ≠ 0xFF: the code, and whether it counts as a saturation (R67, R68). A NaN
does not reach this. -/
def mxEncode (fmt sc : Nat) (v : Fv) : Nat × Bool :=
  let x := mxOf fmt
  let k : Int := 127 - (sc : Int)
  match v with
  | .nan => (0, false)
  | .inf neg =>
    let sign := if neg then x.sign else 0
    if fmt = 2 then (sign + 0x7C, false)
    else if fmt = 1 then (sign + 0x7F, false)
    else if fmt = 6 then (int8Byte neg 127, true)
    else (sign + x.maxCode, true)
  | .fin neg m e =>
    if fmt = 6 then
      let n := (roundAt .tiesEven neg m (e + k + 6) 0).1
      (int8Byte neg (min n 127), decide (127 < n))
    else
      let c := mxRound x m (e + k)
      let c' := min c x.maxCode
      (if c' = 0 then 0 else (if neg then x.sign else 0) + c', decide (x.maxCode < c))

/-- Round the quotient n / d to an integer, ties to even. -/
def divEven (n d : Nat) : Nat :=
  let q := n / d
  let r := n % d
  if d < 2 * r || (2 * r == d && q % 2 == 1) then q + 1 else q

/-- Convert an FP32 pattern to INT8 with an FP32 scale (R69, R110): the byte, and whether it counts as a saturation. -/
def int8Encode (v sc : Nat) : Nat × Bool :=
  match f32.decode sc with
  | .fin false ms es =>
    if ms < 2 ^ 23 then (0, true)
    else
      match f32.decode v with
      | .nan => (0, true)
      | .inf neg => (int8Byte neg 127, true)
      | .fin neg m e =>
        let k := if es ≤ e then divEven (m * 2 ^ (e - es).toNat) ms else divEven m (ms * 2 ^ (es - e).toNat)
        (int8Byte neg (min k 127), decide (127 < k))
  | _ => (0, true)

/-! Blocks being read. -/

/-- Element codes packed in bytes, element 0 in the lowest bits (R48). -/
def unpackCodes (w n : Nat) (bytes : List Byte) : List Nat :=
  let v := leNat bytes
  (List.range n).map (fun i => v / 2 ^ (w * i) % 2 ^ w)

/-- The bytes of packed element codes. -/
def packCodes (w : Nat) (codes : List Nat) : List Byte :=
  leBytes (codes.length * w / 8) (codes.foldr (fun c acc => c % 2 ^ w + acc * 2 ^ w) 0)

/-- A block of an operand as the grid and the correction pass see it: the value the grid uses for each element, and
the slot value of each escaped element that a slot serves (R53, R57 to R60). -/
structure Blk where
  vals : List Fv
  slots : List (Option Nat)
  deriving DecidableEq, Repr

/-- Positions of the escape code in a block. -/
def escapesOf (fmt : Nat) (codes : List Nat) : List Nat :=
  (List.range codes.length).filter (fun i => codes.getD i 0 == escapeCode fmt)

/-- Read a block: element codes, scale, and whether it is MX-E with its side list. -/
def readBlk (fmt : Nat) (mxe : Bool) (codes : List Nat) (sc : Nat) (side : List Byte) : Blk :=
  let esc := escapesOf fmt codes
  let slot := fun (i : Nat) =>
    if !mxe || sc = 255 then none
    else match posOf esc i with
      | some 0 => some (leNat (side.take 2))
      | some 1 => some (leNat ((side.drop 2).take 2))
      | _ => none
  { vals := codes.map (fun c =>
      if sc = 255 then .nan else if c = escapeCode fmt then Fv.zero else (mxDecode fmt c).scale ((sc : Int) - 127))
    slots := (List.range codes.length).map slot }

/-- A block of an MX-E operand holds more than two escape codes (R59). -/
def escOverflow (fmt : Nat) (mxe : Bool) (codes : List Nat) : Bool := mxe && decide (2 < (escapesOf fmt codes).length)

/-- An all-zero block. -/
def Blk.zero : Blk := { vals := List.replicate 32 Fv.zero, slots := List.replicate 32 none }

/-- The exact sum of the products of two lists. -/
def dotExact : List Fv → List Fv → Fv
  | x :: xs, y :: ys => (Fv.add (Fv.mul x y).1 (dotExact xs ys)).1
  | _, _ => Fv.zero

/-- One accumulation step: acc + v rounded once, to nearest with ties to even (R52, R53). -/
def accStep (acc : Nat) (v : Fv) : Nat := (f32.ofFv (Fv.add (f32.decode acc) v).1).1

/-- MX accumulation over the blocks in order (R53). -/
def dotMx (acc : Nat) : List Blk → List Blk → Nat
  | x :: xs, y :: ys => dotMx (accStep acc (dotExact x.vals y.vals)) xs ys
  | _, _ => acc

/-- BF16 accumulation, one product at a time (R52). -/
def dotBf16 (acc : Nat) : List Nat → List Nat → Nat
  | x :: xs, y :: ys => dotBf16 (accStep acc (Fv.mul (bf16.decode x) (bf16.decode y)).1) xs ys
  | _, _ => acc

/-- The exact INT8 sum (R54). -/
def dotInt8 : List Nat → List Nat → Int
  | x :: xs, y :: ys => sext 8 x * sext 8 y + dotInt8 xs ys
  | _, _ => 0

/-- The exact value of an element, slots included (step 1 of R60). -/
def fullValue (v : Fv) (slot : Option Nat) : Fv :=
  match slot with
  | some b => bf16.decode b
  | none => v

/-- The exact sum of the correction terms of one block pair, with its flags (step 2 of R60). -/
def corrTerms : List Fv → List (Option Nat) → List Fv → List (Option Nat) → Fv × Exc
  | v :: vs, a :: as, w :: ws, b :: bs =>
    let r := corrTerms vs as ws bs
    if a.isNone && b.isNone then r
    else
      let snan := (a.map bf16.isSnan).getD false || (b.map bf16.isSnan).getD false
      let p := Fv.mul (fullValue v a) (fullValue w b)
      let q := Fv.add p.1 r.1
      (q.1, Exc.or r.2 (if snan || p.2 || q.2 then excInvalid else 0))
  | _, _, _, _ => (Fv.zero, 0)

/-- C over the blocks in reduction order (step 3 of R60). -/
def corrSum (c : Nat) (fl : Exc) : List Blk → List Blk → Nat × Exc
  | x :: xs, y :: ys =>
    let t := corrTerms x.vals x.slots y.vals y.slots
    let u := Fv.add (f32.decode c) t.1
    let r := f32.ofFv u.1
    corrSum r.1 (Exc.or fl (Exc.or t.2 (Exc.or r.2 (if u.2 then excInvalid else 0)))) xs ys
  | _, _ => (c, fl)

/-! Blocks being written (R111 to R117). -/

/-- E(x) of R111 for a nonzero finite value. -/
def expOf (v : Fv) : Int :=
  match v with
  | .fin _ m e => e + bitLen m - 1
  | _ => 0

/-- Magnitude of a finite value is less than that of another. -/
def magLess (x y : Fv) : Bool :=
  match x, y with
  | .fin _ m1 e1, .fin _ m2 e2 => cmpFv (.fin false m1 e1) (.fin false m2 e2) == .lt
  | _, _ => false

/-- The finite nonzero value of largest magnitude, the lower index first on a tie (R72). -/
def largest : List (Nat × Fv) → Option (Nat × Fv)
  | [] => none
  | (i, v) :: rest =>
    let r := largest rest
    match v with
    | .fin _ 0 _ => r
    | .fin _ _ _ =>
      match r with
      | some (j, w) => if magLess v w then some (j, w) else some (i, v)
      | none => some (i, v)
    | _ => r

/-- The first `n` finite candidates by descending magnitude. -/
def ranked : Nat → List (Nat × Fv) → List (Nat × Fv)
  | 0, _ => []
  | n + 1, xs =>
    match largest xs with
    | some p => p :: ranked n (xs.filter (fun q => q.1 != p.1))
    | none => []

/-- Indices of the infinities. -/
def infinities (xs : List (Nat × Fv)) : List Nat :=
  (xs.filter (fun p => match p.2 with | .inf _ => true | _ => false)).map (·.1)

/-- The escapes of rule 0b01 (R114). -/
def escapesByMax (xs : List (Nat × Fv)) : List Nat :=
  let infs := (infinities xs).take 2
  let fin :=
    match infs.length, ranked 3 xs with
    | 0, [a, b, c] =>
      if expOf a.2 - expOf c.2 ≥ 2 && expOf b.2 - expOf c.2 ≥ 2 then [a.1, b.1]
      else if expOf a.2 - expOf b.2 ≥ 2 then [a.1] else []
    | 2, _ => []
    | _, a :: b :: _ => if expOf a.2 - expOf b.2 ≥ 2 then [a.1] else []
    | _, _ => []
  infs ++ fin

/-- The escapes of rule 0b10 with a supplied scale (R115). -/
def escapesSupplied (fmt sc : Nat) (xs : List (Nat × Fv)) : List Nat :=
  let infs := (infinities xs).take 2
  let sat := xs.filter (fun p => p.2.isFin && (mxEncode fmt sc p.2).2)
  infs ++ ((ranked (2 - infs.length) sat).map (·.1))

/-- A converted block. -/
structure OutBlk where
  scale : Nat
  codes : List Nat
  side : List Byte
  /-- The exact value that each element stands for (R118). -/
  vals : List Fv
  /-- Which elements count as saturations, and how many escapes were assigned. -/
  sats : List Bool
  escapes : Nat
  deriving DecidableEq, Repr

/-- Convert the valid values of one block (FP32 patterns, at most 32) to an MX format (R67, R68, R111 to R117). -/
def mxConvert (fmt : Nat) (mxe : Bool) (rule supplied : Nat) (vs : List Nat) : OutBlk :=
  let xs := vs.map f32.decode
  let idx := (List.range xs.length).map (fun i => (i, xs.getD i Fv.zero))
  let hasNan := xs.any (· == .nan)
  let esc :=
    if hasNan || !mxe then []
    else if rule = 1 then escapesByMax idx
    else if rule = 2 && supplied != 255 then escapesSupplied fmt supplied idx
    else []
  let sc :=
    if hasNan then 255
    else if rule = 2 then supplied
    else match largest (idx.filter (fun p => !esc.contains p.1)) with
      | some p => (max 0 (min 254 (expOf p.2 - (mxOf fmt).emax + 127))).toNat
      | none => 0x7F
  let slotOfVal := fun (i : Nat) => bf16.plusZero (f32.convert bf16 .tiesEven (vs.getD i 0)).1
  let enc := idx.map (fun p =>
    if sc = 255 then (0, Fv.nan, false)
    else if esc.contains p.1 then (escapeCode fmt, bf16.decode (slotOfVal p.1), false)
    else
      let c := mxEncode fmt sc p.2
      (c.1, (mxDecode fmt c.1).scale ((sc : Int) - 127), c.2))
  let order := (List.range 32).filter (fun i => esc.contains i)
  { scale := sc
    codes := padTo 32 0 (enc.map (·.1))
    side := padTo 4 0#8 (order.flatMap (fun i => leBytes 2 (slotOfVal i)))
    vals := enc.map (·.2.1)
    sats := enc.map (·.2.2)
    escapes := esc.length }

/-! The order of the reductions (R71). -/

/-- `a` is below `b` in the total order of R71: NaN above +infinity, the zeros equal. -/
def belowTotal (a b : Nat) : Bool :=
  match f32.decode a, f32.decode b with
  | .nan, _ => false
  | _, .nan => true
  | x, y => cmpFv x y == .lt

/-- Index of the first greatest element under `below`. -/
def argBest (below : Nat → Nat → Bool) : List Nat → Nat → Option (Nat × Nat) → Option (Nat × Nat)
  | [], _, best => best
  | v :: vs, i, best =>
    match best with
    | none => argBest below vs (i + 1) (some (i, v))
    | some (j, w) => argBest below vs (i + 1) (if below w v then some (i, v) else some (j, w))

/-! Statistics (R118 to R120). -/

/-- Where the statistics of an element are added. -/
inductive StatSource where
  | epilogue | vector
  deriving DecidableEq, Repr

/-- FP64 addition, subtraction and multiplication to nearest even. -/
def d64Add (a b : Nat) : Nat := (f64.add .tiesEven a b).1
def d64Sub (a b : Nat) : Nat := (f64.sub .tiesEven a b).1
def d64Mul (a b : Nat) : Nat := (f64.mul .tiesEven a b).1

/-- One element: reference `r` (FP32 pattern), result `x`, whether its block's scale is written as 0xFF, and whether the
conversion saturated (R119). -/
def statElem (src : StatSource) (r : Nat) (x : Fv) (blockNan sat : Bool) (b : QBank) : QBank :=
  let rv := f32.decode r
  let b1 :=
    match src with
    | .epilogue => { b with epiElems := satAdd 48 b.epiElems 1 }
    | .vector => { b with vecElems := satAdd 48 b.vecElems 1 }
  let b2 := { b1 with sat := satAdd 32 b1.sat (b2n sat) }
  if rv.isFin && x.isFin then
    let rd := (f64.ofFv rv).1
    let d := d64Sub (f64.ofFv x).1 rd
    let e := d64Mul d d
    let q := d64Mul rd rd
    match src with
    | .epilogue => { b2 with epiSse := BitVec.ofNat 64 (d64Add b2.epiSse.toNat e), epiSsr := BitVec.ofNat 64 (d64Add b2.epiSsr.toNat q) }
    | .vector => { b2 with vecSse := BitVec.ofNat 64 (d64Add b2.vecSse.toNat e), vecSsr := BitVec.ofNat 64 (d64Add b2.vecSsr.toNat q) }
  else if !rv.isFin || blockNan then { b2 with nonfinite := satAdd 32 b2.nonfinite 1 }
  else b2

/-- Statistics of a converted block. -/
def statBlk (src : StatSource) (vs : List Nat) (o : OutBlk) (b : QBank) : QBank :=
  let b1 := (List.range vs.length).foldl
    (fun acc i => statElem src (vs.getD i 0) (o.vals.getD i Fv.zero) (o.scale == 255) (o.sats.getD i false) acc) b
  { b1 with esc := satAdd 32 b1.esc o.escapes }

/-- Statistics of a BF16 result: a finite reference that converts to an infinity is a saturation. -/
def statBf16 (src : StatSource) (r x : Nat) (b : QBank) : QBank :=
  let xv := bf16.decode x
  let sat := (f32.decode r).isFin && (match xv with | .inf _ => true | _ => false)
  statElem src r xv false sat b

/-- Statistics of an INT8 result with its scale: the value q × s is exact. -/
def statInt8 (src : StatSource) (r q sc : Nat) (sat : Bool) (b : QBank) : QBank :=
  statElem src r (Fv.mul (Fv.ofInt (sext 8 q) 0) (f32.decode sc)).1 false sat b

end Sys2Proof.Machine
end

