-- ==== Sys2Proof/Machine/Tables.lean ====
section
/-! DEFINITION. The tables of a job in stacked memory: phase entries, step sets, mappings, Itinerary and Caravan tables
(chapters 06 and 07), and the checks of a submission (R205, R211 to R213, R513, R514). -/

namespace Sys2Proof.Machine

/-- A little-endian number of `n` bytes in stacked memory; none where a word of it is uncorrectable. -/
def readNat (a n : Nat) (s : State) : Option Nat × State :=
  match readStacked a n s with
  | (.ok b, s1) => (some (leNat b), s1)
  | (.error _, s1) => (none, s1)

/-- A table of `k` entries of `n` bytes. -/
def readTable (a n k : Nat) (s : State) : Option (List Nat) × State :=
  match readStacked a (n * k) s with
  | (.ok b, s1) => (some ((chunksOf n (k + 1) b).map leNat), s1)
  | (.error _, s1) => (none, s1)

/-- `n` bytes round up to pages. -/
def pagesUp (n : Nat) : Nat := (n + 4095) / 4096

/-! Phase entries (R202). -/

def peLast (e : Nat) : Bool := bit e 256
def peExchange (e : Nat) : Nat := bits e 255 216
def peMapping (e : Nat) : Nat := bits e 199 160
def peStepSets (e : Nat) : Nat := bits e 159 120
def peCaravans (e : Nat) : Nat := bits e 119 80
def peItins (e : Nat) : Nat := bits e 79 40

/-- The entry of phase `ph`. -/
def phaseEntry (j : Job) (ph : Nat) (s : State) : Option Nat × State := readNat (jPhaseTable j.desc + 64 * ph) 64 s

/-! Step sets (R187 to R189, R203, R515). -/

/-- Two page ranges overlap. -/
def pagesOverlap (a n b m : Nat) : Bool := decide (a < b + m) && decide (b < a + n)

/-- Page ranges that no step-set entry may touch: the Itinerary ranges of the tiles, the signed ranges, the save area and
the diagnostic area. -/
def forbiddenPages (j : Job) (s : State) : List (Nat × Nat) :=
  s.tensor.tiles.map (fun p => (p.2.rangeLo / 4096, (p.2.rangeHi - p.2.rangeLo) / 4096))
    ++ j.signed.map (fun r => (r.2.1 / 4096, pagesUp (r.2.1 % 4096 + r.2.2)))
    ++ [(jSaveArea j.desc / 4096, jSavePages j.desc), (jDiag j.desc / 4096, 8)]

/-- A region-mode entry, when its mode and range are valid. -/
def regionOf (e : Nat) (s : State) : Option Region :=
  let mode := bits e 63 62
  let base := bits e 61 34
  let n := bits e 33 6
  if (mode = 1 || mode = 2) && n != 0 && inJobArea (base * 4096) (n * 4096) s then
    some { writeOnly := mode == 2, base := base, pages := n }
  else none

/-- No two entries overlap, and none touches a forbidden range. -/
def regionsOk (bad : List (Nat × Nat)) : List Region → Bool
  | [] => true
  | r :: rs =>
    rs.all (fun q => !pagesOverlap r.base r.pages q.base q.pages) && bad.all (fun b => !pagesOverlap r.base r.pages b.1 b.2)
      && regionsOk bad rs

/-- What reading a step set gives. -/
inductive SetRead where
  | lost | endMark | bad
  | ok (set : List Region) (repeat_ : Nat)
  deriving DecidableEq, Repr

/-- Read the set at an address (Table: Step-set header). -/
def readSet (j : Job) (a : Nat) (s : State) : SetRead × State :=
  match readNat a 8 s with
  | (none, s1) => (.lost, s1)
  | (some h, s1) =>
    let count := bits h 63 48
    if count = 0xFFFF then (.endMark, s1)
    else if 512 < count then (.bad, s1)
    else match readTable (a + 8) 8 count s1 with
      | (none, s2) => (.lost, s2)
      | (some es, s2) =>
        let rs := es.map (fun e => regionOf e s2)
        let set := rs.filterMap id
        if set.length = count && regionsOk (forbiddenPages j s2) set then (.ok set (bits h 47 32), s2) else (.bad, s2)

/-- Address of the `k`-th set of a list; none beyond its end, or where a header is lost. -/
def setAddr (list : Nat) : Nat → State → Option Nat × State
  | 0, s => (some list, s)
  | k + 1, s =>
    match setAddr list k s with
    | (none, s1) => (none, s1)
    | (some a, s1) =>
      match readNat a 8 s1 with
      | (none, s2) => (none, s2)
      | (some h, s2) => (if 512 < bits h 63 48 then none else some (a + 8 + 8 * bits h 63 48), s2)

/-- Read set number `k` of the list of a job's phase. -/
def readSetNo (j : Job) (k : Nat) (s : State) : SetRead × State :=
  match phaseEntry j j.phase s with
  | (none, s1) => (.lost, s1)
  | (some e, s1) =>
    match setAddr (peStepSets e) k s1 with
    | (none, s2) => (.bad, s2)
    | (some a, s2) => readSet j a s2

/-- The next set as it was loaded (R189): the end of the list is a fault at the boundary. -/
def nextOf (r : SetRead) (k : Nat) : NextSet :=
  match r with
  | .lost => .lost
  | .endMark => .bad
  | .bad => .bad
  | .ok set n => .ready set k n

/-! Mapping, Itineraries, Caravans (R222, R174, R129). -/

/-- What reading a phase's tables gives. -/
inductive TableRead (α : Type) where
  | lost | bad
  | ok (v : α)
  deriving DecidableEq, Repr

/-- No number twice. -/
def noDup : List Nat → Bool
  | [] => true
  | x :: xs => !xs.contains x && noDup xs

/-- The mapping table: the device at rank 0. -/
def readMapping (a : Nat) (s : State) : TableRead Nat × State :=
  match readNat a 8 s with
  | (none, s1) => (.lost, s1)
  | (some h, s1) =>
    let count := bits h 15 0
    let rank := bits h 31 16
    if count = 0 || 4096 < count || count ≤ rank then (.bad, s1)
    else match readTable (a + 8) 2 count s1 with
      | (none, s2) => (.lost, s2)
      | (some ids, s2) =>
        if ids.all (fun d => decide (d < 4096)) && ids.getD rank 0 == s2.fabric.id && noDup ids then (.ok (ids.headD 0), s2)
        else (.bad, s2)

/-- The 128 Itinerary entries: base, and range of each tile. -/
def readItins (a : Nat) (s : State) : TableRead (List (Nat × Nat × Nat)) × State :=
  match readTable a 8 128 s with
  | (none, s1) => (.lost, s1)
  | (some es, s1) =>
    let ranges := es.map (fun e =>
      let base := bits e 39 0
      let lo := base / 4096 * 4096
      (base, lo, lo + bits e 63 40 * 4096))
    if ranges.all (fun r => decide (r.2.1 < r.2.2) && inJobArea r.2.1 (r.2.2 - r.2.1) s1) then (.ok ranges, s1) else (.bad, s1)

/-- The Caravan groups that are valid (Table: Caravan group entry). -/
def readCaravans (a : Nat) (s : State) : Option (Tbl Caravan) × State :=
  match readTable a 32 256 s with
  | (none, s1) => (none, s1)
  | (some es, s1) =>
    (some ((List.range 256).filterMap (fun g =>
      let e := es.getD g 0
      if bit e 255 then some (g, { leader := bits e 254 248, members := BitVec.ofNat 128 (bits e 127 0), running := false }) else none)), s1)

/-! Live ranges (R212). -/

def lrList (d : Nat) : Nat := bits d 127 88
def lrCountOf (d : Nat) : Nat := bits d 87 76
def lrYield (d : Nat) : Bool := bit d 1
def lrRemote (d : Nat) : Bool := bit d 0

def reKind (e : Nat) : Nat := bits e 127 126
def reTile (e : Nat) : Nat := bits e 125 119
def reTileAddr (e : Nat) : Nat := bits e 118 103
def reExt (e : Nat) : Nat := bits e 102 63
def reLen (e : Nat) : Nat := bits e 62 40

/-- A range entry is valid (Table: Range entry). -/
def rangeEntryOk (e : Nat) : Bool :=
  bits e 39 0 == 0 && reLen e != 0
    && (if reKind e = 1 then reExt e == 0 && inTile' (reTileAddr e) (reLen e)
        else reKind e == 2 && reTile e == 0 && reTileAddr e == 0 && reExt e % 64 == 0 && inShared (reExt e) (reLen e * 64))
where
  /-- A range of tile memory in 64 B units. -/
  inTile' (a n : Nat) : Bool := decide (a * 64 + n * 64 ≤ Config.tileBytes)

/-- Two range entries overlap. -/
def rangesOverlap (a b : Nat) : Bool :=
  reKind a == reKind b
    && (if reKind a = 1 then reTile a == reTile b && decide (reTileAddr a < reTileAddr b + reLen b) && decide (reTileAddr b < reTileAddr a + reLen a)
        else decide (reExt a < reExt b + reLen b * 64) && decide (reExt b < reExt a + reLen a * 64))

/-- Entries valid, and no two overlap. -/
def rangeListOk : List Nat → Bool
  | [] => true
  | e :: es => rangeEntryOk e && es.all (fun f => !rangesOverlap e f) && rangeListOk es

/-- Bytes of a range list. -/
def rangeBytes (es : List Nat) : Nat := es.foldl (fun n e => n + reLen e * 64) 0

/-- The live-range descriptor of an lr_index. -/
def lrDescriptor (j : Job) (lr : Nat) (s : State) : Option Nat × State := readNat (jLrTable j.desc + 16 * lr) 16 s

/-- The range list of a descriptor. -/
def lrRanges (d : Nat) (s : State) : Option (List Nat) × State := readTable (lrList d) 16 (lrCountOf d) s

/-- Check the descriptors from one on: the largest range total, a status, or lost. -/
def checkLr (d : BitVec 1024) : Nat → Nat → Nat → State → TableRead Nat × State
  | 0, _, big, s => (.ok big, s)
  | k + 1, lr, big, s =>
    match readNat (jLrTable d + 16 * lr) 16 s with
    | (none, s1) => (.lost, s1)
    | (some e, s1) =>
      if bits e 75 2 != 0 || lrList e % 16 != 0 || !inJobArea (lrList e) (16 * lrCountOf e) s1 then (.bad, s1)
      else match readTable (lrList e) 16 (lrCountOf e) s1 with
        | (none, s2) => (.lost, s2)
        | (some es, s2) => if rangeListOk es then checkLr d k (lr + 1) (max big (rangeBytes es)) s2 else (.bad, s2)

/-! Submission checks (R205). -/

/-- Check 3 of R205. -/
def descFieldsOk (d : BitVec 1024) (s : State) : Bool :=
  let reserved := jBits d 1023 520 == 0 && jBits d 447 424 == 0 && jBits d 383 360 == 0 && jBits d 319 296 == 0
    && jBits d 255 236 == 0 && jBits d 95 83 == 0 && jBits d 71 71 == 0
  let nsOk := (List.range 32).all (fun n => !bit (jNsGrant d) n || (Tbl.look s.spaces (n + 1)).isSome)
  reserved && jTag d != 0 && !s.tensor.jobs.any (fun p => p.2.tag == jTag d)
    && (jClass d == 1 || jClass d == 2) && decide (1 ≤ jRndDefault d) && decide (jRndDefault d ≤ 5)
    && decide (1 ≤ jPhaseCount d) && decide (jPhaseCount d ≤ 16) && decide (jLrCount d ≤ 1024) && jWaitTimeout d != 0
    && decide (1 ≤ jResvSlots d) && (jFabric d || jFabricCtx d == 0)
    && jDiag d % 4096 == 0 && inJobArea (jDiag d) 0x8000 s && jSaveArea d % 4096 == 0 && inJobArea (jSaveArea d) (jSavePages d * 4096) s
    && jPhaseTable d % 64 == 0 && inJobArea (jPhaseTable d) (64 * jPhaseCount d) s
    && (jLrCount d == 0 || (jLrTable d % 16 == 0 && inJobArea (jLrTable d) (16 * jLrCount d) s)) && nsOk

/-- Text as bytes. -/
def ascii (t : String) : List Byte := t.toList.map (fun c => BitVec.ofNat 8 c.toNat)

/-- A byte range lies wholly within one range of a kind. -/
def coveredBy (ranges : List (Nat × Nat × Nat)) (kind a n : Nat) : Bool :=
  ranges.any (fun r => r.1 == kind && decide (r.2.1 ≤ a) && decide (a + n ≤ r.2.1 + r.2.2))

/-- Bytes of a step-set list with its end marker, walking at most `k` sets. -/
def stepListBytes : Nat → Nat → State → Nat
  | 0, _, _ => 8
  | k + 1, a, s =>
    match (readNat a 8 s).1 with
    | none => 8
    | some h => if 512 < bits h 63 48 || bits h 47 32 = 0 then 8 + (if 512 < bits h 63 48 then 0 else 8 * bits h 63 48)
                else 8 + 8 * bits h 63 48 + stepListBytes k (a + 8 + 8 * bits h 63 48) s

/-- Tables that a phase entry names lie in ranges of kind 0b10, its Itinerary bases in ranges of kind 0b01 (checks 3 and 4
of R514). -/
def phaseCovered (ranges : List (Nat × Nat × Nat)) (e : Nat) (s : State) : Bool :=
  let map := ((readNat (peMapping e) 8 s).1).getD 0
  let ex := ((readNat (peExchange e) 16 s).1).getD 0
  coveredBy ranges 2 (peCaravans e) 8192 && coveredBy ranges 2 (peStepSets e) (stepListBytes 65536 (peStepSets e) s)
    && coveredBy ranges 2 (peMapping e) (8 + 2 * bits map 15 0)
    && (peExchange e == 0 || coveredBy ranges 2 (peExchange e) (16 + 16 * bits ex 79 64 + 32 * bits ex 63 32))
    && (match (readTable (peItins e) 8 128 s).1 with
        | none => false
        | some es => es.all (fun x => ranges.any (fun r => r.1 == 1 && decide (r.2.1 ≤ bits x 39 0) && decide (bits x 39 0 < r.2.1 + r.2.2))))

/-- The tables of a job lie in ranges of kind 0b10 (check 3 of R514). -/
def tablesCovered (ranges : List (Nat × Nat × Nat)) (d : BitVec 1024) (s : State) : Bool :=
  coveredBy ranges 2 (jPhaseTable d) (64 * jPhaseCount d)
    && (jLrCount d == 0 || coveredBy ranges 2 (jLrTable d) (16 * jLrCount d))
    && (List.range (jLrCount d)).all (fun i =>
      match (readNat (jLrTable d + 16 * i) 16 s).1 with
      | none => false
      | some e => lrCountOf e == 0 || coveredBy ranges 2 (lrList e) (16 * lrCountOf e))
    && (List.range (jPhaseCount d)).all (fun p =>
      match (readNat (jPhaseTable d + 64 * p) 64 s).1 with
      | none => false
      | some e => phaseCovered ranges e s)

/-- The key of a class is enrolled, and neither spent nor revoked; 0xFF stands for the Naravahus key (R511, R513). -/
def keyUsable (cls : Nat) (s : State) : Bool :=
  cls == 0xFF || (match Tbl.look s.sec.slots cls with
    | some k => k.valid && !k.spent && !k.revoked
    | none => false)

/-- No two byte ranges overlap. -/
def rangesApart : List (Nat × Nat × Nat) → Bool
  | [] => true
  | r :: rs => rs.all (fun q => decide (r.2.1 + r.2.2 ≤ q.2.1) || decide (q.2.1 + q.2.2 ≤ r.2.1)) && rangesApart rs

/-- Check 7 of R205 (R514): no check needed, the ranges of a library that passed, or a failure. -/
def libraryCheck (d : BitVec 1024) (lib : LibVerdict) (s : State) : TableRead (List (Nat × Nat × Nat)) × State :=
  let base := jPhaseTable d - 0x4000
  let there := decide (0x4000 ≤ jPhaseTable d) && inJobArea base 0x4000 s
  if !there then (if s.sec.requireSigned then .bad else .ok [], s)
  else match readStacked base 8 s with
    | (.error _, s1) => (.lost, s1)
    | (.ok magic, s1) =>
      if magic != ascii "QK8064IL" then (if s1.sec.requireSigned then .bad else .ok [], s1)
      else match readStacked base 0x4000 s1 with
        | (.error _, s2) => (.lost, s2)
        | (.ok h, s2) =>
          let word := fun (a n : Nat) => leNat ((h.drop a).take n)
          let count := word 12 4
          let zero := fun (a n : Nat) => ((h.drop a).take n).all (· == 0#8)
          let es := (chunksOf 16 (count + 1) ((h.drop 0x2000).take (16 * count))).map leNat
          let ranges := es.map (fun e => (bits e 81 80, bits e 39 0, bits e 79 40))
          let fields := word 8 4 == 1 && decide (1 ≤ count) && decide (count ≤ 512) && zero 17 15 && zero 7315 877
            && es.all (fun e => bits e 127 82 == 0 && (bits e 81 80 == 1 || bits e 81 80 == 2) && bits e 79 40 != 0)
            && ranges.all (fun r => inJobArea r.2.1 r.2.2 s2) && rangesApart ranges
          if fields && keyUsable (word 16 1) s2 && lib.keyMatches && tablesCovered ranges d s2 && lib.digestOk && lib.signatureOk then
            (.ok ranges, s2)
          else (.bad, s2)

end Sys2Proof.Machine
end

