-- ==== Sys2Proof/Machine/EmbedOps.lean ====
section
/-! DEFINITION. Shared operations of the embedding service: output records, commands that complete, and its end
(chapter 08, R250 to R256). -/

namespace Sys2Proof.Machine

def setEmbed (e : Embed) (s : State) : State := { s with embed := e }

/-- `n` rounded up to 64 B. -/
def up64 (n : Nat) : Nat := (n + 63) / 64 * 64

/-- Bits of a sketch (R235). -/
def sketchBits (m : ModelTable) : Nat := 256 * 2 ^ m.sketchSel

/-- Bytes of the vector in an output record (R251). -/
def vecPart (m : ModelTable) (fmt : Nat) : Nat :=
  match fmt with
  | 1 => up64 (m.outDim + m.outDim / 32)
  | 2 => m.outDim * 4
  | _ => 0

/-- Bytes of the sketch in an output record (R251). -/
def sketchPart (m : ModelTable) (on : Bool) : Nat := if on then up64 (sketchBits m / 8) else 0

/-- The record size Z (R251). -/
def recordSize (m : ModelTable) (fmt : Nat) (sketch : Bool) : Nat := 64 + vecPart m fmt + sketchPart m sketch

/-- The header of an output record (Table: Output record header). -/
def recordHeader (d : EmbedDoc) (status : Nat) (vec sketch inserted : Bool) : List Byte :=
  leBytes 64 (d.key.toNat * 2 ^ 448 + d.tokenCount * 2 ^ 416 + d.windowsDone % 65536 * 2 ^ 400 + status * 2 ^ 392 + b2n vec * 2 ^ 391
    + b2n sketch * 2 ^ 390 + b2n inserted * 2 ^ 389 + d.index * 2 ^ 372)

/-- The lower-indexed of two failures. -/
def lowerBad (old : Option (Nat × Nat)) (i status : Nat) : Option (Nat × Nat) :=
  match old with
  | some (k, v) => if i < k then some (i, status) else some (k, v)
  | none => some (i, status)

/-- A command whose documents have all left completes (R254). -/
def finishEmbed (tr : Nat) (s : State) : State :=
  match Tbl.look s.embed.cmds tr with
  | none => s
  | some c =>
    if c.left != 0 then s
    else
      let s1 := setEmbed { s.embed with cmds := Tbl.del s.embed.cmds tr, queue := s.embed.queue.filter (· != tr) } s
      complete tr ((c.bad.map (·.2)).getD 0) c.good 0 s1

/-- A document leaves: its record is written, the header with what follows it, and its command may complete (R250 to
R254). -/
def leaveDoc (d : EmbedDoc) (status : Nat) (inserted : Bool) (vec sketch : List Byte) (s : State) : State :=
  match Tbl.look s.embed.cmds d.tr with
  | none => s
  | some c =>
    let at_ := c.outAddr + d.index * recordSize s.embed.model c.hostFmt c.hostSketch
    let s1 := hostWrite at_ (recordHeader d status (!vec.isEmpty) (!sketch.isEmpty) inserted ++ vec ++ sketch) s
    let c1 := { c with left := c.left - 1, good := if status = 0 then c.good + 1 else c.good,
                       bad := if status = 0 then c.bad else lowerBad c.bad d.index status }
    let w := s1.embed.work
    let w1 := { w with left := satAdd 16 w.left 1, failed := if status = 0 then w.failed else satAdd 16 w.failed 1 }
    finishEmbed d.tr (setEmbed { s1.embed with cmds := Tbl.put s1.embed.cmds d.tr c1, work := w1 } s1)

/-- Every document of a command that has no context leaves with ABORTED (R252, R255). -/
def abortCmd (tr : Nat) (s : State) : State :=
  match Tbl.look s.embed.cmds tr with
  | none => s
  | some c => c.docs.foldl (fun acc d => leaveDoc d 0x32 false [] [] acc) s

/-- An EMBED_UNBIND completes once no context is in use (R255): the binding ends. -/
def finishUnbind (s : State) : State :=
  match s.embed.unbindTr with
  | none => s
  | some tr =>
    if !s.embed.ctxs.isEmpty then s
    else complete tr 0 0 0 (setEmbed { Embed.reset with seq := 0 } s)

/-- The binding ends (R256): documents that have not left and queued commands end with ABORTED, contexts are freed. -/
def endService (s : State) : State :=
  let s1 := s.embed.ctxs.foldl (fun acc p => leaveDoc p.2 0x32 false [] [] acc) s
  let s2 := s1.embed.queue.foldl (fun acc tr => abortCmd tr acc) s1
  let s3 := setEmbed { s2.embed with ctxs := [] } s2
  match s3.embed.unbindTr with
  | some _ => finishUnbind s3
  | none => setEmbed Embed.reset s3

end Sys2Proof.Machine
end

