-- ==== Sys2Proof/Machine/Jobs.lean ====
section
/-! DEFINITION. Shared operations of the jobs: ranking, switching, saving, phases, exchanges and endings (chapter 07). The
commands are in JobCmds.lean. -/

namespace Sys2Proof.Machine

/-! Ranking (R208, R209). -/

/-- The job may be chosen. -/
def eligible (j : Job) : Bool := j.state == .ready || j.state == .waiting || j.state == .parked

/-- Lexicographic comparison of keys: the smaller ranks first. -/
def keyLt : List Nat → List Nat → Bool
  | a :: as, b :: bs => decide (a < b) || (a == b && keyLt as bs)
  | _, _ => false

/-- Urgency, class and priority of a job. -/
def rankHead (j : Job) : List Nat :=
  if j.urgent then [0, j.urgentOrder] else [1, jClass j.desc, 7 - jPriority j.desc]

/-- The key of an eligible job in its entry. -/
def rankKey (e : Nat) (j : Job) : List Nat := rankHead j ++ [b2n (j.state == .parked), j.waitOrder, e]

/-- The highest-ranked eligible job. -/
def bestEligible (s : State) : Option (Nat × Job) :=
  (s.tensor.jobs.filter (fun p => eligible p.2)).foldl (fun best p =>
    match best with
    | none => some p
    | some b => if keyLt (rankKey p.1 p.2) (rankKey b.1 b.2) then some p else some b) none

/-- It raises a pre-emption request against the owner (R209). -/
def preempts (b o : Job) : Bool :=
  if b.urgent && !o.urgent then true
  else (jClass b.desc == 1 && jClass o.desc == 2)
    || (jClass b.desc == jClass o.desc && decide (jPriority o.desc < jPriority b.desc))
    || (jClass b.desc == 2 && jClass o.desc == 2 && decide (jPriority o.desc ≤ jPriority b.desc) && o.sliceOver)

/-- It ranks before the owner at a Waypoint, the owner having waited least (R208). -/
def outranks (b o : Job) : Bool := !keyLt (rankHead o) (rankHead b)

/-- The next order number. -/
def nextOrder (s : State) : Nat × State :=
  (s.tensor.orderNext, { s with tensor := { s.tensor with orderNext := s.tensor.orderNext + 1 } })

/-- A job takes an eligible state: its wait begins (R208), and a power state is left (R417). -/
def becomeEligible (e : Nat) (st : JobState) (s : State) : State :=
  let p := nextOrder s
  wakePower 1 (modJob e (fun j => { j with state := st, waitOrder := p.1 }) p.2)

/-! The job status block and the save header (R231, R213). -/

/-- Table: Job states. -/
def stateCode : JobState → Nat
  | .ready => 0
  | .running => 1
  | .saving => 2
  | .restoring => 3
  | .waiting => 4
  | .parked => 5
  | .idle => 6
  | .suspended => 7
  | .exchanging => 8

/-- Write the job status block: status 0 while the job runs. -/
def writeStatus (j : Job) (status code cause : Nat) (s : State) : State :=
  let sat := fun (v : Nat) => min v (2 ^ 32 - 1)
  putStacked (jDiag j.desc)
    (leBytes 4 j.ieee.toNat ++ leBytes 1 status ++ leBytes 1 code ++ leBytes 2 cause ++ leBytes 4 j.tag ++ leBytes 1 j.phase
      ++ leBytes 1 0 ++ leBytes 2 j.lr ++ leBytes 8 j.cycles ++ leBytes 4 (sat j.leaves) ++ leBytes 4 (sat j.promotions)
      ++ leBytes 4 (sat j.lateCount) ++ leBytes 4 (sat j.longestGap) ++ leBytes 4 (sat j.longGaps) ++ leBytes 4 (sat j.flagsSaved)
      ++ leBytes 4 (sat j.refused) ++ leBytes 4 (sat j.stepLoad) ++ leBytes 8 j.stallPriority ++ leBytes 8 j.stallBusy
      ++ leBytes 8 j.stallRetry ++ leBytes 8 j.stallQueue ++ List.replicate 168 0#8) s

/-- Write the save header. At a phase start bytes 6 to 15 are zero. -/
def writeHeader (j : Job) (valid phaseStart : Bool) (s : State) : State :=
  putStacked (jSaveArea j.desc)
    (leBytes 4 j.tag ++ leBytes 1 j.phase
      ++ leBytes 1 (b2n valid + 2 * b2n j.mapped + 4 * b2n j.yieldDecided + 8 * b2n phaseStart)
      ++ (if phaseStart then List.replicate 10 0#8 else leBytes 2 j.lr ++ leBytes 4 j.stepIdx ++ leBytes 4 j.stepLeft)
      ++ List.replicate 48 0#8) s

/-- The flags of all vector units go into the job's flag word (R43). -/
def mergeIeee (e : Nat) (s : State) : State :=
  modJob e (fun j => { j with ieee := s.tensor.tiles.foldl (fun f p => f ||| p.2.ieee) j.ieee }) s

/-! Ending (R228, R537). -/

/-- The device remembers an ended job. -/
def remember (r : Ended) (s : State) : State :=
  { s with tensor := { s.tensor with
      remembered := ((s.tensor.remembered.filter (fun x => x.tag != r.tag)) ++ [r]).drop
        ((s.tensor.remembered.filter (fun x => x.tag != r.tag)).length + 1 - Config.rememberedJobs) } }

/-- What a job leaves in the fabric and the flash goes with it: its reductions, held partials, exchange requests, and, of
the owner, Cellar requests and locks. -/
def releaseJob (e : Nat) (j : Job) (s : State) : State :=
  let ctx := jFabricCtx j.desc
  let mine := fun (key : Nat) => key / 4096 == ctx
  let own := s.tensor.owner == some e
  let f := s.fabric
  let s1 := { s with fabric := { f with
    reductions := f.reductions.filter (fun p => !mine p.1)
    held := f.held.filter (fun p => !mine p.1)
    reqs := f.reqs.filter (fun p => match p.2.for_ with
      | .exchange k => k != e
      | .slot _ _ _ _ => !own
      | .reduce key => !mine key
      | _ => true) } }
  if !own then s1
  else { s1 with
    mem := { s1.mem with cellar := s1.mem.cellar.filter (fun p => match p.2.for_ with
      | .slot _ _ _ _ _ => false
      | _ => true) }
    flash := { s1.flash with locks := s1.flash.locks.filter (fun p => match p.2.holder with
      | .cellar _ _ => false
      | _ => true) }
    tensor := { s1.tensor with tiles := [], landings := [], caravans := [], region := RegionTable.empty, owner := none, incoming := none,
                               switch := .none, request := false, late := false, heldByStep4 := false } }

/-- The guarantee of the outgoing entry ends with the frame (R197). -/
def handOver (next : Option Nat) (s : State) : State := { s with mem := { s.mem with nextActive := some next } }

/-- A job becomes the next owner (R207, R216): its restore begins with the hand-over and the clear. -/
def startSwitch (e : Nat) (s : State) : State :=
  let s1 := modJob e (fun j => { j with state := .restoring, sliceOver := false, leave := none, mapped := j.window.isSome }) s
  handOver (some e) { s1 with tensor := { s1.tensor with
    owner := some e, incoming := none, switch := .clearing, request := false, late := false, heldByStep4 := false } }

/-- The complex is free: the first-ranked job, or the one already chosen, becomes the owner (R208), once the tiles
have their clock (R419). -/
def pickOwner (s : State) : State :=
  if !mayOwn s then { s with tensor := { s.tensor with incoming := none } }
  else
  let chosen := match s.tensor.incoming.bind (fun e => (jobOf e s).map (fun j => (e, j))) with
    | some (e, j) => if eligible j then some e else none
    | none => none
  match chosen.orElse (fun _ => (bestEligible s).map (·.1)) with
  | some e => startSwitch e s
  | none => { s with tensor := { s.tensor with incoming := none } }

/-- A job ends: header, status block, record, event, and everything it held (R228). -/
def endJob (e status cause : Nat) (s : State) : State :=
  match jobOf e s with
  | none => s
  | some j0 =>
    let own := s.tensor.owner == some e
    let s0 := if own then windowsEnd .switch (mergeIeee e s) else s
    let j := (jobOf e s0).getD j0
    let s1 := if status = 0x31 then s0 else writeHeader j false false s0
    let s2 := writeStatus j status 9 cause s1
    let s3 := completeAll j.suspendTrs 0x03 s2
    let s4 := completeAll j.abortTrs 0x00 s3
    let s5 := releaseJob e j s4
    let s6 := { s5 with tensor := { s5.tensor with jobs := Tbl.del s5.tensor.jobs e } }
    let s7 := if own then handOver none s6 else s6
    let s8 := remember { tag := j.tag, status := status, phase := j.phase } s7
    let rec_ : Completion :=
      { tag := j.cmdTag, sq := j.sq, status := status, opcode := j.opcode, kind := 1,
        result := j.tag + cause * 2 ^ 32 + j.phase * 2 ^ 48, detail := j.cycles }
    let s9 := logEvent .jobEnded (detailWords [status, cause]) (postOn j.cq false rec_ s8)
    let s10 := if s9.embed.bound == some e then endService s9 else s9
    if own then pickOwner s10 else s10

/-- The tiles of a job that is not the owner, as its save keeps them. -/
def savedTiles (j : Job) (s : State) : Tbl Tile :=
  Tbl.mapVals (Tbl.lookD s.tensor.saves (jSaveArea j.desc) []) (fun _ v =>
    { Tile.fresh with flags := v.flags, ctrs := v.ctrs, loops := v.loops, cmps := v.cmps, rp := v.rp, left := v.left })

/-- A cause arises on a job: the owner stops under R163; another job ends at once, its stop snapshot holding the saved
flags (R218). -/
def failJob (e cause tile : Nat) (s : State) : State :=
  match jobOf e s with
  | none => s
  | some j =>
    if s.tensor.owner == some e && j.state == .running then raiseFault cause tile true 0 0 7 s
    else
      let r : StopRec :=
        { cause := cause, status := causeStatus cause, firstTile := tile, outsideWait := true, firstKind := 0, expired := 0, faultWord := 0,
          faultSlot := 7, dropped := 0, cycle := s.tclk, at_ := s.tensor.delivered }
      let tiles := s.tensor.tiles
      let s1 := { s with tensor := { s.tensor with tiles := if j.hasWp then savedTiles j s else [] } }
      let s2 := writeSnapshot j r s1
      endJob e r.status cause { s2 with tensor := { s2.tensor with tiles := tiles } }

/-! Switching (R216). -/

/-- Lines of the snoop filter in the window pages of a step set are to be back-invalidated, at most 64 at a time (R383,
R384). -/
def issueSweep (s : State) : State :=
  let room := Config.snoopFlight - s.host.biOut.length
  { s with host := { s.host with
      biOut := s.host.biOut ++ (s.host.sweep.take room).map (fun l => { line := l.1, inv := l.2, sweep := true })
      sweep := s.host.sweep.drop room } }

/-- Start the sweep for a step set that becomes active: a line held exclusive in a read-only page is fetched with
BISnpData, any other named line is invalidated. -/
def startSweep (set : List Region) (s : State) : State :=
  let entry := fun (l : Nat) =>
    let page := (windowBase s + 64 * l) / 4096
    set.find? (fun r => decide (r.base ≤ page) && decide (page < r.base + r.pages))
  issueSweep { s with host := { s.host with sweep := s.host.snoop.filterMap (fun x =>
    (entry x.line).map (fun r => (x.line, r.writeOnly || !x.exclusive))) } }

/-- The sweep has ended. -/
def sweepClear (s : State) : Bool := s.host.sweep.isEmpty && !s.host.biOut.any (·.sweep)

/-- Record a Waypoint: gaps between Waypoints on each tile (R215). 200 µs are 280,000 cycles. -/
def noteGap (e lr : Nat) (s : State) : State :=
  let now := s.tensor.delivered
  let gap := s.tensor.tiles.foldl (fun g p => if p.2.left then g else max g (now - p.2.gapFrom)) 0
  let s1 := modJob e (fun j => { j with lr := lr, longestGap := max j.longestGap gap,
                                        longGaps := if 280000 < gap then satAdd 32 j.longGaps 1 else j.longGaps }) s
  modAllTiles (fun x => { x with gapFrom := now }) s1

/-- The owner leaves at its Waypoint: SAVING (R207, R214). -/
def leaveWaypoint (e : Nat) (k : LeaveKind) (next : Option Nat) (s : State) : State :=
  let s1 := windowsEnd .switch s
  let s2 := modJob e (fun j => { j with
    state := .saving, leave := some k, yieldDecided := k == .yielded, leaves := satAdd 32 j.leaves 1, hasWp := true,
    stepIdx := s.tensor.region.idx, stepLeft := s.tensor.region.left }) s1
  { s2 with tensor := { s2.tensor with switch := .saving, incoming := next, request := false, late := false, heldByStep4 := false } }

/-- The tiles held at the Waypoint go on with their Waypoint word, without draining again. -/
def releaseWaypoint (s : State) : State :=
  modAllTiles (fun x => match x.hold with
    | .barrierWaypoint _ => { x with hold := .none, wpPassed := true }
    | _ => x) s

/-- The owner stays at its Waypoint while the throttle step is 4; else it goes on (R28). -/
def goOn (s : State) : State :=
  if s.power.step = 4 then { s with tensor := { s.tensor with heldByStep4 := true } } else releaseWaypoint s

/-- What the scheduler decides at a Waypoint of the owner (R208 to R210, R214, R228). -/
def waypointDecision (e : Nat) (s : State) : State :=
  match jobOf e s with
  | none => s
  | some j =>
    match lrDescriptor j j.lr s with
    | (none, s1) => raiseFault causeStackedUncorrectable 0 true 0 0 7 s1
    | (some d, s1) =>
      if j.drainPending then leaveWaypoint e .drain none s1
      else if j.suspendPending then leaveWaypoint e .suspend none s1
      else if s1.host.d3hot then leaveWaypoint e .d3hot none s1
      else
        let next := match bestEligible s1 with
          | some (n, b) => if s1.tensor.request && outranks b j then some n else none
          | none => none
        match next with
        | some n => leaveWaypoint e .preempt (some n) s1
        | none =>
          let s2 := { s1 with tensor := { s1.tensor with request := false, late := false } }
          if !lrYield d then goOn s2
          else if j.workPending then goOn (modJob e (fun k => { k with workPending := false }) s2)
          else leaveWaypoint e .yielded none s2

/-- A higher-ranked job raises a request against the owner; a free complex takes the first-ranked job (R208, R209). At a
Waypoint at which step 4 holds the owner, the request is satisfied at once (R221). -/
def schedule (s : State) : State :=
  match s.tensor.owner with
  | none => pickOwner s
  | some o =>
    match jobOf o s, bestEligible s with
    | some j, some (n, b) =>
      if j.state == .running && j.stop.isNone && preempts b j then
        let s1 := { s with tensor := { s.tensor with request := true } }
        if s.tensor.heldByStep4 then leaveWaypoint o .preempt (some n) s1 else s1
      else s
    | _, _ => s

/-- A request that only the owner's own leave raises (R209, R214, R228). -/
def requestLeave (e : Nat) (k : LeaveKind) (s : State) : State :=
  let s1 := { s with tensor := { s.tensor with request := true } }
  if s.tensor.owner == some e && s.tensor.heldByStep4 then leaveWaypoint e k none s1 else s1

/-! Saving and restoring (R213, R214, R219). -/

/-- The saved state of a tile (R160). -/
def saveTile (x : Tile) : TileSave :=
  { flags := x.flags, ctrs := x.ctrs, loops := x.loops, cmps := x.cmps, rp := x.rp, left := x.left, nextPhase := x.nextPhase }

/-- The bytes of a range entry. -/
def rangeData (e : Nat) (s : State) : List Byte :=
  if reKind e = 1 then tileRead (tileOf (reTile e) s) (reTileAddr e * 64) (reLen e * 64)
  else Mem.read zeroByte s.mem.shared (reExt e) (reLen e * 64)

/-- Write the bytes of a range entry back. -/
def putRange (e : Nat) (bytes : List Byte) (s : State) : State :=
  if reKind e = 1 then modTile (reTile e) (fun x => tileWrite x (reTileAddr e * 64) bytes) s
  else { s with mem := { s.mem with shared := Mem.write zeroByte s.mem.shared (reExt e) bytes } }

/-- Add to a saved flag; none when it would exceed 255. -/
def addSaved (t : Tbl TileSave) (f : FlagSetOp) : Option (Tbl TileSave) :=
  match Tbl.look t f.tile with
  | none => if f.n ≤ 255 then some (Tbl.put t f.tile { saveTile Tile.fresh with flags := [(f.flag, f.n)] }) else none
  | some v =>
    let k := Tbl.lookD v.flags f.flag 0 + f.n
    if 255 < k then none else some (Tbl.put t f.tile { v with flags := Tbl.put v.flags f.flag k })

/-- Apply held FLAG_SETs to a saved block; the overflow is reported (R218, R219). -/
def addSavedAll : List FlagSetOp → Tbl TileSave → Tbl TileSave × Bool
  | [], t => (t, false)
  | f :: fs, t =>
    match addSaved t f with
    | some u => addSavedAll fs u
    | none => (t, true)

/-- The tile-state blocks in stacked memory: their layout is not given (log 8). -/
def writeTileBlocks (a : Nat) (s : State) : State :=
  let s1 := (List.range Config.tiles).foldl (fun acc t =>
    putStacked (a + 0x1000 + 512 * t) (padTo 512 0#8 (Config.tileStateBlock (s.drawn + t))) acc) s
  { s1 with drawn := s.drawn + Config.tiles }

/-- Write everything that a save keeps. -/
def saveJob (e : Nat) (j : Job) (ranges : List Nat) (s : State) : State :=
  let a := jSaveArea j.desc
  let bytes := ranges.flatMap (fun r => rangeData r s)
  let saves : Tbl TileSave := (List.range Config.tiles).map (fun t => (t, saveTile (tileOf t s)))
  let s1 := { s with tensor := { s.tensor with saves := Tbl.put s.tensor.saves a saves } }
  let s2 := putStacked (a + 0x11000) bytes (writeTileBlocks a s1)
  modJob e (fun k => { k with lastSet := s.tensor.region.active }) (mergeIeee e s2)

/-- Change the saved blocks of a job. -/
def setSaves (j : Job) (t : Tbl TileSave) (s : State) : State :=
  { s with tensor := { s.tensor with saves := Tbl.put s.tensor.saves (jSaveArea j.desc) t } }

/-- Restore the ranges of a list from the save area, from offset `a` on. -/
def restoreRanges : List Nat → Nat → State → Option State
  | [], _, s => some s
  | r :: rs, a, s =>
    match readStacked a (reLen r * 64) s with
    | (.error _, _) => none
    | (.ok b, s1) => restoreRanges rs (a + reLen r * 64) (putRange r b s1)

/-- A tile as a save keeps it, with the range of its Itinerary. -/
def restoreTile (v : TileSave) (now lo hi : Nat) : Tile :=
  { Tile.fresh with flags := v.flags, ctrs := v.ctrs, loops := v.loops, cmps := v.cmps, rp := v.rp, rangeLo := lo, rangeHi := hi,
                    left := v.left, nextPhase := v.nextPhase, hold := if v.left then .ended else .none, wpPassed := !v.left, gapFrom := now }

/-- A flag increment that lands for the owner (R141, R155). -/
def landFlag (f : FlagSetOp) (s : State) : State := raiseSigs f.tile [(f.flag, f.n)] s

/-- The job enters RUNNING; held FLAG_SETs are applied to the tiles (R219). At throttle step 4 it is held (R221). -/
def enterRunning (e : Nat) (s : State) : State :=
  match jobOf e s with
  | none => s
  | some j =>
    let fresh := !j.hasWp && j.phase == 0
    let s1 := modJob e (fun k => { k with
      state := .running, heldFlags := [], mapped := k.window.isSome, flagImage := [],
      startAt := if fresh then s.tensor.delivered else k.startAt, ieee := if fresh then 0 else k.ieee }) s
    let s2 := { s1 with tensor := { s1.tensor with switch := .none, heldByStep4 := s1.power.step == 4 },
                        host := { s1.host with conflictLogged := false } }
    let s3 := j.heldFlags.foldl (fun acc f => landFlag f acc) s2
    let s4 := if j.abortPending then raiseFault causeAbort 0 true 0 0 7 s3 else s3
    let s5 := if j.hasWp then s4 else windowsEnd .step s4
    schedule s5

/-! Step boundaries (R189, R190). -/

/-- The set that becomes active at the boundary, if it is known. -/
def incomingSet (s : State) : Option (List Region) :=
  let r := s.tensor.region
  if r.left = 0 || 1 < r.left then some r.active
  else match r.next with
    | .loading => none
    | .ready set _ _ => some set
    | .bad => some []
    | .lost => some []

/-- The region-mode table at the boundary: the set goes on, or the next one becomes active. -/
def advanceRegion (r : RegionTable) : RegionTable :=
  if r.left = 0 then { r with waits := false }
  else if 1 < r.left then { r with left := r.left - 1, waits := false }
  else match r.next with
    | .ready set k n => { active := set, idx := k, left := n, next := .loading, waits := false }
    | _ => { r with waits := false }

/-- The boundary falls (R190): the set changes, windows end, STEP flags are raised and the dispatchers go on. -/
def finishBoundary (s : State) : State :=
  let r := s.tensor.region
  if r.left = 1 && r.next == .bad then raiseFault causeRegionTable 0 true 0 0 7 { s with tensor := { s.tensor with region := { r with waits := false } } }
  else if r.left = 1 && r.next == .lost then
    raiseFault causeStackedUncorrectable 0 true 0 0 7 { s with tensor := { s.tensor with region := { r with waits := false } } }
  else
    let s1 := windowsEnd .step s
    let s2 := { s1 with tensor := { s1.tensor with region := advanceRegion r }, host := { s1.host with conflictLogged := false } }
    (List.range Config.tiles).foldl (fun acc t =>
      let x := tileOf t acc
      match x.hold with
      | .barrierStep =>
        continueWord t (raiseSigs t (x.holdSig.toList.map (fun g => (g, 1))) (setTile t { x with hold := .none } acc))
      | _ => acc) s2

/-- The boundary is due: it waits for the next set and for the sweep of R384. -/
def boundaryDue (s : State) : State :=
  let waiting := fun (x : State) => { x with tensor := { x.tensor with region := { x.tensor.region with waits := true } } }
  match incomingSet s with
  | none => waiting s
  | some set =>
    let s1 := startSweep set s
    if sweepClear s1 then finishBoundary s1 else waiting s1

/-- A boundary that waited goes on when the set is loaded and the sweep has ended. -/
def boundaryResume (s : State) : State :=
  if s.tensor.region.waits && (incomingSet s).isSome && sweepClear s then finishBoundary s else s

/-! Phase starts (R222, R223). -/

/-- Load what a job needs to run, from its phase entry: Caravan groups, Itinerary ranges, and a step set. A cause where a
table is bad (the mapping is `map`'s cause, the rest REGION_TABLE). -/
def loadTables (e : Nat) (j : Job) (s : State) : Except Nat State :=
  match phaseEntry j j.phase s with
  | (none, _) => .error causeStackedUncorrectable
  | (some pe, s1) =>
    match readMapping (peMapping pe) s1 with
    | (.lost, _) => .error causeStackedUncorrectable
    | (.bad, _) => .error causeMapping
    | (.ok root, s2) =>
      match readItins (peItins pe) s2 with
      | (.lost, _) => .error causeStackedUncorrectable
      | (.bad, _) => .error causeRegionTable
      | (.ok its, s3) =>
        match readCaravans (peCaravans pe) s3 with
        | (none, _) => .error causeStackedUncorrectable
        | (some cs, s4) =>
          let saves := Tbl.lookD s4.tensor.saves (jSaveArea j.desc) []
          let now := s4.tensor.delivered
          let tile := fun (t : Nat) =>
            let it := its.getD t (0, 0, 0)
            if j.hasWp then restoreTile (Tbl.lookD saves t { saveTile Tile.fresh with rp := it.1 }) now it.2.1 it.2.2
            else { Tile.fresh with
              rp := it.1, rangeLo := it.2.1, rangeHi := it.2.2, gapFrom := now
              flags := (j.flagImage.filter (fun p => p.1 / 64 == t)).map (fun p => (p.1 % 64, p.2)) }
          let s5 := modJob e (fun k => { k with root := root }) { s4 with tensor := { s4.tensor with
            caravans := cs, tiles := (List.range Config.tiles).map (fun t => (t, tile t)) } }
          let k := if j.hasWp then j.stepIdx else 0
          match readSetNo j k s5 with
          | (.lost, _) => .error causeStackedUncorrectable
          | (.endMark, _) => .error causeRegionTable
          | (.bad, _) => .error causeRegionTable
          | (.ok set n, s6) =>
            let left := if j.hasWp then j.stepLeft else n
            .ok (startSweep set { s6 with tensor := { s6.tensor with
              region := { active := set, idx := k, left := left, next := .loading, waits := false } } })

/-- The job becomes READY in a phase (R223): its window stays mapped; a suspension or a drain that waits takes effect. -/
def readyInPhase (e ph : Nat) (kept : List Region) (s : State) : State :=
  let s1 := modJob e (fun j => { j with phase := ph, hasWp := false, lr := 0, stepIdx := 0, stepLeft := 0, mapped := j.window.isSome,
                                        yieldDecided := false, lastSet := kept, exchange := none }) s
  match jobOf e s1 with
  | none => s1
  | some j =>
    let s2 := writeStatus j 0 0 0 s1
    if j.drainPending then endJob e 0x31 0 (writeHeader j true true s2)
    else if j.suspendPending then
      completeAll j.suspendTrs 0 (modJob e (fun k => { k with state := .suspended, suspendPending := false, suspendTrs := [] }) s2)
    else becomeEligible e .ready s2

/-- The owner leaves the complex at a phase end. -/
def freeComplex (s : State) : State :=
  handOver none { s with tensor := { s.tensor with
    owner := none, incoming := none, switch := .none, request := false, late := false, heldByStep4 := false, tiles := [], landings := [],
    caravans := [], region := RegionTable.empty } }

/-! Exchanges (R224 to R227). -/

/-- Issue a barrier of an exchange: a REDUCE of one INT32 element with reduce_id 4,095 (R226, R329). -/
def issueBarrier (e : Nat) (s : State) : State :=
  match jobOf e s with
  | none => s
  | some j =>
    if !treeOk j.root s then failJob e causeReduceTree 0 s
    else
      let key := reduceKey (jFabricCtx j.desc) 4095
      let r : Reduction :=
        { ctx := jFabricCtx j.desc, rid := 4095, root := j.root, fmt := 1, data := List.replicate 8 0#8, dest := none, owner := e,
          barrier := true, combined := [], written := [] }
      let s1 := addReduction r s
      if heldBad r key s1 then failJob e causeReduceMismatch 0 s1 else s1

/-- An out entry: source, device, destination, length. -/
def outEntry (e : Nat) : Nat × Nat × Nat × Nat := (bits e 255 216, bits e 215 204, bits e 203 164, bits e 163 132)

/-- No two page ranges of a list overlap. -/
def pagesApart : List (Nat × Nat) → Bool
  | [] => true
  | r :: rs => rs.all (fun q => !pagesOverlap r.1 r.2 q.1 q.2) && pagesApart rs

/-- The exchange table: in-ranges, in_bytes, out entries; bad where R225 or R515 or a field forbids it. -/
def readExchange (j : Job) (a : Nat) (s : State) : TableRead (List (Nat × Nat) × Nat × List Nat) × State :=
  match readNat a 16 s with
  | (none, s1) => (.lost, s1)
  | (some h, s1) =>
    let inCount := bits h 79 64
    let outCount := bits h 63 32
    if inCount = 0 || 4096 < inCount || outCount = 0 || 2 ^ 20 < outCount then (.bad, s1)
    else match readTable (a + 16) 16 inCount s1 with
      | (none, s2) => (.lost, s2)
      | (some ins, s2) =>
        match readTable (a + 16 + 16 * inCount) 32 outCount s2 with
        | (none, s3) => (.lost, s3)
        | (some outs, s3) =>
          let ranges := ins.map (fun x => (bits x 99 72, bits x 71 44))
          let signedPages := j.signed.map (fun r => (r.2.1 / 4096, pagesUp (r.2.1 % 4096 + r.2.2)))
          let okIn := ranges.all (fun r => r.2 != 0 && inJobArea (r.1 * 4096) (r.2 * 4096) s3
            && signedPages.all (fun g => !pagesOverlap r.1 r.2 g.1 g.2))
          let okOut := outs.all (fun x =>
            let o := outEntry x
            o.1 % 64 == 0 && o.2.2.1 % 64 == 0 && o.2.2.2 != 0 && o.2.2.2 % 64 == 0 && inJobArea o.1 o.2.2.2 s3
              && ranges.all (fun r => decide (o.1 + o.2.2.2 ≤ r.1 * 4096) || decide ((r.1 + r.2) * 4096 ≤ o.1)))
          if okIn && okOut && pagesApart ranges then (.ok (ranges, bits h 127 80, outs), s3) else (.bad, s3)

/-- The job enters EXCHANGING, and joins the first barrier (R226). -/
def enterExchange (e : Nat) (j : Job) (table next : Nat) (kept : List Region) (s : State) : State :=
  match readExchange j table s with
  | (.lost, s1) => failJob e causeStackedUncorrectable 0 s1
  | (.bad, s1) => failJob e causeExchange 0 s1
  | (.ok (ranges, n, _), s1) =>
    let x : Exchange := { stage := .barrier1, inRanges := ranges, inBytes := n, landed := 0, outstanding := 0, next := next, kept := kept }
    let s2 := modJob e (fun k => { k with
      state := .exchanging, hasWp := false, exchange := some x, mapped := k.window.isSome
      lastSet := ranges.map (fun r => { writeOnly := true, base := r.1, pages := r.2 }) }) s1
    issueBarrier e s2

/-- Bytes of an out entry go out in parcels of 4 KiB; a local copy lands at once. -/
def sendPieces (e : Nat) (ctx dst : Nat) : Nat → Nat → Nat → Nat → State → Option State
  | 0, _, _, _, s => some s
  | k + 1, src, dest, n, s =>
    let m := min 4096 n
    match readStacked src m s with
    | (.error _, _) => none
    | (.ok b, s1) =>
      let s2 :=
        if dst = s.fabric.id then
          modJob e (fun j => { j with exchange := j.exchange.map (fun x => { x with landed := x.landed + m }) }) (putStacked dest b s1)
        else
          modJob e (fun j => { j with exchange := j.exchange.map (fun x => { x with outstanding := x.outstanding + 1 }) })
            (sendRequest 1 dst ctx false 0 dest 0 (wordsOf b) (.exchange e) s1)
      sendPieces e ctx dst k (src + m) (dest + m) (n - m) s2

/-- Send the out entries in table order; a cause where a source is lost or a local copy leaves the in-ranges (R188). -/
def sendOuts (e : Nat) (j : Job) : List Nat → State → Except Nat State
  | [], s => .ok s
  | x :: xs, s =>
    let o := outEntry x
    if o.2.1 = s.fabric.id && !(pagesOf o.2.2.1 o.2.2.2).all (fun p => pageInSet j.lastSet true p) then .error causeRegionMode
    else match sendPieces e (jFabricCtx j.desc) o.2.1 ((o.2.2.2 + 4095) / 4096) o.1 o.2.2.1 o.2.2.2 s with
      | none => .error causeStackedUncorrectable
      | some s1 => sendOuts e j xs s1

/-- A barrier of the job has completed: its result has been written (R328). -/
def barrierDone (j : Job) (s : State) : Bool :=
  match Tbl.look s.fabric.reductions (reduceKey (jFabricCtx j.desc) 4095) with
  | some r => r.barrier && r.written.length == r.segments
  | none => false

/-- The barrier is finished with. -/
def dropBarrier (j : Job) (s : State) : State :=
  { s with fabric := { s.fabric with reductions := Tbl.del s.fabric.reductions (reduceKey (jFabricCtx j.desc) 4095) } }

/-! Phase ends and barriers (R159, R161, R223). -/

/-- The phase that follows: none where the tiles disagree. -/
def nextPhaseOf (j : Job) (s : State) : Option Nat :=
  let named := (List.range Config.tiles).filterMap (fun t => (tileOf t s).nextPhase)
  match named with
  | [] => some (j.phase + 1)
  | n :: ns => if ns.all (· == n) then some n else none

/-- The phase of the owner has ended (R223). -/
def phaseEnd (e : Nat) (j : Job) (s : State) : State :=
  match phaseEntry j j.phase s with
  | (none, s1) => raiseFault causeStackedUncorrectable 0 true 0 0 7 s1
  | (some pe, s1) =>
    if peLast pe then schedule (endJob e 0x00 0 s1)
    else
      match nextPhaseOf j s1 with
      | none => raiseFault causeBarrierMismatch 0 true 0 0 7 s1
      | some n =>
        if jPhaseCount j.desc ≤ n then raiseFault causeBarrierMismatch 0 true 0 0 7 s1
        else
          let kept := s1.tensor.region.active
          let s2 := freeComplex (windowsEnd .switch (mergeIeee e s1))
          let s3 := modJob e (fun k => { k with flagImage := [] }) s2
          let s4 := if peExchange pe = 0 then readyInPhase e n kept s3
                    else enterExchange e ((jobOf e s3).getD j) (peExchange pe) n kept s3
          schedule s4

/-- What holds a tile, as R161 compares it: a STEP barrier, a Waypoint with its lr_index, or none. -/
def barrierOf (x : Tile) : Option Nat :=
  match x.hold with
  | .barrierStep => some 0
  | .barrierWaypoint lr => some (lr + 1)
  | _ => none

/-- Look at the barriers after a tile has drained: a phase end, a Waypoint reached, or a mismatch. -/
def checkBarriers (s : State) : State :=
  match ownerJob s with
  | none => s
  | some (e, j) =>
    let tiles := (List.range Config.tiles).map (fun t => (t, tileOf t s))
    let inPhase := tiles.filter (fun p => !p.2.left)
    if inPhase.isEmpty then (if tiles.all (fun p => p.2.hold == .ended) then phaseEnd e j s else s)
    else if !inPhase.all (fun p => (barrierOf p.2).isSome) then s
    else
      match inPhase with
      | [] => s
      | p :: ps =>
        if !ps.all (fun q => barrierOf q.2 == barrierOf p.2) then
          raiseFault causeBarrierMismatch p.1 false (if barrierOf p.2 == some 0 then 5 else 6) p.2.holdWord 7 s
        else match barrierOf p.2 with
          | some (lr + 1) =>
            if !tiles.all (fun q => !q.2.left || q.2.hold == .ended) then s
            else
              let s1 := noteGap e lr s
              if s1.embed.bound == some e && s1.embed.model.boundaryLr == lr then
                setEmbed { s1.embed with boundary := .due } s1
              else waypointDecision e s1
          | _ => s

/-- A drain of the whole device reaches a job (R229). -/
def drainJob (e : Nat) (s : State) : State :=
  match jobOf e s with
  | none => s
  | some j =>
    let s1 := modJob e (fun k => { k with drainPending := true }) s
    match j.state with
    | .running => requestLeave e .drain s1
    | .saving => s1
    | .restoring => s1
    | .exchanging => s1
    | .ready => endJob e 0x31 0 (writeHeader j true true s1)
    | .suspended => endJob e 0x31 0 (writeHeader j true (!j.hasWp) s1)
    | _ => endJob e 0x31 0 (writeHeader j true false s1)

/-- Every admitted job is drained. -/
def drainJobs (s : State) : State := (s.tensor.jobs.map (·.1)).foldl (fun acc e => drainJob e acc) s

end Sys2Proof.Machine
end

