-- ==== Sys2Proof/Machine/JobCmds.lean ====
section
/-! DEFINITION. The family of job commands: drains and barriers, the JOB ring, the scheduler's timers, switches and
exchanges (chapter 07, R144, R189, R190). -/

namespace Sys2Proof.Machine

/-! Drains and barriers. -/

/-- TILE_DRAIN_COMPLETE (R144, R159, R161): the drain that holds the dispatcher ends. -/
def execTileDrainComplete (tile : Fin 128) (s : State) : Host.Outcome State Fault Refusal :=
  let t := tile.val
  let x := tileOf t s
  if !running s || !x.drained then .next s
  else
    let sig := x.holdSig.toList.map (fun g => (g, 1))
    match x.hold with
    | .drain .fence => .next (continueWord t (raiseSigs t sig (setTile t { x with hold := .none } s)))
    | .drain .step => .next (checkBarriers (setTile t { x with hold := .barrierStep } s))
    | .drain .phase => .next (checkBarriers (raiseSigs t sig (setTile t { x with hold := .ended, cur := none } s)))
    | .drain .ending => .next (checkBarriers (raiseSigs t sig (setTile t { x with hold := .ended, cur := none } s)))
    | .drain (.waypoint lr) => .next (checkBarriers (setTile t { x with hold := .barrierWaypoint lr } s))
    | _ => .next s

/-- Every tile still in the phase holds STEP. -/
def allAtStep (s : State) : Bool :=
  let tiles := (List.range Config.tiles).map (fun t => tileOf t s)
  tiles.any (fun x => x.hold == .barrierStep) && tiles.all (fun x => x.left || x.hold == .barrierStep)

/-- STEP_BARRIER_END (R190): 8 cycles after the last tile holds STEP the boundary falls, or waits. -/
def execStepBarrierEnd (s : State) : Host.Outcome State Fault Refusal :=
  if running s && allAtStep s && !s.tensor.region.waits then .next (boundaryDue s) else .next s

/-- STEP_SET_LOAD_COMPLETE (R189): the next set has been read; a boundary that waited for it goes on. -/
def execStepSetLoadComplete (s : State) : Host.Outcome State Fault Refusal :=
  match ownerJob s with
  | none => .next s
  | some (_, j) =>
    let r := s.tensor.region
    if !running s || r.next != .loading || r.left = 0 then .next s
    else
      let p := readSetNo j (r.idx + 1) s
      let s1 := { p.2 with tensor := { p.2.tensor with region := { r with next := nextOf p.1 (r.idx + 1) } } }
      .next (if r.waits then boundaryDue s1 else s1)

/-! The JOB ring (R204 to R206). -/

/-- A job admitted on a descriptor, before its place is known. -/
def newJob (d : BitVec 1024) (t : Task) (cq : Nat) (signed : List (Nat × Nat × Nat)) : Job :=
  { tag := jTag d, desc := d, cq := cq, sq := t.sq, cmdTag := dTag t.desc, opcode := dOpcode t.desc, state := .ready, phase := 0,
    hasWp := false, lr := 0, stepIdx := 0, stepLeft := 0, workPending := false, urgent := false, urgentOrder := 0, waitOrder := 0,
    sliceOver := false, leave := none, yieldDecided := false, suspendTrs := [], suspendPending := false, abortTrs := [],
    abortPending := false, drainPending := false, window := none, mapped := false, heldFlags := [], flagImage := [],
    signed := signed, signedLogged := false, exchange := none, stop := none, lastSet := [], ieee := 0, cycles := 0, startAt := 0,
    leaves := 0, promotions := 0, lateCount := 0, longestGap := 0, longGaps := 0, flagsSaved := 0, refused := 0, stepLoad := 0,
    stallPriority := 0, stallBusy := 0, stallRetry := 0, stallQueue := 0, root := 0, admitOrder := 0 }

/-- Checks that a command adds after check 3: a status, or none. -/
abbrev ExtraCheck := BitVec 1024 → State → Option Nat × State

/-- The submission checks 1 to 7 (R205): the status of the first that fails, or the descriptor, the save header of a resumed
job and the signed ranges. -/
def submitCheck (addr : Nat) (lib : LibVerdict) (extra : ExtraCheck) (s : State) :
    Except Nat (BitVec 1024 × Nat × List (Nat × Nat × Nat)) × State :=
  if s.boot.dev != .ready then (.error 0x03, s)
  else match readNat addr 128 s with
    | (none, s1) => (.error 0x11, s1)
    | (some v, s1) =>
      let d := BitVec.ofNat 1024 v
      if !isCompl 8 (jClass d) (jClassN d) then (.error 0x04, s1)
      else if !descFieldsOk d s1 then (.error 0x01, s1)
      else match extra d s1 with
        | (some st, s2) => (.error st, s2)
        | (none, s2) =>
          match checkLr d (jLrCount d) 0 0 s2 with
          | (.lost, s3) => (.error 0x11, s3)
          | (.bad, s3) => (.error 0x01, s3)
          | (.ok big, s3) =>
            if jSavePages d < 17 + pagesUp big then (.error 0x01, s3)
            else
              let h := if jResume d then readNat (jSaveArea d) 64 s3 else (some 0, s3)
              match h with
              | (none, s4) => (.error 0x11, s4)
              | (some hv, s4) =>
                if jResume d && (bits hv 31 0 != jTag d || !bit hv 40) then (.error 0x01, s4)
                else match libraryCheck d lib s4 with
                  | (.lost, s5) => (.error 0x11, s5)
                  | (.bad, s5) => (.error 0x41, s5)
                  | (.ok ranges, s5) => (.ok (d, hv, ranges), s5)

/-- Windows in use. -/
def windowsUsed (s : State) : List Nat := s.tensor.jobs.filterMap (fun p => p.2.window)

/-- Check 8 and the admission (R196, R205, R206): the job's entry, or the status. -/
def admitJob (tr : Nat) (t : Task) (d : BitVec 1024) (hv : Nat) (signed : List (Nat × Nat × Nat)) (s : State) : Except Nat (Nat × State) :=
  let entry := Tbl.freeKey s.tensor.jobs 8 56
  let window := (List.range Config.windows).find? (fun w => !(windowsUsed s).contains w)
  let cq := ((Tbl.look s.rings.sqs t.sq).map (·.cq)).getD 0
  if Config.reservable < standingTotal s + jResvSlots d then .error 0x21
  else if jFabric d && window.isNone then .error 0x21
  else match entry with
    | none => .error 0x21
    | some e =>
      let o := nextOrder s
      let j0 := { newJob d t cq signed with window := if jFabric d then window else none, admitOrder := o.1 }
      let saved := jResume d && !bit hv 43
      let j :=
        if saved then { j0 with state := .waiting, phase := bits hv 39 32, hasWp := true, lr := bits hv 63 48, stepIdx := bits hv 95 64,
                                stepLeft := bits hv 127 96 }
        else if jResume d then { j0 with phase := bits hv 39 32, mapped := jFabric d && bits hv 39 32 != 0 }
        else j0
      let s1 := { o.2 with tensor := { o.2.tensor with remembered := o.2.tensor.remembered.filter (fun r => r.tag != jTag d) } }
      let s2 := becomeEligible e j.state (setJob e j s1)
      .ok (e, complete tr 0 e 0 s2)

/-- JOB_SUBMIT (R204 to R206). -/
def execJobSubmit (tr : Nat) (lib : LibVerdict) (s : State) : Host.Outcome State Fault Refusal :=
  match readyTask tr 0x50 s with
  | none => .next s
  | some t =>
    match submitCheck (dPtr0 t.desc) lib (fun _ x => (none, x)) s with
    | (.error st, s1) => .next (fail tr st s1)
    | (.ok (d, hv, signed), s1) =>
      match admitJob tr t d hv signed s1 with
      | .error st => .next (fail tr st s1)
      | .ok (_, s2) => .next (schedule s2)

/-- job_tag of a JOB command. -/
def cmdJobTag (t : Task) : Nat := dParam t.desc 351 320

/-- Run `f` on the admitted job that a command names; a remembered one is ILLEGAL_IN_STATE, any other tag INVALID_FIELD
(R204). -/
def withJob (tr : Nat) (t : Task) (f : Nat → Job → State) (s : State) : State :=
  match findJob (cmdJobTag t) s with
  | some (e, j) => f e j
  | none => fail tr (if s.tensor.remembered.any (fun r => r.tag == cmdJobTag t) then 0x03 else 0x01) s

/-- JOB_ABORT (R204, R228). -/
def execJobAbort (tr : Nat) (s : State) : Host.Outcome State Fault Refusal :=
  match readyTask tr 0x51 s with
  | none => .next s
  | some t =>
    .next (withJob tr t (fun e j =>
      let s1 := modJob e (fun k => { k with abortTrs := k.abortTrs ++ [tr] }) (setPhase tr .running s)
      match j.state with
      | .running => raiseFault causeAbort 0 true 0 0 7 s1
      | .saving => modJob e (fun k => { k with abortPending := true }) s1
      | .restoring => modJob e (fun k => { k with abortPending := true }) s1
      | _ => endJob e 0x32 causeAbort s1) s)

/-- A job leaves IDLE because its work-pending bit is set (R207, R210). -/
def wake (e : Nat) (s : State) : State :=
  match jobOf e s with
  | some j => if j.state == .idle then schedule (becomeEligible e (if j.mapped then .parked else .waiting) s) else s
  | none => s

/-- Set the work-pending bit of a job (R210). -/
def setWork (e : Nat) (s : State) : State := wake e (modJob e (fun k => { k with workPending := true }) s)

/-- JOB_KICK (R204, R210). -/
def execJobKick (tr : Nat) (s : State) : Host.Outcome State Fault Refusal :=
  match readyTask tr 0x52 s with
  | none => .next s
  | some t => .next (withJob tr t (fun e _ => setWork e (complete tr 0 0 0 s)) s)

/-- JOB_SUSPEND (R204, R214). -/
def execJobSuspend (tr : Nat) (s : State) : Host.Outcome State Fault Refusal :=
  match readyTask tr 0x53 s with
  | none => .next s
  | some t =>
    .next (withJob tr t (fun e j =>
      let pending := modJob e (fun k => { k with suspendPending := true, suspendTrs := k.suspendTrs ++ [tr] }) (setPhase tr .running s)
      match j.state with
      | .suspended => fail tr 0x03 s
      | .running => requestLeave e .suspend pending
      | .saving => pending
      | .restoring => pending
      | .exchanging => pending
      | _ => complete tr 0 0 0 (modJob e (fun k => { k with state := .suspended }) s)) s)

/-- JOB_RESUME (R204, R207). -/
def execJobResume (tr : Nat) (s : State) : Host.Outcome State Fault Refusal :=
  match readyTask tr 0x54 s with
  | none => .next s
  | some t =>
    .next (withJob tr t (fun e j =>
      if j.state != .suspended then fail tr 0x03 s
      else
        let st : JobState := if !j.hasWp then .ready else if j.mapped then .parked else .waiting
        schedule (becomeEligible e st (complete tr 0 0 0 s))) s)

/-- JOB_QUERY (R204). -/
def execJobQuery (tr : Nat) (s : State) : Host.Outcome State Fault Refusal :=
  match readyTask tr 0x55 s with
  | none => .next s
  | some t =>
    match findJob (cmdJobTag t) s, s.tensor.remembered.find? (fun r => r.tag == cmdJobTag t) with
    | some (_, j), _ => .next (complete tr 0 (stateCode j.state + j.phase * 2 ^ 8) 0 s)
    | none, some r => .next (complete tr 0 (9 + r.phase * 2 ^ 8) 0 s)
    | none, none => .next (fail tr 0x01 s)

/-! The scheduler's timers (R209, R211, R217). -/

/-- SLICE_EXPIRY (R209): a best-effort owner has run for slice_ms. -/
def execSliceExpiry (s : State) : Host.Outcome State Fault Refusal :=
  match ownerJob s with
  | some (e, j) =>
    if j.state == .running && jClass j.desc == 2 then .next (schedule (modJob e (fun k => { k with sliceOver := true }) s)) else .next s
  | none => .next s

/-- STARVATION_PROMOTION (R211): a best-effort job that has waited longer than starve_ms becomes urgent. -/
def execStarvationPromotion (jobTag : W32) (s : State) : Host.Outcome State Fault Refusal :=
  match findJob jobTag.toNat s with
  | some (e, j) =>
    if eligible j && jClass j.desc == 2 && !j.urgent then
      let o := nextOrder s
      let s1 := modJob e (fun k => { k with urgent := true, urgentOrder := o.1, promotions := satAdd 32 k.promotions 1 }) o.2
      .next (schedule (logEvent .jobPromoted 0 s1))
    else .next s
  | none => .next s

/-- URGENT_QUANTUM_END (R211): the owner loses its urgency, and a request is raised against it. -/
def execUrgentQuantumEnd (s : State) : Host.Outcome State Fault Refusal :=
  match ownerJob s with
  | some (e, j) =>
    if j.state == .running && j.urgent then
      let s1 := modJob e (fun k => { k with urgent := false }) s
      .next (schedule { s1 with tensor := { s1.tensor with request := true } })
    else .next s
  | none => .next s

/-- PREEMPT_LATE (R217): a request has been pending for preempt_timeout_ms. -/
def execPreemptLate (s : State) : Host.Outcome State Fault Refusal :=
  match ownerJob s with
  | some (e, j) =>
    if s.tensor.request && !s.tensor.late && j.state == .running then
      let s1 := modJob e (fun k => { k with lateCount := satAdd 32 k.lateCount 1 }) s
      .next (logEvent .preemptLate 0 { s1 with tensor := { s1.tensor with late := true } })
    else .next s
  | none => .next s

/-! Switches (R214, R216, R219). -/

/-- The state after a save, and the window (R214). -/
def afterSave (j : Job) (remote : Bool) : JobState :=
  if j.suspendPending then .suspended
  else if j.yieldDecided && !j.workPending then .idle
  else if remote then .parked else .waiting

/-- JOB_SAVE_COMPLETE (R213, R214, R219): header, blocks and ranges are in the save area, held FLAG_SETs are applied, the
job takes its state, and the complex goes to the next owner. -/
def execJobSaveComplete (s : State) : Host.Outcome State Fault Refusal :=
  match ownerJob s with
  | none => .next s
  | some (e, j) =>
    if j.state != .saving then .next s
    else match lrDescriptor j j.lr s with
      | (none, s1) => .next (endJob e 0x11 causeStackedUncorrectable s1)
      | (some d, s1) =>
        match lrRanges d s1 with
        | (none, s2) => .next (endJob e 0x11 causeStackedUncorrectable s2)
        | (some ranges, s2) =>
          let s3 := saveJob e j ranges s2
          let p := addSavedAll j.heldFlags (Tbl.lookD s3.tensor.saves (jSaveArea j.desc) [])
          let s4 := modJob e (fun k => { k with heldFlags := [], flagsSaved := satAdd 32 k.flagsSaved k.heldFlags.length }) (setSaves j p.1 s3)
          let remote := lrRemote d && j.leave != some .d3hot
          let st := afterSave j remote
          let taken := j.yieldDecided && j.workPending && !j.suspendPending
          let s5 := modJob e (fun k => { k with mapped := remote, workPending := if taken then false else k.workPending, leave := none }) s4
          let j5 := (jobOf e s5).getD j
          let s6 := writeHeader j5 true false s5
          if j.abortPending then .next (endJob e 0x32 causeAbort s6)
          else if p.2 then .next (failJob e causeFlagOverflow 0 s6)
          else if j.drainPending then .next (endJob e 0x31 0 s6)
          else
            let s7 := writeStatus j5 0 (stateCode st) 0 s6
            let s8 := modJob e (fun k => { k with suspendPending := false, suspendTrs := [] }) s7
            let s9 := completeAll (if j.suspendPending then j.suspendTrs else []) 0 s8
            let s10 :=
              if st == .waiting || st == .parked then becomeEligible e st s9 else modJob e (fun k => { k with state := st }) s9
            let s11 := handOver none { s10 with tensor := { s10.tensor with
              owner := none, switch := .none, tiles := [], landings := [], caravans := [], region := RegionTable.empty } }
            .next (pickOwner s11)

/-- SWITCH_CLEAR_COMPLETE (R216, R223): tile and shared memory are zero; the reservation has been handed over first. -/
def execSwitchClearComplete (s : State) : Host.Outcome State Fault Refusal :=
  if s.tensor.switch == .clearing && s.mem.activeJob == s.tensor.owner && s.mem.nextActive.isNone then
    .next { s with tensor := { s.tensor with tiles := [], switch := .loading }, mem := { s.mem with shared := [] } }
  else .next s

/-- SWITCH_TABLE_LOAD_COMPLETE (R216, R222): the incoming job's tables are loaded; a phase start leaves out the restore. -/
def execSwitchTableLoadComplete (s : State) : Host.Outcome State Fault Refusal :=
  match ownerJob s with
  | none => .next s
  | some (e, j) =>
    if s.tensor.switch != .loading then .next s
    else match loadTables e j s with
      | .error c => .next (failJob e c 0 s)
      | .ok s1 =>
        let s2 := { s1 with tensor := { s1.tensor with switch := .restoring } }
        if !j.hasWp && sweepClear s2 then .next (enterRunning e s2) else .next s2

/-- JOB_RESTORE_COMPLETE (R213, R214, R216): the ranges are back, flags cleared, and the job runs at its Waypoint word. -/
def execJobRestoreComplete (s : State) : Host.Outcome State Fault Refusal :=
  match ownerJob s with
  | none => .next s
  | some (e, j) =>
    if s.tensor.switch != .restoring || !sweepClear s then .next s
    else if !j.hasWp then .next (enterRunning e s)
    else match lrDescriptor j j.lr s with
      | (none, s1) => .next (failJob e causeStackedUncorrectable 0 s1)
      | (some d, s1) =>
        match lrRanges d s1 with
        | (none, s2) => .next (failJob e causeStackedUncorrectable 0 s2)
        | (some ranges, s2) =>
          match restoreRanges ranges (jSaveArea j.desc + 0x11000) s2 with
          | none => .next (failJob e causeStackedUncorrectable 0 s2)
          | some s3 => .next (enterRunning e s3)

/-! Exchanges (R226, R227). -/

/-- The job of a tag that is in a stage of its exchange. -/
def exchanging (tag : W32) (st : XStage) (s : State) : Option (Nat × Job × Exchange) :=
  match findJob tag.toNat s with
  | some (e, j) => match j.exchange with
    | some x => if j.state == .exchanging && x.stage == st then some (e, j, x) else none
    | none => none
  | none => none

/-- Move an exchange to a stage. -/
def setStage (e : Nat) (st : XStage) (s : State) : State :=
  modJob e (fun k => { k with exchange := k.exchange.map (fun x => { x with stage := st }) }) s

/-- EXCHANGE_FIRST_BARRIER_DONE (R226): the out entries go out. -/
def execExchangeFirstBarrierDone (jobTag : W32) (s : State) : Host.Outcome State Fault Refusal :=
  match exchanging jobTag .barrier1 s with
  | none => .next s
  | some (e, j, _) =>
    if !barrierDone j s then .next s
    else
      let s1 := setStage e .sending (dropBarrier j s)
      match phaseEntry j j.phase s1 with
      | (none, s2) => .next (failJob e causeStackedUncorrectable 0 s2)
      | (some pe, s2) =>
        match readExchange j (peExchange pe) s2 with
        | (.ok (_, _, outs), s3) =>
          match sendOuts e j outs s3 with
          | .ok s4 => .next s4
          | .error c => .next (failJob e c 0 s3)
        | (.lost, s3) => .next (failJob e causeStackedUncorrectable 0 s3)
        | (.bad, s3) => .next (failJob e causeExchange 0 s3)

/-- EXCHANGE_LANDED (R226): every parcel is acknowledged and in_bytes have landed; the second barrier follows. -/
def execExchangeLanded (jobTag : W32) (s : State) : Host.Outcome State Fault Refusal :=
  match exchanging jobTag .sending s with
  | none => .next s
  | some (e, _, x) => if x.outstanding = 0 && x.inBytes ≤ x.landed then .next (issueBarrier e (setStage e .barrier2 s)) else .next s

/-- EXCHANGE_COMPLETE (R226): the job becomes READY in the next phase. -/
def execExchangeComplete (jobTag : W32) (s : State) : Host.Outcome State Fault Refusal :=
  match exchanging jobTag .barrier2 s with
  | none => .next s
  | some (e, j, x) => if barrierDone j s then .next (schedule (readyInPhase e x.next x.kept (dropBarrier j s))) else .next s

/-- EXCHANGE_TIMEOUT (R226): a barrier or the landing wait has lasted longer than wait_timeout. -/
def execExchangeTimeout (jobTag : W32) (s : State) : Host.Outcome State Fault Refusal :=
  match findJob jobTag.toNat s with
  | some (e, j) => if j.state == .exchanging then .next (failJob e causeWaitTimeout 0 s) else .next s
  | none => .next s

/-! The end of a stopped owner (R163). -/

/-- What a tile has started has run to its end. -/
def quiet (c : Tbl Caravan) (x : Tile) : Bool :=
  let alone := fun (q : QEntry) =>
    !q.null && (sOp q.slot == 2 || sOp q.slot == 3) && !((Tbl.look c (pGroup q.slot)).map (·.running)).getD false
  x.grids.isEmpty && x.vec.isNone && x.pin.all (fun q => q.done || alone q) && x.pout.all (fun q => q.done)

/-- JOB_END (R163, R228): the owner has stopped and its started operations have ended. -/
def execJobEnd (jobTag : W32) (s : State) : Host.Outcome State Fault Refusal :=
  match ownerJob s with
  | none => .next s
  | some (e, j) =>
    match j.stop with
    | none => .next s
    | some r =>
      if j.tag != jobTag.toNat || !s.tensor.tiles.all (fun p => quiet s.tensor.caravans p.2) then .next s
      else .next (endJob e r.status r.cause s)

end Sys2Proof.Machine
end

