-- ==== Sys2Proof/Machine/Parcels.lean ====
section
/-! DEFINITION. The family of parcels at their destination (R317 to R329). What goes to Ralid is in Ralid.lean, and the
responses too, since a query may wait for them. -/

namespace Sys2Proof.Machine

/-! Taking a parcel. -/

/-- The parcel at the head of a port's receive buffer, when it is of an operation. -/
def headParcel (n op : Nat) (s : State) : Option Parcel :=
  match (portOf n s).inbox with
  | p :: _ => if phOp p = op then some p else none
  | [] => none

/-- The parcel has been handled. -/
def dropParcel (n : Nat) (s : State) : State := modPort n (fun q => { q with inbox := q.inbox.drop 1 }) s

/-- The job whose mapped window a context names: of several, the one admitted first (R319). -/
def windowJob (ctx : Nat) (s : State) : Option (Nat × Job) :=
  (s.tensor.jobs.filter (fun p => p.2.window.isSome && p.2.mapped && jFabricCtx p.2.desc == ctx)).foldl (fun best p =>
    match best with
    | none => some p
    | some b => if p.2.admitOrder < b.2.admitOrder then some p else some b) none

/-- A parcel for a window that is not mapped is counted (R220). -/
def countUnmapped (n ctx : Nat) (s : State) : State :=
  let s1 := bump 4 n 10 1 s
  match s1.tensor.jobs.find? (fun p => p.2.window.isSome && jFabricCtx p.2.desc == ctx) with
  | some (e, _) => modJob e (fun j => { j with refused := satAdd 32 j.refused 1 }) s1
  | none => s1

/-- Fields that every request of R319 has: format code, response code, reserved bits, payload as announced. -/
def commonFieldsOk (p : Parcel) : Bool :=
  let op := phOp p
  (decide (phFmt p ≤ 1) && (phFmt p == 0 || op == 3 || op == 5 || op == 6)) && phRsp p == 0 && phBits p 63 0 == 0
    && phWords p == p.payload.length && decide (phWords p ≤ 512)

/-- The step set that parcels for a job are checked against (R188). -/
def setFor (e : Nat) (j : Job) (s : State) : List Region :=
  if s.tensor.owner == some e && (j.state == .running || j.state == .saving) then s.tensor.region.active else j.lastSet

/-- Every page of a range allows a fabric access to a job (R186 to R188). -/
def parcelAllowed (e : Nat) (j : Job) (write : Bool) (a n : Nat) (s : State) : Bool :=
  (pagesOf a n).all (fun p => pageInSet (setFor e j s) write p
    || (!write && s.tensor.owner == some e && inItinerary j p s))

/-- Refuse the parcel at the head of a port. -/
def refuse (n : Nat) (p : Parcel) (code : Nat) (s : State) : State := answer p code (dropParcel n s)

/-- Run the checks of R319 on a data request of a job and perform it: `ok` are the fields particular to it, `len` its bytes,
`perform` its effect, which answers. A range that the host may hold is snooped first (R383). -/
def dataRequest (n : Nat) (p : Parcel) (ok write : Bool) (len : Nat) (perform : Nat → Job → State → State) (s : State) : State :=
  if !ok || !commonFieldsOk p || phCtx p = 0 then refuse n p 6 s
  else match windowJob (phCtx p) s with
    | none => refuse n p 1 (countUnmapped n (phCtx p) s)
    | some (e, j) =>
      if !inJobArea (phAddr p) len s then refuse n p 2 s
      else if !parcelAllowed e j write (phAddr p) len s then failJob e causeRegionMode 0 (refuse n p 3 s)
      else
        let c := hostClear write [(phAddr p, len)] s
        if !c.1 then c.2 else perform e j (dropParcel n s)

/-- Bytes that land for an exchange count towards in_bytes (R226). -/
def countLanded (e len : Nat) (s : State) : State :=
  modJob e (fun j => { j with exchange := j.exchange.map (fun x => { x with landed := x.landed + len }) }) s

/-- PUT (R317, R319): the data is written, then answered OK. -/
def execPut (port : Fin 16) (s : State) : Host.Outcome State Fault Refusal :=
  let n := port.val
  match headParcel n 1 s with
  | none => .next s
  | some p =>
    let len := 8 * p.payload.length
    .next (dataRequest n p (phWords p != 0 && phAddr p % 64 == 0 && phSpec p == 0) true len (fun e _ x =>
      answer p 0 (countLanded e len (putStacked (phAddr p) (bytesOf p.payload) x))) s)

/-- GET (R317, R319): the data goes back as GET_DATA. A source that is uncorrectable is answered DATA_RETRY, and the job whose
data it is faults (log 23). -/
def execGet (port : Fin 16) (s : State) : Host.Outcome State Fault Refusal :=
  let n := port.val
  match headParcel n 2 s with
  | none => .next s
  | some p =>
    let words := phBits p 141 132
    let ok := phWords p == 0 && decide (1 ≤ words) && decide (words ≤ 512) && phBits p 131 72 == 0 && phAddr p % 64 == 0
    .next (dataRequest n p ok false (8 * words) (fun e _ x =>
      match readStacked (phAddr p) (8 * words) x with
      | (.error _, y) => failJob e causeStackedUncorrectable 0 (answer p 4 y)
      | (.ok b, y) => sendParcel (mkParcel 0xA (phSrc p) 0 false 0 (phTag p) 0 0 0 (wordsOf b) y) y) s)

/-- ADD (R318, R319): each element is added in place. -/
def execAdd (port : Fin 16) (s : State) : Host.Outcome State Fault Refusal :=
  let n := port.val
  match headParcel n 3 s with
  | none => .next s
  | some p =>
    let len := 8 * p.payload.length
    .next (dataRequest n p (phWords p != 0 && phAddr p % 64 == 0 && phSpec p == 0) true len (fun e _ x =>
      match readStacked (phAddr p) len x with
      | (.error _, y) => failJob e causeStackedUncorrectable 0 (answer p 4 y)
      | (.ok b, y) => answer p 0 (putStacked (phAddr p) (bytesOf (sumWords (phFmt p) (wordsOf b) p.payload)) y)) s)

/-! FLAG_SET (R141, R218, R219). -/

/-- A FLAG_SET after the stop cycle is dropped and counted (R163, R320). -/
def dropFlag (e : Nat) (j : Job) (s : State) : State :=
  match j.stop with
  | none => s
  | some r =>
    let r2 := { r with dropped := r.dropped + 1 }
    putStacked (jDiag j.desc + 0x1000) (leBytes 64 (snapshotHeader j r2)) (setJob e { j with stop := some r2 } s)

/-- A FLAG_SET lands for a job according to its state; none while it has to wait (R219). -/
def flagLands (e : Nat) (j : Job) (f : FlagSetOp) (s : State) : Option State :=
  match j.state with
  | .running => some (if j.stop.isSome then dropFlag e j s else landFlag f s)
  | .saving => if j.heldFlags.length < Config.heldFlagSets then some (setJob e { j with heldFlags := j.heldFlags ++ [f] } s) else none
  | .restoring => if j.heldFlags.length < Config.heldFlagSets then some (setJob e { j with heldFlags := j.heldFlags ++ [f] } s) else none
  | _ =>
    if j.hasWp then
      match addSaved (Tbl.lookD s.tensor.saves (jSaveArea j.desc) []) f with
      | some t => some (setSaves j t (setJob e { j with flagsSaved := satAdd 32 j.flagsSaved 1 } s))
      | none => some (failJob e causeFlagOverflow f.tile s)
    else
      let k := f.tile * 64 + f.flag
      let v := Tbl.lookD j.flagImage k 0 + f.n
      if 255 < v then some (failJob e causeFlagOverflow f.tile s)
      else some (setJob e { j with flagImage := Tbl.put j.flagImage k v, flagsSaved := satAdd 32 j.flagsSaved 1 } s)

/-- FLAG_SET (R141, R218 to R220). -/
def execFlagSet (port : Fin 16) (s : State) : Host.Outcome State Fault Refusal :=
  let n := port.val
  match headParcel n 4 s with
  | none => .next s
  | some p =>
    let f : FlagSetOp := { tile := phBits p 141 135, flag := phBits p 134 129, n := phBits p 128 125 }
    if !commonFieldsOk p || phWords p != 0 || f.n = 0 || phBits p 124 72 != 0 || phCtx p = 0 then .next (refuse n p 6 s)
    else match windowJob (phCtx p) s with
      | none => .next (refuse n p 1 (countUnmapped n (phCtx p) s))
      | some (e, j) =>
        match flagLands e j f (dropParcel n s) with
        | some s1 => .next (answer p 0 s1)
        | none => .next s

/-! REDUCE (R326 to R329). -/

def rpId (p : Parcel) : Nat := phBits p 141 130
def rpRoot (p : Parcel) : Nat := phBits p 129 118
def rpSegment (p : Parcel) : Nat := phBits p 117 108

/-- The fields of a REDUCE parcel. -/
def reduceFieldsOk (p : Parcel) : Bool :=
  commonFieldsOk p && phWords p != 0 && decide (rpSegment p ≤ 767) && phBits p 107 72 == 0 && phCtx p != 0

/-- The reserved opspec of a REDUCE parcel. -/
def reduceSpec (rid root seg : Nat) : Nat := rid * 2 ^ 58 + root * 2 ^ 46 + seg * 2 ^ 36

/-- A mismatch ends the job that the reduction belongs to (R326). -/
def reduceFault (r : Reduction) (e : Nat) (s : State) : State := failJob e causeReduceMismatch (if r.barrier then 0 else r.owner) s

/-- REDUCE_UP (R326, R327, R329): a child's partial is answered on receipt and held. -/
def execReduceUp (port : Fin 16) (s : State) : Host.Outcome State Fault Refusal :=
  let n := port.val
  match headParcel n 5 s with
  | none => .next s
  | some p =>
    if !reduceFieldsOk p then .next (refuse n p 6 s)
    else match windowJob (phCtx p) s with
      | none => .next (refuse n p 1 (countUnmapped n (phCtx p) s))
      | some (e, _) =>
        let key := reduceKey (phCtx p) (rpId p)
        let c : Contribution := { src := phSrc p, root := rpRoot p, fmt := phFmt p, segment := rpSegment p, payload := p.payload }
        let s1 := answer p 0 (dropParcel n s)
        let s2 := { s1 with fabric := { s1.fabric with held := Tbl.put s1.fabric.held key (heldOf key s1 ++ [c]) } }
        match Tbl.look s2.fabric.reductions key with
        | some r => .next (if heldBad r key s2 then reduceFault r e s2 else s2)
        | none => .next s2

/-- Insert a value by device ID. -/
def insertById (c : Nat × List W64) : List (Nat × List W64) → List (Nat × List W64)
  | [] => [c]
  | d :: ds => if c.1 < d.1 then c :: d :: ds else d :: insertById c ds

/-- Combine values in ascending order of device ID (R327). -/
def combine (fmt : Nat) (vs : List (Nat × List W64)) : List W64 :=
  match vs.foldl (fun acc v => insertById v acc) [] with
  | [] => []
  | v :: rest => rest.foldl (fun acc w => sumWords fmt acc w.2) v.2

/-- Contributions held for one segment. -/
def segmentHeld (key seg : Nat) (s : State) : List Contribution := (heldOf key s).filter (fun c => c.segment == seg)

/-- The slot of a reduction has one segment less to wait for. -/
def reduceProgress (r : Reduction) (s : State) : State :=
  if r.barrier then s
  else match (tileOf r.owner s).pout.find? (fun q => !q.null && sOp q.slot == 5 && rdId q.slot == r.rid && !q.done) with
    | none => s
    | some q => modEntry r.owner false q.id (fun x => { x with left := x.left - 1, done := decide (x.left ≤ 1) }) s

/-- The result of a segment is known: it is written, sent to the children, and the slot goes on (R327, R328). -/
def finishSegment (key : Nat) (r : Reduction) (seg : Nat) (result : List W64) (s : State) : State :=
  let kids := (segmentHeld key seg s).map (·.src)
  let s1 := match r.dest with
    | some a => putStacked (a + 4096 * seg) (bytesOf result) s
    | none => s
  let s2 := kids.foldl (fun acc d =>
    sendRequest 6 d r.ctx false r.fmt 0 (reduceSpec r.rid r.root seg) result (.reduce key) acc) s1
  let r1 := { r with written := r.written ++ [seg] }
  let whole := r1.written.length == r1.segments
  let s3 := { s2 with fabric := { s2.fabric with
    reductions := if whole && !r.barrier then Tbl.del s2.fabric.reductions key else Tbl.put s2.fabric.reductions key r1
    held := Tbl.put s2.fabric.held key ((heldOf key s2).filter (fun c => c.segment != seg)) } }
  reduceProgress r s3

/-- The job of a reduction. -/
def reduceJob (r : Reduction) (s : State) : Option (Nat × Job) :=
  if r.barrier then (jobOf r.owner s).map (fun j => (r.owner, j)) else ownerJob s

/-- The pages that a segment's result goes to allow it (R186, R188). -/
def resultAllowed (r : Reduction) (seg n : Nat) (s : State) : Bool :=
  match r.dest, reduceJob r s with
  | some a, some (e, j) => parcelAllowed e j true (a + 4096 * seg) n s
  | _, _ => true

/-- REDUCE_SEGMENT_COMBINE (R327): with its own contribution and every child's, a member combines a segment: the root has
the result, any other sends it up. -/
def execReduceSegmentCombine (ctx : BitVec 12) (reduceId : BitVec 12) (segment : Nat) (s : State) : Host.Outcome State Fault Refusal :=
  let key := reduceKey ctx.toNat reduceId.toNat
  match Tbl.look s.fabric.reductions key with
  | none => .next s
  | some r =>
    let kids := segmentHeld key segment s
    if r.segments ≤ segment || r.combined.contains segment || kids.length != childrenOf r.root s then .next s
    else
      let partial_ := combine r.fmt ((s.fabric.id, r.own segment) :: kids.map (fun c => (c.src, c.payload)))
      let r1 := { r with combined := r.combined ++ [segment] }
      let s1 := { s with fabric := { s.fabric with reductions := Tbl.put s.fabric.reductions key r1 } }
      if r.root != s.fabric.id then
        .next (sendRequest 5 (rParent (routeOf r.root s)) r.ctx false r.fmt 0 (reduceSpec r.rid r.root segment) partial_ (.reduce key) s1)
      else
        let len := 8 * partial_.length
        let c := match r.dest with
          | some a => hostClear true [(a + 4096 * segment, len)] s
          | none => (true, s)
        if !c.1 then .next c.2
        else if !resultAllowed r segment len s then
          match reduceJob r s with
          | some (e, _) => .next (failJob e causeRegionMode r.owner s1)
          | none => .next s1
        else .next (finishSegment key r1 segment partial_ s1)

/-- REDUCE_DOWN (R327, R328): the result of a segment is written and forwarded to the children. -/
def execReduceDown (port : Fin 16) (s : State) : Host.Outcome State Fault Refusal :=
  let n := port.val
  match headParcel n 6 s with
  | none => .next s
  | some p =>
    if !reduceFieldsOk p then .next (refuse n p 6 s)
    else match windowJob (phCtx p) s with
      | none => .next (refuse n p 1 (countUnmapped n (phCtx p) s))
      | some (e, _) =>
        let key := reduceKey (phCtx p) (rpId p)
        let seg := rpSegment p
        match Tbl.look s.fabric.reductions key with
        | none => .next (refuse n p 6 s)
        | some r =>
          if !r.combined.contains seg || r.written.contains seg || r.root == s.fabric.id || phFmt p != r.fmt
              || p.payload.length != (r.own seg).length then .next (refuse n p 6 s)
          else
            let len := 8 * p.payload.length
            let c := match r.dest with
              | some a => hostClear true [(a + 4096 * seg, len)] s
              | none => (true, s)
            if !c.1 then .next c.2
            else if !resultAllowed r seg len s then .next (failJob e causeRegionMode r.owner (refuse n p 3 s))
            else .next (finishSegment key r seg p.payload (answer p 0 (dropParcel n s)))

/-! Responses (R319 to R321, R324). -/

/-- The cause that a response code gives its sender (Table: Responses). -/
def responseCause (code : Nat) : Nat :=
  match code with
  | 1 => causeRemoteUnmapped
  | 2 => causeRemoteRange
  | 3 => causeRemoteRegion
  | 4 => causeRemoteData
  | 5 => causeFabricPeer
  | _ => causeRemoteField

/-- The outstanding request that a response answers: by source and tag. -/
def matchRequest (p : Parcel) (s : State) : Option FabReq :=
  match Tbl.look s.fabric.reqs (phTag p) with
  | some r => if phDst r.parcel = phSrc p then some r else none
  | none => none

/-- The request is no longer outstanding. -/
def endRequest (tag : Nat) (s : State) : State := { s with fabric := { s.fabric with reqs := Tbl.del s.fabric.reqs tag } }

/-- The reservation entry of the job that a request belongs to. -/
def requestJob (r : FabReq) (s : State) : Option Nat :=
  match r.for_ with
  | .slot _ _ _ _ => s.tensor.owner
  | .exchange e => some e
  | .reduce key => match Tbl.look s.fabric.reductions key with
    | some x => (reduceJob x s).map (·.1)
    | none => (windowJob (key / 4096) s).map (·.1)
  | .query _ _ => none

/-- A request was performed. -/
def requestOk (r : FabReq) (s : State) : State :=
  match r.for_ with
  | .slot t inbound entry _ => modEntry t inbound entry (fun q => { q with left := q.left - 1, done := decide (q.left ≤ 1) }) s
  | .exchange e => modJob e (fun j => { j with exchange := j.exchange.map (fun x => { x with outstanding := x.outstanding - 1 }) }) s
  | _ => s

/-- A request of a job failed (R321): the job stops, and the slot waits for it no longer. -/
def requestFailed (r : FabReq) (cause : Nat) (s : State) : State :=
  match r.for_ with
  | .slot t inbound entry _ =>
    let word := ((((tileOf t s).porter inbound).find? (fun q => q.id == entry)).map (·.word)).getD 0
    requestOk r (raiseFault cause t true 0 word (porterPos inbound) s)
  | _ => match requestJob r s with
    | some e => failJob e cause 0 s
    | none => s

/-- The payload of a resend: the sender reads its source again (R320). -/
def rereadPayload (r : FabReq) (s : State) : List W64 :=
  match r.for_ with
  | .slot t false _ a => wordsOf (tileRead (tileOf t s) a (8 * r.parcel.payload.length))
  | _ => r.parcel.payload

/-- A response to a request of a job: OK, DATA_RETRY with a resend at most twice, or a failure. -/
def respond (tag : Nat) (r : FabReq) (code : Nat) (s : State) : State :=
  if code = 0 then requestOk r (endRequest tag s)
  else if code = 4 && r.resends < 2 then
    let p : Parcel := { r.parcel with payload := rereadPayload r s }
    sendParcel p { s with fabric := { s.fabric with reqs := Tbl.put s.fabric.reqs tag { r with parcel := p, resends := r.resends + 1 } } }
  else requestFailed r (responseCause code) (endRequest tag s)

/-- GET_DATA (R317): the data fills tile memory. One that matches no request is discarded and counted (R319, R324). -/
def execGetData (port : Fin 16) (s : State) : Host.Outcome State Fault Refusal :=
  let n := port.val
  match headParcel n 0xA s with
  | none => .next s
  | some p =>
    let s1 := dropParcel n s
    match matchRequest p s with
    | none => .next (bump 4 n 9 1 s1)
    | some r =>
      match r.for_ with
      | .slot t true _ a =>
        if p.payload.length = phBits r.parcel 141 132 then
          .next (requestOk r (modTile t (fun x => tileWrite x a (bytesOf p.payload)) (endRequest (phTag p) s1)))
        else .next (requestFailed r causeRemoteField (endRequest (phTag p) s1))
      | _ => .next (bump 4 n 9 1 s1)

end Sys2Proof.Machine
end

