-- ==== Sys2Proof/Machine/RalidOps.lean ====
section
/-! DEFINITION. Shared operations of Ralid: index records, distances, walk, re-rank, merge and completion
(chapter 09). -/

namespace Sys2Proof.Machine

def setRalid (r : Ralid) (s : State) : State := { s with ralid := r }

/-! Epochs (R276, R298). -/

/-- An epoch value with its complement. -/
def Epoch.of (e : Nat) : Epoch := { v := e, n := compl 24 e }

/-- Its complement matches. -/
def Epoch.ok (e : Epoch) : Bool := isCompl 24 e.v e.n

/-- Every internal epoch value matches its complement (R298). -/
def epochsOk (s : State) : Bool := s.ralid.current.ok && s.ralid.open_.ok && s.ralid.floor.ok

/-- The epoch to which inserts and deletes fetched now belong: that after a PUBLISH in progress (R278, R286). -/
def openNow (s : State) : Nat :=
  match s.ralid.publish with
  | some p => p.epoch + 1
  | none => s.ralid.open_.v

/-- An epoch of a deleted record: none. -/
def noDeath : Nat := 0xFFFFFF

/-! Index records (R258 to R262). -/

def adjAddr (n : Nat) (s : State) : Nat := (area 1 s).1 + n * 128
def sketchBytes (x : RalIndex) : Nat := 32 * 2 ^ x.sketchSel
def sketchAddr (x : RalIndex) (n : Nat) (s : State) : Nat := (area 2 s).1 + n * sketchBytes x
def keyAddr (n : Nat) (s : State) : Nat := (area 3 s).1 + n * 8

/-- node_capacity (R258). -/
def nodeCapacity (sketchSel : Nat) (s : State) : Nat :=
  let size := fun (c : Nat) => (area c s).2 - (area c s).1
  min (2 ^ 31) (min (size 1 / 128) (min (size 2 / (32 * 2 ^ sketchSel)) (size 3 / 8)))

/-- An adjacency record (R259): its 1,024 bits. -/
def rTomb (r : Nat) : Bool := bit r 63
def rDegree (r : Nat) : Nat := bits r 62 58
def rBirth (r : Nat) : Nat := bits r 57 34
def rDeath (r : Nat) : Nat := bits r 33 10
def rNbr (r j : Nat) : Nat := bits r (32 * j + 94) (32 * j + 64)
def rNbrs (r : Nat) : List Nat := (List.range (rDegree r)).map (rNbr r)

/-- Form a record. -/
def mkRecord (tomb : Bool) (birth death : Nat) (nbrs : List Nat) : Nat :=
  b2n tomb * 2 ^ 63 + nbrs.length % 32 * 2 ^ 58 + birth % 2 ^ 24 * 2 ^ 34 + death % 2 ^ 24 * 2 ^ 10
    + 2 ^ 64 * (nbrs.take 30).foldr (fun y acc => y % 2 ^ 31 + 2 ^ 32 * acc) 0

/-- A record is corrupt (R260). -/
def recordCorrupt (cap r : Nat) : Bool :=
  rDegree r == 31 || bits r 9 0 != 0 || (List.range 30).any (fun j => bit r (32 * j + 95))
    || (rNbrs r).any (fun y => decide (cap ≤ y))

/-- A record as the device's own engines read it; one that cannot be read counts as a record without neighbours (log 24). -/
def recordOf (n : Nat) (s : State) : Nat := leNat (stackedBytes (adjAddr n s) 128 s)

/-- Write a record. -/
def putRecord (n r : Nat) (s : State) : State := putStacked (adjAddr n s) (leBytes 128 r) s

/-- The sketch of a node as a number: bit i of the sketch is bit i of the number (R261). -/
def sketchOf (x : RalIndex) (n : Nat) (s : State) : Nat := leNat (stackedBytes (sketchAddr x n s) (sketchBytes x) s)

def keyOf (n : Nat) (s : State) : Nat := leNat (stackedBytes (keyAddr n s) 8 s)

/-- Bits of `v` that are set, of the lowest `n`. -/
def popCount : Nat → Nat → Nat
  | 0, _ => 0
  | n + 1, v => v % 2 + popCount n (v / 2)

/-- Sketch distance (R261). -/
def sketchDist (a b : Nat) : Nat := popCount 1024 (a ^^^ b)

/-- A node is allocated. -/
def RalIndex.has (x : RalIndex) (n : Nat) : Bool := decide (n < x.top) && !x.freed.contains n

/-- Allocated nodes, ascending. -/
def RalIndex.nodes (x : RalIndex) : List Nat := (List.range x.top).filter (fun n => !x.freed.contains n)

/-- The lowest free node ID. -/
def RalIndex.lowestFree (x : RalIndex) : Option Nat :=
  match x.freed with
  | n :: _ => some n
  | [] => if x.top < x.capacity then some x.top else none

/-- Free node IDs (RAL_NODES). -/
def RalIndex.freeNodes (x : RalIndex) : Nat := x.capacity - x.top + x.freed.length

/-- Insert into a rising list. -/
def insertSorted (n : Nat) : List Nat → List Nat
  | [] => [n]
  | m :: ms => if n < m then n :: m :: ms else if n = m then m :: ms else m :: insertSorted n ms

/-- A node is visible at an epoch (R277). -/
def visibleAt (e birth death : Nat) (tomb : Bool) : Bool := decide (birth ≤ e) && decide (e < death) && !tomb

def nodeVisible (e n : Nat) (s : State) : Bool :=
  let r := recordOf n s
  visibleAt e (rBirth r) (rDeath r) (rTomb r)

/-! Vectors (R262, R263). -/

/-- Bytes of a stored vector, and vectors in a unit. -/
def vecBytes (dims : Nat) : Nat := up64 (dims + dims / 32)
def vecsPerUnit (dims : Nat) : Nat := 16384 / vecBytes dims

/-- Ledger index of the unit of node `n`, and the byte in the unit. -/
def vecPlace (x : RalIndex) (ns : Namespace) (n : Nat) : Nat × Nat :=
  (ns.base + n / vecsPerUnit x.dims, n % vecsPerUnit x.dims * vecBytes x.dims)

/-- Blocks of the unit that the vector lies in. -/
def vecBlocks (x : RalIndex) (off : Nat) : List Nat :=
  (List.range 4).filter (fun b => decide (4096 * b < off + vecBytes x.dims) && decide (off < 4096 * b + 4096))

/-- Element `i` of a stored vector as an FP32 pattern (R263). -/
def vecElem (dims : Nat) (bytes : List Byte) (i : Nat) : Nat :=
  let sc := (bytes.getD (dims + i / 32) 0#8).toNat
  if sc = 255 then f32.nanBits
  else (f32.ofFv ((mxDecode 1 (bytes.getD i 0#8).toNat).scale ((sc : Int) - 127))).1

/-- The accumulation of R263 over pairs of query and stored elements. -/
def distanceSum (metric : Bool) : List (Nat × Nat) → Nat → Nat
  | [], acc => acc
  | (q, v) :: rest, acc =>
    if metric then distanceSum metric rest (f32.fma .tiesEven q v acc).1
    else
      let t := (f32.sub .tiesEven q v).1
      distanceSum metric rest (f32.fma .tiesEven t t acc).1

/-- The full distance (R263). -/
def fullDistance (x : RalIndex) (q : List Nat) (bytes : List Byte) : Nat :=
  let acc := distanceSum x.metric ((List.range x.dims).map (fun i => (q.getD i 0, vecElem x.dims bytes i))) 0
  if f32.isNan acc then f32.nanBits else if x.metric then f32.negate acc else acc

/-! The walk (R265). -/

/-- Queue order: sketch distance, then node ID. -/
def Candidate.before (a b : Candidate) : Bool := decide (a.dist < b.dist) || (a.dist == b.dist && decide (a.node < b.node))

def insertCandidate (c : Candidate) : List Candidate → List Candidate
  | [] => [c]
  | d :: ds => if c.before d then c :: d :: ds else d :: insertCandidate c ds

/-- A candidate as the walker reads its header and sketch. -/
def readCandidate (x : RalIndex) (sketch n : Nat) (s : State) : Candidate :=
  let r := recordOf n s
  { node := n, dist := sketchDist sketch (sketchOf x n s), birth := rBirth r, death := rDeath r, tomb := rTomb r, expanded := false }

/-- The tests that a neighbour passes through (R265, step 4). -/
def seeNeighbour (e l : Nat) (queue : List Candidate) (c : Candidate) : List Candidate :=
  if queue.any (fun d => d.node == c.node) || decide (e < c.birth) then queue
  else if queue.length < l then insertCandidate c queue
  else match queue.getLast? with
    | some z => if c.before z then insertCandidate c queue.dropLast else queue
    | none => queue

/-- What an expansion found. -/
inductive Expansion where
  | grown (queue : List Candidate)
  /-- The record of this node is corrupt (R260). -/
  | corrupt (node : Nat)
  /-- A word was uncorrectable (R499). -/
  | lost
  deriving DecidableEq, Repr

/-- The stacked-memory ranges that the expansion of a node reads. -/
def expansionSpans (x : RalIndex) (n : Nat) (nbrs : List Nat) (s : State) : List (Nat × Nat) :=
  (adjAddr n s, 128) :: nbrs.flatMap (fun y => [(adjAddr y s, 8), (sketchAddr x y s, sketchBytes x)])

/-- The first unexpanded candidate. -/
def firstUnexpanded (queue : List Candidate) : Option Candidate := queue.find? (fun c => !c.expanded)

/-- Count the corrections of a list of reads, and find the first uncorrectable word. -/
def checkReads : List (Nat × Nat) → State → Bool × State
  | [], s => (true, s)
  | (a, n) :: rest, s =>
    match readStacked a n s with
    | (.error _, s1) => (false, s1)
    | (.ok _, s1) => checkReads rest s1

/-- Expand one node: its neighbours in slot order (R265, steps 3 and 4). -/
def expandNode (x : RalIndex) (e l sketch node : Nat) (queue : List Candidate) (s : State) : Expansion × State :=
  let r := recordOf node s
  let marked := queue.map (fun c => if c.node == node then { c with expanded := true } else c)
  let corrupt := recordCorrupt x.capacity r
  let fresh := (rNbrs r).filter (fun y => !queue.any (fun c => c.node == y))
  match checkReads (expansionSpans x node (if corrupt then [] else fresh) s) s with
  | (false, s1) => (.lost, s1)
  | (true, s1) =>
    if corrupt then (.corrupt node, logEvent .ralRecordCorrupt (detailWords [node]) s1)
    else (.grown ((rNbrs r).foldl (fun q y => seeNeighbour e l q (readCandidate x sketch y s)) marked), s1)

/-! Completion (R275, R297). -/

/-- The 256-bit value of a result entry. -/
def Hit.valueOf (h : Hit) : Nat :=
  h.key % 2 ^ 64 * 2 ^ 192 + h.value % 2 ^ 32 * 2 ^ 160 + b2n h.late * 2 ^ 159 + h.node % 2 ^ 31 * 2 ^ 128
    + h.device % 4096 * 2 ^ 116 + h.sketch % 2048 * 2 ^ 105

/-- A result entry of a RESULT message. -/
def Hit.ofValue (v : Nat) : Hit :=
  { key := bits v 255 192, value := bits v 191 160, late := bit v 159, node := bits v 158 128, device := bits v 127 116,
    sketch := bits v 115 105 }

/-- The 512-bit summary (Table: Query summary). -/
def summaryOf (epoch status count late failed lists missing refused : Nat) (limit : Bool) (expansions : Nat) : Nat :=
  epoch % 2 ^ 24 * 2 ^ 488 + status * 2 ^ 480 + count * 2 ^ 471 + min late 511 * 2 ^ 462 + min failed 511 * 2 ^ 453
    + lists * 2 ^ 440 + missing * 2 ^ 427 + refused * 2 ^ 414 + b2n limit * 2 ^ 413 + expansions % 2 ^ 32 * 2 ^ 381

/-- Segments of a message: at most 4 KiB each (R330). -/
def segmentsOf (bytes : List Byte) : List (List Byte) := chunksOf 4096 3 bytes

/-- opspec of a segment of a QUERY or RESULT message. -/
def messageSpec (id seg segs : Nat) : Nat := id % 2 ^ 32 * 2 ^ 38 + seg * 2 ^ 34 + segs * 2 ^ 30

/-- Send a RESULT message (R330). -/
def sendResult (device id : Nat) (bytes : List Byte) (s : State) : State :=
  let segs := segmentsOf bytes
  (segs.zipIdx).foldl (fun acc p =>
    sendParcel (mkParcel 8 device 0 false 0 0 0 (messageSpec id p.2 segs.length) 0 (wordsOf p.1) acc) acc) s

/-- The counter of a completion status (Table: bank 2). -/
def statusCounter (status : Nat) : Nat := if status = 0 then 1 else if status = 0x20 then 2 else 3

/-- Re-rank reads of a query that have not been issued are removed (R185). -/
def dropReads (q : Nat) (s : State) : State :=
  let mine := fun (r : CellarReq) => match r.for_ with
    | .rerank k _ => k == q && !r.issued
    | _ => false
  { s with mem := { s.mem with cellar := s.mem.cellar.filter (fun p => !mine p.2) } }

/-- A query ends: its summary and entries go to the host or to its coordinator (R275, R330). -/
def endQuery (q : Nat) (status : Nat) (hits : List Hit) (s : State) : State :=
  match Tbl.look s.ralid.queries q with
  | none => s
  | some x =>
    let late := x.lists.foldl (fun n l => n + l.late) 0
    let failed := x.lists.foldl (fun n l => n + l.failed) 0
    let limit := x.limit || x.lists.any (·.limit)
    let sum := summaryOf (x.epoch.getD s.ralid.current.v) status hits.length late failed x.lists.length x.missing x.refused limit x.expansions
    let bytes := leBytes 64 sum ++ hits.flatMap (fun h => leBytes 32 h.valueOf)
    let s1 := setRalid { s.ralid with queries := Tbl.del s.ralid.queries q } s
    -- requests for segments of its QUERY messages are outstanding no longer
    let mine := fun (r : FabReq) => match r.for_ with
      | .query k _ => k == q
      | _ => false
    let s2 := { s1 with fabric := { s1.fabric with reqs := s1.fabric.reqs.filter (fun p => !mine p.2) } }
    let s3 := dropReads q s2
    match x.origin with
    | .shard device id => sendResult device id bytes s3
    | .host tr =>
      complete tr status hits.length 0 (hostWrite x.resAddr bytes
        (bump 2 0 12 x.missing (bump 2 0 (statusCounter status) 1 s3)))

/-! Merge (R296). -/

/-- Minus infinity as an FP32 pattern. -/
def minusInf : Nat := 0xFF800000

/-- The keyed entries of one list: a late entry takes the key of the nearest earlier on-time entry. -/
def keyed : Nat → List Hit → List (Nat × Hit)
  | _, [] => []
  | last, h :: hs => if h.late then (last, h) :: keyed last hs else (h.value, h) :: keyed h.value hs

/-- A head wins over another: the smaller key, then the lower device ID, then the lower node ID. -/
def headBefore (a b : Nat × Hit) : Bool :=
  belowTotal a.1 b.1 || (!belowTotal b.1 a.1 &&
    (decide (a.2.device < b.2.device) || (a.2.device == b.2.device && decide (a.2.node < b.2.node))))

/-- The best head of the lists. -/
def bestHead : List (List (Nat × Hit)) → Option (Nat × Hit)
  | [] => none
  | l :: ls =>
    match l.head?, bestHead ls with
    | none, b => b
    | some a, none => some a
    | some a, some b => if headBefore b a then some b else some a

/-- Take the head that won from its list. -/
def dropHead (h : Nat × Hit) : List (List (Nat × Hit)) → List (List (Nat × Hit))
  | [] => []
  | l :: ls => if l.head? = some h then l.drop 1 :: ls else l :: dropHead h ls

/-- The first `k` entries that the merge unit takes. -/
def mergeLists : Nat → List (List (Nat × Hit)) → List Hit
  | 0, _ => []
  | k + 1, ls =>
    match bestHead ls with
    | none => []
    | some h => h.2 :: mergeLists k (dropHead h ls)

/-- The status of a query (R297), below an aborted walk. -/
def queryStatus (x : Query) : Nat :=
  if x.lists.any (fun l => l.status == 0x32) then 0x32
  else if x.missing != 0 then 0x50
  else if x.refused != 0 then 0x03
  else if x.lists.any (fun l => l.status == 0x11) then 0x11
  else if x.lists.any (fun l => l.late != 0 || l.failed != 0) then 0x20
  else 0

/-- When nothing is expected any more, the lists are merged and the query ends. -/
def finishQuery (q : Nat) (s : State) : State :=
  match Tbl.look s.ralid.queries q with
  | none => s
  | some x =>
    if !x.expect.isEmpty then s
    else endQuery q (queryStatus x) (mergeLists x.k (x.lists.map (fun l => keyed minusInf l.hits))) s

/-- A shard of a query has answered with a list, or has refused (R295, R296). -/
def takeList (q : Nat) (l : ShardList) (s : State) : State :=
  match Tbl.look s.ralid.queries q with
  | none => s
  | some x =>
    if !x.expect.contains l.device then s
    else
      let y := { x with expect := x.expect.filter (· != l.device) }
      let z := if l.status = 0x03 then { y with refused := y.refused + 1 } else { y with lists := y.lists ++ [l] }
      finishQuery q (setRalid { s.ralid with queries := Tbl.put s.ralid.queries q z } s)

/-- A shard counts as missing (R296). -/
def shardMissing (q device : Nat) (s : State) : State :=
  match Tbl.look s.ralid.queries q with
  | none => s
  | some x =>
    if !x.expect.contains device then s
    else
      let y := { x with expect := x.expect.filter (· != device), missing := x.missing + 1 }
      finishQuery q (setRalid { s.ralid with queries := Tbl.put s.ralid.queries q y } s)

/-- The module's own search of a query has ended with a status and a list. A remote query answers its coordinator, the
host's own goes to the merge. -/
def ownList (q status : Nat) (hits : List Hit) (late failed : Nat) (s : State) : State :=
  match Tbl.look s.ralid.queries q with
  | none => s
  | some x =>
    let s1 := dropReads q (bump 2 0 7 (b2n x.limit) (bump 2 0 6 x.expansions (bump 2 0 5 failed (bump 2 0 4 late s))))
    let l : ShardList := { device := s.fabric.id, status := status, late := late, failed := failed, limit := x.limit, hits := hits }
    match x.origin with
    | .host _ =>
      takeList q l (setRalid { s1.ralid with queries := Tbl.put s1.ralid.queries q { x with stage := .merging } } s1)
    | .shard _ _ =>
      endQuery q status hits (setRalid { s1.ralid with queries := Tbl.put s1.ralid.queries q { x with lists := [l] } } s1)

/-! Re-rank (R266 to R270). -/

/-- The re-rank set of a finished walk (R266). -/
def rerankSet (x : Query) (e : Nat) : List Candidate :=
  (x.queue.filter (fun c => visibleAt e c.birth c.death c.tomb)).take x.rerank

/-- Read the stored vector of a node; none when a block of it is lost. -/
def readVector (x : RalIndex) (n lost : Nat) (s : State) : Option (List Byte) × State :=
  match Tbl.look s.spaces x.vecNs with
  | none => (none, s)
  | some ns =>
    let p := vecPlace x ns n
    let r := (vecBlocks x p.2).foldl (fun acc b =>
      let y := readBlock p.1 b lost acc.2
      (match acc.1, y.1 with
        | some d, some c => some (d ++ c)
        | _, _ => none, y.2)) (some [], s)
    (r.1.map (fun d => (d.drop (p.2 % 4096)).take (vecBytes x.dims)), r.2)

/-- Ask for the vector of a candidate: one that needs no flash is read at once and is never late; else a class 1 request, if
its queue has room (R183, R184, R268). -/
def requestVector (x : RalIndex) (q : Nat) (vec : List Nat) (lateAll : Bool) (c : RankEntry) (s : State) : RankEntry × State :=
  match Tbl.look s.spaces x.vecNs with
  | none => ({ c with st := .failed }, s)
  | some ns =>
    let p := vecPlace x ns c.node
    match flashNeed p.1 (vecBlocks x p.2) s with
    | none =>
      match readVector x c.node 0 s with
      | (some d, s1) => ({ c with st := .onTime (fullDistance x vec d) }, s1)
      | (none, s1) => ({ c with st := .failed }, s1)
    | some (sb, off) =>
      if lateAll then ({ c with st := .late }, s)
      else match cellarAdd 1 p.1 (.flash sb off) (.rerank q c.node) s with
        | some s1 => ({ c with st := .reading true }, s1)
        | none => ({ c with st := .reading false }, s)

/-- Ask for the vectors that have not been asked for. -/
def requestAll (x : RalIndex) (q : Nat) (vec : List Nat) (lateAll : Bool) : List RankEntry → State → List RankEntry × State
  | [], s => ([], s)
  | c :: cs, s =>
    let a := if c.st == .reading false then requestVector x q vec lateAll c s else (c, s)
    let b := requestAll x q vec lateAll cs a.2
    (a.1 :: b.1, b.2)

/-- An on-time candidate ranks before another (R264). -/
def rankBefore (a b : Nat × RankEntry) : Bool :=
  belowTotal a.1 b.1 || (!belowTotal b.1 a.1 && decide (a.2.node < b.2.node))

def insertRank (a : Nat × RankEntry) : List (Nat × RankEntry) → List (Nat × RankEntry)
  | [] => [a]
  | b :: bs => if rankBefore a b then a :: b :: bs else b :: insertRank a bs

/-- The on-time candidates sorted by full distance. -/
def sortRanks (cs : List RankEntry) : List (Nat × RankEntry) :=
  cs.foldl (fun acc c => match c.st with
    | .onTime d => insertRank (d, c) acc
    | _ => acc) []

/-- Fill the positions: a late or failed candidate keeps its own, the others take the sorted ones (R270). -/
def fillRanks : List RankEntry → List (Nat × RankEntry) → List (Nat × RankEntry × Bool)
  | [], _ => []
  | c :: cs, sorted =>
    match c.st with
    | .onTime _ =>
      match sorted with
      | d :: ds => (d.1, d.2, false) :: fillRanks cs ds
      | [] => fillRanks cs []
    | _ => ((f32.ofInt32 .tiesEven c.dist).1, c, true) :: fillRanks cs sorted

/-- RERANK_RANK (R269, R270): the module's list is formed. -/
def rankQuery (q : Nat) (s : State) : State :=
  match Tbl.look s.ralid.queries q with
  | none => s
  | some x =>
    let cs := x.ranks.map (fun c => match c.st with
      | .reading _ => { c with st := .late }
      | _ => c)
    let hits := ((fillRanks cs (sortRanks cs)).take x.k).map (fun p =>
      ({ key := keyOf p.2.1.node s, value := p.1, late := p.2.2, node := p.2.1.node, device := s.fabric.id, sketch := p.2.1.dist } : Hit))
    let late := (cs.filter (fun c => c.st == .late)).length
    let failed := (cs.filter (fun c => c.st == .failed)).length
    ownList q (if late + failed = 0 then 0 else 0x20) hits late failed s

/-- Rank when every read has returned (R269). -/
def maybeRank (q : Nat) (s : State) : State :=
  match Tbl.look s.ralid.queries q with
  | none => s
  | some x =>
    if x.stage != .ranking then s
    else if x.ranks.any (fun c => match c.st with | .reading _ => true | _ => false) then s
    else rankQuery q s

/-- Ask for vectors of every query that ranks and has reads without a request, now that a class queue may have room. -/
def topUpReads (s : State) : State :=
  match s.ralid.index with
  | none => s
  | some i =>
    s.ralid.queries.foldl (fun acc p =>
      if p.2.stage == .ranking && p.2.ranks.any (fun c => c.st == .reading false) then
        let r := requestAll i p.1 p.2.vec p.2.readsOver p.2.ranks acc
        setRalid { r.2.ralid with queries := Tbl.put r.2.ralid.queries p.1 { p.2 with ranks := r.1 } } r.2
      else acc) s

/-- The walk of a query has ended: its re-rank set is formed and read (R266, R268). -/
def endWalk (i : RalIndex) (q : Nat) (x : Query) (e : Nat) (s : State) : State :=
  let set := (rerankSet x e).map (fun c => ({ node := c.node, dist := c.dist, st := .reading false } : RankEntry))
  let r := requestAll i q x.vec x.readsOver set s
  maybeRank q (setRalid { r.2.ralid with queries := Tbl.put r.2.ralid.queries q { x with stage := .ranking, ranks := r.1 } } r.2)

/-- A re-rank read has come back, or will not: the candidate takes its condition, unless ranking has happened (R269). -/
def readReturned (q node : Nat) (st : RankState) (s : State) : State :=
  match Tbl.look s.ralid.queries q with
  | none => s
  | some x =>
    if x.stage != .ranking then s
    else
      let ranks := x.ranks.map (fun c => if c.node == node && (c.st == .reading true || c.st == .reading false) then { c with st := st } else c)
      maybeRank q (setRalid { s.ralid with queries := Tbl.put s.ralid.queries q { x with ranks := ranks } } s)

/-! Detaching (R293, R298) and what other units ask. -/

/-- A query that was refused or that fails before its own search has a list (R295, R298). -/
def refuseQuery (q status : Nat) (s : State) : State :=
  match Tbl.look s.ralid.queries q with
  | none => s
  | some x =>
    match x.origin with
    | .host tr =>
      let s1 := setRalid { s.ralid with queries := Tbl.del s.ralid.queries q } s
      fail tr status (bump 2 0 3 1 s1)
    | .shard _ _ => bump 2 0 11 (b2n (status == 0x03)) (endQuery q status [] s)

/-- The index is detached: the staging tables, the log and the pass are discarded (R293). -/
def detachIndex (s : State) : State :=
  setRalid { s.ralid with
    index := none, staged := [], log := [], pass := none, covered := none, logFull := false, edgesDropped := 0,
    current := Epoch.of 0, open_ := Epoch.of 1, floor := Epoch.of 0, publish := none, detach := none, inserts := [], shards := [] } s

/-- An internal epoch is corrupt: the index is detached and every query in flight fails (R298); inserts and a
PUBLISH in progress end with a status that the spec does not give: a free value (log 27). -/
def epochCorrupt (s : State) : State :=
  let s0 := logEvent .ralEpochCorrupt 0 s
  let s1 := (s0.ralid.queries.map (·.1)).foldl (fun acc q =>
    match Tbl.look acc.ralid.queries q with
    | some x => endQuery q 0x11 [] (setRalid { acc.ralid with queries := Tbl.put acc.ralid.queries q { x with expect := [] } } acc)
    | none => acc) s0
  let f := drawFree s1
  let status := f.1.toNat % 256
  let s2 := completeAll (s1.ralid.inserts.filterMap (fun p => p.2.tr)) status f.2
  let s3 := match s2.ralid.publish with
    | some p => fail p.tr status s2
    | none => s2
  let s4 := match s3.ralid.detach with
    | some tr => complete tr 0 0 0 s3
    | none => s3
  detachIndex s4

/-- Ralid takes commands: an index is attached and no DETACH is in progress (R273, R293). -/
def ralidServes (s : State) : Bool := s.ralid.index.isSome && s.ralid.detach.isNone

/-- Queries in flight: admitted and not complete. -/
def queriesInFlight (s : State) : Nat := (s.ralid.queries.filter (fun p => p.2.walker.isSome)).length

/-- A query or an insert is in progress (R293, R414). -/
def ralidBusy (s : State) : Bool := !s.ralid.queries.isEmpty || !s.ralid.inserts.isEmpty

/-- Something of Ralid is in progress that bars PS2 (R418). -/
def ralidActive (s : State) : Bool :=
  ralidBusy s || s.ralid.publish.isSome || s.ralid.attach.isSome || s.ralid.pass.isSome

/-- Queries running on walkers of a group that is reset (R297, R452). -/
def abortWalkers (group : Nat) (s : State) : State :=
  (s.ralid.queries.filter (fun p => p.2.walker.isSome && p.2.walker.map (· / 16) == some group)).foldl (fun acc p =>
    match p.2.origin with
    | .host _ => endQuery p.1 0x32 (mergeLists p.2.k (p.2.lists.map (fun l => keyed minusInf l.hits))) acc
    | .shard _ _ => endQuery p.1 0x32 [] acc) s

/-- Every device reset detaches the index: nothing of Ralid survives it but what `keepRegs` says (R293, R448). -/
def resetRalid (keepRegs : Bool) (s : State) : State :=
  let r := s.ralid
  setRalid (if keepRegs then
      { Ralid.reset with logReg := r.logReg, paramReg := r.paramReg, shardsReg := r.shardsReg, nextQuery := r.nextQuery }
    else { Ralid.reset with nextQuery := r.nextQuery }) s

end Sys2Proof.Machine
end

