-- ==== Sys2Proof/Machine/Ralid.lean ====
section
/-! DEFINITION. The family of Ralid commands (chapter 09), the query parcels and the responses (chapter 10), and the ends of
unit reads (chapters 06 and 11), all of whose readers stand before it. -/

namespace Sys2Proof.Machine

def modQuery (q : Nat) (f : Query → Query) (s : State) : State :=
  setRalid { s.ralid with queries := Tbl.adjust s.ralid.queries q f } s

/-! QUERY (R273, R274). -/

def qK (d : BitVec 1024) : Nat := dParam d 328 320
def qRerank (d : BitVec 1024) : Nat := let r := dParam d 337 329; if r = 0 then max 64 (qK d) else r
def qL (d : BitVec 1024) : Nat := let l := dParam d 347 338; if l = 0 then max 128 (qRerank d) else l
def qMaxExp (d : BitVec 1024) : Nat := let m := dParam d 363 348; if m = 0 then 8 * qL d else m
def qDeadline (d : BitVec 1024) : Nat := let u := dParam d 379 364; if u = 0 then 2000 else u
def qEpochSel (d : BitVec 1024) : Bool := bit d.toNat 380
def qFanout (d : BitVec 1024) : Bool := bit d.toNat 381
def qEpoch (d : BitVec 1024) : Nat := dParam d 407 384
def qEpochN (d : BitVec 1024) : Nat := dParam d 431 408

/-- The fields of a QUERY are in range (Table: QUERY fields, R402, R403). -/
def queryFieldsOk (d : BitVec 1024) : Bool :=
  decide (1 ≤ qK d) && decide (qK d ≤ qRerank d) && decide (qRerank d ≤ 256) && decide (qRerank d ≤ qL d) && decide (qL d ≤ 512)
    && decide (100 ≤ qDeadline d) && dPtr0 d % 64 == 0 && dPtr1 d % 64 == 0
    && (if qEpochSel d then qEpoch d != noDeath else qEpoch d == 0 && qEpochN d == 0)

/-- Bytes that a query buffer and a result buffer have to hold. -/
def queryMin (x : RalIndex) : Nat := 4 * x.dims + sketchBytes x
def resultMin (d : BitVec 1024) : Nat := 64 + 32 * qK d

/-- An epoch lies in the window (R276). -/
def inWindow (e : Nat) (s : State) : Bool := decide (s.ralid.floor.v ≤ e) && decide (e ≤ s.ralid.current.v)

/-- A query vector as patterns, from its bytes. -/
def vectorOf (dims : Nat) (bytes : List Byte) : List Nat := (List.range dims).map (fun i => leNat ((bytes.drop (4 * i)).take 4))

/-- A query joins those that wait. -/
def addQuery (x : Query) (s : State) : State :=
  setRalid { s.ralid with queries := Tbl.put s.ralid.queries s.ralid.nextQuery x, nextQuery := s.ralid.nextQuery + 1 } s

/-- QUERY (R274): `buffer` is the query vector and sketch as read from the host. -/
def execQuery (tr : Nat) (buffer : List Byte) (s : State) : Host.Outcome State Fault Refusal :=
  match readyTask tr 0x30 s with
  | none => .next s
  | some t =>
    let d := t.desc
    if qEpochSel d && !isCompl 24 (qEpoch d) (qEpochN d) then .next (fail tr 0x04 s)
    else if !queryFieldsOk d then .next (fail tr 0x01 s)
    else match s.ralid.index with
      | none => .next (fail tr 0x03 s)
      | some x =>
        if dLen0 d < queryMin x || dLen1 d < resultMin d then .next (fail tr 0x02 s)
        else if !ralidServes s || (qEpochSel d && !inWindow (qEpoch d) s) || (qFanout d && s.ralid.shards.isEmpty) then .next (fail tr 0x03 s)
        else
          let bytes := padTo (queryMin x) 0#8 buffer
          let q : Query :=
            { origin := .host tr, stage := .waiting, walker := none, k := qK d, rerank := qRerank d, l := qL d, maxExp := qMaxExp d,
              epoch := if qEpochSel d then some (qEpoch d) else none, vec := vectorOf x.dims bytes,
              sketch := leNat (bytes.drop (4 * x.dims)), resAddr := dPtr1 d, fanout := qFanout d, since := s.tclk,
              budget := qDeadline d, queue := [], expansions := 0, limit := false, ranks := [], readsOver := false, expect := [],
              lists := [], missing := 0, refused := 0, parts := [] }
          .next (addQuery q (setPhase tr .running s))

/-! Admission (R274, R277, R294, R29). -/

/-- Queries that a walker takes (R27). -/
def perWalker (s : State) : Nat := if s.power.step = 3 then 8 else if s.power.step = 4 then 4 else 16

/-- Queries on a walker. -/
def walkerLoad (w : Nat) (s : State) : Nat := (s.ralid.queries.filter (fun p => p.2.walker == some w)).length

/-- The walker with the fewest queries, the lowest-numbered among equals, and its load. -/
def bestWalker (s : State) : Nat × Nat :=
  (List.range Config.walkers).foldl (fun best w =>
    let n := walkerLoad w s
    if n < best.2 then (w, n) else best) (0, walkerLoad 0 s)

/-- The oldest query that waits for a walker slot. -/
def firstWaitingQuery (s : State) : Option (Nat × Query) := s.ralid.queries.find? (fun p => p.2.stage == .waiting)

/-- µs that are left of a query's deadline. -/
def leftUs (x : Query) (s : State) : Nat := x.budget - (s.tclk - x.since) / Config.tclkPerUs

/-- A QUERY message (R330). -/
def queryMessage (i : RalIndex) (x : Query) (e : Nat) (s : State) : List Byte :=
  leBytes 4 e ++ leBytes 4 (compl 24 e) ++ leBytes 2 x.k ++ leBytes 2 x.rerank ++ leBytes 2 x.l ++ leBytes 2 x.maxExp
    ++ leBytes 4 (leftUs x s - 50) ++ leBytes 2 i.dims ++ List.replicate 42 0#8
    ++ x.vec.flatMap (leBytes 4) ++ leBytes (sketchBytes i) x.sketch

/-- Send a QUERY message to a shard. -/
def sendQuery (q device : Nat) (bytes : List Byte) (s : State) : State :=
  let segs := segmentsOf bytes
  (segs.zipIdx).foldl (fun acc p =>
    sendRequest 7 device 0 false 0 0 (messageSpec q p.2 segs.length) (wordsOf p.1) (.query q device) acc) s

/-- The walk starts at the entry node (R265). -/
def startWalk (i : RalIndex) (q : Nat) (x : Query) (s : State) : State :=
  match checkReads [(adjAddr i.entry s, 8), (sketchAddr i i.entry s, sketchBytes i)] s with
  | (false, s1) => ownList q 0x11 [] 0 0 s1
  | (true, s1) =>
    let y := { x with stage := .walking, queue := [readCandidate i x.sketch i.entry s] }
    setRalid { s1.ralid with queries := Tbl.put s1.ralid.queries q y } s1

/-- A list of devices without repeats. -/
def noRepeat (ds : List Nat) : List Nat := ds.foldl (fun acc d => if acc.contains d then acc else acc ++ [d]) []

/-- QUERY_ADMIT (R274, R277, R294): the oldest waiting query is given to a walker, pinned to its epoch, and fanned out. -/
def execQueryAdmit (s : State) : Host.Outcome State Fault Refusal :=
  match s.ralid.index, firstWaitingQuery s with
  | some i, some (q, x) =>
    let w := bestWalker s
    if !walkersOn s || (s.ralid.publish.map (·.holds)).getD false || perWalker s ≤ w.2 then .next s
    else if !epochsOk s then .next (epochCorrupt s)
    else
      let e := x.epoch.getD s.ralid.current.v
      if !inWindow e s then .next (refuseQuery q 0x03 s)
      else
        let remote := match x.origin with
          | .shard _ _ => true
          | .host _ => false
        let me := s.fabric.id
        let shards := if x.fanout then noRepeat s.ralid.shards else [me]
        let y := { x with epoch := some e, walker := some w.1, expect := if remote then [] else shards, stage := .merging }
        let s1 := bump 2 0 (if remote then 10 else 0) 1 (setRalid { s.ralid with queries := Tbl.put s.ralid.queries q y } s)
        let s2 := (shards.filter (· != me)).foldl (fun acc d => sendQuery q d (queryMessage i y e acc) acc) s1
        .next (if shards.contains me then startWalk i q y s2 else s2)
  | _, _ => .next s

/-- WALK_EXPAND (R265, R260): the walker expands the first unexpanded candidate; the walk ends with the last, or at
max_expand. -/
def execWalkExpand (query : Nat) (s : State) : Host.Outcome State Fault Refusal :=
  match s.ralid.index, Tbl.look s.ralid.queries query with
  | some i, some x =>
    if x.stage != .walking || !walkersOn s then .next s
    else
      let e := x.epoch.getD s.ralid.current.v
      match firstUnexpanded x.queue with
      | none => .next (endWalk i query x e s)
      | some c =>
        if x.maxExp ≤ x.expansions then .next (endWalk i query { x with limit := true } e s)
        else match expandNode i e x.l x.sketch c.node x.queue s with
          | (.corrupt _, s1) => .next (ownList query 0x11 [] 0 0 s1)
          | (.lost, s1) => .next (ownList query 0x11 [] 0 0 s1)
          | (.grown queue, s1) =>
            let y := { x with queue := queue, expansions := x.expansions + 1 }
            if (firstUnexpanded queue).isNone then .next (endWalk i query y e s1)
            else if y.maxExp ≤ y.expansions then .next (endWalk i query { y with limit := true } e s1)
            else .next (modQuery query (fun _ => y) s1)
  | _, _ => .next s

/-- RERANK_DEADLINE (R268, R269): the read deadline of a query passes: what has not returned is late. -/
def execRerankDeadline (query : Nat) (s : State) : Host.Outcome State Fault Refusal :=
  match Tbl.look s.ralid.queries query with
  | none => .next s
  | some x =>
    if x.stage == .merging then .next s
    else
      let s1 := modQuery query (fun y => { y with readsOver := true }) s
      .next (if x.stage == .ranking then rankQuery query s1 else s1)

/-- MERGE_DEADLINE (R296): what has not answered counts as missing, and the query completes. -/
def execMergeDeadline (query : Nat) (s : State) : Host.Outcome State Fault Refusal :=
  match Tbl.look s.ralid.queries query with
  | none => .next s
  | some x =>
    if !x.fanout then .next s
    else
      let left := if x.walker.isSome then x.expect else noRepeat s.ralid.shards
      .next ((if left.isEmpty then finishQuery query else fun y => left.foldl (fun acc d => shardMissing query d acc) y)
        (modQuery query (fun y => { y with expect := left }) s))

/-! Inserts (R280 to R282). -/

/-- L of insert walks, and neighbours chosen (RAL_PARAM). -/
def buildL (s : State) : Nat := bits s.ralid.paramReg.toNat 63 54
def buildDegree (s : State) : Nat := bits s.ralid.paramReg.toNat 53 49

/-- The walk of an insert, in at most `fuel` expansions: a record that cannot be used ends it (log 25). -/
def insertWalk (i : RalIndex) (e l sketch : Nat) : Nat → List Candidate → State → List Candidate × State
  | 0, queue, s => (queue, s)
  | fuel + 1, queue, s =>
    match firstUnexpanded queue with
    | none => (queue, s)
    | some c =>
      match expandNode i e l sketch c.node queue s with
      | (.grown q, s1) => insertWalk i e l sketch fuel q s1
      | (_, s1) => (queue, s1)

/-- Put the vector of a node into the write buffer (R262, R280): the blocks that it touches, merged with their content. None
while no slot is free (R436). -/
def writeVector (i : RalIndex) (n : Nat) (vector : List Byte) (s : State) : Option State :=
  match Tbl.look s.spaces i.vecNs with
  | none => some s
  | some ns =>
    let p := vecPlace i ns n
    let r := (vecBlocks i p.2).foldl (fun acc b =>
      let old := readBlock p.1 b 0 acc.2
      let base := old.1.getD (List.replicate 4096 0#8)
      let merged := (List.range 4096).map (fun j =>
        let at_ := 4096 * b + j
        if p.2 ≤ at_ && at_ < p.2 + vector.length then vector.getD (at_ - p.2) 0#8 else base.getD j 0#8)
      (acc.1 ++ [(b, merged)], old.2)) ([], s)
    (writeUnit p.1 ns.pool r.1 r.2).map (·.2)

/-- Take a node out of the free ones. -/
def RalIndex.take (i : RalIndex) (n : Nat) : RalIndex :=
  if n = i.top then { i with top := i.top + 1 } else { i with freed := i.freed.filter (· != n) }

/-- Steps 1 to 5 of an INSERT (R280); none when no node is free. -/
def startInsert (tr : Option Nat) (key : Nat) (vector : List Byte) (sketch : Nat) (i : RalIndex) (s : State) : Option State :=
  match i.lowestFree with
  | none => none
  | some n =>
    let e := openNow s
    let s1 := setRalid { s.ralid with index := some (i.take n) } s
    let s2 := putStacked (sketchAddr i n s1) (leBytes (sketchBytes i) sketch) (putStacked (keyAddr n s1) (leBytes 8 key) s1)
    let v := writeVector i n vector s2
    let s3 := v.getD s2
    let w := insertWalk i e (buildL s) sketch (8 * buildL s) [readCandidate i sketch i.entry s3] s3
    let near := ((w.1.filter (fun c => visibleAt e c.birth c.death c.tomb)).take (buildDegree s)).map (·.node)
    let rec_ : Insert := { tr := tr, birth := e, near := near, vector := if v.isSome then [] else vector }
    some (setRalid { w.2.ralid with inserts := Tbl.put w.2.ralid.inserts n rec_ } w.2)

/-- Ralid can take an insert now (R282, R286). -/
def insertRoom (s : State) : Bool :=
  decide (s.ralid.inserts.length < Config.inserts) && !(s.ralid.publish.map (·.holds)).getD false

/-- The SQ of a task register waits for space in Ralid, or no longer (R282, R408). -/
def setInsertWaits (tr : Nat) (b : Bool) (s : State) : State :=
  match Tbl.look s.rings.tasks tr with
  | none => s
  | some t => { s with rings := { s.rings with sqs := Tbl.adjust s.rings.sqs t.sq (fun q => { q with insertWaits := b }) } }

/-- INSERT (R280 to R282): `buffer` is the vector and sketch as read from the host. It waits while no insert can be taken. -/
def execInsert (tr : Nat) (buffer : List Byte) (s : State) : Host.Outcome State Fault Refusal :=
  match readyTask tr 0x31 s with
  | none => .next s
  | some t =>
    match s.ralid.index with
    | none => .next (fail tr 0x03 s)
    | some i =>
      let vb := vecBytes i.dims
      if dLen0 t.desc < vb + sketchBytes i then .next (fail tr 0x02 s)
      else if !ralidServes s then .next (fail tr 0x03 (setInsertWaits tr false s))
      else if !insertRoom s then .next (setInsertWaits tr true s)
      else
        let bytes := padTo (vb + sketchBytes i) 0#8 buffer
        let s1 := setInsertWaits tr false s
        match startInsert (some tr) (dParam t.desc 383 320) (bytes.take vb) (leNat (bytes.drop vb)) i (setPhase tr .running s1) with
        | some s2 => .next s2
        | none => .next (fail tr 0x21 s1)

/-- Append a neighbour into slot degree of a record, and raise degree (R279). The node keeps everything else. -/
def appendNeighbour (x y : Nat) (s : State) : State :=
  let r := recordOf x s
  let k := rDegree r
  putStacked (adjAddr x s) (leBytes 8 (r % 2 ^ 64 + 2 ^ 58)) (putStacked (adjAddr x s + 8 + 4 * k) (leBytes 4 y) s)

/-- Step 7 of an INSERT: append where there is room, else a reverse-edge entry; one that finds the log full is dropped
(R280, R281). -/
def linkBack (n : Nat) (s : State) (x : Nat) : State :=
  if rDegree (recordOf x s) < 30 then appendNeighbour x n s
  else if s.ralid.logFull then setRalid { s.ralid with edgesDropped := satAdd 15 s.ralid.edgesDropped 1 } s
  else setRalid { s.ralid with log := s.ralid.log ++ [.reverse x n] } s

/-- INSERT_COMPLETE (R280): the records are written, and the INSERT completes with the node ID. It waits while the vector has
no slot in the write buffer. -/
def execInsertComplete (node : Nat) (s : State) : Host.Outcome State Fault Refusal :=
  match s.ralid.index, Tbl.look s.ralid.inserts node with
  | some i, some r =>
    match (if r.vector.isEmpty then some s else writeVector i node r.vector s) with
    | none => .next s
    | some s1 =>
      let s2 := putRecord node (mkRecord false r.birth noDeath r.near) s1
      let s3 := r.near.foldl (linkBack node) s2
      let s4 := bump 2 0 8 1 (setRalid { s3.ralid with inserts := Tbl.del s3.ralid.inserts node } s3)
      .next (match r.tr with
        | some tr => complete tr 0 node 0 s4
        | none => s4)
  | _, _ => .next s

/-! Deletes (R283, R284). -/

/-- Set death, and the dead bit. -/
def setDeath (n e : Nat) (s : State) : State :=
  match s.ralid.index with
  | none => s
  | some i =>
    let w := recordOf n s % 2 ^ 64
    let v := w - bits w 33 10 * 2 ^ 10 + e % 2 ^ 24 * 2 ^ 10
    let s1 := putStacked (adjAddr n s) (leBytes 8 v) s
    setRalid { s1.ralid with index := some { i with dead := insertSorted n i.dead } } s1

def dKey (d : BitVec 1024) : Nat := dParam d 383 320
def dNode (d : BitVec 1024) : Nat := dParam d 414 384
def dByNode (d : BitVec 1024) : Bool := bit d.toNat 415

/-- DELETE with by_node = 1 (R283). -/
def execDeleteByNode (tr : Nat) (s : State) : Host.Outcome State Fault Refusal :=
  match readyTask tr 0x32 s with
  | none => .next s
  | some t =>
    if !dByNode t.desc then .next s
    else if !ralidServes s then .next (fail tr 0x03 s)
    else match s.ralid.index with
      | none => .next (fail tr 0x03 s)
      | some i =>
        let n := dNode t.desc
        if i.capacity ≤ n || keyOf n s != dKey t.desc then .next (fail tr 0x01 s)
        else if !i.has n || rDeath (recordOf n s) != noDeath then .next (fail tr 0x03 s)
        else .next (complete tr 0 0 0 (bump 2 0 9 1 (setDeath n (openNow s) s)))

/-- DELETE with by_node = 0 (R284): the key is staged. -/
def execDeleteByKey (tr : Nat) (s : State) : Host.Outcome State Fault Refusal :=
  match readyTask tr 0x32 s with
  | none => .next s
  | some t =>
    let key := dKey t.desc
    if dByNode t.desc then .next s
    else if dNode t.desc != 0 then .next (fail tr 0x01 s)
    else if !ralidServes s then .next (fail tr 0x03 s)
    else if s.ralid.staged.contains key then .next (complete tr 0 0 0 (bump 2 0 9 1 s))
    else if Config.stagedKeys ≤ s.ralid.staged.length + ((s.ralid.publish.map (·.keys.length)).getD 0) then .next (fail tr 0x21 s)
    else .next (complete tr 0 0 0 (bump 2 0 9 1 (setRalid { s.ralid with staged := s.ralid.staged ++ [key] } s)))

/-! Consolidation (R288 to R291). -/

/-- A pass starts: D are the nodes with death ≤ c; those whose death is at or below the floor get their tombstone (R288,
R291). What an incomplete pass logged is not kept. -/
def startPass (s : State) : State :=
  match s.ralid.index with
  | none => s
  | some i =>
    let ds := i.dead.filter (fun n => decide (rDeath (recordOf n s) ≤ s.ralid.current.v))
    let s1 := ds.foldl (fun acc n =>
      let w := recordOf n acc % 2 ^ 64
      if rDeath w ≤ s.ralid.floor.v && !rTomb w then putStacked (adjAddr n acc) (leBytes 8 (w + 2 ^ 63)) acc else acc) s
    setRalid { s1.ralid with pass := some ds } s1

/-- The nearest of some nodes to `x` by sketch, among equals the lower ID. -/
def nearest (i : RalIndex) (x : Nat) (s : State) (ys : List Nat) : Option Nat :=
  let sx := sketchOf i x s
  (ys.foldl (fun (best : Option (Nat × Nat)) y =>
    let d := sketchDist sx (sketchOf i y s)
    match best with
    | some b => if d < b.1 || (d == b.1 && decide (y < b.2)) then some (d, y) else some b
    | none => some (d, y)) none).map (·.2)

/-- Repairs of one node: for each slot that holds a node of D (R288). -/
def repairsOf (i : RalIndex) (ds : List Nat) (x : Nat) (s : State) : List LogEntry :=
  let mine := rNbrs (recordOf x s)
  ((mine.filter (fun d => ds.contains d)).foldl (fun (acc : List LogEntry × List Nat) d =>
    let ys := (rNbrs (recordOf d s)).filter (fun y =>
      !ds.contains y && decide (rBirth (recordOf y s) ≤ s.ralid.current.v) && y != x && !mine.contains y && !acc.2.contains y)
    let y := nearest i x s ys
    (acc.1 ++ [.repair x d y], acc.2 ++ y.toList)) ([], [])).1

/-- An entry is a repair. -/
def LogEntry.isRepair : LogEntry → Bool
  | .repair _ _ _ => true
  | .reverse _ _ => false

/-- CONSOLIDATION_PASS_COMPLETE (R288, R289): the pass covers D, and its repairs replace those of the pass before. -/
def execConsolidationPassComplete (s : State) : Host.Outcome State Fault Refusal :=
  match s.ralid.index, s.ralid.pass with
  | some i, some ds =>
    let rs := (i.nodes.filter (fun x => !ds.contains x)).flatMap (fun x => repairsOf i ds x s)
    .next (setRalid { s.ralid with
      pass := none, covered := some ds, log := s.ralid.log.filter (fun l => !l.isRepair) ++ rs } s)
  | _, _ => .next s

/-- CONSOLIDATION_LOG_FULL (R290): the pass stops as incomplete, and the event is logged once for it. -/
def execConsolidationLogFull (s : State) : Host.Outcome State Fault Refusal :=
  match s.ralid.pass with
  | none => .next s
  | some _ => .next (logEvent .ralLogFull 0 (setRalid { s.ralid with pass := none, logFull := true } s))

/-! PUBLISH (R285 to R287). -/

/-- The device IDs that RAL_SHARDS names (R294). -/
def readShards (s : State) : List Nat :=
  let r := s.ralid.shardsReg.toNat
  let n := min (bits r 52 40) 4096
  let bytes := stackedBytes (bits r 39 0) (2 * n) s
  (List.range n).map (fun k => leNat ((bytes.drop (2 * k)).take 2) % 4096)

def pEpoch (d : BitVec 1024) : Nat := dParam d 343 320
def pEpochN (d : BitVec 1024) : Nat := dParam d 367 344
def pFloor (d : BitVec 1024) : Nat := dParam d 391 368
def pFloorN (d : BitVec 1024) : Nat := dParam d 415 392
def pCompact (d : BitVec 1024) : Bool := bit d.toNat 416

/-- PUBLISH (R285): checked, it begins to wait for the inserts of its epoch. -/
def execPublish (tr : Nat) (s : State) : Host.Outcome State Fault Refusal :=
  match readyTask tr 0x33 s with
  | none => .next s
  | some t =>
    let d := t.desc
    if !isCompl 24 (pEpoch d) (pEpochN d) || !isCompl 24 (pFloor d) (pFloorN d) then .next (fail tr 0x04 s)
    else if !ralidServes s || s.ralid.publish.isSome || s.ralid.attach.isSome then .next (fail tr 0x03 s)
    else if !epochsOk s then .next (epochCorrupt (fail tr 0x03 s))
    else if pEpoch d != s.ralid.open_.v || pFloor d < s.ralid.floor.v || pEpoch d < pFloor d || (pCompact d && pFloor d != pEpoch d) then
      .next (fail tr 0x01 s)
    else if pEpoch d = 0xFFFFFE then .next (fail tr 0x21 (logEvent .ralEpochLimit 0 s))
    else
      let p : Publish := { tr := tr, epoch := pEpoch d, floor := pFloor d, compact := pCompact d, keys := s.ralid.staged, holds := false }
      .next (setRalid { s.ralid with publish := some p, staged := [] } (setPhase tr .running s))

/-- The key-map sweep (R284). -/
def sweepKeys (keys : List Nat) (p : Nat) (s : State) : State :=
  match s.ralid.index with
  | none => s
  | some i =>
    if keys.isEmpty then s
    else i.nodes.foldl (fun acc n =>
      let r := recordOf n acc
      if keys.contains (keyOf n acc) && decide (rBirth r < p) && rDeath r == noDeath then setDeath n p acc else acc) s

/-- EPOCH_ADVANCE (R286): the epochs change, held queries of the new epoch wait for a walker, the shard table is latched, a
pass starts, and the PUBLISH completes. -/
def advanceEpoch (p : Publish) (s : State) : State :=
  let release := fun (x : Query) => if x.stage == .held then { x with stage := .waiting } else x
  let r := s.ralid
  let s1 := setRalid { r with
    current := Epoch.of p.epoch, open_ := Epoch.of (p.epoch + 1), floor := Epoch.of p.floor, publish := none, logFull := false,
    edgesDropped := 0, shards := readShards s, pass := none, queries := Tbl.mapVals r.queries (fun _ x => release x) } s
  complete p.tr 0 0 0 (startPass s1)

/-- PUBLISH_PROCEED (R286): the inserts of the epoch have completed. -/
def execPublishProceed (s : State) : Host.Outcome State Fault Refusal :=
  match s.ralid.publish with
  | none => .next s
  | some p =>
    if p.holds || s.ralid.inserts.any (fun x => decide (x.2.birth ≤ p.epoch)) then .next s
    else if !epochsOk s then .next (epochCorrupt s)
    else
      let s1 := sweepKeys p.keys p.epoch s
      if p.compact then .next (setRalid { s1.ralid with publish := some { p with keys := [], holds := true } } s1)
      else .next (advanceEpoch p s1)

/-- Write the neighbours of a record anew (R287). -/
def putNeighbours (x : Nat) (ns : List Nat) (s : State) : State :=
  let r := recordOf x s
  putRecord x (mkRecord (rTomb r) (rBirth r) (rDeath r) ns) s

/-- Apply a repair entry (R287). -/
def applyRepair (x d : Nat) (y : Option Nat) (s : State) : State :=
  let ns := rNbrs (recordOf x s)
  if !ns.contains d then s
  else
    let k := (posOf ns d).getD 0
    match y with
    | some z => if ns.contains z then putNeighbours x (ns.eraseIdx k) s else putNeighbours x (ns.set k z) s
    | none => putNeighbours x (ns.eraseIdx k) s

/-- The neighbour of `x` with the largest sketch distance, among equals the higher ID: its slot and distance. -/
def farthest (i : RalIndex) (x : Nat) (s : State) (ns : List Nat) : Option (Nat × Nat) :=
  let sx := sketchOf i x s
  ((ns.zipIdx).foldl (fun (best : Option (Nat × Nat × Nat)) p =>
    let d := sketchDist sx (sketchOf i p.1 s)
    match best with
    | some b => if b.1 < d || (b.1 == d && decide (b.2.1 < p.1)) then some (d, p.1, p.2) else some b
    | none => some (d, p.1, p.2)) none).map (fun b => (b.2.2, b.1))

/-- Apply a reverse-edge entry (R287). -/
def applyReverse (i : RalIndex) (p x y : Nat) (s : State) : State :=
  if rDeath (recordOf y s) ≤ p then s
  else if rDegree (recordOf x s) < 30 then appendNeighbour x y s
  else
    let ns := rNbrs (recordOf x s)
    match farthest i x s ns with
    | some (k, d) => if sketchDist (sketchOf i x s) (sketchOf i y s) < d then putNeighbours x (ns.set k y) s else s
    | none => s

/-- The new entry node when the old one is dead at `p` (R287). Where no node is visible the spec names none: a free value
(log 26). -/
def newEntry (i : RalIndex) (p : Nat) (s : State) : Nat × State :=
  if p < rDeath (recordOf i.entry s) then (i.entry, s)
  else match (rNbrs (recordOf i.entry s)).find? (fun y => nodeVisible p y s) with
    | some y => (y, s)
    | none => match i.nodes.find? (fun y => nodeVisible p y s) with
      | some y => (y, s)
      | none => let f := drawFree s; (f.1.toNat % i.capacity, f.2)

/-- Free a covered node (R287). -/
def freeNode (s : State) (n : Nat) : State :=
  match s.ralid.index with
  | none => s
  | some i =>
    let s1 := putStacked (keyAddr n s) (leBytes 8 0) (putRecord n (mkRecord false 0 noDeath []) s)
    setRalid { s1.ralid with index := some { i with dead := i.dead.filter (· != n), freed := insertSorted n i.freed } } s1

/-- PUBLISH_APPLY (R287): no older query is in flight: the edit log is applied, covered nodes are freed, and the epoch
advances. -/
def execPublishApply (s : State) : Host.Outcome State Fault Refusal :=
  match s.ralid.publish, s.ralid.index with
  | some p, some i =>
    let older := s.ralid.queries.any (fun q => q.2.walker.isSome && decide ((q.2.epoch.getD 0) < p.epoch))
    if !p.holds || older then .next s
    else
      let s1 := s.ralid.log.foldl (fun acc l => match l with
        | .repair x d y => applyRepair x d y acc
        | .reverse x y => applyReverse i p.epoch x y acc) s
      let e := newEntry i p.epoch s1
      let s2 := setRalid { e.2.ralid with index := some { i with entry := e.1 }, log := [] } e.2
      let s3 := (s.ralid.covered.getD []).foldl freeNode s2
      .next (advanceEpoch p (setRalid { s3.ralid with covered := none } s3))
  | _, _ => .next s

/-! ATTACH and DETACH (R292, R293). -/

def hCount (h : Nat) : Nat := bits h 511 480
def hEntry (h : Nat) : Nat := bits h 479 449
def hEpoch (h : Nat) : Nat := bits h 448 425
def hEpochN (h : Nat) : Nat := bits h 424 401
def hDims (h : Nat) : Nat := bits h 400 389
def hSketchSel (h : Nat) : Nat := bits h 388 387
def hVecNs (h : Nat) : Nat := bits h 385 381

/-- Units of a part of an image. -/
def partUnits (bytes : Nat) : Nat := (bytes + 16383) / 16384

/-- First unit, after the header unit, and length in units, of the adjacency records, sketches and keys of an image. -/
def imageParts (h : Nat) : List (Nat × Nat) :=
  let a := partUnits (hCount h * 128)
  let b := partUnits (hCount h * 32 * 2 ^ hSketchSel h)
  [(1, a), (1 + a, b), (1 + a + b, partUnits (hCount h * 8))]

/-- The fields of an image header are in range, and the image lies in `units` units. -/
def headerOk (h units : Nat) : Bool :=
  decide (1 ≤ hCount h) && decide (hCount h ≤ 2 ^ 31) && decide (hEntry h < hCount h) && decide (hEpoch h ≤ 0xFFFFFD)
    && decide (256 ≤ hDims h) && decide (hDims h ≤ 2048) && hDims h % 64 == 0 && hSketchSel h != 3 && bits h 380 0 == 0
    && (imageParts h).all (fun p => decide (p.1 + p.2 ≤ units))

/-- ATTACH (R292): the header is checked, and the image is read from then on. -/
def execAttach (tr : Nat) (s : State) : Host.Outcome State Fault Refusal :=
  match readyTask tr 0x34 s with
  | none => .next s
  | some t =>
    let unit := dParam t.desc 357 325
    if s.ralid.index.isSome || s.ralid.attach.isSome then .next (fail tr 0x03 s)
    else match nsFind (dParam t.desc 324 320 + 1) s with
      | none => .next (fail tr 0x03 s)
      | some x =>
        if x.blocks / 4 ≤ unit then .next (fail tr 0x01 s)
        else match readUnit (x.base + unit) 0 s with
          | (none, s1) => .next (fail tr 0x11 s1)
          | (some bytes, s1) =>
            let h := leNat (bytes.take 64)
            let cap := nodeCapacity (hSketchSel h) s1
            let vecUnits := ((nsFind (hVecNs h + 1) s1).map (fun n => n.blocks / 4)).getD 0
            let log := bits s1.ralid.logReg.toNat 63 48
            if !isCompl 24 (hEpoch h) (hEpochN h) then .next (fail tr 0x04 s1)
            else if !headerOk h (x.blocks / 4 - unit) then .next (fail tr 0x01 s1)
            else if cap < hCount h || vecUnits < (hCount h + vecsPerUnit (hDims h) - 1) / vecsPerUnit (hDims h)
                || log < (cap + 4 * 2 ^ 20 - 1) / (4 * 2 ^ 20) + 64 then .next (fail tr 0x21 s1)
            else .next (setRalid { s1.ralid with attach := some { tr := tr, header := h, base := x.base + unit } } (setPhase tr .running s1))

/-- Copy units of an image to stacked memory, the first `bytes` of them; whether all could be read. -/
def copyUnits : Nat → Nat → Nat → Nat → State → Bool × State
  | 0, _, _, _, s => (true, s)
  | k + 1, idx, at_, bytes, s =>
    match readUnit idx 0 s with
    | (none, s1) => (false, s1)
    | (some d, s1) => copyUnits k (idx + 1) (at_ + 16384) (bytes - 16384) (putStacked at_ (d.take bytes) s1)

/-- Copy the three parts of an image. -/
def copyImage (a : Attach) (s : State) : Bool × State :=
  let h := a.header
  let sizes := [hCount h * 128, hCount h * 32 * 2 ^ hSketchSel h, hCount h * 8]
  ((imageParts h).zip ((List.range 3).zip sizes)).foldl (fun acc p =>
    if !acc.1 then acc else copyUnits p.1.2 (a.base + p.1.1) (area (p.2.1 + 1) acc.2).1 p.2.2 acc.2) (true, s)

/-- ATTACH_LOAD_COMPLETE (R292): the index is attached at the image's epoch, or the ATTACH fails. -/
def execAttachLoadComplete (result : MediaResult) (s : State) : Host.Outcome State Fault Refusal :=
  match s.ralid.attach with
  | none => .next s
  | some a =>
    let s0 := setRalid { s.ralid with attach := none } s
    match result with
    | .mediaError => .next (fail a.tr 0x10 s0)
    | .unrecoverable => .next (fail a.tr 0x11 s0)
    | .ok =>
      match copyImage a s0 with
      | (false, s1) => .next (fail a.tr 0x11 s1)
      | (true, s1) =>
        let h := a.header
        let i : RalIndex :=
          { capacity := nodeCapacity (hSketchSel h) s1, dims := hDims h, sketchSel := hSketchSel h, metric := bit h 386, vecNs := hVecNs h + 1,
            entry := hEntry h, top := hCount h, freed := [],
            dead := (List.range (hCount h)).filter (fun n => decide (rDeath (recordOf n s1) ≤ hEpoch h)) }
        let e := hEpoch h
        let s2 := setRalid { s1.ralid with
          index := some i, current := Epoch.of e, open_ := Epoch.of (e + 1), floor := Epoch.of e, shards := readShards s1, staged := [],
          log := [], pass := none, covered := none, logFull := false, edgesDropped := 0 } s1
        .next (complete a.tr 0 0 0 (startPass s2))

/-- DETACH (R293): new commands are refused from now on. -/
def execDetach (tr : Nat) (s : State) : Host.Outcome State Fault Refusal :=
  match readyTask tr 0x35 s with
  | none => .next s
  | some _ =>
    if !ralidServes s then .next (fail tr 0x03 s)
    else .next (setRalid { s.ralid with detach := some tr } (setPhase tr .running s))

/-- DETACH_COMPLETE (R293): no query, insert or PUBLISH remains. -/
def execDetachComplete (s : State) : Host.Outcome State Fault Refusal :=
  match s.ralid.detach with
  | none => .next s
  | some tr => if ralidBusy s || s.ralid.publish.isSome then .next s else .next (complete tr 0 0 0 (detachIndex s))

/-! Registers. -/

/-- A write to RAL_LOG: ignored while an index is attached. -/
def writeRalLog (value : W64) (s : State) : State :=
  if s.ralid.index.isSome then s else setRalid { s.ralid with logReg := value &&& 0xFFFF00FFFFFFFFFF#64 } s

/-- A write to RAL_PARAM: ignored while an index is attached. -/
def writeRalParam (value : W64) (s : State) : State :=
  if s.ralid.index.isSome then s else setRalid { s.ralid with paramReg := value &&& 0xFFFFFF0000000000#64 } s

/-- A write to RAL_SHARDS. -/
def writeRalShards (value : W64) (s : State) : State := setRalid { s.ralid with shardsReg := value &&& 0x001FFFFFFFFFFFFF#64 } s

/-- RAL_LOG_WRITE: ignored while an index is attached; reserved bits are not stored. -/
def execRalLogWrite (value : W64) (s : State) : Host.Outcome State Fault Refusal :=
  .next (regWrite 7 false (writeRalLog value) s)

/-- RAL_PARAM_WRITE: ignored while an index is attached. -/
def execRalParamWrite (value : W64) (s : State) : Host.Outcome State Fault Refusal :=
  .next (regWrite 7 false (writeRalParam value) s)

/-- RAL_SHARDS_WRITE (R294): at any time; latched at the next ATTACH or PUBLISH. -/
def execRalShardsWrite (value : W64) (s : State) : Host.Outcome State Fault Refusal :=
  .next (regWrite 7 false (writeRalShards value) s)

/-- RAL_STATUS. -/
def ralStatus (s : State) : Nat :=
  let r := s.ralid
  b2n r.index.isSome * 2 ^ 63 + b2n (r.publish.isSome || r.attach.isSome || r.detach.isSome) * 2 ^ 62 + b2n r.covered.isSome * 2 ^ 61
    + b2n r.logFull * 2 ^ 60 + r.inserts.length % 8192 * 2 ^ 47
    + (r.staged.length + (r.publish.map (·.keys.length)).getD 0) % 2 ^ 17 * 2 ^ 30 + queriesInFlight s % 2 ^ 15 * 2 ^ 15 + r.edgesDropped

/-- RAL_NODES. -/
def ralNodes (s : State) : Nat :=
  match s.ralid.index with
  | some i => i.freeNodes % 2 ^ 32 * 2 ^ 32 + i.capacity
  | none => 0

/-- RAL_EPOCH_CUR and RAL_EPOCH_FLOOR. -/
def Epoch.reg (e : Epoch) : Nat := e.n % 2 ^ 24 * 2 ^ 24 + e.v % 2 ^ 24

/-! Query messages (R295, R330). -/

def mId (p : Parcel) : Nat := phBits p 141 110
def mSeg (p : Parcel) : Nat := phBits p 109 106
def mSegs (p : Parcel) : Nat := phBits p 105 102

/-- The fields of a QUERY or RESULT parcel (R319). -/
def messageOk (p : Parcel) : Bool :=
  commonFieldsOk p && phFmt p == 0 && phCtx p == 0 && phWords p != 0 && phBits p 101 72 == 0
    && decide (1 ≤ mSegs p) && decide (mSegs p ≤ 3) && decide (mSeg p < mSegs p)

/-- Remote queries that wait for admission (R295). -/
def remoteWaiting (s : State) : Nat :=
  (s.ralid.queries.filter (fun p => p.2.walker.isNone && (match p.2.origin with | .shard _ _ => true | .host _ => false))).length

/-- A refused remote query: a RESULT without entries (R295). -/
def refuseRemote (device id e : Nat) (s : State) : State :=
  bump 2 0 11 1 (sendResult device id (leBytes 64 (summaryOf e 0x03 0 0 0 0 0 0 false 0)) s)

/-- A whole QUERY message has arrived (R295). -/
def remoteQuery (device id : Nat) (bytes : List Byte) (s : State) : State :=
  let field := fun (a n : Nat) => leNat ((bytes.drop a).take n)
  let e := field 0 4 % 2 ^ 24
  match s.ralid.index with
  | none => refuseRemote device id e s
  | some i =>
    let next := match s.ralid.publish with
      | some p => e == p.epoch
      | none => false
    let k := field 8 2
    let rr := field 10 2
    let l := field 12 2
    let fits := decide (1 ≤ k) && decide (k ≤ rr) && decide (rr ≤ 256) && decide (rr ≤ l) && decide (l ≤ 512) && decide (1 ≤ field 14 2)
      && field 20 2 == i.dims && bytes.length == 64 + queryMin i && isCompl 24 e (field 4 4 % 2 ^ 24)
    if !ralidServes s || !fits || !(inWindow e s || next) then refuseRemote device id e s
    else
      addQuery
        { origin := .shard device id, stage := if inWindow e s then .waiting else .held, walker := none, k := k, rerank := rr, l := l,
          maxExp := field 14 2, epoch := some e, vec := vectorOf i.dims (bytes.drop 64), sketch := leNat (bytes.drop (64 + 4 * i.dims)),
          resAddr := 0, fanout := false, since := s.tclk, budget := field 16 4, queue := [], expansions := 0, limit := false, ranks := [],
          readsOver := false, expect := [], lists := [], missing := 0, refused := 0, parts := [] } s

/-- The payloads of a message in segment order, once all have arrived. -/
def wholeMessage (segs : Nat) (parts : List (Nat × List W64)) : Option (List Byte) :=
  let found := (List.range segs).map (fun k => (parts.find? (fun p => p.1 == k)).map (·.2))
  if found.all (·.isSome) then some (bytesOf (found.flatMap (·.getD []))) else none

/-- QUERY_PARCEL (R295, R330, R417): a segment of a remote query's message arrives. In PS2 it starts an exit and waits. -/
def execQueryParcel (port : Fin 16) (s : State) : Host.Outcome State Fault Refusal :=
  let n := port.val
  match headParcel n 7 s with
  | none => .next s
  | some p =>
    if !walkersOn s then .next (wakePower 2 s)
    else if !messageOk p then .next (refuse n p 6 s)
    else
      let parts := s.ralid.parts ++ [(phSrc p, mId p, mSeg p, mSegs p, p.payload)]
      let mine := fun (x : Nat × Nat × Nat × Nat × List W64) => x.1 == phSrc p && x.2.1 == mId p
      match wholeMessage (mSegs p) ((parts.filter mine).map (fun x => (x.2.2.1, x.2.2.2.2))) with
      | none => .next (setRalid { s.ralid with parts := parts } (dropParcel n s))
      | some bytes =>
        if Config.remoteWaiting ≤ remoteWaiting s then .next s
        else
          let s1 := dropParcel n s
          .next (remoteQuery (phSrc p) (mId p) bytes (setRalid { s1.ralid with parts := parts.filter (fun x => !mine x) } s1))

/-- SHARD_QUERY_BUDGET_EXPIRY (R295): a held remote query runs out of its budget. -/
def execShardQueryBudgetExpiry (query : Nat) (s : State) : Host.Outcome State Fault Refusal :=
  match Tbl.look s.ralid.queries query with
  | none => .next s
  | some x => if x.stage == .held then .next (refuseQuery query 0x03 s) else .next s

/-- A shard's answer out of its RESULT message. -/
def listOf (device : Nat) (bytes : List Byte) : ShardList :=
  let h := leNat (bytes.take 64)
  let n := min (bits h 479 471) ((bytes.length - 64) / 32)
  { device := device, status := bits h 487 480, late := bits h 470 462, failed := bits h 461 453, limit := bit h 413,
    hits := (List.range n).map (fun k => Hit.ofValue (leNat ((bytes.drop (64 + 32 * k)).take 32))) }

/-- RESULT (R296, R330): a segment of a shard's answer arrives; a whole one is merged. One that no query waits for is
discarded and counted. -/
def execResult (port : Fin 16) (s : State) : Host.Outcome State Fault Refusal :=
  let n := port.val
  match headParcel n 8 s with
  | none => .next s
  | some p =>
    let s1 := dropParcel n s
    match Tbl.look s1.ralid.queries (mId p) with
    | none => .next (bump 4 n 9 1 s1)
    | some x =>
      if !messageOk p || !x.expect.contains (phSrc p) || phSrc p == s.fabric.id then .next (bump 4 n 9 1 s1)
      else
        let parts := x.parts ++ [(phSrc p, mSeg p, mSegs p, p.payload)]
        let s2 := modQuery (mId p) (fun y => { y with parts := parts }) s1
        match wholeMessage (mSegs p) ((parts.filter (fun y => y.1 == phSrc p)).map (fun y => (y.2.1, y.2.2.2))) with
        | none => .next s2
        | some bytes =>
          let gone := fun (r : FabReq) => match r.for_ with
            | .query q d => q == mId p && d == phSrc p
            | _ => false
          let s3 := { s2 with fabric := { s2.fabric with reqs := s2.fabric.reqs.filter (fun r => !gone r.2) } }
          .next (takeList (mId p) (listOf (phSrc p) bytes) s3)

/-! Responses (R319 to R324). -/

/-- RSP (R321): a response is matched to its request; one that matches none is discarded and counted. -/
def execRsp (port : Fin 16) (s : State) : Host.Outcome State Fault Refusal :=
  let n := port.val
  match headParcel n 9 s with
  | none => .next s
  | some p =>
    let s1 := dropParcel n s
    match matchRequest p s with
    | none => .next (bump 4 n 9 1 s1)
    | some r =>
      let code := phRsp p
      match r.for_ with
      | .query q d =>
        if code = 0 then .next (endRequest (phTag p) s1)
        else if code = 4 && r.resends < 2 then .next (respond (phTag p) r code s1)
        else if code = 5 then .next (shardMissing q d (endRequest (phTag p) s1))
        else .next (takeList q { device := d, status := 0x03, late := 0, failed := 0, limit := false, hits := [] } (endRequest (phTag p) s1))
      | _ => .next (respond (phTag p) r code s1)

/-- RESPONSE_TIMEOUT (R324): a request without a response ends as UNREACHABLE. -/
def execResponseTimeout (tag : BitVec 16) (s : State) : Host.Outcome State Fault Refusal :=
  match Tbl.look s.fabric.reqs tag.toNat with
  | none => .next s
  | some r =>
    let s1 := endRequest tag.toNat s
    match r.for_ with
    | .query q d => .next (shardMissing q d s1)
    | _ => .next (requestFailed r causeFabricPeer s1)

/-! Reads of units (R181, R183, R185, R269, R355, R356). -/

/-- Codewords that were lost, and the deepest step. -/
def lostMask (steps : List (Option (Fin 10))) : Nat :=
  ((steps.take 4).zipIdx).foldl (fun m p => if p.1.isNone then m + 2 ^ p.2 else m) 0
def readDepth (steps : List (Option (Fin 10))) : Nat :=
  (steps.take 4).foldl (fun m p => max m (match p with | some k => k.val | none => 9)) 0

/-- A read of a superblock is counted, and may make it due for refresh (R355, R356, R365). -/
def noteRead (sb off : Nat) (steps : List (Option (Fin 10))) (s : State) : State :=
  let b := sbOf sb s
  let depth := readDepth steps
  let ch := unitChannel sb off b
  let soft := (steps.take 4).any (fun p => match p with | some k => k.val == 8 | none => false)
  let rebuilt := (steps.take 4).any (fun p => match p with | some k => k.val == 9 | none => true)
  let s1 := bump 3 ch 3 (b2n rebuilt) (bump 3 ch 2 (b2n soft) (bump 3 ch 1 depth (bump 3 ch 0 1 s)))
  let s2 := modSb sb (fun x => { x with readCount := x.readCount + 1, retryMax := max x.retryMax depth }) s1
  let s3 := if dueDepth s2 ≤ depth + 1 then logWear .ldgRetryDepth sb [sb, depth, b.erases] s2 else s2
  let reg := poolReg b.pool s3
  let s4 := if dueDepth s3 ≤ depth || (reg.refreshEn && decide (reg.readLimit * 2 ^ 20 ≤ b.readCount + 1)) then makeDue sb s3 else s3
  if lostMask steps != 0 then logEvent .ldgUncorrectable (detailWords [sb, off]) s4 else s4

/-- Deliver a read to a re-rank or a command that asked for it. -/
def deliverRead (n : Nat) (r : CellarReq) (lost : Nat) (bus : Bool) (s : State) : State :=
  let s1 := cellarDel n s
  match r.for_ with
  | .rerank q node =>
    match s1.ralid.index, Tbl.look s1.ralid.queries q with
    | some i, some x =>
      if bus || x.stage != .ranking then readReturned q node .failed s1
      else if lost != 0 then readReturned q node .failed s1
      else match readVector i node 0 s1 with
        | (some d, s2) => readReturned q node (.onTime (fullDistance i x.vec d)) s2
        | (none, s2) => readReturned q node .failed s2
    | _, _ => s1
  | .command tr =>
    match Tbl.look s1.flash.ops tr with
    | none => s1
    | some o =>
      match Tbl.look s1.spaces o.ns with
      | none => s1
      | some x =>
        let d := deliverUnit o x.base (r.index - x.base) lost bus s1
        finishOp tr (setOp tr { d.1 with reads := d.1.reads - 1 } d.2)
  | .slot _ _ _ _ _ => s

/-- NAND_READ_COMPLETE (R355, R356, R452): a page read ends. A job's read that ends in an error of its die operation is issued
again once. -/
def execNandReadComplete (request : Nat) (outcome : PageOutcome) (s : State) : Host.Outcome State Fault Refusal :=
  match Tbl.look s.mem.cellar request with
  | none => .next s
  | some r =>
    match r.place with
    | .flash sb off =>
      if !r.issued || r.result.isSome then .next s
      else
        let job := match r.for_ with
          | .slot _ _ _ _ _ => true
          | _ => false
        if outcome.busError then
          if job && !r.again then .next (cellarMod request (fun q => { q with issued := false, again := true }) s)
          else if job then .next (cellarMod request (fun q => { q with result := some .busError }) s)
          else .next (topUpReads (deliverRead request r 0 true s))
        else
          let s1 := noteRead sb off outcome.steps s
          let lost := lostMask outcome.steps
          if job then .next (cellarMod request (fun q => { q with result := some (.read lost) }) s1)
          else .next (topUpReads (deliverRead request r lost false s1))
    | _ => .next s

/-- CELLAR_UNIT_COMPLETE (R181, R182): the unit of a request moves; with the last one the slot is complete. -/
def execCellarUnitComplete (request : Nat) (s : State) : Host.Outcome State Fault Refusal :=
  match Tbl.look s.mem.cellar request with
  | none => .next s
  | some r =>
    match r.for_, r.result with
    | .slot t inbound entry addr fua, _ => .next (completeSlotUnit request r t inbound entry addr fua s)
    | _, some (.read lost) => .next (deliverRead request r lost false s)
    | _, some .busError => .next (deliverRead request r 0 true s)
    | _, none => .next s

/-- CELLAR_REQUEST_DEADLINE (R185): a re-rank read that has not been issued is removed and late; one issued gets a late
mark. -/
def execCellarRequestDeadline (request : Nat) (s : State) : Host.Outcome State Fault Refusal :=
  match Tbl.look s.mem.cellar request with
  | none => .next s
  | some r =>
    match r.for_ with
    | .rerank q node =>
      if r.issued then .next (cellarMod request (fun x => { x with late := true }) s)
      else
        let ch := match r.place with
          | .flash sb off => unitChannel sb off (sbOf sb s)
          | _ => 2 * r.porter
        .next (topUpReads (readReturned q node .late (bump 3 ch 9 1 (cellarDel request s))))
    | _ => .next s

end Sys2Proof.Machine
end

