-- ==== Sys2Proof/Machine/Embed.lean ====
section
/-! DEFINITION. The family of embedding commands and of the batch controller (chapter 08). -/

namespace Sys2Proof.Machine

/-! Binding (R232 to R236). -/

/-- The fields of a model table (Table: Model table). -/
def modelOf (v : Nat) : ModelTable :=
  { batchBuffer := bits v 511 472, embedTable := bits v 471 432, vocab := bits v 431 408, padId := bits v 407 384,
    rowUnits := bits v 383 378, outDim := bits v 377 366, sketchSel := bits v 365 364, boundaryLr := bits v 363 354 }

/-- Bytes of a token row, and of the batch buffer (R236). -/
def rowBytes (m : ModelTable) : Nat := m.rowUnits * 64
def batchBytes (m : ModelTable) : Nat := 0x410000 + 64 * 512 * rowBytes m

/-- A model table is in range, and its addresses lie in the job area (R234, R235). -/
def modelOk (m : ModelTable) (s : State) : Bool :=
  m.batchBuffer % 65536 == 0 && m.embedTable % 64 == 0 && decide (1 ≤ m.vocab) && decide (m.padId < m.vocab) && decide (1 ≤ m.rowUnits)
    && decide (256 ≤ m.outDim) && decide (m.outDim ≤ 2048) && m.outDim % 64 == 0 && m.sketchSel != 3
    && inJobArea m.batchBuffer (batchBytes m) s && inJobArea m.embedTable (m.vocab * rowBytes m) s

/-- The checks that EMBED_BIND adds after check 3 (R234). -/
def bindCheck (modelAt : Nat) (d : BitVec 1024) (s : State) : Option Nat × State :=
  if jClass d != 1 || jFabric d || !inJobArea modelAt 64 s then (some 0x01, s)
  else match readNat modelAt 64 s with
    | (none, s1) => (some 0x11, s1)
    | (some v, s1) =>
      let m := modelOf v
      if !modelOk m s1 || jLrCount d ≤ m.boundaryLr then (some 0x01, s1)
      else match readNat (jLrTable d + 16 * m.boundaryLr) 16 s1 with
        | (none, s2) => (some 0x11, s2)
        | (some l, s2) => (if lrYield l && !lrRemote l then none else some 0x01, s2)

/-- Places in the batch buffer (R236). -/
def slotBuffer (m : ModelTable) (k : Nat) : Nat := m.batchBuffer + k * 65536
def batchEntry (m : ModelTable) (k : Nat) : Nat := m.batchBuffer + 0x400000 + 16 * k
def inputBuffer (m : ModelTable) (k : Nat) : Nat := m.batchBuffer + 0x410000 + k * 512 * rowBytes m

/-- A batch-table entry (Table: Batch-table entry). -/
def batchWord (valid first last : Bool) (tokens position total : Nat) : Nat :=
  b2n valid * 2 ^ 127 + b2n first * 2 ^ 126 + b2n last * 2 ^ 125 + tokens * 2 ^ 96 + position * 2 ^ 64 + total * 2 ^ 32

/-- An empty slot's entry (R245). -/
def emptyEntry (m : ModelTable) (s : State) (k : Nat) : State := putStacked (batchEntry m k) (leBytes 16 (batchWord false false false 0 0 1)) s

/-- EMBED_BIND (R234): the checks of a submission with its own, then an empty batch table, and the job is admitted. -/
def execEmbedBind (tr : Nat) (lib : LibVerdict) (s : State) : Host.Outcome State Fault Refusal :=
  match readyTask tr 0x40 s with
  | none => .next s
  | some t =>
    if s.embed.bound.isSome then .next (fail tr 0x03 s)
    else match submitCheck (dPtr0 t.desc) lib (bindCheck (dPtr1 t.desc)) s with
      | (.error st, s1) => .next (fail tr st s1)
      | (.ok (d, hv, signed), s1) =>
        match admitJob tr t d hv signed s1 with
        | .error st => .next (fail tr st s1)
        | .ok (e, s2) =>
          let m := modelOf (leNat (stackedBytes (dPtr1 t.desc) 64 s1))
          let s3 := (List.range Config.batchSlots).foldl (emptyEntry m) s2
          .next (schedule (setEmbed { Embed.reset with bound := some e, model := m, lastEnd := s3.tclk } s3))

/-! Contexts (R239, R240). -/

/-- Contexts that the sequence-context area holds. -/
def contextCount (s : State) : Nat := min Config.contexts (((area 6 s).2 - (area 6 s).1) / 65536)

/-- Base of a context. -/
def contextAt (i : Nat) (s : State) : Nat := (area 6 s).1 + i * 65536

def contextsFree (s : State) : Nat := contextCount s - s.embed.ctxs.length

/-- Tokens of a document's next window (R243). -/
def windowTokens (d : EmbedDoc) : Nat := min 512 (d.tokenCount - d.tokensDone)

/-- Change a context. -/
def modCtx (i : Nat) (f : EmbedDoc → EmbedDoc) (s : State) : State := setEmbed { s.embed with ctxs := Tbl.adjust s.embed.ctxs i f } s

/-- A document leaves and frees its context (R241, R250). -/
def leaveCtx (i status : Nat) (inserted : Bool) (vec sketch : List Byte) (s : State) : State :=
  match Tbl.look s.embed.ctxs i with
  | none => s
  | some d => leaveDoc d status inserted vec sketch (setEmbed { s.embed with ctxs := Tbl.del s.embed.ctxs i } s)

/-! Admission and selection (R241, R244, R245). -/

/-- A document receives the lowest free context: zeros but for the token region. -/
def admitDoc (s : State) (d : EmbedDoc) : State :=
  match Tbl.freeKey s.embed.ctxs 0 (contextCount s) with
  | none => s
  | some i =>
    let s1 := putStacked (contextAt i s + 0x800) (List.replicate 0xF800 0#8) s
    setEmbed { s1.embed with
      ctxs := Tbl.put s1.embed.ctxs i { d with admitSeq := s1.embed.admitSeq }
      admitSeq := (s1.embed.admitSeq + 1) % 2 ^ 32
      work := { s1.embed.work with joined := satAdd 16 s1.embed.work.joined 1 } } s1

/-- Commands are admitted from the head of the queue while the head fits, each whole (R241). -/
def admitCommands : List Nat → State → State
  | [], s => s
  | tr :: rest, s =>
    match Tbl.look s.embed.cmds tr with
    | none => s
    | some c =>
      if contextsFree s < c.docs.length then s
      else
        let s1 := setEmbed { s.embed with queue := s.embed.queue.filter (· != tr) } s
        admitCommands rest (c.docs.foldl admitDoc s1)

/-- Whether `a` was admitted before `b`. -/
def insertByAdmit (a : Nat × EmbedDoc) : List (Nat × EmbedDoc) → List (Nat × EmbedDoc)
  | [] => [a]
  | b :: bs => if a.2.admitSeq < b.2.admitSeq then a :: b :: bs else b :: insertByAdmit a bs

/-- Contexts in order of admission. -/
def byAdmit (s : State) : List (Nat × EmbedDoc) := s.embed.ctxs.foldl (fun acc p => insertByAdmit p acc) []

/-- The input buffer of a slot: a row for each token, and pad rows beyond them (R245, R247). -/
def writeInput (m : ModelTable) (k : Nat) (tokens : List Nat) (s : State) : State :=
  let row := fun (n : Nat) => stackedBytes (m.embedTable + n * rowBytes m) (rowBytes m) s
  (List.range 512).foldl (fun acc t => putStacked (inputBuffer m k + t * rowBytes m) (row (tokens.getD t m.padId)) acc) s

/-- Prepare slot `k` for the document in context `i`; a context that cannot be read makes the document fail (R247, R499). -/
def prepareSlot (k i : Nat) (d : EmbedDoc) (s : State) : State :=
  let m := s.embed.model
  match readStacked (contextAt i s) 65536 s with
  | (.error _, s1) => modCtx i (fun x => { x with fail := 0x11 }) s1
  | (.ok bytes, s1) =>
    let n := windowTokens d
    let tokens := (List.range n).map (fun t => leNat ((bytes.drop (4 * t)).take 4))
    let last := decide (d.tokenCount ≤ d.tokensDone + n)
    let s2 := writeInput m k tokens (putStacked (slotBuffer m k) bytes s1)
    let s3 := putStacked (batchEntry m k) (leBytes 16 (batchWord true (d.tokensDone == 0) last n d.tokensDone d.tokenCount)) s2
    setEmbed { s3.embed with
      slots := Tbl.put s3.embed.slots k { ctx := i, tokens := n, last := last }
      ctxs := Tbl.adjust s3.embed.ctxs i (fun x => { x with running := true }) } s3

/-- Fill empty slots with the staged documents, in order of admission (R244). -/
def selectBatch : List (Nat × EmbedDoc) → State → State
  | [], s => s
  | (i, d) :: rest, s =>
    if !d.staged || d.fail != 0 || d.running then selectBatch rest s
    else match Tbl.freeKey s.embed.slots 0 Config.batchSlots with
      | none => s
      | some k => selectBatch rest (prepareSlot k i d s)

/-- Slots that stay empty are written as empty (R245). -/
def writeEmpty (s : State) : State :=
  (List.range Config.batchSlots).foldl (fun acc k =>
    if (Tbl.look acc.embed.slots k).isSome then acc else writeInput acc.embed.model k [] (emptyEntry acc.embed.model acc k)) s

/-- Admission and selection; while an EMBED_UNBIND is in progress nothing is admitted (R255). -/
def admitAndSelect (s : State) : State :=
  let s1 := if s.embed.unbindTr.isSome then s else admitCommands s.embed.queue s
  selectBatch (byAdmit s1) s1

/-- The service is held at the boundary Waypoint without the complex (R249). -/
def heldAtBoundary (s : State) : Bool :=
  match s.embed.bound with
  | none => false
  | some e =>
    match jobOf e s with
    | none => false
    | some j => j.state != .running && j.hasWp && j.lr == s.embed.model.boundaryLr && s.embed.boundary == .none

/-- ADMISSION_RERUN (R249): the slots already prepared stay, empty ones are filled, and the job has work when one is valid. -/
def rerunAdmission (s : State) : State :=
  if !heldAtBoundary s then s
  else
    let s1 := admitAndSelect s
    match s1.embed.bound with
    | some e => if s1.embed.slots.isEmpty then s1 else schedule (setWork e s1)
    | none => s1

/-! EMBED_SUBMIT, EMBED_CANCEL, EMBED_UNBIND (R237, R238, R255). -/

/-- A document list entry (Table: Document list entry). -/
def docOf (tr index v : Nat) : EmbedDoc :=
  { tr := tr, index := index, key := BitVec.ofNat 64 (bits v 255 192), srcAddr := bits v 191 128, tokenCount := bits v 127 96,
    srcNs := bits v 95 91, srcKind := bits v 90 89, tokensDone := 0, windowsDone := 0, staged := false, fail := 0, admitSeq := 0,
    running := false, reading := false }

/-- A list entry is valid (R238). -/
def docOk (grant : Nat) (s : State) (d : EmbedDoc) : Bool :=
  decide (1 ≤ d.tokenCount) && decide (d.tokenCount ≤ 262144) && d.srcAddr % 4 == 0
    && (if d.srcKind = 0 then d.srcNs == 0 && decide (d.srcAddr + 4 * d.tokenCount < 2 ^ 64)
        else if d.srcKind = 1 then
          bit grant d.srcNs && (match nsFind (d.srcNs + 1) s with
            | some x => decide (d.srcAddr + 4 * d.tokenCount ≤ x.blocks * 4096)
            | none => false)
        else false)

def eCount (d : BitVec 1024) : Nat := dParam d 335 320
def eFmt (d : BitVec 1024) : Nat := dParam d 337 336
def eSketch (d : BitVec 1024) : Bool := bit d.toNat 338
def eInsert (d : BitVec 1024) : Bool := bit d.toNat 339

/-- A service is bound and no EMBED_UNBIND is in progress (R233). -/
def embedServes (s : State) : Bool := s.embed.bound.isSome && s.embed.unbindTr.isNone

/-- EMBED_SUBMIT (R237, R238): `list` is the document list as read from the host. While the admission queue is full the
command waits (R242). -/
def execEmbedSubmit (tr : Nat) (list : List Byte) (s : State) : Host.Outcome State Fault Refusal :=
  match readyTask tr 0x41 s with
  | none => .next s
  | some t =>
    let d := t.desc
    let n := eCount d
    if n = 0 || 4096 < n || eFmt d = 3 || dPtr0 d % 32 != 0 || dPtr1 d % 64 != 0 then .next (fail tr 0x01 s)
    else if dLen0 d < 32 * n || (s.embed.bound.isSome && dLen1 d < n * recordSize s.embed.model (eFmt d) (eSketch d)) then .next (fail tr 0x02 s)
    else if !embedServes s then .next (fail tr 0x03 s)
    else
      let docs := (List.range n).map (fun k => docOf tr k (leNat ((list.drop (32 * k)).take 32)))
      let grant := match s.embed.bound.bind (fun e => jobOf e s) with
        | some j => jNsGrant j.desc
        | none => 0
      if !docs.all (docOk grant s) then .next (fail tr 0x01 s)
      else if Config.admissionQueue ≤ s.embed.queue.length then .next s
      else
        let c : EmbedCmd := { docs := docs, outAddr := dPtr1 d, hostFmt := eFmt d, hostSketch := eSketch d, insert := eInsert d, left := n,
                              good := 0, bad := none }
        let s1 := setPhase tr .running s
        .next (rerunAdmission (setEmbed { s1.embed with queue := s1.embed.queue ++ [tr], cmds := Tbl.put s1.embed.cmds tr c } s1))

/-- EMBED_CANCEL (R255): a queued command is removed. -/
def execEmbedCancel (tr : Nat) (s : State) : Host.Outcome State Fault Refusal :=
  match readyTask tr 0x42 s with
  | none => .next s
  | some t =>
    if !embedServes s then .next (fail tr 0x03 s)
    else
      let named := s.embed.cmds.find? (fun p => match Tbl.look s.rings.tasks p.1 with
        | some x => dTag x.desc == dParam t.desc 351 320 && x.sq == dParam t.desc 359 352
        | none => false)
      match named with
      | none => .next (fail tr 0x01 s)
      | some (k, _) =>
        if s.embed.queue.contains k then .next (complete tr 0 0 0 (abortCmd k s)) else .next (fail tr 0x03 s)

/-- EMBED_UNBIND (R255): queued commands end with ABORTED, and nothing further is admitted. -/
def execEmbedUnbind (tr : Nat) (s : State) : Host.Outcome State Fault Refusal :=
  match readyTask tr 0x43 s with
  | none => .next s
  | some _ =>
    if !embedServes s then .next (fail tr 0x03 s)
    else
      let s1 := s.embed.queue.foldl (fun acc k => abortCmd k acc) s
      .next (setPhase tr .running (setEmbed { s1.embed with unbindTr := some tr, queue := [] } s1))

/-- EMBED_UNBIND_COMPLETE (R255): the last context is free. -/
def execEmbedUnbindComplete (s : State) : Host.Outcome State Fault Refusal := .next (finishUnbind s)

/-! Staging (R243). -/

/-- STAGING_READ_START (R243): the next window of the document admitted first among those not staged. -/
def execStagingReadStart (s : State) : Host.Outcome State Fault Refusal :=
  let flying := (s.embed.ctxs.filter (fun p => p.2.reading)).length
  if Config.stagingFlight ≤ flying then .next s
  else match (byAdmit s).find? (fun p => !p.2.staged && !p.2.reading && p.2.fail == 0) with
    | none => .next s
    | some (i, _) => .next (modCtx i (fun d => { d with reading := true }) s)

/-- STAGING_READ_COMPLETE (R243): the tokens are in the context's token region and are checked, or the read failed. -/
def execStagingReadComplete (ctx : Nat) (result : MediaResult) (tokens : List W32) (s : State) : Host.Outcome State Fault Refusal :=
  match Tbl.look s.embed.ctxs ctx with
  | none => .next s
  | some d =>
    if !d.reading then .next s
    else
      let ts := padTo (windowTokens d) 0#32 tokens
      let done := fun (f : Nat) (st : Bool) (x : State) => modCtx ctx (fun q => { q with reading := false, staged := st, fail := f }) x
      match result with
      | .mediaError => .next (rerunAdmission (done 0x10 false s))
      | .unrecoverable => .next (rerunAdmission (done 0x11 false s))
      | .ok =>
        let s1 := putStacked (contextAt ctx s) (ts.flatMap (fun t => leBytes 4 t.toNat)) s
        let bad := ts.any (fun t => decide (s.embed.model.vocab ≤ t.toNat))
        .next (rerunAdmission (done (if bad then 0x01 else 0) true s1))

/-! The boundary procedure (R247 to R253). -/

/-- What the ending of a slot did. -/
inductive SlotEnd where
  | done (s : State)
  /-- Ralid's insert staging is full (R253). -/
  | waits

/-- Hand a finished document to Ralid: accepted, refused, or it has to wait (R253). -/
def handInsert (key : Nat) (vec : List Byte) (sketch : Nat) (s : State) : Option (Bool × State) :=
  match s.ralid.index with
  | none => some (false, s)
  | some i =>
    if !ralidServes s || i.dims != s.embed.model.outDim || i.sketchSel != s.embed.model.sketchSel then some (false, s)
    else if !insertRoom s then none
    else match startInsert none key (padTo (vecBytes i.dims) 0#8 vec) sketch i s with
      | some s1 => some (true, s1)
      | none => some (false, s)

/-- The end of a valid slot: a last window's document leaves with its outputs, any other is copied back (R247). -/
def endSlot (k : Nat) (b : BatchSlot) (s : State) : SlotEnd :=
  match Tbl.look s.embed.ctxs b.ctx with
  | none => .done s
  | some d0 =>
    let m := s.embed.model
    let d := { d0 with tokensDone := d0.tokensDone + b.tokens, windowsDone := d0.windowsDone + 1, staged := false, running := false }
    match readStacked (slotBuffer m k) 65536 s with
    | (.error _, s1) => .done (leaveCtx b.ctx 0x11 false [] [] (modCtx b.ctx (fun _ => d) s1))
    | (.ok bytes, s1) =>
      let s2 := modCtx b.ctx (fun _ => d) s1
      if !b.last then .done (putStacked (contextAt b.ctx s2) bytes s2)
      else match Tbl.look s2.embed.cmds d.tr with
        | none => .done s2
        | some c =>
          let part := fun (a n : Nat) => (bytes.drop a).take n
          let mx := part 0x4800 (m.outDim + m.outDim / 32)
          let sk := part 0x5400 (sketchBits m / 8)
          let vec := if c.hostFmt = 1 then padTo (up64 mx.length) 0#8 mx else if c.hostFmt = 2 then part 0x2800 (4 * m.outDim) else []
          let sko := if c.hostSketch then padTo (up64 sk.length) 0#8 sk else []
          if !c.insert then .done (leaveCtx b.ctx 0 false vec sko s2)
          else match handInsert d.key.toNat mx (leNat sk) s2 with
            | none => .waits
            | some (true, s3) => .done (leaveCtx b.ctx 0 true vec sko s3)
            | some (false, s3) => .done (leaveCtx b.ctx 0x21 false vec sko s3)

/-- The slots of the ending step in order; those done are gone from the table. -/
def endSlots : List (Nat × BatchSlot) → State → State
  | [], s => s
  | (k, b) :: rest, s =>
    match endSlot k b s with
    | .waits => setEmbed { s.embed with boundary := .waits k, waitFrom := s.tclk } s
    | .done s1 => endSlots rest (setEmbed { s1.embed with slots := Tbl.del s1.embed.slots k } s1)

/-- Documents with a failure leave (R250). -/
def leaveFailed (s : State) : State :=
  ((byAdmit s).filter (fun p => p.2.fail != 0)).foldl (fun acc p => leaveCtx p.1 p.2.fail false [] [] acc) s

/-- The procedure from its slots on: unless it has to wait, failures leave, commands are admitted, the batch is prepared and
its transfers run. -/
def runBoundary (s : State) : State :=
  let s1 := endSlots s.embed.slots (setEmbed { s.embed with boundary := .running } s)
  if s1.embed.boundary != .running then s1
  else
    let s2 := writeEmpty (admitAndSelect (leaveFailed s1))
    let unstaged := (s2.embed.ctxs.filter (fun p => !p.2.staged && p.2.fail == 0)).length
    let wait := if s2.embed.queue.isEmpty then 0 else satAdd 32 s2.embed.headWait 1
    setEmbed { s2.embed with headWait := wait, work := { s2.embed.work with
      inUse := min s2.embed.ctxs.length 65535, unstaged := min unstaged 255, queueCmds := s2.embed.queue.length, headWait := wait } } s2

/-- BATCH_STEP_BOUNDARY (R247): the procedure begins. -/
def execBatchStepBoundary (s : State) : Host.Outcome State Fault Refusal :=
  if s.embed.boundary != .due then .next s
  else
    let w := { EmbStats.zero with
      stepUs := min ((s.tclk - s.embed.lastEnd) / Config.tclkPerUs) (2 ^ 32 - 1), validSlots := s.embed.slots.length,
      tokens := s.embed.slots.foldl (fun n p => n + p.2.tokens) 0 }
    .next (runBoundary (setEmbed { s.embed with work := w } s))

/-- BOUNDARY_INSERT_RESUME (R253): Ralid has space again. -/
def execBoundaryInsertResume (s : State) : Host.Outcome State Fault Refusal :=
  match s.embed.boundary with
  | .waits _ =>
    if !insertRoom s then .next s
    else
      let us := (s.tclk - s.embed.waitFrom) / Config.tclkPerUs
      .next (runBoundary (setEmbed { s.embed with work := { s.embed.work with insertWaitUs := satAdd 16 s.embed.work.insertWaitUs us } } s))
  | _ => .next s

/-- BOUNDARY_PROCEDURE_END (R247, R248, R257): the statistics are latched, the work-pending bit is set for a batch with a valid
slot, the statistics windows end, and the scheduler decides at the Waypoint. -/
def execBoundaryProcedureEnd (durationUs : Nat) (s : State) : Host.Outcome State Fault Refusal :=
  match s.embed.boundary, s.embed.bound with
  | .running, some e =>
    let st := { s.embed.work with boundaryUs := min durationUs 65535 }
    let s1 := setEmbed { s.embed with boundary := .none, stats := st, work := EmbStats.zero, seq := (s.embed.seq + 1) % 2 ^ 32, lastEnd := s.tclk } s
    let s2 := windowsEnd .batch s1
    let s3 := if s2.embed.slots.isEmpty then s2 else modJob e (fun j => { j with workPending := true }) s2
    .next (waypointDecision e s3)
  | _, _ => .next s

/-- The 256-bit value of RNG_EMB_STATS (Table: RNG_EMB_STATS). -/
def embStatsValue (s : State) : Nat :=
  let e := s.embed.stats
  s.embed.seq * 2 ^ 224 + e.stepUs * 2 ^ 192 + e.inUse * 2 ^ 176 + e.joined * 2 ^ 160 + e.left * 2 ^ 144 + e.failed * 2 ^ 128
    + e.validSlots * 2 ^ 120 + e.unstaged * 2 ^ 112 + e.queueCmds * 2 ^ 96 + e.headWait * 2 ^ 64 + e.tokens * 2 ^ 32
    + e.insertWaitUs * 2 ^ 16 + e.boundaryUs

/-- RNG_EMB_STATUS (Table: RNG_EMB_STATUS). -/
def embStatus (s : State) : Nat :=
  b2n s.embed.bound.isSome * 2 ^ 31 + b2n s.embed.unbindTr.isSome * 2 ^ 30 + s.embed.queue.length * 2 ^ 16 + contextsFree s

end Sys2Proof.Machine
end

