-- ==== Sys2Proof/Machine/CflOps.lean ====
section
/-! DEFINITION. Shared operations of the configuration flash (chapter 16): array, markers, sequences, records. -/

namespace Sys2Proof.Machine

/-- What a byte of the array reads as where nothing has been programmed: the erased value. -/
def onesByte (_ : Nat) : Byte := 0xFF#8

/-- Bytes of a sector, and of a page (R467). -/
def sectorBytes : Nat := 0x40000
def pageBytes : Nat := 512

def setCfl (f : Cfl → Cfl) (s : State) : State := { s with cfl := f s.cfl }

/-- The bank controller `b`. -/
def cflBank (b : Nat) (s : State) : CflBank := Tbl.lookD s.cfl.banks b CflBank.reset

def setBank (b : Nat) (f : CflBank → CflBank) (s : State) : State :=
  setCfl (fun c => { c with banks := Tbl.upd c.banks b CflBank.reset f }) s

/-- The configuration flash has been released and answers (R462, R489). -/
def cflServes (s : State) : Bool := alive s && released 2 s && !s.boot.cflBarred

/-! Markers (R477, R478). -/

/-- A marker and its complement. -/
def markerHalf (v : Nat) : Nat := v % 2 ^ 64 + compl 64 v * 2 ^ 64
def startMarker (count : Nat) : Nat := markerHalf (0x5354 * 2 ^ 48 + count % 2 ^ 32 * 2 ^ 16)
def doneMarker (count pulses : Nat) : Nat := markerHalf (0x444E * 2 ^ 48 + count % 2 ^ 32 * 2 ^ 16 + min 15 pulses * 2 ^ 12)

/-- A half marker area that is blank. -/
def blankHalf : Nat := 2 ^ 128 - 1

/-- The marker area of a sector that nothing has erased since manufacture: blank start marker, done count 0 (log 29). -/
def freshMarks : BitVec 256 := BitVec.ofNat 256 (blankHalf + doneMarker 0 0 * 2 ^ 128)

/-- The marker area of a sector; sectors 2,048 to 2,051 are the hidden ones. -/
def marksOf (sec : Nat) (s : State) : BitVec 256 := Tbl.lookD s.cfl.marks sec freshMarks

def setMarks (sec : Nat) (v : Nat) (s : State) : State :=
  setCfl (fun c => { c with marks := Tbl.put c.marks sec (BitVec.ofNat 256 v) }) s

/-- The start and the done marker with their complements. -/
def startHalf (m : BitVec 256) : Nat := m.toNat % 2 ^ 128
def doneHalf (m : BitVec 256) : Nat := m.toNat / 2 ^ 128

/-- States of a marker (R477). -/
inductive MarkState where
  | blank | valid | cleared | damaged
  deriving DecidableEq, Repr

/-- The state of a half with the given tag. Only a done marker can be cleared. -/
def markState (tag h : Nat) : MarkState :=
  if h = blankHalf then .blank
  else if bits h 63 48 = tag && isCompl 64 (bits h 63 0) (bits h 127 64) then .valid
  else if h = 0 && tag = 0x444E then .cleared
  else .damaged

def startState (m : BitVec 256) : MarkState := markState 0x5354 (startHalf m)
def doneState (m : BitVec 256) : MarkState := markState 0x444E (doneHalf m)
def startCount (m : BitVec 256) : Nat := bits (startHalf m) 47 16
def doneCount (m : BitVec 256) : Nat := bits (doneHalf m) 47 16
def donePulses (m : BitVec 256) : Nat := bits (doneHalf m) 15 12

/-- The bank of a sector, hidden ones included. -/
def bankOfSector (sec : Nat) : Nat := if sec < 2048 then sec / 1024 else (sec - 2048) / 2

/-- The count that an erase of the sector records: the done count plus 1; where that marker is not valid, R481. -/
def eraseCount (sec : Nat) (s : State) : Nat :=
  let m := marksOf sec s
  if startState m = .valid then startCount m
  else if doneState m = .valid then doneCount m + 1
  else
    let others := s.cfl.marks.filter (fun p => p.1 != sec && bankOfSector p.1 == bankOfSector sec && doneState p.2 == .valid)
    others.foldl (fun n p => Nat.max n (doneCount p.2)) 0

/-- Steps 1 to 3 of R478: the done marker is programmed to zeros, the start marker with the count. Programming clears
bits only. -/
def eraseBegin (sec count : Nat) (s : State) : State :=
  setMarks sec (Nat.land (startHalf (marksOf sec s)) (startMarker count)) s

/-- The sector's content and markers are erased. -/
def eraseContent (sec : Nat) (s : State) : State :=
  if sec < 2048 then
    setCfl (fun c => { c with array := c.array.filter (fun p => p.1 / sectorBytes != sec) }) s
  else setCfl (fun c => { c with rows := Tbl.del c.rows (sec - 2048) }) s

/-- Step 5 of R478, after a verify that passed. -/
def eraseDone (sec count pulses : Nat) (s : State) : State :=
  setMarks sec (blankHalf + doneMarker count pulses * 2 ^ 128) (eraseContent sec s)

/-- An erase of 4 or more pulses is logged once per sector between full resets with rails (R479). -/
def logSlowErase (sec pulses count : Nat) (s : State) : State :=
  if pulses < 4 || s.cfl.slowLogged.contains sec then s
  else logEvent .cflEraseSlow (detailWords [sec, pulses, count])
    (setCfl (fun c => { c with slowLogged := sec :: c.slowLogged }) s)

/-- The programmed bytes of a sector whose erase did not end: unspecified. -/
def spoilSector (sec : Nat) (s : State) : State :=
  let spoil := fun (p : Host.Cell) =>
    if p.1 / sectorBytes = sec then
      let v := Config.unspecifiedByte s.drawn (p.1 % sectorBytes)
      if v = 0xFF#8 then none else some (p.1, v)
    else some p
  let s1 := { s with drawn := s.drawn + 1 }
  setCfl (fun c => { c with array := c.array.filterMap spoil }) s1

/-- An erase whose verify still fails after the 10th pulse (R479): the start marker stays. -/
def eraseFailed (sec pulses count : Nat) (s : State) : State :=
  let s1 := setCfl (fun c => { c with failedErases := satAdd 12 c.failedErases 1 }) (spoilSector sec s)
  logEvent .cflEraseFail (detailWords [sec, pulses, count]) s1

/-- A whole erase with a given number of pulses, as start-up makes it (R480): 11 stands for a verify that fails after the
10th pulse. -/
def eraseWhole (sec count pulses : Nat) (s : State) : State :=
  let s1 := eraseBegin sec count s
  if pulses ≤ 10 then eraseDone sec count pulses (logSlowErase sec pulses count s1)
  else eraseFailed sec 10 count (logSlowErase sec 10 count s1)

/-- A whole erase whose pulses are a free value. -/
def eraseDrawn (sec : Nat) (s : State) : State :=
  let d := drawFree s
  eraseWhole sec (eraseCount sec s) (d.1.toNat % 11 + 1) d.2

/-! Programming (R475). -/

/-- The array with each byte from `a` ANDed with `bytes`. -/
def cflProgram (a : Nat) (bytes : List Byte) (s : State) : State :=
  setCfl (fun c =>
    let old := Mem.read onesByte c.array a bytes.length
    { c with array := Mem.write onesByte c.array a (List.zipWith (· &&& ·) old bytes) }) s

/-- Bytes of a page whose programming failed or was cut off: unspecified until the next erase (R476). -/
def cflSpoil (a n : Nat) (s : State) : State :=
  let fresh := (List.range n).map (fun i => Config.unspecifiedByte s.drawn i)
  let s1 := { s with drawn := s.drawn + 1 }
  setCfl (fun c => { c with array := Mem.write onesByte c.array a fresh }) s1

/-- The page buffer: ones, with each data store written into it. -/
def pageBuffer (words : List (Nat × W64)) : List Byte :=
  Mem.read onesByte (words.foldl (fun m w => Mem.write onesByte m (w.1 * 8) (leBytes 8 w.2.toNat)) []) 0 pageBytes

/-! Groups and protection (R472, R483, R484). -/

/-- Group `g` (0 to 31) is protected: groups 15 and 31 always. -/
def cflProtected (g : Nat) (s : State) : Bool := g == 15 || g == 31 || bit s.cfl.prot g

def cflLocked (g : Nat) (s : State) : Bool := bit s.cfl.locked g

/-- Set bit `i` of `v` to `b`. -/
def setBitN (v i : Nat) (b : Bool) : Nat := v - b2n (bit v i) * 2 ^ i + b2n b * 2 ^ i

/-- The protection row of a bank in force: of its two hidden sectors, the one with the higher sequence number (R485). A
bank without one has its groups unprotected with passwords of zero. -/
def freshRow : ProtRow := { seq := 0, bits := 0, bitsN := 0xFFFF, passwords := List.replicate 16 0#64 }

/-- A row whose bits and complements agree; and its agreement in one group. -/
def ProtRow.agrees (r : ProtRow) : Bool := isCompl 16 r.bits r.bitsN
def ProtRow.agreesAt (g : Nat) (r : ProtRow) : Bool := bit r.bits g != bit r.bitsN g

/-- Which hidden sector of the bank holds the current row: its index 0 or 1. -/
def currentRow (b : Nat) (s : State) : Nat × ProtRow :=
  match Tbl.look s.cfl.rows (2 * b), Tbl.look s.cfl.rows (2 * b + 1) with
  | some x, some y =>
    let newer := if x.seq < y.seq then (1, y) else (0, x)
    let older := if x.seq < y.seq then (0, x) else (1, y)
    if !newer.2.agrees && older.2.agrees then older else newer
  | some x, none => (0, x)
  | none, some y => (1, y)
  | none, none => (1, freshRow)

/-- A password is checked (R484): a match clears the failures; a fourth failure locks the group. -/
def checkPassword (b g : Nat) (pw : W64) (s : State) : Bool × State :=
  let grp := 16 * b + g
  if ((currentRow b s).2.passwords.getD g 0#64) = pw then
    (true, setCfl (fun c => { c with fails := Tbl.del c.fails grp }) s)
  else
    let n := Tbl.lookD s.cfl.fails grp 0 + 1
    let s1 := setBank b (fun k => { k with pwErr := true }) s
    if n < 4 then (false, setCfl (fun c => { c with fails := Tbl.put c.fails grp n }) s1)
    else
      let s2 := setCfl (fun c => { c with fails := Tbl.put c.fails grp 3, locked := setBitN c.locked grp true }) s1
      (false, logEvent .cflPwLocked (detailWords [grp]) s2)

/-! Sequences (R469 to R471). -/

/-- What a cycle does to a sequence. -/
inductive CycleEffect where
  | goOn (q : CflSeq)
  | last (op : CflOp) (cmd : Nat)
  | abandon
  deriving DecidableEq, Repr

/-- The sequence with one more cycle received. -/
def CflSeq.next (q : CflSeq) : CflSeq := { q with cycles := q.cycles + 1 }

/-- A command byte that the table lists. -/
def cflCommand (c : Nat) : Bool := [0x10, 0x20, 0x30, 0x31, 0x40, 0x41, 0x42].contains c

/-- The effect of a store of `size` bytes with value `v` at bank offset `off` on a sequence. -/
def CflSeq.store (q : CflSeq) (off size v : Nat) : CycleEffect :=
  let at3C := size == 1 && off == 0xA3C
  let word := size == 8 && off % 8 == 0
  match q.cycles with
  | 0 => if at3C && v == 0x6E then .goOn { CflSeq.empty with cycles := 1 } else .abandon
  | 1 => if size == 1 && off == 0x5C3 && v == 0x91 then .goOn q.next else .abandon
  | 2 =>
    if !(at3C && cflCommand v) then .abandon
    else if v == 0x31 then .last .contExit 0x31
    else .goOn { q.next with cmd := v }
  | _ =>
    if q.cmd == 0x10 then
      if word && (q.page == none || q.page == some (off / pageBytes)) && decide (q.words.length < 64) then
        .goOn { q.next with page := some (off / pageBytes), words := q.words ++ [(off % pageBytes / 8, BitVec.ofNat 64 v)] }
      else if at3C && v == 0xC5 && !q.words.isEmpty then .last (.program (q.page.getD 0) q.words) 0x10
      else .abandon
    else if q.cmd == 0x20 then
      if size == 1 && v == 0x5A then .last (.erase (off / sectorBytes)) 0x20 else .abandon
    else if q.cmd == 0x30 then
      if at3C && [0x01, 0x04, 0x10].contains v then
        .last (.contEnter (if v = 1 then 1 else if v = 4 then 2 else 3)) 0x30
      else .abandon
    else
      match q.group, q.pw with
      | none, _ => if at3C && decide (v < 16) then .goOn { q.next with group := some v } else .abandon
      | some g, none =>
        if !(word && off == 0xA38) then .abandon
        else if q.cmd == 0x42 then .goOn { q.next with pw := some (BitVec.ofNat 64 v) }
        else .last (.prot q.cmd g (BitVec.ofNat 64 v) 0#64) q.cmd
      | some g, some old =>
        if word && off == 0xA38 then .last (.prot 0x42 g old (BitVec.ofNat 64 v)) 0x42 else .abandon

/-- The bank abandons its sequence. -/
def abandonSeq (b : Nat) (err : Bool) (s : State) : State :=
  setBank b (fun k => { k with seq := CflSeq.empty, seqErr := k.seqErr || err }) s

/-- The bank runs an operation, or a host operation waits in it (CFL_BANK_STATUS.busy). -/
def CflBank.busy (k : CflBank) : Bool := k.host.isSome || k.run.isSome || k.dev.isSome

/-! Device records (R486). -/

/-- Slots (32 B) of a sector that hold something, rising. -/
def usedSlots (sec : Nat) (c : Cfl) : List Nat :=
  let cells := c.array.filter (fun p => p.1 / sectorBytes == sec)
  (cells.map (fun p => p.1 % sectorBytes / 32)).foldr (fun x acc => if acc.head? == some x then acc else x :: acc) []

/-- The value of a slot. -/
def slotValue (sec slot : Nat) (c : Cfl) : Nat := leNat (Mem.read onesByte c.array (sec * sectorBytes + slot * 32) 32)

/-- Guest Book records of a copy sector whose code_n matches (R530), by slot. -/
def copyRecords (sec : Nat) (c : Cfl) : List Nat :=
  ((usedSlots sec c).map (fun n => slotValue sec n c)).filter (fun v => isCompl 16 (bits v 15 0) (bits v 31 16))

def recSeq (v : Nat) : Nat := bits v 79 48

/-- a is newer than b (R525). -/
def seqNewer (a b : Nat) : Bool := a != b && decide ((a + 2 ^ 32 - b) % 2 ^ 32 < 2 ^ 31)

/-- Whether the second of two copy sectors is the one in use: the one whose first record is newer (R486). -/
def copySecond (c : Cfl) : Bool :=
  match (copyRecords 968 c).head?, (copyRecords 969 c).head? with
  | some x, some y => seqNewer (recSeq y) (recSeq x)
  | none, some _ => true
  | _, none => false

/-- The records of the persistent copy, oldest first. -/
def copyAll (c : Cfl) : List Nat :=
  if copySecond c then copyRecords 968 c ++ copyRecords 969 c else copyRecords 969 c ++ copyRecords 968 c

/-- The sector that a cursor stands in, of the pair that starts at `base`. -/
def RecCursor.sector (r : RecCursor) (base : Nat) : Nat := base + b2n r.second

/-- The value that the counter record holds, and whether its complement matches; a module that has none counts as 0. -/
def counterRead (c : Cfl) : Nat × Bool :=
  let sec := c.counterRec.sector 960
  match (usedSlots sec c).getLast? with
  | none => (0, true)
  | some n =>
    let v := slotValue sec n c
    if bits v 63 48 = 0x4243 && bits v 47 2 = 0 && isCompl 64 (bits v 63 0) (bits v 127 64) then (bits v 1 0, true) else (3, false)

/-- Write the boot-attempt counter (R460, R486): one record; when the sector is full the partner is erased and goes on. -/
def counterWrite (n : Nat) (s : State) : State :=
  let r := s.cfl.counterRec
  let v := 0x4243 * 2 ^ 48 + n % 4
  let s1 := cflProgram (r.sector 960 * sectorBytes + r.next * 32) (leBytes 8 v ++ leBytes 8 (compl 64 v) ++ leBytes 4 r.seq) s
  let s2 := setCfl (fun c => { c with counterRec := { r with next := r.next + 1, seq := (r.seq + 1) % 2 ^ 32 } }) s1
  if r.next + 1 < 8192 then s2
  else
    let partner := { r with second := !r.second }
    let sec := partner.sector 960
    let s3 := eraseDrawn sec s2
    setCfl (fun c => { c with counterRec := { partner with next := 0, seq := (r.seq + 1) % 2 ^ 32 } }) s3

/-- The staged layout as the newest record of sectors 962 and 963 holds it; none where no record exists. -/
def layoutRead (c : Cfl) : Option (List W32) :=
  let sec := c.layoutRec.sector 962
  match (usedSlots sec c).getLast? with
  | none => none
  | some n =>
    let v := slotValue sec (n - n % 2) c
    some ((List.range 8).map (fun i => BitVec.ofNat 32 (v / 2 ^ (32 * i))))

/-- Where a record kind stands after a start: the sector whose first record has the higher number, and the slot after its
last non-blank one. `num` is the number in a record of `step` slots. -/
def findCursor (base step : Nat) (num : Nat → Nat → Cfl → Nat) (c : Cfl) : RecCursor :=
  let a := usedSlots base c
  let b := usedSlots (base + 1) c
  let second := match a.head?, b.head? with
    | some _, some _ => decide (num base 0 c < num (base + 1) 0 c)
    | none, some _ => true
    | _, none => false
  let sec := if second then base + 1 else base
  match (if second then b else a).getLast? with
  | none => { second := second, next := 0, seq := 0 }
  | some n => { second := second, next := (n / step + 1) * step, seq := (num sec (n - n % step) c + 1) % 2 ^ 32 }

/-- The number of a counter record, and of a layout record. -/
def counterNum (sec slot : Nat) (c : Cfl) : Nat := bits (slotValue sec slot c) 159 128
def layoutNum (sec slot : Nat) (c : Cfl) : Nat := bits (slotValue sec (slot + 1) c) 31 0

/-- Guest Book: seq of the newest record of the copy, a record being programmed included. -/
def newestSeq (s : State) : Option Nat :=
  match (cflBank 0 s).dev with
  | some (.record _ bytes false) => some (recSeq (leNat bytes))
  | _ => (copyAll s.cfl).getLast?.map recSeq

/-- Numbering resumes at the next multiple of 2^20 above the newest record of the copy, or at 0 (R525). -/
def resumeSeq (s : State) : Nat :=
  match newestSeq s with
  | some n => (n / 2 ^ 20 + 1) * 2 ^ 20 % 2 ^ 32
  | none => 0

end Sys2Proof.Machine
end

