-- ==== Sys2Proof/Machine/Security.lean ====
section
/-! DEFINITION. The family of security and attestation commands (chapter 18). -/

namespace Sys2Proof.Machine

def setSec (f : Sec → Sec) (s : State) : State := { s with sec := f s.sec }

/-! Slots (R505, R506, R511). -/

/-- A slot of blank fuses. -/
def KeySlot.blank : KeySlot := { valid := false, revoked := false, spent := false, digest := 0#512 }

/-- A slot whose enrolment has ended. -/
def KeySlot.enrolled (d : BitVec 512) : KeySlot := { valid := true, revoked := false, spent := false, digest := d }

/-- The fuses of slot `k` become those of `x`. -/
def putSlot (k : Nat) (x : KeySlot) (s : State) : State := setSec (fun y => { y with slots := Tbl.put y.slots k x }) s

def keySlotOf (k : Nat) (s : State) : KeySlot := Tbl.lookD s.sec.slots k KeySlot.blank

/-- The slot may sign and authorise: enrolled, neither spent nor revoked. -/
def slotUsable (k : Nat) (s : State) : Bool := let x := keySlotOf k s; x.valid && !x.revoked && !x.spent

def usableSlots (s : State) : List Nat := (List.range 4).filter (fun k => slotUsable k s)

/-- The lowest slot of which no fuse has been burnt. -/
def blankSlot (s : State) : Option Nat := (List.range 4).find? (fun k => keySlotOf k s == KeySlot.blank)

/-! Authorisation (R511). -/

/-- Bytes [lo, lo + n) of an authorisation block as a number. -/
def authField (a : AuthInput) (lo n : Nat) : Nat := leNat ((a.block.drop lo).take n)

/-- The conditions of R511, for a command with opcode `op`. -/
def authAccepted (op : Nat) (a : AuthInput) (s : State) : Bool :=
  let cls := authField a 9 1
  let nonceOk := match s.sec.nonce with
    | some n => authField a 32 64 == n.toNat && decide (s.tclk < s.sec.nonceAt + 60000000 * Config.tclkPerUs)
    | none => false
  let keyOk := a.keyMatches && ((decide (cls < 4) && slotUsable cls s) || (op == 0x1D && cls == 0xFF))
  authField a 0 8 == 0x5541343630384B51 && authField a 8 1 == op && nonceOk && keyOk && a.signatureOk

/-- An authorisation is checked: the nonce is consumed, and a refusal is counted and logged. -/
def checkAuth (op : Nat) (a : AuthInput) (s : State) : Bool × State :=
  let ok := authAccepted op a s
  let s1 := setSec (fun x => { x with nonce := none }) s
  if ok then (true, s1)
  else (false, logEvent .secAuthFailed 0 (setSec (fun x => { x with authFails := satAdd 8 x.authFails 1 }) s1))

/-- The operand of an authorisation (bytes 16–31). -/
def authOperand (a : AuthInput) : Nat := authField a 16 16

/-! Fuse writes (R506, R512). -/

/-- The words of a fuse write. -/
def FuseWrite.words : FuseWrite → Nat
  | .enroll _ _ => 9
  | _ => 1

/-- The fuse write of the command in `tr` starts. -/
def burn (tr : Nat) (w : FuseWrite) (s : State) : State :=
  setPhase tr .running (setSec (fun x => { x with fuse := some { tr := tr, write := w, words := w.words } }) s)

/-- A slot with the lowest `n` words of a digest burnt. -/
def burnDigest (k : Nat) (d : BitVec 512) (n : Nat) (s : State) : State :=
  let part := BitVec.ofNat 512 (d.toNat % 2 ^ (64 * n))
  putSlot k { valid := false, revoked := false, spent := part != 0#512, digest := part } s

/-- FUSE_WRITE_COMPLETE (R506, R512): a word is burnt; the digest goes first and the valid bit last. -/
def execFuseWriteComplete (s : State) : Host.Outcome State Fault Refusal :=
  match s.sec.fuse with
  | none => .next s
  | some f =>
    if 1 < f.words then
      let s1 := setSec (fun x => { x with fuse := some { f with words := f.words - 1 } }) s
      match f.write with
      | .enroll k d => .next (burnDigest k d (10 - f.words) s1)
      | _ => .next s1
    else
      let s1 := setSec (fun x => { x with fuse := none }) s
      match f.write with
      | .enroll k d =>
        .next (complete f.tr 0 k 0 (logEvent .secKeyEnrolled 0 (putSlot k (KeySlot.enrolled d) s1)))
      | .revoke k =>
        let s2 := putSlot k { keySlotOf k s1 with revoked := true } s1
        .next (complete f.tr 0 0 0 (logEvent .secKeyRevoked 0 s2))
      | .policy sign dbg =>
        let s2 := setSec (fun x => { x with requireSigned := x.requireSigned || sign, debugDisable := x.debugDisable || dbg }) s1
        .next (complete f.tr 0 0 0 (logEvent .secPolicyChanged 0 s2))
      | .svn n =>
        let s2 := setSec (fun x => { x with svnMin := Nat.max x.svnMin n }) s1
        .next (complete f.tr 0 0 0 (logEvent .secPolicyChanged 0 s2))

/-- A reset cuts a fuse write off (R506): of the word in progress, any of its bits may have been burnt. -/
def cutFuse (s : State) : State :=
  match s.sec.fuse with
  | none => s
  | some f =>
    let d := drawFree s
    let s1 := setSec (fun x => { x with fuse := none }) d.2
    let r := d.1.toNat
    match f.write with
    | .enroll k dig =>
      let n := 9 - f.words
      if n = 8 then
        if bit r 0 then putSlot k (KeySlot.enrolled dig) s1 else s1
      else
        let word := Nat.land (dig.toNat / 2 ^ (64 * n) % 2 ^ 64) r
        burnDigest k (BitVec.ofNat 512 (dig.toNat % 2 ^ (64 * n) + word * 2 ^ (64 * n))) 8 s1
    | .revoke k =>
      if bit r 0 then
        putSlot k { keySlotOf k s1 with revoked := true } s1
      else s1
    | .policy sign dbg =>
      setSec (fun x => { x with
        requireSigned := x.requireSigned || (sign && bit r 0), debugDisable := x.debugDisable || (dbg && bit r 1) }) s1
    | .svn n => setSec (fun x => { x with svnMin := x.svnMin + r % (n - x.svnMin + 1) }) s1

/-! Security commands (R510 to R512, R519). -/

/-- A security command that burns fuses runs once no other fuse write is in progress. While the debug connector is
unlocked, those that R519 names complete with ILLEGAL_IN_STATE. -/
def fuseCommand (tr op : Nat) (lockedOnly : Bool) (f : State → State) (s : State) : State :=
  match readyTask tr op s with
  | none => s
  | some _ =>
    if s.sec.fuse.isSome then s
    else if lockedOnly && s.sec.debugUnlocked then fail tr 0x03 s
    else f s

/-- The same, under an authorisation; a refused one completes with SIGNATURE_INVALID. -/
def authorised (tr op : Nat) (a : AuthInput) (f : State → State) (s : State) : State :=
  let r := checkAuth op a s
  if r.1 then f r.2 else fail tr 0x41 r.2

/-- Burn a digest into the lowest blank slot. -/
def enrolInto (tr : Nat) (digest : BitVec 512) (s : State) : State :=
  match blankSlot s with
  | none => fail tr 0x21 s
  | some k => burn tr (.enroll k digest) s

/-- SEC_ENROLL (R512): without an authorisation while no slot is valid. -/
def execSecEnroll (tr : Nat) (digest : BitVec 512) (auth : AuthInput) (s : State) : Host.Outcome State Fault Refusal :=
  .next (fuseCommand tr 0x18 true (fun x =>
    if (usableSlots x).isEmpty then enrolInto tr digest x else authorised tr 0x18 auth (enrolInto tr digest) x) s)

/-- SEC_REVOKE (R511, R512): never of the only valid slot. -/
def execSecRevoke (tr : Nat) (auth : AuthInput) (s : State) : Host.Outcome State Fault Refusal :=
  let k := authField auth 16 1
  .next (fuseCommand tr 0x19 true (authorised tr 0x19 auth (fun x =>
    if 4 ≤ k then fail tr 0x01 x
    else if usableSlots x == [k] then fail tr 0x03 x
    else burn tr (.revoke k) x)) s)

/-- SEC_SET_POLICY (R511). -/
def execSecSetPolicy (tr : Nat) (auth : AuthInput) (s : State) : Host.Outcome State Fault Refusal :=
  let v := authOperand auth
  .next (fuseCommand tr 0x1A true (authorised tr 0x1A auth (burn tr (.policy (bit v 0) (bit v 1)))) s)

/-- The security version in the header of the image in a bank (R487). -/
def imageSvn (b : Nat) (s : State) : Nat := leNat (Mem.read onesByte s.cfl.array (b * 2 ^ 28 + 24) 4)

/-- SEC_ADVANCE_SVN (R512): neither below svn_min nor above the version of either image. -/
def execSecAdvanceSvn (tr : Nat) (auth : AuthInput) (s : State) : Host.Outcome State Fault Refusal :=
  let n := authOperand auth % 128
  .next (fuseCommand tr 0x1B false (authorised tr 0x1B auth (fun x =>
    if n = 0 || 64 < n then fail tr 0x01 x
    else if n < x.sec.svnMin || imageSvn 0 x < n || imageSvn 1 x < n then fail tr 0x03 x
    else burn tr (.svn n) x)) s)

/-- SEC_CHALLENGE (R511): a new nonce; not after 8 refusals. -/
def execSecChallenge (tr : Nat) (s : State) : Host.Outcome State Fault Refusal :=
  match readyTask tr 0x1C s with
  | none => .next s
  | some t =>
    if 8 ≤ s.sec.authFails then .next (fail tr 0x03 s)
    else
      let d := drawFree s
      let s1 := setSec (fun x => { x with nonce := some d.1, nonceAt := s.tclk }) d.2
      .next (complete tr 0 0 0 (hostWrite (dPtr0 t.desc) (leBytes 64 d.1.toNat) s1))

/-- SEC_DEBUG_UNLOCK (R519). -/
def execSecDebugUnlock (tr : Nat) (auth : AuthInput) (s : State) : Host.Outcome State Fault Refusal :=
  match readyTask tr 0x1D s with
  | none => .next s
  | some _ =>
    if s.sec.debugDisable then .next (fail tr 0x40 s)
    else
      let cls := authField auth 9 1
      .next (authorised tr 0x1D auth (fun x =>
        let s1 := setSec (fun y => { y with debugUnlocked := true, unlockClass := cls }) x
        let s2 := { s1 with power := { s1.power with tamperSticky := false } }
        complete tr 0 0 0 (logEvent .secDebugUnlocked (detailWords [cls]) s2)) s)

/-! Registers. -/

/-- One bit for each slot. -/
def slotBits (f : KeySlot → Bool) (s : State) : Nat :=
  (List.range 4).foldl (fun n k => orBit n k (f (keySlotOf k s))) 0

/-- SEC_STATUS. -/
def secStatus (s : State) : Nat :=
  s.sec.authFails * 2 ^ 24 + slotBits (·.valid) s * 2 ^ 20 + slotBits (·.revoked) s * 2 ^ 16 + slotBits (·.spent) s * 2 ^ 12
    + b2n s.sec.requireSigned * 2 ^ 11 + b2n s.sec.debugDisable * 2 ^ 10 + b2n s.sec.debugUnlocked * 2 ^ 9
    + b2n s.power.tamperSticky * 2 ^ 8

/-- SEC_SVN. -/
def secSvn (s : State) : Nat := s.sec.svnRunning * 2 ^ 8 + s.sec.svnMin

/-- RST_BOOT_STATUS (R466). -/
def bootStatus (s : State) : Nat :=
  let b := s.boot
  let st := s.power.straps
  b.lastSource * 2 ^ 60 + b.stage * 2 ^ 56 + b.cause * 2 ^ 48 + b.image * 2 ^ 46 + b2n b.fallback * 2 ^ 45
    + st.bootsel.toNat * 2 ^ 43 + st.clkmode.toNat * 2 ^ 42 + b2n b.refResonator * 2 ^ 41 + b2n b.holdover * 2 ^ 40
    + st.slotId.toNat * 2 ^ 34 + b.counter * 2 ^ 32 + b.bringupMs % 2 ^ 32

/-! SPDM (R516 to R518). -/

def setSpdm (f : Spdm → Spdm) (s : State) : State := setSec (fun x => { x with spdm := f x.spdm }) s

/-- A message of the responder goes out; one longer than 4,096 B waits for CHUNK_GET behind an ERROR LargeResponse. -/
def spdmSend (msg : List Byte) (s : State) : State :=
  let s1 := setSpdm (fun p => { p with transcript := p.transcript ++ msg }) s
  if msg.length ≤ 4096 then doeAnswer 0 msg s1
  else doeAnswer 0 (Config.spdmBody 0x7F [0x0F#8]) (setSpdm (fun p => { p with chunks := msg, chunkSeq := 0 }) s1)

/-- An ERROR response with a code of SPDM 1.3. -/
def spdmError (code : Nat) (s : State) : State := doeAnswer 0 (Config.spdmBody 0x7F [BitVec.ofNat 8 code]) s

/-- A request is taken into the transcript. -/
def spdmTake (request : List Byte) (s : State) : State :=
  setSpdm (fun p => { p with transcript := p.transcript ++ request }) s

/-- The alias seed (R508). -/
def aliasSeed (s : State) : BitVec 512 :=
  let h := Config.sha3 (leBytes 32 Config.deviceSeed.toNat ++ leBytes 64 s.sec.measurement.toNat ++ leBytes 4 s.sec.svnRunning)
  BitVec.ofNat 512 (h.toNat % 2 ^ 256)

/-- A signed response (R517): its fields, then the signature over the prefix and the digest of the transcript. -/
def spdmSigned (code : Nat) (fields : List Byte) (s : State) : State :=
  let body := Config.spdmBody code fields
  let t := s.sec.spdm.transcript ++ body
  let sig := Config.aliasSign (aliasSeed s) (Config.spdmBody (0x1000 + code) [] ++ leBytes 64 (Config.sha3 t).toNat)
  spdmSend (body ++ sig) s

/-- SPDM_GET_VERSION (R516): version 1.3 alone; negotiation starts again. -/
def execSpdmGetVersion (s : State) : Host.Outcome State Fault Refusal :=
  if !doeServed s then .next s
  else .next (spdmSend (Config.spdmBody 0x04 [0x13#8]) (setSpdm (fun _ => { Spdm.reset with version := true }) s))

/-- SPDM_GET_CAPABILITIES (R516): CERT, CHAL, MEAS with signature, KEY_EX, ENCRYPT, MAC, KEY_UPD, HBEAT, CHUNK, and the two
sizes. -/
def execSpdmGetCapabilities (s : State) : Host.Outcome State Fault Refusal :=
  if !doeServed s then .next s
  else if !s.sec.spdm.version then .next (spdmError 0x04 s)
  else .next (spdmSend (Config.spdmBody 0x61 (leBytes 4 65536 ++ leBytes 4 4096)) (setSpdm (fun p => { p with caps := true }) s))

/-- SPDM_NEGOTIATE_ALGORITHMS (R516): the values of the table that the requester offers; none: UnsupportedRequest. -/
def execSpdmNegotiateAlgorithms (request : List Byte) (s : State) : Host.Outcome State Fault Refusal :=
  if !doeServed s then .next s
  else if !s.sec.spdm.caps then .next (spdmError 0x04 s)
  else
    let rows := (List.range 7).filter (fun r => Config.spdmOffers r request)
    if rows.isEmpty then .next (spdmError 0x07 s)
    else .next (spdmSend (Config.spdmBody 0x63 (rows.map (BitVec.ofNat 8)))
      (setSpdm (fun p => { p with algs := true }) (spdmTake request s)))

/-- Run `f` once the algorithms are negotiated. -/
def spdmAfter (f : State → State) (s : State) : State :=
  if !doeServed s then s else if !s.sec.spdm.algs then spdmError 0x04 s else f s

/-- SPDM_GET_CERTIFICATE (R517): a portion of the chain of slot 0; no other slot. -/
def execSpdmGetCertificate (slot : Byte) (offset : Nat) (len : Nat) (s : State) : Host.Outcome State Fault Refusal :=
  .next (spdmAfter (fun x =>
    if slot != 0#8 then spdmError 0x01 x
    else
      let chain := Config.certificateChain x.sec.measurement
      spdmSend (Config.spdmBody 0x02 (leBytes 2 (chain.length - offset)) ++ (chain.drop offset).take len) x) s)

/-- SPDM_CHALLENGE (R517). -/
def execSpdmChallenge (request : List Byte) (s : State) : Host.Outcome State Fault Refusal :=
  .next (spdmAfter (fun x =>
    let d := drawFree x
    spdmSigned 0x03 (leBytes 64 d.1.toNat) (spdmTake request d.2)) s)

/-- The measurement blocks of R518. -/
def measurementBlock (i : Nat) (s : State) : List Byte :=
  match i with
  | 1 => leBytes 64 Config.romDigest.toNat
  | 2 => leBytes 64 s.sec.measurement.toNat
  | 3 => leBytes 4 s.sec.svnRunning ++ leBytes 1 s.sec.svnMin
  | 4 => (List.range 4).flatMap (fun k =>
      let x := keySlotOf k s
      leBytes 64 x.digest.toNat ++ leBytes 1 (b2n x.valid + 2 * b2n x.revoked))
      ++ leBytes 1 (b2n s.sec.requireSigned + 2 * b2n s.sec.debugDisable)
  | 5 => leBytes 1 (b2n s.sec.debugUnlocked) ++ leBytes 1 s.sec.unlockClass ++ leBytes 1 (b2n s.power.tamperSticky)
  | 6 => leBytes 8 (bootStatus s)
  | _ => []

/-- A block as the requester asks for it: raw, or its digest. -/
def measurementValue (i : Nat) (raw : Bool) (s : State) : List Byte :=
  if raw then measurementBlock i s else leBytes 64 (Config.sha3 (measurementBlock i s)).toNat

/-- SPDM_GET_MEASUREMENTS (R518): one block, all of them (0xFF), or their number (0); signed. -/
def execSpdmGetMeasurements (index : Byte) (raw : Bool) (request : List Byte) (s : State) : Host.Outcome State Fault Refusal :=
  .next (spdmAfter (fun x =>
    let i := index.toNat
    if 6 < i && i != 0xFF then spdmError 0x01 x
    else
      let fields := if i = 0 then [6#8]
        else if i = 0xFF then (List.range 6).flatMap (fun k => BitVec.ofNat 8 (k + 1) :: measurementValue (k + 1) raw x)
        else index :: measurementValue i raw x
      spdmSigned 0x60 fields (spdmTake request x)) s)

/-- SPDM_KEY_EXCHANGE (R517): a secured session. -/
def execSpdmKeyExchange (request : List Byte) (s : State) : Host.Outcome State Fault Refusal :=
  .next (spdmAfter (fun x =>
    let d := drawFree x
    spdmSigned 0x64 (leBytes 64 d.1.toNat) (setSpdm (fun p => { p with session := true }) (spdmTake request d.2))) s)

/-- SPDM_KEY_UPDATE (R516): in a session. -/
def execSpdmKeyUpdate (request : List Byte) (s : State) : Host.Outcome State Fault Refusal :=
  .next (spdmAfter (fun x =>
    if x.sec.spdm.session then spdmSend (Config.spdmBody 0x69 request) x else spdmError 0x0B x) s)

/-- SPDM_HEARTBEAT (R516): in a session. -/
def execSpdmHeartbeat (s : State) : Host.Outcome State Fault Refusal :=
  .next (spdmAfter (fun x =>
    if x.sec.spdm.session then spdmSend (Config.spdmBody 0x68 []) x else spdmError 0x0B x) s)

/-- Bytes of a long response that one chunk carries: DataTransferSize less its header (log 31). -/
def chunkBytes : Nat := 4080

/-- SPDM_CHUNK_GET (R517): the next chunk of the response that waits. -/
def execSpdmChunkGet (handle : Byte) (seq : BitVec 16) (s : State) : Host.Outcome State Fault Refusal :=
  .next (spdmAfter (fun x =>
    let p := x.sec.spdm
    if p.chunks.isEmpty || p.chunkSeq != seq.toNat then spdmError 0x01 x
    else
      let msg := Config.spdmBody 0x06 (handle :: leBytes 2 seq.toNat) ++ p.chunks.take chunkBytes
      doeAnswer 0 msg (setSpdm (fun q => { q with chunks := q.chunks.drop chunkBytes, chunkSeq := q.chunkSeq + 1 }) x)) s)

end Sys2Proof.Machine
end

