-- ==== Sys2Proof/Machine/Rings.lean ====
section
/-! DEFINITION. The family of rings: doorbell lines, the ADMIN pair, descriptor checks and the fetcher (chapter 13). -/

namespace Sys2Proof.Machine

def setHost (f : HostSide → HostSide) (s : State) : State := { s with host := f s.host }
def setRings (f : Rings → Rings) (s : State) : State := { s with rings := f s.rings }

def modSq (n : Nat) (f : Sq → Sq) (s : State) : State := setRings (fun r => { r with sqs := Tbl.adjust r.sqs n f }) s
def modCq (n : Nat) (f : Cq → Cq) (s : State) : State := setRings (fun r => { r with cqs := Tbl.adjust r.cqs n f }) s

/-! Doorbell lines (R379, R394). -/

/-- Doorbell words of running rings. -/
def runningDbs (s : State) : List Nat :=
  (s.rings.sqs.filter (fun p => p.2.state == .running)).map (fun p => p.2.db)
    ++ (s.rings.cqs.filter (fun p => !p.2.error)).map (fun p => p.2.db)

/-- The lines of these words, each once, ascending. -/
def neededLines (s : State) : List Nat :=
  ((runningDbs s).foldl (fun (t : Tbl Unit) a => Tbl.put t (a / 64) ()) []).map (·.1)

/-- CXL.cache can be used: the host has set Cache_Enable, the stream runs, and the device is not in D3hot (R373, R380,
R388). -/
def cacheUsable (s : State) : Bool := s.host.linkUp && s.host.cxl && s.host.cacheEn && !s.host.stopMem && !s.host.d3hot

/-- Lines that no running ring needs are dropped with CleanEvictNoData (R379, R394). -/
def dropLines (s : State) : State :=
  let need := neededLines s
  setHost (fun h => { h with lines := h.lines.filter (need.contains ·), reading := h.reading.filter (need.contains ·) }) s

/-- RdShared is sent for the listed lines, one read of a line at a time. -/
def readLines (ls : List Nat) (s : State) : State :=
  if cacheUsable s then setHost (fun h => { h with reading := h.reading ++ ls.filter (fun l => !h.reading.contains l) }) s else s

/-- Every doorbell line is read again (R380, R420). -/
def readAllLines (s : State) : State := readLines (neededLines s) s

/-- Count a re-read for the class of each SQ whose doorbell word lies in the line (R531). -/
def countReread (line : Nat) (s : State) : State :=
  (s.rings.sqs.filter (fun p => p.2.db / 64 == line)).foldl (fun acc p => bump 5 p.2.cls 4 1 acc) s

/-- DOORBELL_SNOOP (R394): a host snoop removes the line, and RdShared is sent again. -/
def execDoorbellSnoop (line : BitVec 58) (s : State) : Host.Outcome State Fault Refusal :=
  let l := line.toNat
  if !cacheUsable s || !s.host.lines.contains l then .next s
  else .next (readLines [l] (countReread l (setHost (fun h => { h with lines := h.lines.filter (· != l) }) s)))

/-- DOORBELL_REREAD_TIMER (R394): every held line is read again. -/
def execDoorbellRereadTimer (s : State) : Host.Outcome State Fault Refusal :=
  .next (if cacheUsable s then readLines s.host.lines (s.host.lines.foldl (fun acc l => countReread l acc) s) else s)

/-! Ring errors (R421, R422). -/

/-- An SQ enters error: one kind 2 record on its CQ, and RING_SQ_ERROR. -/
def sqError (n cause value : Nat) (s : State) : State :=
  match Tbl.look s.rings.sqs n with
  | none => s
  | some q =>
    if q.state != .running then s
    else
      let s1 := dropLines (modSq n (fun x => { x with state := .error }) s)
      let c : Completion :=
        { tag := 0xFFFFFFFF, sq := n, status := if cause = 3 then 0x11 else 0x01, opcode := 0, kind := 2,
          result := value % 65536 + cause * 65536, detail := 0 }
      logEvent .ringSqError (detailWords [n, cause]) (postOn q.cq false c s1)

/-- A CQ enters error: nothing further is posted on it, and RING_CQ_ERROR. -/
def cqError (n cause : Nat) (s : State) : State :=
  match Tbl.look s.rings.cqs n with
  | none => s
  | some q =>
    if q.error then s
    else logEvent .ringCqError (detailWords [n, cause]) (dropLines (modCq n (fun x => { x with error := true }) s))

/-- A new value of an SQ's tail doorbell word. -/
def takeSqTail (n : Nat) (w : Nat) (s : State) : State :=
  match Tbl.look s.rings.sqs n with
  | none => s
  | some q =>
    if q.state != .running || w = q.tail then s
    else if q.depth ≤ w % 65536 then sqError n 1 w s
    else if w / 65536 != 0 then sqError n 2 w s
    else modSq n (fun x => { x with tail := w }) s

/-- A new value of a CQ's head doorbell word: it releases entries up to it (R396). -/
def takeCqHead (n : Nat) (w : Nat) (s : State) : State :=
  match Tbl.look s.rings.cqs n with
  | none => s
  | some q =>
    if q.error || w = q.head then s
    else if q.depth ≤ w % 65536 || cqUnreleased q < (w % 65536 + q.depth - q.head) % q.depth then cqError n 4 s
    else if w / 65536 != 0 then cqError n 2 s
    else modCq n (fun x => { x with head := w }) s

/-- DOORBELL_LINE_RETURN (R394): the line is held Shared, and every doorbell word in it is compared with the value last
taken. -/
def execDoorbellLineReturn (line : BitVec 58) (words : List W32) (s : State) : Host.Outcome State Fault Refusal :=
  let l := line.toNat
  if !cacheUsable s || !s.host.reading.contains l then .next s
  else
    let s1 := setHost (fun h => { h with
      reading := h.reading.filter (· != l), lines := if h.lines.contains l then h.lines else h.lines ++ [l] }) s
    let word := fun (db : Nat) => ((padTo 16 0#32 words).getD (db / 4 % 16) 0#32).toNat
    let heads := (s1.rings.cqs.filter (fun p => p.2.db / 64 == l)).foldl (fun acc p => takeCqHead p.1 (word p.2.db) acc) s1
    .next ((s1.rings.sqs.filter (fun p => p.2.db / 64 == l)).foldl (fun acc p => takeSqTail p.1 (word p.2.db) acc) heads)

/-! The ADMIN pair (R397, R398). -/

/-- The doorbell word at `db` lies in the ring. -/
def inRing (db : Nat) (r : Nat × Nat) : Bool := decide (r.1 < db + 4) && decide (db < r.1 + r.2)

/-- The settings of RNG_ADMIN_CTRL and the base and doorbell registers allow a start. -/
def adminOk (r : Rings) (s : State) : Bool :=
  let sq := (r.sqBase, (r.depthReg + 1) * 128)
  let cq := (r.cqBase, (r.depthReg + 1) * 32)
  decide (1 ≤ r.depthReg) && (decide (r.vectorReg ≤ 2047) || r.vectorReg == 0xFFF)
    && !inRing r.sqDb sq && !inRing r.sqDb cq && !inRing r.cqDb sq && !inRing r.cqDb cq && r.sqDb != r.cqDb && s.host.cacheEn

/-- The ADMIN pair starts: heads and tails begin at 0, and its lines are read. -/
def startAdmin (s : State) : State :=
  let r := s.rings
  let sq : Sq :=
    { state := .running, cls := 0, cq := 0, base := r.sqBase, depth := r.depthReg + 1, db := r.sqDb, head := 0, tail := 0,
      trLimit := 0, stopped := false, insertWaits := false, nextOrder := 0 }
  let cq : Cq :=
    { error := false, vector := r.vectorReg, base := r.cqBase, depth := r.depthReg + 1, db := r.cqDb, tail := 0, head := 0,
      phase := true, agg := 1, since := 0 }
  readLines [r.sqDb / 64, r.cqDb / 64] (setRings (fun x => { x with
    running := true, sqs := Tbl.put x.sqs 0 sq, cqs := Tbl.put x.cqs 0 cq }) s)

/-- A write to RNG_ADMIN_CTRL (R397, R398). -/
def writeAdminCtrl (v : W32) (s : State) : State :=
  let n := v.toNat
  let r := s.rings
  let r1 := { r with enable := bit n 31, refused := r.refused && !bit n 30 }
  let r2 := if r.running then r1 else { r1 with vectorReg := bits n 27 16, depthReg := bits n 15 0 }
  let s1 := { s with rings := r2 }
  if !bit n 31 then modSq 0 (fun q => { q with stopped := true }) s1
  else if r.running then s1
  else if adminOk r2 s then startAdmin s1
  else { s with rings := { r2 with refused := true } }

/-- ADMIN_PAIR_START (R397): a write of enable = 1. -/
def execAdminPairStart (value : W32) (s : State) : Host.Outcome State Fault Refusal :=
  .next (regWrite 1 true (writeAdminCtrl (value ||| 0x80000000#32)) s)

/-- ADMIN_PAIR_STOP (R398): a write of enable = 0. -/
def execAdminPairStop (value : W32) (s : State) : Host.Outcome State Fault Refusal :=
  .next (regWrite 1 true (writeAdminCtrl (value &&& 0x7FFFFFFF#32)) s)

/-- ADMIN_PAIR_STOPPED (R398): no ADMIN command holds a task register. Records owed on CQ 0 go with it (R422). -/
def execAdminPairStopped (s : State) : Host.Outcome State Fault Refusal :=
  match Tbl.look s.rings.sqs 0 with
  | none => .next s
  | some q =>
    if !q.stopped || s.rings.tasks.any (fun p => p.2.sq == 0) then .next s
    else .next (dropLines (setRings (fun r => { r with
      running := false, sqs := Tbl.del r.sqs 0, cqs := Tbl.del r.cqs 0, heldRecs := r.heldRecs.filter (fun p => p.1 != 0) }) s))

/-! Descriptor checks (R401 to R403). -/

/-- How a command uses the descriptor. -/
structure CmdForm where
  /-- Its ring class. -/
  cls : Nat
  /-- It uses ptr0, len0, ptr1, len1. -/
  ptr0 : Bool
  len0 : Bool
  ptr1 : Bool
  len1 : Bool
  /-- The bit past its last parameter. -/
  last : Nat
  deriving DecidableEq, Repr

/-- The commands of Table: Ring classes, as their chapters define them. -/
def cmdForm (op : Nat) : Option CmdForm :=
  let none4 := fun (c n : Nat) => some { cls := c, ptr0 := false, len0 := false, ptr1 := false, len1 := false, last := n }
  let buf := fun (c n : Nat) => some { cls := c, ptr0 := true, len0 := true, ptr1 := false, len1 := false, last := n }
  let two := fun (c n : Nat) => some { cls := c, ptr0 := true, len0 := true, ptr1 := true, len1 := true, last := n }
  match op with
  | 0x01 => buf 0 320
  | 0x02 => two 0 369
  | 0x03 => two 0 364
  | 0x04 => none4 0 328
  | 0x05 => none4 0 328
  | 0x06 => none4 0 322
  | 0x07 => none4 0 320
  | 0x08 => none4 0 320
  | 0x10 => none4 0 379
  | 0x11 => none4 0 328
  | 0x12 => buf 0 328
  | 0x18 => two 0 320
  | 0x19 => buf 0 320
  | 0x1A => buf 0 320
  | 0x1B => buf 0 320
  | 0x1C => buf 0 320
  | 0x1D => buf 0 320
  | 0x20 => buf 1 425
  | 0x21 => buf 1 425
  | 0x22 => none4 1 425
  | 0x23 => none4 1 425
  | 0x24 => none4 1 425
  | 0x30 => two 2 432
  | 0x31 => buf 2 384
  | 0x32 => none4 2 416
  | 0x33 => none4 2 417
  | 0x34 => none4 2 358
  | 0x35 => none4 2 320
  | 0x40 => some { cls := 3, ptr0 := true, len0 := false, ptr1 := true, len1 := false, last := 320 }
  | 0x41 => two 3 340
  | 0x42 => none4 3 360
  | 0x43 => none4 3 320
  | 0x50 => some { cls := 4, ptr0 := true, len0 := false, ptr1 := false, len1 := false, last := 320 }
  | 0x51 => none4 4 352
  | 0x52 => none4 4 352
  | 0x53 => none4 4 352
  | 0x54 => none4 4 352
  | 0x55 => none4 4 352
  | _ => none

/-- SEC_ENROLL uses ptr1 and len1 only when a slot is valid (R512). -/
def formNow (op : Nat) (f : CmdForm) (s : State) : CmdForm :=
  if op = 0x18 && (usableSlots s).isEmpty then { f with ptr1 := false, len1 := false } else f

/-- Check 1: opcode, lengths, and the complement fields of QUERY and PUBLISH. -/
def complementsOk (d : BitVec 1024) (cls : Nat) : Bool :=
  let op := dOpcode d
  isCompl 8 op (dBits d 15 8) && isCompl 32 (dLen0 d) (dBits d 255 224) && isCompl 32 (dLen1 d) (dBits d 319 288)
    && (!(op == 0x30 && cls == 2) || !qEpochSel d || isCompl 24 (qEpoch d) (qEpochN d))
    && (!(op == 0x33 && cls == 2) || (isCompl 24 (pEpoch d) (pEpochN d) && isCompl 24 (pFloor d) (pFloorN d)))

/-- Check 3: tag, reserved bits, unused pointers and lengths (R400). -/
def unusedOk (d : BitVec 1024) (f : CmdForm) : Bool :=
  dTag d != 0xFFFFFFFF && dBits d 31 17 == 0 && d.toNat / 2 ^ f.last == 0
    && (f.ptr0 || dPtr0 d == 0) && (f.len0 || dLen0 d == 0) && (f.ptr1 || dPtr1 d == 0) && (f.len1 || dLen1 d == 0)

/-- A used length is not zero, is not all ones where R402 says so, and does not pass the end of the host's addresses. -/
def lengthsOk (d : BitVec 1024) (f : CmdForm) : Bool :=
  let strict := f.cls != 1 && !decide (0x10 ≤ dOpcode d ∧ dOpcode d < 0x20)
  let one := fun (used : Bool) (p l : Nat) =>
    !used || (l != 0 && !(strict && l == 0xFFFFFFFF) && decide (p + l < 2 ^ 64))
  one f.len0 (dPtr0 d) (dLen0 d) && one f.len1 (dPtr1 d) (dLen1 d)

def crNum (d : BitVec 1024) : Nat := dParam d 327 320
def crDepth (d : BitVec 1024) : Nat := dParam d 343 328 + 1

/-- Check 4 beyond the lengths: ranges, alignments and the all-ones rule (R402) of each command. -/
def rangesOk (d : BitVec 1024) (f : CmdForm) : Bool :=
  let ns := fun (n : Nat) => decide (1 ≤ n) && decide (n ≤ 32)
  let sq := decide (1 ≤ crNum d)
  match dOpcode d with
  | 0x01 => dPtr0 d % 4096 == 0
  | 0x02 => dPtr0 d % 4096 == 0 && dPtr1 d % 4 == 0 && dLen1 d == 4 && sq && decide (2 ≤ crDepth d) && decide (1 ≤ dParam d 351 344)
      && decide (1 ≤ dParam d 354 352) && decide (dParam d 354 352 ≤ 4) && decide (dParam d 368 355 ≤ 16320)
  | 0x03 => dPtr0 d % 4096 == 0 && dPtr1 d % 4 == 0 && dLen1 d == 4 && sq && decide (2 ≤ crDepth d)
      && (decide (dParam d 355 344 ≤ 2047) || dParam d 355 344 == 0xFFF) && decide (1 ≤ dParam d 363 356)
  | 0x04 => sq
  | 0x05 => sq
  | 0x06 => dParam d 321 320 != 3
  | 0x10 => ns (crNum d) && dParam d 375 328 != 0 && dParam d 375 328 % 4 == 0 && decide (1 ≤ dParam d 378 376)
      && decide (dParam d 378 376 ≤ 3)
  | 0x11 => ns (crNum d)
  | 0x12 => ns (crNum d) && dPtr0 d % 64 == 0
  | 0x18 => dPtr0 d % 64 == 0 && dLen0 d == 2592 && (!f.len1 || dLen1 d == 8192)
  | 0x19 => dLen0 d == 8192
  | 0x1A => dLen0 d == 8192
  | 0x1B => dLen0 d == 8192
  | 0x1C => dPtr0 d % 64 == 0
  | 0x1D => dLen0 d == 8192
  | 0x20 => dPtr0 d % 64 == 0 && ns (stNs d) && decide (1 ≤ stNlb d) && decide (stNlb d ≤ 65536) && !stFua d
  | 0x21 => dPtr0 d % 64 == 0 && ns (stNs d) && decide (1 ≤ stNlb d) && decide (stNlb d ≤ 65536)
  | 0x22 => (ns (stNs d) || stNs d == 0xFF) && stSlba d == 0 && stNlb d == 0 && !stFua d
  | 0x23 => ns (stNs d) && decide (1 ≤ stNlb d) && decide (stNlb d ≤ 0xFFFFFFFE) && !stFua d
  | 0x24 => ns (stNs d) && decide (1 ≤ stNlb d) && decide (stNlb d ≤ 65536) && !stFua d
  | 0x30 => queryFieldsOk d
  | 0x31 => dPtr0 d % 64 == 0 && dParam d 383 320 != 2 ^ 64 - 1
  | 0x32 => dKey d != 2 ^ 64 - 1 && (if dByNode d then dNode d != 2 ^ 31 - 1 else dNode d == 0)
  | 0x34 => dParam d 357 325 != 2 ^ 33 - 1
  | 0x40 => dPtr0 d % 128 == 0 && dPtr1 d % 64 == 0 && decide (dPtr0 d < 2 ^ 40) && decide (dPtr1 d < 2 ^ 40)
  | 0x41 => decide (1 ≤ eCount d) && decide (eCount d ≤ 4096) && eFmt d != 3 && dPtr0 d % 32 == 0 && dPtr1 d % 64 == 0
  | 0x42 => dParam d 351 320 != 0xFFFFFFFF && decide (1 ≤ dParam d 359 352)
  | 0x50 => dPtr0 d % 128 == 0 && decide (dPtr0 d < 2 ^ 40)
  | 0x51 => cmdJobTagOk d
  | 0x52 => cmdJobTagOk d
  | 0x53 => cmdJobTagOk d
  | 0x54 => cmdJobTagOk d
  | 0x55 => cmdJobTagOk d
  | _ => true
where
  /-- A job_tag of all ones is invalid, as the zero of a tag that no job has is. -/
  cmdJobTagOk (d : BitVec 1024) : Bool := dParam d 351 320 != 0xFFFFFFFF

/-- Check 5: a count or size needs no more bytes than its length. What a length has to hold is known for a search or an
embedding only while an index is attached or a service bound. -/
def buffersOk (d : BitVec 1024) (s : State) : Bool :=
  match dOpcode d with
  | 0x01 => decide (4096 ≤ dLen0 d)
  | 0x02 => decide (crDepth d * 128 ≤ dLen0 d)
  | 0x03 => decide (crDepth d * 32 ≤ dLen0 d)
  | 0x12 => decide (64 ≤ dLen0 d)
  | 0x1C => decide (64 ≤ dLen0 d)
  | 0x20 => decide (stNlb d * 4096 ≤ dLen0 d)
  | 0x21 => decide (stNlb d * 4096 ≤ dLen0 d)
  | 0x30 => decide (resultMin d ≤ dLen1 d) && (match s.ralid.index with | some x => decide (queryMin x ≤ dLen0 d) | none => true)
  | 0x31 => (match s.ralid.index with | some x => decide (vecBytes x.dims + sketchBytes x ≤ dLen0 d) | none => true)
  | 0x41 => decide (32 * eCount d ≤ dLen0 d)
      && (s.embed.bound.isNone || decide (eCount d * recordSize s.embed.model (eFmt d) (eSketch d) ≤ dLen1 d))
  | _ => true

/-- Check 6: Table: Commands by device state, with R425 and R510. -/
def stateAllows (op : Nat) (dev : DevState) : Bool :=
  match dev with
  | .lantern => [0x01, 0x04, 0x05, 0x1C, 0x1D].contains op
  | .ready => op != 0x08
  | .draining => [0x01, 0x02, 0x03, 0x04, 0x05, 0x08, 0x12, 0x20, 0x22, 0x24, 0x35, 0x42, 0x43, 0x51, 0x53, 0x55].contains op
  | _ => false

/-- Checks 1 to 6 of R401, in order: 0, or the status of the first that fails. -/
def checkDescriptor (cls : Nat) (d : BitVec 1024) (s : State) : Nat :=
  if !complementsOk d cls then 0x04
  else match cmdForm (dOpcode d) with
    | none => 0x01
    | some f0 =>
      if f0.cls != cls then 0x01
      else
        let f := formNow (dOpcode d) f0 s
        if !unusedOk d f then 0x01
        else if !lengthsOk d f || !rangesOk d f then 0x01
        else if !buffersOk d s then 0x02
        else if !stateAllows (dOpcode d) s.boot.dev then 0x03
        else 0

/-! The fetcher (R405 to R408). -/

/-- Task registers that an SQ holds. -/
def heldBySq (n : Nat) (s : State) : Nat := (s.rings.tasks.filter (fun p => p.2.sq == n)).length

/-- A free register: 64 are kept for SQ 0, the others share the rest (R405). -/
def freeReg (n : Nat) (s : State) : Option Nat :=
  if n = 0 then Tbl.freeKey s.rings.tasks 0 Config.adminRegs else Tbl.freeKey s.rings.tasks Config.adminRegs Config.sharedRegs

/-- Whether a register is free, without looking for it. -/
def regFree (n : Nat) (s : State) : Bool :=
  if n = 0 then decide (heldBySq 0 s < Config.adminRegs)
  else decide ((s.rings.tasks.filter (fun p => p.2.sq != 0)).length < Config.sharedRegs)

/-- The CQ of an SQ. -/
def cqOf (n : Nat) (s : State) : Nat := ((Tbl.look s.rings.sqs n).map (·.cq)).getD 0

/-- Records owed on a CQ (R407). -/
def cqOwed (n : Nat) (s : State) : Nat :=
  let cmds := s.rings.tasks.foldl (fun k p => if cqOf p.2.sq s == n then k + 1 + b2n p.2.owes2 else k) 0
  cmds + (s.rings.heldRecs.filter (fun p => p.1 == n)).length + (s.tensor.jobs.filter (fun p => p.2.cq == n)).length
    + (s.rings.sqs.filter (fun p => p.2.cq == n)).length

/-- A fetch for an SQ of class `cls` finds CQ space (R407). -/
def cqHasSpace (cls n : Nat) (s : State) : Bool :=
  match Tbl.look s.rings.cqs n with
  | none => false
  | some q => decide (cqUnreleased q + cqOwed n s + (if cls = 3 || cls = 4 then 2 else 1) ≤ q.depth - 1)

/-- RNG_SQ_STATUS.pause: the first condition of Table: Fetch pauses that holds, or 0. -/
def pauseOf (n : Nat) (q : Sq) (s : State) : Nat :=
  if !regFree n s then 1
  else if q.trLimit != 0 && decide (q.trLimit ≤ heldBySq n s) then 2
  else if !cqHasSpace q.cls q.cq s then 3
  else if q.cls = 1 && decide (Config.lockEntries ≤ s.flash.locks.length) then 4
  else if q.cls = 3 && decide (Config.admissionQueue ≤ s.embed.queue.length) then 4
  else if q.cls = 2 && q.insertWaits then 4
  else if s.host.pstate = 3 then 5
  else if ((Tbl.look s.rings.cqs q.cq).map (·.error)).getD false then 3
  else 0

/-- The fetcher serves this SQ: it runs, holds an entry, and is not paused. -/
def fetchable (n : Nat) (q : Sq) (s : State) : Bool :=
  q.state == .running && !q.stopped && q.head != q.tail && pauseOf n q s == 0

/-- The fetcher works: in LANTERN, READY and DRAINING, with Cache_Enable set, outside D3hot, and while descriptor reads
can be made (R380, R388, R416, R420). -/
def fetching (s : State) : Bool :=
  (s.boot.dev == .lantern || s.boot.dev == .ready || s.boot.dev == .draining) && s.host.cacheEn && !s.host.d3hot
    && s.host.psPhase != .exitingPs3 && s.host.linkUp && !s.host.stopIo

/-- The next SQ of the round (R406). -/
def nextSq (s : State) : Option Nat :=
  let able := (s.rings.sqs.filter (fun p => fetchable p.1 p.2 s)).map (·.1)
  (able.find? (fun n => decide (s.rings.round < n))).orElse (fun _ => able.head?)

/-- The SQ moves on past the entry whose read has been issued. -/
def passEntry (n : Nat) (s : State) : State :=
  setRings (fun r => { r with round := n })
    (modSq n (fun q => { q with head := (q.head + 1) % q.depth, nextOrder := q.nextOrder + 1 }) s)

/-- A fetched command starts an exit from PS2 (R417). -/
def startsExit (cls op : Nat) : Bool := cls != 0 && op != 0x55

/-- PS2 holds the units of a command, or is about to (R419). -/
def inPs2 (s : State) : Bool :=
  s.host.pstate == 2 || s.host.psPhase == .exiting 2 || (match s.host.psPhase with | .entering t _ => t == 2 | _ => false)

/-- Place a checked command: it fails, waits for its fence, or is handed to its unit. -/
def placeTask (tr status : Nat) (s : State) : State :=
  match Tbl.look s.rings.tasks tr with
  | none => s
  | some t =>
    if status != 0 then fail tr status s
    else
      let held := bit t.desc.toNat 16 && s.rings.tasks.any (fun p => p.2.sq == t.sq && decide (p.2.order < t.order))
      setPhase tr (if held then .fenced else .ready) s

/-- COMMAND_FETCH (R401, R405 to R408): the fetcher takes one command from the next SQ of its round; `desc` is the entry at
the head. Its checks run as it arrives. -/
def execCommandFetch (sq : Fin 256) (desc : BitVec 1024) (s : State) : Host.Outcome State Fault Refusal :=
  let n := sq.val
  match Tbl.look s.rings.sqs n, freeReg n s with
  | some q, some tr =>
    if !fetching s || nextSq s != some n then .next s
    else
      let op := dOpcode desc
      let status := checkDescriptor q.cls desc s
      let t : Task := { sq := n, order := q.nextOrder, desc := desc, phase := .ready,
                        owes2 := status == 0 && (op == 0x40 || op == 0x50) }
      let s1 := bump 5 q.cls 0 1 (setRings (fun r => { r with tasks := Tbl.put r.tasks tr t }) (passEntry n s))
      if startsExit q.cls op && inPs2 s1 then .next (wakePower 2 (setPhase tr (.delayed status) s1))
      else .next (placeTask tr status s1)
  | _, _ => .next s

/-- DESCRIPTOR_READ_ERROR (R421): the read of the entry at the head of the next SQ of the round ended in error. -/
def execDescriptorReadError (sq : Fin 256) (s : State) : Host.Outcome State Fault Refusal :=
  let n := sq.val
  if !fetching s || nextSq s != some n then .next s
  else
    let s1 := passEntry n s
    .next (sqError n 3 (((Tbl.look s1.rings.sqs n).map (·.head)).getD 0) s1)

/-- FENCED_COMMAND_START (R406): every earlier command of the SQ has posted its record. A data command has its lock entry
already. -/
def execFencedCommandStart (tr : Nat) (s : State) : Host.Outcome State Fault Refusal :=
  match Tbl.look s.rings.tasks tr with
  | none => .next s
  | some t =>
    if t.phase != .fenced || s.rings.tasks.any (fun p => p.2.sq == t.sq && decide (p.2.order < t.order))
        || s.rings.heldRecs.any (fun p => p.2.sq == t.sq) then .next s
    else match Tbl.look s.flash.ops tr with
      | none => .next (setPhase tr .ready s)
      | some o =>
        let s1 := setPhase tr .running s
        let mine := s1.flash.locks.find? (fun p => p.2.holder == .command tr)
        .next (match mine with
          | some (n, _) => if lockClear n s1 then startOp o s1 else s1
          | none => s1)

/-! The status registers. -/

/-- RNG_SQ_STATUS_n. -/
def sqStatus (n : Nat) (s : State) : Nat :=
  match Tbl.look s.rings.sqs n with
  | none => 0
  | some q =>
    let st := match q.state with
      | .running => 1
      | .error => 2
      | .deleting => 3
    st * 2 ^ 61 + q.cls * 2 ^ 58 + q.cq * 2 ^ 50 + q.head * 2 ^ 34 + q.tail * 2 ^ 18 + heldBySq n s * 8 + pauseOf n q s

/-- RNG_CQ_STATUS_n. -/
def cqStatus (n : Nat) (s : State) : Nat :=
  match Tbl.look s.rings.cqs n with
  | none => 0
  | some q => (if q.error then 2 else 1) * 2 ^ 62 + q.vector * 2 ^ 50 + q.tail * 2 ^ 34 + q.head * 2 ^ 18 + cqOwed n s * 2 + b2n q.phase

/-- RNG_TR_STATUS. -/
def trStatus (s : State) : Nat := s.rings.tasks.length * 2 ^ 49 + heldBySq 0 s * 2 ^ 42

/-- RNG_ADMIN_CTRL as read. -/
def adminCtrl (s : State) : Nat :=
  let r := s.rings
  b2n r.enable * 2 ^ 31 + b2n r.refused * 2 ^ 30 + b2n r.running * 2 ^ 29 + r.vectorReg * 2 ^ 16 + r.depthReg

end Sys2Proof.Machine
end

