-- ==== Sys2Proof/Machine/Admin.lean ====
section
/-! DEFINITION. The ADMIN commands of chapter 13, NS_DELETE, and the power states with D3hot (R409 to R420, R427). -/

namespace Sys2Proof.Machine

/-! IDENTIFY (R413). -/

/-- Coding of HST_DEV_STATE.state. -/
def devCode : DevState → Nat
  | .bringUp => 1
  | .lantern => 2
  | .ready => 3
  | .draining => 4
  | .reset => 0

/-- "QK-8064". -/
def partNumber : List Byte := [0x51#8, 0x4B#8, 0x2D#8, 0x38#8, 0x30#8, 0x36#8, 0x34#8]

/-- Table: Identify data. -/
def identifyData (s : State) : List Byte :=
  padTo 4096 0#8 (padTo 16 0x20#8 partNumber ++ padTo 32 0x20#8 Config.firmwareVersion ++ leBytes 2 s.fabric.id
    ++ leBytes 1 (devCode s.boot.dev) ++ leBytes 1 s.host.pstate ++ leBytes 2 16384 ++ leBytes 2 256 ++ leBytes 4 65536
    ++ leBytes 1 32 ++ List.replicate 3 0#8 ++ leBytes 8 Config.userCapacity ++ leBytes 8 s.flash.writeSeq)

/-- IDENTIFY (R413). -/
def execIdentify (tr : Nat) (s : State) : Host.Outcome State Fault Refusal :=
  match readyTask tr 0x01 s with
  | none => .next s
  | some t => .next (complete tr 0 0 0 (hostWrite (dPtr0 t.desc) (identifyData s) s))

/-! Rings (R410, R412). -/

/-- The ranges of all rings. -/
def ringSpans (s : State) : List (Nat × Nat) :=
  s.rings.sqs.map (fun p => (p.2.base, p.2.depth * 128)) ++ s.rings.cqs.map (fun p => (p.2.base, p.2.depth * 32))

/-- Check 1 of R410: the new doorbell word lies outside every ring and is not in use, and the new ring overlaps none. -/
def placeOk (db : Nat) (ring : Nat × Nat) (s : State) : Bool :=
  let dbs := s.rings.sqs.map (fun p => p.2.db) ++ s.rings.cqs.map (fun p => p.2.db)
  (ring :: ringSpans s).all (fun r => !inRing db r) && !dbs.contains db
    && (ringSpans s).all (fun r => decide (ring.1 + ring.2 ≤ r.1) || decide (r.1 + r.2 ≤ ring.1))

/-- Check 3 of R410: the doorbell word needs no 513th line. -/
def lineFits (db : Nat) (s : State) : Bool :=
  let need := neededLines s
  need.contains (db / 64) || decide (need.length < Config.cacheLines)

/-- Bound SQs of a CQ. -/
def boundTo (cq : Nat) (s : State) : Nat := (s.rings.sqs.filter (fun p => p.2.cq == cq)).length

/-- CREATE_SQ (R409, R410): the ring runs at once. -/
def execCreateSq (tr : Nat) (s : State) : Host.Outcome State Fault Refusal :=
  match readyTask tr 0x02 s with
  | none => .next s
  | some t =>
    let d := t.desc
    let n := crNum d
    let cq := dParam d 351 344
    let room := match Tbl.look s.rings.cqs cq with
      | none => false
      | some q => decide (boundTo cq s + 2 ≤ q.depth - 1)
    if !placeOk (dPtr1 d) (dPtr0 d, crDepth d * 128) s then .next (fail tr 0x01 s)
    else if (Tbl.look s.rings.sqs n).isSome || cq = 0 || !room || !s.host.cacheEn then .next (fail tr 0x03 s)
    else if !lineFits (dPtr1 d) s then .next (fail tr 0x21 s)
    else
      let q : Sq :=
        { state := .running, cls := dParam d 354 352, cq := cq, base := dPtr0 d, depth := crDepth d, db := dPtr1 d, head := 0,
          tail := 0, trLimit := dParam d 368 355, stopped := false, insertWaits := false, nextOrder := 0 }
      .next (complete tr 0 0 0 (readLines [dPtr1 d / 64] (setRings (fun r => { r with sqs := Tbl.put r.sqs n q }) s)))

/-- CREATE_CQ (R409, R410): the ring runs at once; its first pass has phase 1. -/
def execCreateCq (tr : Nat) (s : State) : Host.Outcome State Fault Refusal :=
  match readyTask tr 0x03 s with
  | none => .next s
  | some t =>
    let d := t.desc
    let n := crNum d
    if !placeOk (dPtr1 d) (dPtr0 d, crDepth d * 32) s then .next (fail tr 0x01 s)
    else if (Tbl.look s.rings.cqs n).isSome || !s.host.cacheEn then .next (fail tr 0x03 s)
    else if !lineFits (dPtr1 d) s then .next (fail tr 0x21 s)
    else
      let q : Cq :=
        { error := false, vector := dParam d 355 344, base := dPtr0 d, depth := crDepth d, db := dPtr1 d, tail := 0, head := 0,
          phase := true, agg := dParam d 363 356, since := 0 }
      .next (complete tr 0 0 0 (readLines [dPtr1 d / 64] (setRings (fun r => { r with cqs := Tbl.put r.cqs n q }) s)))

/-- DELETE_SQ (R412): fetching stops, and what has not been fetched is discarded. -/
def execDeleteSq (tr : Nat) (s : State) : Host.Outcome State Fault Refusal :=
  match readyTask tr 0x04 s with
  | none => .next s
  | some t =>
    let n := crNum t.desc
    match Tbl.look s.rings.sqs n with
    | none => .next (fail tr 0x03 s)
    | some q =>
      if q.state == .deleting || n = 0 then .next (fail tr 0x03 s)
      else
        let s1 := modSq n (fun x => { x with state := .deleting }) (setPhase tr .running s)
        .next (dropLines (setRings (fun r => { r with deleting := Tbl.put r.deleting n tr }) s1))

/-- DELETE_SQ_COMPLETE (R412): every command fetched from the SQ has posted its record, or completed. -/
def execDeleteSqComplete (sq : Fin 256) (s : State) : Host.Outcome State Fault Refusal :=
  let n := sq.val
  match Tbl.look s.rings.deleting n with
  | none => .next s
  | some tr =>
    if s.rings.tasks.any (fun p => p.2.sq == n) || s.rings.heldRecs.any (fun p => p.2.sq == n) then .next s
    else .next (complete tr 0 0 0 (setRings (fun r => { r with sqs := Tbl.del r.sqs n, deleting := Tbl.del r.deleting n }) s))

/-- DELETE_CQ (R412): a CQ with no bound SQ and no job-end record owed. -/
def execDeleteCq (tr : Nat) (s : State) : Host.Outcome State Fault Refusal :=
  match readyTask tr 0x05 s with
  | none => .next s
  | some t =>
    let n := crNum t.desc
    if (Tbl.look s.rings.cqs n).isNone || n = 0 || boundTo n s != 0 || s.tensor.jobs.any (fun p => p.2.cq == n) then
      .next (fail tr 0x03 s)
    else
      let gone := setRings (fun r => { r with cqs := Tbl.del r.cqs n, heldRecs := r.heldRecs.filter (fun p => p.1 != n) }) s
      .next (complete tr 0 0 0 (dropLines gone))

/-! Power states (R417 to R420). -/

/-- The device is in a power state: POWER_STATE is logged. -/
def reachPower (p : Nat) (s : State) : State := logEvent .powerState (detailWords [p]) (setHost (fun h => { h with pstate := p }) s)

/-- The phase in which no change of power state is in progress: D3hot, written meanwhile, begins to act. -/
def restPhase (s : State) : PsPhase := if s.host.d3hot then .d3Stopping else .steady

/-- A job holds the complex, exchanges, or is eligible (R418). -/
def jobsBusy (s : State) : Bool :=
  s.tensor.jobs.any (fun p => eligible p.2 || (match p.2.state with
    | .running => true
    | .saving => true
    | .restoring => true
    | .exchanging => true
    | _ => false))

/-- A SET_POWER is handled against the state reached; during a change it waits for its end (R418, R419). -/
def handlePower (tr : Nat) (s : State) : State :=
  match Tbl.look s.rings.tasks tr with
  | none => s
  | some t =>
    let target := dParam t.desc 321 320
    let begin_ := fun (ph : PsPhase) => setRings (fun r => { r with powerTr := some tr })
      (setHost (fun h => { h with psPhase := ph }) (setPhase tr .running s))
    if s.host.psPhase != .steady then setRings (fun r => { r with powerWait := r.powerWait ++ [tr] }) (setPhase tr .running s)
    else if target != 0 && (jobsBusy s || (target == 2 && ralidActive s)) then fail tr 0x03 s
    else if target = s.host.pstate then complete tr 0 0 0 s
    else if s.host.pstate = 0 then begin_ (.entering target false)
    else begin_ (.exiting target)

/-- The SET_POWER commands that waited are handled in their order. -/
def retryPower (s : State) : State :=
  s.rings.powerWait.foldl (fun acc tr => handlePower tr acc) (setRings (fun r => { r with powerWait := [] }) s)

/-- The SET_POWER that was carried out completes. -/
def finishPower (s : State) : State :=
  match s.rings.powerTr with
  | some tr => complete tr 0 0 0 (setRings (fun r => { r with powerTr := none }) s)
  | none => s

/-- Commands that an exit delayed go to their units, or complete with the status of their checks (R419). -/
def releaseDelayed (s : State) : State :=
  s.rings.tasks.foldl (fun acc p => match p.2.phase with
    | .delayed st => placeTask p.1 st acc
    | _ => acc) s

/-- SET_POWER (R418). -/
def execSetPower (tr : Nat) (s : State) : Host.Outcome State Fault Refusal :=
  match readyTask tr 0x06 s with
  | none => .next s
  | some _ => .next (handlePower tr s)

/-- POWER_STATE_ENTRY_COMPLETE (R417 to R419): PS1 or PS2 is reached; an exit that was asked for meanwhile starts at once. -/
def execPowerStateEntryComplete (s : State) : Host.Outcome State Fault Refusal :=
  match s.host.psPhase with
  | .entering t w =>
    let s1 := finishPower (reachPower t s)
    if w then .next (setHost (fun h => { h with psPhase := .exiting 0 }) s1)
    else .next (retryPower (setHost (fun h => { h with psPhase := restPhase s1 }) s1))
  | _ => .next s

/-- Records that were held in PS3 are posted (R420). -/
def postHeld (s : State) : State := postAll s.rings.heldRecs (setRings (fun r => { r with heldRecs := [] }) s)

/-- PS0 is reached after an exit: delayed commands proceed, waiting SET_POWERs are handled, jobs are ranked. -/
def reachPs0 (s : State) : State :=
  let s1 := reachPower 0 s
  let s2 := finishPower (setHost (fun h => { h with psPhase := restPhase s1 }) s1)
  schedule (retryPower (releaseDelayed s2))

/-- After PS3 the rails are back, enabled ports train again, the doorbell lines are read, and held records are posted. -/
def leavePs3 (s : State) : State :=
  let on := { s with power := { s.power with rails := { s.power.rails with vcore := true, vopt := true } } }
  let up := (List.range 16).foldl (fun acc p =>
    let q := portOf p acc
    if q.enable && !q.laserWait then setPort p { q with state := 1 } acc else acc) on
  postHeld (readAllLines (reachPs0 up))

/-- POWER_STATE_EXIT_COMPLETE (R418 to R420): PS0 is reached; a SET_POWER between PS1 and PS2 goes on into its target. -/
def execPowerStateExitComplete (s : State) : Host.Outcome State Fault Refusal :=
  match s.host.psPhase with
  | .exiting 0 => .next (reachPs0 s)
  | .exiting t =>
    let s1 := reachPower 0 s
    let s2 := if t = 2 then s1 else releaseDelayed s1
    let late := (t == 2 && s.rings.tasks.any (fun p => match p.2.phase with | .delayed _ => true | _ => false))
      || s2.tensor.jobs.any (fun p => eligible p.2)
    .next (setHost (fun h => { h with psPhase := .entering t late }) s2)
  | .exitingPs3 => .next (leavePs3 s)
  | _ => .next s

/-- D3HOT_REQUEST (R373, R420): fetching stops, the doorbell lines are released, the owner leaves at its next Waypoint. -/
def execD3hotRequest (s : State) : Host.Outcome State Fault Refusal :=
  if !alive s || !released 1 s || !s.host.linkUp || s.host.d3hot then .next s
  else
    let s1 := setHost (fun h => { h with
      d3hot := true, lines := [], reading := []
      psPhase := if h.psPhase == .steady && h.pstate != 3 then .d3Stopping else h.psPhase }) s
    .next (match ownerJob s1 with
      | some (e, j) => if j.state == .running then requestLeave e .d3hot s1 else s1
      | none => s1)

/-- Commands whose work lies in units that PS3 removes: storage and search (R420). -/
def removedWork (s : State) : Bool := s.rings.tasks.any (fun p => classOf p.2.sq s == 1 || classOf p.2.sq s == 2)

/-- PS3_ENTRY (R420): the owner has left, and the work that PS3 removes is complete. -/
def execPs3Entry (s : State) : Host.Outcome State Fault Refusal :=
  if s.host.psPhase != .d3Stopping || s.tensor.owner.isSome || removedWork s then .next s
  else
    let down := (List.range 16).foldl (fun acc p =>
      let q := portOf p acc
      if portLinked q then portDown p false acc else acc) s
    let off := { down with power := { down.power with rails := { down.power.rails with vcore := false, vopt := false } } }
    .next (reachPower 3 (setHost (fun h => { h with psPhase := .steady }) off))

/-- D0_REQUEST (R373, R420): before step 4 the entry is abandoned; after it the exit starts. -/
def execD0Request (s : State) : Host.Outcome State Fault Refusal :=
  if !s.host.d3hot then .next s
  else
    let s1 := setHost (fun h => { h with d3hot := false }) s
    if s.host.psPhase == .d3Stopping then
      .next (schedule (retryPower (readAllLines (setHost (fun h => { h with psPhase := .steady }) s1))))
    else if s.host.pstate = 3 && s.host.psPhase == .steady then .next (setHost (fun h => { h with psPhase := .exitingPs3 }) s1)
    else .next (readAllLines s1)

/-! DRAIN and RESUME (R414). -/

/-- DRAIN: the device enters DRAINING; jobs and the embedding service end (R228, R256). -/
def execDrain (tr : Nat) (s : State) : Host.Outcome State Fault Refusal :=
  match readyTask tr 0x07 s with
  | none => .next s
  | some _ =>
    if s.boot.dev != .ready then .next (fail tr 0x03 s)
    else
      let s1 := setRings (fun r => { r with drainTr := some tr }) (setPhase tr .running s)
      .next (drainJobs { s1 with boot := { s1.boot with dev := .draining } })

/-- Storage writes that were fetched before DRAIN have still to enter the buffer. -/
def writesOpen (s : State) : Bool :=
  s.rings.tasks.any (fun p => dOpcode p.2.desc == 0x21 || dOpcode p.2.desc == 0x23)

/-- DRAIN_COMPLETE (R414): no job, query or insert remains, and every unit in the write buffer is durable or cannot be. -/
def execDrainComplete (s : State) : Host.Outcome State Fault Refusal :=
  match s.rings.drainTr with
  | none => .next s
  | some tr =>
    if !s.tensor.jobs.isEmpty || ralidBusy s || writesOpen s || !s.flash.trims.isEmpty
        || s.flash.slots.any (fun p => p.2.lost == 0) then .next s
    else .next (complete tr (if s.flash.slots.isEmpty then 0 else 0x11) 0 0 (setRings (fun r => { r with drainTr := none }) s))

/-- RESUME (R414). -/
def execResume (tr : Nat) (s : State) : Host.Outcome State Fault Refusal :=
  match readyTask tr 0x08 s with
  | none => .next s
  | some _ =>
    if s.boot.dev != .draining || s.rings.drainTr.isSome then .next (fail tr 0x03 s)
    else .next (complete tr 0 0 0 { s with boot := { s.boot with dev := .ready } })

/-! NS_DELETE (R427). -/

/-- An admitted document of the embedding service, or the attached index, uses the namespace. -/
def nsServed (id : Nat) (s : State) : Bool :=
  s.ralid.index.any (fun x => x.vecNs == id)
    || s.embed.ctxs.any (fun p => p.2.srcKind == 1 && p.2.srcNs + 1 == id)

/-- NS_DELETE (R427): every Ledger entry of the range becomes unmapped, and the range and the charge are free. -/
def execNsDelete (tr : Nat) (s : State) : Host.Outcome State Fault Refusal :=
  match readyTask tr 0x11 s with
  | none => .next s
  | some t =>
    let id := dParam t.desc 327 320
    match nsFind id s with
    | none => .next (fail tr 0x03 s)
    | some x =>
      if nsHeld id s || nsServed id s then .next (fail tr 0x03 s)
      else
        let s1 := unmapSpace x s
        .next (complete tr 0 0 0 { s1 with spaces := Tbl.del s1.spaces id })

end Sys2Proof.Machine
end

