-- ==== Sys2Proof/Machine/ConfigFlash.lean ====
section
/-! DEFINITION. The family of configuration-flash commands (chapter 16), and GB_READ, which reads the persistent copy. -/

namespace Sys2Proof.Machine

/-! Stores to the window (R469 to R474, R489). -/

/-- A store of `size` bytes reaches bank `b` at offset `off`. While a host operation waits or runs, it is ignored and sets
seq_err (R473); while a device operation runs, only a sequence that has begun goes on (R474). -/
def bankStore (b off size v : Nat) (s : State) : State :=
  let k := cflBank b s
  if size == 1 && off == 0xA3C && v == 0xF0 then abandonSeq b false s
  else if k.host.isSome || k.run.isSome || (k.dev.isSome && k.seq.cycles == 0) then
    setBank b (fun k => { k with seqErr := true }) s
  else match k.seq.store off size v with
    | .goOn q => setBank b (fun k => { k with seq := q }) s
    | .last op _ => setBank b (fun k => { k with seq := CflSeq.empty, host := some op }) s
    | .abandon => abandonSeq b true s

/-- CFL_CYCLE_STORE (R469 to R471). -/
def execCflCycleStore (offset : BitVec 29) (size : Nat) (value : W64) (s : State) : Host.Outcome State Fault Refusal :=
  let o := offset.toNat
  if cflServes s && !s.host.d3hot then
    .next (bankStore (o / 2 ^ 28) (o % 2 ^ 28) size (if size = 1 then value.toNat % 256 else value.toNat) s)
  else .next s

/-- CFL_ABANDON (R471): 0xF0 at offset 0xA3C of the bank. -/
def execCflAbandon (bank : Fin 2) (s : State) : Host.Outcome State Fault Refusal :=
  if cflServes s && !s.host.d3hot then .next (bankStore bank.val 0xA3C 1 0xF0 s) else .next s

/-- CFL_SEQUENCE_TIMEOUT (R471): 1 ms without a further cycle. -/
def execCflSequenceTimeout (bank : Fin 2) (s : State) : Host.Outcome State Fault Refusal :=
  if cflServes s && (cflBank bank.val s).seq.cycles != 0 then .next (abandonSeq bank.val true s) else .next s

/-! Host operations (R472, R474, R475, R478, R482 to R485). -/

/-- The operation is dropped with an error bit set by `f`. -/
def refuseBankOp (b : Nat) (f : CflBank → CflBank) (s : State) : State := setBank b (fun k => f { k with host := none }) s

/-- The operation starts: continuous read ends (R482), and the bank is busy. -/
def startBankOp (b : Nat) (op : CflOp) (cmd count : Nat) (s : State) : State :=
  setBank b (fun k => { k with
    host := none, run := some op, pulses := 0, count := count, contCode := 0, prefetch := none, lastCmd := cmd }) s

/-- The checks of R472, and the start of the operation that waits in bank `b`. -/
def startHostOp (b : Nat) (s : State) : State :=
  match (cflBank b s).host with
  | none => s
  | some op =>
    match op with
    | .program page _ =>
      if cflProtected (16 * b + page / 32768) s then refuseBankOp b (fun k => { k with protErr := true }) s
      else startBankOp b op 0x10 0 s
    | .erase sector =>
      if cflProtected (16 * b + sector / 64) s then refuseBankOp b (fun k => { k with protErr := true }) s
      else
        let sec := 1024 * b + sector
        let n := eraseCount sec s
        startBankOp b op 0x20 n (eraseBegin sec n s)
    | .contEnter code =>
      setBank b (fun k => { k with host := none, contCode := code, prefetch := none, lastCmd := 0x30 }) s
    | .contExit => setBank b (fun k => { k with host := none, contCode := 0, prefetch := none, lastCmd := 0x31 }) s
    | .prot cmd g pw _ =>
      if g = 15 then refuseBankOp b (fun k => { k with protErr := true }) s
      else if cflLocked (16 * b + g) s then refuseBankOp b (fun k => { k with lockedErr := true }) s
      else
        let r := checkPassword b g pw s
        if r.1 then startBankOp b op cmd 0 r.2 else refuseBankOp b id r.2

/-- The bank can start a host operation: neither another operation nor a device operation runs in it. -/
def bankFree (b : Nat) (s : State) : Bool := cflServes s && (cflBank b s).run.isNone && (cflBank b s).dev.isNone

/-- PAGE_PROGRAM (R472, R475). -/
def execPageProgram (bank : Fin 2) (s : State) : Host.Outcome State Fault Refusal :=
  match (cflBank bank.val s).host with
  | some (.program _ _) => if bankFree bank.val s then .next (startHostOp bank.val s) else .next s
  | _ => .next s

/-- SECTOR_ERASE (R472, R478). -/
def execSectorErase (bank : Fin 2) (s : State) : Host.Outcome State Fault Refusal :=
  match (cflBank bank.val s).host with
  | some (.erase _) => if bankFree bank.val s then .next (startHostOp bank.val s) else .next s
  | _ => .next s

/-- CONT_READ_ENTER (R482). -/
def execContReadEnter (bank : Fin 2) (s : State) : Host.Outcome State Fault Refusal :=
  match (cflBank bank.val s).host with
  | some (.contEnter _) => if bankFree bank.val s then .next (startHostOp bank.val s) else .next s
  | _ => .next s

/-- CONT_READ_EXIT (R482). -/
def execContReadExit (bank : Fin 2) (s : State) : Host.Outcome State Fault Refusal :=
  match (cflBank bank.val s).host with
  | some .contExit => if bankFree bank.val s then .next (startHostOp bank.val s) else .next s
  | _ => .next s

/-- A protection command `cmd` that waits in a free bank starts. -/
def startProt (b cmd : Nat) (s : State) : State :=
  match (cflBank b s).host with
  | some (.prot c _ _ _) => if c == cmd && bankFree b s then startHostOp b s else s
  | _ => s

/-- PROT_SET (R472, R483, R484). -/
def execProtSet (bank : Fin 2) (s : State) : Host.Outcome State Fault Refusal := .next (startProt bank.val 0x40 s)

/-- PROT_CLEAR (R472, R483, R484). -/
def execProtClear (bank : Fin 2) (s : State) : Host.Outcome State Fault Refusal := .next (startProt bank.val 0x41 s)

/-- PASSWORD_CHANGE (R472, R484). -/
def execPasswordChange (bank : Fin 2) (s : State) : Host.Outcome State Fault Refusal := .next (startProt bank.val 0x42 s)

/-- CFL_QUEUED_HOST_OP_START (R474): the device operation has ended. -/
def execCflQueuedHostOpStart (bank : Fin 2) (s : State) : Host.Outcome State Fault Refusal :=
  if bankFree bank.val s then .next (startHostOp bank.val s) else .next s

/-! Reads (R473, R482, R489). -/

/-- A byte of the window as a host read finds it. -/
def windowByte (o : Nat) (s : State) : Byte :=
  if (cflBank (o / 2 ^ 28) s).busy then 0xFF#8 else Mem.byte onesByte s.cfl.array o

/-- Continuous read: after a read that ends in page `p` of the bank, the pages behind it are in the prefetch buffer. -/
def prefetchAfter (b p : Nat) (s : State) : State :=
  let k := cflBank b s
  if k.busy || k.contCode = 0 then s
  else
    let depth := if k.contCode = 1 then 1 else if k.contCode = 2 then 4 else 16
    setBank b (fun k => { k with prefetch := some (p + 1, min depth (524287 - p)) }) s

/-- CFL_WINDOW_READ (R482): the array, or ones while the bank is busy or not released. -/
def execCflWindowRead (offset : BitVec 29) (len : Nat) (s : State) : Host.Outcome State Fault Refusal :=
  let o := offset.toNat
  let answer := fun (bytes : List Byte) (x : State) => { x with host := { x.host with answer := .data bytes } }
  if !alive s then .next s
  else if s.host.d3hot then .next { s with host := { s.host with answer := .unsupported } }
  else if !cflServes s then .next (answer (List.replicate len 0xFF#8) s)
  else
    let last := min (o + len - 1) (2 ^ 29 - 1)
    let bytes := (List.range len).map (fun i => windowByte ((o + i) % 2 ^ 29) s)
    .next (answer bytes (if len = 0 then s else prefetchAfter (last / 2 ^ 28) (last % 2 ^ 28 / pageBytes) s))

/-! Pulses (R476, R478, R479, R485, R486). -/

/-- The configuration flash waits for its reset: the pulse in progress is its last, and nothing is verified (R451). -/
def cflHeld (s : State) : Bool := s.boot.deferred.contains .configFlash

/-- A page or sector operation of the bank has ended. -/
def endRun (b : Nat) (f : CflBank → CflBank) (s : State) : State :=
  setBank b (fun k => f { k with run := none, pulses := 0 }) s

def endDev (f : CflBank → CflBank) (s : State) : State := setBank 0 (fun k => f { k with dev := none, pulses := 0 }) s

/-- A page that still fails verification after the 8th pulse (R476). `a`: the page's window offset. -/
def programFailed (b a : Nat) (s : State) : State :=
  let s1 := cflSpoil a pageBytes s
  let s2 := setBank b (fun k => { k with progErr := true }) s1
  logEvent .cflProgramFail (detailWords [a / sectorBytes, a % sectorBytes / pageBytes]) s2

/-- A record has been programmed into its slot, or lost with its page: its kind goes on at the next slot; a full sector
has its partner erased (R486). -/
def recordDone (layout : Bool) (s : State) : State :=
  let r := if layout then s.cfl.layoutRec else s.cfl.gbRec
  let next := if layout then r.next + 2 else r.next + 1
  let r1 := { r with next := next, seq := (r.seq + 1) % 2 ^ 32 }
  let full := if layout then decide (8192 ≤ next) else decide (8190 ≤ next)
  let sec := { r1 with second := !r1.second }.sector (if layout then 962 else 968)
  let s1 := setCfl (fun c => if layout then { c with layoutRec := r1 } else { c with gbRec := r1 }) s
  if full then
    let n := eraseCount sec s1
    setBank 0 (fun k => { k with dev := some (.erase sec), pulses := 0, count := n }) (eraseBegin sec n s1)
  else endDev id s1

/-- The partner of a record kind has been erased, or its erase has failed: the kind goes on in it (R486). -/
def partnerDone (sec : Nat) (s : State) : State :=
  if sec / 2 = 481 then
    setCfl (fun c => { c with layoutRec := { c.layoutRec with second := sec == 963, next := 0 } }) s
  else setCfl (fun c => { c with gbRec := { c.gbRec with second := sec == 969, next := 0 } }) s

/-- CFL_PROGRAM_PULSE_END (R476): verification passes, or another pulse follows, up to 8. -/
def execCflProgramPulseEnd (bank : Fin 2) (verified : Bool) (s : State) : Host.Outcome State Fault Refusal :=
  let b := bank.val
  let k := if cflHeld s then CflBank.reset else cflBank b s
  match k.run, k.dev with
  | some (.program page words), _ =>
    let a := b * 2 ^ 28 + page * pageBytes
    if verified then .next (endRun b id (cflProgram a (pageBuffer words) s))
    else if k.pulses + 1 < 8 then .next (setBank b (fun k => { k with pulses := k.pulses + 1 }) s)
    else .next (endRun b id (programFailed b a s))
  | none, some (.record a bytes layout) =>
    if verified then .next (recordDone layout (cflProgram a bytes s))
    else if k.pulses + 1 < 8 then .next (setBank b (fun k => { k with pulses := k.pulses + 1 }) s)
    else .next (recordDone layout (programFailed b (a / pageBytes * pageBytes) s))
  | _, _ => .next s

/-- The row that a protection command writes: the current one with its change, under the next number. -/
def protRow (cmd g : Nat) (pw2 : W64) (r : ProtRow) : ProtRow :=
  let bits' := if cmd = 0x42 then r.bits else setBitN r.bits g (cmd == 0x40)
  { seq := (r.seq + 1) % 2 ^ 32
    bits := bits'
    bitsN := compl 16 bits'
    passwords := if cmd = 0x42 then (padTo 16 0#64 r.passwords).set g pw2 else r.passwords }

/-- The new row is in its hidden sector and in force (R485). -/
def protWritten (b cmd g : Nat) (pw2 : W64) (s : State) : State :=
  let cur := currentRow b s
  let row := protRow cmd g pw2 cur.2
  setCfl (fun c => { c with
    rows := Tbl.put c.rows (2 * b + (1 - cur.1)) row
    prot := if cmd = 0x42 then c.prot else setBitN c.prot (16 * b + g) (cmd == 0x40) }) s

/-- A protection command ends: its row is written, and the other hidden sector is erased with `pulses` pulses, or its
erase fails (R485). -/
def endProt (b cmd g : Nat) (pw2 : W64) (pulses : Nat) (s : State) : State :=
  let old := 2048 + 2 * b + (currentRow b s).1
  let s1 := protWritten b cmd g pw2 s
  let s2 := eraseWhole old (eraseCount old s1) pulses s1
  endRun b (fun k => if pulses ≤ 10 then k else { k with eraseErr := true }) s2

/-- CFL_ERASE_PULSE_END (R478, R479): the verify passes, or another pulse follows, up to 10. -/
def execCflErasePulseEnd (bank : Fin 2) (verified : Bool) (s : State) : Host.Outcome State Fault Refusal :=
  let b := bank.val
  let k := if cflHeld s then CflBank.reset else cflBank b s
  let p := k.pulses + 1
  let again := setBank b (fun k => { k with pulses := p }) s
  let whole := fun (sec : Nat) =>
    if verified then eraseDone sec k.count p (logSlowErase sec p k.count s)
    else eraseFailed sec p k.count (logSlowErase sec p k.count s)
  let fails := fun (k : CflBank) => if verified then k else { k with eraseErr := true }
  match k.run, k.dev with
  | some (.erase sector), _ =>
    if verified || p = 10 then .next (endRun b fails (whole (1024 * b + sector))) else .next again
  | some (.prot cmd g _ pw2), _ => if !verified && p = 10 then .next (endProt b cmd g pw2 11 s) else .next again
  | none, some (.erase sec) =>
    if verified || p = 10 then .next (endDev fails (partnerDone sec (whole sec))) else .next again
  | _, _ => .next s

/-- CFL_PROTECTION_OP_COMPLETE (R485): the new row is programmed, the other hidden sector erased. -/
def execCflProtectionOpComplete (bank : Fin 2) (s : State) : Host.Outcome State Fault Refusal :=
  let k := if cflHeld s then CflBank.reset else cflBank bank.val s
  match k.run with
  | some (.prot cmd g _ pw2) => .next (endProt bank.val cmd g pw2 (Nat.max 1 k.pulses) s)
  | _ => .next s

/-! Device records (R474, R486). -/

/-- The bytes of the layout record: eight words, and the number in the following half. -/
def layoutBytes (s : State) : List Byte :=
  s.mem.areasStaged.flatMap (fun w => leBytes 4 w.toNat) ++ leBytes 4 s.cfl.layoutRec.seq

/-- A device operation starts in bank 0. -/
def startRecord (a : Nat) (bytes : List Byte) (layout : Bool) (s : State) : State :=
  setBank 0 (fun k => { k with dev := some (.record a bytes layout), pulses := 0, contCode := 0, prefetch := none }) s

/-- DEVICE_RECORD_WRITE (R474, R486): the staged layout or the oldest record of the copy goes into its next free slot,
unless a host sequence has passed cycle 3 or an operation runs. -/
def execDeviceRecordWrite (s : State) : Host.Outcome State Fault Refusal :=
  let k := cflBank 0 s
  if !cflServes s || k.busy || decide (3 ≤ k.seq.cycles) || s.power.inputLoss then .next s
  else if s.cfl.layoutDue then
    let r := s.cfl.layoutRec
    let a := r.sector 962 * sectorBytes + r.next * 32
    .next (startRecord a (layoutBytes s) true (setCfl (fun c => { c with layoutDue := false }) s))
  else match s.evt.copyQueue with
    | [] => .next s
    | e :: rest =>
      let r := s.cfl.gbRec
      let a := r.sector 968 * sectorBytes + r.next * 32
      .next (startRecord a (e.bytes false) false { s with evt := { s.evt with copyQueue := rest } })

/-! Registers (R490). -/

/-- A write to CFL_SECTOR_SEL. -/
def selectSector (value : W32) (s : State) : State :=
  setCfl (fun c => { c with sel := bits value.toNat 10 0, selAt := some s.tclk }) s

/-- CFL_SECTOR_SEL_WRITE (R490). -/
def execCflSectorSelWrite (value : W32) (s : State) : Host.Outcome State Fault Refusal :=
  .next (regWrite 2 true (selectSector value) s)

/-- CFL_SECTOR_INFO: its fields hold from 2 µs after the selection. -/
def cflSectorInfo (s : State) : Nat :=
  let ready := match s.cfl.selAt with
    | some t => decide (t + 2 * Config.tclkPerUs ≤ s.tclk)
    | none => false
  if !ready then 0
  else
    let m := marksOf s.cfl.sel s
    let st := match startState m with | .blank => 0 | .valid => 1 | _ => 2
    let dn := match doneState m with | .blank => 0 | .valid => 1 | .cleared => 2 | .damaged => 3
    let count := if startState m = .valid then startCount m else doneCount m
    2 ^ 63 + st * 2 ^ 61 + dn * 2 ^ 59 + donePulses m * 2 ^ 55 + count * 2 ^ 23

/-- CFL_WEAR. -/
def cflWear (s : State) : Nat :=
  let top := s.cfl.marks.foldl (fun n p => Nat.max n (doneCount p.2)) 0
  let slow := (s.cfl.marks.filter (fun p => doneState p.2 == .valid && decide (4 ≤ donePulses p.2))).length
  top * 2 ^ 32 + min 4095 slow * 2 ^ 20 + s.cfl.failedErases * 2 ^ 8

/-- CFL_BANK_STATUS_0 and CFL_BANK_STATUS_1. -/
def cflBankStatus (b : Nat) (s : State) : Nat :=
  let k := cflBank b s
  b2n k.busy * 2 ^ 31 + b2n k.dev.isSome * 2 ^ 30 + b2n (k.dev.isSome && k.host.isSome) * 2 ^ 29 + b2n k.seqErr * 2 ^ 28
    + b2n k.protErr * 2 ^ 27 + b2n k.progErr * 2 ^ 26 + b2n k.eraseErr * 2 ^ 25 + b2n k.pwErr * 2 ^ 24
    + b2n k.lockedErr * 2 ^ 23 + k.contCode * 2 ^ 21 + k.lastCmd * 2 ^ 4 + min 15 k.seq.cycles

/-- A write to CFL_BANK_STATUS_b: its error bits are RW1C. -/
def writeBankStatus (b : Nat) (v : W32) (s : State) : State :=
  let n := v.toNat
  setBank b (fun k => { k with
    seqErr := k.seqErr && !bit n 28, protErr := k.protErr && !bit n 27, progErr := k.progErr && !bit n 26
    eraseErr := k.eraseErr && !bit n 25, pwErr := k.pwErr && !bit n 24, lockedErr := k.lockedErr && !bit n 23 }) s

/-! Start-up in step 2 (R480, R481, R485, R486, R525, R530). -/

/-- A re-erase of a half-erased sector (R481). -/
def reErase (sec : Nat) (s : State) : State :=
  logEvent .cflHalfErased (detailWords [sec, eraseCount sec s]) (eraseDrawn sec s)

/-- The sector's content is blank. Of a hidden sector: it holds no row. -/
def sectorBlank (sec : Nat) (s : State) : Bool :=
  if sec < 2048 then !s.cfl.array.any (fun p => p.1 / sectorBytes == sec) else (Tbl.look s.cfl.rows (sec - 2048)).isNone

/-- The action of Table: Marker states on one sector. -/
def scanSector (sec : Nat) (s : State) : State :=
  let m := marksOf sec s
  match startState m, doneState m with
  | .blank, .valid => s
  | .blank, .damaged => reErase sec s
  | .blank, _ =>
    if sectorBlank sec s then
      let d := drawFree s
      setMarks sec (blankHalf + doneMarker (eraseCount sec s) (d.1.toNat % 10 + 1) * 2 ^ 128) d.2
    else reErase sec s
  | _, _ => reErase sec s

/-- The scan: only a sector whose markers are listed can be other than blank and valid (log 29). -/
def scanMarks (s : State) : State := (s.cfl.marks.map (·.1)).foldl (fun x sec => scanSector sec x) s

/-- The rows of a bank, higher number first. -/
def bankRows (b : Nat) (s : State) : List ProtRow :=
  match Tbl.look s.cfl.rows (2 * b), Tbl.look s.cfl.rows (2 * b + 1) with
  | some x, some y => if x.seq < y.seq then [y, x] else [x, y]
  | some x, none => [x]
  | none, some y => [y]
  | none, none => [freshRow]

/-- Protection of one group at start-up (R485): protected and locked when its bit disagrees in both rows. -/
def loadGroup (b g : Nat) (s : State) : State :=
  let rows := bankRows b s
  let pick := match rows.find? ProtRow.agrees with
    | some r => some r
    | none => rows.find? (ProtRow.agreesAt g)
  let grp := 16 * b + g
  match pick with
  | some r => setCfl (fun c => { c with prot := setBitN c.prot grp (bit r.bits g) }) s
  | none =>
    let s1 := setCfl (fun c => { c with prot := setBitN c.prot grp true, locked := setBitN c.locked grp true }) s
    logEvent .cflProtCorrupt 0 s1

/-- Protection of both banks at start-up. -/
def loadProtection (s : State) : State :=
  (List.range 32).foldl (fun x i => loadGroup (i / 16) (i % 16) x) s

/-- Guest Book copy at start-up (R486): when a reserved slot of the sector in use is written, the partner is erased unless
blank and ordinary records go on there. -/
def openCopy (s : State) : State :=
  let second := copySecond s.cfl
  let sec := 968 + b2n second
  let used := usedSlots sec s.cfl
  let partner := 968 + b2n (!second)
  let loss := used.any (fun n => decide (8190 ≤ n))
  let next := match (used.filter (fun n => decide (n < 8190))).getLast? with
    | some n => n + 1
    | none => 0
  if loss || next = 8190 then
    let s1 := if sectorBlank partner s then s else eraseDrawn partner s
    setCfl (fun c => { c with gbRec := { second := !second, next := 0, seq := 0 } }) s1
  else setCfl (fun c => { c with gbRec := { second := second, next := next, seq := 0 } }) s

/-- A layout sector that a reset found full: its partner is erased unless blank, and goes on (R486). -/
def openLayout (s : State) : State :=
  let r := s.cfl.layoutRec
  if r.next < 8192 then s
  else
    let partner := { r with second := !r.second, next := 0 }
    let sec := partner.sector 962
    setCfl (fun c => { c with layoutRec := partner }) (if sectorBlank sec s then s else eraseDrawn sec s)

/-- Records of the copy that the device skips because code_n does not match, counted in EVT_ECC_5 (R500). -/
def countSkipped (s : State) : State :=
  let c := s.cfl
  let n := (usedSlots 968 c).length + (usedSlots 969 c).length - (copyRecords 968 c).length - (copyRecords 969 c).length
  let e := eccOf 5 s
  if n = 0 then s
  else { s with ecc := { s.ecc with ctrs := Tbl.put s.ecc.ctrs 5 { e with uncorrectable := satAdd 16 e.uncorrectable n } } }

/-- All that step 2 does with the configuration flash before the counter is read. -/
def cflStartUp (s : State) : State :=
  let s1 := scanMarks s
  let s2 := setCfl (fun c => { c with
    counterRec := findCursor 960 1 counterNum c, layoutRec := findCursor 962 2 layoutNum c }) s1
  openCopy (openLayout (loadProtection (countSkipped s2)))

/-! The persistent copy (R530, R535). -/

/-- GB_READ (R535): persistent records with seq not older than the first seq, oldest first, up to count. -/
def execGbRead (request : List Byte) (s : State) : Host.Outcome State Fault Refusal :=
  let first := leNat ((request.drop 4).take 4)
  let count := leNat ((request.drop 8).take 2)
  .next (mgmtRequest 1 request (fun x =>
    if count = 0 || 2000 < count then mgmtError 0x01 x
    else
      let recs := (copyAll x.cfl).filter (fun v => !seqNewer first (recSeq v))
      doeAnswer 1 ((recs.take count).flatMap (leBytes 32)) (countSkipped x)) s)

end Sys2Proof.Machine
end

