-- ==== Sys2Proof/Machine/ResetOps.lean ====
section
/-! DEFINITION. Shared operations of reset (R446 to R453) and of input loss: what each scope clears, and what a unit does
whose non-volatile operation delays it. -/

namespace Sys2Proof.Machine

def setBoot (f : Boot → Boot) (s : State) : State := { s with boot := f s.boot }
def setPower (f : Power → Power) (s : State) : State := { s with power := f s.power }

/-! Deferred units (R451). -/

/-- A program or erase runs in the configuration flash. -/
def cflPulse (s : State) : Bool := s.cfl.banks.any (fun p => p.2.run.isSome || p.2.dev.isSome)

/-- A superblock whose erase, or whose program of a whole row, is in progress. -/
def sbPulse (n : Nat) (b : Superblock) : Bool :=
  b.erasing || (b.state == .open_ && !b.row.isEmpty && decide (rowLen n b ≤ b.row.length))

/-- The channels on which a program or an erase is in progress: those of the group of each such superblock. -/
def busyChannels (s : State) : List (Fin 64) :=
  (List.finRange 64).filter (fun c => s.flash.sbs.any (fun p => sbPulse p.1 p.2 && sbGroup p.1 == c.val / 8))

/-- Units that delay a reset arriving now. -/
def deferrals (s : State) : List PulseUnit :=
  (if cflPulse s then [PulseUnit.configFlash] else []) ++ (busyChannels s).map PulseUnit.channel

/-- The operation of a bank at the end of its last pulse (R451, R488): nothing has verified it, so whether it took is a free
value; an erase between pulses is found half-erased. -/
def interruptBank (b : Nat) (s : State) : State :=
  let k := cflBank b s
  let d := drawFree s
  let took := bit d.1.toNat 0
  let s1 := match k.run, k.dev with
    | some (.program page words), _ =>
      let a := b * 2 ^ 28 + page * pageBytes
      if took then cflProgram a (pageBuffer words) d.2 else cflSpoil a pageBytes d.2
    | some (.erase sector), _ => spoilSector (1024 * b + sector) d.2
    | some (.prot cmd g _ pw2), _ =>
      let cur := currentRow b d.2
      let row := { protRow cmd g pw2 cur.2 with bits := bits d.1.toNat 31 16, bitsN := bits d.1.toNat 47 32 }
      if took then setCfl (fun c => { c with rows := Tbl.put c.rows (2 * b + (1 - cur.1)) row }) d.2 else d.2
    | none, some (.record a bytes _) => if took then cflProgram a bytes d.2 else cflSpoil a bytes.length d.2
    | none, some (.erase sec) => spoilSector sec d.2
    | _, _ => s
  setBank b (fun _ => CflBank.reset) s1

/-- The configuration flash takes its reset. -/
def takeCfl (s : State) : State :=
  let s1 := interruptBank 1 (interruptBank 0 s)
  setCfl (fun c => { c with sel := 0, selAt := none }) s1

/-- A flash channel takes its reset: a row that has not ended is lost with its place, and an erase that has not ended has
to be made again. -/
def takeChannel (c : Nat) (s : State) : State :=
  let cut := fun (n : Nat) (b : Superblock) =>
    if sbGroup n == c / 8 && sbPulse n b then
      { b with erasing := false, row := [], next := if b.erasing then b.next else b.next + b.row.length }
    else b
  { s with flash := { s.flash with sbs := Tbl.mapVals s.flash.sbs cut } }

/-! Loss records (R20, R36, R486). -/

/-- A slot of the Guest Book copy takes a record. -/
def programRecord (slot : Nat) (r : EvtRec) (s : State) : State :=
  cflProgram (s.cfl.gbRec.sector 968 * sectorBytes + slot * 32) (r.bytes false) s

/-- Records into slots from `slot` on. -/
def programLoss : Nat → List EvtRec → State → State
  | _, [], s => s
  | slot, r :: rest, s => programLoss (slot + 1) rest (programRecord slot r s)

/-- The loss records that wait are programmed: into the reserved slots for an input loss, and for a thermal trip alone into
the next slot. -/
def writeLoss (reserved : Bool) (s : State) : State :=
  let at_ := if reserved then 8190 else s.cfl.gbRec.next
  setCfl (fun c => { c with loss := [], gbRec := if reserved then c.gbRec else { c.gbRec with next := at_ + c.loss.length } })
    (programLoss at_ s.cfl.loss s)

/-! What a full reset clears (R448). -/

/-- Host front end: host memory, the messages sent, and the retained counts stay. -/
def clearHost (rails : Bool) (s : State) : State :=
  let h := s.host
  { s with host := { HostSide.reset with
      mem := h.mem, msgs := h.msgs, linkDowns := if rails then 0 else h.linkDowns, replays := if rails then 0 else h.replays } }

/-- Guest Book and counters: numbering resumes above the copy (R525), the timestamp goes on unless rails are removed. -/
def clearEvt (rails : Bool) (s : State) : State :=
  { s with evt := { Evt.reset with nextSeq := resumeSeq s, timeZero := if rails then s.tclk else s.evt.timeZero } }

/-- Stacked and shared memory and the registers of the tiers; the layout in force and one staged and not yet stored stay
(R167). -/
def clearMem (rails : Bool) (s : State) : State :=
  let staged := if s.cfl.layoutDue && !rails then s.mem.areasStaged else (layoutRead s.cfl).getD defaultAreas
  { s with mem := { MemSide.reset with areas := s.mem.areas, areasStaged := staged } }

/-- What is left of the flash controllers: the media with what recovery reads, and the programs and erases that delay the
reset. Units in a row that is not being programmed are lost. -/
def clearFlash (s : State) : State :=
  let f := s.flash
  let keep := fun (n : Nat) (b : Superblock) =>
    { b with row := if sbPulse n b then b.row else [], due := false, heldBy := [], segs := [] }
  let pool := fun (p : Nat) => (p, { PoolReg.reset p with slc := Tbl.lookD f.slcSaved p (PoolReg.reset p).slc })
  { s with flash := { Flash.reset with
      media := f.media, segments := f.segments, segSeq := f.segSeq, checkpoint := f.checkpoint, clockSaved := f.clockSaved
      slcSaved := f.slcSaved, failedDies := f.failedDies, writeSeq := f.writeSeq, closeCount := f.closeCount
      sbs := Tbl.mapVals f.sbs keep, minute := f.clockSaved, pools := [pool 1, pool 2, pool 3]
      wearLimitLogged := f.wearLimitLogged } }

/-- The retained counters of integrity; the stuck cells are the memory's own, and its error patterns go with its content. -/
def clearEcc (rails : Bool) (s : State) : State :=
  { s with ecc := { Ecc.reset with ctrs := if rails then [] else s.ecc.ctrs, cells := s.ecc.cells } }

/-- Configuration flash: the array stays; locks and failure counts go with the rails (R484). -/
def clearCfl (rails : Bool) (s : State) : State :=
  setCfl (fun c => { c with
    locked := if rails then 0 else c.locked, fails := if rails then [] else c.fails
    failedErases := if rails then 0 else c.failedErases, slowLogged := if rails then [] else c.slowLogged
    layoutDue := c.layoutDue && !rails }) s

/-- Security: fuses stay; a fuse write is cut off (R506); the connector is locked (R519). -/
def clearSec (s : State) : State :=
  setSec (fun x => { x with
    svnRunning := 0, measurement := 0, nonce := none, nonceAt := 0, authFails := 0, debugUnlocked := false, unlockClass := 0
    spdm := Spdm.reset }) (cutFuse s)

/-- Governor, sensors and throttle registers: reset values; pins, rails, straps and the sticky bit stay. -/
def clearPower (s : State) : State :=
  let p := s.power
  { s with power := { Power.reset with
      vinMv := p.vinMv, seated := p.seated, connected := p.connected, pwrdis := p.pwrdis, perst := p.perst
      porAsserted := p.porAsserted, rails := p.rails, pwrGood := p.pwrGood, inputLoss := p.inputLoss
      lossWithTrip := p.lossWithTrip, smbusBusy := p.smbusBusy, alert := p.alert, led := p.led, strapPins := p.strapPins
      straps := p.straps, thermTrip := p.thermTrip, tripCool := p.tripCool, tamperLow := p.tamperLow
      tamperSticky := p.tamperSticky } }

/-- The clocks' part of bring-up that no reset without rails runs again. -/
def clearBoot (rails : Bool) (s : State) : State :=
  let b := s.boot
  { s with boot := { Boot.reset with
      dev := .reset, lastSource := b.lastSource, refResonator := b.refResonator && !rails, holdover := b.holdover && !rails
      linkBarred := b.linkBarred && !rails, deferred := b.deferred, railsAfter := b.railsAfter || rails, watchdogAt := s.tclk } }

/-- Every unit but the VSTBY domain returns to its reset state. -/
def clearAll (rails : Bool) (s : State) : State :=
  let s1 := clearSec (clearMem rails (clearEvt rails (clearHost rails s)))
  let s2 := clearBoot rails (clearPower (clearCfl rails (clearEcc rails (clearFlash s1))))
  let s3 := resetRalid false { s2 with
    gZero := s.tclk, rings := Rings.reset, tensor := Tensor.reset, embed := Embed.reset
    fabric := { Fabric.reset with id := s.power.straps.slotId.toNat } }
  s3

/-- Nothing holds the device in reset: rails are there and about to stay, and neither PERST_N nor power-on reset is
asserted. -/
def mayStart (s : State) : Bool :=
  s.power.rails.vaon && !s.boot.railsAfter && !s.power.porAsserted && !s.power.perst && !s.power.thermTrip && !s.power.inputLoss

/-- The release sequence starts, as far as nothing holds the device in reset. -/
def startRelease (s : State) : State :=
  if mayStart s && s.boot.dev == .reset then setBoot (fun b => { b with dev := .bringUp, watchdogAt := s.tclk }) s else s

/-- Units that no pulse holds take their reset at once. -/
def takeFree (deferred : List PulseUnit) (s : State) : State :=
  if deferred.contains .configFlash then s else takeCfl s

/-- Rails are removed once no unit delays it (R451). -/
def dropRails (s : State) : State :=
  if s.boot.railsAfter && s.boot.deferred.isEmpty && !s.power.inputLoss then
    setBoot (fun b => { b with railsAfter := false }) (setPower (fun p => { p with
      rails := Rails.allOff, pwrGood := false, porAsserted := true }) s)
  else s

/-- A full reset from a source; `rails`: one that removes the rails (R446, R447, R448). Sources that assert while the
device is held in reset record the lowest code. -/
def fullReset (source : Nat) (rails : Bool) (s : State) : State :=
  if s.boot.dev == .reset then
    startRelease (dropRails (setBoot (fun b => { b with
      lastSource := min b.lastSource source, railsAfter := b.railsAfter || (rails && s.power.rails.vaon) }) s))
  else
    let d := deferrals s
    let s1 := takeFree d (clearAll rails s)
    let s2 := setBoot (fun b => { b with lastSource := source, deferred := d, railsAfter := rails }) s1
    let s3 := if s2.cfl.loss.isEmpty || d.contains .configFlash then s2 else writeLoss false s2
    startRelease (dropRails s3)

/-! Host-side reset (R449). -/

/-- Every admitted job ends with cause HOST_RESET; the owner last. Rings are gone, so no record is posted. -/
def endAllJobs (s : State) : State :=
  let others := (s.tensor.jobs.map (·.1)).filter (fun e => s.tensor.owner != some e)
  let one := fun (x : State) (e : Nat) => endJob e 0x32 causeHostReset (failJob e causeHostReset 0 x)
  let s1 := others.foldl one s
  match s1.tensor.owner with
  | some e => one s1 e
  | none => s1

/-- Work of commands in the flash: operations, locks and reads of commands; the write buffer stays. -/
def dropCommandWork (s : State) : State :=
  { s with
    flash := { s.flash with ops := [], locks := [], slots := s.flash.slots }
    mem := { s.mem with cellar := s.mem.cellar.filter (fun p => match p.2.for_ with
      | .command _ => false
      | .rerank _ _ => false
      | .slot _ _ _ _ _ => true) }
    fabric := { s.fabric with reqs := s.fabric.reqs.filter (fun p => match p.2.for_ with
      | .query _ _ => false
      | _ => true) } }

/-- The host front end after a host-side reset: link fields stay when the link stays up (FLR), and its snoop filter is
back-invalidated first (coincidence of FLR, chapter 12); a link that went down ends every snoop. -/
def hostFrontEnd (linkStays : Bool) (s : State) : State :=
  let h := s.host
  let base := { HostSide.reset with mem := h.mem, msgs := h.msgs, linkDowns := h.linkDowns, replays := h.replays }
  if linkStays then
    let s1 := { s with host := { base with
      linkUp := h.linkUp, rate := h.rate, width := h.width, cxl := h.cxl, latOpt := h.latOpt, snoop := h.snoop
      sweep := h.snoop.map (fun x => (x.line, true)) } }
    issueSweep s1
  else { s with host := base }

/-- A host-side reset from a source (R448, R449). It is absorbed by a full reset. In BRING_UP it acts on the released
units, and the release goes on. -/
def hostReset (source : Nat) (linkStays : Bool) (s : State) : State :=
  if s.boot.dev == .reset then s
  else
    let s1 := endAllJobs { s with rings := Rings.reset }
    let s2 := resetRalid true (dropCommandWork { s1 with embed := Embed.reset })
    let banks := Tbl.mapVals s2.cfl.banks (fun _ k => { k with seq := CflSeq.empty, host := none })
    let t := s2.tensor
    let s3 := { s2 with
      tensor := { Tensor.reset with
        qbanks := t.qbanks, qshadows := t.qshadows, qctrl := t.qctrl, qctrlInUse := t.qctrlInUse, qseq := t.qseq,
        qsatLast := t.qsatLast, qsatSuppressed := t.qsatSuppressed, delivered := t.delivered }
      mem := { s2.mem with activeJob := none, nextActive := none }
      evt := { s2.evt with running := false, enable := false } }
    let s4 := setSec (fun x => { x with spdm := Spdm.reset }) (setCfl (fun c => { c with banks := banks }) s3)
    let s5 := setBoot (fun b => { b with blk := none }) (hostFrontEnd linkStays s4)
    if s5.boot.dev == .bringUp && !s5.boot.hostReset then s5
    else setBoot (fun b => { b with
      dev := .bringUp, lastSource := if b.hostReset then min b.lastSource source else source
      hostReset := true, hostResetLantern := if b.hostReset then b.hostResetLantern else s.boot.dev == .lantern }) s5

/-- The link goes down: counted, and a host-side reset (R446). -/
def linkLost (s : State) : State :=
  if !s.host.linkUp then s
  else hostReset 0xB false { s with host := { s.host with linkDowns := satAdd 32 s.host.linkDowns 1 } }

/-! Input loss and thermal trip (R20, R36). -/

/-- Step 1 of R20: the core, the optics and stacked memory lose their power; pulses in progress finish. -/
def startInputLoss (s : State) : State :=
  if s.power.inputLoss || s.boot.dev == .reset && s.boot.deferred.isEmpty && !s.power.rails.vaon then s
  else
    let d := if s.boot.dev == .reset then s.boot.deferred else deferrals s
    let s1 := setPower (fun p => { p with
      inputLoss := true, rails := { p.rails with vcore := false, vopt := false, vddm := false }, pwrGood := false }) s
    let banks := Tbl.mapVals s1.cfl.banks (fun _ k => { k with seq := CflSeq.empty, host := none })
    let s2 := setCfl (fun c => { c with banks := banks }) s1
    let s3 := { s2 with
      tensor := Tensor.reset
      mem := { s2.mem with stacked := [], shared := [], werr := [] }
      fabric := { Fabric.reset with id := s2.fabric.id } }
    setBoot (fun b => { b with dev := .reset, deferred := d }) s3

/-- Record a loss event for the copy (R20 step 3, R36). -/
def noteLoss (ev : Ev) (s : State) : State :=
  let p := logLoss ev 0 s
  setCfl (fun c => { c with loss := c.loss ++ [p.1] }) p.2

/-- A sensor has reached its trip temperature (R36). During an input loss only the record is owed (R20). -/
def thermalTrip (s : State) : State :=
  if s.power.thermTrip then s
  else
    let s1 := setPower (fun p => { p with thermTrip := true, tripCool := false }) s
    if s1.power.inputLoss then setPower (fun p => { p with lossWithTrip := true }) s1
    else
      let served := cflServes s1
      let p := logLoss .thermalTrip 0 s1
      let s2 := if served then setCfl (fun c => { c with loss := c.loss ++ [p.1] }) p.2 else p.2
      fullReset 3 true s2

end Sys2Proof.Machine
end

