-- ==== Sys2Proof/Machine/Power.lean ====
section
/-! DEFINITION. The family of module commands: supply, pins, governor, sensors, tamper cover (chapter 01), and
TELEMETRY_READ. -/

namespace Sys2Proof.Machine

/-! Pins and supply (R12, R14, R16 to R18, R20, R32). -/

/-- A thermal trip ends when every sensor has cooled and the host toggles PERST_N or PWRDIS (R36): power-up may follow. -/
def toggleTrip (s : State) : State :=
  if s.power.thermTrip && s.power.tripCool then setPower (fun p => { p with thermTrip := false, tripCool := false }) s else s

/-- PWRDIS_ASSERT (R16): power-on reset, and every rail but standby removed. -/
def execPwrdisAssert (s : State) : Host.Outcome State Fault Refusal :=
  .next (fullReset 1 true (toggleTrip (setPower (fun p => { p with pwrdis := true }) s)))

/-- PWRDIS_RELEASE (R16): power-up proceeds as if 48 V had just been applied; the straps are sampled again. -/
def execPwrdisRelease (straps : Straps) (s : State) : Host.Outcome State Fault Refusal :=
  if s.power.pwrdis then .next (setPower (fun p => { p with pwrdis := false, strapPins := straps, straps := straps }) s)
  else .next s

/-- The hot-swap controller connects VIN48 when the blade is seated and the supply lies between 38 V and 62 V (R17). -/
def tryConnect (vinMv : Nat) (s : State) : State :=
  if s.power.seated && !s.power.connected && 38000 ≤ vinMv && vinMv ≤ 62000 then
    setPower (fun p => { p with connected := true, porAsserted := p.porAsserted || !p.rails.vaon }) s
  else s

/-- BLADE_SEATED (R17). -/
def execBladeSeated (vinMv : Nat) (s : State) : Host.Outcome State Fault Refusal :=
  .next (tryConnect vinMv (setPower (fun p => { p with seated := true, vinMv := vinMv }) s))

/-- VIN48_RETURN (R17). -/
def execVin48Return (vinMv : Nat) (s : State) : Host.Outcome State Fault Refusal :=
  .next (tryConnect vinMv (setPower (fun p => { p with vinMv := vinMv }) s))

/-- BLADE_UNSEATED (R17): as on loss of input. -/
def execBladeUnseated (s : State) : Host.Outcome State Fault Refusal :=
  .next (startInputLoss (setPower (fun p => { p with seated := false, connected := false }) s))

/-- VIN48 between 60 V and 62 V is logged once per excursion (R32). -/
def noteOvervoltage (s : State) : State :=
  if s.power.ovLogged then s else logEvent .inputOvervoltage 0 (setPower (fun p => { p with ovLogged := true }) s)

/-- VIN48_OVERVOLTAGE_DISCONNECT (R17, R32): VIN48 has passed 62 V, and the controller disconnects. -/
def execVin48OvervoltageDisconnect (vinMv : Nat) (s : State) : Host.Outcome State Fault Refusal :=
  if vinMv ≤ 62000 || !s.power.connected then .next s
  else
    let s1 := setPower (fun p => { p with vinMv := vinMv, connected := false }) s
    .next (startInputLoss (if alive s1 then noteOvervoltage s1 else s1))

/-- INPUT_LOSS_DETECT (R20): VIN48 has stayed below 36 V for 100 µs. -/
def execInputLossDetect (vinMv : Nat) (s : State) : Host.Outcome State Fault Refusal :=
  if 36000 ≤ vinMv || !s.power.connected then .next s
  else .next (startInputLoss (setPower (fun p => { p with vinMv := vinMv, connected := false }) s))

/-- INPUT_LOSS_RECORD_PROGRAM (R20 steps 3 and 4): the pulses in progress have ended, the loss records go into the reserved
slots, and the module enters power-on reset. -/
def execInputLossRecordProgram (s : State) : Host.Outcome State Fault Refusal :=
  if !s.power.inputLoss || !s.boot.deferred.isEmpty then .next s
  else
    let served := released 2 s && !s.boot.cflBarred
    let s1 := noteLoss .inputLoss s
    let s2 := if s.power.lossWithTrip then noteLoss .thermalTrip s1 else s1
    let s3 := if served then writeLoss true s2 else setCfl (fun c => { c with loss := [] }) s2
    let s4 := setPower (fun p => { p with inputLoss := false, lossWithTrip := false }) s3
    let s5 := clearAll true (takeCfl s4)
    .next (dropRails (setBoot (fun b => { b with lastSource := if s.power.rails.vaon then 2 else b.lastSource, railsAfter := true }) s5))

/-- POWER_ON_RESET_RELEASE (R14, R18): every rail has been in regulation for 2 ms; the straps are sampled, PWR_GOOD rises,
and the release sequence starts. -/
def execPowerOnResetRelease (straps : Straps) (s : State) : Host.Outcome State Fault Refusal :=
  let p := s.power
  if !p.porAsserted || !p.connected || p.pwrdis || p.thermTrip || p.inputLoss || !s.boot.deferred.isEmpty then .next s
  else
    let s1 := setPower (fun p => { p with
      porAsserted := false, rails := Rails.allOn, pwrGood := true, strapPins := straps, straps := straps }) s
    let s2 := setBoot (fun b => { b with
      refResonator := straps.clkmode == 1#1, holdover := false, linkBarred := false, railsAfter := false }) s1
    .next (startRelease { s2 with
      gZero := s.tclk, fabric := { s2.fabric with id := straps.slotId.toNat }, evt := { s2.evt with timeZero := s.tclk } })

/-- SMBRST_N_ASSERT (R12): the SMBus interface only. -/
def execSmbrstAssert (s : State) : Host.Outcome State Fault Refusal := .next (setPower (fun p => { p with smbusBusy := false }) s)

/-! Governor (R27 to R32). -/

/-- The effective limit in W. -/
def effectiveLimit (s : State) : Nat := max 600 (min 1600 s.power.limitInForce)

/-- step_floor as it acts. -/
def stepFloor (s : State) : Nat := min 4 (bits s.power.pwrLimit.toNat 18 16)

/-- The undervoltage request, and the highest thermal request. -/
def uvRequest (s : State) : Nat := if s.power.undervoltage then 2 else 0
def thermRequest (s : State) : Nat := max s.power.thermDie (max s.power.thermMem s.power.thermFlash)

/-- The step that the rules ask for (R27, R33). -/
def wantedStep (s : State) : Nat := max (max s.power.powerReq (uvRequest s)) (max (thermRequest s) (stepFloor s))

/-- The cause bits of CLK_THROTTLE_STATUS, from cause_power_avg at bit 0 on. -/
def throttleCauses (s : State) : Nat :=
  let p := s.power
  b2n (p.powerReq != 0 && !p.fastHolds) + 2 * b2n (p.powerReq != 0 && p.fastHolds) + 4 * b2n (p.thermDie != 0)
    + 8 * b2n (p.thermMem != 0) + 16 * b2n (p.thermFlash != 0) + 32 * b2n (stepFloor s != 0 && stepFloor s == p.step)
    + 64 * b2n p.undervoltage

/-- CLK_THROTTLE_STATUS. -/
def throttleStatus (s : State) : Nat := s.power.step * 2 ^ 24 + throttleCauses s * 2 ^ 16 + s.power.inputPowerW

/-- The supply excursions of R32. -/
def noteSupply (vinMv : Nat) (s : State) : State :=
  let low := decide (36000 ≤ vinMv) && decide (vinMv < 40000)
  let high := decide (60000 < vinMv) && decide (vinMv ≤ 62000)
  let s1 := setPower (fun p => { p with
    undervoltage := low, uvLogged := p.uvLogged && low, ovLogged := p.ovLogged && decide (60000 < vinMv) }) s
  let s2 := if low && !s1.power.uvLogged then
      logEvent .inputUndervoltage 0 (setPower (fun p => { p with uvLogged := true }) s1)
    else s1
  if high then noteOvervoltage s2 else s2

/-- GOVERNOR_SAMPLE (R27, R32): the sample, the fast rule of 110 %, and the current rule of 45 A over 50 µs. -/
def execGovernorSample (vinMv : Nat) (currentMa : Nat) (s : State) : Host.Outcome State Fault Refusal :=
  if !alive s then .next s
  else
    let uw := vinMv * currentMa
    let exceeds := decide (11 * effectiveLimit s * 1000000 < 10 * uw)
    let fast := exceeds && s.power.overPrev
    let cur := if 45000 < currentMa then s.power.overCurrent + 1 else 0
    let amps := decide (5 ≤ cur)
    let sum := s.power.winSum + uw
    let energy := sum / 100000000 - s.power.winSum / 100000000
    let req := if amps then 4 else if fast then max 3 s.power.powerReq else s.power.powerReq
    let raised := amps || (fast && decide (s.power.powerReq < 3))
    let s1 := setPower (fun p => { p with
      vinMv := vinMv, vinSample := vinMv / 10 % 65536, curSample := currentMa / 10 % 65536, winSum := sum
      winCount := p.winCount + 1, overPrev := exceeds, overCurrent := min 5 cur, powerReq := req
      fastHolds := p.fastHolds || raised }) s
    let s2 := bump 6 0 7 (if amps || fast then 1 else 0) (bump 6 0 5 energy (bump 6 0 s.power.step 10 s1))
    .next (noteSupply vinMv s2)

/-- A counter that keeps the highest value (bank 6, counter 6). -/
def keepHighest (bank idx v : Nat) (s : State) : State :=
  if winMode (winOf bank s).inUse == 0 then s
  else { s with evt := { s.evt with counters := Tbl.upd s.evt.counters (ctrKey bank 0 idx) 0 (Nat.max v) } }

/-- GOVERNOR_WINDOW_END (R27, R31): the average is compared with the limit in force, the power request rises by one, or
falls by one after ten windows below 97 %; then limit_w takes effect. -/
def execGovernorWindowEnd (s : State) : Host.Outcome State Fault Refusal :=
  let p := s.power
  let lim := effectiveLimit s * 1000000
  let n := max 1 p.winCount
  let avgW := p.winSum / n / 1000000
  let exceeds := decide (lim * n < p.winSum)
  let low := decide (100 * p.winSum < 97 * lim * n)
  let count := if low then p.lowWindows + 1 else 0
  let falls := decide (10 ≤ count)
  let req := if exceeds then min 4 (p.powerReq + 1) else if falls then p.powerReq - 1 else p.powerReq
  if !alive s then .next s
  else .next (keepHighest 6 6 avgW (setPower (fun p => { p with
    inputPowerW := min 2047 avgW, powerReq := req, fastHolds := p.fastHolds && !(exceeds && decide (p.powerReq < 4)) && req != 0
    lowWindows := if falls then 0 else count, winSum := 0, winCount := 0, limitInForce := bits p.pwrLimit.toNat 10 0 }) s))

/-- THROTTLE_STEP_CHANGE (R27, R28, R30): the step that the rules ask for comes into force; an owner that step 4 holds at its
Waypoint goes on when the step falls. -/
def execThrottleStepChange (s : State) : Host.Outcome State Fault Refusal :=
  let w := wantedStep s
  if !alive s || w == s.power.step then .next s
  else
    let thermal := decide (max s.power.powerReq (max (uvRequest s) (stepFloor s)) ≤ thermRequest s) && thermRequest s != 0
    let s1 := setPower (fun p => { p with step := w }) s
    let s2 := logEvent (if thermal then .thermalThrottle else .powerLimit) (detailWords [w, throttleCauses s1]) s1
    if s2.tensor.heldByStep4 && w != 4 then
      .next (releaseWaypoint { s2 with tensor := { s2.tensor with heldByStep4 := false } })
    else .next s2

/-- A write to CLK_PWR_LIMIT: ignored while lock is set (Table: CLK_PWR_LIMIT). -/
def writePwrLimit (v : W32) (s : State) : State :=
  if bit s.power.pwrLimit.toNat 31 then s else setPower (fun p => { p with pwrLimit := v &&& 0x800707FF#32 }) s

/-- CLK_PWR_LIMIT_WRITE (R31). -/
def execClkPwrLimitWrite (value : W32) (s : State) : Host.Outcome State Fault Refusal :=
  .next (regWrite 1 true (writePwrLimit value) s)

/-- PWR_LIMIT_LOCK: a write with lock = 1 (Table: CLK_PWR_LIMIT). -/
def execPwrLimitLock (value : W32) (s : State) : Host.Outcome State Fault Refusal :=
  .next (regWrite 1 true (writePwrLimit (value ||| 0x80000000#32)) s)

/-! Sensors (R23, R33, R35, R36). -/

/-- The hottest of sensors `lo` to `hi`, in 1/16 °C. -/
def hottest (t : List (BitVec 16)) (lo hi : Nat) : Int :=
  (t.drop (lo + 1) |>.take (hi - lo)).foldl (fun m v => max m v.toInt) (t.getD lo 0#16).toInt

/-- The request of a class with step 1 at `start` °C, 2 °C a step: it rises with the threshold reached, and falls a step when
the temperature lies 3 °C below the threshold that raised it (R33). -/
def thermStep (start : Int) (old : Nat) (t : Int) : Nat :=
  let thr := fun (k : Nat) => (start + 2 * ((k : Int) - 1)) * 16
  let up := ((List.range 4).filter (fun i => decide (thr (i + 1) ≤ t))).length
  let held := ((List.range old).filter (fun i => decide (thr (i + 1) - 48 < t))).length
  max up held

/-- An optical engine's sample (R35): 75 °C is logged, at 85 °C the port turns its lasers off and goes down, at 80 °C it
trains again. -/
def opticsSample (n : Nat) (t : Int) (s : State) : State :=
  let warn := s.power.opticsWarn.getLsbD n
  let off := s.power.lasersOff.getLsbD n
  let set := fun (v : BitVec 16) (b : Bool) => if b then v ||| BitVec.ofNat 16 (2 ^ n) else v &&& ~~~ BitVec.ofNat 16 (2 ^ n)
  let hot := decide (75 * 16 ≤ t)
  let s1 := setPower (fun p => { p with opticsWarn := set p.opticsWarn hot }) s
  let s2 := if hot && !warn then logEvent .opticsOvertemp 0 s1 else s1
  if 85 * 16 ≤ t && !off then
    let s3 := setPower (fun p => { p with lasersOff := set p.lasersOff true }) s2
    let q := portOf n s3
    if portLinked q then portDown n true s3
    else setPort n { q with state := if q.enable && fabricReleased s3 then 6 else q.state, laserWait := q.enable } s3
  else if off && t ≤ 80 * 16 then
    let s3 := setPower (fun p => { p with lasersOff := set p.lasersOff false }) s2
    let q := portOf n s3
    setPort n { q with laserWait := false, state := if q.enable && fabricReleased s3 && q.laserWait then 1 else q.state } s3
  else s2

/-- Some sensor has reached its trip temperature; all are 15 °C below theirs (R36). -/
def tripReached (t : List (BitVec 16)) : Bool :=
  decide (110 * 16 ≤ hottest t 0 63) || decide (100 * 16 ≤ hottest t 64 71) || decide (85 * 16 ≤ hottest t 72 87)
def tripCooled (t : List (BitVec 16)) : Bool :=
  decide (hottest t 0 63 ≤ 95 * 16) && decide (hottest t 64 71 ≤ 85 * 16) && decide (hottest t 72 87 ≤ 70 * 16)

/-- SENSOR_SAMPLE (R33, R35, R36, R534): every sensor in the order of Table: Sensor index. While a trip holds the module,
only its cooling is watched. -/
def execSensorSample (readings : List (BitVec 16)) (s : State) : Host.Outcome State Fault Refusal :=
  let t := padTo 106 0#16 readings
  if s.power.thermTrip then
    .next (setPower (fun p => { p with tripCool := p.tripCool || tripCooled t }) s)
  else if s.power.inputLoss then .next (if tripReached t then thermalTrip s else s)
  else if !alive s then .next s
  else
    let old := thermRequest s
    let s1 := setPower (fun p => { p with
      temps := (List.range 106).map (fun i => (i, t.getD i 0#16))
      thermDie := thermStep 95 p.thermDie (hottest t 0 63)
      thermMem := thermStep 86 p.thermMem (hottest t 64 71)
      thermFlash := thermStep 70 p.thermFlash (hottest t 72 87) }) s
    let s2 := bump 6 0 8 (if old < thermRequest s1 then 1 else 0) s1
    let s3 := (List.range 16).foldl (fun x n => opticsSample n (t.getD (88 + n) 0#16).toInt x) s2
    .next (if tripReached t then thermalTrip s3 else s3)

/-- COOLANT_FAULT (R23): the event sets no throttle step of its own. -/
def execCoolantFault (cause : CoolantCause) (s : State) : Host.Outcome State Fault Refusal :=
  let code := match cause with | .outletHot => 0 | .reversedFlow => 1 | .excessRise => 2
  if alive s then .next (logEvent .coolantFault (detailWords [code]) s) else .next s

/-! Tamper cover (R24). -/

/-- VSTBY is present (Table: In-package rails). -/
def standby (s : State) : Bool := decide (36000 ≤ s.power.vinMv)

/-- TAMPER_OPEN (R24). -/
def execTamperOpen (s : State) : Host.Outcome State Fault Refusal :=
  if !standby s || s.power.tamperLow then .next s
  else
    let s1 := setPower (fun p => { p with tamperLow := true, tamperSticky := true }) s
    .next (if alive s1 then logEvent .tamperOpen 0 s1 else s1)

/-- TAMPER_COVER_CLOSE (R12, R24): TAMPER_N is released; the sticky bit stays. -/
def execTamperCoverClose (s : State) : Host.Outcome State Fault Refusal :=
  if standby s then .next (setPower (fun p => { p with tamperLow := false }) s) else .next s

/-! Telemetry (R534, R535). -/

/-- An EVT_TEMP entry. -/
def evtTemp (i : Nat) (s : State) : Nat :=
  match Tbl.look s.power.temps i with
  | some v => 2 ^ 31 + v.toNat
  | none => 0

/-- EVT_INPUT. -/
def evtInput (s : State) : Nat := s.power.vinSample * 2 ^ 48 + s.power.curSample * 2 ^ 32 + s.power.inputPowerW * 2 ^ 16

/-- TELEMETRY_READ (R535): EVT_TEMP entries 0 to 105, EVT_INPUT, CLK_THROTTLE_STATUS. -/
def execTelemetryRead (request : List Byte) (s : State) : Host.Outcome State Fault Refusal :=
  .next (mgmtRequest 2 request (fun x =>
    doeAnswer 1 ((List.range 106).flatMap (fun i => leBytes 4 (evtTemp i x)) ++ leBytes 8 (evtInput x)
      ++ leBytes 4 (throttleStatus x)) x) s)

end Sys2Proof.Machine
end

