-- ==== Sys2Proof/Machine/Boot.lean ====
section
/-! DEFINITION. The family of reset and bring-up commands (chapter 15), LEDGER_RECOVERY_COMPLETE (R363) and IMAGE_TRANSFER
(R461, R535). -/

namespace Sys2Proof.Machine

/-! Full resets (R446, R447, R458, R465). -/

/-- PERST_N_ASSERT (R446). -/
def execPerstAssert (s : State) : Host.Outcome State Fault Refusal :=
  .next (fullReset 4 false (setPower (fun p => { p with perst := true }) (toggleTrip s)))

/-- PERST_N_RELEASE (R447): the release sequence runs from step 1. -/
def execPerstRelease (s : State) : Host.Outcome State Fault Refusal :=
  .next (startRelease (setPower (fun p => { p with perst := false }) s))

/-- A write to RST_CTRL: dev_reset with its key (R446). -/
def writeRstCtrl (value : W32) (s : State) : State :=
  if bits value.toNat 31 24 = 0xC7 && bit value.toNat 0 then regWrite 1 true (fullReset 6 false) s else s

/-- SOFTWARE_DEVICE_RESET (R466): dev_reset with the key in a write to RST_CTRL. -/
def execSoftwareDeviceReset (value : W32) (s : State) : Host.Outcome State Fault Refusal :=
  .next (writeRstCtrl value s)

/-- WATCHDOG_EXPIRY (R465): 2 s without a restart. -/
def execWatchdogExpiry (s : State) : Host.Outcome State Fault Refusal :=
  if alive s then .next (fullReset 5 false s) else .next s

/-- WATCHDOG_RESTART (R465). -/
def execWatchdogRestart (s : State) : Host.Outcome State Fault Refusal :=
  if alive s then .next (setBoot (fun b => { b with watchdogAt := s.tclk }) s) else .next s

/-- STEP_FAILURE_RESET (R458): 100 ms after a step failure. -/
def execStepFailureReset (s : State) : Host.Outcome State Fault Refusal :=
  if s.boot.stepFailed && alive s then .next (fullReset 8 false s) else .next s

/-- BRINGUP_TIMEOUT (R458): 10 s without READY or LANTERN; not while the Innkeeper waits for a host image. -/
def execBringupTimeout (s : State) : Host.Outcome State Fault Refusal :=
  if s.boot.dev == .bringUp && !s.boot.hostReset && !s.boot.waitHostImage then .next (fullReset 7 false s) else .next s

/-! The reference (R445). -/

/-- REFCLK_ABSENT (R445): no REFCLK 100 ms after the release of power-on reset. -/
def execRefclkAbsent (s : State) : Host.Outcome State Fault Refusal :=
  if s.boot.dev == .bringUp && s.power.straps.clkmode == 0#1 && !s.boot.refResonator then
    .next (logEvent .clkRefAbsent 0 (setBoot (fun b => { b with refResonator := true, linkBarred := true }) s))
  else .next s

/-- REFCLK_LOST (R445): holdover, and the link goes down. -/
def execRefclkLost (s : State) : Host.Outcome State Fault Refusal :=
  if alive s && s.power.straps.clkmode == 0#1 && !s.boot.refResonator && !s.boot.holdover then
    .next (linkLost (logEvent .clkRefLost 0 (setBoot (fun b => { b with holdover := true, linkBarred := true }) s)))
  else .next s

/-! Delayed units (R451). -/

/-- The pulse of a unit has ended: nothing of it is in progress, or its last pulse is this one. -/
def unitQuiet (u : PulseUnit) (s : State) : Bool :=
  match u with
  | .configFlash => true
  | .channel c => !(busyChannels s).contains c

/-- A unit takes its delayed reset. -/
def takeUnit (u : PulseUnit) (s : State) : State :=
  let s1 := match u with
    | .configFlash =>
      let x := takeCfl s
      if x.cfl.loss.isEmpty then x else writeLoss false x
    | .channel c => takeChannel c.val s
  dropRails (setBoot (fun b => { b with deferred := b.deferred.filter (· != u) }) s1)

/-- A flash channel's per-block reset stops waiting. -/
def blockArrived (c : Fin 64) (s : State) : State :=
  match s.boot.blk with
  | some k => if k.kind = 3 && k.index = c.val then setBoot (fun b => { b with blk := some { k with waiting := false } }) s else s
  | none => s

/-- DEFERRED_RESET_TAKE (R451): the operation that held off the unit's reset has ended. -/
def execDeferredResetTake (unit : PulseUnit) (s : State) : Host.Outcome State Fault Refusal :=
  if s.boot.deferred.contains unit && unitQuiet unit s then .next (takeUnit unit s)
  else match unit with
    | .channel c => if unitQuiet unit s then .next (blockArrived c s) else .next s
    | .configFlash => .next s

/-- CHANNEL_RESET_FORCE (R451): 13 ms after the reset arrived the channel is reset anyway, its dies with it. -/
def execChannelResetForce (channel : Fin 64) (s : State) : Host.Outcome State Fault Refusal :=
  if s.boot.deferred.contains (.channel channel) then .next (takeUnit (.channel channel) s)
  else match s.boot.blk with
    | some k =>
      if k.kind = 3 && k.index = channel.val && k.waiting then .next (blockArrived channel (takeChannel channel.val s))
      else .next s
    | none => .next s

/-! Per-block resets (R452, R453). -/

/-- The unit of a block kind has been released. -/
def blockReleased (kind : Nat) (s : State) : Bool :=
  (s.boot.dev == .ready || s.boot.dev == .draining || (s.boot.dev == .bringUp && s.boot.hostReset))
    || (s.boot.dev == .bringUp && released (if kind = 3 || kind = 5 then 4 else if kind = 4 then 8 else 7) s)

/-- A per-block reset starts, unless one is in progress: RST_BLOCK takes kind and index, and BLOCK_RESET is logged. -/
def blockReset (kind index : Nat) (byHost waiting : Bool) (f : State → State) (s : State) : State :=
  if byHost && !regWorks 1 true s then s
  else
    let s1 := if byHost then setBoot (fun b => { b with blkKind := kind, blkIndex := index }) s else s
    if s1.boot.blk.isSome || !blockReleased kind s1 then
      if byHost then setBoot (fun b => { b with blkRefused := true }) s1 else s1
    else
      let b : BlockReset := { kind := kind, index := index, byHost := byHost, waiting := waiting }
      let s2 := setBoot (fun x => { x with blk := some b }) s1
      f (logEvent .blockReset (detailWords [kind, index, b2n byHost]) s2)

/-- A tile is cleared; the flags of its vector unit go into the job's flag word first (R43). -/
def clearTile (t : Nat) (s : State) : State :=
  let s1 := match s.tensor.owner with
    | some e => mergeIeee e s
    | none => s
  { s1 with tensor := { s1.tensor with
      tiles := Tbl.del s1.tensor.tiles t, qbanks := Tbl.del s1.tensor.qbanks t
      landings := s1.tensor.landings.filter (fun l => l.tile != t) } }

/-- A tile is reset: the owner stops with cause BLOCK_RESET, and the tile is cleared (R452, R453). -/
def resetTile (t : Nat) (byHost : Bool) (s : State) : State :=
  blockReset 1 t byHost false (fun x => clearTile t (raiseFault causeBlockReset t true 0 0 7 x)) s

/-- TILE_RESET (R452, R453). -/
def execTileReset (tile : Fin 128) (byHost : Bool) (s : State) : Host.Outcome State Fault Refusal :=
  .next (resetTile tile.val byHost s)

/-- A walker group is reset: its queries complete with ABORTED (R297, R452). -/
def resetWalkers (g : Nat) (byHost : Bool) (s : State) : State := blockReset 2 g byHost false (abortWalkers g) s

/-- WALKER_GROUP_RESET (R297, R452). -/
def execWalkerGroupReset (group : Fin 64) (byHost : Bool) (s : State) : Host.Outcome State Fault Refusal :=
  .next (resetWalkers group.val byHost s)

/-- Requests in flight on a channel end in error: job reads and leaves are issued again once (R452). -/
def failChannel (mine : Nat → Bool) (s : State) : State :=
  let hit := s.mem.cellar.filter (fun p => p.2.issued && p.2.result.isNone && (match p.2.place with
    | .flash sb off => mine (unitChannel sb off (sbOf sb s))
    | _ => false))
  hit.foldl (fun acc p =>
    match p.2.for_ with
    | .slot _ _ _ _ _ =>
      cellarMod p.1 (fun q => if q.again then { q with result := some .busError } else { q with issued := false, again := true }) acc
    | _ => cellarMod p.1 (fun q => { q with result := some .busError }) acc) s

/-- A flash channel is reset, after its die operations (R451, R452). -/
def resetChannel (c : Nat) (byHost : Bool) (s : State) : State :=
  blockReset 3 c byHost ((busyChannels s).any (fun k => k.val == c)) (failChannel (· == c)) s

/-- FLASH_CHANNEL_RESET (R451, R452). -/
def execFlashChannelReset (channel : Fin 64) (byHost : Bool) (s : State) : Host.Outcome State Fault Refusal :=
  .next (resetChannel channel.val byHost s)

/-- A fabric port is reset: it goes down, and trains again while it is enabled (R304, R452). -/
def resetPort (p : Nat) (byHost : Bool) (s : State) : State :=
  let down := fun (x : State) =>
    let q := portOf p x
    if portLinked q then portDown p false x
    else setPort p { Port.reset with enable := q.enable, maxLanes := q.maxLanes, laserWait := q.laserWait
                                     state := if q.laserWait then 6 else if q.enable then 1 else 0 } x
  blockReset 4 p byHost false down s

/-- FABRIC_PORT_RESET (R304, R452). -/
def execFabricPortReset (port : Fin 16) (byHost : Bool) (s : State) : Host.Outcome State Fault Refusal :=
  .next (resetPort port.val byHost s)

/-- A Porter group is reset: queued requests stay; those in flight end as for a flash channel (R452). -/
def resetPorters (g : Nat) (byHost : Bool) (s : State) : State :=
  blockReset 5 g byHost false (failChannel (fun c => c / 8 == g)) s

/-- PORTER_GROUP_RESET (R452). -/
def execPorterGroupReset (group : Fin 8) (byHost : Bool) (s : State) : Host.Outcome State Fault Refusal :=
  .next (resetPorters group.val byHost s)

/-- A write to RST_BLOCK (R452): kind and index are taken; with go = 1 the block they name is reset, unless one is in
progress or they name none. -/
def writeRstBlock (v : W32) (s : State) : State :=
  let n := v.toNat
  let kind := bits n 26 24
  let i := bits n 6 0
  let s1 := setBoot (fun b => { b with blkKind := kind, blkIndex := i, blkRefused := b.blkRefused && !bit n 29 }) s
  let refused := setBoot (fun b => { b with blkRefused := true }) s1
  if !bit n 31 then s1
  else match kind with
    | 1 => resetTile i true s1
    | 2 => if i < 64 then resetWalkers i true s1 else refused
    | 3 => if i < 64 then resetChannel i true s1 else refused
    | 4 => if i < 16 then resetPort i true s1 else refused
    | 5 => if i < 8 then resetPorters i true s1 else refused
    | _ => refused

/-- SELFTEST_FAIL: unit, pattern and syndrome (R502). -/
def logSelftest (unit : Nat) (pattern syndrome : BitVec 32) (s : State) : State :=
  logEvent .selftestFail (detailWords [unit, pattern.toNat, syndrome.toNat]) s

/-- BLOCK_RESET_END (R452, R502): the self-test passes and the wrapper opens, or a full reset with source 0x8 follows. -/
def execBlockResetEnd (selftest : StepWork) (s : State) : Host.Outcome State Fault Refusal :=
  match s.boot.blk with
  | none => .next s
  | some k =>
    if k.waiting then .next s
    else
      let fails := fun (x : State) => fullReset 8 false (setBoot (fun b => { b with cause := 6 }) x)
      match selftest with
      | .done => .next (setBoot (fun b => { b with blk := none }) s)
      | .failed => .next (fails s)
      | .selftestFailed u p y => .next (fails (logSelftest u.val p y s))

/-! Images (R459, R461, R487, R507, R508). -/

/-- A field of an image header. -/
def headerField (h : List Byte) (lo n : Nat) : Nat := leNat ((h.drop lo).take n)

/-- The check of Table: Image checks that an image fails first, 0 when it passes all: `h` is its header of 8,192 B. -/
def imageCheck (h : List Byte) (v : ImageVerdict) (s : State) : Nat :=
  let len := headerField h 16 8
  if headerField h 0 8 != 0x4D49343630384B51 || headerField h 8 4 != 1 || headerField h 12 4 != 8192 || len = 0 || 134209536 < len
      || headerField h 28 4 != 0 || headerField h 7315 877 != 0 then 1
  else if !v.keyDigestOk then 2
  else if headerField h 24 4 < s.sec.svnMin then 3
  else if !v.bodyDigestOk then 4
  else if !v.signatureOk then 5
  else 0

/-- The header of the image in a bank. -/
def bankHeader (b : Nat) (s : State) : List Byte := Mem.read onesByte s.cfl.array (b * 2 ^ 28) 8192

/-- An image runs: its code, security version and measurement (R508). -/
def runImage (code : Nat) (h : List Byte) (s : State) : State :=
  setBoot (fun b => { b with image := code, stage := 3, cause := 0, waitHostImage := false })
    (setSec (fun x => { x with svnRunning := headerField h 24 4, measurement := Config.sha3 (h.take 96) }) s)

/-- A rejected image is logged with its bank and check. -/
def rejectImage (bank check : Nat) (s : State) : State := logEvent .secImageRejected (detailWords [bank, check]) s

/-- Lantern mode is entered with a cause (R462). -/
def enterLantern (cause : Nat) (s : State) : State :=
  let s1 := setBoot (fun b => { b with dev := .lantern, cause := cause }) s
  logEvent .lanternEntered (detailWords [cause]) (setSec (fun x => { x with measurement := Config.lanternMeasurement }) s1)

/-- Step 3 under BOOTSEL 0b00 and 0b01: the first image, then the other (R459). -/
def verifyImages (first : Nat) (v1 v2 : ImageVerdict) (s : State) : State :=
  let h1 := bankHeader first s
  let c1 := imageCheck h1 v1 s
  if c1 = 0 then runImage (first + 1) h1 s
  else
    let s1 := logEvent .bootFallback 0 (setBoot (fun b => { b with fallback := true }) (rejectImage first c1 s))
    let second := 1 - first
    let h2 := bankHeader second s1
    let c2 := imageCheck h2 v2 s1
    if c2 = 0 then runImage (second + 1) h2 s1 else enterLantern 4 (rejectImage second c2 s1)

/-- IMAGE_TRANSFER (R461, R535): a part of a host image; the whole one is verified as in step 3. -/
def execImageTransfer (message : List Byte) (verdict : ImageVerdict) (s : State) : Host.Outcome State Fault Refusal :=
  let off := headerField message 4 4
  let total := headerField message 8 4
  let data := message.drop 12
  .next (mgmtRequest 0x10 message (fun x =>
    let held := if off = 0 then [] else x.boot.hostImage
    let sizeOk := decide (8192 < total) && decide (total ≤ 8192 + 134209536) && (off == 0 || total == x.boot.hostImageTotal)
    if !x.boot.waitHostImage || !sizeOk || off != held.length || 61440 < data.length || total < off + data.length then mgmtError 0x01 x
    else
      let bytes := held ++ data
      let s1 := doeAnswer 1 ([0x10#8, 0xEF#8, 0x00#8, 0x00#8] ++ leBytes 4 bytes.length)
        (setBoot (fun b => { b with hostImage := bytes, hostImageTotal := total }) x)
      if bytes.length < total then s1
      else
        let c := imageCheck bytes verdict x
        let s2 := setBoot (fun b => { b with hostImage := [], hostImageTotal := 0 }) s1
        if c = 0 then runImage 3 bytes s2
        else rejectImage 2 c (setBoot (fun b => { b with cause := 5 }) s2)) s)

/-! Release steps (R455 to R460, R463, R502). -/

/-- A step other than 1 to 3, or recovery, fails (R458). -/
def stepFailure (cause : Nat) (s : State) : State :=
  logEvent .bootStepFailed (detailWords [cause]) (setBoot (fun b => { b with cause := cause, stepFailed := true }) s)

/-- READY: the counter is cleared, DEVICE_READY is logged, and the retention scan starts (R357, R457). -/
def enterReady (s : State) : State :=
  let s1 := setBoot (fun b => { b with dev := .ready, stage := 9, cause := 0 }) s
  let s2 := if s1.power.straps.bootsel.toNat < 2 then counterWrite 0 s1 else s1
  let s3 := { s2 with flash := { s2.flash with scanning := true } }
  logEvent .deviceReady (detailWords [s3.boot.bringupMs, s3.flash.minute]) s3

/-- Step 2 (R460, R480, R486, R530): the scan, then the counter; under BOOTSEL 0b10 the wait for a host image begins, under
0b11 Lantern mode. -/
def stepTwo (s : State) : State :=
  let s1 := setBoot (fun b => { b with stage := 2 }) (cflStartUp s)
  let sel := s1.power.straps.bootsel.toNat
  if sel = 3 then enterLantern 1 s1
  else if sel = 2 then setBoot (fun b => { b with waitHostImage := true }) s1
  else
    let r := counterRead s1.cfl
    if !r.2 then enterLantern 3 (setBoot (fun b => { b with counter := 3 }) s1)
    else if r.1 = 3 then enterLantern 2 (setBoot (fun b => { b with counter := 3 }) s1)
    else counterWrite (r.1 + 1) (setBoot (fun b => { b with counter := r.1 + 1 }) s1)

/-- Step 5 (R167): stacked memory is initialised, the staged layout checked, and Ledger recovery starts (R457). -/
def stepFive (s : State) : State :=
  let staged := s.mem.areasStaged
  let s1 := setBoot (fun b => { b with stage := 5, recoveryRunning := true }) s
  if layoutOk staged then { s1 with mem := { s1.mem with areas := staged } } else logEvent .areaLayoutRejected 0 s1

/-- Step 8 (R301, R457): enabled ports start training, and READY follows when recovery has completed. `bad`: a port whose
checkers failed stays DISABLED (R502). -/
def stepEight (bad : Option Nat) (s : State) : State :=
  let train := fun (x : State) (n : Nat) =>
    let q := portOf n x
    if q.enable && bad != some n then setPort n { q with state := 1 } x else x
  let s1 := (List.range 16).foldl train (setBoot (fun b => { b with stage := 8 }) s)
  if s1.boot.recoveryDone then enterReady s1 else s1

/-- The cause of a failed step 4 to 8 (Table: Boot cause codes). -/
def stepCause : Nat → Nat
  | 4 => 7
  | 5 => 8
  | 6 => 9
  | 7 => 10
  | _ => 0

/-- A release step waits for the delayed units that it releases (R451). -/
def stepHeld (n : Nat) (s : State) : Bool :=
  (n == 2 && s.boot.deferred.contains .configFlash)
    || (n == 4 && s.boot.deferred.any (fun u => match u with | .channel _ => true | _ => false))

/-- RELEASE_STEP (R455): the next step completes its work, or fails. `first` and `second` are the verdicts over the images in
the order in which step 3 tries them. -/
def execReleaseStep (work : StepWork) (elapsedMs : Nat) (first second : ImageVerdict) (s0 : State) :
    Host.Outcome State Fault Refusal :=
  let b := s0.boot
  let n := b.stage + 1
  if b.dev != .bringUp || b.hostReset || b.stepFailed || b.stuckInStep1 || b.waitHostImage || 8 < n || stepHeld n s0 then .next s0
  else
    let s := setBoot (fun b => { b with bringupMs := b.bringupMs + elapsedMs }) s0
    let lantern := fun (x : State) => enterLantern 6 x
    match n with
    | 1 => match work with
      | .done =>
        .next (logEvent .resetSource (detailWords [b.lastSource, s.flash.minute]) (setBoot (fun b => { b with stage := 1 }) s))
      | _ => .next (setBoot (fun b => { b with stuckInStep1 := true }) s)
    | 2 => match work with
      | .done => .next (stepTwo s)
      | .failed => .next (lantern (setBoot (fun b => { b with cflBarred := true }) s))
      | .selftestFailed u p y => .next (lantern (logSelftest u.val p y (setBoot (fun b => { b with cflBarred := true }) s)))
    | 3 =>
      let strap := s.power.straps.bootsel.toNat
      .next (verifyImages (if b.counter = 3 then 1 - strap else strap) first second s)
    | 8 => match work with
      | .done => .next (stepEight none s)
      | .failed => .next (stepFailure (stepCause 8) s)
      | .selftestFailed u p y => .next (stepEight (some u.val) (logSelftest 12 p y s))
    | k => match work with
      | .done => .next (if k = 5 then stepFive s else setBoot (fun b => { b with stage := k }) s)
      | .failed => .next (stepFailure (stepCause k) s)
      | .selftestFailed u p y => .next (stepFailure 6 (logSelftest u.val p y s))

/-- LEDGER_RECOVERY_COMPLETE (R363, R457): the Ledger is recovered, with the units whose metadata was lost; READY follows
when step 8 has completed. A recovery that fails is a step failure. -/
def execLedgerRecoveryComplete (ok : Bool) (lost : List (Nat × Nat)) (s : State) : Host.Outcome State Fault Refusal :=
  let b := s.boot
  if b.dev != .bringUp || !b.recoveryRunning || b.recoveryDone || b.stepFailed then .next s
  else if !ok then .next (stepFailure 0x0B s)
  else
    let s1 := setBoot (fun b => { b with recoveryDone := true, recoveryRunning := false }) (recoverFlash lost s)
    .next (if b.stage = 8 then enterReady s1 else s1)

/-- A write to RST_BOOT_CTRL: clear_counter with its key, in LANTERN and READY (R463, R466). -/
def writeBootCtrl (value : W32) (s : State) : State :=
  let ok := bits value.toNat 31 24 = 0x3E && bit value.toNat 0 && (s.boot.dev == .lantern || s.boot.dev == .ready) && cflServes s
  if ok && !s.host.d3hot then counterWrite 0 (setBoot (fun b => { b with counter := 0 }) s) else s

/-- CLEAR_COUNTER (R463, R466). -/
def execClearCounter (value : W32) (s : State) : Host.Outcome State Fault Refusal :=
  .next (writeBootCtrl value s)

/-! Host-side resets (R446, R449). -/

/-- CXL_HOT_RESET (R446): the link leaves L0 and trains again. -/
def execCxlHotReset (s : State) : Host.Outcome State Fault Refusal :=
  if s.host.linkUp then .next (hostReset 0xA false s) else .next s

/-- LINK_DOWN (R446). -/
def execLinkDown (s : State) : Host.Outcome State Fault Refusal := .next (linkLost s)

/-- FLR (R373, R446): the link stays up, and the snoop filter is back-invalidated. -/
def execFlr (s : State) : Host.Outcome State Fault Refusal :=
  if s.host.linkUp then .next (hostReset 0xC true s) else .next s

/-- HOST_RESET_COMPLETE (R449): the device returns to READY, or stays in LANTERN, once the filter of an FLR is empty. -/
def execHostResetComplete (s : State) : Host.Outcome State Fault Refusal :=
  if !s.boot.hostReset || !sweepClear s then .next s
  else
    let s1 := setBoot (fun b => { b with
      dev := if b.hostResetLantern then .lantern else .ready, hostReset := false, hostResetLantern := false }) s
    .next (logEvent .resetSource (detailWords [s.boot.lastSource, s.flash.minute]) s1)

end Sys2Proof.Machine
end

