-- ==== Sys2Proof/Machine/Attach.lean ====
section
/-! DEFINITION. The family of host attachment: link, configuration space, the staging window, mailboxes and the registers of
BAR0 (chapter 12). -/

namespace Sys2Proof.Machine

/-! Link (R366 to R369). -/

/-- LINK_UP (R367, R369): the link comes up at a rate and width of Table: Link modes. -/
def execLinkUp (rate : BitVec 2) (width : BitVec 2) (cxl : Bool) (latOpt : Bool) (s : State) : Host.Outcome State Fault Refusal :=
  if !alive s || s.host.linkUp || s.boot.linkBarred || rate = 0#2 || width = 0#2 || width = 3#2 then .next s
  else
    let s1 := setHost (fun h => { h with linkUp := true, rate := rate.toNat, width := width.toNat, cxl := cxl, latOpt := latOpt }) s
    let s2 := logEvent .hostLinkUp 0 s1
    let s3 := if rate = 3#2 && width = 2#2 then s2 else logEvent .hostLinkDegraded (detailWords [rate.toNat, width.toNat]) s2
    .next (if cxl then s3 else logEvent .hostLinkNoCxl 0 s3)

/-- L0P_WIDTH_CHANGE (R368). -/
def execL0pWidthChange (width : BitVec 2) (s : State) : Host.Outcome State Fault Refusal :=
  if s.host.linkUp && (width = 1#2 || width = 2#2) then .next (setHost (fun h => { h with width := width.toNat }) s) else .next s

/-! MSI-X (R378). -/

/-- Messages whose vectors are no longer masked are sent, in ascending order. -/
def flushMsix (s : State) : State :=
  if !s.host.msixEn || s.host.funcMask then s
  else
    let open_ := (List.range 2048).filter (fun v => s.host.pba.contains v && !(msixEntry v s).masked)
    open_.foldl (fun acc v => sendMsix v (setHost (fun h => { h with pba := h.pba.filter (· != v) }) acc)) s

/-- The mask bit of a vector is written. -/
def maskVector (v : Nat) (masked : Bool) (s : State) : State :=
  flushMsix (setHost (fun h => { h with msix := Tbl.put h.msix v { msixEntry v s with masked := masked } }) s)

/-- MSIX_UNMASK (R378): the message is sent when the bit is still set. -/
def execMsixUnmask (vector : Fin 2048) (s : State) : Host.Outcome State Fault Refusal :=
  .next (regWrite 1 false (maskVector vector.val false) s)

/-! Configuration space (R371, R372). -/

/-- CONFIG_REQUEST (R372): not performed until configuration space is ready. -/
def execConfigRequest (req : ConfigReq) (s : State) : Host.Outcome State Fault Refusal :=
  if !alive s || !s.host.linkUp || s.host.stopIo then .next s
  else if !released 1 s then .next (setHost (fun h => { h with answer := .retryStatus }) s)
  else
    let s1 := setHost (fun h => { h with answer := .accepted }) s
    .next (match req with
      | .memEnable on => setHost (fun h => { h with memEn := on }) s1
      | .biEnable on => setHost (fun h => { h with biEn := on }) s1
      | .msixEnable on => flushMsix (setHost (fun h => { h with msixEn := on }) s1)
      | .functionMask on => flushMsix (setHost (fun h => { h with funcMask := on }) s1)
      | .other => s1)

/-! CXL.cache (R380). -/

/-- CACHE_ENABLE_SET (R380): every doorbell line is read, and fetching resumes. -/
def execCacheEnableSet (s : State) : Host.Outcome State Fault Refusal :=
  if !alive s || !released 1 s || !s.host.linkUp || !s.host.cxl || s.host.cacheEn then .next s
  else .next (readAllLines (setHost (fun h => { h with cacheEn := true }) s))

/-- CACHE_ENABLE_CLEAR (R380): every line is evicted, and fetching stops; the rings stay. -/
def execCacheEnableClear (s : State) : Host.Outcome State Fault Refusal :=
  if !alive s || !s.host.linkUp || !s.host.cacheEn then .next s
  else
    let s1 := setHost (fun h => { h with cacheEn := false, lines := [], reading := [] }) s
    .next (if s.rings.sqs.isEmpty && s.rings.cqs.isEmpty then s1 else logEvent .hostAccessError 0 s1)

/-! The HDM-DB staging window (R381 to R386). -/

/-- HDM_DECODER_COMMIT (R381, R382): it commits only in READY with Mem_Enable and BI Enable set. The base is 256 MiB
aligned. -/
def execHdmDecoderCommit (base : W64) (s : State) : Host.Outcome State Fault Refusal :=
  if !barServed s then .next s
  else if s.boot.dev == .ready && s.host.memEn && s.host.biEn && s.host.cxl then
    .next (setHost (fun h => { h with hdmCommitted := true, hdmError := false, hdmBase := base.toNat / 2 ^ 28 * 2 ^ 28 }) s)
  else .next (setHost (fun h => { h with hdmError := true }) s)

/-- CXL.mem requests reach the window. -/
def hdmServed (s : State) : Bool := alive s && s.host.linkUp && s.host.cxl && !s.host.stopMem && s.host.hdmCommitted

/-- The entry of the running step's set that names a page, with the owner's job_tag. -/
def stepEntry (page : Nat) (s : State) : Option (Nat × Region) :=
  match ownerJob s with
  | none => none
  | some (_, j) =>
    if j.state != .running then none
    else (s.tensor.region.active.find? (fun r => decide (r.base ≤ page) && decide (page < r.base + r.pages))).map (fun r => (j.tag, r))

/-- A step conflict (R384): counted, logged once per step, and the page's content is unspecified from now on. -/
def stepConflict (tag page : Nat) (s : State) : State :=
  let s1 := setHost (fun h => { h with conflicts := satAdd 24 h.conflicts 1, conflictLogged := true }) s
  let s2 := if s.host.conflictLogged then s1 else logEvent .hdmStepConflict (detailWords [tag, page]) s1
  let s3 := putStacked (page * 4096) ((List.range 4096).map (fun i => Config.unspecifiedByte s2.drawn i)) s2
  { s3 with drawn := s3.drawn + 1 }

/-- The filter records a line the host may cache; none when it has no room for a new one (R383). -/
def recordLine (line : Nat) (exclusive : Bool) (s : State) : Option State :=
  if s.host.snoop.any (fun x => x.line == line) then
    some (setHost (fun h => { h with
      snoop := h.snoop.map (fun x => if x.line = line then { x with exclusive := x.exclusive || exclusive } else x) }) s)
  else if s.host.snoop.length < Config.snoopEntries then
    some (setHost (fun h => { h with snoop := h.snoop ++ [{ line := line, exclusive := exclusive }] }) s)
  else none

/-- The entry recorded earliest is back-invalidated to make room. -/
def evictEarliest (s : State) : State :=
  match s.host.snoop with
  | [] => s
  | x :: _ =>
    if s.host.biOut.any (fun b => b.line == x.line) || Config.snoopFlight ≤ s.host.biOut.length then s
    else setHost (fun h => { h with biOut := h.biOut ++ [{ line := x.line, inv := true, sweep := false }] }) s

/-- Answer a host read of a line: its 64 bytes, or poison where it holds an uncorrectable word (R386). -/
def answerLine (line : Nat) (s : State) : State :=
  match readStacked (windowBase s + 64 * line) 64 s with
  | (.ok bytes, s1) => setHost (fun h => { h with answer := .data bytes }) s1
  | (.error _, s1) => setHost (fun h => { h with answer := .poison }) s1

/-- HDM_HOST_READ (R382 to R386). -/
def execHdmHostRead (addr : BitVec 34) (intent : HdmIntent) (s : State) : Host.Outcome State Fault Refusal :=
  if !hdmServed s then .next s
  else if s.host.d3hot then .next (setHost (fun h => { h with answer := .unsupported }) s)
  else if s.boot.dev != .ready then .next (setHost (fun h => { h with answer := .poison }) s)
  else
    let line := addr.toNat / 64
    let page := (windowBase s + 64 * line) / 4096
    let s1 := match stepEntry page s with
      | some (tag, r) => if r.writeOnly || intent == .exclusive then stepConflict tag page s else s
      | none => s
    if intent == .uncached then .next (answerLine line s1)
    else match recordLine line (intent == .exclusive) s1 with
      | some s2 => .next (answerLine line s2)
      | none =>
        let w := if s1.host.waiting.isNone then some (line, intent == .exclusive) else s1.host.waiting
        .next (evictEarliest (setHost (fun h => { h with waiting := w, answer := .waits }) s1))

/-- The admitted job whose signed ranges a host write touches (R515). -/
def signedHit (a n : Nat) (s : State) : Option (Nat × Job) :=
  s.tensor.jobs.find? (fun p => p.2.signed.any (fun r => decide (r.2.1 < a + n) && decide (a < r.2.1 + r.2.2)))

/-- Host bytes reach the window: dropped in a signed range (R515), stored with poison (R386), or stored. -/
def hostStore (a : Nat) (bytes : List Byte) (poison : Bool) (s : State) : State :=
  match signedHit a bytes.length s with
  | some (e, j) =>
    let s1 := setHost (fun h => { h with conflicts := satAdd 24 h.conflicts 1 }) s
    if j.signedLogged then s1 else logEvent .secSignedWrite 0 (modJob e (fun k => { k with signedLogged := true }) s1)
  | none =>
    let s1 := putStacked a bytes s
    if poison then setHost (fun h => { h with poisoned := true }) (poisonStacked (a / 64 * 64) 64 s1) else s1

/-- HDM_HOST_WRITE (R382 to R386, R515): bytes of one line from `addr` on. -/
def execHdmHostWrite (addr : BitVec 34) (bytes : List Byte) (poison : Bool) (s : State) : Host.Outcome State Fault Refusal :=
  if !hdmServed s then .next s
  else if s.host.d3hot then .next (setHost (fun h => { h with answer := .unsupported }) s)
  else if s.boot.dev != .ready then .next s
  else
    let a := windowBase s + addr.toNat
    let data := bytes.take (64 - addr.toNat % 64)
    let s1 := hostStore a data poison s
    .next (match stepEntry (a / 4096) s with
      | some (tag, _) => if (signedHit a data.length s).isSome then s1 else stepConflict tag (a / 4096) s1
      | none => s1)

/-- A request that waited for room goes on once the filter has some (R383). -/
def resumeWaiting (s : State) : State :=
  match s.host.waiting with
  | none => s
  | some (line, ex) =>
    match recordLine line ex s with
    | some s1 => answerLine line (setHost (fun h => { h with waiting := none }) s1)
    | none => s

/-- BISNP_RESPONSE (R383, R384): the host gives up ownership, with its dirty data if it has any; the sweep and a boundary
that waits go on. -/
def execBisnpResponse (line : BitVec 28) (writeBack : List Byte) (s : State) : Host.Outcome State Fault Refusal :=
  let l := line.toNat
  match s.host.biOut.find? (fun b => b.line == l) with
  | none => .next s
  | some b =>
    if !s.host.linkUp || s.host.stopMem then .next s
    else
      let s1 := setHost (fun h => { h with
        biOut := h.biOut.filter (fun x => x.line != l)
        snoop := if b.inv then h.snoop.filter (fun x => x.line != l)
                 else h.snoop.map (fun x => if x.line = l then { x with exclusive := false } else x) }) s
      let s2 := if writeBack.isEmpty || s.boot.dev != .ready then s1
                else hostStore (windowBase s + 64 * l) (padTo 64 0#8 writeBack) false s1
      .next (boundaryResume (issueSweep (resumeWaiting s2)))

/-! Link encryption (R387, R388). -/

/-- IDE_INTEGRITY_FAIL (R388): the stream goes insecure, and its protocol stops until a link reset. -/
def execIdeIntegrityFail (stream : IdeStream) (s : State) : Host.Outcome State Fault Refusal :=
  let secure := match stream with
    | .cacheMem => s.host.ideMem
    | .io => s.host.ideIo
  if !s.host.linkUp || !secure then .next s
  else
    let s1 := match stream with
      | .cacheMem => setHost (fun h => { h with ideMem := false, stopMem := true }) s
      | .io => setHost (fun h => { h with ideIo := false, stopIo := true }) s
    .next (logEvent .hostIdeFail 0 s1)

/-- IDE_KEY_PROGRAM (R387, R388): over a secured SPDM session; a failed stream needs a link reset first. -/
def execIdeKeyProgram (stream : IdeStream) (s : State) : Host.Outcome State Fault Refusal :=
  if !doeServed s || !s.sec.spdm.session then .next s
  else .next (match stream with
    | .cacheMem => if s.host.stopMem || !s.host.cxl then s else setHost (fun h => { h with ideMem := true }) s
    | .io => setHost (fun h => { h with ideIo := true }) s)

/-! Mailboxes (R389, R390). -/

/-- The protocols of a DOE instance: vendor ID and object type. -/
def doeProtocols (inst : Nat) : List (Nat × Nat) :=
  if inst = 0 then [(1, 0), (1, 1), (1, 2)] else [(1, 0), (0x1E98, 2), (Config.vendorId.toNat, Config.mgmtType.toNat)]

/-- DOE_DISCOVERY (R389): the protocol at an index of the instance, and the index of the next one, 0 after the last. -/
def execDoeDiscovery (inst : Fin 2) (index : Byte) (s : State) : Host.Outcome State Fault Refusal :=
  if !doeServed s then .next s
  else
    let ps := doeProtocols inst.val
    let i := index.toNat
    let word := match ps[i]? with
      | some p => p.1 + p.2 * 2 ^ 16 + (if i + 1 < ps.length then i + 1 else 0) * 2 ^ 24
      | none => 0xFFFF
    .next (doeAnswer inst.val (leBytes 4 word) s)

/-- CDAT_READ (R389). -/
def execCdatRead (s : State) : Host.Outcome State Fault Refusal :=
  if doeServed s then .next (doeAnswer 1 Config.cdatTable s) else .next s

/-- DOE_ABORT (R390): the request in progress on that instance is discarded. -/
def execDoeAbort (inst : Fin 2) (s : State) : Host.Outcome State Fault Refusal :=
  if !doeServed s then .next s
  else if inst.val = 0 then .next (setHost (fun h => { h with doe0 := none }) s)
  else .next (setHost (fun h => { h with doe1 := none }) s)

/-! BAR0 (R375 to R377). -/

/-- An access of a wrong size or alignment: a write is dropped, a read returns all ones (R375). -/
def accessError (write : Bool) (s : State) : State :=
  setHost (fun h => { h with accessErr := true, answer := if write then h.answer else .data (List.replicate 8 0xFF#8) }) s

/-- BAR0_ACCESS_ERROR (R375, R373). -/
def execBar0AccessError (write : Bool) (s : State) : Host.Outcome State Fault Refusal :=
  if !alive s || !s.host.linkUp || s.host.stopIo then .next s
  else if s.host.d3hot then .next (if write then s else setHost (fun h => { h with answer := .unsupported }) s)
  else .next (accessError write s)

/-- A 4-byte write to the MSI-X table: address, data and the mask bit of a vector. -/
def writeMsix (off : Nat) (v : W32) (s : State) : State :=
  let n := off / 16
  let e := msixEntry n s
  let store := fun (x : MsixEntry) => setHost (fun h => { h with msix := Tbl.put h.msix n x }) s
  let old := e.addr.toNat
  match off / 4 % 4 with
  | 0 => store { e with addr := BitVec.ofNat 64 (old / 2 ^ 32 * 2 ^ 32 + v.toNat / 4 * 4) }
  | 1 => store { e with addr := BitVec.ofNat 64 (v.toNat * 2 ^ 32 + old % 2 ^ 32) }
  | 2 => store { e with data := v }
  | _ => maskVector n (bit v.toNat 0) s

/-- A write to KYB_PORT_CTRL_p. -/
def writePortCtrl (p : Nat) (v : W32) (s : State) : State :=
  let n := v.toNat
  let s1 := setPort p { portOf p s with maxLanes := bits n 29 28 } s
  let s2 := if bit n 31 then enablePort p s1 else disablePort p s1
  if bit n 30 then retrainPort p s2 else s2

/-- A write to KYB_FABRIC_CTRL. -/
def writeFabricCtrl (v : W32) (s : State) : State :=
  { s with fabric := { s.fabric with hopLimit := bits v.toNat 31 27, timeoutUs := bits v.toNat 19 0 } }

/-- A write to LDG_GC. -/
def writeLdgGc (v : W32) (s : State) : State :=
  { s with flash := { s.flash with gcStart := bits v.toNat 31 18, gcUrgent := bits v.toNat 17 4, refreshDepth := bits v.toNat 3 0 } }

/-- A write to LDG_FOLD. -/
def writeLdgFold (v : W32) (s : State) : State :=
  { s with flash := { s.flash with bufferMax := bits v.toNat 31 16, foldStart := bits v.toNat 15 0 } }

/-- A write to the 32-bit register at `off`; offsets that hold none, and read-only registers, ignore it (R375, R377). -/
def write32 (off : Nat) (v : W32) (s : State) : State :=
  let n := v.toNat
  if off = 0x10000 then regWrite 1 true (setHost (fun h => { h with accessErr := h.accessErr && !bit n 11 })) s
  else if off = 0x11000 then regWrite 1 true (writePwrLimit v) s
  else if off = 0x12000 then writeRstCtrl v s
  else if off = 0x12004 then regWrite 1 true (writeRstBlock v) s
  else if off = 0x12010 then writeBootCtrl v s
  else if off = 0x14008 then regWrite 1 true (writeGbCtrl v) s
  else if off = 0x1400C then regWrite 1 true (writeGbHead v) s
  else if 0x14100 ≤ off && off < 0x1411C then regWrite 1 true (writeWinCtrl ((off - 0x14100) / 4) v) s
  else if off = 0x14140 then regWrite 1 true (writeCtrSel v) s
  else if off = 0x15000 then regWrite 2 true (writeBankStatus 0 v) s
  else if off = 0x15004 then regWrite 2 true (writeBankStatus 1 v) s
  else if off = 0x15018 then regWrite 2 true (selectSector v) s
  else if off = 0x16000 then regWrite 7 false (writeQstatCtrl v) s
  else if 0x1B000 ≤ off && off < 0x1B020 then regWrite 5 false (writePtrArea ((off - 0x1B000) / 4) v) s
  else if off = 0x1B020 then
    regWrite 5 false (fun x => { x with mem := { x.mem with resvRefused := x.mem.resvRefused && !bit n 31 } }) s
  else if off = 0x20000 then regWrite 1 true (writeAdminCtrl v) s
  else if 0x29000 ≤ off && off < 0x29040 then regWrite 8 false (writePortCtrl ((off - 0x29000) / 4) v) s
  else if off = 0x29040 then regWrite 8 false (writeDeviceId v) s
  else if off = 0x29044 then regWrite 8 false (writeFabricCtrl v) s
  else if 0x38000 ≤ off && off < 0x3800C then regWrite 4 false (writePool ((off - 0x38000) / 4 + 1) v) s
  else if off = 0x3800C then regWrite 4 false (writeLdgGc v) s
  else if off = 0x38010 then regWrite 4 false (writeLdgFold v) s
  else if off = 0x38014 then regWrite 4 false (writeClock v) s
  else if 0x40000 ≤ off && off < 0x48000 then regWrite 1 false (writeMsix (off - 0x40000) v) s
  else s

/-- A base or doorbell register of the ADMIN pair; ignored while the pair runs (R397). -/
def writeAdminReg (f : Rings → Rings) (s : State) : State := if s.rings.running then s else setRings f s

/-- Writable registers of 64 bits. -/
def is64 (off : Nat) : Bool :=
  off == 0x10010 || off == 0x14000 || (decide (0x1B200 ≤ off) && decide (off < 0x1B400)) || off == 0x20008 || off == 0x20010
    || off == 0x20018 || off == 0x20020 || off == 0x28010 || off == 0x28018 || off == 0x28020
    || (decide (0x30000 ≤ off) && decide (off < 0x38000)) || off == 0x38018

/-- A write to the 64-bit register at `off` (R377). -/
def write64 (off : Nat) (v : W64) (s : State) : State :=
  let n := v.toNat
  if off = 0x10010 then regWrite 1 true (setHost (fun h => { h with poisoned := h.poisoned && !bit n 2 })) s
  else if off = 0x14000 then
    regWrite 1 true (fun x => if x.evt.running then x else { x with evt := { x.evt with base := n / 4096 * 4096 } }) s
  else if 0x1B200 ≤ off && off < 0x1B400 then regWrite 5 false (writePtrResv ((off - 0x1B200) / 8) v) s
  else if off = 0x20008 then regWrite 1 true (writeAdminReg (fun r => { r with sqBase := n / 4096 * 4096 })) s
  else if off = 0x20010 then regWrite 1 true (writeAdminReg (fun r => { r with cqBase := n / 4096 * 4096 })) s
  else if off = 0x20018 then regWrite 1 true (writeAdminReg (fun r => { r with sqDb := n / 4 * 4 })) s
  else if off = 0x20020 then regWrite 1 true (writeAdminReg (fun r => { r with cqDb := n / 4 * 4 })) s
  else if off = 0x28010 then regWrite 7 false (writeRalLog v) s
  else if off = 0x28018 then regWrite 7 false (writeRalParam v) s
  else if off = 0x28020 then regWrite 7 false (writeRalShards v) s
  else if 0x30000 ≤ off && off < 0x38000 then regWrite 8 false (writeRoute ((off - 0x30000) / 8) v) s
  else if off = 0x38018 then
    regWrite 4 false (fun x => { x with flash := { x.flash with refused := x.flash.refused && !bit n 63 } }) s
  else s

/-- A 4-byte write: the lower half of a 64-bit register is staged, and its upper half writes the whole register (R375). An
upper half with nothing staged takes a lower half that the spec leaves open. -/
def store4 (off : Nat) (v : W32) (s : State) : State :=
  let base := off / 8 * 8
  if !is64 base then write32 off v s
  else if off = base then setHost (fun h => { h with staged := Tbl.put h.staged base v.toNat }) s
  else
    let d := drawFree s
    let r := match Tbl.look s.host.staged base with
      | some lo => (lo, s)
      | none => (d.1.toNat % 2 ^ 32, d.2)
    write64 base (BitVec.ofNat 64 (v.toNat * 2 ^ 32 + r.1)) (setHost (fun h => { h with staged := Tbl.del h.staged base }) r.2)

/-- An aligned 8-byte write: one register of 64 bits, or two of 32 bits. -/
def store8 (off : Nat) (v : W64) (s : State) : State :=
  if is64 off then write64 off v s
  else write32 (off + 4) (v.extractLsb' 32 32) (write32 off (v.extractLsb' 0 32) s)

/-- REGISTER_WRITE (R5, R375 to R377): a 4-byte or 8-byte write into BAR0. -/
def execRegisterWrite (offset : BitVec 23) (wide : Bool) (value : W64) (s : State) : Host.Outcome State Fault Refusal :=
  let off := offset.toNat
  if !barServed s then .next s
  else if off % (if wide then 8 else 4) != 0 then .next (accessError true s)
  else .next (if wide then store8 off value s else store4 off (value.extractLsb' 0 32) s)

/-! Registers of this chapter as read. -/

/-- HST_DEV_STATE. -/
def devState (s : State) : Nat :=
  b2n s.host.accessErr * 2 ^ 11 + b2n (s.host.ideMem && s.host.ideIo) * 2 ^ 10
    + b2n (s.host.hdmCommitted && s.boot.dev == .ready) * 2 ^ 9 + b2n s.host.cacheEn * 2 ^ 8 + s.host.pstate * 16 + devCode s.boot.dev

/-- HST_LINK_STATUS. -/
def linkStatus (s : State) : Nat :=
  let h := s.host
  h.linkDowns * 2 ^ 32 + h.replays * 2 ^ 16 + b2n h.latOpt * 2 ^ 9 + b2n h.cxl * 2 ^ 8 + h.width * 16 + h.rate

/-- HST_HDM_STATUS. -/
def hdmStatus (s : State) : Nat :=
  let h := s.host
  h.conflicts * 2 ^ 40 + h.biOut.length * 2 ^ 27 + h.snoop.length * 64 + b2n h.poisoned * 4 + b2n h.hdmCommitted * 2 + b2n h.biEn

end Sys2Proof.Machine
end

