-- ==== Sys2Proof/Machine/Grid.lean ====
section
/-! DEFINITION. The family of grid commands: issue, stream, delivery, correction pass and epilogue (chapters 02
to 04). -/

namespace Sys2Proof.Machine

/-! Reading operands (R76, R77). -/

/-- `n` little-endian values of `w` bytes from a byte address of tile memory. -/
def readVals (x : Tile) (a w n : Nat) : List Nat := (List.range n).map (fun i => leNat (tileRead x (a + w * i) w))

/-- The 32 element codes of block `bi` of an array. -/
def readCodes (x : Tile) (fmt base bi : Nat) : List Nat :=
  unpackCodes (elemBits fmt) 32 (tileRead x (base * 64 + bi * elemBytes fmt 32) (elemBytes fmt 32))

/-- Scale byte and side list of a block. -/
def readScale (x : Tile) (base bi : Nat) : Nat := leNat (tileRead x (base * 64 + bi) 1)
def readSide (x : Tile) (base bi : Nat) : List Byte := tileRead x (base * 64 + 4 * bi) 4

/-- One line of an operand: element codes, and by block the scale and the side list. -/
structure OpLine where
  codes : List Nat
  scales : List Nat
  sides : List (List Byte)
  deriving DecidableEq, Repr

/-- The line made of the listed blocks of an operand. -/
def readLine (x : Tile) (fmt : Nat) (mxe : Bool) (elem sc side : Nat) (blocks : List Nat) : OpLine :=
  { codes := blocks.flatMap (readCodes x fmt elem)
    scales := if isMx fmt then blocks.map (readScale x sc) else []
    sides := if mxe then blocks.map (readSide x side) else [] }

/-- The blocks of a line. -/
def OpLine.blocks (l : OpLine) (fmt : Nat) (mxe : Bool) : List Blk :=
  (List.range l.scales.length).map (fun b =>
    readBlk fmt mxe ((l.codes.drop (32 * b)).take 32) (l.scales.getD b 0) (l.sides.getD b []))

/-- Blocks of line `i` in panel layout with K elements a line (R76). -/
def panelBlocks (k i : Nat) : List Nat := (List.range (k / 32)).map (fun p => p * 128 + i)

/-- Operand a of output row `t`: its panel line, or the lines that its taps read (R77, R87). -/
def lineA (x : Tile) (s : BitVec 128) (p : BitVec 512) (t : Nat) : OpLine :=
  let fmt := gFmt s
  if !gFlow s then readLine x fmt (gAMxe s) (gAElem s) (prAScale p) (prASide p) (panelBlocks (gK s) t)
  else if isMx fmt then
    let per := gC s / 32
    readLine x fmt (gAMxe s) (gAElem s) (prAScale p) (prASide p)
      ((List.range (gT s)).flatMap (fun g => (List.range per).map (fun m => (t + g * gD s) * per + m)))
  else
    let w := elemBits fmt / 8
    { codes := (List.range (gT s)).flatMap (fun g => readVals x (gAElem s * 64 + (t + g * gD s) * gC s * w) w (gC s))
      scales := [], sides := [] }

/-- Line `j` of operand b. -/
def lineB (x : Tile) (s : BitVec 128) (p : BitVec 512) (j : Nat) : OpLine :=
  readLine x (gFmt s) (gBMxe s) (gBElem s) (prBScale p) (prBSide p) (panelBlocks (gK s) j)

/-- Rows written: m_valid, or all N rows (R79). -/
def gValidRows (s : BitVec 128) : Nat := if gFlow s then gRows s else gMValid s

/-- Line `j` that the stationary registers hold: +0 at and beyond the n_valid of its load (R87). -/
def statLine (st : Stationary) (fmt k j : Nat) : OpLine :=
  if j < st.nValid then { codes := st.elems.getD j [], scales := st.scales.getD j [], sides := st.sides.getD j [] }
  else { codes := List.replicate k 0, scales := if isMx fmt then List.replicate (k / 32) 127 else [], sides := [] }

/-- The stored block's value that starts the accumulator of an element (R84, R87). -/
def accStart (x : Tile) (s : BitVec 128) (p : BitVec 512) (t j : Nat) : Nat :=
  if !prAccIn p then 0
  else
    let a := if gFlow s then t * 512 + 4 * j else ((j / 32) * 128 + t) * 128 + 4 * (j % 32)
    leNat (tileRead x (prAccAddr p * 64 + a) 4)

/-- Add an INT32 sum onto a stored value, saturating (R54): the pattern, and whether it saturated. -/
def addSat32 (stored : Nat) (sum : Int) : Nat × Bool :=
  let n := sext 32 stored + sum
  if 2147483647 < n then (0x7FFFFFFF, true)
  else if n < -2147483648 then (0x80000000, true)
  else ((n % 4294967296).toNat, false)

/-- The accumulator of one output element, and whether it saturated (R52 to R55). -/
def gridElem (fmt : Nat) (start : Nat) (amx bmx : Bool) (a b : OpLine) : Nat × Bool :=
  if fmt = 7 then addSat32 start (dotInt8 a.codes b.codes)
  else if fmt = 0 then (dotBf16 start a.codes b.codes, false)
  else (dotMx start (a.blocks fmt amx) (b.blocks fmt bmx), false)

/-! Statistics. -/

/-- The quantisation bank of a tile. -/
def bankOf (t : Nat) (s : State) : QBank := Tbl.lookD s.tensor.qbanks t QBank.zero

/-- Change the bank of a tile, while the windows are not off (Table: TIL_QSTAT_CTRL). -/
def modBank (t : Nat) (f : QBank → QBank) (s : State) : State :=
  if bits s.tensor.qctrlInUse.toNat 31 30 = 0 then s
  else { s with tensor := { s.tensor with qbanks := Tbl.put s.tensor.qbanks t (f (bankOf t s)) } }

/-- Raise IEEE flags of a tile (R43). -/
def Tile.raiseIeee (x : Tile) (e : Exc) : Tile := { x with ieee := x.ieee ||| BitVec.ofNat 5 e }

/-! GRID. -/

/-- GRID (R79, R81, R82): the grid takes the started instruction and reads its parameter record, whose fields are
checked; a keep that nothing can serve faults with them. -/
def execGrid (tile : Fin 128) (s : State) : Host.Outcome State Fault Refusal :=
  let t := tile.val
  let x := tileOf t s
  if !draining s then .next s
  else match x.arr with
    | none => .next s
    | some q =>
      if q.null || sOp q.slot != 1 || x.grids.any (fun g => !g.streaming) then .next s
      else
        let p : BitVec 512 := BitVec.ofNat 512 (leNat (tileRead x (gParam q.slot * 64) 64))
        if !gridParamOk q.slot p then .next (raiseFault causeSlotField t true 0 q.word 0 (setTile t { x with arr := none } s))
        else
          let g : GridJob :=
            { entry := q, buf := x.gridCount % 2, param := p, streaming := false, acc := [], rows := gRows q.slot,
              delivered := 0, corr := .absent, cvals := [], cflags := 0, entered := 0 }
          .next (setTile t { x with arr := none, grids := x.grids ++ [g], gridCount := x.gridCount + 1 } s)

/-- The stationary operand that an instruction computes with: loaded now, or kept (R87). -/
def stationaryOf (x : Tile) (s : BitVec 128) (p : BitVec 512) : Stationary :=
  match gKeep s, x.stat with
  | true, some st => st
  | _, _ =>
    let lines := (List.range (gNValid s)).map (lineB x s p)
    { fmt := gFmt s, mxe := gBMxe s, nValid := gNValid s, elems := lines.map (·.codes), scales := lines.map (·.scales),
      sides := lines.map (·.sides) }

/-- Blocks that hold more than two escape codes, of the lines read (R59). -/
def overflowBlocks (fmt : Nat) (mxe : Bool) (ls : List OpLine) : Nat :=
  ls.foldl (fun n l => n + ((List.range l.scales.length).filter
    (fun b => escOverflow fmt mxe ((l.codes.drop (32 * b)).take 32))).length) 0

/-- Lines of operand a that the grid reads: once each, whatever the taps. -/
def linesRead (x : Tile) (s : BitVec 128) (p : BitVec 512) : List OpLine :=
  if gFlow s then
    let per := gC s / 32
    (List.range (gU s)).map (fun u =>
      readLine x (gFmt s) (gAMxe s) (gAElem s) (prAScale p) (prASide p) ((List.range per).map (fun m => u * per + m)))
  else (List.range (gMValid s)).map (lineA x s p)

/-- Cycles of stream padding (R85). -/
def streamPadding (s : BitVec 128) : Nat :=
  if gFlow s then 0
  else
    let len := if gFmt s = 5 then gK s / 2 else if gFmt s = 0 then gK s * 2 else gK s
    128 - len

/-- Length of a correction pass (R92). -/
def correctionCycles (s : BitVec 128) : Nat := 16 + (b2n (gAMxe s) + b2n (gBMxe s)) * gRows s * (gK s / 128)

/-- The stream of an instruction on tile `x`: its accumulators, the stationary operand, and its saturations. -/
def streamGrid (x : Tile) (g : GridJob) : GridJob × Stationary × Nat × Nat :=
  let sl := g.entry.slot
  let p := g.param
  let st := stationaryOf x sl p
  let bs := (List.range (gNValid sl)).map (statLine st (gFmt sl) (gK sl))
  let cells := (List.range (gValidRows sl)).map (fun t =>
    let a := lineA x sl p t
    (List.range (gNValid sl)).map (fun j =>
      gridElem (gFmt sl) (accStart x sl p t j) (gAMxe sl) (gBMxe sl) a (bs.getD j { codes := [], scales := [], sides := [] })))
  let sats := cells.foldl (fun n row => n + (row.filter (·.2)).length) 0
  let beyond :=
    if isMx (gFmt sl) then
      overflowBlocks (gFmt sl) (gAMxe sl) (linesRead x sl p)
        + (if gKeep sl then 0 else overflowBlocks (gFmt sl) (gBMxe sl) (bs.take st.nValid))
    else 0
  let corr := (List.range (gValidRows sl)).map (fun t =>
    let a := (lineA x sl p t).blocks (gFmt sl) (gAMxe sl)
    (List.range (gNValid sl)).map (fun j =>
      let b := (statLine st (gFmt sl) (gK sl) j).blocks (gFmt sl) (gBMxe sl)
      corrSum 0 0 a b))
  let hasCorr := gAMxe sl || gBMxe sl
  ({ g with
      streaming := true
      acc := cells.map (fun row => row.map (fun c => BitVec.ofNat 32 c.1))
      cvals := if hasCorr then corr.map (fun row => row.map (fun c => BitVec.ofNat 32 c.1)) else []
      cflags := if hasCorr then corr.foldl (fun e row => row.foldl (fun e2 c => Exc.or e2 c.2) e) 0 else 0 },
   st, sats, beyond)

/-- GRID_STREAM_START (R84, R85, R87, R88): the stream of the oldest instruction issued and not streaming starts; its
operands are read and accumulated. Operands that change while the stream runs are the Itinerary's matter (R83): the
model reads them at the start (log 14). -/
def execGridStreamStart (tile : Fin 128) (s : State) : Host.Outcome State Fault Refusal :=
  let t := tile.val
  let x := tileOf t s
  if !draining s then .next s
  else match x.grids.find? (fun g => !g.streaming) with
    | none => .next s
    | some g =>
      let r := streamGrid x g
      let sl := g.entry.slot
      let x1 := { x with
        grids := x.grids.map (fun h => if h.streaming then h else r.1)
        stat := if gFlow sl then some r.2.1 else x.stat }
      let s1 := bump 0 t 8 r.2.2.2 (bump 0 t 4 (streamPadding sl) (setTile t x1 s))
      .next (if prStats g.param then modBank t (fun b => { b with accSat := satAdd 32 b.accSat r.2.2.1 }) s1 else s1)

/-- Replace the first element that `p` picks. -/
def replaceFirst {α : Type} (p : α → Bool) (y : α → α) : List α → List α
  | [] => []
  | x :: xs => if p x then y x :: xs else x :: replaceFirst p y xs

/-- The staging buffer that an instruction delivers into is free: no earlier instruction still uses it (R89, R90). -/
def bufferFree (g : GridJob) : List GridJob → Bool
  | [] => true
  | h :: hs => if h == g then true else (h.buf != g.buf || h.entered == h.rows) && bufferFree g hs

/-- GRID_ROW_DELIVER (R85, R88): the next row of the oldest stream goes to its staging buffer. With the last row, a
correction pass falls due. -/
def execGridRowDeliver (tile : Fin 128) (s : State) : Host.Outcome State Fault Refusal :=
  let t := tile.val
  let x := tileOf t s
  let pick := fun (g : GridJob) => g.streaming && decide (g.delivered < g.rows)
  if !draining s then .next s
  else match x.grids.find? pick with
    | none => .next s
    | some g =>
      if !bufferFree g x.grids then .next s
      else
        let mx := gAMxe g.entry.slot || gBMxe g.entry.slot
        let g' := { g with
          delivered := g.delivered + 1
          corr := if mx && g.delivered + 1 == g.rows then .due else g.corr }
        .next (setTile t { x with grids := replaceFirst pick (fun _ => g') x.grids } s)

/-- CORRECTION_PASS_START (R91): the oldest correction pass due starts, once no other runs. -/
def execCorrectionPassStart (tile : Fin 128) (s : State) : Host.Outcome State Fault Refusal :=
  let t := tile.val
  let x := tileOf t s
  let pick := fun (g : GridJob) => g.corr == .due
  if !draining s || x.grids.any (fun g => g.corr == .running) then .next s
  else .next (setTile t { x with grids := replaceFirst pick (fun g => { g with corr := .running }) x.grids } s)

/-- CORRECTION_PASS_END (R60, R91, R92): C of every output element stands in the correction buffer; its flags are
raised and its cycles counted. -/
def execCorrectionPassEnd (tile : Fin 128) (s : State) : Host.Outcome State Fault Refusal :=
  let t := tile.val
  let x := tileOf t s
  let pick := fun (g : GridJob) => g.corr == .running
  if !draining s then .next s
  else match x.grids.find? pick with
    | none => .next s
    | some g =>
      let x1 := { x with grids := replaceFirst pick (fun h => { h with corr := .ended }) x.grids }
      .next (bump 0 t 7 (correctionCycles g.entry.slot) (setTile t (x1.raiseIeee g.cflags) s))

/-! The epilogue (R94 to R98). -/

/-- Scale and bias arrays of the stages. -/
def f32At (x : Tile) (base i : Nat) : Nat := leNat (tileRead x (base * 64 + 4 * i) 4)

/-- q × s of R108: the exact integer times an FP32 value, rounded once. -/
def mulIntF32 (q : Int) (sc : Nat) : Nat :=
  let neg := decide (q < 0)
  match f32.decode sc with
  | .nan => f32.nanBits
  | .inf sg => if q = 0 then f32.nanBits else (if neg != sg then f32.signBit else 0) + f32.infBits
  | .fin sg m e => (f32.round .tiesEven (neg != sg) (q.natAbs * m) e).1

/-- The scale stage on the value of row `i` and column `j` (R95, R107, R108). -/
def scaleStage (x : Tile) (p : BitVec 512) (rows i j v : Nat) : Nat :=
  let sa := prScaleAddr p
  let m := fun (k : Nat) => f32.canon (f32.mul .tiesEven v (f32At x sa k)).1
  match prScaleMode p with
  | 1 => m 0
  | 2 => m j
  | 3 => m i
  | 4 => mulIntF32 (sext 32 v) (f32.mul .tiesEven (f32At x sa i) (f32At x sa (rows + j))).1
  | _ => v

/-- The bias stage (R95). -/
def biasStage (x : Tile) (p : BitVec 512) (i j v : Nat) : Nat :=
  let add := fun (k : Nat) => f32.canon (f32.add .tiesEven v (f32At x (prBiasAddr p) k)).1
  match prBiasMode p with
  | 1 => add j
  | 2 => add i
  | _ => v

/-- The activation stage (R96): exact for ReLU, for NaN and for the infinities; else the part's value. -/
def activate (act v : Nat) : Nat :=
  match f32.decode v with
  | .nan => f32.nanBits
  | .inf neg =>
    if act = 0 then v
    else if !neg then (if 5 ≤ act then 0x3F800000 else v)
    else if act = 5 then 0xBF800000 else 0
  | .fin neg m _ =>
    if act = 0 then v
    else if act = 1 then (if neg || m = 0 then 0 else v)
    else (Config.activation act (BitVec.ofNat 32 v)).toNat

/-- The row-reduction result of the valid values of a row (R97). -/
def reduceRow (op : Nat) (int32 : Bool) (vs : List Nat) : List Byte :=
  let below := if int32 then (fun a b => decide (sext 32 a < sext 32 b)) else belowTotal
  let fix := fun (v : Nat) => if int32 then v else f32.plusZero (f32.canon v)
  let mx := (argBest below vs 0 none).getD (0, 0)
  let mn := (argBest (fun a b => below b a) vs 0 none).getD (0, 0)
  match op with
  | 1 => leBytes 4 (fix mx.2)
  | 2 => leBytes 4 (fix mn.2)
  | 3 => leBytes 4 mx.1
  | 4 => leBytes 4 (fix (match vs with
      | [] => 0
      | v :: rest => rest.foldl (fun a b => (f32.add .tiesEven a b).1) v))
  | 5 => leBytes 4 (fix mx.2) ++ leBytes 4 mx.1
  | _ => []

/-- Block index of column block `b` of output row `i` (R78). -/
def outBlock (line : Bool) (i b : Nat) : Nat := if line then i * 4 + b else (i / 128) * 512 + b * 128 + i % 128

/-- Write one converted block of an output row, with its statistics. -/
def writeOutBlock (p : BitVec 512) (i b : Nat) (vs : List Nat) (stat : Bool) (x : Tile) (q : QBank) : Tile × QBank :=
  let of := prOutFmt p
  let bi := outBlock (prLine p) i b
  let at_ := prOutBase p * 64 + bi * elemBytes of 32
  if isMx of then
    let supplied := readScale x (prOutSc p) bi
    let o := mxConvert of (prOutMxe p) (prScaleRule p) supplied vs
    let x1 := tileWrite x at_ (packCodes (elemBits of) o.codes)
    let x2 :=
      if prScaleRule p != 2 || o.scale == 255 then tileWrite x1 (prOutSc p * 64 + bi) [BitVec.ofNat 8 o.scale] else x1
    let x3 := if prOutMxe p then tileWrite x2 (prOutSide p * 64 + 4 * bi) o.side else x2
    (x3, if stat then statBlk .epilogue vs o q else q)
  else if of = 0 then
    let rs := vs.map (fun v => bf16.plusZero (bf16.canon (f32.convert bf16 .tiesEven v).1))
    (tileWrite x at_ (rs.flatMap (leBytes 2)),
      if stat then (List.range vs.length).foldl (fun a k => statBf16 .epilogue (vs.getD k 0) (rs.getD k 0) a) q else q)
  else if of = 7 then
    let scs := (List.range vs.length).map (fun k => f32At x (prOutSc p) (32 * b + k))
    let rs := (List.range vs.length).map (fun k => int8Encode (vs.getD k 0) (scs.getD k 0))
    (tileWrite x at_ (rs.map (fun r => BitVec.ofNat 8 r.1)),
      if stat then (List.range vs.length).foldl
        (fun a k => statInt8 .epilogue (vs.getD k 0) (rs.getD k (0, false)).1 (scs.getD k 0) (rs.getD k (0, false)).2 a) q else q)
  else
    let rs := if of = 10 then vs else vs.map (fun v => f32.plusZero (f32.canon v))
    (tileWrite x at_ (rs.flatMap (leBytes 4)), q)

/-- Write the column blocks of a row from block `b` on; a block with no valid column is not written (R113). -/
def writeOutRow (p : BitVec 512) (i : Nat) (stat : Bool) : Nat → Nat → List Nat → Tile → QBank → Tile × QBank
  | 0, _, _, x, q => (x, q)
  | k + 1, b, vs, x, q =>
    if vs.isEmpty then (x, q)
    else
      let r := writeOutBlock p i b (vs.take 32) stat x q
      writeOutRow p i stat k (b + 1) (vs.drop 32) r.1 r.2

/-- A row through every stage: its activation-stage values, and the flags of the correction add (R60, R94). -/
def stageRow (x : Tile) (g : GridJob) (i : Nat) : List Nat × Exc :=
  let p := g.param
  let row := (g.acc.getD i []).map BitVec.toNat
  let cs := (g.cvals.getD i []).map BitVec.toNat
  let added := (List.range row.length).map (fun j =>
    if g.corr == .absent then (row.getD j 0, 0)
    else
      let u := Fv.add (f32.decode (row.getD j 0)) (f32.decode (cs.getD j 0))
      let r := f32.ofFv u.1
      (r.1, Exc.or r.2 (if u.2 then excInvalid else 0)))
  ((List.range row.length).map (fun j =>
      let v := (added.getD j (0, 0)).1
      if prOutFmt p = 10 then v
      else activate (prAct p) (biasStage x p i j (scaleStage x p g.rows i j v))),
   added.foldl (fun e a => Exc.or e a.2) 0)

/-- EPILOGUE_ROW_ENTER (R89, R94 to R98): the next staged row, in issue order, passes the stages and is written with its
scales, side lists, reduction and statistics; a row beyond m_valid writes nothing. -/
def execEpilogueRowEnter (tile : Fin 128) (s : State) : Host.Outcome State Fault Refusal :=
  let t := tile.val
  let x := tileOf t s
  let pick := fun (g : GridJob) => decide (g.entered < g.rows)
  if !draining s then .next s
  else match x.grids.find? pick with
    | none => .next s
    | some g =>
      let mx := gAMxe g.entry.slot || gBMxe g.entry.slot
      if g.delivered ≤ g.entered || (mx && g.corr != .ended) then .next s
      else
        let i := g.entered
        let x1 := { x with grids := replaceFirst pick (fun h => { h with entered := h.entered + 1 }) x.grids }
        if gValidRows g.entry.slot ≤ i then .next (setTile t x1 s)
        else
          let p := g.param
          let r := stageRow x g i
          let w := writeOutRow p i (prStats p) 4 0 r.1 x1 (bankOf t s)
          let red := reduceRow (prReduce p) (prOutFmt p == 10) r.1
          let x2 := tileWrite w.1 (prReduceAddr p * 64 + i * red.length) red
          .next (modBank t (fun _ => w.2) (setTile t (x2.raiseIeee r.2) s))

/-- GRID_COMPLETE (R94): the completion signal of the oldest instruction, whose last row has been written. -/
def execGridComplete (tile : Fin 128) (s : State) : Host.Outcome State Fault Refusal :=
  let t := tile.val
  let x := tileOf t s
  if !draining s then .next s
  else match x.grids with
    | [] => .next s
    | g :: rest =>
      if g.entered = g.rows then .next (completeEntry t g.entry (setTile t { x with grids := rest } s)) else .next s

end Sys2Proof.Machine
end

