-- ==== Sys2Proof/Machine/Integrity.lean ====
section
/-! DEFINITION. The family of data-integrity commands (chapter 17). -/

namespace Sys2Proof.Machine

/-- New faults of a stacked-memory word: bits that invert, and cells that stick at what they then read as. -/
def wearWord (w : Nat) (errors stuck : W72) (s : State) : State :=
  let werr := if errors = 0#72 then s.mem.werr else Tbl.put s.mem.werr w (Tbl.lookD s.mem.werr w 0#72 ^^^ errors)
  let s1 := { s with mem := { s.mem with werr := werr } }
  if stuck = 0#72 then s1
  else
    let now := BitVec.ofNat 72 (rawWord w s1)
    let old := Tbl.lookD s1.ecc.cells w { mask := 0#72, value := 0#72 }
    let cells : StuckCells := { mask := old.mask ||| stuck, value := (old.value &&& ~~~stuck) ||| (now &&& stuck) }
    { s1 with ecc := { s1.ecc with cells := Tbl.put s1.ecc.cells w cells } }

/-- A word corrected again on the re-read has a stuck bit: logged, and kept while fewer than 256 are (R497). -/
def noteStuck (w bitPos : Nat) (s : State) : State :=
  let s1 := logEvent .integrityStuckBit (w * 8 + 2 ^ 64 * bitPos + 2 ^ 96 * (eccOf 0 s).corrected) s
  if s.ecc.known.length < 256 then { s1 with ecc := { s1.ecc with known := s1.ecc.known ++ [w] } } else s1

/-- One patrol read of word `w` (R497). -/
def patrol (w : Nat) (s : State) : State :=
  match w72Decode (rawWord w s) with
  | .clean _ => s
  | .uncorrectable syn => logUncorrectable 0 (w * 8) syn s
  | .corrected d _ =>
    let s1 := countCorrected 0 1 s
    if s.ecc.known.contains w then s1
    else
      let s2 := putStacked (w * 8) (leBytes 8 d) s1
      match w72Decode (rawWord w s2) with
      | .corrected _ pos => noteStuck w pos (countCorrected 0 1 s2)
      | _ => s2

/-- PATROL_READ (R496, R497): the Innkeeper reads a word, in which new faults may have arisen since. -/
def execPatrolRead (addr : BitVec 40) (errors : W72) (stuck : W72) (s : State) : Host.Outcome State Fault Refusal :=
  let w := addr.toNat / 8
  if !alive s || !released 5 s || Config.stackedEnd ≤ addr.toNat then .next s
  else .next (patrol w (wearWord w errors stuck s))

/-- What an access of a copy unit that ends as unrecoverable does to its owner (R498, R499). Unit 12 follows R320, and a
re-rank candidate is failed (R269). -/
def copyLost (unit tile entry : Nat) (s : State) : State :=
  match unit with
  | 9 => raiseFault causeFetchUnrecoverable tile true 0 0 7 s
  | 10 => raiseFault causeCopyUnrecoverable tile true 0 0 7 s
  | 11 => raiseFault causeCopyUnrecoverable tile true 0 0 7 s
  | 13 =>
    match Tbl.look s.mem.cellar entry with
    | some r => (match r.for_ with
      | .rerank _ _ => topUpReads (deliverRead entry r 15 false s)
      | _ => s)
    | none => s
  | _ => s

/-- COPY_REFETCH_COMPLETE (R498, R499): a copy unit has read its data again from the master. It does so at most twice for
an access; a third error, or a master that is lost, ends the access. `entry` is the address or entry, and `mask` the bytes
in error. -/
def execCopyRefetchComplete (unit : Fin 16) (result : RefetchResult) (tile : Fin 128) (entry : W32) (mask : Byte) (s : State) :
    Host.Outcome State Fault Refusal :=
  let u := unit.val
  if !alive s || u < 9 || 14 < u then .next s
  else
    let tries := Tbl.lookD s.ecc.retries u 0 + 1
    let s1 := countRefetched u s
    let ended := { s1 with ecc := { s1.ecc with retries := Tbl.del s1.ecc.retries u } }
    let lost := copyLost u tile.val entry.toNat (logUncorrectable u entry.toNat mask.toNat ended)
    .next (match result with
      | .clean => ended
      | .masterLost => lost
      | .parityAgain => if tries < 2 then { s1 with ecc := { s1.ecc with retries := Tbl.put s1.ecc.retries u tries } } else lost)

/-- INTEGRITY_CORRECTED_RATE_CHECK (R504): the end of a second. A unit with more than 1,000 corrections logs them, at most
once a minute. -/
def execIntegrityCorrectedRateCheck (unit : Fin 16) (s : State) : Host.Outcome State Fault Refusal :=
  let u := unit.val
  let k := Tbl.lookD s.ecc.lastSecond u 0
  let left := Tbl.lookD s.ecc.rateLogged u 0
  let logs := decide (1000 < k) && left == 0
  let s1 := { s with ecc := { s.ecc with
    lastSecond := Tbl.del s.ecc.lastSecond u
    rateLogged := if logs then Tbl.put s.ecc.rateLogged u 59 else if left ≤ 1 then Tbl.del s.ecc.rateLogged u
                  else Tbl.put s.ecc.rateLogged u (left - 1) } }
  .next (if logs then logEvent .integrityCorrectedRate (detailWords [u, k]) s1 else s1)

end Sys2Proof.Machine
end

