-- ==== Sys2Proof/Machine/Vector.lean ====
section
/-! DEFINITION. The family of vector operations (R99 to R102, R136 to R138). -/

namespace Sys2Proof.Machine

/-! Elements in tile memory. -/

/-- Whole-byte elements one by one; six- and four-bit elements by blocks of 32 (R48). -/
def readElems (x : Tile) (fmt unit_ n : Nat) : List Nat :=
  let w := elemBits fmt
  if w % 8 = 0 then readVals x (unit_ * 64) (w / 8) n
  else ((List.range (n / 32)).flatMap (fun b => unpackCodes w 32 (tileRead x (unit_ * 64 + b * (4 * w)) (4 * w))))

/-- The bytes of a list of elements. -/
def packElems (fmt : Nat) (vs : List Nat) : List Byte :=
  let w := elemBits fmt
  if w % 8 = 0 then vs.flatMap (leBytes (w / 8)) else (chunksOf 32 vs.length vs).flatMap (packCodes w)

/-- What an operation does: the tile that it leaves, the flags that it raises, and the bank. -/
structure VecResult where
  tile : Tile
  flags : Exc
  bank : QBank
  deriving DecidableEq, Repr

/-- Store result elements at dst. -/
def storeElems (x : Tile) (fmt unit_ : Nat) (vs : List Nat) : Tile := tileWrite x (unit_ * 64) (packElems fmt vs)

/-- Flags of a list of element results. -/
def flagsOf (rs : List (Nat × Exc)) : Exc := rs.foldl (fun e r => Exc.or e r.2) 0

/-- Store element results with their flags. -/
def storeResults (x : Tile) (q : QBank) (fmt unit_ : Nat) (rs : List (Nat × Exc)) : VecResult :=
  { tile := storeElems x fmt unit_ (rs.map (·.1)), flags := flagsOf rs, bank := q }

/-- Element-wise operations of one, two and three sources in one format (R99). -/
def mapUnary (f : Nat → Nat × Exc) (sl : BitVec 128) (x : Tile) (q : QBank) : VecResult :=
  storeResults x q (vFmtD sl) (vDst sl) ((readElems x (vFmtA sl) (vSrc1 sl) (vN sl)).map f)

def mapBinary (f : Nat → Nat → Nat × Exc) (sl : BitVec 128) (x : Tile) (q : QBank) : VecResult :=
  storeResults x q (vFmtD sl) (vDst sl)
    (List.zipWith f (readElems x (vFmtA sl) (vSrc1 sl) (vN sl)) (readElems x (vFmtA sl) (vSrc2 sl) (vN sl)))

def mapTernary (f : Nat → Nat → Nat → Nat × Exc) (sl : BitVec 128) (x : Tile) (q : QBank) : VecResult :=
  storeResults x q (vFmtD sl) (vDst sl)
    (List.zipWith (fun p c => f p.1 p.2 c)
      (List.zip (readElems x (vFmtA sl) (vSrc1 sl) (vN sl)) (readElems x (vFmtA sl) (vSrc2 sl) (vN sl)))
      (readElems x (vFmtA sl) (vSrc3 sl) (vN sl)))

/-- The started vector operation of a tile, if it has opcode `op` and has not run yet. -/
def startedVec (t op : Nat) (s : State) : Option QEntry :=
  if !draining s then none
  else match (tileOf t s).vec with
    | some q => if !q.null && !q.done && sOp q.slot == op then some q else none
    | none => none

/-- Run the started vector operation of a tile: `f` gets the rounding attribute in force and the slot (R42). -/
def runVec (t op : Nat) (f : Rm → BitVec 128 → Tile → QBank → VecResult) (s : State) : Host.Outcome State Fault Refusal :=
  match startedVec t op s, ownerJob s with
  | some q, some (_, j) =>
    let r := f (rmOf (vRnd q.slot) (jRndDefault j.desc)) q.slot (tileOf t s) (bankOf t s)
    let x := (r.tile.raiseIeee r.flags)
    .next (modBank t (fun _ => r.bank) (setTile t { x with vec := some { q with done := true } } s))
  | _, _ => .next s

/-! Arithmetic. -/

/-- VEC_ADD (R99). -/
def execVecAdd (tile : Fin 128) (s : State) : Host.Outcome State Fault Refusal :=
  runVec tile.val 0x01 (fun rm sl => mapBinary (Fmt.add (fmtOf (vFmtA sl)) rm) sl) s

/-- VEC_SUB (R99). -/
def execVecSub (tile : Fin 128) (s : State) : Host.Outcome State Fault Refusal :=
  runVec tile.val 0x02 (fun rm sl => mapBinary (Fmt.sub (fmtOf (vFmtA sl)) rm) sl) s

/-- VEC_MUL (R99). -/
def execVecMul (tile : Fin 128) (s : State) : Host.Outcome State Fault Refusal :=
  runVec tile.val 0x03 (fun rm sl => mapBinary (Fmt.mul (fmtOf (vFmtA sl)) rm) sl) s

/-- VEC_FMA: src1 × src2 + src3 (R99, R137). -/
def execVecFma (tile : Fin 128) (s : State) : Host.Outcome State Fault Refusal :=
  runVec tile.val 0x04 (fun rm sl => mapTernary (Fmt.fma (fmtOf (vFmtA sl)) rm) sl) s

/-- VEC_DIV (R99). -/
def execVecDiv (tile : Fin 128) (s : State) : Host.Outcome State Fault Refusal :=
  runVec tile.val 0x05 (fun rm sl => mapBinary (Fmt.div (fmtOf (vFmtA sl)) rm) sl) s

/-- VEC_SQRT (R99). -/
def execVecSqrt (tile : Fin 128) (s : State) : Host.Outcome State Fault Refusal :=
  runVec tile.val 0x06 (fun rm sl => mapUnary (Fmt.sqrt (fmtOf (vFmtA sl)) rm) sl) s

/-- VEC_MIN: IEEE minimum (R70). -/
def execVecMin (tile : Fin 128) (s : State) : Host.Outcome State Fault Refusal :=
  runVec tile.val 0x07 (fun _ sl => mapBinary (Fmt.minmax (fmtOf (vFmtA sl)) false) sl) s

/-- VEC_MAX: IEEE maximum (R70). -/
def execVecMax (tile : Fin 128) (s : State) : Host.Outcome State Fault Refusal :=
  runVec tile.val 0x08 (fun _ sl => mapBinary (Fmt.minmax (fmtOf (vFmtA sl)) true) sl) s

/-- VEC_MINNUM: IEEE minimumNumber (R70). -/
def execVecMinnum (tile : Fin 128) (s : State) : Host.Outcome State Fault Refusal :=
  runVec tile.val 0x09 (fun _ sl => mapBinary (Fmt.minmaxNum (fmtOf (vFmtA sl)) false) sl) s

/-- VEC_MAXNUM: IEEE maximumNumber (R70). -/
def execVecMaxnum (tile : Fin 128) (s : State) : Host.Outcome State Fault Refusal :=
  runVec tile.val 0x0A (fun _ sl => mapBinary (Fmt.minmaxNum (fmtOf (vFmtA sl)) true) sl) s

/-- VEC_CMP: one byte for each element, 0x01 true and 0x00 false (R99). -/
def execVecCmp (tile : Fin 128) (s : State) : Host.Outcome State Fault Refusal :=
  runVec tile.val 0x0B (fun _ sl x q =>
    let f := fmtOf (vFmtA sl)
    let rs := List.zipWith (fun a b =>
        let r := f.cmp (vSub sl % 16) (bit (vSub sl) 4) a b
        (b2n r.1, r.2))
      (readElems x (vFmtA sl) (vSrc1 sl) (vN sl)) (readElems x (vFmtA sl) (vSrc2 sl) (vN sl))
    { tile := tileWrite x (vDst sl * 64) (rs.map (fun r => BitVec.ofNat 8 r.1)), flags := flagsOf rs, bank := q }) s

/-- VEC_SEL: source 1 where the mask byte is 0x01, else source 2 (R99, R137). -/
def execVecSel (tile : Fin 128) (s : State) : Host.Outcome State Fault Refusal :=
  runVec tile.val 0x0C (fun _ sl x q =>
    let mask := readVals x (vSrc3 sl * 64) 1 (vN sl)
    let a := readElems x (vFmtA sl) (vSrc1 sl) (vN sl)
    let b := readElems x (vFmtA sl) (vSrc2 sl) (vN sl)
    let rs := List.zipWith (fun m p => if m = 1 then p.1 else p.2) mask (List.zip a b)
    { tile := storeElems x (vFmtD sl) (vDst sl) rs, flags := 0, bank := q }) s

/-- VEC_ABS: the sign bit cleared, no flags (R99). -/
def execVecAbs (tile : Fin 128) (s : State) : Host.Outcome State Fault Refusal :=
  runVec tile.val 0x0D (fun _ sl => mapUnary (fun a => (a % (fmtOf (vFmtA sl)).signBit, 0)) sl) s

/-- VEC_NEG: the sign bit inverted, no flags (R99). -/
def execVecNeg (tile : Fin 128) (s : State) : Host.Outcome State Fault Refusal :=
  runVec tile.val 0x0E (fun _ sl => mapUnary (fun a => ((fmtOf (vFmtA sl)).negate a, 0)) sl) s

/-- VEC_COPYSIGN: the magnitude of source 1 with the sign of source 2, no flags (R99). -/
def execVecCopysign (tile : Fin 128) (s : State) : Host.Outcome State Fault Refusal :=
  runVec tile.val 0x0F (fun _ sl => mapBinary (fun a b =>
    let sb := (fmtOf (vFmtA sl)).signBit
    (a % sb + b / sb * sb, 0)) sl) s

/-- VEC_RINT: IEEE roundToIntegralExact (R99). -/
def execVecRint (tile : Fin 128) (s : State) : Host.Outcome State Fault Refusal :=
  runVec tile.val 0x10 (fun rm sl => mapUnary (Fmt.rint (fmtOf (vFmtA sl)) rm) sl) s

/-- VEC_SCALEB: IEEE scaleB with the INT32 exponents of source 2 (R99, R137). -/
def execVecScaleb (tile : Fin 128) (s : State) : Host.Outcome State Fault Refusal :=
  runVec tile.val 0x11 (fun rm sl x q =>
    storeResults x q (vFmtD sl) (vDst sl)
      (List.zipWith (fun a n => (fmtOf (vFmtA sl)).scaleb rm a (sext 32 n))
        (readElems x (vFmtA sl) (vSrc1 sl) (vN sl)) (readElems x 10 (vSrc2 sl) (vN sl)))) s

/-! CVT (R99, R100, R138). -/

/-- A conversion between FP64, FP32, BF16 and INT32. -/
def cvtPlain (rm : Rm) (a d : Nat) (v : Nat) : Nat × Exc :=
  if a = 10 then (if d = 10 then (v, 0) else (fmtOf d).ofInt32 rm v)
  else if d = 10 then (fmtOf a).toInt32 rm v
  else if a = d then ((if (fmtOf a).isNan v then (fmtOf a).quiet v else v), if (fmtOf a).isSnan v then excInvalid else 0)
  else (fmtOf a).convert (fmtOf d) rm v

/-- The FP32 pattern of an MX element with its block scale, exactly; a value outside FP32 is a free value. A NaN element
keeps its sign and payload (R44); a scale of 0xFF gives the canonical NaN. -/
def mxToF32 (fmt code sc : Nat) : Nat :=
  if sc = 255 then f32.nanBits
  else
    match mxDecode fmt code with
    | .nan =>
      let m := (mxOf fmt).mbits
      (if (mxOf fmt).sign ≤ code then f32.signBit else 0) + f32.quiet (f32.infBits + code % 2 ^ m * 2 ^ (23 - m))
    | .inf neg => (if neg then f32.signBit else 0) + f32.infBits
    | .fin neg m e =>
      let r := f32.round .tiesEven neg m (e + sc - 127)
      if r.1 % f32.signBit = f32.infBits then (Config.mxBeyondFp32 fmt code sc).toNat else r.1

/-- CVT into an MX format or MXINT8, block by block. -/
def cvtIntoMx (sl : BitVec 128) (x : Tile) (q : QBank) : VecResult :=
  let fmt := vFmtD sl
  let mxe := bit (vSub sl) 3
  let rule := vSub sl / 16
  let src := readElems x (vFmtA sl) (vSrc1 sl) (vN sl)
  let blocks := (List.range (vN sl / 32)).map (fun b =>
    let vs := (src.drop (32 * b)).take 32
    (b, vs, mxConvert fmt mxe rule (readScale x (vSrc2 sl) b) vs))
  let y := blocks.foldl (fun acc p =>
    let o := p.2.2
    let y1 := tileWrite acc (vDst sl * 64 + p.1 * elemBytes fmt 32) (packCodes (elemBits fmt) o.codes)
    let y2 := if rule != 2 || o.scale == 255 then tileWrite y1 (vSrc2 sl * 64 + p.1) [BitVec.ofNat 8 o.scale] else y1
    if mxe then tileWrite y2 (vSrc3 sl * 64 + 4 * p.1) o.side else y2) x
  { tile := y, flags := 0, bank := if vStats sl then blocks.foldl (fun a p => statBlk .vector p.2.1 p.2.2 a) q else q }

/-- CVT into INT8 with the scale at src2 (R110). -/
def cvtIntoInt8 (sl : BitVec 128) (x : Tile) (q : QBank) : VecResult :=
  let sc := f32At x (vSrc2 sl) 0
  let src := readElems x (vFmtA sl) (vSrc1 sl) (vN sl)
  let rs := src.map (fun v => int8Encode v sc)
  { tile := storeElems x 7 (vDst sl) (rs.map (·.1)), flags := 0,
    bank := if vStats sl then (List.zip src rs).foldl (fun a p => statInt8 .vector p.1 p.2.1 sc p.2.2 a) q else q }

/-- CVT out of an MX format or MXINT8 into FP32. -/
def cvtFromMx (sl : BitVec 128) (x : Tile) (q : QBank) : VecResult :=
  let fmt := vFmtA sl
  let mxe := bit (vSub sl) 3
  let rs := (List.range (vN sl / 32)).flatMap (fun b =>
    let codes := readCodes x fmt (vSrc1 sl) b
    let sc := readScale x (vSrc2 sl) b
    let blk := readBlk fmt mxe codes sc (readSide x (vSrc3 sl) b)
    (List.range 32).map (fun i =>
      match blk.slots.getD i none with
      | some v => bf16.convert f32 .tiesEven v
      | none =>
        let c := codes.getD i 0
        (if c = escapeCode fmt && sc != 255 then 0 else mxToF32 fmt c sc, 0)))
  storeResults x q 8 (vDst sl) rs

/-- Blocks of a CVT source that hold more than two escape codes (R59). -/
def cvtOverflows (sl : BitVec 128) (x : Tile) : Nat :=
  if isMx (vFmtA sl) then
    ((List.range (vN sl / 32)).filter (fun b =>
      escOverflow (vFmtA sl) (bit (vSub sl) 3) (readCodes x (vFmtA sl) (vSrc1 sl) b))).length
  else 0

/-- Every conversion by its formats. -/
def cvtAny (rm : Rm) (sl : BitVec 128) (x : Tile) (q : QBank) : VecResult :=
  let a := vFmtA sl
  let d := vFmtD sl
  if isMx d then cvtIntoMx sl x q
  else if d = 7 then cvtIntoInt8 sl x q
  else if isMx a then cvtFromMx sl x q
  else if a = 7 then mapUnary (fun v => f32.roundInt .tiesEven (sext 8 v) 0 false) sl x q
  else
    let src := readElems x a (vSrc1 sl) (vN sl)
    let r := storeResults x q d (vDst sl) (src.map (cvtPlain rm a d))
    if vStats sl && d == 0 && a == 8 then
      { r with bank := (List.zip src (src.map (cvtPlain rm a d))).foldl (fun b p => statBf16 .vector p.1 p.2.1 b) q }
    else if vStats sl && d == 0 then
      -- the reference of a source that is not FP32: its value in FP32
      { r with bank := src.foldl (fun b v =>
          statBf16 .vector (cvtPlain rm a 8 v).1 (cvtPlain rm a d v).1 b) q }
    else r

/-- VEC_CVT (R99, R100, R118, R138). -/
def execVecCvt (tile : Fin 128) (s : State) : Host.Outcome State Fault Refusal :=
  let beyond := match startedVec tile.val 0x12 s with
    | some q => cvtOverflows q.slot (tileOf tile.val s)
    | none => 0
  runVec tile.val 0x12 cvtAny (bump 0 tile.val 8 beyond s)

/-! Splits (R62). -/

/-- The BF16 pieces of an FP32 value; hi is rounded toward zero, and what follows it comes from the exact rest. -/
def splitHi (v : Nat) : Nat := (f32.convert bf16 .zero v).1

/-- v minus a BF16 piece, in FP32. -/
def splitRest (v hi : Nat) : Nat := (f32.sub .tiesEven v (hi * 2 ^ 16)).1

/-- The three pieces. -/
def split3 (v : Nat) : Nat × Nat × Nat :=
  let hi := splitHi v
  let r := splitRest v hi
  let lo := splitHi r
  (hi, lo, splitHi (splitRest r lo))

/-- The flags of a split: invalid for a signalling NaN or an infinity minus itself; R62 calls every other step exact. -/
def splitFlags (v : Nat) : Exc :=
  match f32.decode v with
  | .nan => if f32.isSnan v then excInvalid else 0
  | .inf _ => excInvalid
  | .fin _ _ _ => 0

/-- VEC_SPLIT2: hi at dst, lo at src2 (R62, R137). -/
def execVecSplit2 (tile : Fin 128) (s : State) : Host.Outcome State Fault Refusal :=
  runVec tile.val 0x13 (fun _ sl x q =>
    let src := readElems x 8 (vSrc1 sl) (vN sl)
    let y := storeElems x 0 (vDst sl) (src.map (fun v => (split3 v).1))
    { tile := storeElems y 0 (vSrc2 sl) (src.map (fun v => (split3 v).2.1)),
      flags := src.foldl (fun e v => Exc.or e (splitFlags v)) 0, bank := q }) s

/-- VEC_SPLIT3: hi at dst, lo at src2, lo2 at src3 (R62, R137). -/
def execVecSplit3 (tile : Fin 128) (s : State) : Host.Outcome State Fault Refusal :=
  runVec tile.val 0x14 (fun _ sl x q =>
    let src := readElems x 8 (vSrc1 sl) (vN sl)
    let y := storeElems x 0 (vDst sl) (src.map (fun v => (split3 v).1))
    let z := storeElems y 0 (vSrc2 sl) (src.map (fun v => (split3 v).2.1))
    { tile := storeElems z 0 (vSrc3 sl) (src.map (fun v => (split3 v).2.2)),
      flags := src.foldl (fun e v => Exc.or e (splitFlags v)) 0, bank := q }) s

/-! Transcendental operations (R96, R99, R100). -/

/-- What IEEE 754-2019 fixes of a function for a special operand: the result and its flags; none where the delivered
value is the part's. -/
def transSpecial (op v : Nat) : Option (Nat × Exc) :=
  match f32.nanResult [v] with
  | some r => some r
  | none =>
    match f32.decode v with
    | .inf neg =>
      if op = 0x18 || op = 0x19 then some (if neg then 0 else f32.infBits, 0)
      else if op = 0x1A || op = 0x1B then some (if neg then (f32.nanBits, excInvalid) else (f32.infBits, 0))
      else if op = 0x1C || op = 0x1D then some (if neg then 0xBF800000 else 0x3F800000, 0)
      else if op = 0x1E then some (if neg then 0 else 0x3F800000, 0)
      else some (if neg then (f32.nanBits, excInvalid) else (0, 0))
    | .fin neg m _ =>
      if op = 0x1A || op = 0x1B then
        (if m = 0 then some (f32.signBit + f32.infBits, excDivZero) else if neg then some (f32.nanBits, excInvalid) else none)
      else if op = 0x1F then
        (if m = 0 then some ((if neg then f32.signBit else 0) + f32.infBits, excDivZero)
         else if neg then some (f32.nanBits, excInvalid) else none)
      else none
    | .nan => none

/-- One transcendental result: the part's value, with inexact as the part delivers it, overflow when it is infinite and
underflow when it is below the smallest normal and inexact. -/
def transElem (op v : Nat) : Nat × Exc :=
  match transSpecial op v with
  | some r => r
  | none =>
    let r := (Config.transcendental op (BitVec.ofNat 32 v)).toNat
    let inexact := Config.transcendentalInexact op (BitVec.ofNat 32 v)
    let mag := r % f32.signBit
    let e := if mag = f32.infBits then excOverflow + excInexact
      else if inexact then (if mag < 2 ^ 23 then excUnderflow + excInexact else excInexact)
      else 0
    (r, e)

/-- VEC_EXP (R99). -/
def execVecExp (tile : Fin 128) (s : State) : Host.Outcome State Fault Refusal :=
  runVec tile.val 0x18 (fun _ sl => mapUnary (transElem 0x18) sl) s
/-- VEC_EXP2 (R99). -/
def execVecExp2 (tile : Fin 128) (s : State) : Host.Outcome State Fault Refusal :=
  runVec tile.val 0x19 (fun _ sl => mapUnary (transElem 0x19) sl) s
/-- VEC_LOG (R99). -/
def execVecLog (tile : Fin 128) (s : State) : Host.Outcome State Fault Refusal :=
  runVec tile.val 0x1A (fun _ sl => mapUnary (transElem 0x1A) sl) s
/-- VEC_LOG2 (R99). -/
def execVecLog2 (tile : Fin 128) (s : State) : Host.Outcome State Fault Refusal :=
  runVec tile.val 0x1B (fun _ sl => mapUnary (transElem 0x1B) sl) s
/-- VEC_TANH (R99). -/
def execVecTanh (tile : Fin 128) (s : State) : Host.Outcome State Fault Refusal :=
  runVec tile.val 0x1C (fun _ sl => mapUnary (transElem 0x1C) sl) s
/-- VEC_ERF (R99). -/
def execVecErf (tile : Fin 128) (s : State) : Host.Outcome State Fault Refusal :=
  runVec tile.val 0x1D (fun _ sl => mapUnary (transElem 0x1D) sl) s
/-- VEC_SIGMOID (R99). -/
def execVecSigmoid (tile : Fin 128) (s : State) : Host.Outcome State Fault Refusal :=
  runVec tile.val 0x1E (fun _ sl => mapUnary (transElem 0x1E) sl) s
/-- VEC_RSQRT (R99). -/
def execVecRsqrt (tile : Fin 128) (s : State) : Host.Outcome State Fault Refusal :=
  runVec tile.val 0x1F (fun _ sl => mapUnary (transElem 0x1F) sl) s

/-! Reductions (R101). -/

/-- Lane `l` of a list: elements l, l + 128, ... with their indices. -/
def laneElems (vs : List Nat) (l : Nat) : List (Nat × Nat) :=
  ((List.range vs.length).filter (fun i => i % 128 == l)).map (fun i => (i, vs.getD i 0))

/-- Combine two partial results; an absent lane leaves the other as it is. -/
def joinOpt (f : Nat × Nat × Exc → Nat × Nat × Exc → Nat × Nat × Exc) :
    Option (Nat × Nat × Exc) → Option (Nat × Nat × Exc) → Option (Nat × Nat × Exc)
  | some a, some b => some (f a b)
  | some a, none => some a
  | none, b => b

/-- Combine neighbours, 2q with 2q + 1. -/
def joinPairs (f : Nat × Nat × Exc → Nat × Nat × Exc → Nat × Nat × Exc) :
    List (Option (Nat × Nat × Exc)) → List (Option (Nat × Nat × Exc))
  | a :: b :: rest => joinOpt f a b :: joinPairs f rest
  | xs => xs

/-- The two steps of R101 over (index, value, flags). -/
def reduceLanes (f : Nat × Nat × Exc → Nat × Nat × Exc → Nat × Nat × Exc) (vs : List Nat) : Nat × Nat × Exc :=
  let lane := fun (l : Nat) =>
    match laneElems vs l with
    | [] => none
    | p :: ps => some (ps.foldl (fun a q => f a (q.1, q.2, 0)) (p.1, p.2, 0))
  let lanes := (List.range 128).map lane
  let tree := (List.range 7).foldl (fun xs _ => joinPairs f xs) lanes
  ((tree.getD 0 none).getD (0, 0, 0))

/-- The better of two candidates under IEEE maximum or minimum, the lower index on a tie (R70, R72); NaN is taken
first. -/
def bestOf (f : Fmt) (isMax : Bool) (a b : Nat × Nat × Exc) : Nat × Nat × Exc :=
  let fl := Exc.or (Exc.or a.2.2 b.2.2) (if f.isSnan a.2.1 || f.isSnan b.2.1 then excInvalid else 0)
  let lower := if a.1 ≤ b.1 then a else b
  let other := if a.1 ≤ b.1 then b else a
  let better :=
    if f.isNan lower.2.1 then lower
    else if f.isNan other.2.1 then other
    else if (if isMax then f.lessSigned lower.2.1 other.2.1 else f.lessSigned other.2.1 lower.2.1) then other
    else lower
  (better.1, better.2.1, fl)

/-- The result of RMAX and RMIN, a NaN made quiet (R44). -/
def quietResult (f : Fmt) (r : Nat × Nat × Exc) : Nat × Exc :=
  if f.isNan r.2.1 then (f.quiet r.2.1, Exc.or r.2.2 (if f.isSnan r.2.1 then excInvalid else 0)) else (r.2.1, r.2.2)

/-- Write the one value of a reduction at dst. -/
def storeOne (fmt : Nat) (sl : BitVec 128) (r : Nat × Exc) (x : Tile) (q : QBank) : VecResult :=
  { tile := storeElems x fmt (vDst sl) [r.1], flags := r.2, bank := q }

/-- VEC_RSUM (R101). -/
def execVecRsum (tile : Fin 128) (s : State) : Host.Outcome State Fault Refusal :=
  runVec tile.val 0x20 (fun rm sl x q =>
    let f := fmtOf (vFmtA sl)
    let r := reduceLanes (fun a b =>
      let u := f.add rm a.2.1 b.2.1
      (a.1, u.1, Exc.or (Exc.or a.2.2 b.2.2) u.2)) (readElems x (vFmtA sl) (vSrc1 sl) (vN sl))
    storeOne (vFmtA sl) sl (quietResult f r) x q) s

/-- VEC_RMAX (R70, R101). -/
def execVecRmax (tile : Fin 128) (s : State) : Host.Outcome State Fault Refusal :=
  runVec tile.val 0x21 (fun _ sl x q =>
    let f := fmtOf (vFmtA sl)
    storeOne (vFmtA sl) sl (quietResult f (reduceLanes (bestOf f true) (readElems x (vFmtA sl) (vSrc1 sl) (vN sl)))) x q) s

/-- VEC_RMIN (R70, R101). -/
def execVecRmin (tile : Fin 128) (s : State) : Host.Outcome State Fault Refusal :=
  runVec tile.val 0x22 (fun _ sl x q =>
    let f := fmtOf (vFmtA sl)
    storeOne (vFmtA sl) sl (quietResult f (reduceLanes (bestOf f false) (readElems x (vFmtA sl) (vSrc1 sl) (vN sl)))) x q) s

/-- VEC_RARGMAX: the INT32 index of the maximum (R70, R72, R101). -/
def execVecRargmax (tile : Fin 128) (s : State) : Host.Outcome State Fault Refusal :=
  runVec tile.val 0x23 (fun _ sl x q =>
    let f := fmtOf (vFmtA sl)
    let r := reduceLanes (bestOf f true) (readElems x (vFmtA sl) (vSrc1 sl) (vN sl))
    storeOne 10 sl (r.1, (quietResult f r).2) x q) s

/-- Eight booleans to a byte, element 0 in bit 0. -/
def packBits (bs : List Bool) : List Byte :=
  (chunksOf 8 bs.length bs).map (fun c => BitVec.ofNat 8 (c.foldr (fun b n => b2n b + 2 * n) 0))

/-- VEC_SIGNPACK: bit e is 1 when element e compares greater than +0 (R99). -/
def execVecSignpack (tile : Fin 128) (s : State) : Host.Outcome State Fault Refusal :=
  runVec tile.val 0x24 (fun _ sl x q =>
    let rs := (readElems x 8 (vSrc1 sl) (vN sl)).map (fun a => f32.cmp 2 false a 0)
    { tile := tileWrite x (vDst sl * 64) (packBits (rs.map (·.1))), flags := rs.foldl (fun e r => Exc.or e r.2) 0, bank := q }) s

/-! Integer operations (R99). -/

/-- An element-wise INT32 operation without flags. -/
def mapInt (f : Nat → Nat → Nat) : BitVec 128 → Tile → QBank → VecResult := mapBinary (fun a b => (f a b % 2 ^ 32, 0))

/-- VEC_IADD (R99). -/
def execVecIadd (tile : Fin 128) (s : State) : Host.Outcome State Fault Refusal :=
  runVec tile.val 0x28 (fun _ => mapInt (fun a b => a + b)) s
/-- VEC_ISUB (R99). -/
def execVecIsub (tile : Fin 128) (s : State) : Host.Outcome State Fault Refusal :=
  runVec tile.val 0x29 (fun _ => mapInt (fun a b => a + (2 ^ 32 - b))) s
/-- VEC_IMUL (R99). -/
def execVecImul (tile : Fin 128) (s : State) : Host.Outcome State Fault Refusal :=
  runVec tile.val 0x2A (fun _ => mapInt (fun a b => a * b)) s
/-- VEC_AND (R99). -/
def execVecAnd (tile : Fin 128) (s : State) : Host.Outcome State Fault Refusal :=
  runVec tile.val 0x2B (fun _ => mapInt (fun a b => a &&& b)) s
/-- VEC_OR (R99). -/
def execVecOr (tile : Fin 128) (s : State) : Host.Outcome State Fault Refusal :=
  runVec tile.val 0x2C (fun _ => mapInt (fun a b => a ||| b)) s
/-- VEC_XOR (R99). -/
def execVecXor (tile : Fin 128) (s : State) : Host.Outcome State Fault Refusal :=
  runVec tile.val 0x2D (fun _ => mapInt (fun a b => a ^^^ b)) s
/-- VEC_SHL: shifts by source 2 mod 32 (R99). -/
def execVecShl (tile : Fin 128) (s : State) : Host.Outcome State Fault Refusal :=
  runVec tile.val 0x2E (fun _ => mapInt (fun a b => a * 2 ^ (b % 32))) s
/-- VEC_SHR: an arithmetic shift by source 2 mod 32 (R99). -/
def execVecShr (tile : Fin 128) (s : State) : Host.Outcome State Fault Refusal :=
  runVec tile.val 0x2F (fun _ => mapInt (fun a b => (sext 32 a / 2 ^ (b % 32) % 2 ^ 32).toNat)) s

/-- VEC_OP_COMPLETE: the operation that has run completes and raises its signal. -/
def execVecOpComplete (tile : Fin 128) (s : State) : Host.Outcome State Fault Refusal :=
  if !draining s then .next s else .next (finishTaken tile.val .vec (fun q => q.done) s)

end Sys2Proof.Machine
end

