-- ==== Sys2Proof/Machine/Dispatch.lean ====
section
/-! DEFINITION. One arm for each command: a direct call of its meaning. -/

namespace Sys2Proof.Machine

def exec (i : Instr) (s : State) : Host.Outcome State Fault Refusal :=
  match i with
  | .pwrdisAssert => Sys2Proof.Machine.execPwrdisAssert s
  | .pwrdisRelease straps => Sys2Proof.Machine.execPwrdisRelease straps s
  | .bladeSeated vinMv => Sys2Proof.Machine.execBladeSeated vinMv s
  | .bladeUnseated => Sys2Proof.Machine.execBladeUnseated s
  | .vin48OvervoltageDisconnect vinMv => Sys2Proof.Machine.execVin48OvervoltageDisconnect vinMv s
  | .powerOnResetRelease straps => Sys2Proof.Machine.execPowerOnResetRelease straps s
  | .inputLossDetect vinMv => Sys2Proof.Machine.execInputLossDetect vinMv s
  | .inputLossRecordProgram => Sys2Proof.Machine.execInputLossRecordProgram s
  | .smbrstAssert => Sys2Proof.Machine.execSmbrstAssert s
  | .governorSample vinMv currentMa => Sys2Proof.Machine.execGovernorSample vinMv currentMa s
  | .governorWindowEnd => Sys2Proof.Machine.execGovernorWindowEnd s
  | .throttleStepChange => Sys2Proof.Machine.execThrottleStepChange s
  | .clkPwrLimitWrite value => Sys2Proof.Machine.execClkPwrLimitWrite value s
  | .pwrLimitLock value => Sys2Proof.Machine.execPwrLimitLock value s
  | .sensorSample readings => Sys2Proof.Machine.execSensorSample readings s
  | .coolantFault cause => Sys2Proof.Machine.execCoolantFault cause s
  | .tamperOpen => Sys2Proof.Machine.execTamperOpen s
  | .itineraryFetchReturn tile units => Sys2Proof.Machine.execItineraryFetchReturn tile units s
  | .wordDispatch tile => Sys2Proof.Machine.execWordDispatch tile s
  | .dispatcherUnblock tile => Sys2Proof.Machine.execDispatcherUnblock tile s
  | .engineEntryStart tile eng => Sys2Proof.Machine.execEngineEntryStart tile eng s
  | .nullEntryRun tile eng => Sys2Proof.Machine.execNullEntryRun tile eng s
  | .nop tile eng => Sys2Proof.Machine.execNop tile eng s
  | .waitTimeout tile who => Sys2Proof.Machine.execWaitTimeout tile who s
  | .grid tile => Sys2Proof.Machine.execGrid tile s
  | .gridStreamStart tile => Sys2Proof.Machine.execGridStreamStart tile s
  | .gridRowDeliver tile => Sys2Proof.Machine.execGridRowDeliver tile s
  | .correctionPassStart tile => Sys2Proof.Machine.execCorrectionPassStart tile s
  | .correctionPassEnd tile => Sys2Proof.Machine.execCorrectionPassEnd tile s
  | .epilogueRowEnter tile => Sys2Proof.Machine.execEpilogueRowEnter tile s
  | .gridComplete tile => Sys2Proof.Machine.execGridComplete tile s
  | .vecAdd tile => Sys2Proof.Machine.execVecAdd tile s
  | .vecSub tile => Sys2Proof.Machine.execVecSub tile s
  | .vecMul tile => Sys2Proof.Machine.execVecMul tile s
  | .vecFma tile => Sys2Proof.Machine.execVecFma tile s
  | .vecDiv tile => Sys2Proof.Machine.execVecDiv tile s
  | .vecSqrt tile => Sys2Proof.Machine.execVecSqrt tile s
  | .vecMin tile => Sys2Proof.Machine.execVecMin tile s
  | .vecMax tile => Sys2Proof.Machine.execVecMax tile s
  | .vecMinnum tile => Sys2Proof.Machine.execVecMinnum tile s
  | .vecMaxnum tile => Sys2Proof.Machine.execVecMaxnum tile s
  | .vecCmp tile => Sys2Proof.Machine.execVecCmp tile s
  | .vecSel tile => Sys2Proof.Machine.execVecSel tile s
  | .vecAbs tile => Sys2Proof.Machine.execVecAbs tile s
  | .vecNeg tile => Sys2Proof.Machine.execVecNeg tile s
  | .vecCopysign tile => Sys2Proof.Machine.execVecCopysign tile s
  | .vecRint tile => Sys2Proof.Machine.execVecRint tile s
  | .vecScaleb tile => Sys2Proof.Machine.execVecScaleb tile s
  | .vecCvt tile => Sys2Proof.Machine.execVecCvt tile s
  | .vecSplit2 tile => Sys2Proof.Machine.execVecSplit2 tile s
  | .vecSplit3 tile => Sys2Proof.Machine.execVecSplit3 tile s
  | .vecExp tile => Sys2Proof.Machine.execVecExp tile s
  | .vecExp2 tile => Sys2Proof.Machine.execVecExp2 tile s
  | .vecLog tile => Sys2Proof.Machine.execVecLog tile s
  | .vecLog2 tile => Sys2Proof.Machine.execVecLog2 tile s
  | .vecTanh tile => Sys2Proof.Machine.execVecTanh tile s
  | .vecErf tile => Sys2Proof.Machine.execVecErf tile s
  | .vecSigmoid tile => Sys2Proof.Machine.execVecSigmoid tile s
  | .vecRsqrt tile => Sys2Proof.Machine.execVecRsqrt tile s
  | .vecRsum tile => Sys2Proof.Machine.execVecRsum tile s
  | .vecRmax tile => Sys2Proof.Machine.execVecRmax tile s
  | .vecRmin tile => Sys2Proof.Machine.execVecRmin tile s
  | .vecRargmax tile => Sys2Proof.Machine.execVecRargmax tile s
  | .vecSignpack tile => Sys2Proof.Machine.execVecSignpack tile s
  | .vecIadd tile => Sys2Proof.Machine.execVecIadd tile s
  | .vecIsub tile => Sys2Proof.Machine.execVecIsub tile s
  | .vecImul tile => Sys2Proof.Machine.execVecImul tile s
  | .vecAnd tile => Sys2Proof.Machine.execVecAnd tile s
  | .vecOr tile => Sys2Proof.Machine.execVecOr tile s
  | .vecXor tile => Sys2Proof.Machine.execVecXor tile s
  | .vecShl tile => Sys2Proof.Machine.execVecShl tile s
  | .vecShr tile => Sys2Proof.Machine.execVecShr tile s
  | .vecOpComplete tile => Sys2Proof.Machine.execVecOpComplete tile s
  | .setctr tile => Sys2Proof.Machine.execSetctr tile s
  | .addctr tile => Sys2Proof.Machine.execAddctr tile s
  | .cmpset tile => Sys2Proof.Machine.execCmpset tile s
  | .fence tile => Sys2Proof.Machine.execFence tile s
  | .stepSlot tile => Sys2Proof.Machine.execStepSlot tile s
  | .phaseSlot tile => Sys2Proof.Machine.execPhaseSlot tile s
  | .endSlot tile => Sys2Proof.Machine.execEndSlot tile s
  | .flaginit tile => Sys2Proof.Machine.execFlaginit tile s
  | .loopBegin tile => Sys2Proof.Machine.execLoopBegin tile s
  | .tileDrainComplete tile => Sys2Proof.Machine.execTileDrainComplete tile s
  | .stepBarrierEnd => Sys2Proof.Machine.execStepBarrierEnd s
  | .stepSetLoadComplete => Sys2Proof.Machine.execStepSetLoadComplete s
  | .load tile => Sys2Proof.Machine.execLoad tile s
  | .store tile => Sys2Proof.Machine.execStore tile s
  | .caravanLoad tile => Sys2Proof.Machine.execCaravanLoad tile s
  | .caravanRecv tile => Sys2Proof.Machine.execCaravanRecv tile s
  | .cellarRead tile => Sys2Proof.Machine.execCellarRead tile s
  | .cellarWrite tile => Sys2Proof.Machine.execCellarWrite tile s
  | .remoteGet tile => Sys2Proof.Machine.execRemoteGet tile s
  | .remotePut tile => Sys2Proof.Machine.execRemotePut tile s
  | .remoteAdd tile => Sys2Proof.Machine.execRemoteAdd tile s
  | .reduce tile => Sys2Proof.Machine.execReduce tile s
  | .flagTile tile => Sys2Proof.Machine.execFlagTile tile s
  | .flagRemote tile => Sys2Proof.Machine.execFlagRemote tile s
  | .porterEntryComplete tile eng => Sys2Proof.Machine.execPorterEntryComplete tile eng s
  | .caravanDeliveryStart group => Sys2Proof.Machine.execCaravanDeliveryStart group s
  | .caravanDeliveryComplete group => Sys2Proof.Machine.execCaravanDeliveryComplete group s
  | .cellarUnitIssue porter => Sys2Proof.Machine.execCellarUnitIssue porter s
  | .cellarRequestDeadline request => Sys2Proof.Machine.execCellarRequestDeadline request s
  | .cellarUnitComplete request => Sys2Proof.Machine.execCellarUnitComplete request s
  | .reservationFrameEnd short => Sys2Proof.Machine.execReservationFrameEnd short s
  | .ptrAreaWrite index value => Sys2Proof.Machine.execPtrAreaWrite index value s
  | .ptrResvWrite index value => Sys2Proof.Machine.execPtrResvWrite index value s
  | .jobSubmit tr lib => Sys2Proof.Machine.execJobSubmit tr lib s
  | .jobAbort tr => Sys2Proof.Machine.execJobAbort tr s
  | .jobKick tr => Sys2Proof.Machine.execJobKick tr s
  | .jobSuspend tr => Sys2Proof.Machine.execJobSuspend tr s
  | .jobResume tr => Sys2Proof.Machine.execJobResume tr s
  | .jobQuery tr => Sys2Proof.Machine.execJobQuery tr s
  | .sliceExpiry => Sys2Proof.Machine.execSliceExpiry s
  | .starvationPromotion jobTag => Sys2Proof.Machine.execStarvationPromotion jobTag s
  | .urgentQuantumEnd => Sys2Proof.Machine.execUrgentQuantumEnd s
  | .preemptLate => Sys2Proof.Machine.execPreemptLate s
  | .jobSaveComplete => Sys2Proof.Machine.execJobSaveComplete s
  | .switchClearComplete => Sys2Proof.Machine.execSwitchClearComplete s
  | .switchTableLoadComplete => Sys2Proof.Machine.execSwitchTableLoadComplete s
  | .jobRestoreComplete => Sys2Proof.Machine.execJobRestoreComplete s
  | .exchangeFirstBarrierDone jobTag => Sys2Proof.Machine.execExchangeFirstBarrierDone jobTag s
  | .exchangeLanded jobTag => Sys2Proof.Machine.execExchangeLanded jobTag s
  | .exchangeComplete jobTag => Sys2Proof.Machine.execExchangeComplete jobTag s
  | .exchangeTimeout jobTag => Sys2Proof.Machine.execExchangeTimeout jobTag s
  | .jobEnd jobTag => Sys2Proof.Machine.execJobEnd jobTag s
  | .embedBind tr lib => Sys2Proof.Machine.execEmbedBind tr lib s
  | .embedSubmit tr list => Sys2Proof.Machine.execEmbedSubmit tr list s
  | .embedCancel tr => Sys2Proof.Machine.execEmbedCancel tr s
  | .embedUnbind tr => Sys2Proof.Machine.execEmbedUnbind tr s
  | .embedUnbindComplete => Sys2Proof.Machine.execEmbedUnbindComplete s
  | .stagingReadStart => Sys2Proof.Machine.execStagingReadStart s
  | .stagingReadComplete ctx result tokens => Sys2Proof.Machine.execStagingReadComplete ctx result tokens s
  | .batchStepBoundary => Sys2Proof.Machine.execBatchStepBoundary s
  | .boundaryInsertResume => Sys2Proof.Machine.execBoundaryInsertResume s
  | .boundaryProcedureEnd durationUs => Sys2Proof.Machine.execBoundaryProcedureEnd durationUs s
  | .query tr buffer => Sys2Proof.Machine.execQuery tr buffer s
  | .queryAdmit => Sys2Proof.Machine.execQueryAdmit s
  | .walkExpand query => Sys2Proof.Machine.execWalkExpand query s
  | .rerankDeadline query => Sys2Proof.Machine.execRerankDeadline query s
  | .mergeDeadline query => Sys2Proof.Machine.execMergeDeadline query s
  | .insert tr buffer => Sys2Proof.Machine.execInsert tr buffer s
  | .insertComplete node => Sys2Proof.Machine.execInsertComplete node s
  | .deleteByNode tr => Sys2Proof.Machine.execDeleteByNode tr s
  | .deleteByKey tr => Sys2Proof.Machine.execDeleteByKey tr s
  | .publish tr => Sys2Proof.Machine.execPublish tr s
  | .publishProceed => Sys2Proof.Machine.execPublishProceed s
  | .publishApply => Sys2Proof.Machine.execPublishApply s
  | .consolidationPassComplete => Sys2Proof.Machine.execConsolidationPassComplete s
  | .consolidationLogFull => Sys2Proof.Machine.execConsolidationLogFull s
  | .attach tr => Sys2Proof.Machine.execAttach tr s
  | .attachLoadComplete result => Sys2Proof.Machine.execAttachLoadComplete result s
  | .detach tr => Sys2Proof.Machine.execDetach tr s
  | .detachComplete => Sys2Proof.Machine.execDetachComplete s
  | .ralLogWrite value => Sys2Proof.Machine.execRalLogWrite value s
  | .ralParamWrite value => Sys2Proof.Machine.execRalParamWrite value s
  | .ralShardsWrite value => Sys2Proof.Machine.execRalShardsWrite value s
  | .portEnable port => Sys2Proof.Machine.execPortEnable port s
  | .portDisable port => Sys2Proof.Machine.execPortDisable port s
  | .portRetrain port => Sys2Proof.Machine.execPortRetrain port s
  | .signalDetected port => Sys2Proof.Machine.execSignalDetected port s
  | .equaliseComplete port => Sys2Proof.Machine.execEqualiseComplete port s
  | .alignComplete port healthy => Sys2Proof.Machine.execAlignComplete port healthy s
  | .linkExchangeComplete port peer => Sys2Proof.Machine.execLinkExchangeComplete port peer s
  | .trainingStateTimeout port => Sys2Proof.Machine.execTrainingStateTimeout port s
  | .trainingRetryWaitExpiry port => Sys2Proof.Machine.execTrainingRetryWaitExpiry port s
  | .quadFail port quad => Sys2Proof.Machine.execQuadFail port quad s
  | .fastRetrainComplete port result => Sys2Proof.Machine.execFastRetrainComplete port result s
  | .peerTransmitStop port => Sys2Proof.Machine.execPeerTransmitStop port s
  | .dataFlitReceive port flit => Sys2Proof.Machine.execDataFlitReceive port flit s
  | .idleFlitReceive port flit => Sys2Proof.Machine.execIdleFlitReceive port flit s
  | .replayRequestReceive port flit => Sys2Proof.Machine.execReplayRequestReceive port flit s
  | .ackTimer port => Sys2Proof.Machine.execAckTimer port s
  | .flitSend port vc => Sys2Proof.Machine.execFlitSend port vc s
  | .put port => Sys2Proof.Machine.execPut port s
  | .get port => Sys2Proof.Machine.execGet port s
  | .add port => Sys2Proof.Machine.execAdd port s
  | .flagSet port => Sys2Proof.Machine.execFlagSet port s
  | .reduceUp port => Sys2Proof.Machine.execReduceUp port s
  | .reduceSegmentCombine ctx reduceId segment => Sys2Proof.Machine.execReduceSegmentCombine ctx reduceId segment s
  | .reduceDown port => Sys2Proof.Machine.execReduceDown port s
  | .queryParcel port => Sys2Proof.Machine.execQueryParcel port s
  | .result port => Sys2Proof.Machine.execResult port s
  | .rsp port => Sys2Proof.Machine.execRsp port s
  | .getData port => Sys2Proof.Machine.execGetData port s
  | .responseTimeout tag => Sys2Proof.Machine.execResponseTimeout tag s
  | .kybDeviceIdWrite value => Sys2Proof.Machine.execKybDeviceIdWrite value s
  | .kybRouteWrite dest value => Sys2Proof.Machine.execKybRouteWrite dest value s
  | .nandReadComplete request outcome => Sys2Proof.Machine.execNandReadComplete request outcome s
  | .nandProgramComplete sb failed dur10us => Sys2Proof.Machine.execNandProgramComplete sb failed dur10us s
  | .nandEraseComplete sb failed dur10us => Sys2Proof.Machine.execNandEraseComplete sb failed dur10us s
  | .dieStatusTimeout channel die => Sys2Proof.Machine.execDieStatusTimeout channel die s
  | .writeBufferLeave slot lost => Sys2Proof.Machine.execWriteBufferLeave slot lost s
  | .foldStart => Sys2Proof.Machine.execFoldStart s
  | .gcVictimSelect => Sys2Proof.Machine.execGcVictimSelect s
  | .refreshRelocate => Sys2Proof.Machine.execRefreshRelocate s
  | .backgroundErase sb => Sys2Proof.Machine.execBackgroundErase sb s
  | .ledgerSegmentWrite segment => Sys2Proof.Machine.execLedgerSegmentWrite segment s
  | .ldgClockMinuteTick => Sys2Proof.Machine.execLdgClockMinuteTick s
  | .ldgClockWrite value => Sys2Proof.Machine.execLdgClockWrite value s
  | .ldgPoolWrite pool value => Sys2Proof.Machine.execLdgPoolWrite pool value s
  | .ledgerRecoveryComplete ok lost => Sys2Proof.Machine.execLedgerRecoveryComplete ok lost s
  | .linkUp rate width cxl latOpt => Sys2Proof.Machine.execLinkUp rate width cxl latOpt s
  | .l0pWidthChange width => Sys2Proof.Machine.execL0pWidthChange width s
  | .cxlHotReset => Sys2Proof.Machine.execCxlHotReset s
  | .linkDown => Sys2Proof.Machine.execLinkDown s
  | .flr => Sys2Proof.Machine.execFlr s
  | .hostResetComplete => Sys2Proof.Machine.execHostResetComplete s
  | .configRequest req => Sys2Proof.Machine.execConfigRequest req s
  | .d3hotRequest => Sys2Proof.Machine.execD3hotRequest s
  | .ps3Entry => Sys2Proof.Machine.execPs3Entry s
  | .d0Request => Sys2Proof.Machine.execD0Request s
  | .bar0AccessError write => Sys2Proof.Machine.execBar0AccessError write s
  | .registerWrite offset wide value => Sys2Proof.Machine.execRegisterWrite offset wide value s
  | .cacheEnableSet => Sys2Proof.Machine.execCacheEnableSet s
  | .cacheEnableClear => Sys2Proof.Machine.execCacheEnableClear s
  | .hdmDecoderCommit base => Sys2Proof.Machine.execHdmDecoderCommit base s
  | .hdmHostRead addr intent => Sys2Proof.Machine.execHdmHostRead addr intent s
  | .hdmHostWrite addr bytes poison => Sys2Proof.Machine.execHdmHostWrite addr bytes poison s
  | .bisnpResponse line writeBack => Sys2Proof.Machine.execBisnpResponse line writeBack s
  | .ideIntegrityFail stream => Sys2Proof.Machine.execIdeIntegrityFail stream s
  | .ideKeyProgram stream => Sys2Proof.Machine.execIdeKeyProgram stream s
  | .doeDiscovery inst index => Sys2Proof.Machine.execDoeDiscovery inst index s
  | .cdatRead => Sys2Proof.Machine.execCdatRead s
  | .doeAbort inst => Sys2Proof.Machine.execDoeAbort inst s
  | .msixUnmask vector => Sys2Proof.Machine.execMsixUnmask vector s
  | .doorbellSnoop line => Sys2Proof.Machine.execDoorbellSnoop line s
  | .doorbellLineReturn line words => Sys2Proof.Machine.execDoorbellLineReturn line words s
  | .doorbellRereadTimer => Sys2Proof.Machine.execDoorbellRereadTimer s
  | .commandFetch sq desc => Sys2Proof.Machine.execCommandFetch sq desc s
  | .descriptorReadError sq => Sys2Proof.Machine.execDescriptorReadError sq s
  | .fencedCommandStart tr => Sys2Proof.Machine.execFencedCommandStart tr s
  | .adminPairStart value => Sys2Proof.Machine.execAdminPairStart value s
  | .adminPairStop value => Sys2Proof.Machine.execAdminPairStop value s
  | .adminPairStopped => Sys2Proof.Machine.execAdminPairStopped s
  | .identify tr => Sys2Proof.Machine.execIdentify tr s
  | .createSq tr => Sys2Proof.Machine.execCreateSq tr s
  | .createCq tr => Sys2Proof.Machine.execCreateCq tr s
  | .deleteSq tr => Sys2Proof.Machine.execDeleteSq tr s
  | .deleteSqComplete sq => Sys2Proof.Machine.execDeleteSqComplete sq s
  | .deleteCq tr => Sys2Proof.Machine.execDeleteCq tr s
  | .setPower tr => Sys2Proof.Machine.execSetPower tr s
  | .powerStateEntryComplete => Sys2Proof.Machine.execPowerStateEntryComplete s
  | .powerStateExitComplete => Sys2Proof.Machine.execPowerStateExitComplete s
  | .drain tr => Sys2Proof.Machine.execDrain tr s
  | .drainComplete => Sys2Proof.Machine.execDrainComplete s
  | .resume tr => Sys2Proof.Machine.execResume tr s
  | .nsCreate tr => Sys2Proof.Machine.execNsCreate tr s
  | .nsDelete tr => Sys2Proof.Machine.execNsDelete tr s
  | .nsQuery tr => Sys2Proof.Machine.execNsQuery tr s
  | .read tr => Sys2Proof.Machine.execRead tr s
  | .write tr buffer => Sys2Proof.Machine.execWrite tr buffer s
  | .flush tr => Sys2Proof.Machine.execFlush tr s
  | .trim tr => Sys2Proof.Machine.execTrim tr s
  | .verify tr => Sys2Proof.Machine.execVerify tr s
  | .rangeLockGrant entry => Sys2Proof.Machine.execRangeLockGrant entry s
  | .writeSlotGrant tr => Sys2Proof.Machine.execWriteSlotGrant tr s
  | .perstAssert => Sys2Proof.Machine.execPerstAssert s
  | .perstRelease => Sys2Proof.Machine.execPerstRelease s
  | .softwareDeviceReset value => Sys2Proof.Machine.execSoftwareDeviceReset value s
  | .watchdogExpiry => Sys2Proof.Machine.execWatchdogExpiry s
  | .stepFailureReset => Sys2Proof.Machine.execStepFailureReset s
  | .bringupTimeout => Sys2Proof.Machine.execBringupTimeout s
  | .refclkAbsent => Sys2Proof.Machine.execRefclkAbsent s
  | .refclkLost => Sys2Proof.Machine.execRefclkLost s
  | .deferredResetTake unit => Sys2Proof.Machine.execDeferredResetTake unit s
  | .channelResetForce channel => Sys2Proof.Machine.execChannelResetForce channel s
  | .tileReset tile byHost => Sys2Proof.Machine.execTileReset tile byHost s
  | .walkerGroupReset group byHost => Sys2Proof.Machine.execWalkerGroupReset group byHost s
  | .flashChannelReset channel byHost => Sys2Proof.Machine.execFlashChannelReset channel byHost s
  | .fabricPortReset port byHost => Sys2Proof.Machine.execFabricPortReset port byHost s
  | .porterGroupReset group byHost => Sys2Proof.Machine.execPorterGroupReset group byHost s
  | .blockResetEnd selftest => Sys2Proof.Machine.execBlockResetEnd selftest s
  | .releaseStep work elapsedMs first second => Sys2Proof.Machine.execReleaseStep work elapsedMs first second s
  | .clearCounter value => Sys2Proof.Machine.execClearCounter value s
  | .imageTransfer message verdict => Sys2Proof.Machine.execImageTransfer message verdict s
  | .cflCycleStore offset size value => Sys2Proof.Machine.execCflCycleStore offset size value s
  | .cflAbandon bank => Sys2Proof.Machine.execCflAbandon bank s
  | .cflSequenceTimeout bank => Sys2Proof.Machine.execCflSequenceTimeout bank s
  | .pageProgram bank => Sys2Proof.Machine.execPageProgram bank s
  | .sectorErase bank => Sys2Proof.Machine.execSectorErase bank s
  | .contReadEnter bank => Sys2Proof.Machine.execContReadEnter bank s
  | .contReadExit bank => Sys2Proof.Machine.execContReadExit bank s
  | .protSet bank => Sys2Proof.Machine.execProtSet bank s
  | .protClear bank => Sys2Proof.Machine.execProtClear bank s
  | .passwordChange bank => Sys2Proof.Machine.execPasswordChange bank s
  | .cflWindowRead offset len => Sys2Proof.Machine.execCflWindowRead offset len s
  | .cflProgramPulseEnd bank verified => Sys2Proof.Machine.execCflProgramPulseEnd bank verified s
  | .cflErasePulseEnd bank verified => Sys2Proof.Machine.execCflErasePulseEnd bank verified s
  | .cflProtectionOpComplete bank => Sys2Proof.Machine.execCflProtectionOpComplete bank s
  | .cflQueuedHostOpStart bank => Sys2Proof.Machine.execCflQueuedHostOpStart bank s
  | .deviceRecordWrite => Sys2Proof.Machine.execDeviceRecordWrite s
  | .cflSectorSelWrite value => Sys2Proof.Machine.execCflSectorSelWrite value s
  | .patrolRead addr errors stuck => Sys2Proof.Machine.execPatrolRead addr errors stuck s
  | .copyRefetchComplete unit result tile entry mask => Sys2Proof.Machine.execCopyRefetchComplete unit result tile entry mask s
  | .integrityCorrectedRateCheck unit => Sys2Proof.Machine.execIntegrityCorrectedRateCheck unit s
  | .secEnroll tr digest auth => Sys2Proof.Machine.execSecEnroll tr digest auth s
  | .secRevoke tr auth => Sys2Proof.Machine.execSecRevoke tr auth s
  | .secSetPolicy tr auth => Sys2Proof.Machine.execSecSetPolicy tr auth s
  | .secAdvanceSvn tr auth => Sys2Proof.Machine.execSecAdvanceSvn tr auth s
  | .secChallenge tr => Sys2Proof.Machine.execSecChallenge tr s
  | .secDebugUnlock tr auth => Sys2Proof.Machine.execSecDebugUnlock tr auth s
  | .fuseWriteComplete => Sys2Proof.Machine.execFuseWriteComplete s
  | .spdmGetVersion => Sys2Proof.Machine.execSpdmGetVersion s
  | .spdmGetCapabilities => Sys2Proof.Machine.execSpdmGetCapabilities s
  | .spdmNegotiateAlgorithms request => Sys2Proof.Machine.execSpdmNegotiateAlgorithms request s
  | .spdmGetCertificate slot offset len => Sys2Proof.Machine.execSpdmGetCertificate slot offset len s
  | .spdmChallenge request => Sys2Proof.Machine.execSpdmChallenge request s
  | .spdmGetMeasurements index raw request => Sys2Proof.Machine.execSpdmGetMeasurements index raw request s
  | .spdmKeyExchange request => Sys2Proof.Machine.execSpdmKeyExchange request s
  | .spdmKeyUpdate request => Sys2Proof.Machine.execSpdmKeyUpdate request s
  | .spdmHeartbeat => Sys2Proof.Machine.execSpdmHeartbeat s
  | .spdmChunkGet handle seq => Sys2Proof.Machine.execSpdmChunkGet handle seq s
  | .gbRingStart value => Sys2Proof.Machine.execGbRingStart value s
  | .gbRingStop value => Sys2Proof.Machine.execGbRingStop value s
  | .gbHeadWrite value => Sys2Proof.Machine.execGbHeadWrite value s
  | .gbCopyBudgetTick => Sys2Proof.Machine.execGbCopyBudgetTick s
  | .qstatCtrlWrite value => Sys2Proof.Machine.execQstatCtrlWrite value s
  | .qstatWindowLatch => Sys2Proof.Machine.execQstatWindowLatch s
  | .evtWinCtrlWrite bank value => Sys2Proof.Machine.execEvtWinCtrlWrite bank value s
  | .statsWindowEnd bank => Sys2Proof.Machine.execStatsWindowEnd bank s
  | .evtCtrSelWrite value => Sys2Proof.Machine.execEvtCtrSelWrite value s
  | .gbRead request => Sys2Proof.Machine.execGbRead request s
  | .telemetryRead request => Sys2Proof.Machine.execTelemetryRead request s
  | .counterRead request => Sys2Proof.Machine.execCounterRead request s
  | .vin48Return vinMv => Sys2Proof.Machine.execVin48Return vinMv s
  | .tamperCoverClose => Sys2Proof.Machine.execTamperCoverClose s
  | .watchdogRestart => Sys2Proof.Machine.execWatchdogRestart s
  | .shardQueryBudgetExpiry query => Sys2Proof.Machine.execShardQueryBudgetExpiry query s

end Sys2Proof.Machine
end

