-- ==== Sys2Proof/Safety.lean ====
section
/-! DEFINITION. What counts as safe, in the terms of the claims: the parts of the state that a command may reach, the
invariants that every step keeps, and what some families of commands leave. -/

namespace Sys2Proof.Machine

/-! Parts of the state. -/

/-- The parts of the state, one for each field. -/
inductive Part where
  | pending | tclk | gZero | drawn | power | boot | host | rings | evt | tensor | mem | ecc | spaces | flash | fabric | embed | ralid | cfl | sec
  deriving DecidableEq, Repr

/-- A part is the same in two states. -/
def Part.same (p : Part) (s t : State) : Prop :=
  match p with
  | .pending => t.pending = s.pending
  | .tclk => t.tclk = s.tclk
  | .gZero => t.gZero = s.gZero
  | .drawn => t.drawn = s.drawn
  | .power => t.power = s.power
  | .boot => t.boot = s.boot
  | .host => t.host = s.host
  | .rings => t.rings = s.rings
  | .evt => t.evt = s.evt
  | .tensor => t.tensor = s.tensor
  | .mem => t.mem = s.mem
  | .ecc => t.ecc = s.ecc
  | .spaces => t.spaces = s.spaces
  | .flash => t.flash = s.flash
  | .fabric => t.fabric = s.fabric
  | .embed => t.embed = s.embed
  | .ralid => t.ralid = s.ralid
  | .cfl => t.cfl = s.cfl
  | .sec => t.sec = s.sec

/-- The parts that the effect of a command may reach; every other part stays as it is. -/
def mayChange (c : Instr) : List Part :=
  match c with
  | .watchdogRestart => [.boot]
  | .cflCycleStore .. | .cflAbandon .. | .cflSequenceTimeout .. | .cflSectorSelWrite .. => [.cfl]
  | .stagingReadStart => [.embed]
  | .gbCopyBudgetTick | .evtWinCtrlWrite .. | .statsWindowEnd .. | .evtCtrSelWrite .. => [.evt]
  | .portEnable .. | .portRetrain .. | .signalDetected .. | .equaliseComplete .. | .alignComplete ..
  | .trainingRetryWaitExpiry .. | .quadFail .. | .idleFlitReceive .. | .replayRequestReceive .. | .ackTimer ..
  | .kybDeviceIdWrite .. | .kybRouteWrite .. => [.fabric]
  | .backgroundErase .. | .ledgerSegmentWrite .. | .ldgClockMinuteTick | .ldgClockWrite .. | .ldgPoolWrite ..
    => [.flash]
  | .l0pWidthChange .. | .configRequest .. | .bar0AccessError .. | .cacheEnableSet | .hdmDecoderCommit ..
  | .ideKeyProgram .. | .doeDiscovery .. | .cdatRead | .doeAbort .. | .msixUnmask .. | .telemetryRead ..
  | .counterRead .. => [.host]
  | .cellarUnitIssue .. | .ptrResvWrite .. => [.mem]
  | .pwrdisRelease .. | .bladeSeated .. | .smbrstAssert | .clkPwrLimitWrite .. | .pwrLimitLock .. | .vin48Return ..
  | .tamperCoverClose => [.power]
  | .consolidationPassComplete | .ralLogWrite .. | .ralParamWrite .. | .ralShardsWrite .. => [.ralid]
  | .dispatcherUnblock .. | .nullEntryRun .. | .nop .. | .gridRowDeliver .. | .correctionPassStart ..
  | .epilogueRowEnter .. | .gridComplete .. | .vecAdd .. | .vecSub .. | .vecMul .. | .vecFma .. | .vecDiv ..
  | .vecSqrt .. | .vecMin .. | .vecMax .. | .vecMinnum .. | .vecMaxnum .. | .vecCmp .. | .vecSel .. | .vecAbs ..
  | .vecNeg .. | .vecCopysign .. | .vecRint .. | .vecScaleb .. | .vecSplit2 .. | .vecSplit3 .. | .vecExp ..
  | .vecExp2 .. | .vecLog .. | .vecLog2 .. | .vecTanh .. | .vecErf .. | .vecSigmoid .. | .vecRsqrt .. | .vecRsum ..
  | .vecRmax .. | .vecRmin .. | .vecRargmax .. | .vecSignpack .. | .vecIadd .. | .vecIsub .. | .vecImul ..
  | .vecAnd .. | .vecOr .. | .vecXor .. | .vecShl .. | .vecShr .. | .vecOpComplete .. | .setctr .. | .addctr ..
  | .cmpset .. | .fence .. | .stepSlot .. | .phaseSlot .. | .endSlot .. | .flaginit .. | .caravanLoad ..
  | .caravanRecv .. | .flagTile .. => [.tensor]
  | .deviceRecordWrite => [.evt, .cfl]
  | .flitSend .. => [.evt, .fabric]
  | .gridStreamStart .. | .correctionPassEnd .. | .vecCvt .. => [.evt, .tensor]
  | .cflWindowRead .. => [.host, .cfl]
  | .gbRead .. => [.host, .ecc]
  | .coolantFault .. | .linkUp .. | .cacheEnableClear | .ideIntegrityFail .. | .doorbellSnoop ..
  | .doorbellRereadTimer | .gbRingStart .. | .gbRingStop .. | .gbHeadWrite .. => [.host, .evt]
  | .adminPairStart .. | .adminPairStop .. | .adminPairStopped => [.host, .rings]
  | .spdmGetVersion | .spdmGetCapabilities | .spdmNegotiateAlgorithms .. | .spdmGetCertificate ..
  | .spdmGetMeasurements .. | .spdmKeyUpdate .. | .spdmHeartbeat | .spdmChunkGet .. => [.host, .sec]
  | .ptrAreaWrite .. => [.mem, .cfl]
  | .perstRelease => [.power, .boot]
  | .governorWindowEnd => [.power, .evt]
  | .remoteGet .. | .remotePut .. | .remoteAdd .. | .flagRemote .. => [.tensor, .fabric]
  | .porterEntryComplete .. => [.tensor, .flash]
  | .wordDispatch .. | .engineEntryStart .. | .waitTimeout .. | .grid .. | .loopBegin .. | .caravanDeliveryStart ..
  | .switchClearComplete => [.tensor, .mem]
  | .hostResetComplete | .refclkAbsent => [.boot, .host, .evt]
  | .spdmChallenge .. | .spdmKeyExchange .. => [.drawn, .host, .sec]
  | .pageProgram .. | .sectorErase .. | .contReadEnter .. | .contReadExit .. | .protSet .. | .protClear ..
  | .passwordChange .. | .cflQueuedHostOpStart .. => [.host, .evt, .cfl]
  | .integrityCorrectedRateCheck .. => [.host, .evt, .ecc]
  | .portDisable .. | .linkExchangeComplete .. | .trainingStateTimeout .. | .fastRetrainComplete ..
  | .peerTransmitStop .. | .dataFlitReceive .. => [.host, .evt, .fabric]
  | .nandEraseComplete .. | .dieStatusTimeout .. | .foldStart | .gcVictimSelect | .refreshRelocate
    => [.host, .evt, .flash]
  | .reservationFrameEnd .. => [.host, .evt, .mem]
  | .consolidationLogFull => [.host, .evt, .ralid]
  | .preemptLate | .d3hotRequest | .qstatCtrlWrite .. | .qstatWindowLatch => [.host, .evt, .tensor]
  | .store .. => [.host, .tensor, .mem]
  | .governorSample .. | .tamperOpen => [.power, .host, .evt]
  | .reduce .. => [.tensor, .mem, .fabric]
  | .cellarRead .. | .cellarWrite .. => [.tensor, .mem, .flash]
  | .fabricPortReset .. => [.boot, .host, .evt, .fabric]
  | .flashChannelReset .. | .porterGroupReset .. => [.boot, .host, .evt, .mem]
  | .imageTransfer .. => [.boot, .host, .evt, .sec]
  | .cflProgramPulseEnd .. | .cflErasePulseEnd .. | .cflProtectionOpComplete .. => [.drawn, .host, .evt, .cfl]
  | .jobQuery .. | .doorbellLineReturn .. | .commandFetch .. | .descriptorReadError .. | .identify .. | .createSq ..
  | .createCq .. | .deleteSq .. | .deleteSqComplete .. | .deleteCq .. | .setPower .. | .powerStateEntryComplete
  | .drainComplete | .nsQuery .. => [.drawn, .host, .rings, .evt]
  | .queryParcel .. => [.host, .evt, .fabric, .ralid]
  | .patrolRead .. => [.host, .evt, .mem, .ecc]
  | .stepBarrierEnd | .sliceExpiry | .starvationPromotion .. | .urgentQuantumEnd => [.host, .evt, .tensor, .mem]
  | .ps3Entry => [.power, .host, .evt, .fabric]
  | .throttleStepChange => [.power, .host, .evt, .tensor]
  | .tileReset .. => [.boot, .host, .evt, .tensor, .mem]
  | .clearCounter .. => [.drawn, .boot, .host, .evt, .cfl]
  | .resume .. => [.drawn, .boot, .host, .rings, .evt]
  | .hdmHostRead .. => [.drawn, .host, .evt, .mem, .ecc]
  | .hdmHostWrite .. => [.drawn, .host, .evt, .tensor, .mem]
  | .embedCancel .. | .embedUnbind .. | .embedUnbindComplete => [.drawn, .host, .rings, .evt, .embed]
  | .flush .. => [.drawn, .host, .rings, .evt, .flash]
  | .query .. | .deleteByKey .. | .detach .. | .detachComplete => [.drawn, .host, .rings, .evt, .ralid]
  | .secEnroll .. | .secRevoke .. | .secSetPolicy .. | .secAdvanceSvn .. | .secChallenge .. | .fuseWriteComplete
    => [.drawn, .host, .rings, .evt, .sec]
  | .nsCreate .. => [.drawn, .host, .rings, .evt, .spaces]
  | .jobSuspend .. => [.drawn, .host, .rings, .evt, .tensor]
  | .deferredResetTake .. | .channelResetForce .. => [.drawn, .power, .boot, .flash, .cfl]
  | .powerOnResetRelease .. => [.gZero, .power, .boot, .evt, .fabric]
  | .itineraryFetchReturn .. | .stepSetLoadComplete | .load .. | .caravanDeliveryComplete .. | .bisnpResponse ..
    => [.host, .evt, .tensor, .mem, .ecc]
  | .ledgerRecoveryComplete .. => [.drawn, .boot, .host, .evt, .flash, .cfl]
  | .writeBufferLeave .. => [.drawn, .host, .rings, .evt, .ecc, .flash]
  | .attach .. => [.drawn, .host, .rings, .evt, .ecc, .ralid]
  | .nandProgramComplete .. => [.drawn, .host, .rings, .evt, .mem, .flash]
  | .deleteByNode .. | .publishApply => [.drawn, .host, .rings, .evt, .mem, .ralid]
  | .nsDelete .. => [.drawn, .host, .rings, .evt, .spaces, .flash]
  | .jobKick .. | .jobResume .. | .d0Request => [.drawn, .host, .rings, .evt, .tensor, .mem]
  | .secDebugUnlock .. => [.drawn, .power, .host, .rings, .evt, .sec]
  | .stagingReadComplete .. | .boundaryProcedureEnd .. => [.host, .evt, .tensor, .mem, .ecc, .embed]
  | .bladeUnseated | .inputLossDetect .. => [.power, .boot, .tensor, .mem, .fabric, .cfl]
  | .fencedCommandStart .. | .read .. | .write .. | .trim .. | .verify .. | .rangeLockGrant .. | .writeSlotGrant ..
    => [.drawn, .host, .rings, .evt, .mem, .ecc, .flash]
  | .attachLoadComplete .. => [.drawn, .host, .rings, .evt, .mem, .ecc, .ralid]
  | .rerankDeadline .. | .mergeDeadline .. | .publish .. | .publishProceed | .result .. | .shardQueryBudgetExpiry ..
    => [.drawn, .host, .rings, .evt, .mem, .fabric, .ralid]
  | .jobSubmit .. => [.drawn, .host, .rings, .evt, .tensor, .mem, .ecc]
  | .walkerGroupReset .. => [.drawn, .boot, .host, .rings, .evt, .mem, .fabric, .ralid]
  | .cellarRequestDeadline .. | .queryAdmit | .walkExpand ..
    => [.drawn, .host, .rings, .evt, .mem, .ecc, .fabric, .ralid]
  | .insert .. | .insertComplete .. => [.drawn, .host, .rings, .evt, .mem, .ecc, .flash, .ralid]
  | .embedBind .. | .embedSubmit .. => [.drawn, .host, .rings, .evt, .tensor, .mem, .ecc, .embed]
  | .powerStateExitComplete => [.drawn, .power, .host, .rings, .evt, .tensor, .mem, .fabric]
  | .vin48OvervoltageDisconnect .. => [.power, .boot, .host, .evt, .tensor, .mem, .fabric, .cfl]
  | .batchStepBoundary | .boundaryInsertResume => [.drawn, .host, .rings, .evt, .mem, .ecc, .flash, .embed, .ralid]
  | .nandReadComplete .. => [.drawn, .host, .rings, .evt, .mem, .ecc, .flash, .fabric, .ralid]
  | .jobAbort .. | .exchangeLanded .. | .exchangeComplete .. | .exchangeTimeout .. | .jobEnd .. | .put ..
  | .flagSet .. | .reduceUp .. | .reduceSegmentCombine .. | .reduceDown .. | .getData ..
    => [.drawn, .host, .rings, .evt, .tensor, .mem, .flash, .fabric, .embed]
  | .releaseStep .. => [.drawn, .boot, .host, .evt, .mem, .ecc, .flash, .fabric, .cfl, .sec]
  | .drain .. => [.drawn, .boot, .host, .rings, .evt, .tensor, .mem, .flash, .fabric, .embed]
  | .tileDrainComplete .. | .jobSaveComplete | .switchTableLoadComplete | .jobRestoreComplete
  | .exchangeFirstBarrierDone .. | .get .. | .add ..
    => [.drawn, .host, .rings, .evt, .tensor, .mem, .ecc, .flash, .fabric, .embed]
  | .cellarUnitComplete .. | .copyRefetchComplete ..
    => [.drawn, .host, .rings, .evt, .tensor, .mem, .ecc, .flash, .fabric, .ralid]
  | .rsp .. | .responseTimeout .. => [.drawn, .host, .rings, .evt, .tensor, .mem, .flash, .fabric, .embed, .ralid]
  | .cxlHotReset | .linkDown | .flr | .refclkLost
    => [.drawn, .boot, .host, .rings, .evt, .tensor, .mem, .flash, .fabric, .embed, .ralid, .cfl, .sec]
  | .pwrdisAssert | .inputLossRecordProgram | .sensorSample .. | .registerWrite .. | .perstAssert
  | .softwareDeviceReset .. | .watchdogExpiry | .stepFailureReset | .bringupTimeout | .blockResetEnd ..
    => [.gZero, .drawn, .power, .boot, .host, .rings, .evt, .tensor, .mem, .ecc, .flash, .fabric, .embed, .ralid, .cfl, .sec]

/-! Invariants. -/

/-- A fuse write in progress is one that a command can have started (R506, R512): an enrolment burns into a slot that is
neither valid nor revoked, with one to nine words to go; any other write has one word. -/
def FusesOrdered (s : State) : Bool :=
  match s.sec.fuse with
  | none => true
  | some f =>
    match f.write with
    | .enroll k _ =>
      decide (1 ≤ f.words) && decide (f.words ≤ 9) && !(keySlotOf k s).valid && !(keySlotOf k s).revoked
    | _ => f.words == 1

/-- No fuse of `s` is unburnt in `t` (R505): policies stay set, the minimum version does not fall, and a valid or a revoked
slot stays so, with its digest. -/
def FusesKept (s t : State) : Prop :=
  (s.sec.requireSigned = true → t.sec.requireSigned = true) ∧ (s.sec.debugDisable = true → t.sec.debugDisable = true) ∧
  s.sec.svnMin ≤ t.sec.svnMin ∧
  ∀ k, ((keySlotOf k s).revoked = true → (keySlotOf k t).revoked = true) ∧
    ((keySlotOf k s).valid = true → (keySlotOf k t).valid = true ∧ (keySlotOf k t).digest = (keySlotOf k s).digest)

/-- The power request and every thermal request lie between 0 and 4, and so does the step in force (R27, R33). -/
def StepsLegal (s : State) : Bool :=
  decide (s.power.powerReq ≤ 4) && decide (s.power.thermDie ≤ 4) && decide (s.power.thermMem ≤ 4)
    && decide (s.power.thermFlash ≤ 4) && decide (s.power.step ≤ 4)

/-- The array of the configuration flash is in its canonical form. -/
def CflCanonical (s : State) : Bool := Mem.wf onesByte s.cfl.array

/-- Every byte memory of the state is in its canonical form. -/
def MemoriesCanonical (s : State) : Bool :=
  Mem.wf zeroByte s.mem.stacked && Mem.wf zeroByte s.mem.shared && Mem.wf zeroByte s.host.mem && CflCanonical s
    && s.tensor.tiles.all (fun p => Mem.wf zeroByte p.2.mem)

/-! What a vector operation leaves, in the terms of the claims. -/

/-- The started vector operation with opcode `op` runs: it writes the results that `rs` gives for the rounding attribute, the
slot and the tile, one after another from its destination in the format `fmt`, marks its entry done, raises the results'
flags, and changes no other byte of tile memory, nothing else of the tile, and no other tile. Formats of whole bytes. -/
def VecWrites (c : Fin 128 → Instr) (op : Nat) (fmt : BitVec 128 → Nat)
    (rs : Rm → BitVec 128 → Tile → List (Nat × Exc)) : Prop :=
  ∀ (tile : Fin 128) q e j s, startedVec tile.val op s = some q → ownerJob s = some (e, j) →
    elemBits (fmt q.slot) % 8 = 0 → ∃ t, exec (c tile) s = .next t ∧
      (let r := rs (rmOf (vRnd q.slot) (jRndDefault j.desc)) q.slot (tileOf tile.val s)
       let y := tileOf tile.val t
       y.vec = some { q with done := true } ∧
       readElems y (fmt q.slot) (vDst q.slot) r.length = r.map (fun p => p.1 % 2 ^ elemBits (fmt q.slot)) ∧
       y.ieee = (tileOf tile.val s).ieee ||| BitVec.ofNat 5 (flagsOf r) ∧
       y = { tileOf tile.val s with mem := y.mem, vec := y.vec, ieee := y.ieee } ∧
       (∀ n, n ≠ tile.val → tileOf n t = tileOf n s) ∧
       ∀ a, (a < vDst q.slot * 64 ∨ vDst q.slot * 64 + r.length * (elemBits (fmt q.slot) / 8) ≤ a) →
         Mem.byte zeroByte y.mem a = Mem.byte zeroByte (tileOf tile.val s).mem a)

/-- The elements of the three sources of a slot in its source format. -/
def vecA (sl : BitVec 128) (x : Tile) : List Nat := readElems x (vFmtA sl) (vSrc1 sl) (vN sl)
def vecB (sl : BitVec 128) (x : Tile) : List Nat := readElems x (vFmtA sl) (vSrc2 sl) (vN sl)
def vecC (sl : BitVec 128) (x : Tile) : List Nat := readElems x (vFmtA sl) (vSrc3 sl) (vN sl)

/-- The `n` bytes of external memory from `a`: of shared memory when `a` lies there, else of stacked memory (R165). -/
def extRead (a n : Nat) (s : State) : List Byte :=
  if Config.sharedBase ≤ a then Mem.read zeroByte s.mem.shared a n else Mem.read zeroByte s.mem.stacked a n

/-- The entry that a data command makes for itself when it passes its checks (R429, R430). -/
def dataOp (tr opcode : Nat) (d : BitVec 1024) (data : List Byte) : StoreOp :=
  { tr := tr, opcode := opcode, ns := stNs d, slba := stSlba d, nlb := stNlb d, fua := stFua d, data := data, started := false,
    waitsSlots := false, reads := 0, failLow := none, failCount := 0, lost := false, busErr := false, slots := [], trims := [] }

/-- The lock entry that a data command takes. -/
def dataLock (tr opcode : Nat) (d : BitVec 1024) : RangeLock :=
  { holder := .command tr, ns := stNs d, first := stSlba d / 4, last := (stSlba d + stNlb d - 1) / 4,
    writes := opcode == 0x21 || opcode == 0x23 }

/-- A data command is in its turn, names a namespace that holds its range, is not held by a fence, and its lock entry meets no
earlier conflict: it starts at once (R430, R438, R439). `s1` is the state with its lock taken. -/
def DataStarts (tr opcode : Nat) (task : Task) (x : Namespace) (n : Nat) (s s1 : State) : Prop :=
  dataTask tr opcode s = some task ∧ nsFind (stNs task.desc) s = some x ∧
  stSlba task.desc + stNlb task.desc ≤ x.blocks ∧ task.phase ≠ .fenced ∧
  takeLock (dataLock tr opcode task.desc) s = some (n, s1) ∧
  lockClear n s1 = true

end Sys2Proof.Machine
end

