-- ==== Sys2Proof/WellFormed.lean ====
section
/-! DEFINITION. Well-formed commands: the checks on operands that their types do not make. The meanings are total: they cut or
pad a list of another length (log 28). -/

namespace Sys2Proof

/-- A task register exists (R405). -/
def trOk (tr : Nat) : Bool := decide (tr < Config.adminRegs + Config.sharedRegs)

/-- A superblock exists (R331). -/
def sbOk (sb : Nat) : Bool := decide (sb < Config.superblocks)

/-- A flit is 32 words of 72 bits (R306). -/
def flitOk (f : Flit) : Bool := f.words.length == 32

/-- An authorisation is 8,192 B (R511). -/
def authOk (a : AuthInput) : Bool := a.block.length == 8192

/-- The operands of a command have the lengths, sizes and alignments that its rule gives. -/
def Instr.wellFormed (c : Instr) : Bool :=
  match c with
  | .sensorSample readings => readings.length == 106
  | .reservationFrameEnd short => decide (short.map (·.1)).Nodup
  | .embedSubmit tr list => trOk tr && list.length != 0 && list.length % 32 == 0
  | .stagingReadComplete ctx _ _ => decide (ctx < Config.contexts)
  | .query tr buffer => trOk tr && buffer.length != 0
  | .insert tr buffer => trOk tr && buffer.length != 0
  | .insertComplete node => decide (node < 2 ^ 31)
  | .dataFlitReceive _ flit => flitOk flit
  | .idleFlitReceive _ flit => flitOk flit
  | .replayRequestReceive _ flit => flitOk flit
  | .nandReadComplete _ outcome => outcome.steps.length == 4
  | .nandProgramComplete sb _ _ => sbOk sb
  | .nandEraseComplete sb _ _ => sbOk sb
  | .backgroundErase sb => sbOk sb
  | .linkUp rate width _ _ => rate != 0#2 && width != 0#2 && width != 3#2
  | .l0pWidthChange width => width == 1#2 || width == 2#2
  | .registerWrite offset wide value => offset.toNat % (if wide then 8 else 4) == 0 && (wide || decide (value.toNat < 2 ^ 32))
  | .hdmHostWrite addr bytes _ => bytes.length != 0 && decide (addr.toNat % 64 + bytes.length ≤ 64)
  | .bisnpResponse _ writeBack => writeBack.length == 0 || writeBack.length == 64
  | .doorbellLineReturn _ words => words.length == 16
  | .write tr buffer => trOk tr && buffer.length != 0 && buffer.length % 4096 == 0
  | .imageTransfer message _ => decide (12 ≤ message.length) && decide (message.length ≤ 12 + 61440)
  | .cflCycleStore _ size value => [1, 2, 4, 8].contains size && decide (value.toNat < 2 ^ (8 * size))
  | .cflWindowRead offset len => len != 0 && decide (offset.toNat + len ≤ 2 ^ 29)
  | .patrolRead addr _ _ => addr.toNat % 8 == 0 && decide (addr.toNat < Config.stackedEnd)
  | .copyRefetchComplete unit _ _ _ _ => decide (9 ≤ unit.val) && decide (unit.val ≤ 14)
  | .secEnroll tr _ auth => trOk tr && (auth.block.length == 0 || authOk auth)
  | .secRevoke tr auth => trOk tr && authOk auth
  | .secSetPolicy tr auth => trOk tr && authOk auth
  | .secAdvanceSvn tr auth => trOk tr && authOk auth
  | .secDebugUnlock tr auth => trOk tr && authOk auth
  | .gbRead request => decide (10 ≤ request.length) && request.length % 4 == 0
  | .telemetryRead request => decide (4 ≤ request.length) && request.length % 4 == 0
  | .counterRead request => decide (6 ≤ request.length) && request.length % 4 == 0
  | .jobSubmit tr _ | .jobAbort tr | .jobKick tr | .jobSuspend tr | .jobResume tr | .jobQuery tr | .embedBind tr _
  | .embedCancel tr | .embedUnbind tr | .deleteByNode tr | .deleteByKey tr | .publish tr | .attach tr | .detach tr
  | .fencedCommandStart tr | .identify tr | .createSq tr | .createCq tr | .deleteSq tr | .deleteCq tr | .setPower tr
  | .drain tr | .resume tr | .nsCreate tr | .nsDelete tr | .nsQuery tr | .read tr | .flush tr | .trim tr | .verify tr
  | .writeSlotGrant tr | .secChallenge tr => trOk tr
  | .pwrdisAssert | .pwrdisRelease .. | .bladeSeated .. | .bladeUnseated | .vin48OvervoltageDisconnect ..
  | .powerOnResetRelease .. | .inputLossDetect .. | .inputLossRecordProgram | .smbrstAssert | .governorSample ..
  | .governorWindowEnd | .throttleStepChange | .clkPwrLimitWrite .. | .pwrLimitLock .. | .coolantFault ..
  | .tamperOpen | .itineraryFetchReturn .. | .wordDispatch .. | .dispatcherUnblock .. | .engineEntryStart ..
  | .nullEntryRun .. | .nop .. | .waitTimeout .. | .grid .. | .gridStreamStart .. | .gridRowDeliver ..
  | .correctionPassStart .. | .correctionPassEnd .. | .epilogueRowEnter .. | .gridComplete .. | .vecAdd ..
  | .vecSub .. | .vecMul .. | .vecFma .. | .vecDiv .. | .vecSqrt .. | .vecMin .. | .vecMax .. | .vecMinnum ..
  | .vecMaxnum .. | .vecCmp .. | .vecSel .. | .vecAbs .. | .vecNeg .. | .vecCopysign .. | .vecRint .. | .vecScaleb ..
  | .vecCvt .. | .vecSplit2 .. | .vecSplit3 .. | .vecExp .. | .vecExp2 .. | .vecLog .. | .vecLog2 .. | .vecTanh ..
  | .vecErf .. | .vecSigmoid .. | .vecRsqrt .. | .vecRsum .. | .vecRmax .. | .vecRmin .. | .vecRargmax ..
  | .vecSignpack .. | .vecIadd .. | .vecIsub .. | .vecImul .. | .vecAnd .. | .vecOr .. | .vecXor .. | .vecShl ..
  | .vecShr .. | .vecOpComplete .. | .setctr .. | .addctr .. | .cmpset .. | .fence .. | .stepSlot .. | .phaseSlot ..
  | .endSlot .. | .flaginit .. | .loopBegin .. | .tileDrainComplete .. | .stepBarrierEnd | .stepSetLoadComplete
  | .load .. | .store .. | .caravanLoad .. | .caravanRecv .. | .cellarRead .. | .cellarWrite .. | .remoteGet ..
  | .remotePut .. | .remoteAdd .. | .reduce .. | .flagTile .. | .flagRemote .. | .porterEntryComplete ..
  | .caravanDeliveryStart .. | .caravanDeliveryComplete .. | .cellarUnitIssue .. | .cellarRequestDeadline ..
  | .cellarUnitComplete .. | .ptrAreaWrite .. | .ptrResvWrite .. | .sliceExpiry | .starvationPromotion ..
  | .urgentQuantumEnd | .preemptLate | .jobSaveComplete | .switchClearComplete | .switchTableLoadComplete
  | .jobRestoreComplete | .exchangeFirstBarrierDone .. | .exchangeLanded .. | .exchangeComplete ..
  | .exchangeTimeout .. | .jobEnd .. | .embedUnbindComplete | .stagingReadStart | .batchStepBoundary
  | .boundaryInsertResume | .boundaryProcedureEnd .. | .queryAdmit | .walkExpand .. | .rerankDeadline ..
  | .mergeDeadline .. | .publishProceed | .publishApply | .consolidationPassComplete | .consolidationLogFull
  | .attachLoadComplete .. | .detachComplete | .ralLogWrite .. | .ralParamWrite .. | .ralShardsWrite ..
  | .portEnable .. | .portDisable .. | .portRetrain .. | .signalDetected .. | .equaliseComplete ..
  | .alignComplete .. | .linkExchangeComplete .. | .trainingStateTimeout .. | .trainingRetryWaitExpiry ..
  | .quadFail .. | .fastRetrainComplete .. | .peerTransmitStop .. | .ackTimer .. | .flitSend .. | .put .. | .get ..
  | .add .. | .flagSet .. | .reduceUp .. | .reduceSegmentCombine .. | .reduceDown .. | .queryParcel .. | .result ..
  | .rsp .. | .getData .. | .responseTimeout .. | .kybDeviceIdWrite .. | .kybRouteWrite .. | .dieStatusTimeout ..
  | .writeBufferLeave .. | .foldStart | .gcVictimSelect | .refreshRelocate | .ledgerSegmentWrite ..
  | .ldgClockMinuteTick | .ldgClockWrite .. | .ldgPoolWrite .. | .ledgerRecoveryComplete .. | .cxlHotReset
  | .linkDown | .flr | .hostResetComplete | .configRequest .. | .d3hotRequest | .ps3Entry | .d0Request
  | .bar0AccessError .. | .cacheEnableSet | .cacheEnableClear | .hdmDecoderCommit .. | .hdmHostRead ..
  | .ideIntegrityFail .. | .ideKeyProgram .. | .doeDiscovery .. | .cdatRead | .doeAbort .. | .msixUnmask ..
  | .doorbellSnoop .. | .doorbellRereadTimer | .commandFetch .. | .descriptorReadError .. | .adminPairStart ..
  | .adminPairStop .. | .adminPairStopped | .deleteSqComplete .. | .powerStateEntryComplete | .powerStateExitComplete
  | .drainComplete | .rangeLockGrant .. | .perstAssert | .perstRelease | .softwareDeviceReset .. | .watchdogExpiry
  | .stepFailureReset | .bringupTimeout | .refclkAbsent | .refclkLost | .deferredResetTake .. | .channelResetForce ..
  | .tileReset .. | .walkerGroupReset .. | .flashChannelReset .. | .fabricPortReset .. | .porterGroupReset ..
  | .blockResetEnd .. | .releaseStep .. | .clearCounter .. | .cflAbandon .. | .cflSequenceTimeout ..
  | .pageProgram .. | .sectorErase .. | .contReadEnter .. | .contReadExit .. | .protSet .. | .protClear ..
  | .passwordChange .. | .cflProgramPulseEnd .. | .cflErasePulseEnd .. | .cflProtectionOpComplete ..
  | .cflQueuedHostOpStart .. | .deviceRecordWrite | .cflSectorSelWrite .. | .integrityCorrectedRateCheck ..
  | .fuseWriteComplete | .spdmGetVersion | .spdmGetCapabilities | .spdmNegotiateAlgorithms ..
  | .spdmGetCertificate .. | .spdmChallenge .. | .spdmGetMeasurements .. | .spdmKeyExchange .. | .spdmKeyUpdate ..
  | .spdmHeartbeat | .spdmChunkGet .. | .gbRingStart .. | .gbRingStop .. | .gbHeadWrite .. | .gbCopyBudgetTick
  | .qstatCtrlWrite .. | .qstatWindowLatch | .evtWinCtrlWrite .. | .statsWindowEnd .. | .evtCtrSelWrite ..
  | .vin48Return .. | .tamperCoverClose | .watchdogRestart | .shardQueryBudgetExpiry .. => true

end Sys2Proof
end

