-- ==== Sys2Proof/Certificates/Slice0/Obligations.lean ====
section
/-! DEFINITION. The statements for the provers. -/

open Sys2Proof Sys2Proof.Machine

/-- A step runs the command at the front of the queue on the state with the queue's rest. -/
def Obligations.StepRunsFrontCommand : Prop :=
  ∀ (c : Instr) (rest : List Instr) (s : State), step { s with pending := c :: rest } = exec c { s with pending := rest }

/-- With no command waiting, one TCLK cycle passes (the model's choice, log 1): the model's clock counts it, and it reaches no
part of the state but the tensor complex, the counters, and the memory that a stop's snapshot is written to. -/
def Obligations.IdleStepPassesOneCycle : Prop :=
  ∀ s : State, s.pending = [] → ∃ t, step s = .next t ∧ t.tclk = s.tclk + 1 ∧ t.pending = [] ∧ t.gZero = s.gZero ∧
    t.power = s.power ∧ t.boot = s.boot ∧ t.rings = s.rings ∧ t.spaces = s.spaces ∧ t.flash = s.flash ∧ t.fabric = s.fabric ∧
    t.embed = s.embed ∧ t.ralid = s.ralid ∧ t.cfl = s.cfl ∧ t.sec = s.sec ∧ t.host = s.host

/-- No command of the table stops the block: every one has a next state, in every state. It rests on the model's choices in logs
7, 11. -/
def Obligations.EveryCommandGoesOn : Prop := ∀ (c : Instr) (s : State), ∃ t, exec c s = .next t

/-- The frame of every command: a part of the state that the command does not reach is left as it is. No command reaches the
queue or the model's clock. It rests on the model's choices in logs 7, 10. -/
def Obligations.CommandsLeaveOtherPartsUnchanged : Prop :=
  (∀ (c : Instr) (s t : State) (p : Part), exec c s = .next t → p ∉ mayChange c → p.same s t) ∧
  (∀ c : Instr, Part.pending ∉ mayChange c ∧ Part.tclk ∉ mayChange c)

/-- What reset leaves, where a register's table gives its reset value: the power limit is 1,600 W with no floor and no lock
(CLK_PWR_LIMIT), no throttle step is in force, the control registers of the statistics windows hold 0x1800_0000 with mode
off (TIL_QSTAT_CTRL, EVT_WIN_CTRL_n), the Guest Book ring and the ADMIN pair do not run and their vectors name no interrupt,
no ring and no task register exists, and the area layout is the default one. It rests on the model's choices in log 13. -/
def Obligations.ResetHoldsItsValues : Prop :=
  State.reset.power.pwrLimit = 0x00000640#32 ∧ State.reset.power.limitInForce = 1600 ∧ State.reset.power.step = 0 ∧
  State.reset.power.powerReq = 0 ∧ State.reset.tensor.qctrl = 0x18000000#32 ∧ winMode State.reset.tensor.qctrlInUse = 0 ∧
  (∀ b < 7, (winOf b State.reset).reg = 0x18000000#32) ∧ State.reset.evt.running = false ∧ State.reset.evt.vector = 0xFFF ∧
  State.reset.evt.depthM1 = 0x3FF ∧ State.reset.evt.credits = 256 ∧ State.reset.evt.nextSeq = 0 ∧
  State.reset.rings.running = false ∧ State.reset.rings.vectorReg = 0xFFF ∧ State.reset.rings.sqs = [] ∧
  State.reset.rings.cqs = [] ∧ State.reset.rings.tasks = [] ∧ State.reset.mem.areas = defaultAreas ∧
  State.reset.boot.dev = .bringUp ∧ State.reset.boot.stage = 0 ∧ State.reset.host.linkUp = false ∧
  State.reset.host.pstate = 0 ∧ State.reset.sec.debugUnlocked = false ∧ State.reset.pending = []

/-- The invariants hold in the state after reset: the fuses are in order, the throttle steps legal, and every byte memory
canonical. It rests on the model's choices in logs 3, 13, 17, 29. -/
def Obligations.ResetMeetsInvariants : Prop :=
  FusesOrdered State.reset = true ∧ StepsLegal State.reset = true ∧ MemoriesCanonical State.reset = true

/-- Fuse bits change only from 0 to 1 (R505): over every step, policies stay set, the minimum version does not fall, and a valid
or revoked slot stays so with its digest; and the fuse write in progress stays in order. It rests on the model's choices in
log 57. -/
def Obligations.FusesOnlyBurn : Prop :=
  ∀ s t : State, FusesOrdered s = true → step s = .next t → FusesOrdered t = true ∧ FusesKept s t

/-- Every step keeps the array of the configuration flash in its canonical form: addresses strictly rising, and no byte listed
that reads as the erased value. It rests on the model's choices in log 29. -/
def Obligations.ConfigFlashStaysCanonical : Prop :=
  ∀ s t : State, CflCanonical s = true → step s = .next t → CflCanonical t = true

/-- The governor's requests and the step in force stay between 0 and 4 over every step (R27, R33). It rests on the model's
choices in log 32. -/
def Obligations.ThrottleStepsStayLegal : Prop :=
  ∀ s t : State, StepsLegal s = true → step s = .next t → StepsLegal t = true

/-- While CLK_PWR_LIMIT.lock is set, no step changes the register, but for a device reset, which gives it its reset value. -/
def Obligations.PowerLimitLockHolds : Prop :=
  ∀ s t : State, s.power.pwrLimit.getLsbD 31 = true → step s = .next t →
    t.power.pwrLimit = s.power.pwrLimit ∨ t.power.pwrLimit = 0x00000640#32

/-- The straps are sampled at the release of power-on reset (R14), and at that of PWRDIS, which the part gives the same effect
(R16); no other command resamples them. -/
def Obligations.StrapsAreSampledOnce : Prop :=
  (∀ straps s, s.power.porAsserted = true → s.power.connected = true → s.power.pwrdis = false → s.power.thermTrip = false →
    s.power.inputLoss = false → s.boot.deferred = [] → ∃ t, exec (.powerOnResetRelease straps) s = .next t ∧
      t.power.straps = straps) ∧
  (∀ (c : Instr) (s t : State), (∀ x, c ≠ .powerOnResetRelease x) → (∀ x, c ≠ .pwrdisRelease x) → exec c s = .next t →
    t.power.straps = s.power.straps)

/-- A write to limit_w takes effect at the end of the window in which it lands, and never lowers the step directly (R31): the write
leaves the limit and the step in force, and the window's end takes the field. -/
def Obligations.PowerLimitActsAtWindowEnd : Prop :=
  (∀ value s, regWorks 1 true s = true → s.power.pwrLimit.getLsbD 31 = false → ∃ t, exec (.clkPwrLimitWrite value) s = .next t ∧
    t.power.pwrLimit = value &&& 0x800707FF#32 ∧ t.power.limitInForce = s.power.limitInForce ∧ t.power.step = s.power.step ∧
    t.power.powerReq = s.power.powerReq) ∧
  (∀ s, alive s = true → ∃ t, exec .governorWindowEnd s = .next t ∧
    t.power.limitInForce = bits s.power.pwrLimit.toNat 10 0 ∧ t.power.step = s.power.step ∧
    t.power.pwrLimit = s.power.pwrLimit)

/-- A write of enable = 1 while running = 0 starts the Guest Book ring when the depth, the vector and the base are as R526 asks, and
otherwise sets refused. -/
def Obligations.GuestBookRingStartsOrIsRefused : Prop :=
  ∀ (value : W32) s, regWorks 1 true s = true → s.evt.running = false → ∃ t, exec (.gbRingStart value) s = .next t ∧
    (63 ≤ bits value.toNat 15 0 ∧ (bits value.toNat 27 16 ≤ 2047 ∨ bits value.toNat 27 16 = 0xFFF) ∧ s.evt.base % 4096 = 0 →
      t.evt.running = true) ∧
    (¬ (63 ≤ bits value.toNat 15 0 ∧ (bits value.toNat 27 16 ≤ 2047 ∨ bits value.toNat 27 16 = 0xFFF) ∧
        s.evt.base % 4096 = 0) → t.evt.running = false ∧ t.evt.refused = true)

/-- Bit i of a sketch lies at byte i div 8, bit i mod 8, and the sketch distance is the number of bit positions at which two sketches
differ, from 0 to sketch_bits (R261). -/
def Obligations.SketchDistanceCountsDifferingBits : Prop :=
  (∀ x n s i b, (stackedBytes (sketchAddr x n s) (sketchBytes x) s)[i / 8]? = some b →
    bit (sketchOf x n s) i = b.getLsbD (i % 8)) ∧
  (∀ a b : Nat, a < 2 ^ 1024 → b < 2 ^ 1024 →
    sketchDist a b = ((List.range 1024).filter (fun i => bit a i != bit b i)).length) ∧
  (∀ n a b : Nat, n ≤ 1024 → a < 2 ^ n → b < 2 ^ n → sketchDist a b ≤ n)

/-- Conversion of an FP32 value to plain INT8 under a positive normal scale rounds |v| / scale to nearest, ties to even, and holds the
result between −127 and 127; a value beyond the range counts as a saturation; a NaN gives 0 and counts as one (R69). -/
def Obligations.Int8ConversionRoundsAndSaturates : Prop :=
  (∀ v sc ms es neg m (e : Int), f32.decode sc = .fin false ms es → 2 ^ 23 ≤ ms → f32.decode v = .fin neg m e → ∃ k : Nat,
    (let n := if es ≤ e then m * 2 ^ (e - es).toNat else m
     let d := if es ≤ e then ms else ms * 2 ^ (es - e).toNat
     2 * k * d ≤ 2 * n + d ∧ 2 * n ≤ 2 * k * d + d ∧ (2 * n + d = 2 * k * d ∨ 2 * n = 2 * k * d + d → k % 2 = 0)) ∧
    int8Encode v sc = (int8Byte neg (min k 127), decide (127 < k))) ∧
  (∀ v sc ms es, f32.decode sc = .fin false ms es → 2 ^ 23 ≤ ms → f32.decode v = .nan → int8Encode v sc = (0, true)) ∧
  (∀ v sc ms es neg, f32.decode sc = .fin false ms es → 2 ^ 23 ≤ ms → f32.decode v = .inf neg →
    int8Encode v sc = (int8Byte neg 127, true)) ∧
  (∀ v sc, (int8Encode v sc).1 < 256 ∧ (int8Encode v sc).1 ≠ 0x80)

/-- On every read of a W72 unit the syndrome is formed and acted on as the table says (R492): 0 delivers the data, a data column inverts
its bit, weight 1 delivers the data unchanged, any other value is uncorrectable; corrections are counted. -/
def Obligations.SyndromeDecidesTheWord : Prop :=
  (∀ w, w72Syndrome w = w72Check (w % 2 ^ 64) ^^^ (w / 2 ^ 64 % 256)) ∧
  (∀ w, w72Syndrome w = 0 → w72Decode w = .clean (w % 2 ^ 64)) ∧
  (∀ w i h, w72Columns[i]? = some h → w72Syndrome w = h → w72Decode w = .corrected ((w % 2 ^ 64) ^^^ 2 ^ i) i) ∧
  (∀ w j, j < 8 → w72Syndrome w = 2 ^ j → w72Decode w = .corrected (w % 2 ^ 64) (64 + j)) ∧
  (∀ w, w72Syndrome w ≠ 0 → w72Syndrome w ∉ w72Columns → (∀ j < 8, w72Syndrome w ≠ 2 ^ j) →
    w72Decode w = .uncorrectable (w72Syndrome w)) ∧
  (∀ a n s, firstBad a n s = none → (readStacked a n s).1 = .ok (stackedBytes a n s) ∧
    (eccOf 0 (readStacked a n s).2).corrected = satAdd 32 (eccOf 0 s).corrected (correctedWords a n s).length) ∧
  (∀ a n s w syn, firstBad a n s = some (w, syn) → (readStacked a n s).1 = .error (w * 8, syn) ∧
    (eccOf 0 (readStacked a n s).2).uncorrectable = satAdd 16 (eccOf 0 s).uncorrectable 1)

/-- The code of R491 and R492: a word reads back clean, any one inverted bit of its 72 is corrected and named, and any two make it
uncorrectable. -/
def Obligations.SingleBitErrorsAreCorrected : Prop :=
  ∀ data : Nat, data < 2 ^ 64 → w72Decode (w72Encode data) = .clean data ∧
    (∀ i < 72, w72Decode (w72Encode data ^^^ 2 ^ i) = .corrected data i) ∧
    (∀ i < 72, ∀ j < i, ∃ syn, w72Decode (w72Encode data ^^^ 2 ^ i ^^^ 2 ^ j) = .uncorrectable syn)

/-- A write of whole words to stacked memory reads back, clears the errors of those words, leaves every other byte and the
canonical form; a read changes no memory (R496). It rests on the model's choices in log 3. -/
def Obligations.StackedMemoryReadsBackWrites : Prop :=
  (∀ a bytes s, a % 8 = 0 → bytes.length % 8 = 0 → s.ecc.cells = [] → (readStacked a bytes.length (putStacked a bytes s)).1 = .ok bytes) ∧
  (∀ a bytes s x, a % 8 = 0 → bytes.length % 8 = 0 → (x < a ∨ a + bytes.length ≤ x) →
    Mem.byte zeroByte (putStacked a bytes s).mem.stacked x = Mem.byte zeroByte s.mem.stacked x) ∧
  (∀ a bytes s, Mem.wf zeroByte s.mem.stacked = true → Mem.wf zeroByte (putStacked a bytes s).mem.stacked = true) ∧
  (∀ a n s, (readStacked a n s).2.mem = s.mem)

/-- A command that completes posts one record in the next entry of its CQ and frees its task register (R396, R404, R405): the
CQ's tail advances, the phase inverts at the ring's end, and no other ring, no other task register and no other byte of host
memory changes. It rests on the model's choices in log 43. -/
def Obligations.CompletionPostsOneRecord : Prop :=
  ∀ tr status result detail k q c s, Tbl.look s.rings.tasks tr = some k → Tbl.look s.rings.sqs k.sq = some q →
    Tbl.look s.rings.cqs q.cq = some c → c.error = false → s.host.pstate ≠ 3 → s.host.psPhase ≠ .exitingPs3 →
    s.host.stopIo = false → s.host.linkUp = true →
    (let t := complete tr status result detail s
     let r : Completion :=
       { tag := dTag k.desc, sq := k.sq, status := status, opcode := dOpcode k.desc, kind := 0, result := result, detail := detail }
     Tbl.look t.rings.tasks tr = none ∧ (∀ n, n ≠ tr → Tbl.look t.rings.tasks n = Tbl.look s.rings.tasks n) ∧
     t.rings.sqs = s.rings.sqs ∧ (∀ n, n ≠ q.cq → Tbl.look t.rings.cqs n = Tbl.look s.rings.cqs n) ∧
     (∃ d, Tbl.look t.rings.cqs q.cq = some d ∧ d.tail = (if c.tail + 1 = c.depth then 0 else c.tail + 1) ∧
       d.phase = (if c.tail + 1 = c.depth then !c.phase else c.phase) ∧ d.head = c.head ∧ d.base = c.base) ∧
     Mem.read zeroByte t.host.mem (c.base + c.tail * 32) 32 = leBytes 32 (r.value q.head c.phase) ∧
     ∀ a, (a < c.base + c.tail * 32 ∨ c.base + c.tail * 32 + 32 ≤ a) →
       Mem.byte zeroByte t.host.mem a = Mem.byte zeroByte s.host.mem a)

/-- The first fault stops the owner and records its cause, tile and word; of causes of the same cycle the lowest code wins, and
then the lowest tile; a later one changes nothing (R163). It rests on the model's choices in log 1. -/
def Obligations.FaultStopsTheOwner : Prop :=
  (∀ cause tile outside kind word slot e j s, ownerJob s = some (e, j) → j.stop = none → ∃ k r,
    jobOf e (raiseFault cause tile outside kind word slot s) = some k ∧ k.stop = some r ∧ r.cause = cause ∧
    r.status = causeStatus cause ∧ r.firstTile = tile ∧ r.cycle = s.tclk ∧ r.faultWord = word ∧ r.faultSlot = slot) ∧
  (∀ cause tile outside kind word slot e j o s, ownerJob s = some (e, j) → j.stop = some o →
    (o.cycle ≠ s.tclk ∨ o.cause < cause ∨ o.cause = cause ∧ o.firstTile ≤ tile) →
    raiseFault cause tile outside kind word slot s = s) ∧
  (∀ cause tile outside kind word slot e j o s, ownerJob s = some (e, j) → j.stop = some o → o.cycle = s.tclk →
    (cause < o.cause ∨ cause = o.cause ∧ tile < o.firstTile) → ∃ k r,
    jobOf e (raiseFault cause tile outside kind word slot s) = some k ∧ k.stop = some r ∧ r.cause = cause ∧ r.firstTile = tile)

/-- The increments of a cycle take effect together at its end: a flag that FLAGINIT wrote keeps what was written, any other rises by its
increments, and one that would pass 255 keeps its value and stops the job (R145, R155; the cycle's end is the model's idle step, log 1). -/
def Obligations.FlagIncrementsTakeEffect : Prop :=
  (∀ (x : Tile) f k, Tbl.sorted x.incs = true → Tbl.look x.incs f = some k → Tbl.look x.inits f = none → x.flag f + k ≤ 255 →
    x.commit.flag f = x.flag f + k) ∧
  (∀ (x : Tile) f k, Tbl.sorted x.incs = true → Tbl.look x.incs f = some k → Tbl.look x.inits f = none → 255 < x.flag f + k →
    x.commit.flag f = x.flag f ∧ x.overflows = true) ∧
  (∀ (x : Tile) f v, Tbl.look x.inits f = some v → x.commit.flag f = x.flag f) ∧
  (∀ (x : Tile) f, Tbl.look x.incs f = none → x.commit.flag f = x.flag f) ∧
  (∀ x : Tile, x.commit = { x with flags := x.commit.flags, incs := [], inits := [] })

/-- A descriptor that passes checks 1 to 6 of R401 has its complements right, an opcode of its ring's class, a tag other than
all ones, zeros in every reserved bit and unused pointer, and is accepted in the device's state. It rests on the model's
choices in logs 43, 44. -/
def Obligations.AcceptedDescriptorsAreWellFormed : Prop :=
  (∀ cls d s, checkDescriptor cls d s = 0 → dOpcode d + dBits d 15 8 = 255 ∧ dLen0 d + dBits d 255 224 = 0xFFFFFFFF ∧
    dTag d ≠ 0xFFFFFFFF ∧ dBits d 31 17 = 0 ∧ stateAllows (dOpcode d) s.boot.dev = true ∧
    ∃ f, cmdForm (dOpcode d) = some f ∧ f.cls = cls ∧ d.toNat < 2 ^ f.last) ∧
  (∀ cls d s, dOpcode d + dBits d 15 8 ≠ 255 → checkDescriptor cls d s = 0x04) ∧
  (∀ cls d s, complementsOk d cls = true → cmdForm (dOpcode d) = none → checkDescriptor cls d s = 0x01) ∧
  (∀ cls d s, s.boot.dev = .bringUp ∨ s.boot.dev = .reset → checkDescriptor cls d s ≠ 0)

/-- A message whose vector is masked, or while the function is masked, sets its pending bit and is not sent; any other goes out
with the vector's address and data (R378). It rests on the model's choices in log 5. -/
def Obligations.MaskedInterruptsPend : Prop :=
  (∀ v s, v ≠ 0xFFF → s.host.msixEn = true → ((msixEntry v s).masked = true ∨ s.host.funcMask = true) →
    v ∈ (sendMsix v s).host.pba ∧ (sendMsix v s).host.msgs = s.host.msgs) ∧
  (∀ v s, v ≠ 0xFFF → s.host.msixEn = true → (msixEntry v s).masked = false → s.host.funcMask = false → s.host.linkUp = true →
    s.host.stopIo = false → (sendMsix v s).host.msgs = ((msixEntry v s).addr, (msixEntry v s).data) :: s.host.msgs ∧
      (sendMsix v s).host.pba = s.host.pba) ∧
  (∀ s, sendMsix 0xFFF s = s) ∧
  (∀ (v : Fin 2048) s, regWorks 1 false s = true → s.host.msixEn = true → s.host.funcMask = false → s.host.linkUp = true →
    s.host.stopIo = false → s.host.pba = [v.val] → ∃ t, exec (.msixUnmask v) s = .next t ∧ t.host.pba = [] ∧
      t.host.msgs = ((msixEntry v.val s).addr, (msixEntry v.val s).data) :: s.host.msgs)

/-- Each command on the supply, the connector and the input has its effect wherever its occasion is there (R12, R14, R16 to R18,
R20). `deferrals` lists the units whose non-volatile pulse delays the loss of the rails (R451). It rests on the model's
choices in logs 4, 7, 9, 33, 34. -/
def Obligations.SupplyCommandsComplete : Prop :=
  (∀ s, s.boot.dev ≠ .reset → ∃ t, exec .pwrdisAssert s = .next t ∧ t.power.pwrdis = true ∧ t.boot.dev = .reset ∧
    t.boot.lastSource = 1 ∧
    (deferrals s = [] → s.power.inputLoss = false →
      t.power.rails = Rails.allOff ∧ t.power.pwrGood = false ∧ t.power.porAsserted = true)) ∧
  (∀ straps s, s.power.pwrdis = true → ∃ t, exec (.pwrdisRelease straps) s = .next t ∧ t.power.pwrdis = false ∧
    t.power.straps = straps ∧ t.boot = s.boot ∧ t.power.rails = s.power.rails) ∧
  (∀ v s, 38000 ≤ v → v ≤ 62000 → ∃ t, exec (.bladeSeated v) s = .next t ∧ t.power.seated = true ∧ t.power.vinMv = v ∧
    t.power.connected = true) ∧
  (∀ v s, s.power.seated = true → 38000 ≤ v → v ≤ 62000 →
    ∃ t, exec (.vin48Return v) s = .next t ∧ t.power.vinMv = v ∧ t.power.connected = true) ∧
  (∀ s, s.power.inputLoss = false → s.boot.dev ≠ .reset → ∃ t, exec .bladeUnseated s = .next t ∧ t.power.seated = false ∧
    t.power.connected = false ∧ t.power.inputLoss = true ∧ t.power.pwrGood = false ∧ t.power.rails.vcore = false ∧
    t.power.rails.vopt = false ∧ t.power.rails.vddm = false ∧ t.mem.stacked = [] ∧ t.boot.dev = .reset) ∧
  (∀ v s, 62000 < v → s.power.connected = true → s.power.inputLoss = false → s.boot.dev ≠ .reset →
    ∃ t, exec (.vin48OvervoltageDisconnect v) s = .next t ∧ t.power.connected = false ∧ t.power.inputLoss = true ∧
      t.boot.dev = .reset) ∧
  (∀ v s, v < 36000 → s.power.connected = true → s.power.inputLoss = false → s.boot.dev ≠ .reset →
    ∃ t, exec (.inputLossDetect v) s = .next t ∧ t.power.connected = false ∧ t.power.inputLoss = true ∧
      t.power.pwrGood = false ∧ t.mem.stacked = [] ∧ t.boot.dev = .reset) ∧
  (∀ s, s.power.inputLoss = true → s.boot.deferred = [] → ∃ t, exec .inputLossRecordProgram s = .next t ∧
    t.power.inputLoss = false ∧ t.power.porAsserted = true ∧ t.power.rails = Rails.allOff ∧ t.boot.dev = .reset ∧
    t.cfl.loss = []) ∧
  (∀ straps s, s.power.porAsserted = true → s.power.connected = true → s.power.pwrdis = false → s.power.perst = false →
    s.power.thermTrip = false → s.power.inputLoss = false → s.boot.deferred = [] → s.boot.dev = .reset →
    ∃ t, exec (.powerOnResetRelease straps) s = .next t ∧ t.power.porAsserted = false ∧ t.power.rails = Rails.allOn ∧
      t.power.pwrGood = true ∧ t.power.straps = straps ∧ t.boot.dev = .bringUp ∧ gNow t = 0 ∧ nowUs t = 0 ∧
      t.fabric.id = straps.slotId.toNat) ∧
  (∀ s, ∃ t, exec .smbrstAssert s = .next t ∧ t.power = { s.power with smbusBusy := false })

/-- Governor, throttle, sensors, coolant and tamper cover (R23, R24, R27, R31 to R33, R36). It rests on the model's choices in
logs 9, 30, 32. -/
def Obligations.GovernorCommandsComplete : Prop :=
  (∀ v i s, alive s = true → ∃ t, exec (.governorSample v i) s = .next t ∧ t.power.vinSample = v / 10 % 65536 ∧
    t.power.curSample = i / 10 % 65536 ∧ t.power.winSum = s.power.winSum + v * i ∧ t.power.winCount = s.power.winCount + 1 ∧
    t.power.undervoltage = (decide (36000 ≤ v) && decide (v < 40000)) ∧
    t.power.powerReq =
      (if 45000 < i ∧ 4 ≤ s.power.overCurrent then 4
       else if 11 * effectiveLimit s * 1000000 < 10 * (v * i) ∧ s.power.overPrev = true then max 3 s.power.powerReq
       else s.power.powerReq)) ∧
  (∀ s, alive s = true → 0 < s.power.winCount → ∃ t, exec .governorWindowEnd s = .next t ∧
    t.power.limitInForce = s.power.pwrLimit.toNat % 2048 ∧ t.power.winSum = 0 ∧ t.power.winCount = 0 ∧
    (effectiveLimit s * 1000000 * s.power.winCount < s.power.winSum → t.power.powerReq = min 4 (s.power.powerReq + 1)) ∧
    (100 * s.power.winSum < 97 * (effectiveLimit s * 1000000) * s.power.winCount → s.power.lowWindows = 9 →
      t.power.powerReq = s.power.powerReq - 1)) ∧
  (∀ s, alive s = true → wantedStep s ≠ s.power.step → ∃ t, exec .throttleStepChange s = .next t ∧
    t.power = { s.power with step := wantedStep s }) ∧
  (∀ v s, regWorks 1 true s = true → s.power.pwrLimit.getLsbD 31 = false → ∃ t, exec (.clkPwrLimitWrite v) s = .next t ∧
    t.power = { s.power with pwrLimit := v &&& 0x800707FF#32 }) ∧
  (∀ v s, regWorks 1 true s = true → s.power.pwrLimit.getLsbD 31 = false → ∃ t, exec (.pwrLimitLock v) s = .next t ∧
    t.power.pwrLimit = (v &&& 0x800707FF#32) ||| 0x80000000#32) ∧
  (∀ r s, r.length = 106 → alive s = true → s.power.thermTrip = false → s.power.inputLoss = false → tripReached r = false →
    ∃ t, exec (.sensorSample r) s = .next t ∧ (∀ i < 106, Tbl.look t.power.temps i = some (r.getD i 0#16)) ∧
      t.power.thermDie = thermStep 95 s.power.thermDie (hottest r 0 63) ∧
      t.power.thermMem = thermStep 86 s.power.thermMem (hottest r 64 71) ∧
      t.power.thermFlash = thermStep 70 s.power.thermFlash (hottest r 72 87) ∧ t.power.thermTrip = false) ∧
  (∀ r s, r.length = 106 → alive s = true → s.power.thermTrip = false → s.power.inputLoss = false → tripReached r = true →
    ∃ t, exec (.sensorSample r) s = .next t ∧ t.power.thermTrip = true ∧ t.boot.dev = .reset ∧ t.boot.lastSource = 3) ∧
  (∀ c s, alive s = true → exec (.coolantFault c) s = .next (logEvent .coolantFault
    (match c with | .outletHot => 0 | .reversedFlow => 1 | .excessRise => 2) s)) ∧
  (∀ s, standby s = true → s.power.tamperLow = false → ∃ t, exec .tamperOpen s = .next t ∧
    t.power = { s.power with tamperLow := true, tamperSticky := true }) ∧
  (∀ s, standby s = true → ∃ t, exec .tamperCoverClose s = .next t ∧ t.power = { s.power with tamperLow := false })

/-- The device's resets: full resets from their sources (R446 to R448, R458, R465), the watchdog, the loss of the reference
(R445), and the host-side resets with their end (R446, R449). It rests on the model's choices in logs 34, 36. -/
def Obligations.ResetCommandsComplete : Prop :=
  (∀ s, s.boot.dev ≠ .reset → ∃ t, exec .perstAssert s = .next t ∧ t.power.perst = true ∧ t.boot.dev = .reset ∧
    t.boot.stage = 0 ∧ t.boot.lastSource = 4) ∧
  (∀ s, s.boot.dev = .reset → s.power.rails.vaon = true → s.power.porAsserted = false → s.power.thermTrip = false →
    s.power.inputLoss = false → s.boot.railsAfter = false → ∃ t, exec .perstRelease s = .next t ∧ t.power.perst = false ∧
    t.boot.dev = .bringUp) ∧
  (∀ s, s.boot.dev ≠ .reset → regWorks 1 true s = true → mayStart s = true →
    ∃ t, exec (.softwareDeviceReset 0xC7000001#32) s = .next t ∧ t.boot.dev = .bringUp ∧ t.boot.stage = 0 ∧
      t.boot.lastSource = 6 ∧ t.rings = Rings.reset ∧ t.tensor = Tensor.reset) ∧
  (∀ s, s.boot.dev ≠ .reset → mayStart s = true → ∃ t, exec .watchdogExpiry s = .next t ∧ t.boot.dev = .bringUp ∧
    t.boot.stage = 0 ∧ t.boot.lastSource = 5) ∧
  (∀ s, s.boot.dev ≠ .reset → ∃ t, exec .watchdogRestart s = .next t ∧ t.boot = { s.boot with watchdogAt := s.tclk }) ∧
  (∀ s, s.boot.dev ≠ .reset → s.boot.stepFailed = true → mayStart s = true → ∃ t, exec .stepFailureReset s = .next t ∧
    t.boot.dev = .bringUp ∧ t.boot.stage = 0 ∧ t.boot.lastSource = 8 ∧ t.boot.stepFailed = false) ∧
  (∀ s, s.boot.dev = .bringUp → s.boot.hostReset = false → s.boot.waitHostImage = false → mayStart s = true →
    ∃ t, exec .bringupTimeout s = .next t ∧ t.boot.dev = .bringUp ∧ t.boot.stage = 0 ∧ t.boot.lastSource = 7) ∧
  (∀ s, s.boot.dev = .bringUp → s.power.straps.clkmode = 0#1 → s.boot.refResonator = false →
    ∃ t, exec .refclkAbsent s = .next t ∧ t.boot = { s.boot with refResonator := true, linkBarred := true }) ∧
  (∀ s, s.boot.dev ≠ .reset → s.power.straps.clkmode = 0#1 → s.boot.refResonator = false → s.boot.holdover = false →
    ∃ t, exec .refclkLost s = .next t ∧ t.boot.holdover = true ∧ t.boot.linkBarred = true ∧ t.host.linkUp = false) ∧
  (∀ s, s.boot.dev ≠ .reset → s.host.linkUp = true → ∃ t, exec .cxlHotReset s = .next t ∧ t.boot.dev = .bringUp ∧
    t.rings = Rings.reset ∧ t.tensor.jobs = [] ∧ t.host.linkUp = false ∧
    (s.boot.dev = .ready → s.boot.hostReset = false → t.boot.hostReset = true ∧ t.boot.lastSource = 10)) ∧
  (∀ s, s.boot.dev ≠ .reset → s.host.linkUp = true → ∃ t, exec .linkDown s = .next t ∧ t.boot.dev = .bringUp ∧
    t.rings = Rings.reset ∧ t.tensor.jobs = [] ∧ t.host.linkUp = false ∧ t.host.linkDowns = satAdd 32 s.host.linkDowns 1 ∧
    (s.boot.dev = .ready → s.boot.hostReset = false → t.boot.hostReset = true ∧ t.boot.lastSource = 11)) ∧
  (∀ s, s.boot.dev ≠ .reset → s.host.linkUp = true → ∃ t, exec .flr s = .next t ∧ t.boot.dev = .bringUp ∧
    t.rings = Rings.reset ∧ t.tensor.jobs = [] ∧ t.host.linkUp = true ∧
    (s.boot.dev = .ready → s.boot.hostReset = false → t.boot.hostReset = true ∧ t.boot.lastSource = 12)) ∧
  (∀ s, s.boot.hostReset = true → sweepClear s = true → ∃ t, exec .hostResetComplete s = .next t ∧ t.boot.hostReset = false ∧
    t.boot.dev = (if s.boot.hostResetLantern then .lantern else .ready))

/-- Delayed units (R451), per-block resets (R452, R453), and the release sequence with its images and Ledger recovery (R455 to
R461, R463). It rests on the model's choices in logs 34, 35. -/
def Obligations.BringUpCommandsComplete : Prop :=
  (∀ u s, u ∈ s.boot.deferred → unitQuiet u s = true → ∃ t, exec (.deferredResetTake u) s = .next t ∧ u ∉ t.boot.deferred) ∧
  (∀ c s, .channel c ∈ s.boot.deferred → ∃ t, exec (.channelResetForce c) s = .next t ∧ .channel c ∉ t.boot.deferred ∧
    (busyChannels t).contains c = false) ∧
  (∀ tile h s, s.boot.dev = .ready → s.boot.blk = none → s.host.d3hot = false → ∃ t, exec (.tileReset tile h) s = .next t ∧
    t.boot.blk = some { kind := 1, index := tile.val, byHost := h, waiting := false } ∧
    Tbl.look t.tensor.tiles tile.val = none) ∧
  (∀ g h s, s.boot.dev = .ready → s.boot.blk = none → s.host.d3hot = false → ∃ t, exec (.walkerGroupReset g h) s = .next t ∧
    t.boot.blk = some { kind := 2, index := g.val, byHost := h, waiting := false }) ∧
  (∀ c h s, s.boot.dev = .ready → s.boot.blk = none → s.host.d3hot = false → ∃ t, exec (.flashChannelReset c h) s = .next t ∧
    t.boot.blk = some { kind := 3, index := c.val, byHost := h, waiting := (busyChannels s).any (fun k => k.val == c.val) }) ∧
  (∀ p h s, s.boot.dev = .ready → s.boot.blk = none → s.host.d3hot = false → ∃ t, exec (.fabricPortReset p h) s = .next t ∧
    t.boot.blk = some { kind := 4, index := p.val, byHost := h, waiting := false } ∧ portLinked (portOf p.val t) = false) ∧
  (∀ g h s, s.boot.dev = .ready → s.boot.blk = none → s.host.d3hot = false → ∃ t, exec (.porterGroupReset g h) s = .next t ∧
    t.boot.blk = some { kind := 5, index := g.val, byHost := h, waiting := false }) ∧
  (∀ b s, s.boot.blk = some b → b.waiting = false → ∃ t, exec (.blockResetEnd .done) s = .next t ∧
    t.boot = { s.boot with blk := none }) ∧
  (∀ b s, s.boot.blk = some b → b.waiting = false → s.boot.dev ≠ .reset → mayStart s = true →
    ∃ t, exec (.blockResetEnd .failed) s = .next t ∧ t.boot.lastSource = 8 ∧ t.boot.dev = .bringUp ∧ t.boot.stage = 0) ∧
  (∀ ms v w s, s.boot.dev = .bringUp → s.boot.hostReset = false → s.boot.stepFailed = false → s.boot.stuckInStep1 = false →
    s.boot.waitHostImage = false → s.boot.stage < 8 → s.boot.stage ≠ 1 → s.boot.stage ≠ 2 → s.boot.stage ≠ 7 →
    stepHeld (s.boot.stage + 1) s = false → ∃ t, exec (.releaseStep .done ms v w) s = .next t ∧
      t.boot.stage = s.boot.stage + 1 ∧ t.boot.dev = .bringUp ∧ t.boot.bringupMs = s.boot.bringupMs + ms) ∧
  (∀ ms v w s, s.boot.dev = .bringUp → s.boot.hostReset = false → s.boot.stepFailed = false → s.boot.stuckInStep1 = false →
    s.boot.waitHostImage = false → s.boot.stage = 7 → s.boot.recoveryDone = true →
    ∃ t, exec (.releaseStep .done ms v w) s = .next t ∧ t.boot.dev = .ready ∧ t.boot.stage = 9) ∧
  (∀ lost s, s.boot.dev = .bringUp → s.boot.recoveryRunning = true → s.boot.recoveryDone = false → s.boot.stepFailed = false →
    ∃ t, exec (.ledgerRecoveryComplete true lost) s = .next t ∧ t.boot.recoveryDone = true ∧
      t.boot.dev = (if s.boot.stage = 8 then .ready else .bringUp)) ∧
  (∀ v s, s.boot.dev = .ready → s.host.d3hot = false → cflServes s = true → v.toNat / 2 ^ 24 = 0x3E → v.getLsbD 0 = true →
    ∃ t, exec (.clearCounter v) s = .next t ∧ t.boot.counter = 0) ∧
  (∀ m v s, doeServed s = true → s.boot.waitHostImage = true → m.length = 12 + 8192 →
    m.take 4 = [0x10#8, 0xEF#8, 0#8, 0#8] → headerField m 4 4 = 0 → headerField m 8 4 = 16384 → ∃ t, exec (.imageTransfer m v) s = .next t ∧
      t.boot.hostImage = m.drop 12 ∧ t.boot.hostImageTotal = 16384)

/-- The stages of a grid instruction (R79, R81, R84, R85, R88 to R94): taken with its parameter record, streamed, delivered row
by row, corrected, passed through the epilogue, completed. Only the epilogue writes tile memory, and there only for valid
rows. It rests on the model's choices in logs 14, 15, 16, 20. -/
def Obligations.GridCommandsComplete : Prop :=
  (∀ (tile : Fin 128) q s, draining s = true → (tileOf tile.val s).arr = some q → q.null = false → sOp q.slot = 1 →
    (tileOf tile.val s).grids.all (fun g => g.streaming) = true →
    gridParamOk q.slot (BitVec.ofNat 512 (leNat (tileRead (tileOf tile.val s) (gParam q.slot * 64) 64))) = true →
    ∃ t g, exec (.grid tile) s = .next t ∧ (tileOf tile.val t).arr = none ∧
      (tileOf tile.val t).grids = (tileOf tile.val s).grids ++ [g] ∧ g.entry = q ∧
      g.param = BitVec.ofNat 512 (leNat (tileRead (tileOf tile.val s) (gParam q.slot * 64) 64)) ∧
      g.buf = (tileOf tile.val s).gridCount % 2 ∧ g.streaming = false ∧ g.rows = gRows q.slot ∧ g.delivered = 0 ∧
      (tileOf tile.val t).gridCount = (tileOf tile.val s).gridCount + 1 ∧ (tileOf tile.val t).mem = (tileOf tile.val s).mem) ∧
  (∀ (tile : Fin 128) g s, draining s = true → (tileOf tile.val s).grids.find? (fun h => !h.streaming) = some g →
    ∃ t, exec (.gridStreamStart tile) s = .next t ∧ (streamGrid (tileOf tile.val s) g).1 ∈ (tileOf tile.val t).grids ∧
      (∀ h ∈ (tileOf tile.val t).grids, h.streaming = true) ∧ (tileOf tile.val t).mem = (tileOf tile.val s).mem) ∧
  (∀ (tile : Fin 128) g s, draining s = true →
    (tileOf tile.val s).grids.find? (fun h => h.streaming && decide (h.delivered < h.rows)) = some g →
    bufferFree g (tileOf tile.val s).grids = true → ∃ t h, exec (.gridRowDeliver tile) s = .next t ∧
      h ∈ (tileOf tile.val t).grids ∧ h.entry = g.entry ∧ h.delivered = g.delivered + 1 ∧ h.acc = g.acc ∧
      (h.corr = if (gAMxe g.entry.slot || gBMxe g.entry.slot) && g.delivered + 1 == g.rows then .due else g.corr) ∧
      (tileOf tile.val t).mem = (tileOf tile.val s).mem) ∧
  (∀ (tile : Fin 128) g s, draining s = true → (tileOf tile.val s).grids.any (fun h => h.corr == .running) = false →
    (tileOf tile.val s).grids.find? (fun h => h.corr == .due) = some g → ∃ t, exec (.correctionPassStart tile) s = .next t ∧
      { g with corr := .running } ∈ (tileOf tile.val t).grids ∧ (tileOf tile.val t).mem = (tileOf tile.val s).mem) ∧
  (∀ (tile : Fin 128) g s, draining s = true → (tileOf tile.val s).grids.find? (fun h => h.corr == .running) = some g →
    ∃ t, exec (.correctionPassEnd tile) s = .next t ∧ { g with corr := .ended } ∈ (tileOf tile.val t).grids ∧
      (tileOf tile.val t).ieee = (tileOf tile.val s).ieee ||| BitVec.ofNat 5 g.cflags ∧
      (tileOf tile.val t).mem = (tileOf tile.val s).mem) ∧
  (∀ (tile : Fin 128) g s, draining s = true →
    (tileOf tile.val s).grids.find? (fun h => decide (h.entered < h.rows)) = some g → g.entered < g.delivered →
    ((gAMxe g.entry.slot || gBMxe g.entry.slot) = true → g.corr = .ended) →
    ∃ t, exec (.epilogueRowEnter tile) s = .next t ∧ { g with entered := g.entered + 1 } ∈ (tileOf tile.val t).grids ∧
      (gValidRows g.entry.slot ≤ g.entered → (tileOf tile.val t).mem = (tileOf tile.val s).mem) ∧
      (g.entered < gValidRows g.entry.slot →
        (tileOf tile.val t).ieee = (tileOf tile.val s).ieee ||| BitVec.ofNat 5 (stageRow (tileOf tile.val s) g g.entered).2)) ∧
  (∀ (tile : Fin 128) g rest s, draining s = true → (tileOf tile.val s).grids = g :: rest → g.entered = g.rows →
    ∃ t, exec (.gridComplete tile) s = .next t ∧ (tileOf tile.val t).grids = rest ∧
      (tileOf tile.val t).mem = (tileOf tile.val s).mem)

/-- The element-wise floating-point operations (R99) write `f` of their sources' elements, and nothing else. It rests on the
model's choices in log 15. -/
def Obligations.VectorArithmeticCompletes : Prop :=
  VecWrites .vecAdd 0x01 vFmtD (fun rm sl x => List.zipWith (Fmt.add (fmtOf (vFmtA sl)) rm) (vecA sl x) (vecB sl x)) ∧
  VecWrites .vecSub 0x02 vFmtD (fun rm sl x => List.zipWith (Fmt.sub (fmtOf (vFmtA sl)) rm) (vecA sl x) (vecB sl x)) ∧
  VecWrites .vecMul 0x03 vFmtD (fun rm sl x => List.zipWith (Fmt.mul (fmtOf (vFmtA sl)) rm) (vecA sl x) (vecB sl x)) ∧
  VecWrites .vecFma 0x04 vFmtD (fun rm sl x => List.zipWith (fun p c => Fmt.fma (fmtOf (vFmtA sl)) rm p.1 p.2 c)
    (List.zip (vecA sl x) (vecB sl x)) (vecC sl x)) ∧
  VecWrites .vecDiv 0x05 vFmtD (fun rm sl x => List.zipWith (Fmt.div (fmtOf (vFmtA sl)) rm) (vecA sl x) (vecB sl x)) ∧
  VecWrites .vecSqrt 0x06 vFmtD (fun rm sl x => (vecA sl x).map (Fmt.sqrt (fmtOf (vFmtA sl)) rm)) ∧
  VecWrites .vecMin 0x07 vFmtD (fun _ sl x => List.zipWith (Fmt.minmax (fmtOf (vFmtA sl)) false) (vecA sl x) (vecB sl x)) ∧
  VecWrites .vecMax 0x08 vFmtD (fun _ sl x => List.zipWith (Fmt.minmax (fmtOf (vFmtA sl)) true) (vecA sl x) (vecB sl x)) ∧
  VecWrites .vecMinnum 0x09 vFmtD (fun _ sl x => List.zipWith (Fmt.minmaxNum (fmtOf (vFmtA sl)) false) (vecA sl x) (vecB sl x)) ∧
  VecWrites .vecMaxnum 0x0A vFmtD (fun _ sl x => List.zipWith (Fmt.minmaxNum (fmtOf (vFmtA sl)) true) (vecA sl x) (vecB sl x)) ∧
  VecWrites .vecSel 0x0C vFmtD (fun _ sl x => List.zipWith (fun m p => (if m = 1 then p.1 else p.2, 0))
    (readVals x (vSrc3 sl * 64) 1 (vN sl)) (List.zip (vecA sl x) (vecB sl x))) ∧
  VecWrites .vecAbs 0x0D vFmtD (fun _ sl x => (vecA sl x).map (fun a => (a % (fmtOf (vFmtA sl)).signBit, 0))) ∧
  VecWrites .vecNeg 0x0E vFmtD (fun _ sl x => (vecA sl x).map (fun a => ((fmtOf (vFmtA sl)).negate a, 0))) ∧
  VecWrites .vecCopysign 0x0F vFmtD (fun _ sl x => List.zipWith (fun a b =>
    (a % (fmtOf (vFmtA sl)).signBit + b / (fmtOf (vFmtA sl)).signBit * (fmtOf (vFmtA sl)).signBit, 0)) (vecA sl x) (vecB sl x)) ∧
  VecWrites .vecRint 0x10 vFmtD (fun rm sl x => (vecA sl x).map (Fmt.rint (fmtOf (vFmtA sl)) rm)) ∧
  VecWrites .vecScaleb 0x11 vFmtD (fun rm sl x => List.zipWith (fun a n => (fmtOf (vFmtA sl)).scaleb rm a (sext 32 n))
    (vecA sl x) (readElems x 10 (vSrc2 sl) (vN sl)))

/-- The transcendental operations write the part's value of each element (R99): what IEEE 754 fixes for special operands, else a
free value with the flags that follow from it (R100). It rests on the model's choices in log 16. -/
def Obligations.VectorTranscendentalsComplete : Prop :=
  VecWrites .vecExp 0x18 vFmtD (fun _ sl x => (vecA sl x).map (transElem 0x18)) ∧
  VecWrites .vecExp2 0x19 vFmtD (fun _ sl x => (vecA sl x).map (transElem 0x19)) ∧
  VecWrites .vecLog 0x1A vFmtD (fun _ sl x => (vecA sl x).map (transElem 0x1A)) ∧
  VecWrites .vecLog2 0x1B vFmtD (fun _ sl x => (vecA sl x).map (transElem 0x1B)) ∧
  VecWrites .vecTanh 0x1C vFmtD (fun _ sl x => (vecA sl x).map (transElem 0x1C)) ∧
  VecWrites .vecErf 0x1D vFmtD (fun _ sl x => (vecA sl x).map (transElem 0x1D)) ∧
  VecWrites .vecSigmoid 0x1E vFmtD (fun _ sl x => (vecA sl x).map (transElem 0x1E)) ∧
  VecWrites .vecRsqrt 0x1F vFmtD (fun _ sl x => (vecA sl x).map (transElem 0x1F))

/-- The integer operations of R99 work on 32-bit patterns: sums, differences and products wrap, the shift distance is source 2
modulo 32, SHR is arithmetic, and no flag rises. It rests on the model's choices in log 15. -/
def Obligations.VectorIntegersComplete : Prop :=
  (∀ (c : Fin 128 → Instr) (op : Nat) (f : W32 → W32 → W32),
    (c, op, f) ∈ ([(.vecIadd, 0x28, fun a b => a + b), (.vecIsub, 0x29, fun a b => a - b), (.vecImul, 0x2A, fun a b => a * b),
      (.vecAnd, 0x2B, fun a b => a &&& b), (.vecOr, 0x2C, fun a b => a ||| b), (.vecXor, 0x2D, fun a b => a ^^^ b),
      (.vecShl, 0x2E, fun a b => a <<< (b.toNat % 32)), (.vecShr, 0x2F, fun a b => a.sshiftRight (b.toNat % 32))]
        : List ((Fin 128 → Instr) × Nat × (W32 → W32 → W32))) →
    ∀ (tile : Fin 128) q e j s, startedVec tile.val op s = some q → ownerJob s = some (e, j) → vFmtA q.slot = 10 →
      vFmtD q.slot = 10 → ∃ t, exec (c tile) s = .next t ∧
        (tileOf tile.val t).vec = some { q with done := true } ∧ (tileOf tile.val t).ieee = (tileOf tile.val s).ieee ∧
        readElems (tileOf tile.val t) 10 (vDst q.slot) (vN q.slot)
          = List.zipWith (fun a b => (f (BitVec.ofNat 32 a) (BitVec.ofNat 32 b)).toNat)
              (vecA q.slot (tileOf tile.val s)) (vecB q.slot (tileOf tile.val s)) ∧
        ∀ a, (a < vDst q.slot * 64 ∨ vDst q.slot * 64 + vN q.slot * 4 ≤ a) →
          Mem.byte zeroByte (tileOf tile.val t).mem a = Mem.byte zeroByte (tileOf tile.val s).mem a)

/-- Comparisons, reductions, splits, conversions and sign packing (R62, R70, R72, R99 to R101, R136 to R138), and the completion
of an operation that has run. It rests on the model's choices in log 15. -/
def Obligations.VectorReductionsAndConversionsComplete : Prop :=
  (∀ (tile : Fin 128) q e j s, startedVec tile.val 0x0B s = some q → ownerJob s = some (e, j) →
    elemBits (vFmtA q.slot) % 8 = 0 →
    ∃ t, exec (.vecCmp tile) s = .next t ∧ (tileOf tile.val t).vec = some { q with done := true } ∧
      readVals (tileOf tile.val t) (vDst q.slot * 64) 1 (vN q.slot)
        = List.zipWith (fun a b => b2n ((fmtOf (vFmtA q.slot)).cmp (vSub q.slot % 16) (bit (vSub q.slot) 4) a b).1)
            (vecA q.slot (tileOf tile.val s)) (vecB q.slot (tileOf tile.val s))) ∧
  VecWrites .vecRsum 0x20 vFmtA (fun rm sl x => [quietResult (fmtOf (vFmtA sl)) (reduceLanes (fun a b =>
    (a.1, ((fmtOf (vFmtA sl)).add rm a.2.1 b.2.1).1,
      Exc.or (Exc.or a.2.2 b.2.2) ((fmtOf (vFmtA sl)).add rm a.2.1 b.2.1).2)) (vecA sl x))]) ∧
  VecWrites .vecRmax 0x21 vFmtA (fun _ sl x => [quietResult (fmtOf (vFmtA sl)) (reduceLanes (bestOf (fmtOf (vFmtA sl)) true) (vecA sl x))]) ∧
  VecWrites .vecRmin 0x22 vFmtA (fun _ sl x => [quietResult (fmtOf (vFmtA sl)) (reduceLanes (bestOf (fmtOf (vFmtA sl)) false) (vecA sl x))]) ∧
  VecWrites .vecRargmax 0x23 (fun _ => 10) (fun _ sl x => [((reduceLanes (bestOf (fmtOf (vFmtA sl)) true) (vecA sl x)).1,
    (quietResult (fmtOf (vFmtA sl)) (reduceLanes (bestOf (fmtOf (vFmtA sl)) true) (vecA sl x))).2)]) ∧
  (∀ (tile : Fin 128) q e j s, startedVec tile.val 0x12 s = some q → ownerJob s = some (e, j) →
    ∃ t, exec (.vecCvt tile) s = .next t ∧ (tileOf tile.val t).vec = some { q with done := true } ∧
      (tileOf tile.val t).mem = (cvtAny (rmOf (vRnd q.slot) (jRndDefault j.desc)) q.slot (tileOf tile.val s) (bankOf tile.val s)).tile.mem ∧
      (tileOf tile.val t).ieee = (tileOf tile.val s).ieee ||| BitVec.ofNat 5
        (cvtAny (rmOf (vRnd q.slot) (jRndDefault j.desc)) q.slot (tileOf tile.val s) (bankOf tile.val s)).flags) ∧
  (∀ (tile : Fin 128) q e j s, startedVec tile.val 0x13 s = some q → ownerJob s = some (e, j) →
    (∀ i < vN q.slot * 2, ∀ k < vN q.slot * 2, vDst q.slot * 64 + i ≠ vSrc2 q.slot * 64 + k) →
    ∃ t, exec (.vecSplit2 tile) s = .next t ∧ (tileOf tile.val t).vec = some { q with done := true } ∧
      readVals (tileOf tile.val t) (vDst q.slot * 64) 2 (vN q.slot)
        = (readVals (tileOf tile.val s) (vSrc1 q.slot * 64) 4 (vN q.slot)).map (fun v => (split3 v).1 % 65536) ∧
      readVals (tileOf tile.val t) (vSrc2 q.slot * 64) 2 (vN q.slot)
        = (readVals (tileOf tile.val s) (vSrc1 q.slot * 64) 4 (vN q.slot)).map (fun v => (split3 v).2.1 % 65536)) ∧
  (∀ (tile : Fin 128) q e j s, startedVec tile.val 0x14 s = some q → ownerJob s = some (e, j) →
    ∃ t, exec (.vecSplit3 tile) s = .next t ∧ (tileOf tile.val t).vec = some { q with done := true } ∧
      readVals (tileOf tile.val t) (vSrc3 q.slot * 64) 2 (vN q.slot)
        = (readVals (tileOf tile.val s) (vSrc1 q.slot * 64) 4 (vN q.slot)).map (fun v => (split3 v).2.2 % 65536)) ∧
  (∀ (tile : Fin 128) q e j s, startedVec tile.val 0x24 s = some q → ownerJob s = some (e, j) →
    ∃ t, exec (.vecSignpack tile) s = .next t ∧ (tileOf tile.val t).vec = some { q with done := true } ∧
      ∀ i < vN q.slot, i % 8 = 0 → i + 8 ≤ vN q.slot →
        Mem.byte zeroByte (tileOf tile.val t).mem (vDst q.slot * 64 + i / 8)
          = BitVec.ofNat 8 (((List.range 8).map (fun k =>
              b2n (f32.cmp 2 false ((readVals (tileOf tile.val s) (vSrc1 q.slot * 64) 4 (vN q.slot)).getD (i + k) 0) 0).1 * 2 ^ k)).sum)) ∧
  (∀ (tile : Fin 128) q s, draining s = true → (tileOf tile.val s).vec = some q → q.done = true →
    ∃ t, exec (.vecOpComplete tile) s = .next t ∧ (tileOf tile.val t).vec = none ∧
      (tileOf tile.val t).mem = (tileOf tile.val s).mem)

/-- Fetching, dispatch and the starts of queue entries have their effect on a running tile (R128, R129, R152 to R159, R171,
R186): the unit first missing enters the fetch buffer, each engine slot of the word becomes an entry of its queue, a
Waypoint word first drains the tile, satisfied waits unblock the dispatcher, and the head of a queue starts. It rests on the
model's choices in logs 1, 9, 10, 20. -/
def Obligations.DispatchCommandsComplete : Prop :=
  (∀ (tile : Fin 128) n b s s1, running s = true → (tileOf tile.val s).left = false →
    (tileOf tile.val s).buf.length < Config.fetchUnits →
    firstMissing (tileOf tile.val s) (tileOf tile.val s).rp Config.fetchUnits + 8 ≤ (tileOf tile.val s).rangeHi →
    fetchSigned (firstMissing (tileOf tile.val s) (tileOf tile.val s).rp Config.fetchUnits) s = true →
    (hostClear false [(firstMissing (tileOf tile.val s) (tileOf tile.val s).rp Config.fetchUnits, 8)] s).1 = true →
    readStacked (firstMissing (tileOf tile.val s) (tileOf tile.val s).rp Config.fetchUnits) 8 s = (.ok b, s1) →
    ∃ t, exec (.itineraryFetchReturn tile (n + 1)) s = .next t ∧
      Tbl.look (tileOf tile.val t).buf (firstMissing (tileOf tile.val s) (tileOf tile.val s).rp Config.fetchUnits)
        = some (BitVec.ofNat 64 (leNat b))) ∧
  (∀ (tile : Fin 128) e j h us s, ownerJob s = some (e, j) → running s = true → (tileOf tile.val s).cur = none →
    (tileOf tile.val s).hold = .none → (tileOf tile.val s).left = false →
    Tbl.look (tileOf tile.val s).buf (tileOf tile.val s).rp = some h → isCompl 6 (hMask h) (hMaskN h) = true →
    fetchWord (tileOf tile.val s) h = some us →
    lowestCause (wordCauses tile.val (tileOf tile.val s) j h (wordSlots h us) s) = none →
    (hWaypoint h = true → (tileOf tile.val s).wpPassed = true) →
    (∀ p ∈ wordSlots h us, p.1 < 4 → ((tileOf tile.val s).queue (engineAt p.1)).length < Config.queueDepth) →
    Tbl.freeKey (tileOf tile.val s).trackers 0 Config.trackers ≠ none →
    ∃ t, exec (.wordDispatch tile) s = .next t ∧ ∀ p ∈ wordSlots h us, p.1 < 4 →
      ∃ q ∈ (tileOf tile.val t).queue (engineAt p.1), q.word = (tileOf tile.val s).rp ∧ q.hdr = h) ∧
  (∀ (tile : Fin 128) e j h us s, ownerJob s = some (e, j) → running s = true → (tileOf tile.val s).cur = none →
    (tileOf tile.val s).hold = .none → (tileOf tile.val s).left = false →
    Tbl.look (tileOf tile.val s).buf (tileOf tile.val s).rp = some h → isCompl 6 (hMask h) (hMaskN h) = true →
    fetchWord (tileOf tile.val s) h = some us →
    lowestCause (wordCauses tile.val (tileOf tile.val s) j h (wordSlots h us) s) = none →
    hWaypoint h = true → (tileOf tile.val s).wpPassed = false →
    ∃ t, exec (.wordDispatch tile) s = .next t ∧ (tileOf tile.val t).hold = .drain (.waypoint (hLr h)) ∧
      (tileOf tile.val t).rp = (tileOf tile.val s).rp) ∧
  (∀ (tile : Fin 128) x w s, running s = true → x = (tileOf tile.val s).examineTo .pout → x.hold = .headerWait →
    x.cur = some w → x.satisfied x.holdHdr = true → ∃ t, exec (.dispatcherUnblock tile) s = .next t ∧
      (tileOf tile.val t).hold = .none ∧ (tileOf tile.val t).flags = (x.consume x.holdHdr).flags) ∧
  (∀ (tile : Fin 128) eng e j x q rest s, ownerJob s = some (e, j) → running s = true →
    x = (tileOf tile.val s).examineTo eng → x.queue eng = q :: rest → q.resolved = true → canTake x eng q = true →
    (∀ wr rows n, entryAccess eng q = some (wr, rows, n) → transferAllowed j wr rows n (setTile tile.val x s) = true) →
    ∃ t, exec (.engineEntryStart tile eng) s = .next t ∧ tileOf tile.val t = takeHead x eng q s.tensor.delivered) ∧
  (∀ (tile : Fin 128) eng q s, draining s = true → q.null = true →
    (match eng with
      | .arr => (tileOf tile.val s).arr
      | .vec => (tileOf tile.val s).vec
      | .pin => (tileOf tile.val s).pin.head?
      | .pout => (tileOf tile.val s).pout.head?) = some q →
    ∃ t, exec (.nullEntryRun tile eng) s = .next t ∧ (match eng with
      | .arr => (tileOf tile.val t).arr = none
      | .vec => (tileOf tile.val t).vec = none
      | .pin => (tileOf tile.val t).pin = (tileOf tile.val s).pin.tail
      | .pout => (tileOf tile.val t).pout = (tileOf tile.val s).pout.tail)) ∧
  (∀ (tile : Fin 128) eng q s, draining s = true → q.null = false → sOp q.slot = 0 →
    (match eng with
      | .arr => (tileOf tile.val s).arr
      | .vec => (tileOf tile.val s).vec
      | .pin => (tileOf tile.val s).pin.head?
      | .pout => (tileOf tile.val s).pout.head?) = some q →
    ∃ t, exec (.nop tile eng) s = .next t ∧ (match eng with
      | .arr => (tileOf tile.val t).arr = none
      | .vec => (tileOf tile.val t).vec = none
      | .pin => (tileOf tile.val t).pin = (tileOf tile.val s).pin.tail
      | .pout => (tileOf tile.val t).pout = (tileOf tile.val s).pout.tail)) ∧
  (∀ (tile : Fin 128) who e j since kind w s, ownerJob s = some (e, j) → running s = true →
    waitSince ((tileOf tile.val s).examineTo .pout) who = some (since, kind, w) →
    waitLimit j < waited since s.tensor.delivered →
    (who = .dispatcher → ((tileOf tile.val s).examineTo .pout).satisfied ((tileOf tile.val s).examineTo .pout).holdHdr = false) →
    ∃ t k r, exec (.waitTimeout tile who) s = .next t ∧ jobOf e t = some k ∧ k.stop = some r ∧ r.cause = causeWaitTimeout ∧
      r.status = 0x30 ∧ r.firstTile = tile.val ∧ r.firstKind = kind)

/-- SYNC and LOOP slots do what their opcode says (R142 to R149): SETCTR, ADDCTR, CMPSET and FLAGINIT write their register,
FENCE, STEP, PHASE and END drain the tile, and a BEGIN with a count makes its loop active with index 0. It rests on the
model's choices in logs 1, 20. -/
def Obligations.SyncSlotsComplete : Prop :=
  (∀ (tile : Fin 128) sl s, pendingSync tile.val 1 s = some sl → ∃ t, exec (.setctr tile) s = .next t ∧
    Tbl.look (tileOf tile.val t).ctrs (sBits sl 103 101) = some (sBits sl 100 85)) ∧
  (∀ (tile : Fin 128) sl s, pendingSync tile.val 2 s = some sl → ∃ t, exec (.addctr tile) s = .next t ∧
    Tbl.look (tileOf tile.val t).ctrs (sBits sl 103 101)
      = some ((Tbl.lookD (tileOf tile.val s).ctrs (sBits sl 103 101) 0 + sBits sl 100 85) % 65536)) ∧
  (∀ (tile : Fin 128) sl s, pendingSync tile.val 3 s = some sl → ∃ t, exec (.cmpset tile) s = .next t ∧
    Tbl.look (tileOf tile.val t).cmps (sBits sl 103 101)
      = some { ctr := sBits sl 100 98, src := bit sl.toNat 97, rel := sBits sl 96 95, const := sBits sl 94 79 }) ∧
  (∀ (tile : Fin 128) sl s, pendingSync tile.val 4 s = some sl → ∃ t, exec (.fence tile) s = .next t ∧
    (tileOf tile.val t).hold = .drain .fence ∧ (tileOf tile.val t).left = (tileOf tile.val s).left) ∧
  (∀ (tile : Fin 128) sl s, pendingSync tile.val 5 s = some sl → ∃ t, exec (.stepSlot tile) s = .next t ∧
    (tileOf tile.val t).hold = .drain .step ∧ (tileOf tile.val t).left = (tileOf tile.val s).left) ∧
  (∀ (tile : Fin 128) sl s, pendingSync tile.val 6 s = some sl → ∃ t, exec (.phaseSlot tile) s = .next t ∧
    (tileOf tile.val t).hold = .drain .phase ∧ (tileOf tile.val t).left = true ∧
    (tileOf tile.val t).nextPhase = some (sBits sl 103 96)) ∧
  (∀ (tile : Fin 128) sl s, pendingSync tile.val 7 s = some sl → ∃ t, exec (.endSlot tile) s = .next t ∧
    (tileOf tile.val t).hold = .drain .ending ∧ (tileOf tile.val t).left = true ∧ (tileOf tile.val t).nextPhase = none) ∧
  (∀ (tile : Fin 128) sl s, pendingSync tile.val 8 s = some sl → ∃ t, exec (.flaginit tile) s = .next t ∧
    (tileOf tile.val t).flag (sBits sl 103 98) = sBits sl 97 90) ∧
  (∀ (tile : Fin 128) w sl s, running s = true → (tileOf tile.val s).hold = .none → (tileOf tile.val s).cur = some w →
    w.loop = some sl → w.sync = none → w.skipTo = none → predRuns (tileOf tile.val s) sl = some true → 0 < lBody sl →
    (if lSrc sl then lCount sl else Tbl.lookD (tileOf tile.val s).ctrs (lCtr sl) 0) ≠ 0 →
    ∃ t, exec (.loopBegin tile) s = .next t ∧ (tileOf tile.val t).loops.head? =
      some (loopOf sl (if lSrc sl then lCount sl else Tbl.lookD (tileOf tile.val s).ctrs (lCtr sl) 0) (w.addr + 8 * w.units)))

/-- Transfers of the Porters and the entries of Caravans (R169, R171, R172, R175, R177). A LOAD puts the bytes of its rows into
tile memory and nothing else there; a STORE puts the tile's bytes into its rows and changes no other byte of stacked or
shared memory; a row keeps what it was given unless a later row lies over it. A delivery gives the leader and every member
the same bytes. It rests on the model's choices in logs 3, 20. -/
def Obligations.PorterTransfersComplete : Prop :=
  (∀ (tile : Fin 128) q bytes s s1, startedEntry tile.val true 1 s = some q →
    (hostClear false ((pRowAddrs q.slot).map (fun a => (a, pLen q.slot * 64))) s).1 = true →
    readRows (pRowAddrs q.slot) (pLen q.slot * 64) s = (.ok bytes, s1) → ∃ t, exec (.load tile) s = .next t ∧
      tileRead (tileOf tile.val t) (pTile q.slot * 64) bytes.length = bytes ∧
      (∀ a, (a < pTile q.slot * 64 ∨ pTile q.slot * 64 + bytes.length ≤ a) →
        Mem.byte zeroByte (tileOf tile.val t).mem a = Mem.byte zeroByte (tileOf tile.val s).mem a) ∧
      (∃ r ∈ (tileOf tile.val t).pin, r.id = q.id ∧ r.done = true) ∧ t.mem = s1.mem) ∧
  (∀ (tile : Fin 128) q s, startedEntry tile.val false 1 s = some q →
    (hostClear true ((pRowAddrs q.slot).map (fun a => (a, pLen q.slot * 64))) s).1 = true →
    ∃ t, exec (.store tile) s = .next t ∧ (tileOf tile.val t).mem = (tileOf tile.val s).mem ∧
      (∃ r ∈ (tileOf tile.val t).pout, r.id = q.id ∧ r.done = true) ∧
      (∀ a, (∀ r ∈ pRowAddrs q.slot, a < r ∨ r + pLen q.slot * 64 ≤ a) →
        Mem.byte zeroByte t.mem.stacked a = Mem.byte zeroByte s.mem.stacked a ∧
        Mem.byte zeroByte t.mem.shared a = Mem.byte zeroByte s.mem.shared a) ∧
      (∀ k, k < pRows q.slot → (∀ m, k < m → m < pRows q.slot → pLen q.slot ≤ (m - k) * pPitch q.slot) →
        extRead ((pExt q.slot + k * pPitch q.slot) * 64) (pLen q.slot * 64) t
          = tileRead (tileOf tile.val s) (pTile q.slot * 64 + k * (pLen q.slot * 64)) (pLen q.slot * 64))) ∧
  (∀ (tile : Fin 128) q s, startedEntry tile.val true 2 s = some q → ∃ t, exec (.caravanLoad tile) s = .next t ∧
    (∃ r ∈ (tileOf tile.val t).pin, r.id = q.id ∧ r.next = 1) ∧ (tileOf tile.val t).mem = (tileOf tile.val s).mem) ∧
  (∀ (tile : Fin 128) q s, startedEntry tile.val true 3 s = some q → ∃ t, exec (.caravanRecv tile) s = .next t ∧
    (∃ r ∈ (tileOf tile.val t).pin, r.id = q.id ∧ r.next = 1) ∧ (tileOf tile.val t).mem = (tileOf tile.val s).mem) ∧
  (∀ (g : Fin 256) c l s, Tbl.look s.tensor.caravans g.val = some c → groupEntry c.leader 2 g.val s = some l →
    running s = true → c.running = false → l.next = 1 →
    (∀ m ∈ groupMembers c, ∃ q, groupEntry m 3 g.val s = some q ∧ q.next = 1 ∧ pLen q.slot = pLen l.slot ∧
      pRows q.slot = pRows l.slot) → ∃ t, exec (.caravanDeliveryStart g) s = .next t ∧
      Tbl.look t.tensor.caravans g.val = some { c with running := true } ∧ t.mem = s.mem) ∧
  (∀ (g : Fin 256) c l bytes s s1, Tbl.look s.tensor.caravans g.val = some c → groupEntry c.leader 2 g.val s = some l →
    draining s = true → c.running = true → (hostClear false ((pRowAddrs l.slot).map (fun a => (a, pLen l.slot * 64))) s).1 = true →
    readRows (pRowAddrs l.slot) (pLen l.slot * 64)
      { s with tensor := { s.tensor with caravans := Tbl.put s.tensor.caravans g.val { c with running := false } } }
      = (.ok bytes, s1) → ∃ t, exec (.caravanDeliveryComplete g) s = .next t ∧
      Tbl.look t.tensor.caravans g.val = some { c with running := false } ∧
      tileRead (tileOf c.leader t) (pTile l.slot * 64) bytes.length = bytes ∧
      (∀ m ∈ groupMembers c, ∀ q, groupEntry m 3 g.val s = some q →
        tileRead (tileOf m t) (pTile q.slot * 64) bytes.length = bytes))

/-- Slots that reach beyond the device's memory (R140, R179, R183, R184, R317, R325, R326): a Cellar slot whose lock is clear
queues the request of its next unit, a remote slot sends one request for each of its pieces, REDUCE enters its reduction, a
FLAG_TILE is on its way for 16 or 32 delivered cycles, a FLAG_REMOTE sends a FLAG_SET. `k` is the tag of the request. It
rests on the model's choices in logs 20, 21, 38. -/
def Obligations.PorterRequestsComplete : Prop :=
  (∀ (tile : Fin 128) e j q x n s, ownerJob s = some (e, j) → cellarEntry tile.val true s = some q →
    Tbl.look s.spaces (cNs q.slot + 1) = some x → q.lock = some n → lockClear n s = true →
    cellarQueued (cellarPorter (ledgerOf (x.base + cUnitOff q.slot + q.next) s) (x.base + cUnitOff q.slot + q.next) s)
      (if latencyCritical j then 2 else 4) s < 256 →
    ∃ t r, exec (.cellarRead tile) s = .next t ∧ Tbl.look t.mem.cellar s.mem.cellarNext = some r ∧
      r.index = x.base + cUnitOff q.slot + q.next ∧ r.cls = (if latencyCritical j then 2 else 4) ∧ r.issued = false ∧
      r.for_ = .slot tile.val true q.id (pExt q.slot * 64 + 16384 * q.next) false) ∧
  (∀ (tile : Fin 128) e j q x n s, ownerJob s = some (e, j) → cellarEntry tile.val false s = some q →
    Tbl.look s.spaces (cNs q.slot + 1) = some x → q.lock = some n → lockClear n s = true →
    cellarQueued (cellarPorter (ledgerOf (x.base + cUnitOff q.slot + q.next) s) (x.base + cUnitOff q.slot + q.next) s) 5 s < 256 →
    ∃ t r, exec (.cellarWrite tile) s = .next t ∧ Tbl.look t.mem.cellar s.mem.cellarNext = some r ∧
      r.index = x.base + cUnitOff q.slot + q.next ∧ r.cls = 5 ∧ r.issued = false ∧
      r.for_ = .slot tile.val false q.id (pExt q.slot * 64 + 16384 * q.next) (cFua q.slot)) ∧
  (∀ (tile : Fin 128) e j q p s, ownerJob s = some (e, j) → startedEntry tile.val true 5 s = some q →
    (remotePieces q.slot).getLast? = some p → ∃ t r k f, exec (.remoteGet tile) s = .next t ∧
      r ∈ (tileOf tile.val t).pin ∧ r.id = q.id ∧ r.next = 1 ∧ r.left = (remotePieces q.slot).length ∧
      Tbl.look t.fabric.reqs k = some f ∧ f.for_ = .slot tile.val true q.id p.2.1 ∧
      f.parcel = mkParcel 2 (sBits q.slot 13 2) (jFabricCtx j.desc) (bit q.slot.toNat 1) 0 k p.1 (p.2.2 / 8 * 2 ^ 60) 0 [] s) ∧
  (∀ (tile : Fin 128) e j q p s, ownerJob s = some (e, j) → startedEntry tile.val false 3 s = some q →
    (remotePieces q.slot).getLast? = some p → ∃ t r k f, exec (.remotePut tile) s = .next t ∧
      r ∈ (tileOf tile.val t).pout ∧ r.id = q.id ∧ r.next = 1 ∧ r.left = (remotePieces q.slot).length ∧
      Tbl.look t.fabric.reqs k = some f ∧ f.for_ = .slot tile.val false q.id p.2.1 ∧
      f.parcel = mkParcel 1 (sBits q.slot 13 2) (jFabricCtx j.desc) (bit q.slot.toNat 1) 0 k p.1 0 0
        (wordsOf (tileRead (tileOf tile.val s) p.2.1 p.2.2)) s) ∧
  (∀ (tile : Fin 128) e j q p s, ownerJob s = some (e, j) → startedEntry tile.val false 4 s = some q →
    (remotePieces q.slot).getLast? = some p → ∃ t r k f, exec (.remoteAdd tile) s = .next t ∧
      r ∈ (tileOf tile.val t).pout ∧ r.id = q.id ∧ r.next = 1 ∧ r.left = (remotePieces q.slot).length ∧
      Tbl.look t.fabric.reqs k = some f ∧ f.for_ = .slot tile.val false q.id p.2.1 ∧
      f.parcel = mkParcel 3 (sBits q.slot 13 2) (jFabricCtx j.desc) (bit q.slot.toNat 1) (b2n (bit q.slot.toNat 0)) k p.1 0 0
        (wordsOf (tileRead (tileOf tile.val s) p.2.1 p.2.2)) s) ∧
  (∀ (tile : Fin 128) e j q s, ownerJob s = some (e, j) → startedEntry tile.val false 5 s = some q → treeOk j.root s = true →
    Tbl.look s.fabric.reductions (reduceKey (jFabricCtx j.desc) (rdId q.slot)) = none →
    ∃ t r, exec (.reduce tile) s = .next t ∧
      Tbl.look t.fabric.reductions (reduceKey (jFabricCtx j.desc) (rdId q.slot)) = some r ∧ r.root = j.root ∧
      r.fmt = rdFmt q.slot ∧ r.data = tileRead (tileOf tile.val s) (pTile q.slot * 64) (pBytes q.slot) ∧
      r.dest = some (pExt q.slot * 64) ∧ r.owner = tile.val ∧ r.combined = [] ∧ r.written = []) ∧
  (∀ (tile : Fin 128) q s, startedEntry tile.val false 0x10 s = some q → ∃ t, exec (.flagTile tile) s = .next t ∧
    t.tensor.landings = s.tensor.landings ++
      [{ due := s.tensor.delivered + (if tile.val / 32 = sBits q.slot 103 97 / 32 then 16 else 32), src := tile.val,
         tile := sBits q.slot 103 97, flag := sBits q.slot 96 91, n := sBits q.slot 90 87 }]) ∧
  (∀ (tile : Fin 128) e j q s, ownerJob s = some (e, j) → startedEntry tile.val false 0x11 s = some q →
    ∃ t k f, exec (.flagRemote tile) s = .next t ∧ Tbl.look t.fabric.reqs k = some f ∧
      f.for_ = .slot tile.val false q.id 0 ∧ f.parcel = mkParcel 4 (sBits q.slot 103 92) (jFabricCtx j.desc) false 0 k 0
        (sBits q.slot 91 85 * 2 ^ 63 + sBits q.slot 84 79 * 2 ^ 57 + sBits q.slot 78 75 * 2 ^ 53) 0 [] s) ∧
  (∀ (tile : Fin 128) q rest s, draining s = true → (tileOf tile.val s).pin = q :: rest → q.done = true →
    ∃ t, exec (.porterEntryComplete tile .pin) s = .next t ∧ (tileOf tile.val t).pin = rest ∧
      (∀ n, q.lock = some n → Tbl.look t.flash.locks n = none)) ∧
  (∀ (tile : Fin 128) q rest s, draining s = true → (tileOf tile.val s).pout = q :: rest → q.done = true →
    ∃ t, exec (.porterEntryComplete tile .pout) s = .next t ∧ (tileOf tile.val t).pout = rest ∧
      (∀ n, q.lock = some n → Tbl.look t.flash.locks n = none)) ∧
  (∀ short a s, s.mem.nextActive = some a → ∃ t, exec (.reservationFrameEnd short) s = .next t ∧ t.mem.activeJob = a ∧
    t.mem.nextActive = none) ∧
  (∀ (e : Fin 64) (c : Fin 256) s, s.mem.nextActive = none → resvActive e.val s = true →
    exec (.reservationFrameEnd [(e, c)]) s
      = .next (logEvent .resvBreach (detailWords [e.val, c.val]) (bump 1 e.val 2 1 s))) ∧
  (∀ (i : Fin 8) v s, regWorks 5 false s = true → ∃ t, exec (.ptrAreaWrite i v) s = .next t ∧
    t.mem = { s.mem with areasStaged := s.mem.areasStaged.set i.val (v &&& 0xF0003FFF#32) } ∧ t.cfl.layoutDue = true) ∧
  (∀ (i : Fin 64) v s, regWorks 5 false s = true → i.val < 5 →
    (s.mem.standing.set i.val (v.toNat % 1024)).foldl (· + ·) 0 + largestJob s ≤ Config.reservable →
    ∃ t, exec (.ptrResvWrite i v) s = .next t ∧
      t.mem = { s.mem with standing := s.mem.standing.set i.val (v.toNat % 1024) }) ∧
  (∀ (i : Fin 64) v s, regWorks 5 false s = true → i.val < 5 →
    Config.reservable < (s.mem.standing.set i.val (v.toNat % 1024)).foldl (· + ·) 0 + largestJob s →
    ∃ t, exec (.ptrResvWrite i v) s = .next t ∧ t.mem = { s.mem with resvRefused := true })

/-- Drains, step barriers and step sets (R144, R159, R161, R189, R190): a drained tile goes on, joins its barrier, or ends its
phase; the boundary advances the region-mode table; the next set is read while the present one is in force. It rests on the
model's choices in logs 10, 37, 39. -/
def Obligations.BarrierCommandsComplete : Prop :=
  (∀ (tile : Fin 128) s, running s = true → (tileOf tile.val s).drained = true → (tileOf tile.val s).hold = .drain .fence →
    exec (.tileDrainComplete tile) s = .next (continueWord tile.val (raiseSigs tile.val
      ((tileOf tile.val s).holdSig.toList.map (fun g => (g, 1))) (setTile tile.val { tileOf tile.val s with hold := .none } s)))) ∧
  (∀ (tile : Fin 128) s, running s = true → (tileOf tile.val s).drained = true → (tileOf tile.val s).left = false →
    (tileOf tile.val s).hold = .drain .step → ∃ t, exec (.tileDrainComplete tile) s = .next t ∧
      tileOf tile.val t = { tileOf tile.val s with hold := .barrierStep }) ∧
  (∀ (tile : Fin 128) lr s, running s = true → (tileOf tile.val s).drained = true →
    (tileOf tile.val s).hold = .drain (.waypoint lr) → exec (.tileDrainComplete tile) s
      = .next (checkBarriers (setTile tile.val { tileOf tile.val s with hold := .barrierWaypoint lr } s))) ∧
  (∀ (tile : Fin 128) k s, running s = true → (tileOf tile.val s).drained = true → k = DrainKind.phase ∨ k = DrainKind.ending →
    (tileOf tile.val s).hold = .drain k → exec (.tileDrainComplete tile) s
      = .next (checkBarriers (raiseSigs tile.val ((tileOf tile.val s).holdSig.toList.map (fun g => (g, 1)))
          (setTile tile.val { tileOf tile.val s with hold := .ended, cur := none } s)))) ∧
  (∀ set s, running s = true → allAtStep s = true → s.tensor.region.waits = false → incomingSet s = some set →
    s.host.snoop = [] → (∀ b ∈ s.host.biOut, b.sweep = false) →
    (s.tensor.region.left = 1 → s.tensor.region.next ≠ .bad ∧ s.tensor.region.next ≠ .lost) →
    ∃ t, exec .stepBarrierEnd s = .next t ∧ t.tensor.region = advanceRegion s.tensor.region ∧ t.mem = s.mem) ∧
  (∀ e j s, ownerJob s = some (e, j) → running s = true → s.tensor.region.next = .loading → s.tensor.region.left ≠ 0 →
    s.tensor.region.waits = false → ∃ t, exec .stepSetLoadComplete s = .next t ∧
      t.tensor.region = { s.tensor.region with
        next := nextOf (readSetNo j (s.tensor.region.idx + 1) s).1 (s.tensor.region.idx + 1) })

/-- The JOB ring and the scheduler's timers (R196, R204 to R211, R214, R217, R228): a descriptor that passes its checks is
admitted with its record posted; a named job is stopped or ended, kicked, suspended, resumed or reported; the timers set
what the rules say. It rests on the model's choices in logs 9, 37, 43. -/
def Obligations.JobCommandsComplete : Prop :=
  (∀ tr lib task d hv signed e s s1 s2, readyTask tr 0x50 s = some task →
    submitCheck (dPtr0 task.desc) lib (fun _ x => (none, x)) s = (.ok (d, hv, signed), s1) →
    admitJob tr task d hv signed s1 = .ok (e, s2) → ∃ t j, exec (.jobSubmit tr lib) s = .next t ∧ jobOf e t = some j ∧
      j.desc = d ∧ j.tag = jTag d ∧ j.cmdTag = dTag task.desc ∧ Tbl.look t.rings.tasks tr = none) ∧
  (∀ tr task e j s, readyTask tr 0x51 s = some task → findJob (cmdJobTag task) s = some (e, j) → ownerJob s = some (e, j) →
    j.state = .running → ∃ t k, exec (.jobAbort tr) s = .next t ∧ jobOf e t = some k ∧ k.stop.isSome = true ∧
      tr ∈ k.abortTrs) ∧
  (∀ tr task e j s, readyTask tr 0x51 s = some task → findJob (cmdJobTag task) s = some (e, j) → j.state ≠ .running →
    j.state ≠ .saving → j.state ≠ .restoring → ∃ t, exec (.jobAbort tr) s = .next t ∧ jobOf e t = none) ∧
  (∀ tr task e j s, readyTask tr 0x52 s = some task → findJob (cmdJobTag task) s = some (e, j) →
    ∃ t k, exec (.jobKick tr) s = .next t ∧ jobOf e t = some k ∧ k.workPending = true ∧ Tbl.look t.rings.tasks tr = none) ∧
  (∀ tr task e j s, readyTask tr 0x53 s = some task → findJob (cmdJobTag task) s = some (e, j) → j.state ≠ .suspended →
    ∃ t k, exec (.jobSuspend tr) s = .next t ∧ jobOf e t = some k ∧ (k.state = .suspended ∨ k.suspendPending = true)) ∧
  (∀ tr task e j s, readyTask tr 0x54 s = some task → findJob (cmdJobTag task) s = some (e, j) → j.state = .suspended →
    ∃ t k, exec (.jobResume tr) s = .next t ∧ jobOf e t = some k ∧ k.state ≠ .suspended ∧ Tbl.look t.rings.tasks tr = none) ∧
  (∀ tr task e j s, readyTask tr 0x55 s = some task → findJob (cmdJobTag task) s = some (e, j) →
    exec (.jobQuery tr) s = .next (complete tr 0 (stateCode j.state + j.phase * 2 ^ 8) 0 s)) ∧
  (∀ e j s, ownerJob s = some (e, j) → j.state = .running → jClass j.desc = 2 → ∃ t k, exec .sliceExpiry s = .next t ∧
    jobOf e t = some k ∧ k.sliceOver = true) ∧
  (∀ (tag : W32) e j s, findJob tag.toNat s = some (e, j) → eligible j = true → jClass j.desc = 2 → j.urgent = false →
    ∃ t k, exec (.starvationPromotion tag) s = .next t ∧ jobOf e t = some k ∧ k.urgent = true) ∧
  (∀ e j s, ownerJob s = some (e, j) → j.state = .running → j.urgent = true → ∃ t k, exec .urgentQuantumEnd s = .next t ∧
    jobOf e t = some k ∧ k.urgent = false ∧ (s.tensor.heldByStep4 = false → t.tensor.request = true)) ∧
  (∀ e j s, ownerJob s = some (e, j) → j.state = .running → s.tensor.request = true → s.tensor.late = false →
    ∃ t k, exec .preemptLate s = .next t ∧ t.tensor.late = true ∧ jobOf e t = some k ∧ k.lateCount = satAdd 32 j.lateCount 1)

/-- Switches, exchanges and ends (R163, R213, R214, R216, R219, R226, R228). It rests on the model's choices in logs 8, 37, 38,
39. -/
def Obligations.SwitchCommandsComplete : Prop :=
  (∀ e j d ranges saves s s1 s2, ownerJob s = some (e, j) → j.state = .saving → lrDescriptor j j.lr s = (some d, s1) →
    lrRanges d s1 = (some ranges, s2) → j.abortPending = false → j.drainPending = false →
    saves = addSavedAll j.heldFlags ((List.range Config.tiles).map (fun t => (t, saveTile (tileOf t s)))) → saves.2 = false →
    ∃ t k, exec .jobSaveComplete s = .next t ∧ jobOf e t = some k ∧ k.state ≠ .saving ∧ k.heldFlags = [] ∧ k.hasWp = j.hasWp ∧
      Tbl.look t.tensor.saves (jSaveArea j.desc) = some saves.1) ∧
  (∀ s, s.tensor.switch = .clearing → s.mem.activeJob = s.tensor.owner → s.mem.nextActive = none →
    ∃ t, exec .switchClearComplete s = .next t ∧ t.tensor.tiles = [] ∧ t.tensor.switch = .loading ∧ t.mem.shared = []) ∧
  (∀ e j s s1, ownerJob s = some (e, j) → s.tensor.switch = .loading → loadTables e j s = .ok s1 →
    (j.hasWp = true ∨ sweepClear s1 = false) → ∃ t, exec .switchTableLoadComplete s = .next t ∧ t.tensor.switch = .restoring ∧
      t.tensor.tiles = s1.tensor.tiles ∧ t.tensor.region = s1.tensor.region) ∧
  (∀ e j s s1, ownerJob s = some (e, j) → s.tensor.switch = .loading → loadTables e j s = .ok s1 → j.hasWp = false →
    sweepClear s1 = true → s.power.step ≠ 4 → ∃ t k, exec .switchTableLoadComplete s = .next t ∧ jobOf e t = some k ∧
      k.state = .running) ∧
  (∀ e j s, ownerJob s = some (e, j) → s.tensor.switch = .restoring → sweepClear s = true → j.hasWp = false →
    s.power.step ≠ 4 → ∃ t k, exec .jobRestoreComplete s = .next t ∧ jobOf e t = some k ∧ k.state = .running) ∧
  (∀ e j d ranges s s1 s2 s3, ownerJob s = some (e, j) → s.tensor.switch = .restoring → sweepClear s = true → j.hasWp = true →
    lrDescriptor j j.lr s = (some d, s1) → lrRanges d s1 = (some ranges, s2) →
    restoreRanges ranges (jSaveArea j.desc + 0x11000) s2 = some s3 → s.power.step ≠ 4 →
    ∃ t k, exec .jobRestoreComplete s = .next t ∧ jobOf e t = some k ∧ k.state = .running ∧ k.heldFlags = []) ∧
  (∀ (tag : W32) e j x pe rs n outs s s2 s3 s4, exchanging tag .barrier1 s = some (e, j, x) → barrierDone j s = true →
    phaseEntry j j.phase (setStage e .sending (dropBarrier j s)) = (some pe, s2) →
    readExchange j (peExchange pe) s2 = (.ok (rs, n, outs), s3) → sendOuts e j outs s3 = .ok s4 →
    exec (.exchangeFirstBarrierDone tag) s = .next s4) ∧
  (∀ (tag : W32) e j x s, exchanging tag .sending s = some (e, j, x) → jobOf e s = some j → x.outstanding = 0 →
    x.inBytes ≤ x.landed → treeOk j.root s = true → heldOf (reduceKey (jFabricCtx j.desc) 4095) s = [] →
    ∃ t k y r, exec (.exchangeLanded tag) s = .next t ∧ jobOf e t = some k ∧ k.exchange = some y ∧ y.stage = .barrier2 ∧
      Tbl.look t.fabric.reductions (reduceKey (jFabricCtx j.desc) 4095) = some r ∧ r.barrier = true ∧ r.owner = e) ∧
  (∀ (tag : W32) e j x s, exchanging tag .barrier2 s = some (e, j, x) → jobOf e s = some j → barrierDone j s = true →
    j.drainPending = false → ∃ t k, exec (.exchangeComplete tag) s = .next t ∧ jobOf e t = some k ∧ k.phase = x.next ∧
      k.exchange = none ∧ k.state ≠ .exchanging ∧
      Tbl.look t.fabric.reductions (reduceKey (jFabricCtx j.desc) 4095) = none) ∧
  (∀ (tag : W32) e j s, findJob tag.toNat s = some (e, j) → jobOf e s = some j → j.state = .exchanging →
    ∃ t, exec (.exchangeTimeout tag) s = .next t ∧ jobOf e t = none) ∧
  (∀ (tag : W32) e j r s, ownerJob s = some (e, j) → j.stop = some r → j.tag = tag.toNat →
    (∀ p ∈ s.tensor.tiles, quiet s.tensor.caravans p.2 = true) → ∃ t, exec (.jobEnd tag) s = .next t ∧ jobOf e t = none)

/-- The embedding service (R233, R234, R237, R243, R247, R250, R253 to R255, R257): a submission that passes the checks binds
the job, a list is queued whole, queued commands are cancelled, an unbinding drains the service, windows are staged, and the
boundary procedure runs, waits for Ralid and ends with its statistics. It rests on the model's choices in log 51. -/
def Obligations.EmbeddingCommandsComplete : Prop :=
  (∀ tr lib task d hv signed e s s1 s2, readyTask tr 0x40 s = some task → s.embed.bound = none →
    submitCheck (dPtr0 task.desc) lib (bindCheck (dPtr1 task.desc)) s = (.ok (d, hv, signed), s1) →
    admitJob tr task d hv signed s1 = .ok (e, s2) → ∃ t j, exec (.embedBind tr lib) s = .next t ∧ t.embed.bound = some e ∧
      t.embed.model = modelOf (leNat (stackedBytes (dPtr1 task.desc) 64 s1)) ∧ t.embed.ctxs = [] ∧ t.embed.slots = [] ∧
      jobOf e t = some j ∧ j.desc = d) ∧
  (∀ tr list task n s, readyTask tr 0x41 s = some task → n = eCount task.desc → 1 ≤ n → n ≤ 4096 → eFmt task.desc ≠ 3 →
    dPtr0 task.desc % 32 = 0 → dPtr1 task.desc % 64 = 0 → 32 * n ≤ dLen0 task.desc →
    n * recordSize s.embed.model (eFmt task.desc) (eSketch task.desc) ≤ dLen1 task.desc → embedServes s = true →
    (∀ k < n, docOk (match s.embed.bound.bind (fun e => jobOf e s) with | some j => jNsGrant j.desc | none => 0) s
      (docOf tr k (leNat ((list.drop (32 * k)).take 32))) = true) → s.embed.queue.length < Config.admissionQueue →
    ∃ t c, exec (.embedSubmit tr list) s = .next t ∧ Tbl.look t.embed.cmds tr = some c ∧ c.left = n ∧
      c.docs = (List.range n).map (fun k => docOf tr k (leNat ((list.drop (32 * k)).take 32))) ∧
      c.outAddr = dPtr1 task.desc ∧ c.hostFmt = eFmt task.desc ∧
      Tbl.look t.rings.tasks tr = some { task with phase := .running }) ∧
  (∀ tr task k c s, readyTask tr 0x42 s = some task → embedServes s = true →
    s.embed.cmds.find? (fun p => match Tbl.look s.rings.tasks p.1 with
      | some x => dTag x.desc == dParam task.desc 351 320 && x.sq == dParam task.desc 359 352
      | none => false) = some (k, c) → k ∈ s.embed.queue →
    exec (.embedCancel tr) s = .next (complete tr 0 0 0 (abortCmd k s))) ∧
  (∀ tr task s, readyTask tr 0x43 s = some task → embedServes s = true → ∃ t, exec (.embedUnbind tr) s = .next t ∧
    t.embed.unbindTr = some tr ∧ t.embed.queue = [] ∧ t.embed.ctxs = s.embed.ctxs) ∧
  (∀ tr s, s.embed.unbindTr = some tr → s.embed.ctxs = [] → ∃ t, exec .embedUnbindComplete s = .next t ∧
    t.embed = Embed.reset ∧ Tbl.look t.rings.tasks tr = none) ∧
  (∀ i d s, (s.embed.ctxs.filter (fun p => p.2.reading)).length < Config.stagingFlight →
    (byAdmit s).find? (fun p => !p.2.staged && !p.2.reading && p.2.fail == 0) = some (i, d) →
    ∃ t x, exec .stagingReadStart s = .next t ∧ Tbl.look t.embed.ctxs i = some x ∧ x.reading = true) ∧
  (∀ i d tokens s, Tbl.look s.embed.ctxs i = some d → d.reading = true → ∃ t x,
    exec (.stagingReadComplete i .ok tokens) s = .next t ∧ Tbl.look t.embed.ctxs i = some x ∧ x.reading = false ∧
      x.staged = true ∧ ((∃ w ∈ padTo (windowTokens d) 0#32 tokens, s.embed.model.vocab ≤ w.toNat) → x.fail = 0x01)) ∧
  (∀ i d tokens s, Tbl.look s.embed.ctxs i = some d → d.reading = true → ∃ t x,
    exec (.stagingReadComplete i .mediaError tokens) s = .next t ∧ Tbl.look t.embed.ctxs i = some x ∧ x.reading = false ∧
      x.staged = false ∧ x.fail = 0x10) ∧
  (∀ i d tokens s, Tbl.look s.embed.ctxs i = some d → d.reading = true → ∃ t x,
    exec (.stagingReadComplete i .unrecoverable tokens) s = .next t ∧ Tbl.look t.embed.ctxs i = some x ∧ x.reading = false ∧
      x.staged = false ∧ x.fail = 0x11) ∧
  (∀ s, s.embed.boundary = .due → ∃ t, exec .batchStepBoundary s = .next t ∧
    (t.embed.boundary = .running ∨ ∃ k, t.embed.boundary = .waits k) ∧
    (s.embed.slots = [] → t.embed.boundary = .running)) ∧
  (∀ k s, s.embed.boundary = .waits k → insertRoom s = true → ∃ t, exec .boundaryInsertResume s = .next t ∧
    (t.embed.boundary = .running ∨ ∃ m, t.embed.boundary = .waits m) ∧
    (s.embed.slots = [] → t.embed.boundary = .running)) ∧
  (∀ e us s, s.embed.boundary = .running → s.embed.bound = some e → ∃ t, exec (.boundaryProcedureEnd us) s = .next t ∧
    t.embed.boundary = .none ∧ t.embed.stats = { s.embed.work with boundaryUs := min us 65535 } ∧
    t.embed.seq = (s.embed.seq + 1) % 2 ^ 32 ∧ t.embed.lastEnd = s.tclk ∧ t.embed.slots = s.embed.slots)

/-- Queries (R265, R268, R269, R274, R277, R294 to R296, R319, R321, R324, R330): a query that passes its checks waits for a
walker; admission pins its epoch, fans it out and starts its walk; each expansion grows its queue; the deadlines end its
reads and its merge; messages between devices are assembled, and responses end their requests. It rests on the model's
choices in logs 25, 53. -/
def Obligations.QueryCommandsComplete : Prop :=
  (∀ tr buffer task i d s, readyTask tr 0x30 s = some task → d = task.desc →
    (qEpochSel d = true → isCompl 24 (qEpoch d) (qEpochN d) = true ∧ inWindow (qEpoch d) s = true) → queryFieldsOk d = true →
    s.ralid.index = some i → queryMin i ≤ dLen0 d → resultMin d ≤ dLen1 d → ralidServes s = true →
    (qFanout d = true → s.ralid.shards ≠ []) → ∃ t x, exec (.query tr buffer) s = .next t ∧
      Tbl.look t.ralid.queries s.ralid.nextQuery = some x ∧ x.origin = .host tr ∧ x.stage = .waiting ∧ x.k = qK d ∧
      x.rerank = qRerank d ∧ x.l = qL d ∧ x.maxExp = qMaxExp d ∧ x.epoch = (if qEpochSel d then some (qEpoch d) else none) ∧
      x.vec = vectorOf i.dims (padTo (queryMin i) 0#8 buffer) ∧ x.fanout = qFanout d ∧ x.since = s.tclk ∧
      x.budget = qDeadline d ∧ Tbl.look t.rings.tasks tr = some { task with phase := .running }) ∧
  (∀ i q x shards s, s.ralid.index = some i → firstWaitingQuery s = some (q, x) → walkersOn s = true →
    (∀ p, s.ralid.publish = some p → p.holds = false) → (bestWalker s).2 < perWalker s → epochsOk s = true →
    inWindow (x.epoch.getD s.ralid.current.v) s = true →
    shards = (if x.fanout then noRepeat s.ralid.shards else [s.fabric.id]) → s.fabric.id ∈ shards →
    (checkReads [(adjAddr i.entry s, 8), (sketchAddr i i.entry s, sketchBytes i)] s).1 = true →
    ∃ t y, exec .queryAdmit s = .next t ∧ Tbl.look t.ralid.queries q = some y ∧ y.stage = .walking ∧
      y.walker = some (bestWalker s).1 ∧ y.epoch = some (x.epoch.getD s.ralid.current.v) ∧
      y.queue = [readCandidate i x.sketch i.entry s] ∧
      y.expect = (match x.origin with | .shard _ _ => [] | .host _ => shards)) ∧
  (∀ i q x s, s.ralid.index = some i → firstWaitingQuery s = some (q, x) → walkersOn s = true →
    (∀ p, s.ralid.publish = some p → p.holds = false) → (bestWalker s).2 < perWalker s → epochsOk s = true →
    inWindow (x.epoch.getD s.ralid.current.v) s = true → x.fanout = true → s.fabric.id ∉ s.ralid.shards →
    ∃ t y, exec .queryAdmit s = .next t ∧ Tbl.look t.ralid.queries q = some y ∧ y.stage = .merging ∧
      y.walker = some (bestWalker s).1 ∧ y.epoch = some (x.epoch.getD s.ralid.current.v)) ∧
  (∀ q i x c queue s s1, s.ralid.index = some i → Tbl.look s.ralid.queries q = some x → x.stage = .walking →
    walkersOn s = true → firstUnexpanded x.queue = some c → x.expansions + 1 < x.maxExp →
    expandNode i (x.epoch.getD s.ralid.current.v) x.l x.sketch c.node x.queue s = (.grown queue, s1) →
    (firstUnexpanded queue).isSome = true → ∃ t, exec (.walkExpand q) s = .next t ∧
      Tbl.look t.ralid.queries q = some { x with queue := queue, expansions := x.expansions + 1 }) ∧
  (∀ q i x s, s.ralid.index = some i → Tbl.look s.ralid.queries q = some x → x.stage = .walking → walkersOn s = true →
    firstUnexpanded x.queue = none →
    exec (.walkExpand q) s = .next (endWalk i q x (x.epoch.getD s.ralid.current.v) s)) ∧
  (∀ q x s, Tbl.look s.ralid.queries q = some x → x.stage = .ranking →
    exec (.rerankDeadline q) s = .next (rankQuery q (modQuery q (fun y => { y with readsOver := true }) s))) ∧
  (∀ q x s, Tbl.look s.ralid.queries q = some x → x.stage ≠ .ranking → x.stage ≠ .merging →
    ∃ t, exec (.rerankDeadline q) s = .next t ∧ Tbl.look t.ralid.queries q = some { x with readsOver := true }) ∧
  (∀ q x s, Tbl.look s.ralid.queries q = some x → x.fanout = true → ∃ t, exec (.mergeDeadline q) s = .next t ∧
    Tbl.look t.ralid.queries q = none) ∧
  (∀ q x s, Tbl.look s.ralid.queries q = some x → x.stage = .held → ∃ t, exec (.shardQueryBudgetExpiry q) s = .next t ∧
    Tbl.look t.ralid.queries q = none) ∧
  (∀ (n : Fin 16) p s, headParcel n.val 7 s = some p → walkersOn s = true → messageOk p = true → 1 < mSegs p →
    (∀ x ∈ s.ralid.parts, x.1 ≠ phSrc p ∨ x.2.1 ≠ mId p) → ∃ t, exec (.queryParcel n) s = .next t ∧
      t.ralid.parts = s.ralid.parts ++ [(phSrc p, mId p, mSeg p, mSegs p, p.payload)] ∧
      (portOf n.val t).inbox = (portOf n.val s).inbox.drop 1) ∧
  (∀ (n : Fin 16) p bytes mine s, headParcel n.val 7 s = some p → walkersOn s = true → messageOk p = true →
    mine = (fun (x : Nat × Nat × Nat × Nat × List W64) => x.1 == phSrc p && x.2.1 == mId p) →
    wholeMessage (mSegs p) (((s.ralid.parts ++ [(phSrc p, mId p, mSeg p, mSegs p, p.payload)]).filter mine).map
      (fun x => (x.2.2.1, x.2.2.2.2))) = some bytes → remoteWaiting s < Config.remoteWaiting →
    exec (.queryParcel n) s = .next (remoteQuery (phSrc p) (mId p) bytes
      (setRalid { s.ralid with parts := (s.ralid.parts ++ [(phSrc p, mId p, mSeg p, mSegs p, p.payload)]).filter (fun x => !mine x) }
        (dropParcel n.val s)))) ∧
  (∀ (n : Fin 16) p x s, headParcel n.val 8 s = some p → Tbl.look s.ralid.queries (mId p) = some x → messageOk p = true →
    phSrc p ∈ x.expect → phSrc p ≠ s.fabric.id →
    wholeMessage (mSegs p) (((x.parts ++ [(phSrc p, mSeg p, mSegs p, p.payload)]).filter (fun y => y.1 == phSrc p)).map
      (fun y => (y.2.1, y.2.2.2))) = none → ∃ t, exec (.result n) s = .next t ∧
      Tbl.look t.ralid.queries (mId p) = some { x with parts := x.parts ++ [(phSrc p, mSeg p, mSegs p, p.payload)] }) ∧
  (∀ (n : Fin 16) p x bytes s, headParcel n.val 8 s = some p → Tbl.look s.ralid.queries (mId p) = some x →
    messageOk p = true → phSrc p ∈ x.expect → phSrc p ≠ s.fabric.id →
    wholeMessage (mSegs p) (((x.parts ++ [(phSrc p, mSeg p, mSegs p, p.payload)]).filter (fun y => y.1 == phSrc p)).map
      (fun y => (y.2.1, y.2.2.2))) = some bytes → (∃ d ∈ x.expect, d ≠ phSrc p) →
    (listOf (phSrc p) bytes).status ≠ 0x03 → ∃ t y, exec (.result n) s = .next t ∧
      Tbl.look t.ralid.queries (mId p) = some y ∧ y.lists = x.lists ++ [listOf (phSrc p) bytes] ∧
      y.expect = x.expect.filter (· != phSrc p)) ∧
  (∀ (n : Fin 16) p r s, headParcel n.val 9 s = some p → matchRequest p s = some r → phRsp p = 0 →
    ∃ t, exec (.rsp n) s = .next t ∧ Tbl.look t.fabric.reqs (phTag p) = none ∧
      (portOf n.val t).inbox = (portOf n.val s).inbox.drop 1) ∧
  (∀ (n : Fin 16) p r s, headParcel n.val 9 s = some p → matchRequest p s = some r → phRsp p = 4 → r.resends < 2 →
    ∃ t f, exec (.rsp n) s = .next t ∧ Tbl.look t.fabric.reqs (phTag p) = some f ∧ f.resends = r.resends + 1) ∧
  (∀ (tag : BitVec 16) r s, Tbl.look s.fabric.reqs tag.toNat = some r → ∃ t, exec (.responseTimeout tag) s = .next t ∧
    Tbl.look t.fabric.reqs tag.toNat = none)

/-- Inserts, deletes, consolidation, PUBLISH, ATTACH, DETACH and the registers of Ralid (R280, R283 to R293, R298). It rests on
the model's choices in logs 24, 25, 26, 27, 52, 53. -/
def Obligations.RalidCommandsComplete : Prop :=
  (∀ tr buffer task i n s, readyTask tr 0x31 s = some task → s.ralid.index = some i → ralidServes s = true →
    vecBytes i.dims + sketchBytes i ≤ dLen0 task.desc → insertRoom s = true → i.lowestFree = some n →
    ∃ t r, exec (.insert tr buffer) s = .next t ∧ Tbl.look t.ralid.inserts n = some r ∧ r.tr = some tr ∧
      r.birth = openNow s ∧ r.near.length ≤ buildDegree s ∧ t.ralid.index = some (i.take n)) ∧
  (∀ n i r s, s.ralid.index = some i → Tbl.look s.ralid.inserts n = some r → r.vector = [] →
    ∃ t, exec (.insertComplete n) s = .next t ∧ Tbl.look t.ralid.inserts n = none ∧
      (∀ tr, r.tr = some tr → Tbl.look t.rings.tasks tr = none)) ∧
  (∀ tr task i s, readyTask tr 0x32 s = some task → dByNode task.desc = true → ralidServes s = true →
    s.ralid.index = some i → dNode task.desc < i.capacity → keyOf (dNode task.desc) s = dKey task.desc →
    i.has (dNode task.desc) = true → rDeath (recordOf (dNode task.desc) s) = noDeath → ∃ t k, exec (.deleteByNode tr) s = .next t ∧
      t.ralid.index = some k ∧ dNode task.desc ∈ k.dead ∧ Tbl.look t.rings.tasks tr = none) ∧
  (∀ tr task s, readyTask tr 0x32 s = some task → dByNode task.desc = false → dNode task.desc = 0 → ralidServes s = true →
    s.ralid.staged.length + ((s.ralid.publish.map (·.keys.length)).getD 0) < Config.stagedKeys →
    ∃ t, exec (.deleteByKey tr) s = .next t ∧ dKey task.desc ∈ t.ralid.staged ∧ Tbl.look t.rings.tasks tr = none) ∧
  (∀ tr task d s, readyTask tr 0x33 s = some task → d = task.desc → isCompl 24 (pEpoch d) (pEpochN d) = true →
    isCompl 24 (pFloor d) (pFloorN d) = true → ralidServes s = true → s.ralid.publish = none → s.ralid.attach = none →
    epochsOk s = true → pEpoch d = s.ralid.open_.v → s.ralid.floor.v ≤ pFloor d → pFloor d ≤ pEpoch d →
    (pCompact d = true → pFloor d = pEpoch d) → pEpoch d ≠ 0xFFFFFE → ∃ t p, exec (.publish tr) s = .next t ∧
      t.ralid.publish = some p ∧ p.tr = tr ∧ p.epoch = pEpoch d ∧ p.floor = pFloor d ∧ p.compact = pCompact d ∧
      p.keys = s.ralid.staged ∧ p.holds = false ∧ t.ralid.staged = []) ∧
  (∀ p i s, s.ralid.publish = some p → s.ralid.index = some i → p.holds = false →
    (∀ x ∈ s.ralid.inserts, p.epoch < x.2.birth) → epochsOk s = true → p.compact = true →
    ∃ t, exec .publishProceed s = .next t ∧ t.ralid.publish = some { p with keys := [], holds := true } ∧
      t.ralid.current = s.ralid.current) ∧
  (∀ p i s, s.ralid.publish = some p → s.ralid.index = some i → p.holds = false →
    (∀ x ∈ s.ralid.inserts, p.epoch < x.2.birth) → epochsOk s = true → p.compact = false →
    ∃ t, exec .publishProceed s = .next t ∧ t.ralid.publish = none ∧ t.ralid.current = Epoch.of p.epoch ∧
      t.ralid.open_ = Epoch.of (p.epoch + 1) ∧ t.ralid.floor = Epoch.of p.floor ∧ Tbl.look t.rings.tasks p.tr = none) ∧
  (∀ p i s, s.ralid.publish = some p → s.ralid.index = some i → p.holds = true →
    (∀ q ∈ s.ralid.queries, q.2.walker.isSome = true → p.epoch ≤ q.2.epoch.getD 0) →
    ∃ t, exec .publishApply s = .next t ∧ t.ralid.publish = none ∧ t.ralid.log = [] ∧ t.ralid.covered = none ∧
      t.ralid.current = Epoch.of p.epoch ∧ t.ralid.open_ = Epoch.of (p.epoch + 1) ∧ t.ralid.floor = Epoch.of p.floor ∧
      Tbl.look t.rings.tasks p.tr = none) ∧
  (∀ i ds s, s.ralid.index = some i → s.ralid.pass = some ds → ∃ t, exec .consolidationPassComplete s = .next t ∧
    t.ralid.pass = none ∧ t.ralid.covered = some ds) ∧
  (∀ ds s, s.ralid.pass = some ds → ∃ t, exec .consolidationLogFull s = .next t ∧ t.ralid.pass = none ∧
    t.ralid.logFull = true ∧ t.ralid.log = s.ralid.log) ∧
  (∀ tr task x bytes h s s1, readyTask tr 0x34 s = some task → s.ralid.index = none → s.ralid.attach = none →
    nsFind (dParam task.desc 324 320 + 1) s = some x → dParam task.desc 357 325 < x.blocks / 4 →
    readUnit (x.base + dParam task.desc 357 325) 0 s = (some bytes, s1) → h = leNat (bytes.take 64) →
    isCompl 24 (hEpoch h) (hEpochN h) = true → headerOk h (x.blocks / 4 - dParam task.desc 357 325) = true →
    hCount h ≤ nodeCapacity (hSketchSel h) s1 →
    (hCount h + vecsPerUnit (hDims h) - 1) / vecsPerUnit (hDims h)
      ≤ ((nsFind (hVecNs h + 1) s1).map (fun n => n.blocks / 4)).getD 0 →
    (nodeCapacity (hSketchSel h) s1 + 4 * 2 ^ 20 - 1) / (4 * 2 ^ 20) + 64 ≤ bits s1.ralid.logReg.toNat 63 48 →
    ∃ t, exec (.attach tr) s = .next t ∧
      t.ralid.attach = some { tr := tr, header := h, base := x.base + dParam task.desc 357 325 } ∧ t.ralid.index = none) ∧
  (∀ a s s1, s.ralid.attach = some a → copyImage a (setRalid { s.ralid with attach := none } s) = (true, s1) →
    ∃ t i, exec (.attachLoadComplete .ok) s = .next t ∧ t.ralid.attach = none ∧ t.ralid.index = some i ∧
      i.dims = hDims a.header ∧ i.sketchSel = hSketchSel a.header ∧ i.entry = hEntry a.header ∧ i.top = hCount a.header ∧
      i.vecNs = hVecNs a.header + 1 ∧ t.ralid.current = Epoch.of (hEpoch a.header) ∧
      t.ralid.open_ = Epoch.of (hEpoch a.header + 1) ∧ t.ralid.floor = Epoch.of (hEpoch a.header) ∧
      Tbl.look t.rings.tasks a.tr = none) ∧
  (∀ r a s, s.ralid.attach = some a → r ≠ .ok → ∃ t, exec (.attachLoadComplete r) s = .next t ∧ t.ralid.attach = none ∧
    t.ralid.index = s.ralid.index ∧ Tbl.look t.rings.tasks a.tr = none) ∧
  (∀ tr task s, readyTask tr 0x35 s = some task → ralidServes s = true → ∃ t, exec (.detach tr) s = .next t ∧
    t.ralid = { s.ralid with detach := some tr }) ∧
  (∀ tr s, s.ralid.detach = some tr → ralidBusy s = false → s.ralid.publish = none → ∃ t, exec .detachComplete s = .next t ∧
    t.ralid.index = none ∧ t.ralid.detach = none ∧ Tbl.look t.rings.tasks tr = none) ∧
  (∀ v s, regWorks 7 false s = true → s.ralid.index = none → ∃ t, exec (.ralLogWrite v) s = .next t ∧
    t.ralid = { s.ralid with logReg := v &&& 0xFFFF00FFFFFFFFFF#64 }) ∧
  (∀ v s, regWorks 7 false s = true → s.ralid.index = none → ∃ t, exec (.ralParamWrite v) s = .next t ∧
    t.ralid = { s.ralid with paramReg := v &&& 0xFFFFFF0000000000#64 }) ∧
  (∀ v s, regWorks 7 false s = true → ∃ t, exec (.ralShardsWrite v) s = .next t ∧
    t.ralid = { s.ralid with shardsReg := v &&& 0x001FFFFFFFFFFFFF#64 })

/-- Cellar Porters (R181 to R185, R355, R452): the porter issues the request that is next, a die operation's end gives it its
result, and the unit moves. It rests on the model's choices in logs 48, 49. -/
def Obligations.CellarCommandsComplete : Prop :=
  (∀ (p : Fin 32) c n r s, nextClass p.val s = some c → firstWaiting p.val c s = some (n, r) →
    ∃ t x, exec (.cellarUnitIssue p) s = .next t ∧ Tbl.look t.mem.cellar n = some x ∧ x.issued = true ∧
      t.mem.stacked = s.mem.stacked) ∧
  (∀ n r tile inb entry addr fua sb off o s, Tbl.look s.mem.cellar n = some r → r.place = .flash sb off → r.issued = true →
    r.result = none → r.for_ = .slot tile inb entry addr fua → o.busError = false → ∃ t, exec (.nandReadComplete n o) s = .next t ∧
      Tbl.look t.mem.cellar n = some { r with result := some (.read (lostMask o.steps)) }) ∧
  (∀ n r tile inb entry addr fua sb off o s, Tbl.look s.mem.cellar n = some r → r.place = .flash sb off → r.issued = true →
    r.result = none → r.for_ = .slot tile inb entry addr fua → o.busError = true → ∃ t, exec (.nandReadComplete n o) s = .next t ∧
      Tbl.look t.mem.cellar n = some (if r.again then { r with result := some .busError }
        else { r with issued := false, again := true })) ∧
  (∀ n r tr sb off o s, n < s.mem.cellarNext → Tbl.look s.mem.cellar n = some r → r.place = .flash sb off → r.issued = true →
    r.result = none → r.for_ = .command tr → ∃ t, exec (.nandReadComplete n o) s = .next t ∧ Tbl.look t.mem.cellar n = none) ∧
  (∀ n r tile entry addr fua lost bytes s s1, Tbl.look s.mem.cellar n = some r →
    r.for_ = .slot tile true entry addr fua → r.result = some (.read lost) → (hostClear true [(addr, 16384)] s).1 = true →
    readUnit r.index lost s = (some bytes, s1) → addr % 8 = 0 → bytes.length % 8 = 0 →
    ∃ t, exec (.cellarUnitComplete n) s = .next t ∧ Mem.read zeroByte t.mem.stacked addr bytes.length = bytes ∧
      Tbl.look t.mem.cellar n = none) ∧
  (∀ n r q node s, Tbl.look s.mem.cellar n = some r → r.for_ = .rerank q node → r.issued = true →
    ∃ t, exec (.cellarRequestDeadline n) s = .next t ∧ Tbl.look t.mem.cellar n = some { r with late := true }) ∧
  (∀ n r q node s, n < s.mem.cellarNext → Tbl.look s.mem.cellar n = some r → r.for_ = .rerank q node → r.issued = false →
    ∃ t, exec (.cellarRequestDeadline n) s = .next t ∧ Tbl.look t.mem.cellar n = none)

/-- The life of a fabric port (R301 to R305, R323): enabling, training through SIGNAL, EQUALISE, ALIGN and EXCHANGE to UP or to
the wait after a failure, retraining on fewer quads, and going down. It rests on the model's choices in log 47. -/
def Obligations.PortCommandsComplete : Prop :=
  (∀ (n : Fin 16) s, regWorks 8 false s = true → fabricReleased s = true → (portOf n.val s).state = 0 →
    ∃ t, exec (.portEnable n) s = .next t ∧
      portOf n.val t = { portOf n.val s with enable := true, state := 1, failLogged := false }) ∧
  (∀ (n : Fin 16) s, regWorks 8 false s = true → portLinked (portOf n.val s) = false → ∃ t, exec (.portDisable n) s = .next t ∧
    portOf n.val t = { portOf n.val s with enable := false, state := 0, laserWait := false }) ∧
  (∀ (n : Fin 16) s, regWorks 8 false s = true → portLinked (portOf n.val s) = true → ∃ t, exec (.portDisable n) s = .next t ∧
    (portOf n.val t).state = 0 ∧ (portOf n.val t).enable = false ∧ (portOf n.val t).replay = []) ∧
  (∀ (n : Fin 16) s, regWorks 8 false s = true → fabricReleased s = true → (portOf n.val s).enable = true →
    (portOf n.val s).laserWait = false → ∃ t, exec (.portRetrain n) s = .next t ∧
      portOf n.val t = { portOf n.val s with state := 1, lanes := 3, quads := 0 }) ∧
  (∀ (n : Fin 16) s, (portOf n.val s).state = 1 → ∃ t, exec (.signalDetected n) s = .next t ∧
    portOf n.val t = { portOf n.val s with state := 2 }) ∧
  (∀ (n : Fin 16) s, (portOf n.val s).state = 2 → ∃ t, exec (.equaliseComplete n) s = .next t ∧
    portOf n.val t = { portOf n.val s with state := 3 }) ∧
  (∀ (n : Fin 16) h s, (portOf n.val s).state = 3 → ∃ t, exec (.alignComplete n h) s = .next t ∧
    portOf n.val t = { portOf n.val s with state := 4, healthy := h.toNat }) ∧
  (∀ (n : Fin 16) (p : PeerInfo) set s, (portOf n.val s).state = 4 → p.dev.toNat ≠ s.fabric.id →
    set = laneSet (portOf n.val s).healthy p.quads.toNat (min (laneCap (portOf n.val s).maxLanes) (laneCap p.maxLanes.toNat)) →
    2 ≤ set.length → ∃ t, exec (.linkExchangeComplete n p) s = .next t ∧ (portOf n.val t).state = 5 ∧
      (portOf n.val t).lanes = lanesCode set.length ∧ (∀ i < 4, bit (portOf n.val t).quads i = decide (i ∈ set)) ∧
      (portOf n.val t).peerValid = true ∧ (portOf n.val t).peerDev = p.dev.toNat ∧ (portOf n.val t).peerPort = p.port.toNat ∧
      (portOf n.val t).attempts = 0) ∧
  (∀ (n : Fin 16) (p : PeerInfo) s, (portOf n.val s).state = 4 →
    (p.dev.toNat = s.fabric.id ∨ (laneSet (portOf n.val s).healthy p.quads.toNat
      (min (laneCap (portOf n.val s).maxLanes) (laneCap p.maxLanes.toNat))).length < 2) →
    ∃ t, exec (.linkExchangeComplete n p) s = .next t ∧ (portOf n.val t).state = 6 ∧
      (portOf n.val t).attempts = satAdd 8 (portOf n.val s).attempts 1) ∧
  (∀ (n : Fin 16) s, 1 ≤ (portOf n.val s).state → (portOf n.val s).state ≤ 4 → ∃ t, exec (.trainingStateTimeout n) s = .next t ∧
    portOf n.val t
      = { portOf n.val s with state := 6, attempts := satAdd 8 (portOf n.val s).attempts 1, failLogged := true }) ∧
  (∀ (n : Fin 16) s, (portOf n.val s).state = 6 → (portOf n.val s).enable = true → (portOf n.val s).laserWait = false →
    ∃ t, exec (.trainingRetryWaitExpiry n) s = .next t ∧ portOf n.val t = { portOf n.val s with state := 1 }) ∧
  (∀ (n : Fin 16) (k : Fin 4) s, (portOf n.val s).state = 5 → bit (portOf n.val s).quads k.val = true →
    ∃ t, exec (.quadFail n k) s = .next t ∧
      portOf n.val t = { portOf n.val s with state := 7, healthy := (portOf n.val s).quads - 2 ^ k.val }) ∧
  (∀ (n : Fin 16) (k : Fin 4) s, (portOf n.val s).state = 7 → bit (portOf n.val s).quads k.val = true →
    ∃ t, exec (.quadFail n k) s = .next t ∧ (portOf n.val t).state = 7 ∧
      (bit (portOf n.val s).healthy k.val = true → (portOf n.val t).healthy = (portOf n.val s).healthy - 2 ^ k.val)) ∧
  (∀ (n : Fin 16) s, (portOf n.val s).state = 7 → ∃ t, exec (.fastRetrainComplete n none) s = .next t ∧
    (portOf n.val t).state = (if (portOf n.val s).enable then 1 else 0) ∧ (portOf n.val t).quads = 0) ∧
  (∀ (n : Fin 16) (p : PeerInfo) mine set s, (portOf n.val s).state = 7 →
    mine = (List.range 4).foldl (fun m i => if bit (portOf n.val s).quads i && bit (portOf n.val s).healthy i then m + 2 ^ i else m) 0 →
    set = laneSet mine p.quads.toNat (min (laneCap (portOf n.val s).maxLanes) (laneCap p.maxLanes.toNat)) → 2 ≤ set.length →
    ∃ t, exec (.fastRetrainComplete n (some p)) s = .next t ∧ (portOf n.val t).state = 5 ∧
      (portOf n.val t).lanes = lanesCode set.length ∧ (∀ i < 4, bit (portOf n.val t).quads i = decide (i ∈ set)) ∧
      (portOf n.val t).replay = (portOf n.val s).replay) ∧
  (∀ (n : Fin 16) s, portLinked (portOf n.val s) = true → ∃ t, exec (.peerTransmitStop n) s = .next t ∧
    (portOf n.val t).state = (if (portOf n.val s).enable then 1 else 0) ∧ (portOf n.val t).replay = [] ∧
    (portOf n.val t).txSeq = 0 ∧ (portOf n.val t).rxSeq = 0)

/-- Flits and the fabric's registers (R306 to R309, R312, R313). A flit in sequence is counted and its parcels are taken apart;
any other data flit asks once for a replay; acknowledgements empty the replay buffer; a flit goes out for one credit and
stays for replay. It rests on the model's choices in logs 22, 47. -/
def Obligations.FlitCommandsComplete : Prop :=
  (∀ (n : Fin 16) f s, (portOf n.val s).state = 5 → f.fecOk = true → badWords f = 0 → fhKind (flitHeader f) = 1 →
    fhVc (flitHeader f) ≠ 3 → fhSeq (flitHeader f) = (portOf n.val s).rxSeq → ∃ t, exec (.dataFlitReceive n f) s = .next t ∧
      (portOf n.val t).rxSeq = ((portOf n.val s).rxSeq + 1) % 4096 ∧ (portOf n.val t).rxWait = false ∧
      (portOf n.val t).asm (fhVc (flitHeader f)) = (feed ((f.words.drop 1).map (fun w => w.extractLsb' 0 64))
        (if fhFirst (flitHeader f) = 1 then [] else (portOf n.val s).asm (fhVc (flitHeader f))) []).1) ∧
  (∀ (n : Fin 16) f s, (portOf n.val s).state = 5 → (portOf n.val s).rxWait = false →
    (f.fecOk = false ∨ badWords f ≠ 0 ∨ fhKind (flitHeader f) ≠ 1 ∨ fhVc (flitHeader f) = 3 ∨
      fhSeq (flitHeader f) ≠ (portOf n.val s).rxSeq) →
    ∃ t, exec (.dataFlitReceive n f) s = .next t ∧ (portOf n.val t).rxSeq = (portOf n.val s).rxSeq ∧
      (portOf n.val t).rxWait = true ∧ (portOf n.val t).inbox = (portOf n.val s).inbox ∧
      (portOf n.val t).lastSent = encodeWords (mkFlitHeader (portOf n.val s) (portOf n.val s).txSeq 2 0 0) []) ∧
  (∀ (n : Fin 16) f s, (portOf n.val s).state = 5 → f.fecOk = true → w72Syndrome (flitWord f 0) = 0 →
    fhKind (flitHeader f) = 0 → ∃ t, exec (.idleFlitReceive n f) s = .next t ∧
      (∀ x ∈ (portOf n.val t).replay, x ∈ (portOf n.val s).replay ∧ 2048 ≤ (fhAck (flitHeader f) + 4096 - x.seq) % 4096) ∧
      (portOf n.val t).txReq.credits = (portOf n.val s).txReq.credits + bits (flitHeader f) 29 20 ∧
      (portOf n.val t).txRsp.credits = (portOf n.val s).txRsp.credits + bits (flitHeader f) 19 10 ∧
      (portOf n.val t).txRed.credits = (portOf n.val s).txRed.credits + bits (flitHeader f) 9 0) ∧
  (∀ (n : Fin 16) f x rest s, (portOf n.val s).state = 5 → f.fecOk = true → w72Syndrome (flitWord f 0) = 0 →
    fhKind (flitHeader f) = 2 → ((portOf n.val s).acked (fhAck (flitHeader f))).replay = x :: rest →
    ∃ t, exec (.replayRequestReceive n f) s = .next t ∧ (portOf n.val t).lastSent = x.words ∧
      (portOf n.val t).state = (if ((portOf n.val s).acked (fhAck (flitHeader f))).replays = 7 then 7 else 5)) ∧
  (∀ (n : Fin 16) s, (portOf n.val s).state = 5 → 0 < (portOf n.val s).rxSince → ∃ t, exec (.ackTimer n) s = .next t ∧
    (portOf n.val t).rxSince = 0 ∧
    (portOf n.val t).lastSent = encodeWords (mkFlitHeader (portOf n.val s) (portOf n.val s).txSeq 0 0 0) []) ∧
  (∀ (n : Fin 16) (v : Fin 3) s, (portOf n.val s).state = 5 → 0 < ((portOf n.val s).tx v.val).credits →
    (((portOf n.val s).tx v.val).queue ≠ [] ∨ ((portOf n.val s).tx v.val).rest ≠ []) →
    (portOf n.val s).replay.length < Config.replayFlits → ∃ t, exec (.flitSend n v) s = .next t ∧
      (portOf n.val t).txSeq = ((portOf n.val s).txSeq + 1) % 4096 ∧
      ((portOf n.val t).tx v.val).credits = ((portOf n.val s).tx v.val).credits - 1 ∧
      (∃ x, (portOf n.val t).replay = (portOf n.val s).replay ++ [x] ∧ x.seq = (portOf n.val s).txSeq ∧
        x.words = (portOf n.val t).lastSent)) ∧
  (∀ v s, regWorks 8 false s = true → (∀ p < 16, (portOf p s).state = 0) → ∃ t, exec (.kybDeviceIdWrite v) s = .next t ∧
    t.fabric = { s.fabric with id := v.toNat % 4096, refused := s.fabric.refused && !bit v.toNat 31 }) ∧
  (∀ v p s, regWorks 8 false s = true → p < 16 → (portOf p s).state ≠ 0 → ∃ t, exec (.kybDeviceIdWrite v) s = .next t ∧
    t.fabric = { s.fabric with refused := true }) ∧
  (∀ (d : BitVec 12) v s, regWorks 8 false s = true → ∃ t, exec (.kybRouteWrite d v) s = .next t ∧
    routeOf d.toNat t = (v &&& 0xFFC1FFFFFF000000#64).toNat ∧ ∀ e, e ≠ d.toNat → routeOf e t = routeOf e s)

/-- Parcels at their destination (R141, R188, R317 to R321, R326 to R328): a data request that passes the checks of R319 is
performed and answered; a FLAG_SET lands as the job's state says; partials are held, combined in order of device ID, and
their result is written and passed on; GET_DATA fills the tile memory of the slot that asked. It rests on the model's
choices in logs 21, 23, 38. -/
def Obligations.ParcelCommandsComplete : Prop :=
  (∀ (n : Fin 16) p e j s, headParcel n.val 1 s = some p → commonFieldsOk p = true → phCtx p ≠ 0 → phWords p ≠ 0 →
    phAddr p % 64 = 0 → phSpec p = 0 → windowJob (phCtx p) s = some (e, j) →
    inJobArea (phAddr p) (8 * p.payload.length) s = true → parcelAllowed e j true (phAddr p) (8 * p.payload.length) s = true →
    (hostClear true [(phAddr p, 8 * p.payload.length)] s).1 = true → ∃ t, exec (.put n) s = .next t ∧
      Mem.read zeroByte t.mem.stacked (phAddr p) (8 * p.payload.length) = bytesOf p.payload ∧
      (∀ a, (a < phAddr p ∨ phAddr p + 8 * p.payload.length ≤ a) →
        Mem.byte zeroByte t.mem.stacked a = Mem.byte zeroByte s.mem.stacked a) ∧
      (portOf n.val t).inbox = (portOf n.val s).inbox.drop 1) ∧
  (∀ (n : Fin 16) p e j b s s1, headParcel n.val 2 s = some p → commonFieldsOk p = true → phCtx p ≠ 0 → phWords p = 0 →
    1 ≤ phBits p 141 132 → phBits p 141 132 ≤ 512 → phBits p 131 72 = 0 → phAddr p % 64 = 0 →
    windowJob (phCtx p) s = some (e, j) → inJobArea (phAddr p) (8 * phBits p 141 132) s = true →
    parcelAllowed e j false (phAddr p) (8 * phBits p 141 132) s = true →
    (hostClear false [(phAddr p, 8 * phBits p 141 132)] s).1 = true →
    readStacked (phAddr p) (8 * phBits p 141 132) (dropParcel n.val s) = (.ok b, s1) →
    exec (.get n) s = .next (sendParcel (mkParcel 0xA (phSrc p) 0 false 0 (phTag p) 0 0 0 (wordsOf b) s1) s1)) ∧
  (∀ (n : Fin 16) p e j b s s1, headParcel n.val 3 s = some p → commonFieldsOk p = true → phCtx p ≠ 0 → phWords p ≠ 0 →
    phAddr p % 64 = 0 → phSpec p = 0 → windowJob (phCtx p) s = some (e, j) →
    inJobArea (phAddr p) (8 * p.payload.length) s = true → parcelAllowed e j true (phAddr p) (8 * p.payload.length) s = true →
    (hostClear true [(phAddr p, 8 * p.payload.length)] s).1 = true →
    readStacked (phAddr p) (8 * p.payload.length) (dropParcel n.val s) = (.ok b, s1) → ∃ t, exec (.add n) s = .next t ∧
      Mem.read zeroByte t.mem.stacked (phAddr p) (8 * p.payload.length) = bytesOf (sumWords (phFmt p) (wordsOf b) p.payload) ∧
      (∀ a, (a < phAddr p ∨ phAddr p + 8 * p.payload.length ≤ a) →
        Mem.byte zeroByte t.mem.stacked a = Mem.byte zeroByte s.mem.stacked a)) ∧
  (∀ (n : Fin 16) p e j s s1, headParcel n.val 4 s = some p → commonFieldsOk p = true → phCtx p ≠ 0 → phWords p = 0 →
    phBits p 128 125 ≠ 0 → phBits p 124 72 = 0 → windowJob (phCtx p) s = some (e, j) →
    flagLands e j { tile := phBits p 141 135, flag := phBits p 134 129, n := phBits p 128 125 } (dropParcel n.val s) = some s1 →
    exec (.flagSet n) s = .next (answer p 0 s1)) ∧
  (∀ (n : Fin 16) p e j s, headParcel n.val 5 s = some p → reduceFieldsOk p = true → windowJob (phCtx p) s = some (e, j) →
    Tbl.look s.fabric.reductions (reduceKey (phCtx p) (rpId p)) = none → ∃ t, exec (.reduceUp n) s = .next t ∧
      heldOf (reduceKey (phCtx p) (rpId p)) t = heldOf (reduceKey (phCtx p) (rpId p)) s ++
        [{ src := phSrc p, root := rpRoot p, fmt := phFmt p, segment := rpSegment p, payload := p.payload }]) ∧
  (∀ (n : Fin 16) p e j r s, headParcel n.val 5 s = some p → reduceFieldsOk p = true → windowJob (phCtx p) s = some (e, j) →
    Tbl.look s.fabric.reductions (reduceKey (phCtx p) (rpId p)) = some r →
    heldBad r (reduceKey (phCtx p) (rpId p)) { s with fabric := { s.fabric with
      held := Tbl.put s.fabric.held (reduceKey (phCtx p) (rpId p)) (heldOf (reduceKey (phCtx p) (rpId p)) s ++
        [{ src := phSrc p, root := rpRoot p, fmt := phFmt p, segment := rpSegment p, payload := p.payload }]) } } = false →
    ∃ t, exec (.reduceUp n) s = .next t ∧ heldOf (reduceKey (phCtx p) (rpId p)) t = heldOf (reduceKey (phCtx p) (rpId p)) s ++
        [{ src := phSrc p, root := rpRoot p, fmt := phFmt p, segment := rpSegment p, payload := p.payload }]) ∧
  (∀ (c i : BitVec 12) seg r kids s, Tbl.look s.fabric.reductions (reduceKey c.toNat i.toNat) = some r →
    kids = segmentHeld (reduceKey c.toNat i.toNat) seg s → kids.length = childrenOf r.root s → seg < r.segments →
    seg ∉ r.combined → r.root ≠ s.fabric.id → ∃ t k f, exec (.reduceSegmentCombine c i seg) s = .next t ∧
      Tbl.look t.fabric.reductions (reduceKey c.toNat i.toNat) = some { r with combined := r.combined ++ [seg] } ∧
      Tbl.look t.fabric.reqs k = some f ∧ f.parcel = mkParcel 5 (rParent (routeOf r.root s)) r.ctx false r.fmt k 0
        (reduceSpec r.rid r.root seg) 0
        (combine r.fmt ((s.fabric.id, r.own seg) :: kids.map (fun c => (c.src, c.payload)))) s) ∧
  (∀ (c i : BitVec 12) seg r kids w a s, Tbl.look s.fabric.reductions (reduceKey c.toNat i.toNat) = some r →
    kids = segmentHeld (reduceKey c.toNat i.toNat) seg s → kids.length = childrenOf r.root s → seg < r.segments →
    seg ∉ r.combined → r.root = s.fabric.id → r.dest = some a → a % 8 = 0 →
    w = combine r.fmt ((s.fabric.id, r.own seg) :: kids.map (fun c => (c.src, c.payload))) →
    (hostClear true [(a + 4096 * seg, 8 * w.length)] s).1 = true → resultAllowed r seg (8 * w.length) s = true →
    ∃ t, exec (.reduceSegmentCombine c i seg) s = .next t ∧
      Mem.read zeroByte t.mem.stacked (a + 4096 * seg) (8 * w.length) = bytesOf w) ∧
  (∀ (n : Fin 16) p e j r a s, headParcel n.val 6 s = some p → reduceFieldsOk p = true → windowJob (phCtx p) s = some (e, j) →
    Tbl.look s.fabric.reductions (reduceKey (phCtx p) (rpId p)) = some r → rpSegment p ∈ r.combined →
    rpSegment p ∉ r.written → r.root ≠ s.fabric.id → phFmt p = r.fmt → p.payload.length = (r.own (rpSegment p)).length →
    r.dest = some a → a % 8 = 0 → (hostClear true [(a + 4096 * rpSegment p, 8 * p.payload.length)] s).1 = true →
    resultAllowed r (rpSegment p) (8 * p.payload.length) s = true → ∃ t, exec (.reduceDown n) s = .next t ∧
      Mem.read zeroByte t.mem.stacked (a + 4096 * rpSegment p) (8 * p.payload.length) = bytesOf p.payload) ∧
  (∀ (n : Fin 16) p r tile entry a s, headParcel n.val 0xA s = some p → matchRequest p s = some r →
    r.for_ = .slot tile true entry a → p.payload.length = phBits r.parcel 141 132 → ∃ t, exec (.getData n) s = .next t ∧
      tileRead (tileOf tile t) a (8 * p.payload.length) = bytesOf p.payload ∧
      Tbl.look t.fabric.reqs (phTag p) = none ∧ (portOf n.val t).inbox = (portOf n.val s).inbox.drop 1)

/-- The media's programs and erases and the background work on them (R342 to R352, R356, R358 to R360, R362, R340): a programmed
row puts its units on the media, an erase leaves the superblock empty and worn, a slot's unit enters its stream, folding,
collection and refresh copy the next valid unit, and the Ledger's segments, clock and pool registers follow. It rests on the
model's choices in logs 18, 19, 49, 50. -/
def Obligations.FlashCommandsComplete : Prop :=
  (∀ sb dur b s0 s, s = enterTrims s0 → b = sbOf sb s → b.state = .open_ → b.row ≠ [] →
    (rowLen sb b ≤ b.row.length ∨ (b.slc = true ∧ rowWanted b s = true)) →
    (∀ i u, b.row[i]? = some u → u.offset = b.next + i) → ∃ t, exec (.nandProgramComplete sb 0#32 dur) s0 = .next t ∧
      ∀ u ∈ b.row, Tbl.look t.flash.media (mediaKey sb u.offset) = some u.unit) ∧
  (∀ sb (failed : BitVec 32) dur b s0 s, s = enterTrims s0 → b = sbOf sb s → b.state = .open_ → b.row ≠ [] →
    (rowLen sb b ≤ b.row.length ∨ (b.slc = true ∧ rowWanted b s = true)) → failed.toNat ≠ 0 →
    ∃ t, exec (.nandProgramComplete sb failed dur) s0 = .next t ∧ (sbOf sb t).state ≠ .open_ ∧
      t.flash.media = s0.flash.media ∧ ∀ k < 32, bit failed.toNat k = true → bit (sbOf sb t).badMap k = true) ∧
  (∀ sb failed dur s, (sbOf sb s).erasing = true → ∃ t, exec (.nandEraseComplete sb failed dur) s = .next t ∧
    (sbOf sb t).erasing = false ∧ ((sbOf sb t).state = .erased ∨ (sbOf sb t).state = .retired) ∧
    (sbOf sb t).erases = satAdd 16 (sbOf sb s).erases (if (sbOf sb s).slc then 1 else 20) ∧
    ∀ off < 2 ^ 17, Tbl.look t.flash.media (mediaKey sb off) = none) ∧
  (∀ (c : Fin 64) (d : Fin 8) s, c.val * 8 + d.val ∉ s.flash.failedDies → ∃ t, exec (.dieStatusTimeout c d) s = .next t ∧
    t.flash.failedDies = s.flash.failedDies ++ [c.val * 8 + d.val]) ∧
  (∀ n (lost : BitVec 4) k s, slotAt n s = some k → k.started = false → k.lost = 0 →
    (∀ p ∈ s.flash.slots, p.2.started = false → p.2.lost = 0 → slotStream p.2 s = slotStream k s → k.writeSeq ≤ p.2.writeSeq) →
    s.mem.werr = [] → s.ecc.cells = [] →
    (∀ b < 4, bit k.mask b = false → blockPlace s b (s.flash.slots.length + 2) k.prev ≠ .lost ∧
      ∀ sb off, blockPlace s b (s.flash.slots.length + 2) k.prev = .flash sb off → bit lost.toNat b = false) →
    (∀ u, (placeUnit (slotStream k s) u (.slot n) s).isSome = true) → ∃ t q, exec (.writeBufferLeave n lost) s = .next t ∧
      slotAt n t = some q ∧ q = { k with started := true }) ∧
  (∀ n (lost : BitVec 4) k b sb off s, slotAt n s = some k → k.started = false → k.lost = 0 →
    (∀ p ∈ s.flash.slots, p.2.started = false → p.2.lost = 0 → slotStream p.2 s = slotStream k s → k.writeSeq ≤ p.2.writeSeq) →
    b < 4 → bit k.mask b = false → blockPlace s b (s.flash.slots.length + 2) k.prev = .flash sb off → bit lost.toNat b = true →
    ∃ t q, exec (.writeBufferLeave n lost) s = .next t ∧ slotAt n t = some q ∧ q.started = false ∧ bit q.lost b = true) ∧
  (∀ sb off i u n s s1,
    s.flash.foldStart < (s.flash.sbs.filter (fun p => p.2.pool == 4 && p.2.state == .closed)).length →
    backgroundRuns s = true → foldSource s = some sb → nextValid sb s = some (off, i) →
    Tbl.look s.flash.media (mediaKey sb off) = some u → placeUnit (.fold u.pool) u (.copy sb off) s = some (n, s1) →
    ∃ t v, exec .foldStart s = .next t ∧ v ∈ (sbOf n t).row ∧ v.source = .copy sb off ∧ v.unit = u ∧
      t.flash.media = s.flash.media) ∧
  (∀ p s, freeCount s < s.flash.gcStart → backgroundRuns s = true →
    s.flash.sbs.find? (fun p => p.2.state == .collecting && !p.2.due && (nextValid p.1 s).isSome) = some p →
    exec .gcVictimSelect s = .next (relocateNext p.1 6 s)) ∧
  (∀ n s, freeCount s < s.flash.gcStart → backgroundRuns s = true →
    s.flash.sbs.find? (fun p => p.2.state == .collecting && !p.2.due && (nextValid p.1 s).isSome) = none →
    s.flash.dueList = [] → gcVictim s = some n →
    (nextValid n (modSb n (fun b => { b with state := .collecting }) s)).isSome = true →
    ∃ t, exec .gcVictimSelect s = .next t ∧ (sbOf n t).state = .collecting ∧ t.flash.media = s.flash.media) ∧
  (∀ n rest s, backgroundRuns s = true → s.flash.dueList = n :: rest → (sbOf n s).state = .closed →
    ∃ t, exec .refreshRelocate s = .next t ∧ (sbOf n t).state ≠ .closed ∧ t.flash.media = s.flash.media) ∧
  (∀ sb s, (sbOf sb s).state = .free → (sbOf sb s).erasing = false → (sbOf sb s).corrupt = false → (sbOf sb s).heldBy = [] →
    (sbOf sb s).segs = [] → erasedCount s < 64 → neededByMerge sb s = false →
    (s.power.step ≠ 4 ∧ s.host.pstate ≠ 2 ∨ s.flash.urgent = true) → ∃ t, exec (.backgroundErase sb) s = .next t ∧
      sbOf sb t = { sbOf sb s with erasing := true } ∧ t.flash.media = s.flash.media) ∧
  (∀ (g : Fin 8192) s, g.val ∈ s.flash.dirty → ∃ t, exec (.ledgerSegmentWrite g) s = .next t ∧ g.val ∉ t.flash.dirty ∧
    Tbl.look t.flash.segSeq g.val = some s.flash.writeSeq ∧ t.flash.checkpoint = s.flash.sbs ∧
    t.flash.ledger = s.flash.ledger) ∧
  (∀ s, ∃ t, exec .ldgClockMinuteTick s = .next t ∧ t.flash.minute = (s.flash.minute + 1) % 2 ^ 32 ∧
    (((s.flash.minute + 1) % 2 ^ 32) % 10 = 0 → t.flash.clockSaved = (s.flash.minute + 1) % 2 ^ 32)) ∧
  (∀ v s, regWorks 4 false s = true → ∃ t, exec (.ldgClockWrite v) s = .next t ∧
    t.flash = { s.flash with minute := max s.flash.minute v.toNat }) ∧
  (∀ (p : Fin 3) v s, regWorks 4 false s = true →
    ((∀ x ∈ s.spaces, x.2.pool ≠ p.val + 1) ∨ bit v.toNat 31 = poolSlc (p.val + 1) s) →
    ∃ t, exec (.ldgPoolWrite p v) s = .next t ∧ poolReg (p.val + 1) t
      = { slc := bit v.toNat 31, refreshEn := bit v.toNat 30, readLimit := bits v.toNat 29 16, ageDays := bits v.toNat 11 0 } ∧
      t.flash.refused = s.flash.refused) ∧
  (∀ (p : Fin 3) v x s, regWorks 4 false s = true → x ∈ s.spaces → x.2.pool = p.val + 1 →
    bit v.toNat 31 ≠ poolSlc (p.val + 1) s → ∃ t, exec (.ldgPoolWrite p v) s = .next t ∧
      (poolReg (p.val + 1) t).slc = poolSlc (p.val + 1) s ∧ t.flash.refused = true)

/-- The storage commands (R426 to R440): a namespace is made, reported and deleted; a READ or VERIFY delivers what needs no
flash at once and asks for the rest; a WRITE puts its blocks into write-buffer slots, a TRIM unmaps; FLUSH waits for what is
not durable; a command that must wait keeps its entry and goes on when it may. It rests on the model's choices in log 48. -/
def Obligations.StorageCommandsComplete : Prop :=
  (∀ tr task base s, readyTask tr 0x10 s = some task → Tbl.look s.spaces (dParam task.desc 327 320) = none →
    (s.spaces.foldl (fun n p => n + nsCharge p.2.blocks p.2.pool s) 0
      + nsCharge (dParam task.desc 375 328) (dParam task.desc 378 376) s) * 4096 ≤ Config.userCapacity →
    ledgerFit (dParam task.desc 375 328 / 4) s = some base → ∃ t, exec (.nsCreate tr) s = .next t ∧
      Tbl.look t.spaces (dParam task.desc 327 320)
        = some { blocks := dParam task.desc 375 328, pool := dParam task.desc 378 376, base := base } ∧
      Tbl.look t.rings.tasks tr = none) ∧
  (∀ tr task x s, readyTask tr 0x11 s = some task → nsFind (dParam task.desc 327 320) s = some x →
    nsHeld (dParam task.desc 327 320) s = false → nsServed (dParam task.desc 327 320) s = false →
    ∃ t, exec (.nsDelete tr) s = .next t ∧ Tbl.look t.spaces (dParam task.desc 327 320) = none ∧
      (∀ i, inSpace x i = true → ledgerOf i t = .unmapped) ∧ Tbl.look t.rings.tasks tr = none) ∧
  (∀ tr task x s, readyTask tr 0x12 s = some task → nsFind (dParam task.desc 327 320) s = some x →
    exec (.nsQuery tr) s = .next (complete tr 0 0 0
      (hostWrite (dPtr0 task.desc) (leBytes 64 (nsRecord (dParam task.desc 327 320) x s)) s))) ∧
  (∀ tr task x n s s1, DataStarts tr 0x20 task x n s s1 →
    (∀ u ∈ unitsOf (dataOp tr 0x20 task.desc []), flashNeed (x.base + u) (blocksIn (dataOp tr 0x20 task.desc []) u) s = none) →
    ∃ t, exec (.read tr) s = .next t ∧ Tbl.look t.rings.tasks tr = none ∧ Tbl.look t.flash.ops tr = none) ∧
  (∀ tr task x n u p s s1, DataStarts tr 0x20 task x n s s1 → u ∈ unitsOf (dataOp tr 0x20 task.desc []) →
    flashNeed (x.base + u) (blocksIn (dataOp tr 0x20 task.desc []) u) s = some p → ∃ t r o, exec (.read tr) s = .next t ∧
      Tbl.look t.mem.cellar s.mem.cellarNext = some r ∧ r.cls = 3 ∧ r.for_ = .command tr ∧ r.issued = false ∧
      Tbl.look t.flash.ops tr = some o ∧ o.started = true ∧ 0 < o.reads) ∧
  (∀ tr task x n s s1, DataStarts tr 0x24 task x n s s1 →
    (∀ u ∈ unitsOf (dataOp tr 0x24 task.desc []), flashNeed (x.base + u) (blocksIn (dataOp tr 0x24 task.desc []) u) s = none) →
    ∃ t, exec (.verify tr) s = .next t ∧ Tbl.look t.rings.tasks tr = none ∧ Tbl.look t.flash.ops tr = none) ∧
  (∀ tr task x n u p s s1, DataStarts tr 0x24 task x n s s1 → u ∈ unitsOf (dataOp tr 0x24 task.desc []) →
    flashNeed (x.base + u) (blocksIn (dataOp tr 0x24 task.desc []) u) s = some p → ∃ t r o, exec (.verify tr) s = .next t ∧
      Tbl.look t.mem.cellar s.mem.cellarNext = some r ∧ r.cls = 3 ∧ r.for_ = .command tr ∧ r.issued = false ∧
      Tbl.look t.flash.ops tr = some o ∧ o.started = true ∧ 0 < o.reads) ∧
  (∀ tr buffer task x n s s1, DataStarts tr 0x21 task x n s s1 → spareZero s = false →
    slotsNeeded ((unitsOf (dataOp tr 0x21 task.desc buffer)).map (fun u => x.base + u)) s ≤ freeSlots s →
    stFua task.desc = false → ∃ t, exec (.write tr buffer) s = .next t ∧ Tbl.look t.rings.tasks tr = none ∧
      Tbl.look t.flash.ops tr = none) ∧
  (∀ tr buffer task x n u m f s s1, DataStarts tr 0x21 task x n s s1 → spareZero s = false →
    unitsOf (dataOp tr 0x21 task.desc buffer) = [u] → slotFor (x.base + u) s = some (m, f) →
    slotsNeeded [x.base + u] s ≤ freeSlots s → ∃ t k, exec (.write tr buffer) s = .next t ∧
      ledgerOf (x.base + u) t = .buffer m ∧ slotAt m t = some k ∧
      ∀ b ∈ blocksIn (dataOp tr 0x21 task.desc buffer) u, bit k.mask b = true) ∧
  (∀ tr buffer task x n s s1, DataStarts tr 0x21 task x n s s1 → spareZero s = false →
    freeSlots s < slotsNeeded ((unitsOf (dataOp tr 0x21 task.desc buffer)).map (fun u => x.base + u)) s →
    ∃ t, exec (.write tr buffer) s = .next t ∧
      Tbl.look t.flash.ops tr = some { dataOp tr 0x21 task.desc buffer with waitsSlots := true } ∧
      t.flash.slots = s.flash.slots) ∧
  (∀ tr task x n s s1, DataStarts tr 0x23 task x n s s1 → spareZero s = false →
    slotsNeeded ((slotUnits (dataOp tr 0x23 task.desc [])).map (fun u => x.base + u)) s ≤ freeSlots s →
    ∃ t, exec (.trim tr) s = .next t ∧ (∀ u ∈ trimUnits (dataOp tr 0x23 task.desc []), ledgerOf (x.base + u) t = .unmapped) ∧
      (stFua task.desc = false → Tbl.look t.rings.tasks tr = none)) ∧
  (∀ tr task s, readyTask tr 0x22 s = some task → nsFind (stNs task.desc) s ≠ none ∨ stNs task.desc = 0xFF →
    (notDurable (if stNs task.desc = 0xFF then s.spaces.map (·.2) else (nsFind (stNs task.desc) s).toList) s).1 = [] →
    (notDurable (if stNs task.desc = 0xFF then s.spaces.map (·.2) else (nsFind (stNs task.desc) s).toList) s).2.1 = [] →
    ∃ t, exec (.flush tr) s = .next t ∧ Tbl.look t.rings.tasks tr = none) ∧
  (∀ tr task w s, readyTask tr 0x22 s = some task → nsFind (stNs task.desc) s ≠ none ∨ stNs task.desc = 0xFF →
    w = notDurable (if stNs task.desc = 0xFF then s.spaces.map (·.2) else (nsFind (stNs task.desc) s).toList) s →
    (w.1 ≠ [] ∨ w.2.1 ≠ []) → ∃ t o, exec (.flush tr) s = .next t ∧ Tbl.look t.flash.ops tr = some o ∧ o.slots = w.1 ∧
      o.trims = w.2.1 ∧ Tbl.look t.rings.tasks tr = some { task with phase := .running }) ∧
  (∀ n l tr o s, Tbl.look s.flash.locks n = some l → l.holder = .command tr → Tbl.look s.flash.ops tr = some o →
    o.started = false → o.waitsSlots = false → isFenced tr s = false → lockClear n s = true →
    exec (.rangeLockGrant n) s = .next (startOp o s)) ∧
  (∀ tr o s, Tbl.look s.flash.ops tr = some o → o.waitsSlots = true →
    exec (.writeSlotGrant tr) s = .next (startOp { o with waitsSlots := false } s))

/-- The link, configuration space and Cache_Enable (R366 to R369, R372, R380): the link comes up with the mode trained, a
configuration request is performed once its step is complete and retried before, and Cache_Enable starts and stops the
doorbell lines. It rests on the model's choices in logs 36, 41. -/
def Obligations.LinkCommandsComplete : Prop :=
  (∀ (rate width : BitVec 2) cxl lat s, alive s = true → s.host.linkUp = false → s.boot.linkBarred = false → rate ≠ 0#2 →
    width ≠ 0#2 → width ≠ 3#2 → ∃ t, exec (.linkUp rate width cxl lat) s = .next t ∧ t.host.linkUp = true ∧
      t.host.rate = rate.toNat ∧ t.host.width = width.toNat ∧ t.host.cxl = cxl ∧ t.host.latOpt = lat) ∧
  (∀ (width : BitVec 2) s, s.host.linkUp = true → (width = 1#2 ∨ width = 2#2) → ∃ t, exec (.l0pWidthChange width) s = .next t ∧
    t.host = { s.host with width := width.toNat }) ∧
  (∀ req s, alive s = true → s.host.linkUp = true → s.host.stopIo = false → released 1 s = false →
    ∃ t, exec (.configRequest req) s = .next t ∧ t.host = { s.host with answer := .retryStatus }) ∧
  (∀ on s, alive s = true → s.host.linkUp = true → s.host.stopIo = false → released 1 s = true →
    ∃ t, exec (.configRequest (.memEnable on)) s = .next t ∧ t.host = { s.host with answer := .accepted, memEn := on }) ∧
  (∀ on s, alive s = true → s.host.linkUp = true → s.host.stopIo = false → released 1 s = true →
    ∃ t, exec (.configRequest (.biEnable on)) s = .next t ∧ t.host = { s.host with answer := .accepted, biEn := on }) ∧
  (∀ on s, alive s = true → s.host.linkUp = true → s.host.stopIo = false → released 1 s = true →
    ∃ t, exec (.configRequest (.msixEnable on)) s = .next t ∧ t.host.msixEn = on ∧ t.host.answer = .accepted) ∧
  (∀ on s, alive s = true → s.host.linkUp = true → s.host.stopIo = false → released 1 s = true →
    ∃ t, exec (.configRequest (.functionMask on)) s = .next t ∧ t.host.funcMask = on ∧ t.host.answer = .accepted) ∧
  (∀ s, alive s = true → released 1 s = true → s.host.linkUp = true → s.host.cxl = true → s.host.cacheEn = false →
    ∃ t, exec .cacheEnableSet s = .next t ∧ t.host.cacheEn = true ∧ t.host.lines = s.host.lines ∧
      (s.host.stopMem = false → s.host.d3hot = false → ∀ l ∈ neededLines s, l ∈ t.host.reading)) ∧
  (∀ s, alive s = true → s.host.linkUp = true → s.host.cacheEn = true → ∃ t, exec .cacheEnableClear s = .next t ∧
    t.host.cacheEn = false ∧ t.host.lines = [] ∧ t.host.reading = [] ∧ t.rings = s.rings)

/-- The staging window of CXL.mem (R381 to R386): the decoder commits in READY with its enables set, a read answers the bytes of
a line and the filter records it, a write of whole words stores, and a BISnp response takes its line out of the filter. It
rests on the model's choices in logs 39, 40. -/
def Obligations.WindowCommandsComplete : Prop :=
  (∀ base s, barServed s = true → s.boot.dev = .ready → s.host.memEn = true → s.host.biEn = true → s.host.cxl = true →
    ∃ t, exec (.hdmDecoderCommit base) s = .next t ∧
      t.host = { s.host with hdmCommitted := true, hdmError := false, hdmBase := base.toNat / 2 ^ 28 * 2 ^ 28 }) ∧
  (∀ base s, barServed s = true → (s.boot.dev ≠ .ready ∨ s.host.memEn = false ∨ s.host.biEn = false ∨ s.host.cxl = false) →
    ∃ t, exec (.hdmDecoderCommit base) s = .next t ∧ t.host = { s.host with hdmError := true }) ∧
  (∀ (addr : BitVec 34) bytes s, hdmServed s = true → s.host.d3hot = false → s.boot.dev = .ready →
    stepEntry ((windowBase s + 64 * (addr.toNat / 64)) / 4096) s = none →
    (readStacked (windowBase s + 64 * (addr.toNat / 64)) 64 s).1 = .ok bytes →
    ∃ t, exec (.hdmHostRead addr .uncached) s = .next t ∧ t.host = { s.host with answer := .data bytes }) ∧
  (∀ (addr : BitVec 34) intent bytes s, intent ≠ HdmIntent.uncached → hdmServed s = true → s.host.d3hot = false →
    s.boot.dev = .ready → stepEntry ((windowBase s + 64 * (addr.toNat / 64)) / 4096) s = none →
    s.host.snoop.length < Config.snoopEntries →
    (readStacked (windowBase s + 64 * (addr.toNat / 64)) 64 s).1 = .ok bytes →
    ∃ t, exec (.hdmHostRead addr intent) s = .next t ∧ t.host.answer = .data bytes ∧
      ∃ x ∈ t.host.snoop, x.line = addr.toNat / 64 ∧ (intent = .exclusive → x.exclusive = true)) ∧
  (∀ (addr : BitVec 34) bytes poison data a s, hdmServed s = true → s.host.d3hot = false → s.boot.dev = .ready →
    a = windowBase s + addr.toNat → data = bytes.take (64 - addr.toNat % 64) → a % 8 = 0 → data.length % 8 = 0 →
    stepEntry (a / 4096) s = none → signedHit a data.length s = none → ∃ t, exec (.hdmHostWrite addr bytes poison) s = .next t ∧
      t.mem.stacked = Mem.write zeroByte s.mem.stacked a data ∧ (poison = true → t.host.poisoned = true)) ∧
  (∀ (addr : BitVec 34) bytes poison e j s, hdmServed s = true → s.host.d3hot = false → s.boot.dev = .ready →
    signedHit (windowBase s + addr.toNat) (bytes.take (64 - addr.toNat % 64)).length s = some (e, j) →
    ∃ t, exec (.hdmHostWrite addr bytes poison) s = .next t ∧ t.mem.stacked = s.mem.stacked ∧
      t.host.conflicts = satAdd 24 s.host.conflicts 1) ∧
  (∀ (line : BitVec 28) b s, s.host.biOut.find? (fun x => x.line == line.toNat) = some b → s.host.linkUp = true →
    s.host.stopMem = false → s.host.sweep = [] → s.host.waiting = none → s.tensor.region.waits = false →
    ∃ t, exec (.bisnpResponse line []) s = .next t ∧ (∀ x ∈ t.host.biOut, x.line ≠ line.toNat) ∧
      (b.inv = true → ∀ x ∈ t.host.snoop, x.line ≠ line.toNat) ∧
      (b.inv = false → ∀ x ∈ t.host.snoop, x.line = line.toNat → x.exclusive = false))

/-- Link encryption, the mailboxes, MSI-X and the registers of BAR0 (R373 to R378, R387 to R390). It rests on the model's
choices in logs 5, 41, 42. -/
def Obligations.HostRegisterCommandsComplete : Prop :=
  (∀ s, s.host.linkUp = true → s.host.ideMem = true → ∃ t, exec (.ideIntegrityFail .cacheMem) s = .next t ∧
    t.host.ideMem = false ∧ t.host.stopMem = true ∧ t.host.stopIo = s.host.stopIo) ∧
  (∀ s, s.host.linkUp = true → s.host.ideIo = true → ∃ t, exec (.ideIntegrityFail .io) s = .next t ∧
    t.host.ideIo = false ∧ t.host.stopIo = true ∧ t.host.stopMem = s.host.stopMem) ∧
  (∀ s, doeServed s = true → s.sec.spdm.session = true → s.host.stopMem = false → s.host.cxl = true →
    ∃ t, exec (.ideKeyProgram .cacheMem) s = .next t ∧ t.host = { s.host with ideMem := true }) ∧
  (∀ s, doeServed s = true → s.sec.spdm.session = true → ∃ t, exec (.ideKeyProgram .io) s = .next t ∧
    t.host = { s.host with ideIo := true }) ∧
  (∀ (inst : Fin 2) index s, doeServed s = true → ∃ t bytes, exec (.doeDiscovery inst index) s = .next t ∧ t.host.answer = .data bytes ∧
    bytes.length = 4 ∧ (inst = 0 → t.host.doe0 = some bytes) ∧ (inst = 1 → t.host.doe1 = some bytes)) ∧
  (∀ s, doeServed s = true → ∃ t, exec .cdatRead s = .next t ∧ t.host.doe1 = some Config.cdatTable ∧
    t.host.answer = .data Config.cdatTable) ∧
  (∀ s, doeServed s = true → ∃ t, exec (.doeAbort 0) s = .next t ∧ t.host = { s.host with doe0 := none }) ∧
  (∀ s, doeServed s = true → ∃ t, exec (.doeAbort 1) s = .next t ∧ t.host = { s.host with doe1 := none }) ∧
  (∀ (v : Fin 2048) s, regWorks 1 false s = true → ∃ t, exec (.msixUnmask v) s = .next t ∧ (msixEntry v.val t).masked = false ∧
    (s.host.msixEn = true → s.host.funcMask = false → v.val ∉ t.host.pba)) ∧
  (∀ s, alive s = true → s.host.linkUp = true → s.host.stopIo = false → s.host.d3hot = false →
    ∃ t, exec (.bar0AccessError true) s = .next t ∧ t.host = { s.host with accessErr := true }) ∧
  (∀ s, alive s = true → s.host.linkUp = true → s.host.stopIo = false → s.host.d3hot = false →
    ∃ t, exec (.bar0AccessError false) s = .next t ∧
      t.host = { s.host with accessErr := true, answer := .data (List.replicate 8 0xFF#8) }) ∧
  (∀ (offset : BitVec 23) wide value s, barServed s = true → offset.toNat % (if wide then 8 else 4) ≠ 0 →
    ∃ t, exec (.registerWrite offset wide value) s = .next t ∧ t.host = { s.host with accessErr := true }) ∧
  (∀ (offset : BitVec 23) value s, barServed s = true → is64 offset.toNat = true →
    offset.toNat % 8 = 0 → exec (.registerWrite offset true value) s = .next (write64 offset.toNat value s)) ∧
  (∀ (offset : BitVec 23) value s, barServed s = true → is64 offset.toNat = false → offset.toNat % 8 = 0 →
    exec (.registerWrite offset true value) s
      = .next (write32 (offset.toNat + 4) (value.extractLsb' 32 32) (write32 offset.toNat (value.extractLsb' 0 32) s))) ∧
  (∀ (offset : BitVec 23) value s, barServed s = true → is64 (offset.toNat / 8 * 8) = false → offset.toNat % 4 = 0 →
    exec (.registerWrite offset false value) s = .next (write32 offset.toNat (value.extractLsb' 0 32) s)) ∧
  (∀ (offset : BitVec 23) value s, barServed s = true → is64 offset.toNat = true → offset.toNat % 8 = 0 →
    ∃ t, exec (.registerWrite offset false value) s = .next t ∧ Tbl.look t.host.staged offset.toNat
      = some (value.toNat % 2 ^ 32)) ∧
  (∀ (offset : BitVec 23) value lo s, barServed s = true → is64 (offset.toNat - 4) = true → offset.toNat % 8 = 4 →
    Tbl.look s.host.staged (offset.toNat - 4) = some lo → exec (.registerWrite offset false value) s
      = .next (write64 (offset.toNat - 4) (BitVec.ofNat 64 (value.toNat % 2 ^ 32 * 2 ^ 32 + lo))
          (setHost (fun h => { h with staged := Tbl.del h.staged (offset.toNat - 4) }) s)))

/-- Doorbell lines, the ADMIN pair and the fetcher (R394 to R398, R401, R405 to R408, R421): a snooped line is read again, a
returned line gives tails and heads, the pair starts and stops, and a fetched command takes a task register. It rests on the
model's choices in logs 43, 44. -/
def Obligations.RingCommandsComplete : Prop :=
  (∀ (line : BitVec 58) s, cacheUsable s = true → line.toNat ∈ s.host.lines → ∃ t, exec (.doorbellSnoop line) s = .next t ∧
    t.host.lines = s.host.lines.filter (· != line.toNat) ∧ line.toNat ∈ t.host.reading) ∧
  (∀ (line : BitVec 58) words n q w s, cacheUsable s = true → line.toNat ∈ s.host.reading → Tbl.sorted s.rings.sqs = true →
    (∀ p ∈ s.rings.cqs, p.2.db / 64 ≠ line.toNat) → Tbl.look s.rings.sqs n = some q → q.state = .running →
    q.db / 64 = line.toNat → w = ((padTo 16 0#32 words).getD (q.db / 4 % 16) 0#32).toNat → w < q.depth → w < 65536 →
    ∃ t r, exec (.doorbellLineReturn line words) s = .next t ∧ Tbl.look t.rings.sqs n = some r ∧ r = { q with tail := w }) ∧
  (∀ (line : BitVec 58) words n q w s, cacheUsable s = true → line.toNat ∈ s.host.reading → Tbl.sorted s.rings.cqs = true →
    (∀ p ∈ s.rings.sqs, p.2.db / 64 ≠ line.toNat) → Tbl.look s.rings.cqs n = some q → q.error = false →
    q.db / 64 = line.toNat → w = ((padTo 16 0#32 words).getD (q.db / 4 % 16) 0#32).toNat → w < q.depth → w < 65536 →
    (w + q.depth - q.head) % q.depth ≤ cqUnreleased q →
    ∃ t r, exec (.doorbellLineReturn line words) s = .next t ∧ Tbl.look t.rings.cqs n = some r ∧ r = { q with head := w }) ∧
  (∀ s, cacheUsable s = true → ∃ t, exec .doorbellRereadTimer s = .next t ∧ t.host.lines = s.host.lines ∧
    ∀ l ∈ s.host.lines, l ∈ t.host.reading) ∧
  (∀ (sq : Fin 256) desc q tr s, fetching s = true → nextSq s = some sq.val → Tbl.look s.rings.sqs sq.val = some q →
    freeReg sq.val s = some tr → checkDescriptor q.cls desc s = 0 → (startsExit q.cls (dOpcode desc) && inPs2 s) = false →
    ∃ t k r, exec (.commandFetch sq desc) s = .next t ∧ Tbl.look t.rings.tasks tr = some k ∧ k.desc = desc ∧ k.sq = sq.val ∧
      (k.phase = .ready ∨ k.phase = .fenced) ∧ Tbl.look t.rings.sqs sq.val = some r ∧ r.head = (q.head + 1) % q.depth ∧
      t.rings.round = sq.val) ∧
  (∀ (sq : Fin 256) desc q tr s, fetching s = true → nextSq s = some sq.val → Tbl.look s.rings.sqs sq.val = some q →
    freeReg sq.val s = some tr → checkDescriptor q.cls desc s ≠ 0 → (startsExit q.cls (dOpcode desc) && inPs2 s) = false →
    ∃ t r, exec (.commandFetch sq desc) s = .next t ∧ Tbl.look t.rings.tasks tr = none ∧
      Tbl.look t.rings.sqs sq.val = some r ∧ r.head = (q.head + 1) % q.depth) ∧
  (∀ (sq : Fin 256) q s, fetching s = true → nextSq s = some sq.val → Tbl.look s.rings.sqs sq.val = some q →
    q.state = .running → ∃ t r, exec (.descriptorReadError sq) s = .next t ∧ Tbl.look t.rings.sqs sq.val = some r ∧
      r.state = .error ∧ r.head = (q.head + 1) % q.depth ∧ t.rings.tasks = s.rings.tasks) ∧
  (∀ tr k s, Tbl.look s.rings.tasks tr = some k → k.phase = .fenced →
    (∀ p ∈ s.rings.tasks, p.2.sq = k.sq → k.order ≤ p.2.order) → (∀ p ∈ s.rings.heldRecs, p.2.sq ≠ k.sq) →
    Tbl.look s.flash.ops tr = none → exec (.fencedCommandStart tr) s = .next (setPhase tr .ready s)) ∧
  (∀ tr k o n l s, Tbl.look s.rings.tasks tr = some k → k.phase = .fenced →
    (∀ p ∈ s.rings.tasks, p.2.sq = k.sq → k.order ≤ p.2.order) → (∀ p ∈ s.rings.heldRecs, p.2.sq ≠ k.sq) →
    Tbl.look s.flash.ops tr = some o → s.flash.locks.find? (fun p => p.2.holder == .command tr) = some (n, l) →
    lockClear n s = true → exec (.fencedCommandStart tr) s = .next (startOp o (setPhase tr .running s))) ∧
  (∀ (value : W32) r s, regWorks 1 true s = true → s.rings.running = false →
    r = { s.rings with vectorReg := bits value.toNat 27 16, depthReg := bits value.toNat 15 0 } → adminOk r s = true →
    ∃ t q c, exec (.adminPairStart value) s = .next t ∧ t.rings.running = true ∧ t.rings.enable = true ∧
      Tbl.look t.rings.sqs 0 = some q ∧ q.state = .running ∧ q.base = s.rings.sqBase ∧ q.depth = r.depthReg + 1 ∧
      q.db = s.rings.sqDb ∧ q.head = 0 ∧ q.tail = 0 ∧ Tbl.look t.rings.cqs 0 = some c ∧ c.base = s.rings.cqBase ∧
      c.depth = r.depthReg + 1 ∧ c.db = s.rings.cqDb ∧ c.tail = 0 ∧ c.head = 0) ∧
  (∀ (value : W32) s, regWorks 1 true s = true → ∃ t, exec (.adminPairStop value) s = .next t ∧ t.rings.enable = false ∧
    t.rings.running = s.rings.running ∧ ∀ q, Tbl.look s.rings.sqs 0 = some q →
      Tbl.look t.rings.sqs 0 = some { q with stopped := true }) ∧
  (∀ q s, Tbl.look s.rings.sqs 0 = some q → q.stopped = true → (∀ p ∈ s.rings.tasks, p.2.sq ≠ 0) →
    ∃ t, exec .adminPairStopped s = .next t ∧ t.rings.running = false ∧ Tbl.look t.rings.sqs 0 = none ∧
      Tbl.look t.rings.cqs 0 = none)

/-- The ADMIN commands of chapter 13 (R409 to R414): IDENTIFY writes its data, rings come and go, and DRAIN and RESUME move the
device between READY and DRAINING. It rests on the model's choices in logs 43, 46. -/
def Obligations.AdminCommandsComplete : Prop :=
  (∀ tr task s, readyTask tr 0x01 s = some task → exec (.identify tr) s
    = .next (complete tr 0 0 0 (hostWrite (dPtr0 task.desc) (identifyData s) s))) ∧
  (∀ tr task cq c s, readyTask tr 0x02 s = some task → placeOk (dPtr1 task.desc) (dPtr0 task.desc, crDepth task.desc * 128) s = true →
    Tbl.look s.rings.sqs (crNum task.desc) = none → cq = dParam task.desc 351 344 → cq ≠ 0 →
    Tbl.look s.rings.cqs cq = some c → boundTo cq s + 2 ≤ c.depth - 1 → s.host.cacheEn = true →
    lineFits (dPtr1 task.desc) s = true → ∃ t q, exec (.createSq tr) s = .next t ∧
      Tbl.look t.rings.sqs (crNum task.desc) = some q ∧ q.state = .running ∧ q.cls = dParam task.desc 354 352 ∧ q.cq = cq ∧
      q.base = dPtr0 task.desc ∧ q.depth = crDepth task.desc ∧ q.db = dPtr1 task.desc ∧ q.head = 0 ∧ q.tail = 0 ∧
      q.trLimit = dParam task.desc 368 355 ∧ Tbl.look t.rings.tasks tr = none) ∧
  (∀ tr task s, readyTask tr 0x03 s = some task → placeOk (dPtr1 task.desc) (dPtr0 task.desc, crDepth task.desc * 32) s = true →
    Tbl.look s.rings.cqs (crNum task.desc) = none → s.host.cacheEn = true → lineFits (dPtr1 task.desc) s = true →
    ∃ t q, exec (.createCq tr) s = .next t ∧ Tbl.look t.rings.cqs (crNum task.desc) = some q ∧ q.error = false ∧
      q.vector = dParam task.desc 355 344 ∧ q.base = dPtr0 task.desc ∧ q.depth = crDepth task.desc ∧ q.db = dPtr1 task.desc ∧
      q.agg = dParam task.desc 363 356 ∧ Tbl.look t.rings.tasks tr = none) ∧
  (∀ tr task q s, readyTask tr 0x04 s = some task → Tbl.look s.rings.sqs (crNum task.desc) = some q → q.state ≠ .deleting →
    crNum task.desc ≠ 0 → ∃ t, exec (.deleteSq tr) s = .next t ∧
      Tbl.look t.rings.sqs (crNum task.desc) = some { q with state := .deleting } ∧
      Tbl.look t.rings.deleting (crNum task.desc) = some tr ∧ Tbl.look t.rings.tasks tr = some { task with phase := .running }) ∧
  (∀ (sq : Fin 256) tr s, Tbl.look s.rings.deleting sq.val = some tr → (∀ p ∈ s.rings.tasks, p.2.sq ≠ sq.val) →
    (∀ p ∈ s.rings.heldRecs, p.2.sq ≠ sq.val) → ∃ t, exec (.deleteSqComplete sq) s = .next t ∧
      Tbl.look t.rings.sqs sq.val = none ∧ Tbl.look t.rings.deleting sq.val = none ∧ Tbl.look t.rings.tasks tr = none) ∧
  (∀ tr task c s, readyTask tr 0x05 s = some task → Tbl.look s.rings.cqs (crNum task.desc) = some c → crNum task.desc ≠ 0 →
    boundTo (crNum task.desc) s = 0 → (∀ p ∈ s.tensor.jobs, p.2.cq ≠ crNum task.desc) → ∃ t, exec (.deleteCq tr) s = .next t ∧
      Tbl.look t.rings.cqs (crNum task.desc) = none ∧ Tbl.look t.rings.tasks tr = none) ∧
  (∀ tr task s, readyTask tr 0x07 s = some task → s.boot.dev = .ready → ∃ t, exec (.drain tr) s = .next t ∧
    t.boot.dev = .draining ∧ t.rings.drainTr = some tr) ∧
  (∀ tr s, s.rings.drainTr = some tr → s.tensor.jobs = [] → ralidBusy s = false → writesOpen s = false → s.flash.trims = [] →
    (∀ p ∈ s.flash.slots, p.2.lost ≠ 0) → exec .drainComplete s
      = .next (complete tr (if s.flash.slots.isEmpty then 0 else 0x11) 0 0 (setRings (fun r => { r with drainTr := none }) s))) ∧
  (∀ tr task s, readyTask tr 0x08 s = some task → s.boot.dev = .draining → s.rings.drainTr = none →
    ∃ t, exec (.resume tr) s = .next t ∧ t.boot.dev = .ready ∧ Tbl.look t.rings.tasks tr = none)

/-- The power states and D3hot (R373, R417 to R420): SET_POWER starts an entry or an exit, its end reaches the state, and D3hot
goes through PS3 and back. It rests on the model's choices in log 45. -/
def Obligations.PowerStateCommandsComplete : Prop :=
  (∀ tr task s, readyTask tr 0x06 s = some task → s.host.psPhase = .steady → dParam task.desc 321 320 = s.host.pstate →
    (s.host.pstate = 0 ∨ jobsBusy s = false ∧ (s.host.pstate = 2 → ralidActive s = false)) →
    exec (.setPower tr) s = .next (complete tr 0 0 0 s)) ∧
  (∀ tr task target s, readyTask tr 0x06 s = some task → s.host.psPhase = .steady → target = dParam task.desc 321 320 →
    target ≠ 0 → jobsBusy s = false → (target = 2 → ralidActive s = false) → s.host.pstate = 0 →
    ∃ t, exec (.setPower tr) s = .next t ∧ t.host = { s.host with psPhase := .entering target false } ∧
      t.rings.powerTr = some tr) ∧
  (∀ tr task target s, readyTask tr 0x06 s = some task → s.host.psPhase = .steady → target = dParam task.desc 321 320 →
    (target = 0 ∨ jobsBusy s = false ∧ (target = 2 → ralidActive s = false)) → s.host.pstate ≠ 0 → target ≠ s.host.pstate →
    ∃ t, exec (.setPower tr) s = .next t ∧ t.host = { s.host with psPhase := .exiting target } ∧ t.rings.powerTr = some tr) ∧
  (∀ tr task s, readyTask tr 0x06 s = some task → s.host.psPhase ≠ .steady → ∃ t, exec (.setPower tr) s = .next t ∧
    t.rings.powerWait = s.rings.powerWait ++ [tr] ∧ t.host = s.host) ∧
  (∀ p s, s.host.psPhase = .entering p true → ∃ t, exec .powerStateEntryComplete s = .next t ∧ t.host.pstate = p ∧
    t.host.psPhase = .exiting 0) ∧
  (∀ p s, s.host.psPhase = .entering p false → s.rings.powerWait = [] → ∃ t, exec .powerStateEntryComplete s = .next t ∧
    t.host.pstate = p ∧ t.host.psPhase = (if s.host.d3hot then .d3Stopping else .steady)) ∧
  (∀ s, s.host.psPhase = .exiting 0 → s.rings.powerWait = [] → ∃ t, exec .powerStateExitComplete s = .next t ∧
    t.host.pstate = 0 ∧ t.host.psPhase = (if s.host.d3hot then .d3Stopping else .steady)) ∧
  (∀ p s, s.host.psPhase = .exiting (p + 1) → ∃ t late, exec .powerStateExitComplete s = .next t ∧ t.host.pstate = 0 ∧
    t.host.psPhase = .entering (p + 1) late) ∧
  (∀ s, s.host.psPhase = .exitingPs3 → s.rings.powerWait = [] → ∃ t, exec .powerStateExitComplete s = .next t ∧
    t.host.pstate = 0 ∧ t.power.rails.vcore = true ∧ t.power.rails.vopt = true) ∧
  (∀ s, alive s = true → released 1 s = true → s.host.linkUp = true → s.host.d3hot = false →
    ∃ t, exec .d3hotRequest s = .next t ∧ t.host.d3hot = true ∧ t.host.lines = [] ∧ t.host.reading = [] ∧
      ∀ e j, ownerJob s = some (e, j) → j.state = .running → s.tensor.heldByStep4 = false → t.tensor.request = true) ∧
  (∀ s, s.host.psPhase = .d3Stopping → s.tensor.owner = none → removedWork s = false → ∃ t, exec .ps3Entry s = .next t ∧
    t.host.pstate = 3 ∧ t.host.psPhase = .steady ∧ t.power.rails.vcore = false ∧ t.power.rails.vopt = false) ∧
  (∀ s, s.host.d3hot = true → s.host.psPhase = .d3Stopping → s.rings.powerWait = [] → ∃ t, exec .d0Request s = .next t ∧
    t.host.d3hot = false ∧ (s.host.pstate = 0 → t.host.psPhase = .steady)) ∧
  (∀ s, s.host.d3hot = true → s.host.psPhase = .steady → s.host.pstate = 3 → ∃ t, exec .d0Request s = .next t ∧
    t.host = { s.host with d3hot := false, psPhase := .exitingPs3 })

/-- The cycles of the configuration flash and the start of its host operations (R469 to R474, R482 to R485): a store advances,
ends or abandons its bank's sequence, and an operation that waits is refused by its checks or starts. It rests on the
model's choices in log 54. -/
def Obligations.FlashSequencesComplete : Prop :=
  (∀ (offset : BitVec 29) size (value : W64) b off v s, cflServes s = true → s.host.d3hot = false →
    b = offset.toNat / 2 ^ 28 → off = offset.toNat % 2 ^ 28 → v = (if size = 1 then value.toNat % 256 else value.toNat) →
    ¬ (size = 1 ∧ off = 0xA3C ∧ v = 0xF0) → (cflBank b s).host = none → (cflBank b s).run = none →
    ((cflBank b s).dev = none ∨ (cflBank b s).seq.cycles ≠ 0) → ∃ t, exec (.cflCycleStore offset size value) s = .next t ∧
      cflBank b t = (match (cflBank b s).seq.store off size v with
        | .goOn q => { cflBank b s with seq := q }
        | .last op _ => { cflBank b s with seq := CflSeq.empty, host := some op }
        | .abandon => { cflBank b s with seq := CflSeq.empty, seqErr := true }) ∧ t.cfl.array = s.cfl.array) ∧
  (∀ (offset : BitVec 29) size (value : W64) b off v s, cflServes s = true → s.host.d3hot = false →
    b = offset.toNat / 2 ^ 28 → off = offset.toNat % 2 ^ 28 → v = (if size = 1 then value.toNat % 256 else value.toNat) →
    ¬ (size = 1 ∧ off = 0xA3C ∧ v = 0xF0) → ((cflBank b s).host.isSome = true ∨ (cflBank b s).run.isSome = true) →
    ∃ t, exec (.cflCycleStore offset size value) s = .next t ∧ cflBank b t = { cflBank b s with seqErr := true }) ∧
  (∀ (bank : Fin 2) s, cflServes s = true → s.host.d3hot = false → ∃ t, exec (.cflAbandon bank) s = .next t ∧
    cflBank bank.val t = { cflBank bank.val s with seq := CflSeq.empty }) ∧
  (∀ (bank : Fin 2) s, cflServes s = true → (cflBank bank.val s).seq.cycles ≠ 0 → ∃ t,
    exec (.cflSequenceTimeout bank) s = .next t ∧
    cflBank bank.val t = { cflBank bank.val s with seq := CflSeq.empty, seqErr := true }) ∧
  (∀ (bank : Fin 2) page words s, (cflBank bank.val s).host = some (.program page words) → bankFree bank.val s = true →
    cflProtected (16 * bank.val + page / 32768) s = false → ∃ t, exec (.pageProgram bank) s = .next t ∧
      (cflBank bank.val t).run = some (.program page words) ∧ (cflBank bank.val t).host = none ∧
      (cflBank bank.val t).lastCmd = 0x10 ∧ (cflBank bank.val t).contCode = 0 ∧ t.cfl.array = s.cfl.array) ∧
  (∀ (bank : Fin 2) page words s, (cflBank bank.val s).host = some (.program page words) → bankFree bank.val s = true →
    cflProtected (16 * bank.val + page / 32768) s = true → ∃ t, exec (.pageProgram bank) s = .next t ∧
      cflBank bank.val t = { cflBank bank.val s with host := none, protErr := true } ∧ t.cfl.array = s.cfl.array) ∧
  (∀ (bank : Fin 2) sector s, (cflBank bank.val s).host = some (.erase sector) → bankFree bank.val s = true →
    cflProtected (16 * bank.val + sector / 64) s = false → ∃ t, exec (.sectorErase bank) s = .next t ∧
      (cflBank bank.val t).run = some (.erase sector) ∧ (cflBank bank.val t).host = none ∧
      (cflBank bank.val t).count = eraseCount (1024 * bank.val + sector) s ∧ t.cfl.array = s.cfl.array) ∧
  (∀ (bank : Fin 2) sector s, (cflBank bank.val s).host = some (.erase sector) → bankFree bank.val s = true →
    cflProtected (16 * bank.val + sector / 64) s = true → ∃ t, exec (.sectorErase bank) s = .next t ∧
      cflBank bank.val t = { cflBank bank.val s with host := none, protErr := true } ∧ t.cfl.marks = s.cfl.marks ∧
      t.cfl.array = s.cfl.array) ∧
  (∀ (bank : Fin 2) code s, (cflBank bank.val s).host = some (.contEnter code) → bankFree bank.val s = true →
    ∃ t, exec (.contReadEnter bank) s = .next t ∧
      cflBank bank.val t = { cflBank bank.val s with host := none, contCode := code, prefetch := none, lastCmd := 0x30 }) ∧
  (∀ (bank : Fin 2) s, (cflBank bank.val s).host = some .contExit → bankFree bank.val s = true →
    ∃ t, exec (.contReadExit bank) s = .next t ∧
      cflBank bank.val t = { cflBank bank.val s with host := none, contCode := 0, prefetch := none, lastCmd := 0x31 }) ∧
  (∀ (bank : Fin 2) g pw s, (cflBank bank.val s).host = some (.prot 0x40 g pw 0#64) → bankFree bank.val s = true → g < 15 →
    cflLocked (16 * bank.val + g) s = false → (currentRow bank.val s).2.passwords.getD g 0#64 = pw →
    ∃ t, exec (.protSet bank) s = .next t ∧ (cflBank bank.val t).run = some (.prot 0x40 g pw 0#64) ∧
      (cflBank bank.val t).host = none ∧ Tbl.look t.cfl.fails (16 * bank.val + g) = none) ∧
  (∀ (bank : Fin 2) g pw s, (cflBank bank.val s).host = some (.prot 0x41 g pw 0#64) → bankFree bank.val s = true → g < 15 →
    cflLocked (16 * bank.val + g) s = false → (currentRow bank.val s).2.passwords.getD g 0#64 = pw →
    ∃ t, exec (.protClear bank) s = .next t ∧ (cflBank bank.val t).run = some (.prot 0x41 g pw 0#64) ∧
      (cflBank bank.val t).host = none ∧ Tbl.look t.cfl.fails (16 * bank.val + g) = none) ∧
  (∀ (bank : Fin 2) g pw pw2 s, (cflBank bank.val s).host = some (.prot 0x42 g pw pw2) → bankFree bank.val s = true → g < 15 →
    cflLocked (16 * bank.val + g) s = false → (currentRow bank.val s).2.passwords.getD g 0#64 = pw →
    ∃ t, exec (.passwordChange bank) s = .next t ∧ (cflBank bank.val t).run = some (.prot 0x42 g pw pw2) ∧
      (cflBank bank.val t).host = none ∧ Tbl.look t.cfl.fails (16 * bank.val + g) = none) ∧
  (∀ (bank : Fin 2) op s, (cflBank bank.val s).host = some op → bankFree bank.val s = true →
    exec (.cflQueuedHostOpStart bank) s = .next (startHostOp bank.val s))

/-- The window, the pulses and the records of the configuration flash (R474 to R479, R482, R485, R486, R490): programming ANDs a
page into the array, an erase leaves ones and a done marker, and a protection command puts its row in force. It rests on the
model's choices in logs 29, 55, 56. -/
def Obligations.FlashPulsesComplete : Prop :=
  (∀ (offset : BitVec 29) len s, cflServes s = true → s.host.d3hot = false → ∃ t, exec (.cflWindowRead offset len) s = .next t ∧
    t.host.answer = .data ((List.range len).map (fun i => windowByte ((offset.toNat + i) % 2 ^ 29) s)) ∧
    t.cfl.array = s.cfl.array) ∧
  (∀ (bank : Fin 2) page words s, cflHeld s = false → (cflBank bank.val s).run = some (.program page words) →
    ∃ t, exec (.cflProgramPulseEnd bank true) s = .next t ∧ (cflBank bank.val t).run = none ∧
      Mem.read onesByte t.cfl.array (bank.val * 2 ^ 28 + page * 512) 512
        = List.zipWith (· &&& ·) (Mem.read onesByte s.cfl.array (bank.val * 2 ^ 28 + page * 512) 512) (pageBuffer words) ∧
      ∀ a, (a < bank.val * 2 ^ 28 + page * 512 ∨ bank.val * 2 ^ 28 + page * 512 + 512 ≤ a) →
        Mem.byte onesByte t.cfl.array a = Mem.byte onesByte s.cfl.array a) ∧
  (∀ (bank : Fin 2) page words s, cflHeld s = false → (cflBank bank.val s).run = some (.program page words) →
    (cflBank bank.val s).pulses < 7 → ∃ t, exec (.cflProgramPulseEnd bank false) s = .next t ∧
      cflBank bank.val t = { cflBank bank.val s with pulses := (cflBank bank.val s).pulses + 1 } ∧ t.cfl.array = s.cfl.array) ∧
  (∀ (bank : Fin 2) page words s, cflHeld s = false → (cflBank bank.val s).run = some (.program page words) →
    7 ≤ (cflBank bank.val s).pulses → ∃ t, exec (.cflProgramPulseEnd bank false) s = .next t ∧
      (cflBank bank.val t).run = none ∧ (cflBank bank.val t).progErr = true) ∧
  (∀ (bank : Fin 2) sector s, cflHeld s = false → (cflBank bank.val s).run = some (.erase sector) → sector < 1024 →
    ∃ t, exec (.cflErasePulseEnd bank true) s = .next t ∧ (cflBank bank.val t).run = none ∧
      doneState (marksOf (1024 * bank.val + sector) t) = .valid ∧ startState (marksOf (1024 * bank.val + sector) t) = .blank ∧
      doneCount (marksOf (1024 * bank.val + sector) t) = (cflBank bank.val s).count % 2 ^ 32 ∧
      (∀ i < 0x40000, Mem.byte onesByte t.cfl.array ((1024 * bank.val + sector) * 0x40000 + i) = 0xFF#8) ∧
      ∀ a, a / 0x40000 ≠ 1024 * bank.val + sector → Mem.byte onesByte t.cfl.array a = Mem.byte onesByte s.cfl.array a) ∧
  (∀ (bank : Fin 2) sector s, cflHeld s = false → (cflBank bank.val s).run = some (.erase sector) →
    (cflBank bank.val s).pulses < 9 → ∃ t, exec (.cflErasePulseEnd bank false) s = .next t ∧
      cflBank bank.val t = { cflBank bank.val s with pulses := (cflBank bank.val s).pulses + 1 } ∧ t.cfl.array = s.cfl.array) ∧
  (∀ (bank : Fin 2) sector s, cflHeld s = false → (cflBank bank.val s).run = some (.erase sector) →
    (cflBank bank.val s).pulses = 9 → ∃ t, exec (.cflErasePulseEnd bank false) s = .next t ∧
      (cflBank bank.val t).run = none ∧ (cflBank bank.val t).eraseErr = true ∧ t.cfl.marks = s.cfl.marks) ∧
  (∀ (bank : Fin 2) cmd g pw pw2 s, cflHeld s = false → (cflBank bank.val s).run = some (.prot cmd g pw pw2) →
    (cflBank bank.val s).pulses ≤ 10 → ∃ t, exec (.cflProtectionOpComplete bank) s = .next t ∧
      (cflBank bank.val t).run = none ∧
      Tbl.look t.cfl.rows (2 * bank.val + (1 - (currentRow bank.val s).1)) = some (protRow cmd g pw2 (currentRow bank.val s).2) ∧
      Tbl.look t.cfl.rows (2 * bank.val + (currentRow bank.val s).1) = none ∧
      t.cfl.prot = (if cmd = 0x42 then s.cfl.prot else setBitN s.cfl.prot (16 * bank.val + g) (cmd == 0x40))) ∧
  (∀ s, cflServes s = true → (cflBank 0 s).busy = false → (cflBank 0 s).seq.cycles < 3 → s.power.inputLoss = false →
    s.cfl.layoutDue = true → ∃ t, exec .deviceRecordWrite s = .next t ∧
      (cflBank 0 t).dev = some (.record (s.cfl.layoutRec.sector 962 * 0x40000 + s.cfl.layoutRec.next * 32) (layoutBytes s) true) ∧
      t.cfl.layoutDue = false) ∧
  (∀ e rest s, cflServes s = true → (cflBank 0 s).busy = false → (cflBank 0 s).seq.cycles < 3 → s.power.inputLoss = false →
    s.cfl.layoutDue = false → s.evt.copyQueue = e :: rest → ∃ t, exec .deviceRecordWrite s = .next t ∧
      (cflBank 0 t).dev = some (.record (s.cfl.gbRec.sector 968 * 0x40000 + s.cfl.gbRec.next * 32) (e.bytes false) false) ∧
      t.evt.copyQueue = rest) ∧
  (∀ value s, regWorks 2 true s = true → ∃ t, exec (.cflSectorSelWrite value) s = .next t ∧
    t.cfl = { s.cfl with sel := bits value.toNat 10 0, selAt := some s.tclk })

/-- The patrol, the copy units and the check of correction rates (R496 to R499, R504): a patrol read writes a corrected word
back, a copy unit reads its data again at most twice, and a second's end starts the rate anew. It rests on the model's
choices in log 61. -/
def Obligations.IntegrityCommandsComplete : Prop :=
  (∀ (addr : BitVec 40) d s, alive s = true → released 5 s = true → addr.toNat < Config.stackedEnd →
    w72Decode (rawWord (addr.toNat / 8) s) = .clean d → ∃ t, exec (.patrolRead addr 0#72 0#72) s = .next t ∧
      t.mem = s.mem ∧ t.ecc = s.ecc) ∧
  (∀ (addr : BitVec 40) d pos s, alive s = true → released 5 s = true → addr.toNat < Config.stackedEnd →
    w72Decode (rawWord (addr.toNat / 8) s) = .corrected d pos → addr.toNat / 8 ∉ s.ecc.known →
    ∃ t, exec (.patrolRead addr 0#72 0#72) s = .next t ∧
      Mem.read zeroByte t.mem.stacked (addr.toNat / 8 * 8) 8 = leBytes 8 d ∧ Tbl.look t.mem.werr (addr.toNat / 8) = none) ∧
  (∀ (addr : BitVec 40) syn s, alive s = true → released 5 s = true → addr.toNat < Config.stackedEnd →
    w72Decode (rawWord (addr.toNat / 8) s) = .uncorrectable syn → ∃ t, exec (.patrolRead addr 0#72 0#72) s = .next t ∧
      t.mem.stacked = s.mem.stacked ∧ (eccOf 0 t).uncorrectable = satAdd 16 (eccOf 0 s).uncorrectable 1) ∧
  (∀ (unit : Fin 16) tile entry mask s, alive s = true → 9 ≤ unit.val → unit.val ≤ 14 →
    ∃ t, exec (.copyRefetchComplete unit .clean tile entry mask) s = .next t ∧ Tbl.look t.ecc.retries unit.val = none ∧
      t.mem = s.mem) ∧
  (∀ (unit : Fin 16) tile entry mask s, alive s = true → 9 ≤ unit.val → unit.val ≤ 14 →
    Tbl.lookD s.ecc.retries unit.val 0 = 0 → ∃ t, exec (.copyRefetchComplete unit .parityAgain tile entry mask) s = .next t ∧
      Tbl.look t.ecc.retries unit.val = some 1 ∧ t.mem = s.mem) ∧
  (∀ (unit : Fin 16) s, ∃ t, exec (.integrityCorrectedRateCheck unit) s = .next t ∧
    Tbl.look t.ecc.lastSecond unit.val = none ∧ t.mem = s.mem)

/-- The security commands (R506, R511, R512, R519): a fuse write starts where its authorisation is accepted and its operand
allowed, burns its words in turn and completes; a challenge gives a nonce; an unlock opens the debug connector. It rests on
the model's choices in log 57. -/
def Obligations.SecurityCommandsComplete : Prop :=
  (∀ tr task digest auth k s, readyTask tr 0x18 s = some task → s.sec.fuse = none → s.sec.debugUnlocked = false →
    blankSlot s = some k → (usableSlots s = [] ∨ authAccepted 0x18 auth s = true) →
    ∃ t, exec (.secEnroll tr digest auth) s = .next t ∧ t.sec.fuse = some { tr := tr, write := .enroll k digest, words := 9 } ∧
      t.sec.slots = s.sec.slots ∧ (usableSlots s ≠ [] → t.sec.nonce = none)) ∧
  (∀ tr task auth k s, readyTask tr 0x19 s = some task → s.sec.fuse = none → s.sec.debugUnlocked = false →
    authAccepted 0x19 auth s = true → k = authField auth 16 1 → k < 4 → usableSlots s ≠ [k] →
    ∃ t, exec (.secRevoke tr auth) s = .next t ∧ t.sec.fuse = some { tr := tr, write := .revoke k, words := 1 } ∧
      t.sec.nonce = none) ∧
  (∀ tr task auth s, readyTask tr 0x1A s = some task → s.sec.fuse = none → s.sec.debugUnlocked = false →
    authAccepted 0x1A auth s = true → ∃ t, exec (.secSetPolicy tr auth) s = .next t ∧ t.sec.nonce = none ∧
      t.sec.fuse = some { tr := tr, write := .policy (bit (authOperand auth) 0) (bit (authOperand auth) 1), words := 1 }) ∧
  (∀ tr task auth n s, readyTask tr 0x1B s = some task → s.sec.fuse = none → authAccepted 0x1B auth s = true →
    n = authOperand auth % 128 → 1 ≤ n → n ≤ 64 → s.sec.svnMin ≤ n → n ≤ imageSvn 0 s → n ≤ imageSvn 1 s →
    ∃ t, exec (.secAdvanceSvn tr auth) s = .next t ∧ t.sec.nonce = none ∧
      t.sec.fuse = some { tr := tr, write := .svn n, words := 1 } ∧ t.sec.svnMin = s.sec.svnMin) ∧
  (∀ tr task s, readyTask tr 0x1C s = some task → s.sec.authFails < 8 → ∃ t nonce, exec (.secChallenge tr) s = .next t ∧
    t.sec.nonce = some nonce ∧ t.sec.nonceAt = s.tclk ∧ Tbl.look t.rings.tasks tr = none) ∧
  (∀ tr task auth s, readyTask tr 0x1D s = some task → s.sec.debugDisable = false → authAccepted 0x1D auth s = true →
    ∃ t, exec (.secDebugUnlock tr auth) s = .next t ∧ t.sec.debugUnlocked = true ∧ t.sec.unlockClass = authField auth 9 1 ∧
      t.power.tamperSticky = false ∧ Tbl.look t.rings.tasks tr = none) ∧
  (∀ f k d s, s.sec.fuse = some f → f.write = .enroll k d → 1 < f.words → ∃ t, exec .fuseWriteComplete s = .next t ∧
    t.sec.fuse = some { f with words := f.words - 1 } ∧ (keySlotOf k t).valid = false ∧
    (keySlotOf k t).digest = BitVec.ofNat 512 (d.toNat % 2 ^ (64 * (10 - f.words)))) ∧
  (∀ f k d s, s.sec.fuse = some f → f.write = .enroll k d → f.words = 1 → ∃ t, exec .fuseWriteComplete s = .next t ∧
    t.sec.fuse = none ∧ keySlotOf k t = { valid := true, revoked := false, spent := false, digest := d } ∧
    Tbl.look t.rings.tasks f.tr = none) ∧
  (∀ f k s, s.sec.fuse = some f → f.write = .revoke k → f.words = 1 → ∃ t, exec .fuseWriteComplete s = .next t ∧
    t.sec.fuse = none ∧ keySlotOf k t = { keySlotOf k s with revoked := true } ∧ Tbl.look t.rings.tasks f.tr = none) ∧
  (∀ f a b s, s.sec.fuse = some f → f.write = .policy a b → f.words = 1 → ∃ t, exec .fuseWriteComplete s = .next t ∧
    t.sec.fuse = none ∧ t.sec.requireSigned = (s.sec.requireSigned || a) ∧ t.sec.debugDisable = (s.sec.debugDisable || b) ∧
    Tbl.look t.rings.tasks f.tr = none) ∧
  (∀ f n s, s.sec.fuse = some f → f.write = .svn n → f.words = 1 → ∃ t, exec .fuseWriteComplete s = .next t ∧
    t.sec.fuse = none ∧ t.sec.svnMin = max s.sec.svnMin n ∧ Tbl.look t.rings.tasks f.tr = none)

/-- SPDM over DOE instance 0 (R516 to R518): each request of the negotiated sequence is answered, and what it establishes is
kept. It rests on the model's choices in logs 31, 58. -/
def Obligations.AttestationCommandsComplete : Prop :=
  (∀ s, doeServed s = true → ∃ t bytes, exec .spdmGetVersion s = .next t ∧ t.host.doe0 = some bytes ∧
    t.host.answer = .data bytes ∧ t.sec.spdm.version = true ∧ t.sec.spdm.caps = false ∧ t.sec.spdm.algs = false ∧
    t.sec.spdm.session = false) ∧
  (∀ s, doeServed s = true → s.sec.spdm.version = true → ∃ t bytes, exec .spdmGetCapabilities s = .next t ∧
    t.host.doe0 = some bytes ∧ t.host.answer = .data bytes ∧ t.sec.spdm.caps = true) ∧
  (∀ request s, doeServed s = true → s.sec.spdm.caps = true → ∃ t bytes, exec (.spdmNegotiateAlgorithms request) s = .next t ∧
    t.host.doe0 = some bytes ∧ t.host.answer = .data bytes ∧
    (t.sec.spdm.algs = true ↔ s.sec.spdm.algs = true ∨ (List.range 7).any (fun r => Config.spdmOffers r request) = true)) ∧
  (∀ offset len msg s, doeServed s = true → s.sec.spdm.algs = true →
    msg = Config.spdmBody 0x02 (leBytes 2 ((Config.certificateChain s.sec.measurement).length - offset))
      ++ ((Config.certificateChain s.sec.measurement).drop offset).take len →
    ∃ t bytes, exec (.spdmGetCertificate 0#8 offset len) s = .next t ∧ t.host.doe0 = some bytes ∧ t.host.answer = .data bytes ∧
      t.sec.spdm.transcript = s.sec.spdm.transcript ++ msg ∧ (msg.length ≤ 4096 → bytes = msg) ∧
      (4096 < msg.length → t.sec.spdm.chunks = msg ∧ t.sec.spdm.chunkSeq = 0)) ∧
  (∀ request s, doeServed s = true → s.sec.spdm.algs = true → ∃ t bytes, exec (.spdmChallenge request) s = .next t ∧
    t.host.doe0 = some bytes ∧ t.host.answer = .data bytes ∧ t.sec.spdm.session = s.sec.spdm.session ∧
    (s.sec.spdm.transcript ++ request) <+: t.sec.spdm.transcript) ∧
  (∀ (index : Byte) raw request s, doeServed s = true → s.sec.spdm.algs = true → (index.toNat ≤ 6 ∨ index = 0xFF#8) →
    ∃ t bytes, exec (.spdmGetMeasurements index raw request) s = .next t ∧ t.host.doe0 = some bytes ∧
      t.host.answer = .data bytes ∧ (s.sec.spdm.transcript ++ request) <+: t.sec.spdm.transcript) ∧
  (∀ request s, doeServed s = true → s.sec.spdm.algs = true → ∃ t bytes, exec (.spdmKeyExchange request) s = .next t ∧
    t.host.doe0 = some bytes ∧ t.host.answer = .data bytes ∧ t.sec.spdm.session = true) ∧
  (∀ request s, doeServed s = true → s.sec.spdm.algs = true → s.sec.spdm.session = true →
    exec (.spdmKeyUpdate request) s = .next (spdmSend (Config.spdmBody 0x69 request) s)) ∧
  (∀ s, doeServed s = true → s.sec.spdm.algs = true → s.sec.spdm.session = true →
    exec .spdmHeartbeat s = .next (spdmSend (Config.spdmBody 0x68 []) s)) ∧
  (∀ handle (seq : BitVec 16) s, doeServed s = true → s.sec.spdm.algs = true → s.sec.spdm.chunks ≠ [] →
    s.sec.spdm.chunkSeq = seq.toNat → ∃ t bytes, exec (.spdmChunkGet handle seq) s = .next t ∧ t.host.doe0 = some bytes ∧
      s.sec.spdm.chunks.take chunkBytes <:+ bytes ∧ t.sec.spdm.chunks = s.sec.spdm.chunks.drop chunkBytes ∧
      t.sec.spdm.chunkSeq = seq.toNat + 1)

/-- The Guest Book ring, the statistics windows and the management queries (R121 to R124, R526 to R533, R535). It rests on the
model's choices in logs 30, 59, 60. -/
def Obligations.EventCommandsComplete : Prop :=
  (∀ (value : W32) s, regWorks 1 true s = true → s.evt.running = false → 63 ≤ bits value.toNat 15 0 →
    (bits value.toNat 27 16 ≤ 2047 ∨ bits value.toNat 27 16 = 0xFFF) → s.evt.base % 4096 = 0 → s.evt.buffer = [] →
    s.evt.lostPending = 0 → ∃ t, exec (.gbRingStart value) s = .next t ∧ t.evt.running = true ∧ t.evt.enable = true ∧
      t.evt.depthM1 = bits value.toNat 15 0 ∧ t.evt.vector = bits value.toNat 27 16 ∧ t.evt.head = 0 ∧ t.evt.tail = 0 ∧
      t.evt.phase = true) ∧
  (∀ (value : W32) s, regWorks 1 true s = true → s.evt.running = false →
    (bits value.toNat 15 0 < 63 ∨ 2047 < bits value.toNat 27 16 ∧ bits value.toNat 27 16 ≠ 0xFFF) →
    ∃ t, exec (.gbRingStart value) s = .next t ∧ t.evt.running = false ∧ t.evt.refused = true) ∧
  (∀ (value : W32) s, regWorks 1 true s = true → ∃ t, exec (.gbRingStop value) s = .next t ∧ t.evt.running = false ∧
    t.evt.enable = false) ∧
  (∀ (value : W32) h s, regWorks 1 true s = true → s.evt.running = true → h = bits value.toNat 15 0 → h ≤ s.evt.depthM1 →
    (h + (s.evt.depthM1 + 1) - s.evt.head) % (s.evt.depthM1 + 1) ≤ gbUnreleased s.evt →
    ∃ t, exec (.gbHeadWrite value) s = .next t ∧ t.evt.head = h ∧ t.evt.headErr = s.evt.headErr) ∧
  (∀ (value : W32) h s, regWorks 1 true s = true → s.evt.running = true → h = bits value.toNat 15 0 →
    (s.evt.depthM1 < h ∨ gbUnreleased s.evt < (h + (s.evt.depthM1 + 1) - s.evt.head) % (s.evt.depthM1 + 1)) →
    ∃ t, exec (.gbHeadWrite value) s = .next t ∧ t.evt = { s.evt with headErr := true }) ∧
  (∀ s, ∃ t, exec .gbCopyBudgetTick s = .next t ∧ t.evt = { s.evt with credits := min 256 (s.evt.credits + 4) }) ∧
  (∀ value s, regWorks 7 false s = true → ∃ t, exec (.qstatCtrlWrite value) s = .next t ∧ t.tensor.qctrl = value ∧
    t.tensor.qctrlInUse = value ∧ t.tensor.qbanks = [] ∧ t.tensor.qseq = (s.tensor.qseq + 1) % 2 ^ 32 ∧
    ∀ n < 128, Tbl.look t.tensor.qshadows n = some (Tbl.lookD s.tensor.qbanks n QBank.zero, ownerTag s)) ∧
  (∀ s, winMode s.tensor.qctrlInUse = 1 → ∃ t, exec .qstatWindowLatch s = .next t ∧ t.tensor.qbanks = [] ∧
    t.tensor.qctrlInUse = s.tensor.qctrl ∧ t.tensor.qseq = (s.tensor.qseq + 1) % 2 ^ 32 ∧
    ∀ n < 128, Tbl.look t.tensor.qshadows n = some (Tbl.lookD s.tensor.qbanks n QBank.zero, ownerTag s)) ∧
  (∀ (bank : Fin 7) value s, regWorks 1 true s = true →
    ∃ t, exec (.evtWinCtrlWrite bank value) s = .next t ∧ (winOf bank.val t).inUse = value &&& 0xFF000000#32 ∧
      (winOf bank.val t).reg = value &&& 0xFF000000#32 ∧ (winOf bank.val t).seq = ((winOf bank.val s).seq + 1) % 2 ^ 32 ∧
      ∀ inst < 128, ∀ k < 32, Tbl.lookD t.evt.shadows (ctrKey bank.val inst k) 0
          = Tbl.lookD s.evt.counters (ctrKey bank.val inst k) 0 ∧
        Tbl.look t.evt.counters (ctrKey bank.val inst k) = none) ∧
  (∀ (bank : Fin 7) s, winMode (winOf bank.val s).inUse = 1 → ∃ t, exec (.statsWindowEnd bank) s = .next t ∧
    (winOf bank.val t).inUse = (winOf bank.val s).reg ∧ (winOf bank.val t).seq = ((winOf bank.val s).seq + 1) % 2 ^ 32 ∧
    ∀ inst < 128, ∀ k < 32, Tbl.lookD t.evt.shadows (ctrKey bank.val inst k) 0
        = Tbl.lookD s.evt.counters (ctrKey bank.val inst k) 0 ∧
      Tbl.look t.evt.counters (ctrKey bank.val inst k) = none) ∧
  (∀ value s, regWorks 1 true s = true → ∃ t, exec (.evtCtrSelWrite value) s = .next t ∧
    t.evt = { s.evt with ctrSel := value &&& 0x0007007F#32 }) ∧
  (∀ (request : List Byte) first count s, doeServed s = true → request.take 4 = [0x01#8, 0xFE#8, 0x00#8, 0x00#8] →
    first = leNat ((request.drop 4).take 4) → count = leNat ((request.drop 8).take 2) → 1 ≤ count → count ≤ 2000 →
    ∃ t, exec (.gbRead request) s = .next t ∧ t.host.doe1 = some ((((copyAll s.cfl).filter
      (fun v => !seqNewer first (recSeq v))).take count).flatMap (leBytes 32))) ∧
  (∀ (request : List Byte) s, doeServed s = true → request.take 4 = [0x02#8, 0xFD#8, 0x00#8, 0x00#8] →
    ∃ t, exec (.telemetryRead request) s = .next t ∧ t.host.doe1 = some ((List.range 106).flatMap (fun i => leBytes 4 (evtTemp i s))
      ++ leBytes 8 (evtInput s) ++ leBytes 4 (throttleStatus s)) ∧ t.power = s.power) ∧
  (∀ (request : List Byte) bank inst s, doeServed s = true → request.take 4 = [0x03#8, 0xFC#8, 0x00#8, 0x00#8] →
    bank = (request.getD 4 0#8).toNat → inst = (request.getD 5 0#8).toNat → inst < bankInstances bank →
    ∃ t, exec (.counterRead request) s = .next t ∧ t.host.doe1 = some (leBytes 4 (winOf bank s).seq
      ++ (List.range 32).flatMap (fun k => leBytes 8 (shadowWord bank inst k s))) ∧ t.evt = s.evt)
end

