-- ==== Sys2Proof/Laws/Data.lean ====
section
/-! SUPPORT. Laws of tables and byte memories: reading after writing, and the canonical form. -/

namespace Sys2Proof.Machine

/-! Tables. -/

@[simp] theorem Tbl.look_put_self {α : Type} (t : Tbl α) (k : Nat) (v : α) : Tbl.look (Tbl.put t k v) k = some v := by
  induction t with
  | nil => simp [Tbl.put, Tbl.look]
  | cons p t ih =>
    obtain ⟨j, w⟩ := p
    simp only [Tbl.put]
    split
    · simp [Tbl.look]
    · split
      · simp [Tbl.look]
      · rename_i h1 h2
        simp [Tbl.look, ih, Ne.symm h2]

theorem Tbl.look_put_ne {α : Type} (t : Tbl α) {k j : Nat} (v : α) (h : j ≠ k) : Tbl.look (Tbl.put t k v) j = Tbl.look t j := by
  induction t with
  | nil => simp [Tbl.put, Tbl.look, Ne.symm h]
  | cons p t ih =>
    obtain ⟨i, w⟩ := p
    simp only [Tbl.put]
    split
    · simp [Tbl.look, Ne.symm h]
    · split
      · rename_i h2
        subst h2
        simp [Tbl.look, Ne.symm h]
      · simp [Tbl.look, ih]

@[simp] theorem Tbl.look_del_self {α : Type} (t : Tbl α) (k : Nat) : Tbl.look (Tbl.del t k) k = none := by
  induction t with
  | nil => rfl
  | cons p t ih =>
    obtain ⟨j, w⟩ := p
    simp only [Tbl.del, List.filter_cons] at ih ⊢
    by_cases h : j = k
    · subst h
      simpa using ih
    · simpa [h, Tbl.look] using ih

theorem Tbl.look_del_ne {α : Type} (t : Tbl α) {k j : Nat} (h : j ≠ k) : Tbl.look (Tbl.del t k) j = Tbl.look t j := by
  induction t with
  | nil => rfl
  | cons p t ih =>
    obtain ⟨i, w⟩ := p
    simp only [Tbl.del, List.filter_cons] at ih ⊢
    by_cases hi : i = k
    · subst hi
      simpa [Tbl.look, Ne.symm h] using ih
    · simp [hi, Tbl.look, ih]

theorem Tbl.look_adjust_self {α : Type} (t : Tbl α) (k : Nat) (f : α → α) : Tbl.look (Tbl.adjust t k f) k = (Tbl.look t k).map f := by
  simp only [Tbl.adjust]
  split <;> simp_all

theorem Tbl.look_adjust_ne {α : Type} (t : Tbl α) {k j : Nat} (f : α → α) (h : j ≠ k) :
    Tbl.look (Tbl.adjust t k f) j = Tbl.look t j := by
  simp only [Tbl.adjust]
  split
  · exact Tbl.look_put_ne t _ h
  · rfl

theorem Tbl.look_filter {α : Type} (t : Tbl α) (f : Nat → Bool) (k : Nat) :
    Tbl.look (t.filter (fun p => f p.1)) k = if f k then Tbl.look t k else none := by
  induction t with
  | nil => simp [Tbl.look]
  | cons p t ih =>
    obtain ⟨j, w⟩ := p
    by_cases hj : f j = true
    · by_cases h : j = k
      · subst h
        simp [hj, Tbl.look]
      · simp [hj, Tbl.look, h, ih]
    · by_cases h : j = k
      · subst h
        simp [hj, ih]
      · simp [hj, Tbl.look, h, ih]

theorem Tbl.look_append {α : Type} (t u : Tbl α) (k : Nat) :
    Tbl.look (t ++ u) k = (Tbl.look t k).orElse (fun _ => Tbl.look u k) := by
  induction t with
  | nil => rfl
  | cons p t ih =>
    obtain ⟨j, w⟩ := p
    by_cases h : j = k <;> simp [Tbl.look, h, ih]

/-- Rising keys, as a relation between any two entries. -/
theorem Tbl.sorted_iff {α : Type} (t : Tbl α) : Tbl.sorted t = true ↔ t.Pairwise (fun p q => p.1 < q.1) := by
  induction t with
  | nil => simp [Tbl.sorted]
  | cons p t ih =>
    cases t with
    | nil => simp [Tbl.sorted]
    | cons q t =>
      simp only [Tbl.sorted, Bool.and_eq_true, decide_eq_true_eq, ih]
      constructor
      · rintro ⟨h1, h2⟩
        refine List.pairwise_cons.2 ⟨fun x hx => ?_, h2⟩
        rcases List.mem_cons.1 hx with rfl | hx
        · exact h1
        · exact lt_trans h1 ((List.pairwise_cons.1 h2).1 x hx)
      · intro h
        exact ⟨(List.pairwise_cons.1 h).1 q (by simp), (List.pairwise_cons.1 h).2⟩

theorem Tbl.sorted_filter {α : Type} (t : Tbl α) (f : Nat × α → Bool) (h : Tbl.sorted t = true) :
    Tbl.sorted (t.filter f) = true := by
  rw [Tbl.sorted_iff] at h ⊢
  exact h.filter _

theorem Tbl.sorted_del {α : Type} (t : Tbl α) (k : Nat) (h : Tbl.sorted t = true) : Tbl.sorted (Tbl.del t k) = true :=
  Tbl.sorted_filter t _ h

theorem Tbl.mem_put {α : Type} {t : Tbl α} {k : Nat} {v : α} {p : Nat × α} (h : p ∈ Tbl.put t k v) : p = (k, v) ∨ p ∈ t := by
  induction t with
  | nil => simpa [Tbl.put] using h
  | cons q t ih =>
    obtain ⟨j, w⟩ := q
    simp only [Tbl.put] at h
    split at h
    · simpa using h
    · split at h
      · rcases List.mem_cons.1 h with h | h
        · exact .inl h
        · exact .inr (List.mem_cons_of_mem _ h)
      · rcases List.mem_cons.1 h with h | h
        · exact .inr (by simp [h])
        · rcases ih h with h | h
          · exact .inl h
          · exact .inr (List.mem_cons_of_mem _ h)

theorem Tbl.sorted_put {α : Type} (t : Tbl α) (k : Nat) (v : α) (h : Tbl.sorted t = true) : Tbl.sorted (Tbl.put t k v) = true := by
  rw [Tbl.sorted_iff] at h ⊢
  induction t with
  | nil => simp [Tbl.put]
  | cons q t ih =>
    obtain ⟨j, w⟩ := q
    obtain ⟨h1, h2⟩ := List.pairwise_cons.1 h
    simp only [Tbl.put]
    split
    · rename_i hk
      refine List.pairwise_cons.2 ⟨fun x hx => ?_, h⟩
      rcases List.mem_cons.1 hx with rfl | hx
      · exact hk
      · exact lt_trans hk (h1 x hx)
    · split
      · rename_i _ hk
        subst hk
        exact List.pairwise_cons.2 ⟨h1, h2⟩
      · rename_i ha hb
        refine List.pairwise_cons.2 ⟨fun x hx => ?_, ih h2⟩
        rcases Tbl.mem_put hx with rfl | hx
        · change j < k
          omega
        · exact h1 x hx

/-! Byte memories. -/

theorem Mem.cells_keys (d : Nat → Byte) (a : Nat) (bs : List Byte) :
    ∀ c ∈ Mem.cells d a bs, a ≤ c.1 ∧ c.1 < a + bs.length ∧ c.2 ≠ d c.1 := by
  induction bs generalizing a with
  | nil => simp [Mem.cells]
  | cons b bs ih =>
    intro c hc
    simp only [Mem.cells] at hc
    split at hc
    · obtain ⟨h1, h2, h3⟩ := ih (a + 1) c hc
      simp only [List.length_cons]
      exact ⟨by omega, by omega, h3⟩
    · rcases List.mem_cons.1 hc with rfl | hc
      · simp_all
      · obtain ⟨h1, h2, h3⟩ := ih (a + 1) c hc
        simp only [List.length_cons]
        exact ⟨by omega, by omega, h3⟩

theorem Mem.cells_sorted (d : Nat → Byte) (a : Nat) (bs : List Byte) :
    (Mem.cells d a bs).Pairwise (fun p q => p.1 < q.1) := by
  induction bs generalizing a with
  | nil => simp [Mem.cells]
  | cons b bs ih =>
    simp only [Mem.cells]
    split
    · exact ih _
    · refine List.pairwise_cons.2 ⟨fun x hx => ?_, ih _⟩
      have := (Mem.cells_keys d (a + 1) bs x hx).1
      exact lt_of_lt_of_le (Nat.lt_succ_self a) this

theorem Mem.look_cells (d : Nat → Byte) (a : Nat) (bs : List Byte) (i : Nat) (h : i < bs.length) :
    (Tbl.look (Mem.cells d a bs) (a + i)).getD (d (a + i)) = bs[i] := by
  induction bs generalizing a i with
  | nil => simp at h
  | cons b bs ih =>
    cases i with
    | zero =>
      simp only [Mem.cells, Nat.add_zero]
      split
      · rename_i hb
        have hn : Tbl.look (Mem.cells d (a + 1) bs) a = none := by
          by_contra hc
          obtain ⟨v, hv⟩ := Option.ne_none_iff_exists'.1 hc
          have : ∀ (t : Mem), Tbl.look t a = some v → ∃ c ∈ t, c.1 = a := by
            intro t
            induction t with
            | nil => simp [Tbl.look]
            | cons p t iht =>
              obtain ⟨j, w⟩ := p
              intro ht
              simp only [Tbl.look] at ht
              split at ht
              · exact ⟨(j, w), by simp, by assumption⟩
              · obtain ⟨c, hc, hca⟩ := iht ht
                exact ⟨c, List.mem_cons_of_mem _ hc, hca⟩
          obtain ⟨c, hc, hca⟩ := this _ hv
          have := (Mem.cells_keys d (a + 1) bs c hc).1
          omega
        simp [hn, hb]
      · simp [Tbl.look]
    | succ i =>
      have e : a + (i + 1) = a + 1 + i := by omega
      have h' : i < bs.length := by simpa using h
      simp only [Mem.cells, e]
      split
      · simpa using ih (a + 1) i h'
      · have hne : a ≠ a + 1 + i := by omega
        simpa [Tbl.look, hne] using ih (a + 1) i h'

theorem Mem.look_cells_out (d : Nat → Byte) (a x : Nat) (bs : List Byte) (h : x < a ∨ a + bs.length ≤ x) :
    Tbl.look (Mem.cells d a bs) x = none := by
  induction bs generalizing a with
  | nil => rfl
  | cons b bs ih =>
    simp only [List.length_cons] at h
    simp only [Mem.cells]
    have hne : a ≠ x := by omega
    split
    · exact ih (a + 1) (by omega)
    · simp only [Tbl.look, hne, if_false]
      exact ih (a + 1) (by omega)

/-- A byte that was stored reads back. -/
theorem Mem.byte_write_in (d : Nat → Byte) (m : Mem) (a i : Nat) (bs : List Byte) (h : i < bs.length) :
    Mem.byte d (Mem.write d m a bs) (a + i) = bs[i] := by
  have h1 : Tbl.look (m.filter (fun c => decide (c.1 < a))) (a + i) = none := by
    simpa using Tbl.look_filter m (fun k => decide (k < a)) (a + i)
  have h3 : Tbl.look (m.filter (fun c => decide (a + bs.length ≤ c.1))) (a + i) = none := by
    rw [Tbl.look_filter m (fun k => decide (a + bs.length ≤ k)) (a + i)]
    have : ¬ (a + bs.length ≤ a + i) := by omega
    simp [this]
  simp only [Mem.byte, Tbl.lookD, Mem.write, Tbl.look_append, h1, h3]
  have := Mem.look_cells d a bs i h
  cases hl : Tbl.look (Mem.cells d a bs) (a + i) <;> simp_all

/-- A byte outside the stored range reads as before. -/
theorem Mem.byte_write_out (d : Nat → Byte) (m : Mem) (a x : Nat) (bs : List Byte) (h : x < a ∨ a + bs.length ≤ x) :
    Mem.byte d (Mem.write d m a bs) x = Mem.byte d m x := by
  simp only [Mem.byte, Tbl.lookD, Mem.write, Tbl.look_append, Mem.look_cells_out d a x bs h,
    Tbl.look_filter m (fun k => decide (k < a)) x, Tbl.look_filter m (fun k => decide (a + bs.length ≤ k)) x]
  rcases h with h | h
  · have : ¬ (a + bs.length ≤ x) := by omega
    simp [h, this]
  · have : ¬ (x < a) := by omega
    simp [h, this]

/-- The bytes that were stored read back. -/
theorem Mem.read_write (d : Nat → Byte) (m : Mem) (a : Nat) (bs : List Byte) :
    Mem.read d (Mem.write d m a bs) a bs.length = bs := by
  apply List.ext_getElem
  · simp [Mem.read]
  · intro i h1 h2
    simp [Mem.read, Mem.byte_write_in d m a i bs h2]

theorem Mem.wf_iff (d : Nat → Byte) (m : Mem) :
    Mem.wf d m = true ↔ m.Pairwise (fun p q => p.1 < q.1) ∧ ∀ c ∈ m, c.2 ≠ d c.1 := by
  simp [Mem.wf, Tbl.sorted_iff]

/-- A store keeps the canonical form. -/
theorem Mem.wf_write (d : Nat → Byte) (m : Mem) (a : Nat) (bs : List Byte) (h : Mem.wf d m = true) :
    Mem.wf d (Mem.write d m a bs) = true := by
  rw [Mem.wf_iff] at h ⊢
  obtain ⟨hs, hd⟩ := h
  constructor
  · simp only [Mem.write]
    refine List.pairwise_append.2 ⟨List.pairwise_append.2 ⟨hs.filter _, Mem.cells_sorted d a bs, ?_⟩, hs.filter _, ?_⟩
    · intro x hx y hy
      have h1 : x.1 < a := by simpa using (List.mem_filter.1 hx).2
      have h2 := (Mem.cells_keys d a bs y hy).1
      omega
    · intro x hx y hy
      have h2 : a + bs.length ≤ y.1 := by simpa using (List.mem_filter.1 hy).2
      rcases List.mem_append.1 hx with hx | hx
      · have h1 : x.1 < a := by simpa using (List.mem_filter.1 hx).2
        omega
      · have h1 := (Mem.cells_keys d a bs x hx).2.1
        omega
  · intro c hc
    simp only [Mem.write, List.mem_append] at hc
    rcases hc with (hc | hc) | hc
    · exact hd c (List.mem_filter.1 hc).1
    · exact (Mem.cells_keys d a bs c hc).2.2
    · exact hd c (List.mem_filter.1 hc).1

/-- Taking cells away keeps the canonical form. -/
theorem Mem.wf_filter (d : Nat → Byte) (m : Mem) (f : Host.Cell → Bool) (h : Mem.wf d m = true) : Mem.wf d (m.filter f) = true := by
  rw [Mem.wf_iff] at h ⊢
  exact ⟨h.1.filter _, fun c hc => h.2 c (List.mem_filter.1 hc).1⟩

/-- Memories after reset list nothing, and so are canonical. -/
theorem reset_memories_canonical :
    Mem.wf zeroByte State.reset.mem.stacked = true ∧ Mem.wf zeroByte State.reset.mem.shared = true ∧
      Mem.wf zeroByte State.reset.host.mem = true ∧ State.reset.tensor.tiles = [] := by
  decide

end Sys2Proof.Machine
end

