-- ==== Sys2Proof/Laws/Folds.lean ====
section
/-! SUPPORT. Folds over a list, and choices, keep a part of the state that every branch keeps. -/

namespace Sys2Proof.Machine

@[simp] theorem foldl_pending {α : Type} (f : State → α → State) (h : ∀ x a, (f x a).pending = x.pending) (l : List α) (s : State) :
    (l.foldl f s).pending = s.pending := by
  induction l generalizing s with
  | nil => rfl
  | cons a l ih => rw [List.foldl_cons, ih, h]

@[simp] theorem foldl_tclk {α : Type} (f : State → α → State) (h : ∀ x a, (f x a).tclk = x.tclk) (l : List α) (s : State) :
    (l.foldl f s).tclk = s.tclk := by
  induction l generalizing s with
  | nil => rfl
  | cons a l ih => rw [List.foldl_cons, ih, h]

@[simp] theorem foldl_gZero {α : Type} (f : State → α → State) (h : ∀ x a, (f x a).gZero = x.gZero) (l : List α) (s : State) :
    (l.foldl f s).gZero = s.gZero := by
  induction l generalizing s with
  | nil => rfl
  | cons a l ih => rw [List.foldl_cons, ih, h]

@[simp] theorem foldl_drawn {α : Type} (f : State → α → State) (h : ∀ x a, (f x a).drawn = x.drawn) (l : List α) (s : State) :
    (l.foldl f s).drawn = s.drawn := by
  induction l generalizing s with
  | nil => rfl
  | cons a l ih => rw [List.foldl_cons, ih, h]

@[simp] theorem foldl_power {α : Type} (f : State → α → State) (h : ∀ x a, (f x a).power = x.power) (l : List α) (s : State) :
    (l.foldl f s).power = s.power := by
  induction l generalizing s with
  | nil => rfl
  | cons a l ih => rw [List.foldl_cons, ih, h]

@[simp] theorem foldl_boot {α : Type} (f : State → α → State) (h : ∀ x a, (f x a).boot = x.boot) (l : List α) (s : State) :
    (l.foldl f s).boot = s.boot := by
  induction l generalizing s with
  | nil => rfl
  | cons a l ih => rw [List.foldl_cons, ih, h]

@[simp] theorem foldl_host {α : Type} (f : State → α → State) (h : ∀ x a, (f x a).host = x.host) (l : List α) (s : State) :
    (l.foldl f s).host = s.host := by
  induction l generalizing s with
  | nil => rfl
  | cons a l ih => rw [List.foldl_cons, ih, h]

@[simp] theorem foldl_rings {α : Type} (f : State → α → State) (h : ∀ x a, (f x a).rings = x.rings) (l : List α) (s : State) :
    (l.foldl f s).rings = s.rings := by
  induction l generalizing s with
  | nil => rfl
  | cons a l ih => rw [List.foldl_cons, ih, h]

@[simp] theorem foldl_evt {α : Type} (f : State → α → State) (h : ∀ x a, (f x a).evt = x.evt) (l : List α) (s : State) :
    (l.foldl f s).evt = s.evt := by
  induction l generalizing s with
  | nil => rfl
  | cons a l ih => rw [List.foldl_cons, ih, h]

@[simp] theorem foldl_tensor {α : Type} (f : State → α → State) (h : ∀ x a, (f x a).tensor = x.tensor) (l : List α) (s : State) :
    (l.foldl f s).tensor = s.tensor := by
  induction l generalizing s with
  | nil => rfl
  | cons a l ih => rw [List.foldl_cons, ih, h]

@[simp] theorem foldl_mem {α : Type} (f : State → α → State) (h : ∀ x a, (f x a).mem = x.mem) (l : List α) (s : State) :
    (l.foldl f s).mem = s.mem := by
  induction l generalizing s with
  | nil => rfl
  | cons a l ih => rw [List.foldl_cons, ih, h]

@[simp] theorem foldl_ecc {α : Type} (f : State → α → State) (h : ∀ x a, (f x a).ecc = x.ecc) (l : List α) (s : State) :
    (l.foldl f s).ecc = s.ecc := by
  induction l generalizing s with
  | nil => rfl
  | cons a l ih => rw [List.foldl_cons, ih, h]

@[simp] theorem foldl_spaces {α : Type} (f : State → α → State) (h : ∀ x a, (f x a).spaces = x.spaces) (l : List α) (s : State) :
    (l.foldl f s).spaces = s.spaces := by
  induction l generalizing s with
  | nil => rfl
  | cons a l ih => rw [List.foldl_cons, ih, h]

@[simp] theorem foldl_flash {α : Type} (f : State → α → State) (h : ∀ x a, (f x a).flash = x.flash) (l : List α) (s : State) :
    (l.foldl f s).flash = s.flash := by
  induction l generalizing s with
  | nil => rfl
  | cons a l ih => rw [List.foldl_cons, ih, h]

@[simp] theorem foldl_fabric {α : Type} (f : State → α → State) (h : ∀ x a, (f x a).fabric = x.fabric) (l : List α) (s : State) :
    (l.foldl f s).fabric = s.fabric := by
  induction l generalizing s with
  | nil => rfl
  | cons a l ih => rw [List.foldl_cons, ih, h]

@[simp] theorem foldl_embed {α : Type} (f : State → α → State) (h : ∀ x a, (f x a).embed = x.embed) (l : List α) (s : State) :
    (l.foldl f s).embed = s.embed := by
  induction l generalizing s with
  | nil => rfl
  | cons a l ih => rw [List.foldl_cons, ih, h]

@[simp] theorem foldl_ralid {α : Type} (f : State → α → State) (h : ∀ x a, (f x a).ralid = x.ralid) (l : List α) (s : State) :
    (l.foldl f s).ralid = s.ralid := by
  induction l generalizing s with
  | nil => rfl
  | cons a l ih => rw [List.foldl_cons, ih, h]

@[simp] theorem foldl_cfl {α : Type} (f : State → α → State) (h : ∀ x a, (f x a).cfl = x.cfl) (l : List α) (s : State) :
    (l.foldl f s).cfl = s.cfl := by
  induction l generalizing s with
  | nil => rfl
  | cons a l ih => rw [List.foldl_cons, ih, h]

@[simp] theorem foldl_sec {α : Type} (f : State → α → State) (h : ∀ x a, (f x a).sec = x.sec) (l : List α) (s : State) :
    (l.foldl f s).sec = s.sec := by
  induction l generalizing s with
  | nil => rfl
  | cons a l ih => rw [List.foldl_cons, ih, h]

@[simp] theorem foldl_snd_pending {α β : Type} (f : β × State → α → β × State) (h : ∀ x a, (f x a).2.pending = x.2.pending) (l : List α) (s : β × State) :
    (l.foldl f s).2.pending = s.2.pending := by
  induction l generalizing s with
  | nil => rfl
  | cons a l ih => rw [List.foldl_cons, ih, h]

@[simp] theorem foldl_snd_tclk {α β : Type} (f : β × State → α → β × State) (h : ∀ x a, (f x a).2.tclk = x.2.tclk) (l : List α) (s : β × State) :
    (l.foldl f s).2.tclk = s.2.tclk := by
  induction l generalizing s with
  | nil => rfl
  | cons a l ih => rw [List.foldl_cons, ih, h]

@[simp] theorem foldl_snd_gZero {α β : Type} (f : β × State → α → β × State) (h : ∀ x a, (f x a).2.gZero = x.2.gZero) (l : List α) (s : β × State) :
    (l.foldl f s).2.gZero = s.2.gZero := by
  induction l generalizing s with
  | nil => rfl
  | cons a l ih => rw [List.foldl_cons, ih, h]

@[simp] theorem foldl_snd_drawn {α β : Type} (f : β × State → α → β × State) (h : ∀ x a, (f x a).2.drawn = x.2.drawn) (l : List α) (s : β × State) :
    (l.foldl f s).2.drawn = s.2.drawn := by
  induction l generalizing s with
  | nil => rfl
  | cons a l ih => rw [List.foldl_cons, ih, h]

@[simp] theorem foldl_snd_power {α β : Type} (f : β × State → α → β × State) (h : ∀ x a, (f x a).2.power = x.2.power) (l : List α) (s : β × State) :
    (l.foldl f s).2.power = s.2.power := by
  induction l generalizing s with
  | nil => rfl
  | cons a l ih => rw [List.foldl_cons, ih, h]

@[simp] theorem foldl_snd_boot {α β : Type} (f : β × State → α → β × State) (h : ∀ x a, (f x a).2.boot = x.2.boot) (l : List α) (s : β × State) :
    (l.foldl f s).2.boot = s.2.boot := by
  induction l generalizing s with
  | nil => rfl
  | cons a l ih => rw [List.foldl_cons, ih, h]

@[simp] theorem foldl_snd_host {α β : Type} (f : β × State → α → β × State) (h : ∀ x a, (f x a).2.host = x.2.host) (l : List α) (s : β × State) :
    (l.foldl f s).2.host = s.2.host := by
  induction l generalizing s with
  | nil => rfl
  | cons a l ih => rw [List.foldl_cons, ih, h]

@[simp] theorem foldl_snd_rings {α β : Type} (f : β × State → α → β × State) (h : ∀ x a, (f x a).2.rings = x.2.rings) (l : List α) (s : β × State) :
    (l.foldl f s).2.rings = s.2.rings := by
  induction l generalizing s with
  | nil => rfl
  | cons a l ih => rw [List.foldl_cons, ih, h]

@[simp] theorem foldl_snd_evt {α β : Type} (f : β × State → α → β × State) (h : ∀ x a, (f x a).2.evt = x.2.evt) (l : List α) (s : β × State) :
    (l.foldl f s).2.evt = s.2.evt := by
  induction l generalizing s with
  | nil => rfl
  | cons a l ih => rw [List.foldl_cons, ih, h]

@[simp] theorem foldl_snd_tensor {α β : Type} (f : β × State → α → β × State) (h : ∀ x a, (f x a).2.tensor = x.2.tensor) (l : List α) (s : β × State) :
    (l.foldl f s).2.tensor = s.2.tensor := by
  induction l generalizing s with
  | nil => rfl
  | cons a l ih => rw [List.foldl_cons, ih, h]

@[simp] theorem foldl_snd_mem {α β : Type} (f : β × State → α → β × State) (h : ∀ x a, (f x a).2.mem = x.2.mem) (l : List α) (s : β × State) :
    (l.foldl f s).2.mem = s.2.mem := by
  induction l generalizing s with
  | nil => rfl
  | cons a l ih => rw [List.foldl_cons, ih, h]

@[simp] theorem foldl_snd_ecc {α β : Type} (f : β × State → α → β × State) (h : ∀ x a, (f x a).2.ecc = x.2.ecc) (l : List α) (s : β × State) :
    (l.foldl f s).2.ecc = s.2.ecc := by
  induction l generalizing s with
  | nil => rfl
  | cons a l ih => rw [List.foldl_cons, ih, h]

@[simp] theorem foldl_snd_spaces {α β : Type} (f : β × State → α → β × State) (h : ∀ x a, (f x a).2.spaces = x.2.spaces) (l : List α) (s : β × State) :
    (l.foldl f s).2.spaces = s.2.spaces := by
  induction l generalizing s with
  | nil => rfl
  | cons a l ih => rw [List.foldl_cons, ih, h]

@[simp] theorem foldl_snd_flash {α β : Type} (f : β × State → α → β × State) (h : ∀ x a, (f x a).2.flash = x.2.flash) (l : List α) (s : β × State) :
    (l.foldl f s).2.flash = s.2.flash := by
  induction l generalizing s with
  | nil => rfl
  | cons a l ih => rw [List.foldl_cons, ih, h]

@[simp] theorem foldl_snd_fabric {α β : Type} (f : β × State → α → β × State) (h : ∀ x a, (f x a).2.fabric = x.2.fabric) (l : List α) (s : β × State) :
    (l.foldl f s).2.fabric = s.2.fabric := by
  induction l generalizing s with
  | nil => rfl
  | cons a l ih => rw [List.foldl_cons, ih, h]

@[simp] theorem foldl_snd_embed {α β : Type} (f : β × State → α → β × State) (h : ∀ x a, (f x a).2.embed = x.2.embed) (l : List α) (s : β × State) :
    (l.foldl f s).2.embed = s.2.embed := by
  induction l generalizing s with
  | nil => rfl
  | cons a l ih => rw [List.foldl_cons, ih, h]

@[simp] theorem foldl_snd_ralid {α β : Type} (f : β × State → α → β × State) (h : ∀ x a, (f x a).2.ralid = x.2.ralid) (l : List α) (s : β × State) :
    (l.foldl f s).2.ralid = s.2.ralid := by
  induction l generalizing s with
  | nil => rfl
  | cons a l ih => rw [List.foldl_cons, ih, h]

@[simp] theorem foldl_snd_cfl {α β : Type} (f : β × State → α → β × State) (h : ∀ x a, (f x a).2.cfl = x.2.cfl) (l : List α) (s : β × State) :
    (l.foldl f s).2.cfl = s.2.cfl := by
  induction l generalizing s with
  | nil => rfl
  | cons a l ih => rw [List.foldl_cons, ih, h]

@[simp] theorem foldl_snd_sec {α β : Type} (f : β × State → α → β × State) (h : ∀ x a, (f x a).2.sec = x.2.sec) (l : List α) (s : β × State) :
    (l.foldl f s).2.sec = s.2.sec := by
  induction l generalizing s with
  | nil => rfl
  | cons a l ih => rw [List.foldl_cons, ih, h]

theorem snd_of_eq {α β : Type} {x : α × β} {a : α} {b : β} (h : x = (a, b)) : b = x.2 := by rw [h]

@[simp] theorem ite_pending (p : Prop) [Decidable p] (a b : State) : (if p then a else b).pending = if p then a.pending else b.pending := by
  split <;> rfl

@[simp] theorem ite_tclk (p : Prop) [Decidable p] (a b : State) : (if p then a else b).tclk = if p then a.tclk else b.tclk := by
  split <;> rfl

@[simp] theorem ite_gZero (p : Prop) [Decidable p] (a b : State) : (if p then a else b).gZero = if p then a.gZero else b.gZero := by
  split <;> rfl

@[simp] theorem ite_drawn (p : Prop) [Decidable p] (a b : State) : (if p then a else b).drawn = if p then a.drawn else b.drawn := by
  split <;> rfl

@[simp] theorem ite_power (p : Prop) [Decidable p] (a b : State) : (if p then a else b).power = if p then a.power else b.power := by
  split <;> rfl

@[simp] theorem ite_boot (p : Prop) [Decidable p] (a b : State) : (if p then a else b).boot = if p then a.boot else b.boot := by
  split <;> rfl

@[simp] theorem ite_host (p : Prop) [Decidable p] (a b : State) : (if p then a else b).host = if p then a.host else b.host := by
  split <;> rfl

@[simp] theorem ite_rings (p : Prop) [Decidable p] (a b : State) : (if p then a else b).rings = if p then a.rings else b.rings := by
  split <;> rfl

@[simp] theorem ite_evt (p : Prop) [Decidable p] (a b : State) : (if p then a else b).evt = if p then a.evt else b.evt := by
  split <;> rfl

@[simp] theorem ite_tensor (p : Prop) [Decidable p] (a b : State) : (if p then a else b).tensor = if p then a.tensor else b.tensor := by
  split <;> rfl

@[simp] theorem ite_mem (p : Prop) [Decidable p] (a b : State) : (if p then a else b).mem = if p then a.mem else b.mem := by
  split <;> rfl

@[simp] theorem ite_ecc (p : Prop) [Decidable p] (a b : State) : (if p then a else b).ecc = if p then a.ecc else b.ecc := by
  split <;> rfl

@[simp] theorem ite_spaces (p : Prop) [Decidable p] (a b : State) : (if p then a else b).spaces = if p then a.spaces else b.spaces := by
  split <;> rfl

@[simp] theorem ite_flash (p : Prop) [Decidable p] (a b : State) : (if p then a else b).flash = if p then a.flash else b.flash := by
  split <;> rfl

@[simp] theorem ite_fabric (p : Prop) [Decidable p] (a b : State) : (if p then a else b).fabric = if p then a.fabric else b.fabric := by
  split <;> rfl

@[simp] theorem ite_embed (p : Prop) [Decidable p] (a b : State) : (if p then a else b).embed = if p then a.embed else b.embed := by
  split <;> rfl

@[simp] theorem ite_ralid (p : Prop) [Decidable p] (a b : State) : (if p then a else b).ralid = if p then a.ralid else b.ralid := by
  split <;> rfl

@[simp] theorem ite_cfl (p : Prop) [Decidable p] (a b : State) : (if p then a else b).cfl = if p then a.cfl else b.cfl := by
  split <;> rfl

@[simp] theorem ite_sec (p : Prop) [Decidable p] (a b : State) : (if p then a else b).sec = if p then a.sec else b.sec := by
  split <;> rfl

end Sys2Proof.Machine
end

