-- ==== Sys2Proof/Laws/FramesOps.lean ====
section
/-! SUPPORT. What each shared operation of Machine/Ops.lean leaves as it is. -/

namespace Sys2Proof.Machine

@[simp] theorem drawFree_frame (x0 : State) :
    (drawFree x0).2.pending = x0.pending ∧ (drawFree x0).2.tclk = x0.tclk ∧ (drawFree x0).2.gZero = x0.gZero ∧ (drawFree x0).2.power = x0.power ∧ (drawFree x0).2.boot = x0.boot ∧ (drawFree x0).2.host = x0.host ∧ (drawFree x0).2.rings = x0.rings ∧ (drawFree x0).2.evt = x0.evt ∧ (drawFree x0).2.tensor = x0.tensor ∧ (drawFree x0).2.mem = x0.mem ∧ (drawFree x0).2.ecc = x0.ecc ∧ (drawFree x0).2.spaces = x0.spaces ∧ (drawFree x0).2.flash = x0.flash ∧ (drawFree x0).2.fabric = x0.fabric ∧ (drawFree x0).2.embed = x0.embed ∧ (drawFree x0).2.ralid = x0.ralid ∧ (drawFree x0).2.cfl = x0.cfl ∧ (drawFree x0).2.sec = x0.sec := by
  simp [drawFree]

@[simp] theorem regWrite_pending (x0 : Nat) (x1 : Bool) (x2 : State → State) (x3 : State) (h : ∀ y0, (x2 y0).pending = y0.pending) :
    (regWrite x0 x1 x2 x3).pending = x3.pending := by
  simp [regWrite, h]

@[simp] theorem regWrite_tclk (x0 : Nat) (x1 : Bool) (x2 : State → State) (x3 : State) (h : ∀ y0, (x2 y0).tclk = y0.tclk) :
    (regWrite x0 x1 x2 x3).tclk = x3.tclk := by
  simp [regWrite, h]

@[simp] theorem regWrite_gZero (x0 : Nat) (x1 : Bool) (x2 : State → State) (x3 : State) (h : ∀ y0, (x2 y0).gZero = y0.gZero) :
    (regWrite x0 x1 x2 x3).gZero = x3.gZero := by
  simp [regWrite, h]

@[simp] theorem regWrite_drawn (x0 : Nat) (x1 : Bool) (x2 : State → State) (x3 : State) (h : ∀ y0, (x2 y0).drawn = y0.drawn) :
    (regWrite x0 x1 x2 x3).drawn = x3.drawn := by
  simp [regWrite, h]

@[simp] theorem regWrite_power (x0 : Nat) (x1 : Bool) (x2 : State → State) (x3 : State) (h : ∀ y0, (x2 y0).power = y0.power) :
    (regWrite x0 x1 x2 x3).power = x3.power := by
  simp [regWrite, h]

@[simp] theorem regWrite_boot (x0 : Nat) (x1 : Bool) (x2 : State → State) (x3 : State) (h : ∀ y0, (x2 y0).boot = y0.boot) :
    (regWrite x0 x1 x2 x3).boot = x3.boot := by
  simp [regWrite, h]

@[simp] theorem regWrite_host (x0 : Nat) (x1 : Bool) (x2 : State → State) (x3 : State) (h : ∀ y0, (x2 y0).host = y0.host) :
    (regWrite x0 x1 x2 x3).host = x3.host := by
  simp [regWrite, h]

@[simp] theorem regWrite_rings (x0 : Nat) (x1 : Bool) (x2 : State → State) (x3 : State) (h : ∀ y0, (x2 y0).rings = y0.rings) :
    (regWrite x0 x1 x2 x3).rings = x3.rings := by
  simp [regWrite, h]

@[simp] theorem regWrite_evt (x0 : Nat) (x1 : Bool) (x2 : State → State) (x3 : State) (h : ∀ y0, (x2 y0).evt = y0.evt) :
    (regWrite x0 x1 x2 x3).evt = x3.evt := by
  simp [regWrite, h]

@[simp] theorem regWrite_tensor (x0 : Nat) (x1 : Bool) (x2 : State → State) (x3 : State) (h : ∀ y0, (x2 y0).tensor = y0.tensor) :
    (regWrite x0 x1 x2 x3).tensor = x3.tensor := by
  simp [regWrite, h]

@[simp] theorem regWrite_mem (x0 : Nat) (x1 : Bool) (x2 : State → State) (x3 : State) (h : ∀ y0, (x2 y0).mem = y0.mem) :
    (regWrite x0 x1 x2 x3).mem = x3.mem := by
  simp [regWrite, h]

@[simp] theorem regWrite_ecc (x0 : Nat) (x1 : Bool) (x2 : State → State) (x3 : State) (h : ∀ y0, (x2 y0).ecc = y0.ecc) :
    (regWrite x0 x1 x2 x3).ecc = x3.ecc := by
  simp [regWrite, h]

@[simp] theorem regWrite_spaces (x0 : Nat) (x1 : Bool) (x2 : State → State) (x3 : State) (h : ∀ y0, (x2 y0).spaces = y0.spaces) :
    (regWrite x0 x1 x2 x3).spaces = x3.spaces := by
  simp [regWrite, h]

@[simp] theorem regWrite_flash (x0 : Nat) (x1 : Bool) (x2 : State → State) (x3 : State) (h : ∀ y0, (x2 y0).flash = y0.flash) :
    (regWrite x0 x1 x2 x3).flash = x3.flash := by
  simp [regWrite, h]

@[simp] theorem regWrite_fabric (x0 : Nat) (x1 : Bool) (x2 : State → State) (x3 : State) (h : ∀ y0, (x2 y0).fabric = y0.fabric) :
    (regWrite x0 x1 x2 x3).fabric = x3.fabric := by
  simp [regWrite, h]

@[simp] theorem regWrite_embed (x0 : Nat) (x1 : Bool) (x2 : State → State) (x3 : State) (h : ∀ y0, (x2 y0).embed = y0.embed) :
    (regWrite x0 x1 x2 x3).embed = x3.embed := by
  simp [regWrite, h]

@[simp] theorem regWrite_ralid (x0 : Nat) (x1 : Bool) (x2 : State → State) (x3 : State) (h : ∀ y0, (x2 y0).ralid = y0.ralid) :
    (regWrite x0 x1 x2 x3).ralid = x3.ralid := by
  simp [regWrite, h]

@[simp] theorem regWrite_cfl (x0 : Nat) (x1 : Bool) (x2 : State → State) (x3 : State) (h : ∀ y0, (x2 y0).cfl = y0.cfl) :
    (regWrite x0 x1 x2 x3).cfl = x3.cfl := by
  simp [regWrite, h]

@[simp] theorem regWrite_sec (x0 : Nat) (x1 : Bool) (x2 : State → State) (x3 : State) (h : ∀ y0, (x2 y0).sec = y0.sec) :
    (regWrite x0 x1 x2 x3).sec = x3.sec := by
  simp [regWrite, h]

@[simp] theorem wakePower_frame (x0 : Nat) (x1 : State) :
    (wakePower x0 x1).pending = x1.pending ∧ (wakePower x0 x1).tclk = x1.tclk ∧ (wakePower x0 x1).gZero = x1.gZero ∧ (wakePower x0 x1).drawn = x1.drawn ∧ (wakePower x0 x1).power = x1.power ∧ (wakePower x0 x1).boot = x1.boot ∧ (wakePower x0 x1).rings = x1.rings ∧ (wakePower x0 x1).evt = x1.evt ∧ (wakePower x0 x1).tensor = x1.tensor ∧ (wakePower x0 x1).mem = x1.mem ∧ (wakePower x0 x1).ecc = x1.ecc ∧ (wakePower x0 x1).spaces = x1.spaces ∧ (wakePower x0 x1).flash = x1.flash ∧ (wakePower x0 x1).fabric = x1.fabric ∧ (wakePower x0 x1).embed = x1.embed ∧ (wakePower x0 x1).ralid = x1.ralid ∧ (wakePower x0 x1).cfl = x1.cfl ∧ (wakePower x0 x1).sec = x1.sec := by
  unfold wakePower; split <;> simp

@[simp] theorem hostWrite_frame (x0 : Nat) (x1 : List Byte) (x2 : State) :
    (hostWrite x0 x1 x2).pending = x2.pending ∧ (hostWrite x0 x1 x2).tclk = x2.tclk ∧ (hostWrite x0 x1 x2).gZero = x2.gZero ∧ (hostWrite x0 x1 x2).drawn = x2.drawn ∧ (hostWrite x0 x1 x2).power = x2.power ∧ (hostWrite x0 x1 x2).boot = x2.boot ∧ (hostWrite x0 x1 x2).rings = x2.rings ∧ (hostWrite x0 x1 x2).evt = x2.evt ∧ (hostWrite x0 x1 x2).tensor = x2.tensor ∧ (hostWrite x0 x1 x2).mem = x2.mem ∧ (hostWrite x0 x1 x2).ecc = x2.ecc ∧ (hostWrite x0 x1 x2).spaces = x2.spaces ∧ (hostWrite x0 x1 x2).flash = x2.flash ∧ (hostWrite x0 x1 x2).fabric = x2.fabric ∧ (hostWrite x0 x1 x2).embed = x2.embed ∧ (hostWrite x0 x1 x2).ralid = x2.ralid ∧ (hostWrite x0 x1 x2).cfl = x2.cfl ∧ (hostWrite x0 x1 x2).sec = x2.sec := by
  simp [hostWrite]

@[simp] theorem sendMsix_frame (x0 : Nat) (x1 : State) :
    (sendMsix x0 x1).pending = x1.pending ∧ (sendMsix x0 x1).tclk = x1.tclk ∧ (sendMsix x0 x1).gZero = x1.gZero ∧ (sendMsix x0 x1).drawn = x1.drawn ∧ (sendMsix x0 x1).power = x1.power ∧ (sendMsix x0 x1).boot = x1.boot ∧ (sendMsix x0 x1).rings = x1.rings ∧ (sendMsix x0 x1).evt = x1.evt ∧ (sendMsix x0 x1).tensor = x1.tensor ∧ (sendMsix x0 x1).mem = x1.mem ∧ (sendMsix x0 x1).ecc = x1.ecc ∧ (sendMsix x0 x1).spaces = x1.spaces ∧ (sendMsix x0 x1).flash = x1.flash ∧ (sendMsix x0 x1).fabric = x1.fabric ∧ (sendMsix x0 x1).embed = x1.embed ∧ (sendMsix x0 x1).ralid = x1.ralid ∧ (sendMsix x0 x1).cfl = x1.cfl ∧ (sendMsix x0 x1).sec = x1.sec := by
  simp [sendMsix]

@[simp] theorem gbPut_frame (x0 : EvtRec) (x1 : State) :
    (gbPut x0 x1).pending = x1.pending ∧ (gbPut x0 x1).tclk = x1.tclk ∧ (gbPut x0 x1).gZero = x1.gZero ∧ (gbPut x0 x1).drawn = x1.drawn ∧ (gbPut x0 x1).power = x1.power ∧ (gbPut x0 x1).boot = x1.boot ∧ (gbPut x0 x1).rings = x1.rings ∧ (gbPut x0 x1).tensor = x1.tensor ∧ (gbPut x0 x1).mem = x1.mem ∧ (gbPut x0 x1).ecc = x1.ecc ∧ (gbPut x0 x1).spaces = x1.spaces ∧ (gbPut x0 x1).flash = x1.flash ∧ (gbPut x0 x1).fabric = x1.fabric ∧ (gbPut x0 x1).embed = x1.embed ∧ (gbPut x0 x1).ralid = x1.ralid ∧ (gbPut x0 x1).cfl = x1.cfl ∧ (gbPut x0 x1).sec = x1.sec := by
  simp [gbPut]

@[simp] theorem gbLose_frame (x0 : EvtRec) (x1 : State) :
    (gbLose x0 x1).pending = x1.pending ∧ (gbLose x0 x1).tclk = x1.tclk ∧ (gbLose x0 x1).gZero = x1.gZero ∧ (gbLose x0 x1).drawn = x1.drawn ∧ (gbLose x0 x1).power = x1.power ∧ (gbLose x0 x1).boot = x1.boot ∧ (gbLose x0 x1).host = x1.host ∧ (gbLose x0 x1).rings = x1.rings ∧ (gbLose x0 x1).tensor = x1.tensor ∧ (gbLose x0 x1).mem = x1.mem ∧ (gbLose x0 x1).ecc = x1.ecc ∧ (gbLose x0 x1).spaces = x1.spaces ∧ (gbLose x0 x1).flash = x1.flash ∧ (gbLose x0 x1).fabric = x1.fabric ∧ (gbLose x0 x1).embed = x1.embed ∧ (gbLose x0 x1).ralid = x1.ralid ∧ (gbLose x0 x1).cfl = x1.cfl ∧ (gbLose x0 x1).sec = x1.sec := by
  simp [gbLose]

@[simp] theorem gbDeliver_frame (x0 : EvtRec) (x1 : State) :
    (gbDeliver x0 x1).pending = x1.pending ∧ (gbDeliver x0 x1).tclk = x1.tclk ∧ (gbDeliver x0 x1).gZero = x1.gZero ∧ (gbDeliver x0 x1).drawn = x1.drawn ∧ (gbDeliver x0 x1).power = x1.power ∧ (gbDeliver x0 x1).boot = x1.boot ∧ (gbDeliver x0 x1).rings = x1.rings ∧ (gbDeliver x0 x1).tensor = x1.tensor ∧ (gbDeliver x0 x1).mem = x1.mem ∧ (gbDeliver x0 x1).ecc = x1.ecc ∧ (gbDeliver x0 x1).spaces = x1.spaces ∧ (gbDeliver x0 x1).flash = x1.flash ∧ (gbDeliver x0 x1).fabric = x1.fabric ∧ (gbDeliver x0 x1).embed = x1.embed ∧ (gbDeliver x0 x1).ralid = x1.ralid ∧ (gbDeliver x0 x1).cfl = x1.cfl ∧ (gbDeliver x0 x1).sec = x1.sec := by
  simp [gbDeliver]

@[simp] theorem gbCopy_frame (x0 : CopyClass) (x1 : EvtRec) (x2 : State) :
    (gbCopy x0 x1 x2).pending = x2.pending ∧ (gbCopy x0 x1 x2).tclk = x2.tclk ∧ (gbCopy x0 x1 x2).gZero = x2.gZero ∧ (gbCopy x0 x1 x2).drawn = x2.drawn ∧ (gbCopy x0 x1 x2).power = x2.power ∧ (gbCopy x0 x1 x2).boot = x2.boot ∧ (gbCopy x0 x1 x2).host = x2.host ∧ (gbCopy x0 x1 x2).rings = x2.rings ∧ (gbCopy x0 x1 x2).tensor = x2.tensor ∧ (gbCopy x0 x1 x2).mem = x2.mem ∧ (gbCopy x0 x1 x2).ecc = x2.ecc ∧ (gbCopy x0 x1 x2).spaces = x2.spaces ∧ (gbCopy x0 x1 x2).flash = x2.flash ∧ (gbCopy x0 x1 x2).fabric = x2.fabric ∧ (gbCopy x0 x1 x2).embed = x2.embed ∧ (gbCopy x0 x1 x2).ralid = x2.ralid ∧ (gbCopy x0 x1 x2).cfl = x2.cfl ∧ (gbCopy x0 x1 x2).sec = x2.sec := by
  unfold gbCopy; (repeat' split) <;> simp

@[simp] theorem gbNumber_frame (x0 : Nat) (x1 : Nat) (x2 : State) :
    (gbNumber x0 x1 x2).2.pending = x2.pending ∧ (gbNumber x0 x1 x2).2.tclk = x2.tclk ∧ (gbNumber x0 x1 x2).2.gZero = x2.gZero ∧ (gbNumber x0 x1 x2).2.drawn = x2.drawn ∧ (gbNumber x0 x1 x2).2.power = x2.power ∧ (gbNumber x0 x1 x2).2.boot = x2.boot ∧ (gbNumber x0 x1 x2).2.host = x2.host ∧ (gbNumber x0 x1 x2).2.rings = x2.rings ∧ (gbNumber x0 x1 x2).2.tensor = x2.tensor ∧ (gbNumber x0 x1 x2).2.mem = x2.mem ∧ (gbNumber x0 x1 x2).2.ecc = x2.ecc ∧ (gbNumber x0 x1 x2).2.spaces = x2.spaces ∧ (gbNumber x0 x1 x2).2.flash = x2.flash ∧ (gbNumber x0 x1 x2).2.fabric = x2.fabric ∧ (gbNumber x0 x1 x2).2.embed = x2.embed ∧ (gbNumber x0 x1 x2).2.ralid = x2.ralid ∧ (gbNumber x0 x1 x2).2.cfl = x2.cfl ∧ (gbNumber x0 x1 x2).2.sec = x2.sec := by
  simp [gbNumber]

@[simp] theorem gbMark_frame (x0 : Bool) (x1 : State) :
    (gbMark x0 x1).pending = x1.pending ∧ (gbMark x0 x1).tclk = x1.tclk ∧ (gbMark x0 x1).gZero = x1.gZero ∧ (gbMark x0 x1).drawn = x1.drawn ∧ (gbMark x0 x1).power = x1.power ∧ (gbMark x0 x1).boot = x1.boot ∧ (gbMark x0 x1).rings = x1.rings ∧ (gbMark x0 x1).tensor = x1.tensor ∧ (gbMark x0 x1).mem = x1.mem ∧ (gbMark x0 x1).ecc = x1.ecc ∧ (gbMark x0 x1).spaces = x1.spaces ∧ (gbMark x0 x1).flash = x1.flash ∧ (gbMark x0 x1).fabric = x1.fabric ∧ (gbMark x0 x1).embed = x1.embed ∧ (gbMark x0 x1).ralid = x1.ralid ∧ (gbMark x0 x1).cfl = x1.cfl ∧ (gbMark x0 x1).sec = x1.sec := by
  simp [gbMark]

@[simp] theorem logEvent_frame (x0 : Ev) (x1 : Nat) (x2 : State) :
    (logEvent x0 x1 x2).pending = x2.pending ∧ (logEvent x0 x1 x2).tclk = x2.tclk ∧ (logEvent x0 x1 x2).gZero = x2.gZero ∧ (logEvent x0 x1 x2).drawn = x2.drawn ∧ (logEvent x0 x1 x2).power = x2.power ∧ (logEvent x0 x1 x2).boot = x2.boot ∧ (logEvent x0 x1 x2).rings = x2.rings ∧ (logEvent x0 x1 x2).tensor = x2.tensor ∧ (logEvent x0 x1 x2).mem = x2.mem ∧ (logEvent x0 x1 x2).ecc = x2.ecc ∧ (logEvent x0 x1 x2).spaces = x2.spaces ∧ (logEvent x0 x1 x2).flash = x2.flash ∧ (logEvent x0 x1 x2).fabric = x2.fabric ∧ (logEvent x0 x1 x2).embed = x2.embed ∧ (logEvent x0 x1 x2).ralid = x2.ralid ∧ (logEvent x0 x1 x2).cfl = x2.cfl ∧ (logEvent x0 x1 x2).sec = x2.sec := by
  simp [logEvent]

@[simp] theorem logLoss_frame (x0 : Ev) (x1 : Nat) (x2 : State) :
    (logLoss x0 x1 x2).2.pending = x2.pending ∧ (logLoss x0 x1 x2).2.tclk = x2.tclk ∧ (logLoss x0 x1 x2).2.gZero = x2.gZero ∧ (logLoss x0 x1 x2).2.drawn = x2.drawn ∧ (logLoss x0 x1 x2).2.power = x2.power ∧ (logLoss x0 x1 x2).2.boot = x2.boot ∧ (logLoss x0 x1 x2).2.rings = x2.rings ∧ (logLoss x0 x1 x2).2.tensor = x2.tensor ∧ (logLoss x0 x1 x2).2.mem = x2.mem ∧ (logLoss x0 x1 x2).2.ecc = x2.ecc ∧ (logLoss x0 x1 x2).2.spaces = x2.spaces ∧ (logLoss x0 x1 x2).2.flash = x2.flash ∧ (logLoss x0 x1 x2).2.fabric = x2.fabric ∧ (logLoss x0 x1 x2).2.embed = x2.embed ∧ (logLoss x0 x1 x2).2.ralid = x2.ralid ∧ (logLoss x0 x1 x2).2.cfl = x2.cfl ∧ (logLoss x0 x1 x2).2.sec = x2.sec := by
  simp [logLoss]

@[simp] theorem gbReportLost_frame (x0 : State) :
    (gbReportLost x0).pending = x0.pending ∧ (gbReportLost x0).tclk = x0.tclk ∧ (gbReportLost x0).gZero = x0.gZero ∧ (gbReportLost x0).drawn = x0.drawn ∧ (gbReportLost x0).power = x0.power ∧ (gbReportLost x0).boot = x0.boot ∧ (gbReportLost x0).rings = x0.rings ∧ (gbReportLost x0).tensor = x0.tensor ∧ (gbReportLost x0).mem = x0.mem ∧ (gbReportLost x0).ecc = x0.ecc ∧ (gbReportLost x0).spaces = x0.spaces ∧ (gbReportLost x0).flash = x0.flash ∧ (gbReportLost x0).fabric = x0.fabric ∧ (gbReportLost x0).embed = x0.embed ∧ (gbReportLost x0).ralid = x0.ralid ∧ (gbReportLost x0).cfl = x0.cfl ∧ (gbReportLost x0).sec = x0.sec := by
  simp [gbReportLost]

@[simp] theorem bump_frame (x0 : Nat) (x1 : Nat) (x2 : Nat) (x3 : Nat) (x4 : State) :
    (bump x0 x1 x2 x3 x4).pending = x4.pending ∧ (bump x0 x1 x2 x3 x4).tclk = x4.tclk ∧ (bump x0 x1 x2 x3 x4).gZero = x4.gZero ∧ (bump x0 x1 x2 x3 x4).drawn = x4.drawn ∧ (bump x0 x1 x2 x3 x4).power = x4.power ∧ (bump x0 x1 x2 x3 x4).boot = x4.boot ∧ (bump x0 x1 x2 x3 x4).host = x4.host ∧ (bump x0 x1 x2 x3 x4).rings = x4.rings ∧ (bump x0 x1 x2 x3 x4).tensor = x4.tensor ∧ (bump x0 x1 x2 x3 x4).mem = x4.mem ∧ (bump x0 x1 x2 x3 x4).ecc = x4.ecc ∧ (bump x0 x1 x2 x3 x4).spaces = x4.spaces ∧ (bump x0 x1 x2 x3 x4).flash = x4.flash ∧ (bump x0 x1 x2 x3 x4).fabric = x4.fabric ∧ (bump x0 x1 x2 x3 x4).embed = x4.embed ∧ (bump x0 x1 x2 x3 x4).ralid = x4.ralid ∧ (bump x0 x1 x2 x3 x4).cfl = x4.cfl ∧ (bump x0 x1 x2 x3 x4).sec = x4.sec := by
  simp [bump]

@[simp] theorem postOn_frame (x0 : Nat) (x1 : Bool) (x2 : Completion) (x3 : State) :
    (postOn x0 x1 x2 x3).pending = x3.pending ∧ (postOn x0 x1 x2 x3).tclk = x3.tclk ∧ (postOn x0 x1 x2 x3).gZero = x3.gZero ∧ (postOn x0 x1 x2 x3).power = x3.power ∧ (postOn x0 x1 x2 x3).boot = x3.boot ∧ (postOn x0 x1 x2 x3).evt = x3.evt ∧ (postOn x0 x1 x2 x3).tensor = x3.tensor ∧ (postOn x0 x1 x2 x3).mem = x3.mem ∧ (postOn x0 x1 x2 x3).ecc = x3.ecc ∧ (postOn x0 x1 x2 x3).spaces = x3.spaces ∧ (postOn x0 x1 x2 x3).flash = x3.flash ∧ (postOn x0 x1 x2 x3).fabric = x3.fabric ∧ (postOn x0 x1 x2 x3).embed = x3.embed ∧ (postOn x0 x1 x2 x3).ralid = x3.ralid ∧ (postOn x0 x1 x2 x3).cfl = x3.cfl ∧ (postOn x0 x1 x2 x3).sec = x3.sec := by
  unfold postOn; split <;> simp

@[simp] theorem postAll_frame (x0 : List (Nat × Completion)) (x1 : State) :
    (postAll x0 x1).pending = x1.pending ∧ (postAll x0 x1).tclk = x1.tclk ∧ (postAll x0 x1).gZero = x1.gZero ∧ (postAll x0 x1).power = x1.power ∧ (postAll x0 x1).boot = x1.boot ∧ (postAll x0 x1).evt = x1.evt ∧ (postAll x0 x1).tensor = x1.tensor ∧ (postAll x0 x1).mem = x1.mem ∧ (postAll x0 x1).ecc = x1.ecc ∧ (postAll x0 x1).spaces = x1.spaces ∧ (postAll x0 x1).flash = x1.flash ∧ (postAll x0 x1).fabric = x1.fabric ∧ (postAll x0 x1).embed = x1.embed ∧ (postAll x0 x1).ralid = x1.ralid ∧ (postAll x0 x1).cfl = x1.cfl ∧ (postAll x0 x1).sec = x1.sec := by
  fun_induction postAll x0 x1 <;> simp_all

@[simp] theorem complete_frame (x0 : Nat) (x1 : Nat) (x2 : Nat) (x3 : Nat) (x4 : State) :
    (complete x0 x1 x2 x3 x4).pending = x4.pending ∧ (complete x0 x1 x2 x3 x4).tclk = x4.tclk ∧ (complete x0 x1 x2 x3 x4).gZero = x4.gZero ∧ (complete x0 x1 x2 x3 x4).power = x4.power ∧ (complete x0 x1 x2 x3 x4).boot = x4.boot ∧ (complete x0 x1 x2 x3 x4).tensor = x4.tensor ∧ (complete x0 x1 x2 x3 x4).mem = x4.mem ∧ (complete x0 x1 x2 x3 x4).ecc = x4.ecc ∧ (complete x0 x1 x2 x3 x4).spaces = x4.spaces ∧ (complete x0 x1 x2 x3 x4).flash = x4.flash ∧ (complete x0 x1 x2 x3 x4).fabric = x4.fabric ∧ (complete x0 x1 x2 x3 x4).embed = x4.embed ∧ (complete x0 x1 x2 x3 x4).ralid = x4.ralid ∧ (complete x0 x1 x2 x3 x4).cfl = x4.cfl ∧ (complete x0 x1 x2 x3 x4).sec = x4.sec := by
  unfold complete; (repeat' split) <;> simp

@[simp] theorem fail_frame (x0 : Nat) (x1 : Nat) (x2 : State) :
    (fail x0 x1 x2).pending = x2.pending ∧ (fail x0 x1 x2).tclk = x2.tclk ∧ (fail x0 x1 x2).gZero = x2.gZero ∧ (fail x0 x1 x2).power = x2.power ∧ (fail x0 x1 x2).boot = x2.boot ∧ (fail x0 x1 x2).tensor = x2.tensor ∧ (fail x0 x1 x2).mem = x2.mem ∧ (fail x0 x1 x2).ecc = x2.ecc ∧ (fail x0 x1 x2).spaces = x2.spaces ∧ (fail x0 x1 x2).flash = x2.flash ∧ (fail x0 x1 x2).fabric = x2.fabric ∧ (fail x0 x1 x2).embed = x2.embed ∧ (fail x0 x1 x2).ralid = x2.ralid ∧ (fail x0 x1 x2).cfl = x2.cfl ∧ (fail x0 x1 x2).sec = x2.sec := by
  simp [fail]

@[simp] theorem completeAll_frame (x0 : List Nat) (x1 : Nat) (x2 : State) :
    (completeAll x0 x1 x2).pending = x2.pending ∧ (completeAll x0 x1 x2).tclk = x2.tclk ∧ (completeAll x0 x1 x2).gZero = x2.gZero ∧ (completeAll x0 x1 x2).power = x2.power ∧ (completeAll x0 x1 x2).boot = x2.boot ∧ (completeAll x0 x1 x2).tensor = x2.tensor ∧ (completeAll x0 x1 x2).mem = x2.mem ∧ (completeAll x0 x1 x2).ecc = x2.ecc ∧ (completeAll x0 x1 x2).spaces = x2.spaces ∧ (completeAll x0 x1 x2).flash = x2.flash ∧ (completeAll x0 x1 x2).fabric = x2.fabric ∧ (completeAll x0 x1 x2).embed = x2.embed ∧ (completeAll x0 x1 x2).ralid = x2.ralid ∧ (completeAll x0 x1 x2).cfl = x2.cfl ∧ (completeAll x0 x1 x2).sec = x2.sec := by
  fun_induction completeAll x0 x1 x2 <;> simp_all

@[simp] theorem setPhase_frame (x0 : Nat) (x1 : TaskPhase) (x2 : State) :
    (setPhase x0 x1 x2).pending = x2.pending ∧ (setPhase x0 x1 x2).tclk = x2.tclk ∧ (setPhase x0 x1 x2).gZero = x2.gZero ∧ (setPhase x0 x1 x2).drawn = x2.drawn ∧ (setPhase x0 x1 x2).power = x2.power ∧ (setPhase x0 x1 x2).boot = x2.boot ∧ (setPhase x0 x1 x2).host = x2.host ∧ (setPhase x0 x1 x2).evt = x2.evt ∧ (setPhase x0 x1 x2).tensor = x2.tensor ∧ (setPhase x0 x1 x2).mem = x2.mem ∧ (setPhase x0 x1 x2).ecc = x2.ecc ∧ (setPhase x0 x1 x2).spaces = x2.spaces ∧ (setPhase x0 x1 x2).flash = x2.flash ∧ (setPhase x0 x1 x2).fabric = x2.fabric ∧ (setPhase x0 x1 x2).embed = x2.embed ∧ (setPhase x0 x1 x2).ralid = x2.ralid ∧ (setPhase x0 x1 x2).cfl = x2.cfl ∧ (setPhase x0 x1 x2).sec = x2.sec := by
  simp [setPhase]

end Sys2Proof.Machine
end

