-- ==== Sys2Proof/Laws/FramesCflOps.lean ====
section
/-! SUPPORT. What each shared operation of Machine/CflOps.lean leaves as it is. -/

namespace Sys2Proof.Machine

@[simp] theorem setCfl_frame (x0 : Cfl → Cfl) (x1 : State) :
    (setCfl x0 x1).pending = x1.pending ∧ (setCfl x0 x1).tclk = x1.tclk ∧ (setCfl x0 x1).gZero = x1.gZero ∧ (setCfl x0 x1).drawn = x1.drawn ∧ (setCfl x0 x1).power = x1.power ∧ (setCfl x0 x1).boot = x1.boot ∧ (setCfl x0 x1).host = x1.host ∧ (setCfl x0 x1).rings = x1.rings ∧ (setCfl x0 x1).evt = x1.evt ∧ (setCfl x0 x1).tensor = x1.tensor ∧ (setCfl x0 x1).mem = x1.mem ∧ (setCfl x0 x1).ecc = x1.ecc ∧ (setCfl x0 x1).spaces = x1.spaces ∧ (setCfl x0 x1).flash = x1.flash ∧ (setCfl x0 x1).fabric = x1.fabric ∧ (setCfl x0 x1).embed = x1.embed ∧ (setCfl x0 x1).ralid = x1.ralid ∧ (setCfl x0 x1).sec = x1.sec := by
  simp [setCfl]

@[simp] theorem setBank_frame (x0 : Nat) (x1 : CflBank → CflBank) (x2 : State) :
    (setBank x0 x1 x2).pending = x2.pending ∧ (setBank x0 x1 x2).tclk = x2.tclk ∧ (setBank x0 x1 x2).gZero = x2.gZero ∧ (setBank x0 x1 x2).drawn = x2.drawn ∧ (setBank x0 x1 x2).power = x2.power ∧ (setBank x0 x1 x2).boot = x2.boot ∧ (setBank x0 x1 x2).host = x2.host ∧ (setBank x0 x1 x2).rings = x2.rings ∧ (setBank x0 x1 x2).evt = x2.evt ∧ (setBank x0 x1 x2).tensor = x2.tensor ∧ (setBank x0 x1 x2).mem = x2.mem ∧ (setBank x0 x1 x2).ecc = x2.ecc ∧ (setBank x0 x1 x2).spaces = x2.spaces ∧ (setBank x0 x1 x2).flash = x2.flash ∧ (setBank x0 x1 x2).fabric = x2.fabric ∧ (setBank x0 x1 x2).embed = x2.embed ∧ (setBank x0 x1 x2).ralid = x2.ralid ∧ (setBank x0 x1 x2).sec = x2.sec := by
  simp [setBank]

@[simp] theorem setMarks_frame (x0 : Nat) (x1 : Nat) (x2 : State) :
    (setMarks x0 x1 x2).pending = x2.pending ∧ (setMarks x0 x1 x2).tclk = x2.tclk ∧ (setMarks x0 x1 x2).gZero = x2.gZero ∧ (setMarks x0 x1 x2).drawn = x2.drawn ∧ (setMarks x0 x1 x2).power = x2.power ∧ (setMarks x0 x1 x2).boot = x2.boot ∧ (setMarks x0 x1 x2).host = x2.host ∧ (setMarks x0 x1 x2).rings = x2.rings ∧ (setMarks x0 x1 x2).evt = x2.evt ∧ (setMarks x0 x1 x2).tensor = x2.tensor ∧ (setMarks x0 x1 x2).mem = x2.mem ∧ (setMarks x0 x1 x2).ecc = x2.ecc ∧ (setMarks x0 x1 x2).spaces = x2.spaces ∧ (setMarks x0 x1 x2).flash = x2.flash ∧ (setMarks x0 x1 x2).fabric = x2.fabric ∧ (setMarks x0 x1 x2).embed = x2.embed ∧ (setMarks x0 x1 x2).ralid = x2.ralid ∧ (setMarks x0 x1 x2).sec = x2.sec := by
  simp [setMarks]

@[simp] theorem eraseBegin_frame (x0 : Nat) (x1 : Nat) (x2 : State) :
    (eraseBegin x0 x1 x2).pending = x2.pending ∧ (eraseBegin x0 x1 x2).tclk = x2.tclk ∧ (eraseBegin x0 x1 x2).gZero = x2.gZero ∧ (eraseBegin x0 x1 x2).drawn = x2.drawn ∧ (eraseBegin x0 x1 x2).power = x2.power ∧ (eraseBegin x0 x1 x2).boot = x2.boot ∧ (eraseBegin x0 x1 x2).host = x2.host ∧ (eraseBegin x0 x1 x2).rings = x2.rings ∧ (eraseBegin x0 x1 x2).evt = x2.evt ∧ (eraseBegin x0 x1 x2).tensor = x2.tensor ∧ (eraseBegin x0 x1 x2).mem = x2.mem ∧ (eraseBegin x0 x1 x2).ecc = x2.ecc ∧ (eraseBegin x0 x1 x2).spaces = x2.spaces ∧ (eraseBegin x0 x1 x2).flash = x2.flash ∧ (eraseBegin x0 x1 x2).fabric = x2.fabric ∧ (eraseBegin x0 x1 x2).embed = x2.embed ∧ (eraseBegin x0 x1 x2).ralid = x2.ralid ∧ (eraseBegin x0 x1 x2).sec = x2.sec := by
  simp [eraseBegin]

@[simp] theorem eraseContent_frame (x0 : Nat) (x1 : State) :
    (eraseContent x0 x1).pending = x1.pending ∧ (eraseContent x0 x1).tclk = x1.tclk ∧ (eraseContent x0 x1).gZero = x1.gZero ∧ (eraseContent x0 x1).drawn = x1.drawn ∧ (eraseContent x0 x1).power = x1.power ∧ (eraseContent x0 x1).boot = x1.boot ∧ (eraseContent x0 x1).host = x1.host ∧ (eraseContent x0 x1).rings = x1.rings ∧ (eraseContent x0 x1).evt = x1.evt ∧ (eraseContent x0 x1).tensor = x1.tensor ∧ (eraseContent x0 x1).mem = x1.mem ∧ (eraseContent x0 x1).ecc = x1.ecc ∧ (eraseContent x0 x1).spaces = x1.spaces ∧ (eraseContent x0 x1).flash = x1.flash ∧ (eraseContent x0 x1).fabric = x1.fabric ∧ (eraseContent x0 x1).embed = x1.embed ∧ (eraseContent x0 x1).ralid = x1.ralid ∧ (eraseContent x0 x1).sec = x1.sec := by
  simp [eraseContent]

@[simp] theorem eraseDone_frame (x0 : Nat) (x1 : Nat) (x2 : Nat) (x3 : State) :
    (eraseDone x0 x1 x2 x3).pending = x3.pending ∧ (eraseDone x0 x1 x2 x3).tclk = x3.tclk ∧ (eraseDone x0 x1 x2 x3).gZero = x3.gZero ∧ (eraseDone x0 x1 x2 x3).drawn = x3.drawn ∧ (eraseDone x0 x1 x2 x3).power = x3.power ∧ (eraseDone x0 x1 x2 x3).boot = x3.boot ∧ (eraseDone x0 x1 x2 x3).host = x3.host ∧ (eraseDone x0 x1 x2 x3).rings = x3.rings ∧ (eraseDone x0 x1 x2 x3).evt = x3.evt ∧ (eraseDone x0 x1 x2 x3).tensor = x3.tensor ∧ (eraseDone x0 x1 x2 x3).mem = x3.mem ∧ (eraseDone x0 x1 x2 x3).ecc = x3.ecc ∧ (eraseDone x0 x1 x2 x3).spaces = x3.spaces ∧ (eraseDone x0 x1 x2 x3).flash = x3.flash ∧ (eraseDone x0 x1 x2 x3).fabric = x3.fabric ∧ (eraseDone x0 x1 x2 x3).embed = x3.embed ∧ (eraseDone x0 x1 x2 x3).ralid = x3.ralid ∧ (eraseDone x0 x1 x2 x3).sec = x3.sec := by
  simp [eraseDone]

@[simp] theorem logSlowErase_frame (x0 : Nat) (x1 : Nat) (x2 : Nat) (x3 : State) :
    (logSlowErase x0 x1 x2 x3).pending = x3.pending ∧ (logSlowErase x0 x1 x2 x3).tclk = x3.tclk ∧ (logSlowErase x0 x1 x2 x3).gZero = x3.gZero ∧ (logSlowErase x0 x1 x2 x3).drawn = x3.drawn ∧ (logSlowErase x0 x1 x2 x3).power = x3.power ∧ (logSlowErase x0 x1 x2 x3).boot = x3.boot ∧ (logSlowErase x0 x1 x2 x3).rings = x3.rings ∧ (logSlowErase x0 x1 x2 x3).tensor = x3.tensor ∧ (logSlowErase x0 x1 x2 x3).mem = x3.mem ∧ (logSlowErase x0 x1 x2 x3).ecc = x3.ecc ∧ (logSlowErase x0 x1 x2 x3).spaces = x3.spaces ∧ (logSlowErase x0 x1 x2 x3).flash = x3.flash ∧ (logSlowErase x0 x1 x2 x3).fabric = x3.fabric ∧ (logSlowErase x0 x1 x2 x3).embed = x3.embed ∧ (logSlowErase x0 x1 x2 x3).ralid = x3.ralid ∧ (logSlowErase x0 x1 x2 x3).sec = x3.sec := by
  simp [logSlowErase]

@[simp] theorem spoilSector_frame (x0 : Nat) (x1 : State) :
    (spoilSector x0 x1).pending = x1.pending ∧ (spoilSector x0 x1).tclk = x1.tclk ∧ (spoilSector x0 x1).gZero = x1.gZero ∧ (spoilSector x0 x1).power = x1.power ∧ (spoilSector x0 x1).boot = x1.boot ∧ (spoilSector x0 x1).host = x1.host ∧ (spoilSector x0 x1).rings = x1.rings ∧ (spoilSector x0 x1).evt = x1.evt ∧ (spoilSector x0 x1).tensor = x1.tensor ∧ (spoilSector x0 x1).mem = x1.mem ∧ (spoilSector x0 x1).ecc = x1.ecc ∧ (spoilSector x0 x1).spaces = x1.spaces ∧ (spoilSector x0 x1).flash = x1.flash ∧ (spoilSector x0 x1).fabric = x1.fabric ∧ (spoilSector x0 x1).embed = x1.embed ∧ (spoilSector x0 x1).ralid = x1.ralid ∧ (spoilSector x0 x1).sec = x1.sec := by
  simp [spoilSector]

@[simp] theorem eraseFailed_frame (x0 : Nat) (x1 : Nat) (x2 : Nat) (x3 : State) :
    (eraseFailed x0 x1 x2 x3).pending = x3.pending ∧ (eraseFailed x0 x1 x2 x3).tclk = x3.tclk ∧ (eraseFailed x0 x1 x2 x3).gZero = x3.gZero ∧ (eraseFailed x0 x1 x2 x3).power = x3.power ∧ (eraseFailed x0 x1 x2 x3).boot = x3.boot ∧ (eraseFailed x0 x1 x2 x3).rings = x3.rings ∧ (eraseFailed x0 x1 x2 x3).tensor = x3.tensor ∧ (eraseFailed x0 x1 x2 x3).mem = x3.mem ∧ (eraseFailed x0 x1 x2 x3).ecc = x3.ecc ∧ (eraseFailed x0 x1 x2 x3).spaces = x3.spaces ∧ (eraseFailed x0 x1 x2 x3).flash = x3.flash ∧ (eraseFailed x0 x1 x2 x3).fabric = x3.fabric ∧ (eraseFailed x0 x1 x2 x3).embed = x3.embed ∧ (eraseFailed x0 x1 x2 x3).ralid = x3.ralid ∧ (eraseFailed x0 x1 x2 x3).sec = x3.sec := by
  simp [eraseFailed]

@[simp] theorem eraseWhole_frame (x0 : Nat) (x1 : Nat) (x2 : Nat) (x3 : State) :
    (eraseWhole x0 x1 x2 x3).pending = x3.pending ∧ (eraseWhole x0 x1 x2 x3).tclk = x3.tclk ∧ (eraseWhole x0 x1 x2 x3).gZero = x3.gZero ∧ (eraseWhole x0 x1 x2 x3).power = x3.power ∧ (eraseWhole x0 x1 x2 x3).boot = x3.boot ∧ (eraseWhole x0 x1 x2 x3).rings = x3.rings ∧ (eraseWhole x0 x1 x2 x3).tensor = x3.tensor ∧ (eraseWhole x0 x1 x2 x3).mem = x3.mem ∧ (eraseWhole x0 x1 x2 x3).ecc = x3.ecc ∧ (eraseWhole x0 x1 x2 x3).spaces = x3.spaces ∧ (eraseWhole x0 x1 x2 x3).flash = x3.flash ∧ (eraseWhole x0 x1 x2 x3).fabric = x3.fabric ∧ (eraseWhole x0 x1 x2 x3).embed = x3.embed ∧ (eraseWhole x0 x1 x2 x3).ralid = x3.ralid ∧ (eraseWhole x0 x1 x2 x3).sec = x3.sec := by
  simp [eraseWhole]

@[simp] theorem eraseDrawn_frame (x0 : Nat) (x1 : State) :
    (eraseDrawn x0 x1).pending = x1.pending ∧ (eraseDrawn x0 x1).tclk = x1.tclk ∧ (eraseDrawn x0 x1).gZero = x1.gZero ∧ (eraseDrawn x0 x1).power = x1.power ∧ (eraseDrawn x0 x1).boot = x1.boot ∧ (eraseDrawn x0 x1).rings = x1.rings ∧ (eraseDrawn x0 x1).tensor = x1.tensor ∧ (eraseDrawn x0 x1).mem = x1.mem ∧ (eraseDrawn x0 x1).ecc = x1.ecc ∧ (eraseDrawn x0 x1).spaces = x1.spaces ∧ (eraseDrawn x0 x1).flash = x1.flash ∧ (eraseDrawn x0 x1).fabric = x1.fabric ∧ (eraseDrawn x0 x1).embed = x1.embed ∧ (eraseDrawn x0 x1).ralid = x1.ralid ∧ (eraseDrawn x0 x1).sec = x1.sec := by
  simp [eraseDrawn]

@[simp] theorem cflProgram_frame (x0 : Nat) (x1 : List Byte) (x2 : State) :
    (cflProgram x0 x1 x2).pending = x2.pending ∧ (cflProgram x0 x1 x2).tclk = x2.tclk ∧ (cflProgram x0 x1 x2).gZero = x2.gZero ∧ (cflProgram x0 x1 x2).drawn = x2.drawn ∧ (cflProgram x0 x1 x2).power = x2.power ∧ (cflProgram x0 x1 x2).boot = x2.boot ∧ (cflProgram x0 x1 x2).host = x2.host ∧ (cflProgram x0 x1 x2).rings = x2.rings ∧ (cflProgram x0 x1 x2).evt = x2.evt ∧ (cflProgram x0 x1 x2).tensor = x2.tensor ∧ (cflProgram x0 x1 x2).mem = x2.mem ∧ (cflProgram x0 x1 x2).ecc = x2.ecc ∧ (cflProgram x0 x1 x2).spaces = x2.spaces ∧ (cflProgram x0 x1 x2).flash = x2.flash ∧ (cflProgram x0 x1 x2).fabric = x2.fabric ∧ (cflProgram x0 x1 x2).embed = x2.embed ∧ (cflProgram x0 x1 x2).ralid = x2.ralid ∧ (cflProgram x0 x1 x2).sec = x2.sec := by
  simp [cflProgram]

@[simp] theorem cflSpoil_frame (x0 : Nat) (x1 : Nat) (x2 : State) :
    (cflSpoil x0 x1 x2).pending = x2.pending ∧ (cflSpoil x0 x1 x2).tclk = x2.tclk ∧ (cflSpoil x0 x1 x2).gZero = x2.gZero ∧ (cflSpoil x0 x1 x2).power = x2.power ∧ (cflSpoil x0 x1 x2).boot = x2.boot ∧ (cflSpoil x0 x1 x2).host = x2.host ∧ (cflSpoil x0 x1 x2).rings = x2.rings ∧ (cflSpoil x0 x1 x2).evt = x2.evt ∧ (cflSpoil x0 x1 x2).tensor = x2.tensor ∧ (cflSpoil x0 x1 x2).mem = x2.mem ∧ (cflSpoil x0 x1 x2).ecc = x2.ecc ∧ (cflSpoil x0 x1 x2).spaces = x2.spaces ∧ (cflSpoil x0 x1 x2).flash = x2.flash ∧ (cflSpoil x0 x1 x2).fabric = x2.fabric ∧ (cflSpoil x0 x1 x2).embed = x2.embed ∧ (cflSpoil x0 x1 x2).ralid = x2.ralid ∧ (cflSpoil x0 x1 x2).sec = x2.sec := by
  simp [cflSpoil]

@[simp] theorem checkPassword_frame (x0 : Nat) (x1 : Nat) (x2 : W64) (x3 : State) :
    (checkPassword x0 x1 x2 x3).2.pending = x3.pending ∧ (checkPassword x0 x1 x2 x3).2.tclk = x3.tclk ∧ (checkPassword x0 x1 x2 x3).2.gZero = x3.gZero ∧ (checkPassword x0 x1 x2 x3).2.drawn = x3.drawn ∧ (checkPassword x0 x1 x2 x3).2.power = x3.power ∧ (checkPassword x0 x1 x2 x3).2.boot = x3.boot ∧ (checkPassword x0 x1 x2 x3).2.rings = x3.rings ∧ (checkPassword x0 x1 x2 x3).2.tensor = x3.tensor ∧ (checkPassword x0 x1 x2 x3).2.mem = x3.mem ∧ (checkPassword x0 x1 x2 x3).2.ecc = x3.ecc ∧ (checkPassword x0 x1 x2 x3).2.spaces = x3.spaces ∧ (checkPassword x0 x1 x2 x3).2.flash = x3.flash ∧ (checkPassword x0 x1 x2 x3).2.fabric = x3.fabric ∧ (checkPassword x0 x1 x2 x3).2.embed = x3.embed ∧ (checkPassword x0 x1 x2 x3).2.ralid = x3.ralid ∧ (checkPassword x0 x1 x2 x3).2.sec = x3.sec := by
  unfold checkPassword; dsimp only; (repeat' split) <;> simp

@[simp] theorem abandonSeq_frame (x0 : Nat) (x1 : Bool) (x2 : State) :
    (abandonSeq x0 x1 x2).pending = x2.pending ∧ (abandonSeq x0 x1 x2).tclk = x2.tclk ∧ (abandonSeq x0 x1 x2).gZero = x2.gZero ∧ (abandonSeq x0 x1 x2).drawn = x2.drawn ∧ (abandonSeq x0 x1 x2).power = x2.power ∧ (abandonSeq x0 x1 x2).boot = x2.boot ∧ (abandonSeq x0 x1 x2).host = x2.host ∧ (abandonSeq x0 x1 x2).rings = x2.rings ∧ (abandonSeq x0 x1 x2).evt = x2.evt ∧ (abandonSeq x0 x1 x2).tensor = x2.tensor ∧ (abandonSeq x0 x1 x2).mem = x2.mem ∧ (abandonSeq x0 x1 x2).ecc = x2.ecc ∧ (abandonSeq x0 x1 x2).spaces = x2.spaces ∧ (abandonSeq x0 x1 x2).flash = x2.flash ∧ (abandonSeq x0 x1 x2).fabric = x2.fabric ∧ (abandonSeq x0 x1 x2).embed = x2.embed ∧ (abandonSeq x0 x1 x2).ralid = x2.ralid ∧ (abandonSeq x0 x1 x2).sec = x2.sec := by
  simp [abandonSeq]

@[simp] theorem counterWrite_frame (x0 : Nat) (x1 : State) :
    (counterWrite x0 x1).pending = x1.pending ∧ (counterWrite x0 x1).tclk = x1.tclk ∧ (counterWrite x0 x1).gZero = x1.gZero ∧ (counterWrite x0 x1).power = x1.power ∧ (counterWrite x0 x1).boot = x1.boot ∧ (counterWrite x0 x1).rings = x1.rings ∧ (counterWrite x0 x1).tensor = x1.tensor ∧ (counterWrite x0 x1).mem = x1.mem ∧ (counterWrite x0 x1).ecc = x1.ecc ∧ (counterWrite x0 x1).spaces = x1.spaces ∧ (counterWrite x0 x1).flash = x1.flash ∧ (counterWrite x0 x1).fabric = x1.fabric ∧ (counterWrite x0 x1).embed = x1.embed ∧ (counterWrite x0 x1).ralid = x1.ralid ∧ (counterWrite x0 x1).sec = x1.sec := by
  simp [counterWrite]

end Sys2Proof.Machine
end

