-- ==== Sys2Proof/Laws/FramesEcc.lean ====
section
/-! SUPPORT. What each shared operation of Machine/Ecc.lean leaves as it is. -/

namespace Sys2Proof.Machine

@[simp] theorem countCorrected_frame (x0 : Nat) (x1 : Nat) (x2 : State) :
    (countCorrected x0 x1 x2).pending = x2.pending ∧ (countCorrected x0 x1 x2).tclk = x2.tclk ∧ (countCorrected x0 x1 x2).gZero = x2.gZero ∧ (countCorrected x0 x1 x2).drawn = x2.drawn ∧ (countCorrected x0 x1 x2).power = x2.power ∧ (countCorrected x0 x1 x2).boot = x2.boot ∧ (countCorrected x0 x1 x2).host = x2.host ∧ (countCorrected x0 x1 x2).rings = x2.rings ∧ (countCorrected x0 x1 x2).evt = x2.evt ∧ (countCorrected x0 x1 x2).tensor = x2.tensor ∧ (countCorrected x0 x1 x2).mem = x2.mem ∧ (countCorrected x0 x1 x2).spaces = x2.spaces ∧ (countCorrected x0 x1 x2).flash = x2.flash ∧ (countCorrected x0 x1 x2).fabric = x2.fabric ∧ (countCorrected x0 x1 x2).embed = x2.embed ∧ (countCorrected x0 x1 x2).ralid = x2.ralid ∧ (countCorrected x0 x1 x2).cfl = x2.cfl ∧ (countCorrected x0 x1 x2).sec = x2.sec := by
  simp [countCorrected]

@[simp] theorem logUncorrectable_frame (x0 : Nat) (x1 : Nat) (x2 : Nat) (x3 : State) :
    (logUncorrectable x0 x1 x2 x3).pending = x3.pending ∧ (logUncorrectable x0 x1 x2 x3).tclk = x3.tclk ∧ (logUncorrectable x0 x1 x2 x3).gZero = x3.gZero ∧ (logUncorrectable x0 x1 x2 x3).drawn = x3.drawn ∧ (logUncorrectable x0 x1 x2 x3).power = x3.power ∧ (logUncorrectable x0 x1 x2 x3).boot = x3.boot ∧ (logUncorrectable x0 x1 x2 x3).rings = x3.rings ∧ (logUncorrectable x0 x1 x2 x3).tensor = x3.tensor ∧ (logUncorrectable x0 x1 x2 x3).mem = x3.mem ∧ (logUncorrectable x0 x1 x2 x3).spaces = x3.spaces ∧ (logUncorrectable x0 x1 x2 x3).flash = x3.flash ∧ (logUncorrectable x0 x1 x2 x3).fabric = x3.fabric ∧ (logUncorrectable x0 x1 x2 x3).embed = x3.embed ∧ (logUncorrectable x0 x1 x2 x3).ralid = x3.ralid ∧ (logUncorrectable x0 x1 x2 x3).cfl = x3.cfl ∧ (logUncorrectable x0 x1 x2 x3).sec = x3.sec := by
  simp [logUncorrectable]

@[simp] theorem countRefetched_frame (x0 : Nat) (x1 : State) :
    (countRefetched x0 x1).pending = x1.pending ∧ (countRefetched x0 x1).tclk = x1.tclk ∧ (countRefetched x0 x1).gZero = x1.gZero ∧ (countRefetched x0 x1).drawn = x1.drawn ∧ (countRefetched x0 x1).power = x1.power ∧ (countRefetched x0 x1).boot = x1.boot ∧ (countRefetched x0 x1).host = x1.host ∧ (countRefetched x0 x1).rings = x1.rings ∧ (countRefetched x0 x1).evt = x1.evt ∧ (countRefetched x0 x1).tensor = x1.tensor ∧ (countRefetched x0 x1).mem = x1.mem ∧ (countRefetched x0 x1).spaces = x1.spaces ∧ (countRefetched x0 x1).flash = x1.flash ∧ (countRefetched x0 x1).fabric = x1.fabric ∧ (countRefetched x0 x1).embed = x1.embed ∧ (countRefetched x0 x1).ralid = x1.ralid ∧ (countRefetched x0 x1).cfl = x1.cfl ∧ (countRefetched x0 x1).sec = x1.sec := by
  simp [countRefetched]

@[simp] theorem readStacked_frame (x0 : Nat) (x1 : Nat) (x2 : State) :
    (readStacked x0 x1 x2).2.pending = x2.pending ∧ (readStacked x0 x1 x2).2.tclk = x2.tclk ∧ (readStacked x0 x1 x2).2.gZero = x2.gZero ∧ (readStacked x0 x1 x2).2.drawn = x2.drawn ∧ (readStacked x0 x1 x2).2.power = x2.power ∧ (readStacked x0 x1 x2).2.boot = x2.boot ∧ (readStacked x0 x1 x2).2.rings = x2.rings ∧ (readStacked x0 x1 x2).2.tensor = x2.tensor ∧ (readStacked x0 x1 x2).2.mem = x2.mem ∧ (readStacked x0 x1 x2).2.spaces = x2.spaces ∧ (readStacked x0 x1 x2).2.flash = x2.flash ∧ (readStacked x0 x1 x2).2.fabric = x2.fabric ∧ (readStacked x0 x1 x2).2.embed = x2.embed ∧ (readStacked x0 x1 x2).2.ralid = x2.ralid ∧ (readStacked x0 x1 x2).2.cfl = x2.cfl ∧ (readStacked x0 x1 x2).2.sec = x2.sec := by
  unfold readStacked; split <;> simp

@[simp] theorem writeStacked_frame (x0 : Nat) (x1 : List Byte) (x2 : State) :
    (writeStacked x0 x1 x2).2.pending = x2.pending ∧ (writeStacked x0 x1 x2).2.tclk = x2.tclk ∧ (writeStacked x0 x1 x2).2.gZero = x2.gZero ∧ (writeStacked x0 x1 x2).2.drawn = x2.drawn ∧ (writeStacked x0 x1 x2).2.power = x2.power ∧ (writeStacked x0 x1 x2).2.boot = x2.boot ∧ (writeStacked x0 x1 x2).2.host = x2.host ∧ (writeStacked x0 x1 x2).2.rings = x2.rings ∧ (writeStacked x0 x1 x2).2.evt = x2.evt ∧ (writeStacked x0 x1 x2).2.tensor = x2.tensor ∧ (writeStacked x0 x1 x2).2.ecc = x2.ecc ∧ (writeStacked x0 x1 x2).2.spaces = x2.spaces ∧ (writeStacked x0 x1 x2).2.flash = x2.flash ∧ (writeStacked x0 x1 x2).2.fabric = x2.fabric ∧ (writeStacked x0 x1 x2).2.embed = x2.embed ∧ (writeStacked x0 x1 x2).2.ralid = x2.ralid ∧ (writeStacked x0 x1 x2).2.cfl = x2.cfl ∧ (writeStacked x0 x1 x2).2.sec = x2.sec := by
  simp [writeStacked]

@[simp] theorem putStacked_frame (x0 : Nat) (x1 : List Byte) (x2 : State) :
    (putStacked x0 x1 x2).pending = x2.pending ∧ (putStacked x0 x1 x2).tclk = x2.tclk ∧ (putStacked x0 x1 x2).gZero = x2.gZero ∧ (putStacked x0 x1 x2).drawn = x2.drawn ∧ (putStacked x0 x1 x2).power = x2.power ∧ (putStacked x0 x1 x2).boot = x2.boot ∧ (putStacked x0 x1 x2).host = x2.host ∧ (putStacked x0 x1 x2).rings = x2.rings ∧ (putStacked x0 x1 x2).evt = x2.evt ∧ (putStacked x0 x1 x2).tensor = x2.tensor ∧ (putStacked x0 x1 x2).ecc = x2.ecc ∧ (putStacked x0 x1 x2).spaces = x2.spaces ∧ (putStacked x0 x1 x2).flash = x2.flash ∧ (putStacked x0 x1 x2).fabric = x2.fabric ∧ (putStacked x0 x1 x2).embed = x2.embed ∧ (putStacked x0 x1 x2).ralid = x2.ralid ∧ (putStacked x0 x1 x2).cfl = x2.cfl ∧ (putStacked x0 x1 x2).sec = x2.sec := by
  simp [putStacked]

@[simp] theorem poisonStacked_frame (x0 : Nat) (x1 : Nat) (x2 : State) :
    (poisonStacked x0 x1 x2).pending = x2.pending ∧ (poisonStacked x0 x1 x2).tclk = x2.tclk ∧ (poisonStacked x0 x1 x2).gZero = x2.gZero ∧ (poisonStacked x0 x1 x2).drawn = x2.drawn ∧ (poisonStacked x0 x1 x2).power = x2.power ∧ (poisonStacked x0 x1 x2).boot = x2.boot ∧ (poisonStacked x0 x1 x2).host = x2.host ∧ (poisonStacked x0 x1 x2).rings = x2.rings ∧ (poisonStacked x0 x1 x2).evt = x2.evt ∧ (poisonStacked x0 x1 x2).tensor = x2.tensor ∧ (poisonStacked x0 x1 x2).ecc = x2.ecc ∧ (poisonStacked x0 x1 x2).spaces = x2.spaces ∧ (poisonStacked x0 x1 x2).flash = x2.flash ∧ (poisonStacked x0 x1 x2).fabric = x2.fabric ∧ (poisonStacked x0 x1 x2).embed = x2.embed ∧ (poisonStacked x0 x1 x2).ralid = x2.ralid ∧ (poisonStacked x0 x1 x2).cfl = x2.cfl ∧ (poisonStacked x0 x1 x2).sec = x2.sec := by
  simp [poisonStacked]

end Sys2Proof.Machine
end

