-- ==== Sys2Proof/Laws/FramesTileOps.lean ====
section
/-! SUPPORT. What each shared operation of Machine/TileOps.lean leaves as it is. -/

namespace Sys2Proof.Machine

@[simp] theorem setTile_frame (x0 : Nat) (x1 : Tile) (x2 : State) :
    (setTile x0 x1 x2).pending = x2.pending ∧ (setTile x0 x1 x2).tclk = x2.tclk ∧ (setTile x0 x1 x2).gZero = x2.gZero ∧ (setTile x0 x1 x2).drawn = x2.drawn ∧ (setTile x0 x1 x2).power = x2.power ∧ (setTile x0 x1 x2).boot = x2.boot ∧ (setTile x0 x1 x2).host = x2.host ∧ (setTile x0 x1 x2).rings = x2.rings ∧ (setTile x0 x1 x2).evt = x2.evt ∧ (setTile x0 x1 x2).mem = x2.mem ∧ (setTile x0 x1 x2).ecc = x2.ecc ∧ (setTile x0 x1 x2).spaces = x2.spaces ∧ (setTile x0 x1 x2).flash = x2.flash ∧ (setTile x0 x1 x2).fabric = x2.fabric ∧ (setTile x0 x1 x2).embed = x2.embed ∧ (setTile x0 x1 x2).ralid = x2.ralid ∧ (setTile x0 x1 x2).cfl = x2.cfl ∧ (setTile x0 x1 x2).sec = x2.sec := by
  simp [setTile]

@[simp] theorem modTile_frame (x0 : Nat) (x1 : Tile → Tile) (x2 : State) :
    (modTile x0 x1 x2).pending = x2.pending ∧ (modTile x0 x1 x2).tclk = x2.tclk ∧ (modTile x0 x1 x2).gZero = x2.gZero ∧ (modTile x0 x1 x2).drawn = x2.drawn ∧ (modTile x0 x1 x2).power = x2.power ∧ (modTile x0 x1 x2).boot = x2.boot ∧ (modTile x0 x1 x2).host = x2.host ∧ (modTile x0 x1 x2).rings = x2.rings ∧ (modTile x0 x1 x2).evt = x2.evt ∧ (modTile x0 x1 x2).mem = x2.mem ∧ (modTile x0 x1 x2).ecc = x2.ecc ∧ (modTile x0 x1 x2).spaces = x2.spaces ∧ (modTile x0 x1 x2).flash = x2.flash ∧ (modTile x0 x1 x2).fabric = x2.fabric ∧ (modTile x0 x1 x2).embed = x2.embed ∧ (modTile x0 x1 x2).ralid = x2.ralid ∧ (modTile x0 x1 x2).cfl = x2.cfl ∧ (modTile x0 x1 x2).sec = x2.sec := by
  simp [modTile]

@[simp] theorem modAllTiles_frame (x0 : Tile → Tile) (x1 : State) :
    (modAllTiles x0 x1).pending = x1.pending ∧ (modAllTiles x0 x1).tclk = x1.tclk ∧ (modAllTiles x0 x1).gZero = x1.gZero ∧ (modAllTiles x0 x1).drawn = x1.drawn ∧ (modAllTiles x0 x1).power = x1.power ∧ (modAllTiles x0 x1).boot = x1.boot ∧ (modAllTiles x0 x1).host = x1.host ∧ (modAllTiles x0 x1).rings = x1.rings ∧ (modAllTiles x0 x1).evt = x1.evt ∧ (modAllTiles x0 x1).mem = x1.mem ∧ (modAllTiles x0 x1).ecc = x1.ecc ∧ (modAllTiles x0 x1).spaces = x1.spaces ∧ (modAllTiles x0 x1).flash = x1.flash ∧ (modAllTiles x0 x1).fabric = x1.fabric ∧ (modAllTiles x0 x1).embed = x1.embed ∧ (modAllTiles x0 x1).ralid = x1.ralid ∧ (modAllTiles x0 x1).cfl = x1.cfl ∧ (modAllTiles x0 x1).sec = x1.sec := by
  simp [modAllTiles]

@[simp] theorem setJob_frame (x0 : Nat) (x1 : Job) (x2 : State) :
    (setJob x0 x1 x2).pending = x2.pending ∧ (setJob x0 x1 x2).tclk = x2.tclk ∧ (setJob x0 x1 x2).gZero = x2.gZero ∧ (setJob x0 x1 x2).drawn = x2.drawn ∧ (setJob x0 x1 x2).power = x2.power ∧ (setJob x0 x1 x2).boot = x2.boot ∧ (setJob x0 x1 x2).host = x2.host ∧ (setJob x0 x1 x2).rings = x2.rings ∧ (setJob x0 x1 x2).evt = x2.evt ∧ (setJob x0 x1 x2).mem = x2.mem ∧ (setJob x0 x1 x2).ecc = x2.ecc ∧ (setJob x0 x1 x2).spaces = x2.spaces ∧ (setJob x0 x1 x2).flash = x2.flash ∧ (setJob x0 x1 x2).fabric = x2.fabric ∧ (setJob x0 x1 x2).embed = x2.embed ∧ (setJob x0 x1 x2).ralid = x2.ralid ∧ (setJob x0 x1 x2).cfl = x2.cfl ∧ (setJob x0 x1 x2).sec = x2.sec := by
  simp [setJob]

@[simp] theorem modJob_frame (x0 : Nat) (x1 : Job → Job) (x2 : State) :
    (modJob x0 x1 x2).pending = x2.pending ∧ (modJob x0 x1 x2).tclk = x2.tclk ∧ (modJob x0 x1 x2).gZero = x2.gZero ∧ (modJob x0 x1 x2).drawn = x2.drawn ∧ (modJob x0 x1 x2).power = x2.power ∧ (modJob x0 x1 x2).boot = x2.boot ∧ (modJob x0 x1 x2).host = x2.host ∧ (modJob x0 x1 x2).rings = x2.rings ∧ (modJob x0 x1 x2).evt = x2.evt ∧ (modJob x0 x1 x2).mem = x2.mem ∧ (modJob x0 x1 x2).ecc = x2.ecc ∧ (modJob x0 x1 x2).spaces = x2.spaces ∧ (modJob x0 x1 x2).flash = x2.flash ∧ (modJob x0 x1 x2).fabric = x2.fabric ∧ (modJob x0 x1 x2).embed = x2.embed ∧ (modJob x0 x1 x2).ralid = x2.ralid ∧ (modJob x0 x1 x2).cfl = x2.cfl ∧ (modJob x0 x1 x2).sec = x2.sec := by
  simp [modJob]

@[simp] theorem raiseSigs_frame (x0 : Nat) (x1 : List (Nat × Nat)) (x2 : State) :
    (raiseSigs x0 x1 x2).pending = x2.pending ∧ (raiseSigs x0 x1 x2).tclk = x2.tclk ∧ (raiseSigs x0 x1 x2).gZero = x2.gZero ∧ (raiseSigs x0 x1 x2).drawn = x2.drawn ∧ (raiseSigs x0 x1 x2).power = x2.power ∧ (raiseSigs x0 x1 x2).boot = x2.boot ∧ (raiseSigs x0 x1 x2).host = x2.host ∧ (raiseSigs x0 x1 x2).rings = x2.rings ∧ (raiseSigs x0 x1 x2).evt = x2.evt ∧ (raiseSigs x0 x1 x2).mem = x2.mem ∧ (raiseSigs x0 x1 x2).ecc = x2.ecc ∧ (raiseSigs x0 x1 x2).spaces = x2.spaces ∧ (raiseSigs x0 x1 x2).flash = x2.flash ∧ (raiseSigs x0 x1 x2).fabric = x2.fabric ∧ (raiseSigs x0 x1 x2).embed = x2.embed ∧ (raiseSigs x0 x1 x2).ralid = x2.ralid ∧ (raiseSigs x0 x1 x2).cfl = x2.cfl ∧ (raiseSigs x0 x1 x2).sec = x2.sec := by
  simp [raiseSigs]

@[simp] theorem completeEntry_frame (x0 : Nat) (x1 : QEntry) (x2 : State) :
    (completeEntry x0 x1 x2).pending = x2.pending ∧ (completeEntry x0 x1 x2).tclk = x2.tclk ∧ (completeEntry x0 x1 x2).gZero = x2.gZero ∧ (completeEntry x0 x1 x2).drawn = x2.drawn ∧ (completeEntry x0 x1 x2).power = x2.power ∧ (completeEntry x0 x1 x2).boot = x2.boot ∧ (completeEntry x0 x1 x2).host = x2.host ∧ (completeEntry x0 x1 x2).rings = x2.rings ∧ (completeEntry x0 x1 x2).evt = x2.evt ∧ (completeEntry x0 x1 x2).mem = x2.mem ∧ (completeEntry x0 x1 x2).ecc = x2.ecc ∧ (completeEntry x0 x1 x2).spaces = x2.spaces ∧ (completeEntry x0 x1 x2).flash = x2.flash ∧ (completeEntry x0 x1 x2).fabric = x2.fabric ∧ (completeEntry x0 x1 x2).embed = x2.embed ∧ (completeEntry x0 x1 x2).ralid = x2.ralid ∧ (completeEntry x0 x1 x2).cfl = x2.cfl ∧ (completeEntry x0 x1 x2).sec = x2.sec := by
  unfold completeEntry; dsimp only; (repeat' split) <;> simp

@[simp] theorem writeSnapshot_frame (x0 : Job) (x1 : StopRec) (x2 : State) :
    (writeSnapshot x0 x1 x2).pending = x2.pending ∧ (writeSnapshot x0 x1 x2).tclk = x2.tclk ∧ (writeSnapshot x0 x1 x2).gZero = x2.gZero ∧ (writeSnapshot x0 x1 x2).drawn = x2.drawn ∧ (writeSnapshot x0 x1 x2).power = x2.power ∧ (writeSnapshot x0 x1 x2).boot = x2.boot ∧ (writeSnapshot x0 x1 x2).host = x2.host ∧ (writeSnapshot x0 x1 x2).rings = x2.rings ∧ (writeSnapshot x0 x1 x2).evt = x2.evt ∧ (writeSnapshot x0 x1 x2).tensor = x2.tensor ∧ (writeSnapshot x0 x1 x2).ecc = x2.ecc ∧ (writeSnapshot x0 x1 x2).spaces = x2.spaces ∧ (writeSnapshot x0 x1 x2).flash = x2.flash ∧ (writeSnapshot x0 x1 x2).fabric = x2.fabric ∧ (writeSnapshot x0 x1 x2).embed = x2.embed ∧ (writeSnapshot x0 x1 x2).ralid = x2.ralid ∧ (writeSnapshot x0 x1 x2).cfl = x2.cfl ∧ (writeSnapshot x0 x1 x2).sec = x2.sec := by
  simp [writeSnapshot]

@[simp] theorem raiseFault_frame (x0 : Nat) (x1 : Nat) (x2 : Bool) (x3 : Nat) (x4 : Nat) (x5 : Nat) (x6 : State) :
    (raiseFault x0 x1 x2 x3 x4 x5 x6).pending = x6.pending ∧ (raiseFault x0 x1 x2 x3 x4 x5 x6).tclk = x6.tclk ∧ (raiseFault x0 x1 x2 x3 x4 x5 x6).gZero = x6.gZero ∧ (raiseFault x0 x1 x2 x3 x4 x5 x6).drawn = x6.drawn ∧ (raiseFault x0 x1 x2 x3 x4 x5 x6).power = x6.power ∧ (raiseFault x0 x1 x2 x3 x4 x5 x6).boot = x6.boot ∧ (raiseFault x0 x1 x2 x3 x4 x5 x6).host = x6.host ∧ (raiseFault x0 x1 x2 x3 x4 x5 x6).rings = x6.rings ∧ (raiseFault x0 x1 x2 x3 x4 x5 x6).evt = x6.evt ∧ (raiseFault x0 x1 x2 x3 x4 x5 x6).ecc = x6.ecc ∧ (raiseFault x0 x1 x2 x3 x4 x5 x6).spaces = x6.spaces ∧ (raiseFault x0 x1 x2 x3 x4 x5 x6).flash = x6.flash ∧ (raiseFault x0 x1 x2 x3 x4 x5 x6).fabric = x6.fabric ∧ (raiseFault x0 x1 x2 x3 x4 x5 x6).embed = x6.embed ∧ (raiseFault x0 x1 x2 x3 x4 x5 x6).ralid = x6.ralid ∧ (raiseFault x0 x1 x2 x3 x4 x5 x6).cfl = x6.cfl ∧ (raiseFault x0 x1 x2 x3 x4 x5 x6).sec = x6.sec := by
  unfold raiseFault; (repeat' split) <;> simp

@[simp] theorem hostClear_frame (x0 : Bool) (x1 : List (Nat × Nat)) (x2 : State) :
    (hostClear x0 x1 x2).2.pending = x2.pending ∧ (hostClear x0 x1 x2).2.tclk = x2.tclk ∧ (hostClear x0 x1 x2).2.gZero = x2.gZero ∧ (hostClear x0 x1 x2).2.drawn = x2.drawn ∧ (hostClear x0 x1 x2).2.power = x2.power ∧ (hostClear x0 x1 x2).2.boot = x2.boot ∧ (hostClear x0 x1 x2).2.rings = x2.rings ∧ (hostClear x0 x1 x2).2.evt = x2.evt ∧ (hostClear x0 x1 x2).2.tensor = x2.tensor ∧ (hostClear x0 x1 x2).2.mem = x2.mem ∧ (hostClear x0 x1 x2).2.ecc = x2.ecc ∧ (hostClear x0 x1 x2).2.spaces = x2.spaces ∧ (hostClear x0 x1 x2).2.flash = x2.flash ∧ (hostClear x0 x1 x2).2.fabric = x2.fabric ∧ (hostClear x0 x1 x2).2.embed = x2.embed ∧ (hostClear x0 x1 x2).2.ralid = x2.ralid ∧ (hostClear x0 x1 x2).2.cfl = x2.cfl ∧ (hostClear x0 x1 x2).2.sec = x2.sec := by
  simp [hostClear]

@[simp] theorem readExt_frame (x0 : Nat) (x1 : Nat) (x2 : State) :
    (readExt x0 x1 x2).2.pending = x2.pending ∧ (readExt x0 x1 x2).2.tclk = x2.tclk ∧ (readExt x0 x1 x2).2.gZero = x2.gZero ∧ (readExt x0 x1 x2).2.drawn = x2.drawn ∧ (readExt x0 x1 x2).2.power = x2.power ∧ (readExt x0 x1 x2).2.boot = x2.boot ∧ (readExt x0 x1 x2).2.rings = x2.rings ∧ (readExt x0 x1 x2).2.tensor = x2.tensor ∧ (readExt x0 x1 x2).2.mem = x2.mem ∧ (readExt x0 x1 x2).2.spaces = x2.spaces ∧ (readExt x0 x1 x2).2.flash = x2.flash ∧ (readExt x0 x1 x2).2.fabric = x2.fabric ∧ (readExt x0 x1 x2).2.embed = x2.embed ∧ (readExt x0 x1 x2).2.ralid = x2.ralid ∧ (readExt x0 x1 x2).2.cfl = x2.cfl ∧ (readExt x0 x1 x2).2.sec = x2.sec := by
  unfold readExt; split <;> simp

@[simp] theorem writeExt_frame (x0 : Nat) (x1 : List Byte) (x2 : State) :
    (writeExt x0 x1 x2).pending = x2.pending ∧ (writeExt x0 x1 x2).tclk = x2.tclk ∧ (writeExt x0 x1 x2).gZero = x2.gZero ∧ (writeExt x0 x1 x2).drawn = x2.drawn ∧ (writeExt x0 x1 x2).power = x2.power ∧ (writeExt x0 x1 x2).boot = x2.boot ∧ (writeExt x0 x1 x2).host = x2.host ∧ (writeExt x0 x1 x2).rings = x2.rings ∧ (writeExt x0 x1 x2).evt = x2.evt ∧ (writeExt x0 x1 x2).tensor = x2.tensor ∧ (writeExt x0 x1 x2).ecc = x2.ecc ∧ (writeExt x0 x1 x2).spaces = x2.spaces ∧ (writeExt x0 x1 x2).flash = x2.flash ∧ (writeExt x0 x1 x2).fabric = x2.fabric ∧ (writeExt x0 x1 x2).embed = x2.embed ∧ (writeExt x0 x1 x2).ralid = x2.ralid ∧ (writeExt x0 x1 x2).cfl = x2.cfl ∧ (writeExt x0 x1 x2).sec = x2.sec := by
  simp [writeExt]

@[simp] theorem writeRows_frame (x0 : List Nat) (x1 : Nat) (x2 : List Byte) (x3 : State) :
    (writeRows x0 x1 x2 x3).pending = x3.pending ∧ (writeRows x0 x1 x2 x3).tclk = x3.tclk ∧ (writeRows x0 x1 x2 x3).gZero = x3.gZero ∧ (writeRows x0 x1 x2 x3).drawn = x3.drawn ∧ (writeRows x0 x1 x2 x3).power = x3.power ∧ (writeRows x0 x1 x2 x3).boot = x3.boot ∧ (writeRows x0 x1 x2 x3).host = x3.host ∧ (writeRows x0 x1 x2 x3).rings = x3.rings ∧ (writeRows x0 x1 x2 x3).evt = x3.evt ∧ (writeRows x0 x1 x2 x3).tensor = x3.tensor ∧ (writeRows x0 x1 x2 x3).ecc = x3.ecc ∧ (writeRows x0 x1 x2 x3).spaces = x3.spaces ∧ (writeRows x0 x1 x2 x3).flash = x3.flash ∧ (writeRows x0 x1 x2 x3).fabric = x3.fabric ∧ (writeRows x0 x1 x2 x3).embed = x3.embed ∧ (writeRows x0 x1 x2 x3).ralid = x3.ralid ∧ (writeRows x0 x1 x2 x3).cfl = x3.cfl ∧ (writeRows x0 x1 x2 x3).sec = x3.sec := by
  fun_induction writeRows x0 x1 x2 x3 <;> simp_all

end Sys2Proof.Machine
end

