-- ==== Sys2Proof/Laws/FramesDispatcher.lean ====
section
/-! SUPPORT. What each shared operation of Machine/Dispatcher.lean leaves as it is. -/

namespace Sys2Proof.Machine

@[simp] theorem continueWord_frame (x0 : Nat) (x1 : State) :
    (continueWord x0 x1).pending = x1.pending ∧ (continueWord x0 x1).tclk = x1.tclk ∧ (continueWord x0 x1).gZero = x1.gZero ∧ (continueWord x0 x1).drawn = x1.drawn ∧ (continueWord x0 x1).power = x1.power ∧ (continueWord x0 x1).boot = x1.boot ∧ (continueWord x0 x1).host = x1.host ∧ (continueWord x0 x1).rings = x1.rings ∧ (continueWord x0 x1).evt = x1.evt ∧ (continueWord x0 x1).mem = x1.mem ∧ (continueWord x0 x1).ecc = x1.ecc ∧ (continueWord x0 x1).spaces = x1.spaces ∧ (continueWord x0 x1).flash = x1.flash ∧ (continueWord x0 x1).fabric = x1.fabric ∧ (continueWord x0 x1).embed = x1.embed ∧ (continueWord x0 x1).ralid = x1.ralid ∧ (continueWord x0 x1).cfl = x1.cfl ∧ (continueWord x0 x1).sec = x1.sec := by
  unfold continueWord; dsimp only; (repeat' split) <;> simp

@[simp] theorem dispatchWord_frame (x0 : Nat) (x1 : W64) (x2 : List (Nat × BitVec 128)) (x3 : State) :
    (dispatchWord x0 x1 x2 x3).pending = x3.pending ∧ (dispatchWord x0 x1 x2 x3).tclk = x3.tclk ∧ (dispatchWord x0 x1 x2 x3).gZero = x3.gZero ∧ (dispatchWord x0 x1 x2 x3).drawn = x3.drawn ∧ (dispatchWord x0 x1 x2 x3).power = x3.power ∧ (dispatchWord x0 x1 x2 x3).boot = x3.boot ∧ (dispatchWord x0 x1 x2 x3).host = x3.host ∧ (dispatchWord x0 x1 x2 x3).rings = x3.rings ∧ (dispatchWord x0 x1 x2 x3).evt = x3.evt ∧ (dispatchWord x0 x1 x2 x3).mem = x3.mem ∧ (dispatchWord x0 x1 x2 x3).ecc = x3.ecc ∧ (dispatchWord x0 x1 x2 x3).spaces = x3.spaces ∧ (dispatchWord x0 x1 x2 x3).flash = x3.flash ∧ (dispatchWord x0 x1 x2 x3).fabric = x3.fabric ∧ (dispatchWord x0 x1 x2 x3).embed = x3.embed ∧ (dispatchWord x0 x1 x2 x3).ralid = x3.ralid ∧ (dispatchWord x0 x1 x2 x3).cfl = x3.cfl ∧ (dispatchWord x0 x1 x2 x3).sec = x3.sec := by
  simp [dispatchWord]

@[simp] theorem finishTaken_frame (x0 : Nat) (x1 : Engine) (x2 : QEntry → Bool) (x3 : State) :
    (finishTaken x0 x1 x2 x3).pending = x3.pending ∧ (finishTaken x0 x1 x2 x3).tclk = x3.tclk ∧ (finishTaken x0 x1 x2 x3).gZero = x3.gZero ∧ (finishTaken x0 x1 x2 x3).drawn = x3.drawn ∧ (finishTaken x0 x1 x2 x3).power = x3.power ∧ (finishTaken x0 x1 x2 x3).boot = x3.boot ∧ (finishTaken x0 x1 x2 x3).host = x3.host ∧ (finishTaken x0 x1 x2 x3).rings = x3.rings ∧ (finishTaken x0 x1 x2 x3).evt = x3.evt ∧ (finishTaken x0 x1 x2 x3).mem = x3.mem ∧ (finishTaken x0 x1 x2 x3).ecc = x3.ecc ∧ (finishTaken x0 x1 x2 x3).spaces = x3.spaces ∧ (finishTaken x0 x1 x2 x3).flash = x3.flash ∧ (finishTaken x0 x1 x2 x3).fabric = x3.fabric ∧ (finishTaken x0 x1 x2 x3).embed = x3.embed ∧ (finishTaken x0 x1 x2 x3).ralid = x3.ralid ∧ (finishTaken x0 x1 x2 x3).cfl = x3.cfl ∧ (finishTaken x0 x1 x2 x3).sec = x3.sec := by
  unfold finishTaken; dsimp only; (repeat' split) <;> simp

@[simp] theorem runSync_frame (x0 : Nat) (x1 : BitVec 128) (x2 : Tile → Tile) (x3 : State) :
    (runSync x0 x1 x2 x3).pending = x3.pending ∧ (runSync x0 x1 x2 x3).tclk = x3.tclk ∧ (runSync x0 x1 x2 x3).gZero = x3.gZero ∧ (runSync x0 x1 x2 x3).drawn = x3.drawn ∧ (runSync x0 x1 x2 x3).power = x3.power ∧ (runSync x0 x1 x2 x3).boot = x3.boot ∧ (runSync x0 x1 x2 x3).host = x3.host ∧ (runSync x0 x1 x2 x3).rings = x3.rings ∧ (runSync x0 x1 x2 x3).evt = x3.evt ∧ (runSync x0 x1 x2 x3).mem = x3.mem ∧ (runSync x0 x1 x2 x3).ecc = x3.ecc ∧ (runSync x0 x1 x2 x3).spaces = x3.spaces ∧ (runSync x0 x1 x2 x3).flash = x3.flash ∧ (runSync x0 x1 x2 x3).fabric = x3.fabric ∧ (runSync x0 x1 x2 x3).embed = x3.embed ∧ (runSync x0 x1 x2 x3).ralid = x3.ralid ∧ (runSync x0 x1 x2 x3).cfl = x3.cfl ∧ (runSync x0 x1 x2 x3).sec = x3.sec := by
  simp [runSync]

@[simp] theorem runDrain_frame (x0 : Nat) (x1 : BitVec 128) (x2 : DrainKind) (x3 : Tile → Tile) (x4 : State) :
    (runDrain x0 x1 x2 x3 x4).pending = x4.pending ∧ (runDrain x0 x1 x2 x3 x4).tclk = x4.tclk ∧ (runDrain x0 x1 x2 x3 x4).gZero = x4.gZero ∧ (runDrain x0 x1 x2 x3 x4).drawn = x4.drawn ∧ (runDrain x0 x1 x2 x3 x4).power = x4.power ∧ (runDrain x0 x1 x2 x3 x4).boot = x4.boot ∧ (runDrain x0 x1 x2 x3 x4).host = x4.host ∧ (runDrain x0 x1 x2 x3 x4).rings = x4.rings ∧ (runDrain x0 x1 x2 x3 x4).evt = x4.evt ∧ (runDrain x0 x1 x2 x3 x4).mem = x4.mem ∧ (runDrain x0 x1 x2 x3 x4).ecc = x4.ecc ∧ (runDrain x0 x1 x2 x3 x4).spaces = x4.spaces ∧ (runDrain x0 x1 x2 x3 x4).flash = x4.flash ∧ (runDrain x0 x1 x2 x3 x4).fabric = x4.fabric ∧ (runDrain x0 x1 x2 x3 x4).embed = x4.embed ∧ (runDrain x0 x1 x2 x3 x4).ralid = x4.ralid ∧ (runDrain x0 x1 x2 x3 x4).cfl = x4.cfl ∧ (runDrain x0 x1 x2 x3 x4).sec = x4.sec := by
  simp [runDrain]

end Sys2Proof.Machine
end

