-- ==== Sys2Proof/Laws/FramesTables.lean ====
section
/-! SUPPORT. What each shared operation of Machine/Tables.lean leaves as it is. -/

namespace Sys2Proof.Machine

@[simp] theorem readNat_frame (x0 : Nat) (x1 : Nat) (x2 : State) :
    (readNat x0 x1 x2).2.pending = x2.pending ∧ (readNat x0 x1 x2).2.tclk = x2.tclk ∧ (readNat x0 x1 x2).2.gZero = x2.gZero ∧ (readNat x0 x1 x2).2.drawn = x2.drawn ∧ (readNat x0 x1 x2).2.power = x2.power ∧ (readNat x0 x1 x2).2.boot = x2.boot ∧ (readNat x0 x1 x2).2.rings = x2.rings ∧ (readNat x0 x1 x2).2.tensor = x2.tensor ∧ (readNat x0 x1 x2).2.mem = x2.mem ∧ (readNat x0 x1 x2).2.spaces = x2.spaces ∧ (readNat x0 x1 x2).2.flash = x2.flash ∧ (readNat x0 x1 x2).2.fabric = x2.fabric ∧ (readNat x0 x1 x2).2.embed = x2.embed ∧ (readNat x0 x1 x2).2.ralid = x2.ralid ∧ (readNat x0 x1 x2).2.cfl = x2.cfl ∧ (readNat x0 x1 x2).2.sec = x2.sec := by
  unfold readNat; (repeat' (split <;> (try (obtain rfl := snd_of_eq ‹_ = (_, _)›)))); all_goals (first | done | simp | simp_all)

@[simp] theorem readTable_frame (x0 : Nat) (x1 : Nat) (x2 : Nat) (x3 : State) :
    (readTable x0 x1 x2 x3).2.pending = x3.pending ∧ (readTable x0 x1 x2 x3).2.tclk = x3.tclk ∧ (readTable x0 x1 x2 x3).2.gZero = x3.gZero ∧ (readTable x0 x1 x2 x3).2.drawn = x3.drawn ∧ (readTable x0 x1 x2 x3).2.power = x3.power ∧ (readTable x0 x1 x2 x3).2.boot = x3.boot ∧ (readTable x0 x1 x2 x3).2.rings = x3.rings ∧ (readTable x0 x1 x2 x3).2.tensor = x3.tensor ∧ (readTable x0 x1 x2 x3).2.mem = x3.mem ∧ (readTable x0 x1 x2 x3).2.spaces = x3.spaces ∧ (readTable x0 x1 x2 x3).2.flash = x3.flash ∧ (readTable x0 x1 x2 x3).2.fabric = x3.fabric ∧ (readTable x0 x1 x2 x3).2.embed = x3.embed ∧ (readTable x0 x1 x2 x3).2.ralid = x3.ralid ∧ (readTable x0 x1 x2 x3).2.cfl = x3.cfl ∧ (readTable x0 x1 x2 x3).2.sec = x3.sec := by
  unfold readTable; (repeat' (split <;> (try (obtain rfl := snd_of_eq ‹_ = (_, _)›)))); all_goals (first | done | simp | simp_all)

@[simp] theorem phaseEntry_frame (x0 : Job) (x1 : Nat) (x2 : State) :
    (phaseEntry x0 x1 x2).2.pending = x2.pending ∧ (phaseEntry x0 x1 x2).2.tclk = x2.tclk ∧ (phaseEntry x0 x1 x2).2.gZero = x2.gZero ∧ (phaseEntry x0 x1 x2).2.drawn = x2.drawn ∧ (phaseEntry x0 x1 x2).2.power = x2.power ∧ (phaseEntry x0 x1 x2).2.boot = x2.boot ∧ (phaseEntry x0 x1 x2).2.rings = x2.rings ∧ (phaseEntry x0 x1 x2).2.tensor = x2.tensor ∧ (phaseEntry x0 x1 x2).2.mem = x2.mem ∧ (phaseEntry x0 x1 x2).2.spaces = x2.spaces ∧ (phaseEntry x0 x1 x2).2.flash = x2.flash ∧ (phaseEntry x0 x1 x2).2.fabric = x2.fabric ∧ (phaseEntry x0 x1 x2).2.embed = x2.embed ∧ (phaseEntry x0 x1 x2).2.ralid = x2.ralid ∧ (phaseEntry x0 x1 x2).2.cfl = x2.cfl ∧ (phaseEntry x0 x1 x2).2.sec = x2.sec := by
  simp [phaseEntry]

@[simp] theorem readSet_frame (x0 : Job) (x1 : Nat) (x2 : State) :
    (readSet x0 x1 x2).2.pending = x2.pending ∧ (readSet x0 x1 x2).2.tclk = x2.tclk ∧ (readSet x0 x1 x2).2.gZero = x2.gZero ∧ (readSet x0 x1 x2).2.drawn = x2.drawn ∧ (readSet x0 x1 x2).2.power = x2.power ∧ (readSet x0 x1 x2).2.boot = x2.boot ∧ (readSet x0 x1 x2).2.rings = x2.rings ∧ (readSet x0 x1 x2).2.tensor = x2.tensor ∧ (readSet x0 x1 x2).2.mem = x2.mem ∧ (readSet x0 x1 x2).2.spaces = x2.spaces ∧ (readSet x0 x1 x2).2.flash = x2.flash ∧ (readSet x0 x1 x2).2.fabric = x2.fabric ∧ (readSet x0 x1 x2).2.embed = x2.embed ∧ (readSet x0 x1 x2).2.ralid = x2.ralid ∧ (readSet x0 x1 x2).2.cfl = x2.cfl ∧ (readSet x0 x1 x2).2.sec = x2.sec := by
  unfold readSet; dsimp only; (repeat' (split <;> (try (obtain rfl := snd_of_eq ‹_ = (_, _)›)))); all_goals (first | done | simp | simp_all)

@[simp] theorem readMapping_frame (x0 : Nat) (x1 : State) :
    (readMapping x0 x1).2.pending = x1.pending ∧ (readMapping x0 x1).2.tclk = x1.tclk ∧ (readMapping x0 x1).2.gZero = x1.gZero ∧ (readMapping x0 x1).2.drawn = x1.drawn ∧ (readMapping x0 x1).2.power = x1.power ∧ (readMapping x0 x1).2.boot = x1.boot ∧ (readMapping x0 x1).2.rings = x1.rings ∧ (readMapping x0 x1).2.tensor = x1.tensor ∧ (readMapping x0 x1).2.mem = x1.mem ∧ (readMapping x0 x1).2.spaces = x1.spaces ∧ (readMapping x0 x1).2.flash = x1.flash ∧ (readMapping x0 x1).2.fabric = x1.fabric ∧ (readMapping x0 x1).2.embed = x1.embed ∧ (readMapping x0 x1).2.ralid = x1.ralid ∧ (readMapping x0 x1).2.cfl = x1.cfl ∧ (readMapping x0 x1).2.sec = x1.sec := by
  unfold readMapping; dsimp only; (repeat' (split <;> (try (obtain rfl := snd_of_eq ‹_ = (_, _)›)))); all_goals (first | done | simp | simp_all)

@[simp] theorem readItins_frame (x0 : Nat) (x1 : State) :
    (readItins x0 x1).2.pending = x1.pending ∧ (readItins x0 x1).2.tclk = x1.tclk ∧ (readItins x0 x1).2.gZero = x1.gZero ∧ (readItins x0 x1).2.drawn = x1.drawn ∧ (readItins x0 x1).2.power = x1.power ∧ (readItins x0 x1).2.boot = x1.boot ∧ (readItins x0 x1).2.rings = x1.rings ∧ (readItins x0 x1).2.tensor = x1.tensor ∧ (readItins x0 x1).2.mem = x1.mem ∧ (readItins x0 x1).2.spaces = x1.spaces ∧ (readItins x0 x1).2.flash = x1.flash ∧ (readItins x0 x1).2.fabric = x1.fabric ∧ (readItins x0 x1).2.embed = x1.embed ∧ (readItins x0 x1).2.ralid = x1.ralid ∧ (readItins x0 x1).2.cfl = x1.cfl ∧ (readItins x0 x1).2.sec = x1.sec := by
  unfold readItins; dsimp only; (repeat' (split <;> (try (obtain rfl := snd_of_eq ‹_ = (_, _)›)))); all_goals (first | done | simp | simp_all)

@[simp] theorem readCaravans_frame (x0 : Nat) (x1 : State) :
    (readCaravans x0 x1).2.pending = x1.pending ∧ (readCaravans x0 x1).2.tclk = x1.tclk ∧ (readCaravans x0 x1).2.gZero = x1.gZero ∧ (readCaravans x0 x1).2.drawn = x1.drawn ∧ (readCaravans x0 x1).2.power = x1.power ∧ (readCaravans x0 x1).2.boot = x1.boot ∧ (readCaravans x0 x1).2.rings = x1.rings ∧ (readCaravans x0 x1).2.tensor = x1.tensor ∧ (readCaravans x0 x1).2.mem = x1.mem ∧ (readCaravans x0 x1).2.spaces = x1.spaces ∧ (readCaravans x0 x1).2.flash = x1.flash ∧ (readCaravans x0 x1).2.fabric = x1.fabric ∧ (readCaravans x0 x1).2.embed = x1.embed ∧ (readCaravans x0 x1).2.ralid = x1.ralid ∧ (readCaravans x0 x1).2.cfl = x1.cfl ∧ (readCaravans x0 x1).2.sec = x1.sec := by
  unfold readCaravans; (repeat' (split <;> (try (obtain rfl := snd_of_eq ‹_ = (_, _)›)))); all_goals (first | done | simp | simp_all)

@[simp] theorem lrDescriptor_frame (x0 : Job) (x1 : Nat) (x2 : State) :
    (lrDescriptor x0 x1 x2).2.pending = x2.pending ∧ (lrDescriptor x0 x1 x2).2.tclk = x2.tclk ∧ (lrDescriptor x0 x1 x2).2.gZero = x2.gZero ∧ (lrDescriptor x0 x1 x2).2.drawn = x2.drawn ∧ (lrDescriptor x0 x1 x2).2.power = x2.power ∧ (lrDescriptor x0 x1 x2).2.boot = x2.boot ∧ (lrDescriptor x0 x1 x2).2.rings = x2.rings ∧ (lrDescriptor x0 x1 x2).2.tensor = x2.tensor ∧ (lrDescriptor x0 x1 x2).2.mem = x2.mem ∧ (lrDescriptor x0 x1 x2).2.spaces = x2.spaces ∧ (lrDescriptor x0 x1 x2).2.flash = x2.flash ∧ (lrDescriptor x0 x1 x2).2.fabric = x2.fabric ∧ (lrDescriptor x0 x1 x2).2.embed = x2.embed ∧ (lrDescriptor x0 x1 x2).2.ralid = x2.ralid ∧ (lrDescriptor x0 x1 x2).2.cfl = x2.cfl ∧ (lrDescriptor x0 x1 x2).2.sec = x2.sec := by
  simp [lrDescriptor]

@[simp] theorem lrRanges_frame (x0 : Nat) (x1 : State) :
    (lrRanges x0 x1).2.pending = x1.pending ∧ (lrRanges x0 x1).2.tclk = x1.tclk ∧ (lrRanges x0 x1).2.gZero = x1.gZero ∧ (lrRanges x0 x1).2.drawn = x1.drawn ∧ (lrRanges x0 x1).2.power = x1.power ∧ (lrRanges x0 x1).2.boot = x1.boot ∧ (lrRanges x0 x1).2.rings = x1.rings ∧ (lrRanges x0 x1).2.tensor = x1.tensor ∧ (lrRanges x0 x1).2.mem = x1.mem ∧ (lrRanges x0 x1).2.spaces = x1.spaces ∧ (lrRanges x0 x1).2.flash = x1.flash ∧ (lrRanges x0 x1).2.fabric = x1.fabric ∧ (lrRanges x0 x1).2.embed = x1.embed ∧ (lrRanges x0 x1).2.ralid = x1.ralid ∧ (lrRanges x0 x1).2.cfl = x1.cfl ∧ (lrRanges x0 x1).2.sec = x1.sec := by
  simp [lrRanges]

@[simp] theorem libraryCheck_frame (x0 : BitVec 1024) (x1 : LibVerdict) (x2 : State) :
    (libraryCheck x0 x1 x2).2.pending = x2.pending ∧ (libraryCheck x0 x1 x2).2.tclk = x2.tclk ∧ (libraryCheck x0 x1 x2).2.gZero = x2.gZero ∧ (libraryCheck x0 x1 x2).2.drawn = x2.drawn ∧ (libraryCheck x0 x1 x2).2.power = x2.power ∧ (libraryCheck x0 x1 x2).2.boot = x2.boot ∧ (libraryCheck x0 x1 x2).2.rings = x2.rings ∧ (libraryCheck x0 x1 x2).2.tensor = x2.tensor ∧ (libraryCheck x0 x1 x2).2.mem = x2.mem ∧ (libraryCheck x0 x1 x2).2.spaces = x2.spaces ∧ (libraryCheck x0 x1 x2).2.flash = x2.flash ∧ (libraryCheck x0 x1 x2).2.fabric = x2.fabric ∧ (libraryCheck x0 x1 x2).2.embed = x2.embed ∧ (libraryCheck x0 x1 x2).2.ralid = x2.ralid ∧ (libraryCheck x0 x1 x2).2.cfl = x2.cfl ∧ (libraryCheck x0 x1 x2).2.sec = x2.sec := by
  unfold libraryCheck; dsimp only; (repeat' (split <;> (try (obtain rfl := snd_of_eq ‹_ = (_, _)›)))); all_goals (first | done | simp | simp_all)

end Sys2Proof.Machine
end

