-- ==== Sys2Proof/Laws/FramesEmbedOps.lean ====
section
/-! SUPPORT. What each shared operation of Machine/EmbedOps.lean leaves as it is. -/

namespace Sys2Proof.Machine

@[simp] theorem setEmbed_frame (x0 : Embed) (x1 : State) :
    (setEmbed x0 x1).pending = x1.pending ∧ (setEmbed x0 x1).tclk = x1.tclk ∧ (setEmbed x0 x1).gZero = x1.gZero ∧ (setEmbed x0 x1).drawn = x1.drawn ∧ (setEmbed x0 x1).power = x1.power ∧ (setEmbed x0 x1).boot = x1.boot ∧ (setEmbed x0 x1).host = x1.host ∧ (setEmbed x0 x1).rings = x1.rings ∧ (setEmbed x0 x1).evt = x1.evt ∧ (setEmbed x0 x1).tensor = x1.tensor ∧ (setEmbed x0 x1).mem = x1.mem ∧ (setEmbed x0 x1).ecc = x1.ecc ∧ (setEmbed x0 x1).spaces = x1.spaces ∧ (setEmbed x0 x1).flash = x1.flash ∧ (setEmbed x0 x1).fabric = x1.fabric ∧ (setEmbed x0 x1).ralid = x1.ralid ∧ (setEmbed x0 x1).cfl = x1.cfl ∧ (setEmbed x0 x1).sec = x1.sec := by
  simp [setEmbed]

@[simp] theorem finishEmbed_frame (x0 : Nat) (x1 : State) :
    (finishEmbed x0 x1).pending = x1.pending ∧ (finishEmbed x0 x1).tclk = x1.tclk ∧ (finishEmbed x0 x1).gZero = x1.gZero ∧ (finishEmbed x0 x1).power = x1.power ∧ (finishEmbed x0 x1).boot = x1.boot ∧ (finishEmbed x0 x1).tensor = x1.tensor ∧ (finishEmbed x0 x1).mem = x1.mem ∧ (finishEmbed x0 x1).ecc = x1.ecc ∧ (finishEmbed x0 x1).spaces = x1.spaces ∧ (finishEmbed x0 x1).flash = x1.flash ∧ (finishEmbed x0 x1).fabric = x1.fabric ∧ (finishEmbed x0 x1).ralid = x1.ralid ∧ (finishEmbed x0 x1).cfl = x1.cfl ∧ (finishEmbed x0 x1).sec = x1.sec := by
  unfold finishEmbed; split <;> simp

@[simp] theorem leaveDoc_frame (x0 : EmbedDoc) (x1 : Nat) (x2 : Bool) (x3 : List Byte) (x4 : List Byte) (x5 : State) :
    (leaveDoc x0 x1 x2 x3 x4 x5).pending = x5.pending ∧ (leaveDoc x0 x1 x2 x3 x4 x5).tclk = x5.tclk ∧ (leaveDoc x0 x1 x2 x3 x4 x5).gZero = x5.gZero ∧ (leaveDoc x0 x1 x2 x3 x4 x5).power = x5.power ∧ (leaveDoc x0 x1 x2 x3 x4 x5).boot = x5.boot ∧ (leaveDoc x0 x1 x2 x3 x4 x5).tensor = x5.tensor ∧ (leaveDoc x0 x1 x2 x3 x4 x5).mem = x5.mem ∧ (leaveDoc x0 x1 x2 x3 x4 x5).ecc = x5.ecc ∧ (leaveDoc x0 x1 x2 x3 x4 x5).spaces = x5.spaces ∧ (leaveDoc x0 x1 x2 x3 x4 x5).flash = x5.flash ∧ (leaveDoc x0 x1 x2 x3 x4 x5).fabric = x5.fabric ∧ (leaveDoc x0 x1 x2 x3 x4 x5).ralid = x5.ralid ∧ (leaveDoc x0 x1 x2 x3 x4 x5).cfl = x5.cfl ∧ (leaveDoc x0 x1 x2 x3 x4 x5).sec = x5.sec := by
  unfold leaveDoc; split <;> simp

@[simp] theorem abortCmd_frame (x0 : Nat) (x1 : State) :
    (abortCmd x0 x1).pending = x1.pending ∧ (abortCmd x0 x1).tclk = x1.tclk ∧ (abortCmd x0 x1).gZero = x1.gZero ∧ (abortCmd x0 x1).power = x1.power ∧ (abortCmd x0 x1).boot = x1.boot ∧ (abortCmd x0 x1).tensor = x1.tensor ∧ (abortCmd x0 x1).mem = x1.mem ∧ (abortCmd x0 x1).ecc = x1.ecc ∧ (abortCmd x0 x1).spaces = x1.spaces ∧ (abortCmd x0 x1).flash = x1.flash ∧ (abortCmd x0 x1).fabric = x1.fabric ∧ (abortCmd x0 x1).ralid = x1.ralid ∧ (abortCmd x0 x1).cfl = x1.cfl ∧ (abortCmd x0 x1).sec = x1.sec := by
  unfold abortCmd; split <;> simp

@[simp] theorem finishUnbind_frame (x0 : State) :
    (finishUnbind x0).pending = x0.pending ∧ (finishUnbind x0).tclk = x0.tclk ∧ (finishUnbind x0).gZero = x0.gZero ∧ (finishUnbind x0).power = x0.power ∧ (finishUnbind x0).boot = x0.boot ∧ (finishUnbind x0).tensor = x0.tensor ∧ (finishUnbind x0).mem = x0.mem ∧ (finishUnbind x0).ecc = x0.ecc ∧ (finishUnbind x0).spaces = x0.spaces ∧ (finishUnbind x0).flash = x0.flash ∧ (finishUnbind x0).fabric = x0.fabric ∧ (finishUnbind x0).ralid = x0.ralid ∧ (finishUnbind x0).cfl = x0.cfl ∧ (finishUnbind x0).sec = x0.sec := by
  unfold finishUnbind; split <;> simp

@[simp] theorem endService_frame (x0 : State) :
    (endService x0).pending = x0.pending ∧ (endService x0).tclk = x0.tclk ∧ (endService x0).gZero = x0.gZero ∧ (endService x0).power = x0.power ∧ (endService x0).boot = x0.boot ∧ (endService x0).tensor = x0.tensor ∧ (endService x0).mem = x0.mem ∧ (endService x0).ecc = x0.ecc ∧ (endService x0).spaces = x0.spaces ∧ (endService x0).flash = x0.flash ∧ (endService x0).fabric = x0.fabric ∧ (endService x0).ralid = x0.ralid ∧ (endService x0).cfl = x0.cfl ∧ (endService x0).sec = x0.sec := by
  unfold endService; dsimp only; (repeat' split) <;> simp

end Sys2Proof.Machine
end

