-- ==== Sys2Proof/Laws/FramesFabric.lean ====
section
/-! SUPPORT. What each shared operation of Machine/Fabric.lean leaves as it is. -/

namespace Sys2Proof.Machine

@[simp] theorem setPort_frame (x0 : Nat) (x1 : Port) (x2 : State) :
    (setPort x0 x1 x2).pending = x2.pending ∧ (setPort x0 x1 x2).tclk = x2.tclk ∧ (setPort x0 x1 x2).gZero = x2.gZero ∧ (setPort x0 x1 x2).drawn = x2.drawn ∧ (setPort x0 x1 x2).power = x2.power ∧ (setPort x0 x1 x2).boot = x2.boot ∧ (setPort x0 x1 x2).host = x2.host ∧ (setPort x0 x1 x2).rings = x2.rings ∧ (setPort x0 x1 x2).evt = x2.evt ∧ (setPort x0 x1 x2).tensor = x2.tensor ∧ (setPort x0 x1 x2).mem = x2.mem ∧ (setPort x0 x1 x2).ecc = x2.ecc ∧ (setPort x0 x1 x2).spaces = x2.spaces ∧ (setPort x0 x1 x2).flash = x2.flash ∧ (setPort x0 x1 x2).embed = x2.embed ∧ (setPort x0 x1 x2).ralid = x2.ralid ∧ (setPort x0 x1 x2).cfl = x2.cfl ∧ (setPort x0 x1 x2).sec = x2.sec := by
  simp [setPort]

@[simp] theorem modPort_frame (x0 : Nat) (x1 : Port → Port) (x2 : State) :
    (modPort x0 x1 x2).pending = x2.pending ∧ (modPort x0 x1 x2).tclk = x2.tclk ∧ (modPort x0 x1 x2).gZero = x2.gZero ∧ (modPort x0 x1 x2).drawn = x2.drawn ∧ (modPort x0 x1 x2).power = x2.power ∧ (modPort x0 x1 x2).boot = x2.boot ∧ (modPort x0 x1 x2).host = x2.host ∧ (modPort x0 x1 x2).rings = x2.rings ∧ (modPort x0 x1 x2).evt = x2.evt ∧ (modPort x0 x1 x2).tensor = x2.tensor ∧ (modPort x0 x1 x2).mem = x2.mem ∧ (modPort x0 x1 x2).ecc = x2.ecc ∧ (modPort x0 x1 x2).spaces = x2.spaces ∧ (modPort x0 x1 x2).flash = x2.flash ∧ (modPort x0 x1 x2).embed = x2.embed ∧ (modPort x0 x1 x2).ralid = x2.ralid ∧ (modPort x0 x1 x2).cfl = x2.cfl ∧ (modPort x0 x1 x2).sec = x2.sec := by
  simp [modPort]

@[simp] theorem queueAt_frame (x0 : Nat) (x1 : Parcel) (x2 : State) :
    (queueAt x0 x1 x2).pending = x2.pending ∧ (queueAt x0 x1 x2).tclk = x2.tclk ∧ (queueAt x0 x1 x2).gZero = x2.gZero ∧ (queueAt x0 x1 x2).drawn = x2.drawn ∧ (queueAt x0 x1 x2).power = x2.power ∧ (queueAt x0 x1 x2).boot = x2.boot ∧ (queueAt x0 x1 x2).host = x2.host ∧ (queueAt x0 x1 x2).rings = x2.rings ∧ (queueAt x0 x1 x2).evt = x2.evt ∧ (queueAt x0 x1 x2).tensor = x2.tensor ∧ (queueAt x0 x1 x2).mem = x2.mem ∧ (queueAt x0 x1 x2).ecc = x2.ecc ∧ (queueAt x0 x1 x2).spaces = x2.spaces ∧ (queueAt x0 x1 x2).flash = x2.flash ∧ (queueAt x0 x1 x2).embed = x2.embed ∧ (queueAt x0 x1 x2).ralid = x2.ralid ∧ (queueAt x0 x1 x2).cfl = x2.cfl ∧ (queueAt x0 x1 x2).sec = x2.sec := by
  simp [queueAt]

@[simp] theorem sendParcel_frame (x0 : Parcel) (x1 : State) :
    (sendParcel x0 x1).pending = x1.pending ∧ (sendParcel x0 x1).tclk = x1.tclk ∧ (sendParcel x0 x1).gZero = x1.gZero ∧ (sendParcel x0 x1).drawn = x1.drawn ∧ (sendParcel x0 x1).power = x1.power ∧ (sendParcel x0 x1).boot = x1.boot ∧ (sendParcel x0 x1).host = x1.host ∧ (sendParcel x0 x1).rings = x1.rings ∧ (sendParcel x0 x1).evt = x1.evt ∧ (sendParcel x0 x1).tensor = x1.tensor ∧ (sendParcel x0 x1).mem = x1.mem ∧ (sendParcel x0 x1).ecc = x1.ecc ∧ (sendParcel x0 x1).spaces = x1.spaces ∧ (sendParcel x0 x1).flash = x1.flash ∧ (sendParcel x0 x1).embed = x1.embed ∧ (sendParcel x0 x1).ralid = x1.ralid ∧ (sendParcel x0 x1).cfl = x1.cfl ∧ (sendParcel x0 x1).sec = x1.sec := by
  unfold sendParcel; split <;> simp

@[simp] theorem answer_frame (x0 : Parcel) (x1 : Nat) (x2 : State) :
    (answer x0 x1 x2).pending = x2.pending ∧ (answer x0 x1 x2).tclk = x2.tclk ∧ (answer x0 x1 x2).gZero = x2.gZero ∧ (answer x0 x1 x2).drawn = x2.drawn ∧ (answer x0 x1 x2).power = x2.power ∧ (answer x0 x1 x2).boot = x2.boot ∧ (answer x0 x1 x2).host = x2.host ∧ (answer x0 x1 x2).rings = x2.rings ∧ (answer x0 x1 x2).evt = x2.evt ∧ (answer x0 x1 x2).tensor = x2.tensor ∧ (answer x0 x1 x2).mem = x2.mem ∧ (answer x0 x1 x2).ecc = x2.ecc ∧ (answer x0 x1 x2).spaces = x2.spaces ∧ (answer x0 x1 x2).flash = x2.flash ∧ (answer x0 x1 x2).embed = x2.embed ∧ (answer x0 x1 x2).ralid = x2.ralid ∧ (answer x0 x1 x2).cfl = x2.cfl ∧ (answer x0 x1 x2).sec = x2.sec := by
  simp [answer]

@[simp] theorem sendRequest_frame (x0 : Nat) (x1 : Nat) (x2 : Nat) (x3 : Bool) (x4 : Nat) (x5 : Nat) (x6 : Nat) (x7 : List W64) (x8 : ReqFor) (x9 : State) :
    (sendRequest x0 x1 x2 x3 x4 x5 x6 x7 x8 x9).pending = x9.pending ∧ (sendRequest x0 x1 x2 x3 x4 x5 x6 x7 x8 x9).tclk = x9.tclk ∧ (sendRequest x0 x1 x2 x3 x4 x5 x6 x7 x8 x9).gZero = x9.gZero ∧ (sendRequest x0 x1 x2 x3 x4 x5 x6 x7 x8 x9).drawn = x9.drawn ∧ (sendRequest x0 x1 x2 x3 x4 x5 x6 x7 x8 x9).power = x9.power ∧ (sendRequest x0 x1 x2 x3 x4 x5 x6 x7 x8 x9).boot = x9.boot ∧ (sendRequest x0 x1 x2 x3 x4 x5 x6 x7 x8 x9).host = x9.host ∧ (sendRequest x0 x1 x2 x3 x4 x5 x6 x7 x8 x9).rings = x9.rings ∧ (sendRequest x0 x1 x2 x3 x4 x5 x6 x7 x8 x9).evt = x9.evt ∧ (sendRequest x0 x1 x2 x3 x4 x5 x6 x7 x8 x9).tensor = x9.tensor ∧ (sendRequest x0 x1 x2 x3 x4 x5 x6 x7 x8 x9).mem = x9.mem ∧ (sendRequest x0 x1 x2 x3 x4 x5 x6 x7 x8 x9).ecc = x9.ecc ∧ (sendRequest x0 x1 x2 x3 x4 x5 x6 x7 x8 x9).spaces = x9.spaces ∧ (sendRequest x0 x1 x2 x3 x4 x5 x6 x7 x8 x9).flash = x9.flash ∧ (sendRequest x0 x1 x2 x3 x4 x5 x6 x7 x8 x9).embed = x9.embed ∧ (sendRequest x0 x1 x2 x3 x4 x5 x6 x7 x8 x9).ralid = x9.ralid ∧ (sendRequest x0 x1 x2 x3 x4 x5 x6 x7 x8 x9).cfl = x9.cfl ∧ (sendRequest x0 x1 x2 x3 x4 x5 x6 x7 x8 x9).sec = x9.sec := by
  simp [sendRequest]

@[simp] theorem hopDrop_frame (x0 : Nat) (x1 : State) :
    (hopDrop x0 x1).pending = x1.pending ∧ (hopDrop x0 x1).tclk = x1.tclk ∧ (hopDrop x0 x1).gZero = x1.gZero ∧ (hopDrop x0 x1).drawn = x1.drawn ∧ (hopDrop x0 x1).power = x1.power ∧ (hopDrop x0 x1).boot = x1.boot ∧ (hopDrop x0 x1).rings = x1.rings ∧ (hopDrop x0 x1).tensor = x1.tensor ∧ (hopDrop x0 x1).mem = x1.mem ∧ (hopDrop x0 x1).ecc = x1.ecc ∧ (hopDrop x0 x1).spaces = x1.spaces ∧ (hopDrop x0 x1).flash = x1.flash ∧ (hopDrop x0 x1).embed = x1.embed ∧ (hopDrop x0 x1).ralid = x1.ralid ∧ (hopDrop x0 x1).cfl = x1.cfl ∧ (hopDrop x0 x1).sec = x1.sec := by
  simp [hopDrop]

@[simp] theorem arriveParcel_frame (x0 : Nat) (x1 : Parcel) (x2 : State) :
    (arriveParcel x0 x1 x2).pending = x2.pending ∧ (arriveParcel x0 x1 x2).tclk = x2.tclk ∧ (arriveParcel x0 x1 x2).gZero = x2.gZero ∧ (arriveParcel x0 x1 x2).drawn = x2.drawn ∧ (arriveParcel x0 x1 x2).power = x2.power ∧ (arriveParcel x0 x1 x2).boot = x2.boot ∧ (arriveParcel x0 x1 x2).rings = x2.rings ∧ (arriveParcel x0 x1 x2).tensor = x2.tensor ∧ (arriveParcel x0 x1 x2).mem = x2.mem ∧ (arriveParcel x0 x1 x2).ecc = x2.ecc ∧ (arriveParcel x0 x1 x2).spaces = x2.spaces ∧ (arriveParcel x0 x1 x2).flash = x2.flash ∧ (arriveParcel x0 x1 x2).embed = x2.embed ∧ (arriveParcel x0 x1 x2).ralid = x2.ralid ∧ (arriveParcel x0 x1 x2).cfl = x2.cfl ∧ (arriveParcel x0 x1 x2).sec = x2.sec := by
  unfold arriveParcel; dsimp only; (repeat' split) <;> simp

@[simp] theorem sendControl_frame (x0 : Nat) (x1 : Nat) (x2 : State) :
    (sendControl x0 x1 x2).pending = x2.pending ∧ (sendControl x0 x1 x2).tclk = x2.tclk ∧ (sendControl x0 x1 x2).gZero = x2.gZero ∧ (sendControl x0 x1 x2).drawn = x2.drawn ∧ (sendControl x0 x1 x2).power = x2.power ∧ (sendControl x0 x1 x2).boot = x2.boot ∧ (sendControl x0 x1 x2).host = x2.host ∧ (sendControl x0 x1 x2).rings = x2.rings ∧ (sendControl x0 x1 x2).evt = x2.evt ∧ (sendControl x0 x1 x2).tensor = x2.tensor ∧ (sendControl x0 x1 x2).mem = x2.mem ∧ (sendControl x0 x1 x2).ecc = x2.ecc ∧ (sendControl x0 x1 x2).spaces = x2.spaces ∧ (sendControl x0 x1 x2).flash = x2.flash ∧ (sendControl x0 x1 x2).embed = x2.embed ∧ (sendControl x0 x1 x2).ralid = x2.ralid ∧ (sendControl x0 x1 x2).cfl = x2.cfl ∧ (sendControl x0 x1 x2).sec = x2.sec := by
  simp [sendControl]

@[simp] theorem requeue_frame (x0 : State) (x1 : Parcel) :
    (requeue x0 x1).pending = x0.pending ∧ (requeue x0 x1).tclk = x0.tclk ∧ (requeue x0 x1).gZero = x0.gZero ∧ (requeue x0 x1).drawn = x0.drawn ∧ (requeue x0 x1).power = x0.power ∧ (requeue x0 x1).boot = x0.boot ∧ (requeue x0 x1).host = x0.host ∧ (requeue x0 x1).rings = x0.rings ∧ (requeue x0 x1).evt = x0.evt ∧ (requeue x0 x1).tensor = x0.tensor ∧ (requeue x0 x1).mem = x0.mem ∧ (requeue x0 x1).ecc = x0.ecc ∧ (requeue x0 x1).spaces = x0.spaces ∧ (requeue x0 x1).flash = x0.flash ∧ (requeue x0 x1).embed = x0.embed ∧ (requeue x0 x1).ralid = x0.ralid ∧ (requeue x0 x1).cfl = x0.cfl ∧ (requeue x0 x1).sec = x0.sec := by
  unfold requeue; split <;> simp

@[simp] theorem portDown_frame (x0 : Nat) (x1 : Bool) (x2 : State) :
    (portDown x0 x1 x2).pending = x2.pending ∧ (portDown x0 x1 x2).tclk = x2.tclk ∧ (portDown x0 x1 x2).gZero = x2.gZero ∧ (portDown x0 x1 x2).drawn = x2.drawn ∧ (portDown x0 x1 x2).power = x2.power ∧ (portDown x0 x1 x2).boot = x2.boot ∧ (portDown x0 x1 x2).rings = x2.rings ∧ (portDown x0 x1 x2).tensor = x2.tensor ∧ (portDown x0 x1 x2).mem = x2.mem ∧ (portDown x0 x1 x2).ecc = x2.ecc ∧ (portDown x0 x1 x2).spaces = x2.spaces ∧ (portDown x0 x1 x2).flash = x2.flash ∧ (portDown x0 x1 x2).embed = x2.embed ∧ (portDown x0 x1 x2).ralid = x2.ralid ∧ (portDown x0 x1 x2).cfl = x2.cfl ∧ (portDown x0 x1 x2).sec = x2.sec := by
  simp [portDown]

@[simp] theorem enablePort_frame (x0 : Nat) (x1 : State) :
    (enablePort x0 x1).pending = x1.pending ∧ (enablePort x0 x1).tclk = x1.tclk ∧ (enablePort x0 x1).gZero = x1.gZero ∧ (enablePort x0 x1).drawn = x1.drawn ∧ (enablePort x0 x1).power = x1.power ∧ (enablePort x0 x1).boot = x1.boot ∧ (enablePort x0 x1).host = x1.host ∧ (enablePort x0 x1).rings = x1.rings ∧ (enablePort x0 x1).evt = x1.evt ∧ (enablePort x0 x1).tensor = x1.tensor ∧ (enablePort x0 x1).mem = x1.mem ∧ (enablePort x0 x1).ecc = x1.ecc ∧ (enablePort x0 x1).spaces = x1.spaces ∧ (enablePort x0 x1).flash = x1.flash ∧ (enablePort x0 x1).embed = x1.embed ∧ (enablePort x0 x1).ralid = x1.ralid ∧ (enablePort x0 x1).cfl = x1.cfl ∧ (enablePort x0 x1).sec = x1.sec := by
  simp [enablePort]

@[simp] theorem disablePort_frame (x0 : Nat) (x1 : State) :
    (disablePort x0 x1).pending = x1.pending ∧ (disablePort x0 x1).tclk = x1.tclk ∧ (disablePort x0 x1).gZero = x1.gZero ∧ (disablePort x0 x1).drawn = x1.drawn ∧ (disablePort x0 x1).power = x1.power ∧ (disablePort x0 x1).boot = x1.boot ∧ (disablePort x0 x1).rings = x1.rings ∧ (disablePort x0 x1).tensor = x1.tensor ∧ (disablePort x0 x1).mem = x1.mem ∧ (disablePort x0 x1).ecc = x1.ecc ∧ (disablePort x0 x1).spaces = x1.spaces ∧ (disablePort x0 x1).flash = x1.flash ∧ (disablePort x0 x1).embed = x1.embed ∧ (disablePort x0 x1).ralid = x1.ralid ∧ (disablePort x0 x1).cfl = x1.cfl ∧ (disablePort x0 x1).sec = x1.sec := by
  simp [disablePort]

@[simp] theorem retrainPort_frame (x0 : Nat) (x1 : State) :
    (retrainPort x0 x1).pending = x1.pending ∧ (retrainPort x0 x1).tclk = x1.tclk ∧ (retrainPort x0 x1).gZero = x1.gZero ∧ (retrainPort x0 x1).drawn = x1.drawn ∧ (retrainPort x0 x1).power = x1.power ∧ (retrainPort x0 x1).boot = x1.boot ∧ (retrainPort x0 x1).host = x1.host ∧ (retrainPort x0 x1).rings = x1.rings ∧ (retrainPort x0 x1).evt = x1.evt ∧ (retrainPort x0 x1).tensor = x1.tensor ∧ (retrainPort x0 x1).mem = x1.mem ∧ (retrainPort x0 x1).ecc = x1.ecc ∧ (retrainPort x0 x1).spaces = x1.spaces ∧ (retrainPort x0 x1).flash = x1.flash ∧ (retrainPort x0 x1).embed = x1.embed ∧ (retrainPort x0 x1).ralid = x1.ralid ∧ (retrainPort x0 x1).cfl = x1.cfl ∧ (retrainPort x0 x1).sec = x1.sec := by
  simp [retrainPort]

@[simp] theorem trainFail_frame (x0 : Nat) (x1 : State) :
    (trainFail x0 x1).pending = x1.pending ∧ (trainFail x0 x1).tclk = x1.tclk ∧ (trainFail x0 x1).gZero = x1.gZero ∧ (trainFail x0 x1).drawn = x1.drawn ∧ (trainFail x0 x1).power = x1.power ∧ (trainFail x0 x1).boot = x1.boot ∧ (trainFail x0 x1).rings = x1.rings ∧ (trainFail x0 x1).tensor = x1.tensor ∧ (trainFail x0 x1).mem = x1.mem ∧ (trainFail x0 x1).ecc = x1.ecc ∧ (trainFail x0 x1).spaces = x1.spaces ∧ (trainFail x0 x1).flash = x1.flash ∧ (trainFail x0 x1).embed = x1.embed ∧ (trainFail x0 x1).ralid = x1.ralid ∧ (trainFail x0 x1).cfl = x1.cfl ∧ (trainFail x0 x1).sec = x1.sec := by
  simp [trainFail]

@[simp] theorem writeDeviceId_frame (x0 : W32) (x1 : State) :
    (writeDeviceId x0 x1).pending = x1.pending ∧ (writeDeviceId x0 x1).tclk = x1.tclk ∧ (writeDeviceId x0 x1).gZero = x1.gZero ∧ (writeDeviceId x0 x1).drawn = x1.drawn ∧ (writeDeviceId x0 x1).power = x1.power ∧ (writeDeviceId x0 x1).boot = x1.boot ∧ (writeDeviceId x0 x1).host = x1.host ∧ (writeDeviceId x0 x1).rings = x1.rings ∧ (writeDeviceId x0 x1).evt = x1.evt ∧ (writeDeviceId x0 x1).tensor = x1.tensor ∧ (writeDeviceId x0 x1).mem = x1.mem ∧ (writeDeviceId x0 x1).ecc = x1.ecc ∧ (writeDeviceId x0 x1).spaces = x1.spaces ∧ (writeDeviceId x0 x1).flash = x1.flash ∧ (writeDeviceId x0 x1).embed = x1.embed ∧ (writeDeviceId x0 x1).ralid = x1.ralid ∧ (writeDeviceId x0 x1).cfl = x1.cfl ∧ (writeDeviceId x0 x1).sec = x1.sec := by
  simp [writeDeviceId]

@[simp] theorem writeRoute_frame (x0 : Nat) (x1 : W64) (x2 : State) :
    (writeRoute x0 x1 x2).pending = x2.pending ∧ (writeRoute x0 x1 x2).tclk = x2.tclk ∧ (writeRoute x0 x1 x2).gZero = x2.gZero ∧ (writeRoute x0 x1 x2).drawn = x2.drawn ∧ (writeRoute x0 x1 x2).power = x2.power ∧ (writeRoute x0 x1 x2).boot = x2.boot ∧ (writeRoute x0 x1 x2).host = x2.host ∧ (writeRoute x0 x1 x2).rings = x2.rings ∧ (writeRoute x0 x1 x2).evt = x2.evt ∧ (writeRoute x0 x1 x2).tensor = x2.tensor ∧ (writeRoute x0 x1 x2).mem = x2.mem ∧ (writeRoute x0 x1 x2).ecc = x2.ecc ∧ (writeRoute x0 x1 x2).spaces = x2.spaces ∧ (writeRoute x0 x1 x2).flash = x2.flash ∧ (writeRoute x0 x1 x2).embed = x2.embed ∧ (writeRoute x0 x1 x2).ralid = x2.ralid ∧ (writeRoute x0 x1 x2).cfl = x2.cfl ∧ (writeRoute x0 x1 x2).sec = x2.sec := by
  simp [writeRoute]

end Sys2Proof.Machine
end

