-- ==== Sys2Proof/Laws/FramesMedia.lean ====
section
/-! SUPPORT. What each shared operation of Machine/Media.lean leaves as it is. -/

namespace Sys2Proof.Machine

@[simp] theorem setSb_frame (x0 : Nat) (x1 : Superblock) (x2 : State) :
    (setSb x0 x1 x2).pending = x2.pending ∧ (setSb x0 x1 x2).tclk = x2.tclk ∧ (setSb x0 x1 x2).gZero = x2.gZero ∧ (setSb x0 x1 x2).drawn = x2.drawn ∧ (setSb x0 x1 x2).power = x2.power ∧ (setSb x0 x1 x2).boot = x2.boot ∧ (setSb x0 x1 x2).host = x2.host ∧ (setSb x0 x1 x2).rings = x2.rings ∧ (setSb x0 x1 x2).evt = x2.evt ∧ (setSb x0 x1 x2).tensor = x2.tensor ∧ (setSb x0 x1 x2).mem = x2.mem ∧ (setSb x0 x1 x2).ecc = x2.ecc ∧ (setSb x0 x1 x2).spaces = x2.spaces ∧ (setSb x0 x1 x2).fabric = x2.fabric ∧ (setSb x0 x1 x2).embed = x2.embed ∧ (setSb x0 x1 x2).ralid = x2.ralid ∧ (setSb x0 x1 x2).cfl = x2.cfl ∧ (setSb x0 x1 x2).sec = x2.sec := by
  simp [setSb]

@[simp] theorem modSb_frame (x0 : Nat) (x1 : Superblock → Superblock) (x2 : State) :
    (modSb x0 x1 x2).pending = x2.pending ∧ (modSb x0 x1 x2).tclk = x2.tclk ∧ (modSb x0 x1 x2).gZero = x2.gZero ∧ (modSb x0 x1 x2).drawn = x2.drawn ∧ (modSb x0 x1 x2).power = x2.power ∧ (modSb x0 x1 x2).boot = x2.boot ∧ (modSb x0 x1 x2).host = x2.host ∧ (modSb x0 x1 x2).rings = x2.rings ∧ (modSb x0 x1 x2).evt = x2.evt ∧ (modSb x0 x1 x2).tensor = x2.tensor ∧ (modSb x0 x1 x2).mem = x2.mem ∧ (modSb x0 x1 x2).ecc = x2.ecc ∧ (modSb x0 x1 x2).spaces = x2.spaces ∧ (modSb x0 x1 x2).fabric = x2.fabric ∧ (modSb x0 x1 x2).embed = x2.embed ∧ (modSb x0 x1 x2).ralid = x2.ralid ∧ (modSb x0 x1 x2).cfl = x2.cfl ∧ (modSb x0 x1 x2).sec = x2.sec := by
  simp [modSb]

@[simp] theorem setLedger_frame (x0 : Nat) (x1 : LedgerEntry) (x2 : State) :
    (setLedger x0 x1 x2).pending = x2.pending ∧ (setLedger x0 x1 x2).tclk = x2.tclk ∧ (setLedger x0 x1 x2).gZero = x2.gZero ∧ (setLedger x0 x1 x2).drawn = x2.drawn ∧ (setLedger x0 x1 x2).power = x2.power ∧ (setLedger x0 x1 x2).boot = x2.boot ∧ (setLedger x0 x1 x2).host = x2.host ∧ (setLedger x0 x1 x2).rings = x2.rings ∧ (setLedger x0 x1 x2).evt = x2.evt ∧ (setLedger x0 x1 x2).tensor = x2.tensor ∧ (setLedger x0 x1 x2).mem = x2.mem ∧ (setLedger x0 x1 x2).ecc = x2.ecc ∧ (setLedger x0 x1 x2).spaces = x2.spaces ∧ (setLedger x0 x1 x2).fabric = x2.fabric ∧ (setLedger x0 x1 x2).embed = x2.embed ∧ (setLedger x0 x1 x2).ralid = x2.ralid ∧ (setLedger x0 x1 x2).cfl = x2.cfl ∧ (setLedger x0 x1 x2).sec = x2.sec := by
  simp [setLedger]

@[simp] theorem checkSpare_frame (x0 : State) :
    (checkSpare x0).pending = x0.pending ∧ (checkSpare x0).tclk = x0.tclk ∧ (checkSpare x0).gZero = x0.gZero ∧ (checkSpare x0).drawn = x0.drawn ∧ (checkSpare x0).power = x0.power ∧ (checkSpare x0).boot = x0.boot ∧ (checkSpare x0).rings = x0.rings ∧ (checkSpare x0).tensor = x0.tensor ∧ (checkSpare x0).mem = x0.mem ∧ (checkSpare x0).ecc = x0.ecc ∧ (checkSpare x0).spaces = x0.spaces ∧ (checkSpare x0).fabric = x0.fabric ∧ (checkSpare x0).embed = x0.embed ∧ (checkSpare x0).ralid = x0.ralid ∧ (checkSpare x0).cfl = x0.cfl ∧ (checkSpare x0).sec = x0.sec := by
  simp [checkSpare]

@[simp] theorem logWear_frame (x0 : Ev) (x1 : Nat) (x2 : List Nat) (x3 : State) :
    (logWear x0 x1 x2 x3).pending = x3.pending ∧ (logWear x0 x1 x2 x3).tclk = x3.tclk ∧ (logWear x0 x1 x2 x3).gZero = x3.gZero ∧ (logWear x0 x1 x2 x3).drawn = x3.drawn ∧ (logWear x0 x1 x2 x3).power = x3.power ∧ (logWear x0 x1 x2 x3).boot = x3.boot ∧ (logWear x0 x1 x2 x3).rings = x3.rings ∧ (logWear x0 x1 x2 x3).tensor = x3.tensor ∧ (logWear x0 x1 x2 x3).mem = x3.mem ∧ (logWear x0 x1 x2 x3).ecc = x3.ecc ∧ (logWear x0 x1 x2 x3).spaces = x3.spaces ∧ (logWear x0 x1 x2 x3).fabric = x3.fabric ∧ (logWear x0 x1 x2 x3).embed = x3.embed ∧ (logWear x0 x1 x2 x3).ralid = x3.ralid ∧ (logWear x0 x1 x2 x3).cfl = x3.cfl ∧ (logWear x0 x1 x2 x3).sec = x3.sec := by
  simp [logWear]

@[simp] theorem retireBlocks_frame (x0 : Nat) (x1 : Nat) (x2 : Nat) (x3 : State) :
    (retireBlocks x0 x1 x2 x3).pending = x3.pending ∧ (retireBlocks x0 x1 x2 x3).tclk = x3.tclk ∧ (retireBlocks x0 x1 x2 x3).gZero = x3.gZero ∧ (retireBlocks x0 x1 x2 x3).drawn = x3.drawn ∧ (retireBlocks x0 x1 x2 x3).power = x3.power ∧ (retireBlocks x0 x1 x2 x3).boot = x3.boot ∧ (retireBlocks x0 x1 x2 x3).rings = x3.rings ∧ (retireBlocks x0 x1 x2 x3).tensor = x3.tensor ∧ (retireBlocks x0 x1 x2 x3).mem = x3.mem ∧ (retireBlocks x0 x1 x2 x3).ecc = x3.ecc ∧ (retireBlocks x0 x1 x2 x3).spaces = x3.spaces ∧ (retireBlocks x0 x1 x2 x3).fabric = x3.fabric ∧ (retireBlocks x0 x1 x2 x3).embed = x3.embed ∧ (retireBlocks x0 x1 x2 x3).ralid = x3.ralid ∧ (retireBlocks x0 x1 x2 x3).cfl = x3.cfl ∧ (retireBlocks x0 x1 x2 x3).sec = x3.sec := by
  simp [retireBlocks]

@[simp] theorem makeDue_frame (x0 : Nat) (x1 : State) :
    (makeDue x0 x1).pending = x1.pending ∧ (makeDue x0 x1).tclk = x1.tclk ∧ (makeDue x0 x1).gZero = x1.gZero ∧ (makeDue x0 x1).drawn = x1.drawn ∧ (makeDue x0 x1).power = x1.power ∧ (makeDue x0 x1).boot = x1.boot ∧ (makeDue x0 x1).host = x1.host ∧ (makeDue x0 x1).rings = x1.rings ∧ (makeDue x0 x1).evt = x1.evt ∧ (makeDue x0 x1).tensor = x1.tensor ∧ (makeDue x0 x1).mem = x1.mem ∧ (makeDue x0 x1).ecc = x1.ecc ∧ (makeDue x0 x1).spaces = x1.spaces ∧ (makeDue x0 x1).fabric = x1.fabric ∧ (makeDue x0 x1).embed = x1.embed ∧ (makeDue x0 x1).ralid = x1.ralid ∧ (makeDue x0 x1).cfl = x1.cfl ∧ (makeDue x0 x1).sec = x1.sec := by
  simp [makeDue]

@[simp] theorem settleSb_frame (x0 : Nat) (x1 : State) :
    (settleSb x0 x1).pending = x1.pending ∧ (settleSb x0 x1).tclk = x1.tclk ∧ (settleSb x0 x1).gZero = x1.gZero ∧ (settleSb x0 x1).drawn = x1.drawn ∧ (settleSb x0 x1).power = x1.power ∧ (settleSb x0 x1).boot = x1.boot ∧ (settleSb x0 x1).host = x1.host ∧ (settleSb x0 x1).rings = x1.rings ∧ (settleSb x0 x1).evt = x1.evt ∧ (settleSb x0 x1).tensor = x1.tensor ∧ (settleSb x0 x1).mem = x1.mem ∧ (settleSb x0 x1).ecc = x1.ecc ∧ (settleSb x0 x1).spaces = x1.spaces ∧ (settleSb x0 x1).fabric = x1.fabric ∧ (settleSb x0 x1).embed = x1.embed ∧ (settleSb x0 x1).ralid = x1.ralid ∧ (settleSb x0 x1).cfl = x1.cfl ∧ (settleSb x0 x1).sec = x1.sec := by
  simp [settleSb]

@[simp] theorem settleEntry_frame (x0 : LedgerEntry) (x1 : State) :
    (settleEntry x0 x1).pending = x1.pending ∧ (settleEntry x0 x1).tclk = x1.tclk ∧ (settleEntry x0 x1).gZero = x1.gZero ∧ (settleEntry x0 x1).drawn = x1.drawn ∧ (settleEntry x0 x1).power = x1.power ∧ (settleEntry x0 x1).boot = x1.boot ∧ (settleEntry x0 x1).host = x1.host ∧ (settleEntry x0 x1).rings = x1.rings ∧ (settleEntry x0 x1).evt = x1.evt ∧ (settleEntry x0 x1).tensor = x1.tensor ∧ (settleEntry x0 x1).mem = x1.mem ∧ (settleEntry x0 x1).ecc = x1.ecc ∧ (settleEntry x0 x1).spaces = x1.spaces ∧ (settleEntry x0 x1).fabric = x1.fabric ∧ (settleEntry x0 x1).embed = x1.embed ∧ (settleEntry x0 x1).ralid = x1.ralid ∧ (settleEntry x0 x1).cfl = x1.cfl ∧ (settleEntry x0 x1).sec = x1.sec := by
  unfold settleEntry; split <;> simp

@[simp] theorem readBlock_frame (x0 : Nat) (x1 : Nat) (x2 : Nat) (x3 : State) :
    (readBlock x0 x1 x2 x3).2.pending = x3.pending ∧ (readBlock x0 x1 x2 x3).2.tclk = x3.tclk ∧ (readBlock x0 x1 x2 x3).2.gZero = x3.gZero ∧ (readBlock x0 x1 x2 x3).2.drawn = x3.drawn ∧ (readBlock x0 x1 x2 x3).2.power = x3.power ∧ (readBlock x0 x1 x2 x3).2.boot = x3.boot ∧ (readBlock x0 x1 x2 x3).2.rings = x3.rings ∧ (readBlock x0 x1 x2 x3).2.tensor = x3.tensor ∧ (readBlock x0 x1 x2 x3).2.mem = x3.mem ∧ (readBlock x0 x1 x2 x3).2.spaces = x3.spaces ∧ (readBlock x0 x1 x2 x3).2.flash = x3.flash ∧ (readBlock x0 x1 x2 x3).2.fabric = x3.fabric ∧ (readBlock x0 x1 x2 x3).2.embed = x3.embed ∧ (readBlock x0 x1 x2 x3).2.ralid = x3.ralid ∧ (readBlock x0 x1 x2 x3).2.cfl = x3.cfl ∧ (readBlock x0 x1 x2 x3).2.sec = x3.sec := by
  unfold readBlock; (repeat' (split <;> (try (obtain rfl := snd_of_eq ‹_ = (_, _)›)))); all_goals (first | done | simp | simp_all)

@[simp] theorem readUnit_frame (x0 : Nat) (x1 : Nat) (x2 : State) :
    (readUnit x0 x1 x2).2.pending = x2.pending ∧ (readUnit x0 x1 x2).2.tclk = x2.tclk ∧ (readUnit x0 x1 x2).2.gZero = x2.gZero ∧ (readUnit x0 x1 x2).2.drawn = x2.drawn ∧ (readUnit x0 x1 x2).2.power = x2.power ∧ (readUnit x0 x1 x2).2.boot = x2.boot ∧ (readUnit x0 x1 x2).2.rings = x2.rings ∧ (readUnit x0 x1 x2).2.tensor = x2.tensor ∧ (readUnit x0 x1 x2).2.mem = x2.mem ∧ (readUnit x0 x1 x2).2.spaces = x2.spaces ∧ (readUnit x0 x1 x2).2.flash = x2.flash ∧ (readUnit x0 x1 x2).2.fabric = x2.fabric ∧ (readUnit x0 x1 x2).2.embed = x2.embed ∧ (readUnit x0 x1 x2).2.ralid = x2.ralid ∧ (readUnit x0 x1 x2).2.cfl = x2.cfl ∧ (readUnit x0 x1 x2).2.sec = x2.sec := by
  simp [readUnit]

@[simp] theorem nextSeq_frame (x0 : State) :
    (nextSeq x0).2.pending = x0.pending ∧ (nextSeq x0).2.tclk = x0.tclk ∧ (nextSeq x0).2.gZero = x0.gZero ∧ (nextSeq x0).2.drawn = x0.drawn ∧ (nextSeq x0).2.power = x0.power ∧ (nextSeq x0).2.boot = x0.boot ∧ (nextSeq x0).2.host = x0.host ∧ (nextSeq x0).2.rings = x0.rings ∧ (nextSeq x0).2.evt = x0.evt ∧ (nextSeq x0).2.tensor = x0.tensor ∧ (nextSeq x0).2.mem = x0.mem ∧ (nextSeq x0).2.ecc = x0.ecc ∧ (nextSeq x0).2.spaces = x0.spaces ∧ (nextSeq x0).2.fabric = x0.fabric ∧ (nextSeq x0).2.embed = x0.embed ∧ (nextSeq x0).2.ralid = x0.ralid ∧ (nextSeq x0).2.cfl = x0.cfl ∧ (nextSeq x0).2.sec = x0.sec := by
  simp [nextSeq]

@[simp] theorem cellarMod_frame (x0 : Nat) (x1 : CellarReq → CellarReq) (x2 : State) :
    (cellarMod x0 x1 x2).pending = x2.pending ∧ (cellarMod x0 x1 x2).tclk = x2.tclk ∧ (cellarMod x0 x1 x2).gZero = x2.gZero ∧ (cellarMod x0 x1 x2).drawn = x2.drawn ∧ (cellarMod x0 x1 x2).power = x2.power ∧ (cellarMod x0 x1 x2).boot = x2.boot ∧ (cellarMod x0 x1 x2).host = x2.host ∧ (cellarMod x0 x1 x2).rings = x2.rings ∧ (cellarMod x0 x1 x2).evt = x2.evt ∧ (cellarMod x0 x1 x2).tensor = x2.tensor ∧ (cellarMod x0 x1 x2).ecc = x2.ecc ∧ (cellarMod x0 x1 x2).spaces = x2.spaces ∧ (cellarMod x0 x1 x2).flash = x2.flash ∧ (cellarMod x0 x1 x2).fabric = x2.fabric ∧ (cellarMod x0 x1 x2).embed = x2.embed ∧ (cellarMod x0 x1 x2).ralid = x2.ralid ∧ (cellarMod x0 x1 x2).cfl = x2.cfl ∧ (cellarMod x0 x1 x2).sec = x2.sec := by
  simp [cellarMod]

@[simp] theorem cellarDel_frame (x0 : Nat) (x1 : State) :
    (cellarDel x0 x1).pending = x1.pending ∧ (cellarDel x0 x1).tclk = x1.tclk ∧ (cellarDel x0 x1).gZero = x1.gZero ∧ (cellarDel x0 x1).drawn = x1.drawn ∧ (cellarDel x0 x1).power = x1.power ∧ (cellarDel x0 x1).boot = x1.boot ∧ (cellarDel x0 x1).host = x1.host ∧ (cellarDel x0 x1).rings = x1.rings ∧ (cellarDel x0 x1).evt = x1.evt ∧ (cellarDel x0 x1).tensor = x1.tensor ∧ (cellarDel x0 x1).ecc = x1.ecc ∧ (cellarDel x0 x1).spaces = x1.spaces ∧ (cellarDel x0 x1).flash = x1.flash ∧ (cellarDel x0 x1).fabric = x1.fabric ∧ (cellarDel x0 x1).embed = x1.embed ∧ (cellarDel x0 x1).ralid = x1.ralid ∧ (cellarDel x0 x1).cfl = x1.cfl ∧ (cellarDel x0 x1).sec = x1.sec := by
  simp [cellarDel]

@[simp] theorem dropLock_frame (x0 : Nat) (x1 : State) :
    (dropLock x0 x1).pending = x1.pending ∧ (dropLock x0 x1).tclk = x1.tclk ∧ (dropLock x0 x1).gZero = x1.gZero ∧ (dropLock x0 x1).drawn = x1.drawn ∧ (dropLock x0 x1).power = x1.power ∧ (dropLock x0 x1).boot = x1.boot ∧ (dropLock x0 x1).host = x1.host ∧ (dropLock x0 x1).rings = x1.rings ∧ (dropLock x0 x1).evt = x1.evt ∧ (dropLock x0 x1).tensor = x1.tensor ∧ (dropLock x0 x1).mem = x1.mem ∧ (dropLock x0 x1).ecc = x1.ecc ∧ (dropLock x0 x1).spaces = x1.spaces ∧ (dropLock x0 x1).fabric = x1.fabric ∧ (dropLock x0 x1).embed = x1.embed ∧ (dropLock x0 x1).ralid = x1.ralid ∧ (dropLock x0 x1).cfl = x1.cfl ∧ (dropLock x0 x1).sec = x1.sec := by
  simp [dropLock]

end Sys2Proof.Machine
end

