-- ==== Sys2Proof/Laws/FramesStorage.lean ====
section
/-! SUPPORT. What each shared operation of Machine/Storage.lean leaves as it is. -/

namespace Sys2Proof.Machine

@[simp] theorem setOp_frame (x0 : Nat) (x1 : StoreOp) (x2 : State) :
    (setOp x0 x1 x2).pending = x2.pending ∧ (setOp x0 x1 x2).tclk = x2.tclk ∧ (setOp x0 x1 x2).gZero = x2.gZero ∧ (setOp x0 x1 x2).drawn = x2.drawn ∧ (setOp x0 x1 x2).power = x2.power ∧ (setOp x0 x1 x2).boot = x2.boot ∧ (setOp x0 x1 x2).host = x2.host ∧ (setOp x0 x1 x2).rings = x2.rings ∧ (setOp x0 x1 x2).evt = x2.evt ∧ (setOp x0 x1 x2).tensor = x2.tensor ∧ (setOp x0 x1 x2).mem = x2.mem ∧ (setOp x0 x1 x2).ecc = x2.ecc ∧ (setOp x0 x1 x2).spaces = x2.spaces ∧ (setOp x0 x1 x2).fabric = x2.fabric ∧ (setOp x0 x1 x2).embed = x2.embed ∧ (setOp x0 x1 x2).ralid = x2.ralid ∧ (setOp x0 x1 x2).cfl = x2.cfl ∧ (setOp x0 x1 x2).sec = x2.sec := by
  simp [setOp]

@[simp] theorem delOp_frame (x0 : Nat) (x1 : State) :
    (delOp x0 x1).pending = x1.pending ∧ (delOp x0 x1).tclk = x1.tclk ∧ (delOp x0 x1).gZero = x1.gZero ∧ (delOp x0 x1).drawn = x1.drawn ∧ (delOp x0 x1).power = x1.power ∧ (delOp x0 x1).boot = x1.boot ∧ (delOp x0 x1).host = x1.host ∧ (delOp x0 x1).rings = x1.rings ∧ (delOp x0 x1).evt = x1.evt ∧ (delOp x0 x1).tensor = x1.tensor ∧ (delOp x0 x1).mem = x1.mem ∧ (delOp x0 x1).ecc = x1.ecc ∧ (delOp x0 x1).spaces = x1.spaces ∧ (delOp x0 x1).fabric = x1.fabric ∧ (delOp x0 x1).embed = x1.embed ∧ (delOp x0 x1).ralid = x1.ralid ∧ (delOp x0 x1).cfl = x1.cfl ∧ (delOp x0 x1).sec = x1.sec := by
  simp [delOp]

@[simp] theorem dropCommandLock_frame (x0 : Nat) (x1 : State) :
    (dropCommandLock x0 x1).pending = x1.pending ∧ (dropCommandLock x0 x1).tclk = x1.tclk ∧ (dropCommandLock x0 x1).gZero = x1.gZero ∧ (dropCommandLock x0 x1).drawn = x1.drawn ∧ (dropCommandLock x0 x1).power = x1.power ∧ (dropCommandLock x0 x1).boot = x1.boot ∧ (dropCommandLock x0 x1).host = x1.host ∧ (dropCommandLock x0 x1).rings = x1.rings ∧ (dropCommandLock x0 x1).evt = x1.evt ∧ (dropCommandLock x0 x1).tensor = x1.tensor ∧ (dropCommandLock x0 x1).mem = x1.mem ∧ (dropCommandLock x0 x1).ecc = x1.ecc ∧ (dropCommandLock x0 x1).spaces = x1.spaces ∧ (dropCommandLock x0 x1).fabric = x1.fabric ∧ (dropCommandLock x0 x1).embed = x1.embed ∧ (dropCommandLock x0 x1).ralid = x1.ralid ∧ (dropCommandLock x0 x1).cfl = x1.cfl ∧ (dropCommandLock x0 x1).sec = x1.sec := by
  simp [dropCommandLock]

@[simp] theorem finishOp_frame (x0 : Nat) (x1 : State) :
    (finishOp x0 x1).pending = x1.pending ∧ (finishOp x0 x1).tclk = x1.tclk ∧ (finishOp x0 x1).gZero = x1.gZero ∧ (finishOp x0 x1).power = x1.power ∧ (finishOp x0 x1).boot = x1.boot ∧ (finishOp x0 x1).tensor = x1.tensor ∧ (finishOp x0 x1).mem = x1.mem ∧ (finishOp x0 x1).ecc = x1.ecc ∧ (finishOp x0 x1).spaces = x1.spaces ∧ (finishOp x0 x1).fabric = x1.fabric ∧ (finishOp x0 x1).embed = x1.embed ∧ (finishOp x0 x1).ralid = x1.ralid ∧ (finishOp x0 x1).cfl = x1.cfl ∧ (finishOp x0 x1).sec = x1.sec := by
  unfold finishOp; split <;> simp

@[simp] theorem finishOps_frame (x0 : State) :
    (finishOps x0).pending = x0.pending ∧ (finishOps x0).tclk = x0.tclk ∧ (finishOps x0).gZero = x0.gZero ∧ (finishOps x0).power = x0.power ∧ (finishOps x0).boot = x0.boot ∧ (finishOps x0).tensor = x0.tensor ∧ (finishOps x0).mem = x0.mem ∧ (finishOps x0).ecc = x0.ecc ∧ (finishOps x0).spaces = x0.spaces ∧ (finishOps x0).fabric = x0.fabric ∧ (finishOps x0).embed = x0.embed ∧ (finishOps x0).ralid = x0.ralid ∧ (finishOps x0).cfl = x0.cfl ∧ (finishOps x0).sec = x0.sec := by
  simp [finishOps]

@[simp] theorem freeSlot_frame (x0 : Nat) (x1 : State) :
    (freeSlot x0 x1).pending = x1.pending ∧ (freeSlot x0 x1).tclk = x1.tclk ∧ (freeSlot x0 x1).gZero = x1.gZero ∧ (freeSlot x0 x1).drawn = x1.drawn ∧ (freeSlot x0 x1).power = x1.power ∧ (freeSlot x0 x1).boot = x1.boot ∧ (freeSlot x0 x1).host = x1.host ∧ (freeSlot x0 x1).rings = x1.rings ∧ (freeSlot x0 x1).evt = x1.evt ∧ (freeSlot x0 x1).tensor = x1.tensor ∧ (freeSlot x0 x1).mem = x1.mem ∧ (freeSlot x0 x1).ecc = x1.ecc ∧ (freeSlot x0 x1).spaces = x1.spaces ∧ (freeSlot x0 x1).fabric = x1.fabric ∧ (freeSlot x0 x1).embed = x1.embed ∧ (freeSlot x0 x1).ralid = x1.ralid ∧ (freeSlot x0 x1).cfl = x1.cfl ∧ (freeSlot x0 x1).sec = x1.sec := by
  simp [freeSlot]

@[simp] theorem unmapUnit_frame (x0 : Nat) (x1 : State) :
    (unmapUnit x0 x1).pending = x1.pending ∧ (unmapUnit x0 x1).tclk = x1.tclk ∧ (unmapUnit x0 x1).gZero = x1.gZero ∧ (unmapUnit x0 x1).drawn = x1.drawn ∧ (unmapUnit x0 x1).power = x1.power ∧ (unmapUnit x0 x1).boot = x1.boot ∧ (unmapUnit x0 x1).host = x1.host ∧ (unmapUnit x0 x1).rings = x1.rings ∧ (unmapUnit x0 x1).evt = x1.evt ∧ (unmapUnit x0 x1).tensor = x1.tensor ∧ (unmapUnit x0 x1).mem = x1.mem ∧ (unmapUnit x0 x1).ecc = x1.ecc ∧ (unmapUnit x0 x1).spaces = x1.spaces ∧ (unmapUnit x0 x1).fabric = x1.fabric ∧ (unmapUnit x0 x1).embed = x1.embed ∧ (unmapUnit x0 x1).ralid = x1.ralid ∧ (unmapUnit x0 x1).cfl = x1.cfl ∧ (unmapUnit x0 x1).sec = x1.sec := by
  unfold unmapUnit; dsimp only; (repeat' split) <;> simp

@[simp] theorem unmapSpace_frame (x0 : Namespace) (x1 : State) :
    (unmapSpace x0 x1).pending = x1.pending ∧ (unmapSpace x0 x1).tclk = x1.tclk ∧ (unmapSpace x0 x1).gZero = x1.gZero ∧ (unmapSpace x0 x1).drawn = x1.drawn ∧ (unmapSpace x0 x1).power = x1.power ∧ (unmapSpace x0 x1).boot = x1.boot ∧ (unmapSpace x0 x1).host = x1.host ∧ (unmapSpace x0 x1).rings = x1.rings ∧ (unmapSpace x0 x1).evt = x1.evt ∧ (unmapSpace x0 x1).tensor = x1.tensor ∧ (unmapSpace x0 x1).mem = x1.mem ∧ (unmapSpace x0 x1).ecc = x1.ecc ∧ (unmapSpace x0 x1).spaces = x1.spaces ∧ (unmapSpace x0 x1).fabric = x1.fabric ∧ (unmapSpace x0 x1).embed = x1.embed ∧ (unmapSpace x0 x1).ralid = x1.ralid ∧ (unmapSpace x0 x1).cfl = x1.cfl ∧ (unmapSpace x0 x1).sec = x1.sec := by
  simp [unmapSpace]

end Sys2Proof.Machine
end

