-- ==== Sys2Proof/Laws/FramesFlashMedia.lean ====
section
/-! SUPPORT. What each shared operation of Machine/FlashMedia.lean leaves as it is. -/

namespace Sys2Proof.Machine

@[simp] theorem slotDurable_frame (x0 : Nat) (x1 : Nat) (x2 : Nat) (x3 : State) :
    (slotDurable x0 x1 x2 x3).pending = x3.pending ∧ (slotDurable x0 x1 x2 x3).tclk = x3.tclk ∧ (slotDurable x0 x1 x2 x3).gZero = x3.gZero ∧ (slotDurable x0 x1 x2 x3).drawn = x3.drawn ∧ (slotDurable x0 x1 x2 x3).power = x3.power ∧ (slotDurable x0 x1 x2 x3).boot = x3.boot ∧ (slotDurable x0 x1 x2 x3).host = x3.host ∧ (slotDurable x0 x1 x2 x3).rings = x3.rings ∧ (slotDurable x0 x1 x2 x3).evt = x3.evt ∧ (slotDurable x0 x1 x2 x3).tensor = x3.tensor ∧ (slotDurable x0 x1 x2 x3).ecc = x3.ecc ∧ (slotDurable x0 x1 x2 x3).spaces = x3.spaces ∧ (slotDurable x0 x1 x2 x3).fabric = x3.fabric ∧ (slotDurable x0 x1 x2 x3).embed = x3.embed ∧ (slotDurable x0 x1 x2 x3).ralid = x3.ralid ∧ (slotDurable x0 x1 x2 x3).cfl = x3.cfl ∧ (slotDurable x0 x1 x2 x3).sec = x3.sec := by
  unfold slotDurable; split <;> simp

@[simp] theorem trimDurable_frame (x0 : Nat) (x1 : State) :
    (trimDurable x0 x1).pending = x1.pending ∧ (trimDurable x0 x1).tclk = x1.tclk ∧ (trimDurable x0 x1).gZero = x1.gZero ∧ (trimDurable x0 x1).drawn = x1.drawn ∧ (trimDurable x0 x1).power = x1.power ∧ (trimDurable x0 x1).boot = x1.boot ∧ (trimDurable x0 x1).host = x1.host ∧ (trimDurable x0 x1).rings = x1.rings ∧ (trimDurable x0 x1).evt = x1.evt ∧ (trimDurable x0 x1).tensor = x1.tensor ∧ (trimDurable x0 x1).mem = x1.mem ∧ (trimDurable x0 x1).ecc = x1.ecc ∧ (trimDurable x0 x1).spaces = x1.spaces ∧ (trimDurable x0 x1).fabric = x1.fabric ∧ (trimDurable x0 x1).embed = x1.embed ∧ (trimDurable x0 x1).ralid = x1.ralid ∧ (trimDurable x0 x1).cfl = x1.cfl ∧ (trimDurable x0 x1).sec = x1.sec := by
  simp [trimDurable]

@[simp] theorem landUnit_frame (x0 : Nat) (x1 : RowUnit) (x2 : State) :
    (landUnit x0 x1 x2).pending = x2.pending ∧ (landUnit x0 x1 x2).tclk = x2.tclk ∧ (landUnit x0 x1 x2).gZero = x2.gZero ∧ (landUnit x0 x1 x2).drawn = x2.drawn ∧ (landUnit x0 x1 x2).power = x2.power ∧ (landUnit x0 x1 x2).boot = x2.boot ∧ (landUnit x0 x1 x2).host = x2.host ∧ (landUnit x0 x1 x2).rings = x2.rings ∧ (landUnit x0 x1 x2).evt = x2.evt ∧ (landUnit x0 x1 x2).tensor = x2.tensor ∧ (landUnit x0 x1 x2).ecc = x2.ecc ∧ (landUnit x0 x1 x2).spaces = x2.spaces ∧ (landUnit x0 x1 x2).fabric = x2.fabric ∧ (landUnit x0 x1 x2).embed = x2.embed ∧ (landUnit x0 x1 x2).ralid = x2.ralid ∧ (landUnit x0 x1 x2).cfl = x2.cfl ∧ (landUnit x0 x1 x2).sec = x2.sec := by
  unfold landUnit; split <;> simp

@[simp] theorem checkWear_frame (x0 : State) :
    (checkWear x0).pending = x0.pending ∧ (checkWear x0).tclk = x0.tclk ∧ (checkWear x0).gZero = x0.gZero ∧ (checkWear x0).drawn = x0.drawn ∧ (checkWear x0).power = x0.power ∧ (checkWear x0).boot = x0.boot ∧ (checkWear x0).rings = x0.rings ∧ (checkWear x0).tensor = x0.tensor ∧ (checkWear x0).mem = x0.mem ∧ (checkWear x0).ecc = x0.ecc ∧ (checkWear x0).spaces = x0.spaces ∧ (checkWear x0).fabric = x0.fabric ∧ (checkWear x0).embed = x0.embed ∧ (checkWear x0).ralid = x0.ralid ∧ (checkWear x0).cfl = x0.cfl ∧ (checkWear x0).sec = x0.sec := by
  simp [checkWear]

@[simp] theorem writeClock_frame (x0 : W32) (x1 : State) :
    (writeClock x0 x1).pending = x1.pending ∧ (writeClock x0 x1).tclk = x1.tclk ∧ (writeClock x0 x1).gZero = x1.gZero ∧ (writeClock x0 x1).drawn = x1.drawn ∧ (writeClock x0 x1).power = x1.power ∧ (writeClock x0 x1).boot = x1.boot ∧ (writeClock x0 x1).host = x1.host ∧ (writeClock x0 x1).rings = x1.rings ∧ (writeClock x0 x1).evt = x1.evt ∧ (writeClock x0 x1).tensor = x1.tensor ∧ (writeClock x0 x1).mem = x1.mem ∧ (writeClock x0 x1).ecc = x1.ecc ∧ (writeClock x0 x1).spaces = x1.spaces ∧ (writeClock x0 x1).fabric = x1.fabric ∧ (writeClock x0 x1).embed = x1.embed ∧ (writeClock x0 x1).ralid = x1.ralid ∧ (writeClock x0 x1).cfl = x1.cfl ∧ (writeClock x0 x1).sec = x1.sec := by
  simp [writeClock]

@[simp] theorem writePool_frame (x0 : Nat) (x1 : W32) (x2 : State) :
    (writePool x0 x1 x2).pending = x2.pending ∧ (writePool x0 x1 x2).tclk = x2.tclk ∧ (writePool x0 x1 x2).gZero = x2.gZero ∧ (writePool x0 x1 x2).drawn = x2.drawn ∧ (writePool x0 x1 x2).power = x2.power ∧ (writePool x0 x1 x2).boot = x2.boot ∧ (writePool x0 x1 x2).host = x2.host ∧ (writePool x0 x1 x2).rings = x2.rings ∧ (writePool x0 x1 x2).evt = x2.evt ∧ (writePool x0 x1 x2).tensor = x2.tensor ∧ (writePool x0 x1 x2).mem = x2.mem ∧ (writePool x0 x1 x2).ecc = x2.ecc ∧ (writePool x0 x1 x2).spaces = x2.spaces ∧ (writePool x0 x1 x2).fabric = x2.fabric ∧ (writePool x0 x1 x2).embed = x2.embed ∧ (writePool x0 x1 x2).ralid = x2.ralid ∧ (writePool x0 x1 x2).cfl = x2.cfl ∧ (writePool x0 x1 x2).sec = x2.sec := by
  simp [writePool]

@[simp] theorem recoverFlash_frame (x0 : List (Nat × Nat)) (x1 : State) :
    (recoverFlash x0 x1).pending = x1.pending ∧ (recoverFlash x0 x1).tclk = x1.tclk ∧ (recoverFlash x0 x1).gZero = x1.gZero ∧ (recoverFlash x0 x1).drawn = x1.drawn ∧ (recoverFlash x0 x1).power = x1.power ∧ (recoverFlash x0 x1).boot = x1.boot ∧ (recoverFlash x0 x1).rings = x1.rings ∧ (recoverFlash x0 x1).tensor = x1.tensor ∧ (recoverFlash x0 x1).mem = x1.mem ∧ (recoverFlash x0 x1).ecc = x1.ecc ∧ (recoverFlash x0 x1).spaces = x1.spaces ∧ (recoverFlash x0 x1).fabric = x1.fabric ∧ (recoverFlash x0 x1).embed = x1.embed ∧ (recoverFlash x0 x1).ralid = x1.ralid ∧ (recoverFlash x0 x1).cfl = x1.cfl ∧ (recoverFlash x0 x1).sec = x1.sec := by
  simp [recoverFlash]

end Sys2Proof.Machine
end

