-- ==== Sys2Proof/Laws/FramesPorter.lean ====
section
/-! SUPPORT. What each shared operation of Machine/Porter.lean leaves as it is. -/

namespace Sys2Proof.Machine

@[simp] theorem modEntry_frame (x0 : Nat) (x1 : Bool) (x2 : Nat) (x3 : QEntry → QEntry) (x4 : State) :
    (modEntry x0 x1 x2 x3 x4).pending = x4.pending ∧ (modEntry x0 x1 x2 x3 x4).tclk = x4.tclk ∧ (modEntry x0 x1 x2 x3 x4).gZero = x4.gZero ∧ (modEntry x0 x1 x2 x3 x4).drawn = x4.drawn ∧ (modEntry x0 x1 x2 x3 x4).power = x4.power ∧ (modEntry x0 x1 x2 x3 x4).boot = x4.boot ∧ (modEntry x0 x1 x2 x3 x4).host = x4.host ∧ (modEntry x0 x1 x2 x3 x4).rings = x4.rings ∧ (modEntry x0 x1 x2 x3 x4).evt = x4.evt ∧ (modEntry x0 x1 x2 x3 x4).mem = x4.mem ∧ (modEntry x0 x1 x2 x3 x4).ecc = x4.ecc ∧ (modEntry x0 x1 x2 x3 x4).spaces = x4.spaces ∧ (modEntry x0 x1 x2 x3 x4).flash = x4.flash ∧ (modEntry x0 x1 x2 x3 x4).fabric = x4.fabric ∧ (modEntry x0 x1 x2 x3 x4).embed = x4.embed ∧ (modEntry x0 x1 x2 x3 x4).ralid = x4.ralid ∧ (modEntry x0 x1 x2 x3 x4).cfl = x4.cfl ∧ (modEntry x0 x1 x2 x3 x4).sec = x4.sec := by
  simp [modEntry]

@[simp] theorem sourceLost_frame (x0 : Nat) (x1 : Bool) (x2 : QEntry) (x3 : State) :
    (sourceLost x0 x1 x2 x3).pending = x3.pending ∧ (sourceLost x0 x1 x2 x3).tclk = x3.tclk ∧ (sourceLost x0 x1 x2 x3).gZero = x3.gZero ∧ (sourceLost x0 x1 x2 x3).drawn = x3.drawn ∧ (sourceLost x0 x1 x2 x3).power = x3.power ∧ (sourceLost x0 x1 x2 x3).boot = x3.boot ∧ (sourceLost x0 x1 x2 x3).host = x3.host ∧ (sourceLost x0 x1 x2 x3).rings = x3.rings ∧ (sourceLost x0 x1 x2 x3).evt = x3.evt ∧ (sourceLost x0 x1 x2 x3).ecc = x3.ecc ∧ (sourceLost x0 x1 x2 x3).spaces = x3.spaces ∧ (sourceLost x0 x1 x2 x3).flash = x3.flash ∧ (sourceLost x0 x1 x2 x3).fabric = x3.fabric ∧ (sourceLost x0 x1 x2 x3).embed = x3.embed ∧ (sourceLost x0 x1 x2 x3).ralid = x3.ralid ∧ (sourceLost x0 x1 x2 x3).cfl = x3.cfl ∧ (sourceLost x0 x1 x2 x3).sec = x3.sec := by
  simp [sourceLost]

@[simp] theorem joinGroup_frame (x0 : Nat) (x1 : Nat) (x2 : State) :
    (joinGroup x0 x1 x2).pending = x2.pending ∧ (joinGroup x0 x1 x2).tclk = x2.tclk ∧ (joinGroup x0 x1 x2).gZero = x2.gZero ∧ (joinGroup x0 x1 x2).drawn = x2.drawn ∧ (joinGroup x0 x1 x2).power = x2.power ∧ (joinGroup x0 x1 x2).boot = x2.boot ∧ (joinGroup x0 x1 x2).host = x2.host ∧ (joinGroup x0 x1 x2).rings = x2.rings ∧ (joinGroup x0 x1 x2).evt = x2.evt ∧ (joinGroup x0 x1 x2).mem = x2.mem ∧ (joinGroup x0 x1 x2).ecc = x2.ecc ∧ (joinGroup x0 x1 x2).spaces = x2.spaces ∧ (joinGroup x0 x1 x2).flash = x2.flash ∧ (joinGroup x0 x1 x2).fabric = x2.fabric ∧ (joinGroup x0 x1 x2).embed = x2.embed ∧ (joinGroup x0 x1 x2).ralid = x2.ralid ∧ (joinGroup x0 x1 x2).cfl = x2.cfl ∧ (joinGroup x0 x1 x2).sec = x2.sec := by
  unfold joinGroup; split <;> simp

@[simp] theorem unitDone_frame (x0 : Nat) (x1 : Nat) (x2 : Bool) (x3 : Nat) (x4 : State) :
    (unitDone x0 x1 x2 x3 x4).pending = x4.pending ∧ (unitDone x0 x1 x2 x3 x4).tclk = x4.tclk ∧ (unitDone x0 x1 x2 x3 x4).gZero = x4.gZero ∧ (unitDone x0 x1 x2 x3 x4).drawn = x4.drawn ∧ (unitDone x0 x1 x2 x3 x4).power = x4.power ∧ (unitDone x0 x1 x2 x3 x4).boot = x4.boot ∧ (unitDone x0 x1 x2 x3 x4).host = x4.host ∧ (unitDone x0 x1 x2 x3 x4).rings = x4.rings ∧ (unitDone x0 x1 x2 x3 x4).evt = x4.evt ∧ (unitDone x0 x1 x2 x3 x4).ecc = x4.ecc ∧ (unitDone x0 x1 x2 x3 x4).spaces = x4.spaces ∧ (unitDone x0 x1 x2 x3 x4).flash = x4.flash ∧ (unitDone x0 x1 x2 x3 x4).fabric = x4.fabric ∧ (unitDone x0 x1 x2 x3 x4).embed = x4.embed ∧ (unitDone x0 x1 x2 x3 x4).ralid = x4.ralid ∧ (unitDone x0 x1 x2 x3 x4).cfl = x4.cfl ∧ (unitDone x0 x1 x2 x3 x4).sec = x4.sec := by
  simp [unitDone]

@[simp] theorem unitLost_frame (x0 : Nat) (x1 : Nat) (x2 : Nat) (x3 : State) :
    (unitLost x0 x1 x2 x3).pending = x3.pending ∧ (unitLost x0 x1 x2 x3).tclk = x3.tclk ∧ (unitLost x0 x1 x2 x3).gZero = x3.gZero ∧ (unitLost x0 x1 x2 x3).drawn = x3.drawn ∧ (unitLost x0 x1 x2 x3).power = x3.power ∧ (unitLost x0 x1 x2 x3).boot = x3.boot ∧ (unitLost x0 x1 x2 x3).host = x3.host ∧ (unitLost x0 x1 x2 x3).rings = x3.rings ∧ (unitLost x0 x1 x2 x3).evt = x3.evt ∧ (unitLost x0 x1 x2 x3).ecc = x3.ecc ∧ (unitLost x0 x1 x2 x3).spaces = x3.spaces ∧ (unitLost x0 x1 x2 x3).flash = x3.flash ∧ (unitLost x0 x1 x2 x3).fabric = x3.fabric ∧ (unitLost x0 x1 x2 x3).embed = x3.embed ∧ (unitLost x0 x1 x2 x3).ralid = x3.ralid ∧ (unitLost x0 x1 x2 x3).cfl = x3.cfl ∧ (unitLost x0 x1 x2 x3).sec = x3.sec := by
  simp [unitLost]

@[simp] theorem remoteSlot_frame (x0 : Nat) (x1 : Bool) (x2 : Nat) (x3 : Nat) (x4 : State) :
    (remoteSlot x0 x1 x2 x3 x4).pending = x4.pending ∧ (remoteSlot x0 x1 x2 x3 x4).tclk = x4.tclk ∧ (remoteSlot x0 x1 x2 x3 x4).gZero = x4.gZero ∧ (remoteSlot x0 x1 x2 x3 x4).drawn = x4.drawn ∧ (remoteSlot x0 x1 x2 x3 x4).power = x4.power ∧ (remoteSlot x0 x1 x2 x3 x4).boot = x4.boot ∧ (remoteSlot x0 x1 x2 x3 x4).host = x4.host ∧ (remoteSlot x0 x1 x2 x3 x4).rings = x4.rings ∧ (remoteSlot x0 x1 x2 x3 x4).evt = x4.evt ∧ (remoteSlot x0 x1 x2 x3 x4).mem = x4.mem ∧ (remoteSlot x0 x1 x2 x3 x4).ecc = x4.ecc ∧ (remoteSlot x0 x1 x2 x3 x4).spaces = x4.spaces ∧ (remoteSlot x0 x1 x2 x3 x4).flash = x4.flash ∧ (remoteSlot x0 x1 x2 x3 x4).embed = x4.embed ∧ (remoteSlot x0 x1 x2 x3 x4).ralid = x4.ralid ∧ (remoteSlot x0 x1 x2 x3 x4).cfl = x4.cfl ∧ (remoteSlot x0 x1 x2 x3 x4).sec = x4.sec := by
  unfold remoteSlot; split <;> simp

@[simp] theorem addReduction_frame (x0 : Reduction) (x1 : State) :
    (addReduction x0 x1).pending = x1.pending ∧ (addReduction x0 x1).tclk = x1.tclk ∧ (addReduction x0 x1).gZero = x1.gZero ∧ (addReduction x0 x1).drawn = x1.drawn ∧ (addReduction x0 x1).power = x1.power ∧ (addReduction x0 x1).boot = x1.boot ∧ (addReduction x0 x1).host = x1.host ∧ (addReduction x0 x1).rings = x1.rings ∧ (addReduction x0 x1).evt = x1.evt ∧ (addReduction x0 x1).tensor = x1.tensor ∧ (addReduction x0 x1).mem = x1.mem ∧ (addReduction x0 x1).ecc = x1.ecc ∧ (addReduction x0 x1).spaces = x1.spaces ∧ (addReduction x0 x1).flash = x1.flash ∧ (addReduction x0 x1).embed = x1.embed ∧ (addReduction x0 x1).ralid = x1.ralid ∧ (addReduction x0 x1).cfl = x1.cfl ∧ (addReduction x0 x1).sec = x1.sec := by
  simp [addReduction]

@[simp] theorem writePtrArea_frame (x0 : Nat) (x1 : W32) (x2 : State) :
    (writePtrArea x0 x1 x2).pending = x2.pending ∧ (writePtrArea x0 x1 x2).tclk = x2.tclk ∧ (writePtrArea x0 x1 x2).gZero = x2.gZero ∧ (writePtrArea x0 x1 x2).drawn = x2.drawn ∧ (writePtrArea x0 x1 x2).power = x2.power ∧ (writePtrArea x0 x1 x2).boot = x2.boot ∧ (writePtrArea x0 x1 x2).host = x2.host ∧ (writePtrArea x0 x1 x2).rings = x2.rings ∧ (writePtrArea x0 x1 x2).evt = x2.evt ∧ (writePtrArea x0 x1 x2).tensor = x2.tensor ∧ (writePtrArea x0 x1 x2).ecc = x2.ecc ∧ (writePtrArea x0 x1 x2).spaces = x2.spaces ∧ (writePtrArea x0 x1 x2).flash = x2.flash ∧ (writePtrArea x0 x1 x2).fabric = x2.fabric ∧ (writePtrArea x0 x1 x2).embed = x2.embed ∧ (writePtrArea x0 x1 x2).ralid = x2.ralid ∧ (writePtrArea x0 x1 x2).sec = x2.sec := by
  simp [writePtrArea]

@[simp] theorem writePtrResv_frame (x0 : Nat) (x1 : W64) (x2 : State) :
    (writePtrResv x0 x1 x2).pending = x2.pending ∧ (writePtrResv x0 x1 x2).tclk = x2.tclk ∧ (writePtrResv x0 x1 x2).gZero = x2.gZero ∧ (writePtrResv x0 x1 x2).drawn = x2.drawn ∧ (writePtrResv x0 x1 x2).power = x2.power ∧ (writePtrResv x0 x1 x2).boot = x2.boot ∧ (writePtrResv x0 x1 x2).host = x2.host ∧ (writePtrResv x0 x1 x2).rings = x2.rings ∧ (writePtrResv x0 x1 x2).evt = x2.evt ∧ (writePtrResv x0 x1 x2).tensor = x2.tensor ∧ (writePtrResv x0 x1 x2).ecc = x2.ecc ∧ (writePtrResv x0 x1 x2).spaces = x2.spaces ∧ (writePtrResv x0 x1 x2).flash = x2.flash ∧ (writePtrResv x0 x1 x2).fabric = x2.fabric ∧ (writePtrResv x0 x1 x2).embed = x2.embed ∧ (writePtrResv x0 x1 x2).ralid = x2.ralid ∧ (writePtrResv x0 x1 x2).cfl = x2.cfl ∧ (writePtrResv x0 x1 x2).sec = x2.sec := by
  simp [writePtrResv]

end Sys2Proof.Machine
end

