-- ==== Sys2Proof/Laws/FramesStats.lean ====
section
/-! SUPPORT. What each shared operation of Machine/Stats.lean leaves as it is. -/

namespace Sys2Proof.Machine

@[simp] theorem saturationEvent_frame (x0 : Tbl QBank) (x1 : State) :
    (saturationEvent x0 x1).pending = x1.pending ∧ (saturationEvent x0 x1).tclk = x1.tclk ∧ (saturationEvent x0 x1).gZero = x1.gZero ∧ (saturationEvent x0 x1).drawn = x1.drawn ∧ (saturationEvent x0 x1).power = x1.power ∧ (saturationEvent x0 x1).boot = x1.boot ∧ (saturationEvent x0 x1).rings = x1.rings ∧ (saturationEvent x0 x1).mem = x1.mem ∧ (saturationEvent x0 x1).ecc = x1.ecc ∧ (saturationEvent x0 x1).spaces = x1.spaces ∧ (saturationEvent x0 x1).flash = x1.flash ∧ (saturationEvent x0 x1).fabric = x1.fabric ∧ (saturationEvent x0 x1).embed = x1.embed ∧ (saturationEvent x0 x1).ralid = x1.ralid ∧ (saturationEvent x0 x1).cfl = x1.cfl ∧ (saturationEvent x0 x1).sec = x1.sec := by
  simp [saturationEvent]

@[simp] theorem qstatLatch_frame (x0 : State) :
    (qstatLatch x0).pending = x0.pending ∧ (qstatLatch x0).tclk = x0.tclk ∧ (qstatLatch x0).gZero = x0.gZero ∧ (qstatLatch x0).drawn = x0.drawn ∧ (qstatLatch x0).power = x0.power ∧ (qstatLatch x0).boot = x0.boot ∧ (qstatLatch x0).rings = x0.rings ∧ (qstatLatch x0).mem = x0.mem ∧ (qstatLatch x0).ecc = x0.ecc ∧ (qstatLatch x0).spaces = x0.spaces ∧ (qstatLatch x0).flash = x0.flash ∧ (qstatLatch x0).fabric = x0.fabric ∧ (qstatLatch x0).embed = x0.embed ∧ (qstatLatch x0).ralid = x0.ralid ∧ (qstatLatch x0).cfl = x0.cfl ∧ (qstatLatch x0).sec = x0.sec := by
  simp [qstatLatch]

@[simp] theorem bankLatch_frame (x0 : Nat) (x1 : State) :
    (bankLatch x0 x1).pending = x1.pending ∧ (bankLatch x0 x1).tclk = x1.tclk ∧ (bankLatch x0 x1).gZero = x1.gZero ∧ (bankLatch x0 x1).drawn = x1.drawn ∧ (bankLatch x0 x1).power = x1.power ∧ (bankLatch x0 x1).boot = x1.boot ∧ (bankLatch x0 x1).host = x1.host ∧ (bankLatch x0 x1).rings = x1.rings ∧ (bankLatch x0 x1).tensor = x1.tensor ∧ (bankLatch x0 x1).mem = x1.mem ∧ (bankLatch x0 x1).ecc = x1.ecc ∧ (bankLatch x0 x1).spaces = x1.spaces ∧ (bankLatch x0 x1).flash = x1.flash ∧ (bankLatch x0 x1).fabric = x1.fabric ∧ (bankLatch x0 x1).embed = x1.embed ∧ (bankLatch x0 x1).ralid = x1.ralid ∧ (bankLatch x0 x1).cfl = x1.cfl ∧ (bankLatch x0 x1).sec = x1.sec := by
  simp [bankLatch]

@[simp] theorem windowsEnd_frame (x0 : WinEnd) (x1 : State) :
    (windowsEnd x0 x1).pending = x1.pending ∧ (windowsEnd x0 x1).tclk = x1.tclk ∧ (windowsEnd x0 x1).gZero = x1.gZero ∧ (windowsEnd x0 x1).drawn = x1.drawn ∧ (windowsEnd x0 x1).power = x1.power ∧ (windowsEnd x0 x1).boot = x1.boot ∧ (windowsEnd x0 x1).rings = x1.rings ∧ (windowsEnd x0 x1).mem = x1.mem ∧ (windowsEnd x0 x1).ecc = x1.ecc ∧ (windowsEnd x0 x1).spaces = x1.spaces ∧ (windowsEnd x0 x1).flash = x1.flash ∧ (windowsEnd x0 x1).fabric = x1.fabric ∧ (windowsEnd x0 x1).embed = x1.embed ∧ (windowsEnd x0 x1).ralid = x1.ralid ∧ (windowsEnd x0 x1).cfl = x1.cfl ∧ (windowsEnd x0 x1).sec = x1.sec := by
  simp [windowsEnd]

@[simp] theorem writeQstatCtrl_frame (x0 : W32) (x1 : State) :
    (writeQstatCtrl x0 x1).pending = x1.pending ∧ (writeQstatCtrl x0 x1).tclk = x1.tclk ∧ (writeQstatCtrl x0 x1).gZero = x1.gZero ∧ (writeQstatCtrl x0 x1).drawn = x1.drawn ∧ (writeQstatCtrl x0 x1).power = x1.power ∧ (writeQstatCtrl x0 x1).boot = x1.boot ∧ (writeQstatCtrl x0 x1).rings = x1.rings ∧ (writeQstatCtrl x0 x1).mem = x1.mem ∧ (writeQstatCtrl x0 x1).ecc = x1.ecc ∧ (writeQstatCtrl x0 x1).spaces = x1.spaces ∧ (writeQstatCtrl x0 x1).flash = x1.flash ∧ (writeQstatCtrl x0 x1).fabric = x1.fabric ∧ (writeQstatCtrl x0 x1).embed = x1.embed ∧ (writeQstatCtrl x0 x1).ralid = x1.ralid ∧ (writeQstatCtrl x0 x1).cfl = x1.cfl ∧ (writeQstatCtrl x0 x1).sec = x1.sec := by
  simp [writeQstatCtrl]

@[simp] theorem writeWinCtrl_frame (x0 : Nat) (x1 : W32) (x2 : State) :
    (writeWinCtrl x0 x1 x2).pending = x2.pending ∧ (writeWinCtrl x0 x1 x2).tclk = x2.tclk ∧ (writeWinCtrl x0 x1 x2).gZero = x2.gZero ∧ (writeWinCtrl x0 x1 x2).drawn = x2.drawn ∧ (writeWinCtrl x0 x1 x2).power = x2.power ∧ (writeWinCtrl x0 x1 x2).boot = x2.boot ∧ (writeWinCtrl x0 x1 x2).host = x2.host ∧ (writeWinCtrl x0 x1 x2).rings = x2.rings ∧ (writeWinCtrl x0 x1 x2).tensor = x2.tensor ∧ (writeWinCtrl x0 x1 x2).mem = x2.mem ∧ (writeWinCtrl x0 x1 x2).ecc = x2.ecc ∧ (writeWinCtrl x0 x1 x2).spaces = x2.spaces ∧ (writeWinCtrl x0 x1 x2).flash = x2.flash ∧ (writeWinCtrl x0 x1 x2).fabric = x2.fabric ∧ (writeWinCtrl x0 x1 x2).embed = x2.embed ∧ (writeWinCtrl x0 x1 x2).ralid = x2.ralid ∧ (writeWinCtrl x0 x1 x2).cfl = x2.cfl ∧ (writeWinCtrl x0 x1 x2).sec = x2.sec := by
  simp [writeWinCtrl]

@[simp] theorem writeCtrSel_frame (x0 : W32) (x1 : State) :
    (writeCtrSel x0 x1).pending = x1.pending ∧ (writeCtrSel x0 x1).tclk = x1.tclk ∧ (writeCtrSel x0 x1).gZero = x1.gZero ∧ (writeCtrSel x0 x1).drawn = x1.drawn ∧ (writeCtrSel x0 x1).power = x1.power ∧ (writeCtrSel x0 x1).boot = x1.boot ∧ (writeCtrSel x0 x1).host = x1.host ∧ (writeCtrSel x0 x1).rings = x1.rings ∧ (writeCtrSel x0 x1).tensor = x1.tensor ∧ (writeCtrSel x0 x1).mem = x1.mem ∧ (writeCtrSel x0 x1).ecc = x1.ecc ∧ (writeCtrSel x0 x1).spaces = x1.spaces ∧ (writeCtrSel x0 x1).flash = x1.flash ∧ (writeCtrSel x0 x1).fabric = x1.fabric ∧ (writeCtrSel x0 x1).embed = x1.embed ∧ (writeCtrSel x0 x1).ralid = x1.ralid ∧ (writeCtrSel x0 x1).cfl = x1.cfl ∧ (writeCtrSel x0 x1).sec = x1.sec := by
  simp [writeCtrSel]

@[simp] theorem gbFlush_frame (x0 : List EvtRec) (x1 : State) :
    (gbFlush x0 x1).pending = x1.pending ∧ (gbFlush x0 x1).tclk = x1.tclk ∧ (gbFlush x0 x1).gZero = x1.gZero ∧ (gbFlush x0 x1).drawn = x1.drawn ∧ (gbFlush x0 x1).power = x1.power ∧ (gbFlush x0 x1).boot = x1.boot ∧ (gbFlush x0 x1).rings = x1.rings ∧ (gbFlush x0 x1).tensor = x1.tensor ∧ (gbFlush x0 x1).mem = x1.mem ∧ (gbFlush x0 x1).ecc = x1.ecc ∧ (gbFlush x0 x1).spaces = x1.spaces ∧ (gbFlush x0 x1).flash = x1.flash ∧ (gbFlush x0 x1).fabric = x1.fabric ∧ (gbFlush x0 x1).embed = x1.embed ∧ (gbFlush x0 x1).ralid = x1.ralid ∧ (gbFlush x0 x1).cfl = x1.cfl ∧ (gbFlush x0 x1).sec = x1.sec := by
  fun_induction gbFlush x0 x1 <;> simp_all

@[simp] theorem writeGbCtrl_frame (x0 : W32) (x1 : State) :
    (writeGbCtrl x0 x1).pending = x1.pending ∧ (writeGbCtrl x0 x1).tclk = x1.tclk ∧ (writeGbCtrl x0 x1).gZero = x1.gZero ∧ (writeGbCtrl x0 x1).drawn = x1.drawn ∧ (writeGbCtrl x0 x1).power = x1.power ∧ (writeGbCtrl x0 x1).boot = x1.boot ∧ (writeGbCtrl x0 x1).rings = x1.rings ∧ (writeGbCtrl x0 x1).tensor = x1.tensor ∧ (writeGbCtrl x0 x1).mem = x1.mem ∧ (writeGbCtrl x0 x1).ecc = x1.ecc ∧ (writeGbCtrl x0 x1).spaces = x1.spaces ∧ (writeGbCtrl x0 x1).flash = x1.flash ∧ (writeGbCtrl x0 x1).fabric = x1.fabric ∧ (writeGbCtrl x0 x1).embed = x1.embed ∧ (writeGbCtrl x0 x1).ralid = x1.ralid ∧ (writeGbCtrl x0 x1).cfl = x1.cfl ∧ (writeGbCtrl x0 x1).sec = x1.sec := by
  simp [writeGbCtrl]

@[simp] theorem writeGbHead_frame (x0 : W32) (x1 : State) :
    (writeGbHead x0 x1).pending = x1.pending ∧ (writeGbHead x0 x1).tclk = x1.tclk ∧ (writeGbHead x0 x1).gZero = x1.gZero ∧ (writeGbHead x0 x1).drawn = x1.drawn ∧ (writeGbHead x0 x1).power = x1.power ∧ (writeGbHead x0 x1).boot = x1.boot ∧ (writeGbHead x0 x1).rings = x1.rings ∧ (writeGbHead x0 x1).tensor = x1.tensor ∧ (writeGbHead x0 x1).mem = x1.mem ∧ (writeGbHead x0 x1).ecc = x1.ecc ∧ (writeGbHead x0 x1).spaces = x1.spaces ∧ (writeGbHead x0 x1).flash = x1.flash ∧ (writeGbHead x0 x1).fabric = x1.fabric ∧ (writeGbHead x0 x1).embed = x1.embed ∧ (writeGbHead x0 x1).ralid = x1.ralid ∧ (writeGbHead x0 x1).cfl = x1.cfl ∧ (writeGbHead x0 x1).sec = x1.sec := by
  simp [writeGbHead]

@[simp] theorem doeAnswer_frame (x0 : Nat) (x1 : List Byte) (x2 : State) :
    (doeAnswer x0 x1 x2).pending = x2.pending ∧ (doeAnswer x0 x1 x2).tclk = x2.tclk ∧ (doeAnswer x0 x1 x2).gZero = x2.gZero ∧ (doeAnswer x0 x1 x2).drawn = x2.drawn ∧ (doeAnswer x0 x1 x2).power = x2.power ∧ (doeAnswer x0 x1 x2).boot = x2.boot ∧ (doeAnswer x0 x1 x2).rings = x2.rings ∧ (doeAnswer x0 x1 x2).evt = x2.evt ∧ (doeAnswer x0 x1 x2).tensor = x2.tensor ∧ (doeAnswer x0 x1 x2).mem = x2.mem ∧ (doeAnswer x0 x1 x2).ecc = x2.ecc ∧ (doeAnswer x0 x1 x2).spaces = x2.spaces ∧ (doeAnswer x0 x1 x2).flash = x2.flash ∧ (doeAnswer x0 x1 x2).fabric = x2.fabric ∧ (doeAnswer x0 x1 x2).embed = x2.embed ∧ (doeAnswer x0 x1 x2).ralid = x2.ralid ∧ (doeAnswer x0 x1 x2).cfl = x2.cfl ∧ (doeAnswer x0 x1 x2).sec = x2.sec := by
  simp [doeAnswer]

@[simp] theorem mgmtError_frame (x0 : Nat) (x1 : State) :
    (mgmtError x0 x1).pending = x1.pending ∧ (mgmtError x0 x1).tclk = x1.tclk ∧ (mgmtError x0 x1).gZero = x1.gZero ∧ (mgmtError x0 x1).drawn = x1.drawn ∧ (mgmtError x0 x1).power = x1.power ∧ (mgmtError x0 x1).boot = x1.boot ∧ (mgmtError x0 x1).rings = x1.rings ∧ (mgmtError x0 x1).evt = x1.evt ∧ (mgmtError x0 x1).tensor = x1.tensor ∧ (mgmtError x0 x1).mem = x1.mem ∧ (mgmtError x0 x1).ecc = x1.ecc ∧ (mgmtError x0 x1).spaces = x1.spaces ∧ (mgmtError x0 x1).flash = x1.flash ∧ (mgmtError x0 x1).fabric = x1.fabric ∧ (mgmtError x0 x1).embed = x1.embed ∧ (mgmtError x0 x1).ralid = x1.ralid ∧ (mgmtError x0 x1).cfl = x1.cfl ∧ (mgmtError x0 x1).sec = x1.sec := by
  simp [mgmtError]

@[simp] theorem mgmtRequest_pending (x0 : Nat) (x1 : List Byte) (x2 : State → State) (x3 : State) (h : ∀ y0, (x2 y0).pending = y0.pending) :
    (mgmtRequest x0 x1 x2 x3).pending = x3.pending := by
  simp [mgmtRequest, h]

@[simp] theorem mgmtRequest_tclk (x0 : Nat) (x1 : List Byte) (x2 : State → State) (x3 : State) (h : ∀ y0, (x2 y0).tclk = y0.tclk) :
    (mgmtRequest x0 x1 x2 x3).tclk = x3.tclk := by
  simp [mgmtRequest, h]

@[simp] theorem mgmtRequest_gZero (x0 : Nat) (x1 : List Byte) (x2 : State → State) (x3 : State) (h : ∀ y0, (x2 y0).gZero = y0.gZero) :
    (mgmtRequest x0 x1 x2 x3).gZero = x3.gZero := by
  simp [mgmtRequest, h]

@[simp] theorem mgmtRequest_drawn (x0 : Nat) (x1 : List Byte) (x2 : State → State) (x3 : State) (h : ∀ y0, (x2 y0).drawn = y0.drawn) :
    (mgmtRequest x0 x1 x2 x3).drawn = x3.drawn := by
  simp [mgmtRequest, h]

@[simp] theorem mgmtRequest_power (x0 : Nat) (x1 : List Byte) (x2 : State → State) (x3 : State) (h : ∀ y0, (x2 y0).power = y0.power) :
    (mgmtRequest x0 x1 x2 x3).power = x3.power := by
  simp [mgmtRequest, h]

@[simp] theorem mgmtRequest_boot (x0 : Nat) (x1 : List Byte) (x2 : State → State) (x3 : State) (h : ∀ y0, (x2 y0).boot = y0.boot) :
    (mgmtRequest x0 x1 x2 x3).boot = x3.boot := by
  simp [mgmtRequest, h]

@[simp] theorem mgmtRequest_rings (x0 : Nat) (x1 : List Byte) (x2 : State → State) (x3 : State) (h : ∀ y0, (x2 y0).rings = y0.rings) :
    (mgmtRequest x0 x1 x2 x3).rings = x3.rings := by
  simp [mgmtRequest, h]

@[simp] theorem mgmtRequest_evt (x0 : Nat) (x1 : List Byte) (x2 : State → State) (x3 : State) (h : ∀ y0, (x2 y0).evt = y0.evt) :
    (mgmtRequest x0 x1 x2 x3).evt = x3.evt := by
  simp [mgmtRequest, h]

@[simp] theorem mgmtRequest_tensor (x0 : Nat) (x1 : List Byte) (x2 : State → State) (x3 : State) (h : ∀ y0, (x2 y0).tensor = y0.tensor) :
    (mgmtRequest x0 x1 x2 x3).tensor = x3.tensor := by
  simp [mgmtRequest, h]

@[simp] theorem mgmtRequest_mem (x0 : Nat) (x1 : List Byte) (x2 : State → State) (x3 : State) (h : ∀ y0, (x2 y0).mem = y0.mem) :
    (mgmtRequest x0 x1 x2 x3).mem = x3.mem := by
  simp [mgmtRequest, h]

@[simp] theorem mgmtRequest_ecc (x0 : Nat) (x1 : List Byte) (x2 : State → State) (x3 : State) (h : ∀ y0, (x2 y0).ecc = y0.ecc) :
    (mgmtRequest x0 x1 x2 x3).ecc = x3.ecc := by
  simp [mgmtRequest, h]

@[simp] theorem mgmtRequest_spaces (x0 : Nat) (x1 : List Byte) (x2 : State → State) (x3 : State) (h : ∀ y0, (x2 y0).spaces = y0.spaces) :
    (mgmtRequest x0 x1 x2 x3).spaces = x3.spaces := by
  simp [mgmtRequest, h]

@[simp] theorem mgmtRequest_flash (x0 : Nat) (x1 : List Byte) (x2 : State → State) (x3 : State) (h : ∀ y0, (x2 y0).flash = y0.flash) :
    (mgmtRequest x0 x1 x2 x3).flash = x3.flash := by
  simp [mgmtRequest, h]

@[simp] theorem mgmtRequest_fabric (x0 : Nat) (x1 : List Byte) (x2 : State → State) (x3 : State) (h : ∀ y0, (x2 y0).fabric = y0.fabric) :
    (mgmtRequest x0 x1 x2 x3).fabric = x3.fabric := by
  simp [mgmtRequest, h]

@[simp] theorem mgmtRequest_embed (x0 : Nat) (x1 : List Byte) (x2 : State → State) (x3 : State) (h : ∀ y0, (x2 y0).embed = y0.embed) :
    (mgmtRequest x0 x1 x2 x3).embed = x3.embed := by
  simp [mgmtRequest, h]

@[simp] theorem mgmtRequest_ralid (x0 : Nat) (x1 : List Byte) (x2 : State → State) (x3 : State) (h : ∀ y0, (x2 y0).ralid = y0.ralid) :
    (mgmtRequest x0 x1 x2 x3).ralid = x3.ralid := by
  simp [mgmtRequest, h]

@[simp] theorem mgmtRequest_cfl (x0 : Nat) (x1 : List Byte) (x2 : State → State) (x3 : State) (h : ∀ y0, (x2 y0).cfl = y0.cfl) :
    (mgmtRequest x0 x1 x2 x3).cfl = x3.cfl := by
  simp [mgmtRequest, h]

@[simp] theorem mgmtRequest_sec (x0 : Nat) (x1 : List Byte) (x2 : State → State) (x3 : State) (h : ∀ y0, (x2 y0).sec = y0.sec) :
    (mgmtRequest x0 x1 x2 x3).sec = x3.sec := by
  simp [mgmtRequest, h]

end Sys2Proof.Machine
end

