-- ==== Sys2Proof/Laws/FramesJobs.lean ====
section
/-! SUPPORT. What each shared operation of Machine/Jobs.lean leaves as it is. -/

namespace Sys2Proof.Machine

@[simp] theorem nextOrder_frame (x0 : State) :
    (nextOrder x0).2.pending = x0.pending ∧ (nextOrder x0).2.tclk = x0.tclk ∧ (nextOrder x0).2.gZero = x0.gZero ∧ (nextOrder x0).2.drawn = x0.drawn ∧ (nextOrder x0).2.power = x0.power ∧ (nextOrder x0).2.boot = x0.boot ∧ (nextOrder x0).2.host = x0.host ∧ (nextOrder x0).2.rings = x0.rings ∧ (nextOrder x0).2.evt = x0.evt ∧ (nextOrder x0).2.mem = x0.mem ∧ (nextOrder x0).2.ecc = x0.ecc ∧ (nextOrder x0).2.spaces = x0.spaces ∧ (nextOrder x0).2.flash = x0.flash ∧ (nextOrder x0).2.fabric = x0.fabric ∧ (nextOrder x0).2.embed = x0.embed ∧ (nextOrder x0).2.ralid = x0.ralid ∧ (nextOrder x0).2.cfl = x0.cfl ∧ (nextOrder x0).2.sec = x0.sec := by
  simp [nextOrder]

@[simp] theorem becomeEligible_frame (x0 : Nat) (x1 : JobState) (x2 : State) :
    (becomeEligible x0 x1 x2).pending = x2.pending ∧ (becomeEligible x0 x1 x2).tclk = x2.tclk ∧ (becomeEligible x0 x1 x2).gZero = x2.gZero ∧ (becomeEligible x0 x1 x2).drawn = x2.drawn ∧ (becomeEligible x0 x1 x2).power = x2.power ∧ (becomeEligible x0 x1 x2).boot = x2.boot ∧ (becomeEligible x0 x1 x2).rings = x2.rings ∧ (becomeEligible x0 x1 x2).evt = x2.evt ∧ (becomeEligible x0 x1 x2).mem = x2.mem ∧ (becomeEligible x0 x1 x2).ecc = x2.ecc ∧ (becomeEligible x0 x1 x2).spaces = x2.spaces ∧ (becomeEligible x0 x1 x2).flash = x2.flash ∧ (becomeEligible x0 x1 x2).fabric = x2.fabric ∧ (becomeEligible x0 x1 x2).embed = x2.embed ∧ (becomeEligible x0 x1 x2).ralid = x2.ralid ∧ (becomeEligible x0 x1 x2).cfl = x2.cfl ∧ (becomeEligible x0 x1 x2).sec = x2.sec := by
  simp [becomeEligible]

@[simp] theorem writeStatus_frame (x0 : Job) (x1 : Nat) (x2 : Nat) (x3 : Nat) (x4 : State) :
    (writeStatus x0 x1 x2 x3 x4).pending = x4.pending ∧ (writeStatus x0 x1 x2 x3 x4).tclk = x4.tclk ∧ (writeStatus x0 x1 x2 x3 x4).gZero = x4.gZero ∧ (writeStatus x0 x1 x2 x3 x4).drawn = x4.drawn ∧ (writeStatus x0 x1 x2 x3 x4).power = x4.power ∧ (writeStatus x0 x1 x2 x3 x4).boot = x4.boot ∧ (writeStatus x0 x1 x2 x3 x4).host = x4.host ∧ (writeStatus x0 x1 x2 x3 x4).rings = x4.rings ∧ (writeStatus x0 x1 x2 x3 x4).evt = x4.evt ∧ (writeStatus x0 x1 x2 x3 x4).tensor = x4.tensor ∧ (writeStatus x0 x1 x2 x3 x4).ecc = x4.ecc ∧ (writeStatus x0 x1 x2 x3 x4).spaces = x4.spaces ∧ (writeStatus x0 x1 x2 x3 x4).flash = x4.flash ∧ (writeStatus x0 x1 x2 x3 x4).fabric = x4.fabric ∧ (writeStatus x0 x1 x2 x3 x4).embed = x4.embed ∧ (writeStatus x0 x1 x2 x3 x4).ralid = x4.ralid ∧ (writeStatus x0 x1 x2 x3 x4).cfl = x4.cfl ∧ (writeStatus x0 x1 x2 x3 x4).sec = x4.sec := by
  simp [writeStatus]

@[simp] theorem writeHeader_frame (x0 : Job) (x1 : Bool) (x2 : Bool) (x3 : State) :
    (writeHeader x0 x1 x2 x3).pending = x3.pending ∧ (writeHeader x0 x1 x2 x3).tclk = x3.tclk ∧ (writeHeader x0 x1 x2 x3).gZero = x3.gZero ∧ (writeHeader x0 x1 x2 x3).drawn = x3.drawn ∧ (writeHeader x0 x1 x2 x3).power = x3.power ∧ (writeHeader x0 x1 x2 x3).boot = x3.boot ∧ (writeHeader x0 x1 x2 x3).host = x3.host ∧ (writeHeader x0 x1 x2 x3).rings = x3.rings ∧ (writeHeader x0 x1 x2 x3).evt = x3.evt ∧ (writeHeader x0 x1 x2 x3).tensor = x3.tensor ∧ (writeHeader x0 x1 x2 x3).ecc = x3.ecc ∧ (writeHeader x0 x1 x2 x3).spaces = x3.spaces ∧ (writeHeader x0 x1 x2 x3).flash = x3.flash ∧ (writeHeader x0 x1 x2 x3).fabric = x3.fabric ∧ (writeHeader x0 x1 x2 x3).embed = x3.embed ∧ (writeHeader x0 x1 x2 x3).ralid = x3.ralid ∧ (writeHeader x0 x1 x2 x3).cfl = x3.cfl ∧ (writeHeader x0 x1 x2 x3).sec = x3.sec := by
  simp [writeHeader]

@[simp] theorem mergeIeee_frame (x0 : Nat) (x1 : State) :
    (mergeIeee x0 x1).pending = x1.pending ∧ (mergeIeee x0 x1).tclk = x1.tclk ∧ (mergeIeee x0 x1).gZero = x1.gZero ∧ (mergeIeee x0 x1).drawn = x1.drawn ∧ (mergeIeee x0 x1).power = x1.power ∧ (mergeIeee x0 x1).boot = x1.boot ∧ (mergeIeee x0 x1).host = x1.host ∧ (mergeIeee x0 x1).rings = x1.rings ∧ (mergeIeee x0 x1).evt = x1.evt ∧ (mergeIeee x0 x1).mem = x1.mem ∧ (mergeIeee x0 x1).ecc = x1.ecc ∧ (mergeIeee x0 x1).spaces = x1.spaces ∧ (mergeIeee x0 x1).flash = x1.flash ∧ (mergeIeee x0 x1).fabric = x1.fabric ∧ (mergeIeee x0 x1).embed = x1.embed ∧ (mergeIeee x0 x1).ralid = x1.ralid ∧ (mergeIeee x0 x1).cfl = x1.cfl ∧ (mergeIeee x0 x1).sec = x1.sec := by
  simp [mergeIeee]

@[simp] theorem remember_frame (x0 : Ended) (x1 : State) :
    (remember x0 x1).pending = x1.pending ∧ (remember x0 x1).tclk = x1.tclk ∧ (remember x0 x1).gZero = x1.gZero ∧ (remember x0 x1).drawn = x1.drawn ∧ (remember x0 x1).power = x1.power ∧ (remember x0 x1).boot = x1.boot ∧ (remember x0 x1).host = x1.host ∧ (remember x0 x1).rings = x1.rings ∧ (remember x0 x1).evt = x1.evt ∧ (remember x0 x1).mem = x1.mem ∧ (remember x0 x1).ecc = x1.ecc ∧ (remember x0 x1).spaces = x1.spaces ∧ (remember x0 x1).flash = x1.flash ∧ (remember x0 x1).fabric = x1.fabric ∧ (remember x0 x1).embed = x1.embed ∧ (remember x0 x1).ralid = x1.ralid ∧ (remember x0 x1).cfl = x1.cfl ∧ (remember x0 x1).sec = x1.sec := by
  simp [remember]

@[simp] theorem releaseJob_frame (x0 : Nat) (x1 : Job) (x2 : State) :
    (releaseJob x0 x1 x2).pending = x2.pending ∧ (releaseJob x0 x1 x2).tclk = x2.tclk ∧ (releaseJob x0 x1 x2).gZero = x2.gZero ∧ (releaseJob x0 x1 x2).drawn = x2.drawn ∧ (releaseJob x0 x1 x2).power = x2.power ∧ (releaseJob x0 x1 x2).boot = x2.boot ∧ (releaseJob x0 x1 x2).host = x2.host ∧ (releaseJob x0 x1 x2).rings = x2.rings ∧ (releaseJob x0 x1 x2).evt = x2.evt ∧ (releaseJob x0 x1 x2).ecc = x2.ecc ∧ (releaseJob x0 x1 x2).spaces = x2.spaces ∧ (releaseJob x0 x1 x2).embed = x2.embed ∧ (releaseJob x0 x1 x2).ralid = x2.ralid ∧ (releaseJob x0 x1 x2).cfl = x2.cfl ∧ (releaseJob x0 x1 x2).sec = x2.sec := by
  simp [releaseJob]

@[simp] theorem handOver_frame (x0 : Option Nat) (x1 : State) :
    (handOver x0 x1).pending = x1.pending ∧ (handOver x0 x1).tclk = x1.tclk ∧ (handOver x0 x1).gZero = x1.gZero ∧ (handOver x0 x1).drawn = x1.drawn ∧ (handOver x0 x1).power = x1.power ∧ (handOver x0 x1).boot = x1.boot ∧ (handOver x0 x1).host = x1.host ∧ (handOver x0 x1).rings = x1.rings ∧ (handOver x0 x1).evt = x1.evt ∧ (handOver x0 x1).tensor = x1.tensor ∧ (handOver x0 x1).ecc = x1.ecc ∧ (handOver x0 x1).spaces = x1.spaces ∧ (handOver x0 x1).flash = x1.flash ∧ (handOver x0 x1).fabric = x1.fabric ∧ (handOver x0 x1).embed = x1.embed ∧ (handOver x0 x1).ralid = x1.ralid ∧ (handOver x0 x1).cfl = x1.cfl ∧ (handOver x0 x1).sec = x1.sec := by
  simp [handOver]

@[simp] theorem startSwitch_frame (x0 : Nat) (x1 : State) :
    (startSwitch x0 x1).pending = x1.pending ∧ (startSwitch x0 x1).tclk = x1.tclk ∧ (startSwitch x0 x1).gZero = x1.gZero ∧ (startSwitch x0 x1).drawn = x1.drawn ∧ (startSwitch x0 x1).power = x1.power ∧ (startSwitch x0 x1).boot = x1.boot ∧ (startSwitch x0 x1).host = x1.host ∧ (startSwitch x0 x1).rings = x1.rings ∧ (startSwitch x0 x1).evt = x1.evt ∧ (startSwitch x0 x1).ecc = x1.ecc ∧ (startSwitch x0 x1).spaces = x1.spaces ∧ (startSwitch x0 x1).flash = x1.flash ∧ (startSwitch x0 x1).fabric = x1.fabric ∧ (startSwitch x0 x1).embed = x1.embed ∧ (startSwitch x0 x1).ralid = x1.ralid ∧ (startSwitch x0 x1).cfl = x1.cfl ∧ (startSwitch x0 x1).sec = x1.sec := by
  simp [startSwitch]

@[simp] theorem pickOwner_frame (x0 : State) :
    (pickOwner x0).pending = x0.pending ∧ (pickOwner x0).tclk = x0.tclk ∧ (pickOwner x0).gZero = x0.gZero ∧ (pickOwner x0).drawn = x0.drawn ∧ (pickOwner x0).power = x0.power ∧ (pickOwner x0).boot = x0.boot ∧ (pickOwner x0).host = x0.host ∧ (pickOwner x0).rings = x0.rings ∧ (pickOwner x0).evt = x0.evt ∧ (pickOwner x0).ecc = x0.ecc ∧ (pickOwner x0).spaces = x0.spaces ∧ (pickOwner x0).flash = x0.flash ∧ (pickOwner x0).fabric = x0.fabric ∧ (pickOwner x0).embed = x0.embed ∧ (pickOwner x0).ralid = x0.ralid ∧ (pickOwner x0).cfl = x0.cfl ∧ (pickOwner x0).sec = x0.sec := by
  unfold pickOwner; dsimp only; (repeat' split) <;> simp

@[simp] theorem endJob_frame (x0 : Nat) (x1 : Nat) (x2 : Nat) (x3 : State) :
    (endJob x0 x1 x2 x3).pending = x3.pending ∧ (endJob x0 x1 x2 x3).tclk = x3.tclk ∧ (endJob x0 x1 x2 x3).gZero = x3.gZero ∧ (endJob x0 x1 x2 x3).power = x3.power ∧ (endJob x0 x1 x2 x3).boot = x3.boot ∧ (endJob x0 x1 x2 x3).ecc = x3.ecc ∧ (endJob x0 x1 x2 x3).spaces = x3.spaces ∧ (endJob x0 x1 x2 x3).ralid = x3.ralid ∧ (endJob x0 x1 x2 x3).cfl = x3.cfl ∧ (endJob x0 x1 x2 x3).sec = x3.sec := by
  unfold endJob; split <;> simp

@[simp] theorem failJob_frame (x0 : Nat) (x1 : Nat) (x2 : Nat) (x3 : State) :
    (failJob x0 x1 x2 x3).pending = x3.pending ∧ (failJob x0 x1 x2 x3).tclk = x3.tclk ∧ (failJob x0 x1 x2 x3).gZero = x3.gZero ∧ (failJob x0 x1 x2 x3).power = x3.power ∧ (failJob x0 x1 x2 x3).boot = x3.boot ∧ (failJob x0 x1 x2 x3).ecc = x3.ecc ∧ (failJob x0 x1 x2 x3).spaces = x3.spaces ∧ (failJob x0 x1 x2 x3).ralid = x3.ralid ∧ (failJob x0 x1 x2 x3).cfl = x3.cfl ∧ (failJob x0 x1 x2 x3).sec = x3.sec := by
  unfold failJob; split <;> simp

@[simp] theorem issueSweep_frame (x0 : State) :
    (issueSweep x0).pending = x0.pending ∧ (issueSweep x0).tclk = x0.tclk ∧ (issueSweep x0).gZero = x0.gZero ∧ (issueSweep x0).drawn = x0.drawn ∧ (issueSweep x0).power = x0.power ∧ (issueSweep x0).boot = x0.boot ∧ (issueSweep x0).rings = x0.rings ∧ (issueSweep x0).evt = x0.evt ∧ (issueSweep x0).tensor = x0.tensor ∧ (issueSweep x0).mem = x0.mem ∧ (issueSweep x0).ecc = x0.ecc ∧ (issueSweep x0).spaces = x0.spaces ∧ (issueSweep x0).flash = x0.flash ∧ (issueSweep x0).fabric = x0.fabric ∧ (issueSweep x0).embed = x0.embed ∧ (issueSweep x0).ralid = x0.ralid ∧ (issueSweep x0).cfl = x0.cfl ∧ (issueSweep x0).sec = x0.sec := by
  simp [issueSweep]

@[simp] theorem startSweep_frame (x0 : List Region) (x1 : State) :
    (startSweep x0 x1).pending = x1.pending ∧ (startSweep x0 x1).tclk = x1.tclk ∧ (startSweep x0 x1).gZero = x1.gZero ∧ (startSweep x0 x1).drawn = x1.drawn ∧ (startSweep x0 x1).power = x1.power ∧ (startSweep x0 x1).boot = x1.boot ∧ (startSweep x0 x1).rings = x1.rings ∧ (startSweep x0 x1).evt = x1.evt ∧ (startSweep x0 x1).tensor = x1.tensor ∧ (startSweep x0 x1).mem = x1.mem ∧ (startSweep x0 x1).ecc = x1.ecc ∧ (startSweep x0 x1).spaces = x1.spaces ∧ (startSweep x0 x1).flash = x1.flash ∧ (startSweep x0 x1).fabric = x1.fabric ∧ (startSweep x0 x1).embed = x1.embed ∧ (startSweep x0 x1).ralid = x1.ralid ∧ (startSweep x0 x1).cfl = x1.cfl ∧ (startSweep x0 x1).sec = x1.sec := by
  simp [startSweep]

@[simp] theorem noteGap_frame (x0 : Nat) (x1 : Nat) (x2 : State) :
    (noteGap x0 x1 x2).pending = x2.pending ∧ (noteGap x0 x1 x2).tclk = x2.tclk ∧ (noteGap x0 x1 x2).gZero = x2.gZero ∧ (noteGap x0 x1 x2).drawn = x2.drawn ∧ (noteGap x0 x1 x2).power = x2.power ∧ (noteGap x0 x1 x2).boot = x2.boot ∧ (noteGap x0 x1 x2).host = x2.host ∧ (noteGap x0 x1 x2).rings = x2.rings ∧ (noteGap x0 x1 x2).evt = x2.evt ∧ (noteGap x0 x1 x2).mem = x2.mem ∧ (noteGap x0 x1 x2).ecc = x2.ecc ∧ (noteGap x0 x1 x2).spaces = x2.spaces ∧ (noteGap x0 x1 x2).flash = x2.flash ∧ (noteGap x0 x1 x2).fabric = x2.fabric ∧ (noteGap x0 x1 x2).embed = x2.embed ∧ (noteGap x0 x1 x2).ralid = x2.ralid ∧ (noteGap x0 x1 x2).cfl = x2.cfl ∧ (noteGap x0 x1 x2).sec = x2.sec := by
  simp [noteGap]

@[simp] theorem leaveWaypoint_frame (x0 : Nat) (x1 : LeaveKind) (x2 : Option Nat) (x3 : State) :
    (leaveWaypoint x0 x1 x2 x3).pending = x3.pending ∧ (leaveWaypoint x0 x1 x2 x3).tclk = x3.tclk ∧ (leaveWaypoint x0 x1 x2 x3).gZero = x3.gZero ∧ (leaveWaypoint x0 x1 x2 x3).drawn = x3.drawn ∧ (leaveWaypoint x0 x1 x2 x3).power = x3.power ∧ (leaveWaypoint x0 x1 x2 x3).boot = x3.boot ∧ (leaveWaypoint x0 x1 x2 x3).rings = x3.rings ∧ (leaveWaypoint x0 x1 x2 x3).mem = x3.mem ∧ (leaveWaypoint x0 x1 x2 x3).ecc = x3.ecc ∧ (leaveWaypoint x0 x1 x2 x3).spaces = x3.spaces ∧ (leaveWaypoint x0 x1 x2 x3).flash = x3.flash ∧ (leaveWaypoint x0 x1 x2 x3).fabric = x3.fabric ∧ (leaveWaypoint x0 x1 x2 x3).embed = x3.embed ∧ (leaveWaypoint x0 x1 x2 x3).ralid = x3.ralid ∧ (leaveWaypoint x0 x1 x2 x3).cfl = x3.cfl ∧ (leaveWaypoint x0 x1 x2 x3).sec = x3.sec := by
  simp [leaveWaypoint]

@[simp] theorem releaseWaypoint_frame (x0 : State) :
    (releaseWaypoint x0).pending = x0.pending ∧ (releaseWaypoint x0).tclk = x0.tclk ∧ (releaseWaypoint x0).gZero = x0.gZero ∧ (releaseWaypoint x0).drawn = x0.drawn ∧ (releaseWaypoint x0).power = x0.power ∧ (releaseWaypoint x0).boot = x0.boot ∧ (releaseWaypoint x0).host = x0.host ∧ (releaseWaypoint x0).rings = x0.rings ∧ (releaseWaypoint x0).evt = x0.evt ∧ (releaseWaypoint x0).mem = x0.mem ∧ (releaseWaypoint x0).ecc = x0.ecc ∧ (releaseWaypoint x0).spaces = x0.spaces ∧ (releaseWaypoint x0).flash = x0.flash ∧ (releaseWaypoint x0).fabric = x0.fabric ∧ (releaseWaypoint x0).embed = x0.embed ∧ (releaseWaypoint x0).ralid = x0.ralid ∧ (releaseWaypoint x0).cfl = x0.cfl ∧ (releaseWaypoint x0).sec = x0.sec := by
  simp [releaseWaypoint]

@[simp] theorem goOn_frame (x0 : State) :
    (goOn x0).pending = x0.pending ∧ (goOn x0).tclk = x0.tclk ∧ (goOn x0).gZero = x0.gZero ∧ (goOn x0).drawn = x0.drawn ∧ (goOn x0).power = x0.power ∧ (goOn x0).boot = x0.boot ∧ (goOn x0).host = x0.host ∧ (goOn x0).rings = x0.rings ∧ (goOn x0).evt = x0.evt ∧ (goOn x0).mem = x0.mem ∧ (goOn x0).ecc = x0.ecc ∧ (goOn x0).spaces = x0.spaces ∧ (goOn x0).flash = x0.flash ∧ (goOn x0).fabric = x0.fabric ∧ (goOn x0).embed = x0.embed ∧ (goOn x0).ralid = x0.ralid ∧ (goOn x0).cfl = x0.cfl ∧ (goOn x0).sec = x0.sec := by
  simp [goOn]

@[simp] theorem waypointDecision_frame (x0 : Nat) (x1 : State) :
    (waypointDecision x0 x1).pending = x1.pending ∧ (waypointDecision x0 x1).tclk = x1.tclk ∧ (waypointDecision x0 x1).gZero = x1.gZero ∧ (waypointDecision x0 x1).drawn = x1.drawn ∧ (waypointDecision x0 x1).power = x1.power ∧ (waypointDecision x0 x1).boot = x1.boot ∧ (waypointDecision x0 x1).rings = x1.rings ∧ (waypointDecision x0 x1).spaces = x1.spaces ∧ (waypointDecision x0 x1).flash = x1.flash ∧ (waypointDecision x0 x1).fabric = x1.fabric ∧ (waypointDecision x0 x1).embed = x1.embed ∧ (waypointDecision x0 x1).ralid = x1.ralid ∧ (waypointDecision x0 x1).cfl = x1.cfl ∧ (waypointDecision x0 x1).sec = x1.sec := by
  unfold waypointDecision; (repeat' (split <;> (try (obtain rfl := snd_of_eq ‹_ = (_, _)›)))); all_goals (first | done | simp | simp_all)

@[simp] theorem schedule_frame (x0 : State) :
    (schedule x0).pending = x0.pending ∧ (schedule x0).tclk = x0.tclk ∧ (schedule x0).gZero = x0.gZero ∧ (schedule x0).drawn = x0.drawn ∧ (schedule x0).power = x0.power ∧ (schedule x0).boot = x0.boot ∧ (schedule x0).rings = x0.rings ∧ (schedule x0).ecc = x0.ecc ∧ (schedule x0).spaces = x0.spaces ∧ (schedule x0).flash = x0.flash ∧ (schedule x0).fabric = x0.fabric ∧ (schedule x0).embed = x0.embed ∧ (schedule x0).ralid = x0.ralid ∧ (schedule x0).cfl = x0.cfl ∧ (schedule x0).sec = x0.sec := by
  unfold schedule; (repeat' split) <;> simp

@[simp] theorem requestLeave_frame (x0 : Nat) (x1 : LeaveKind) (x2 : State) :
    (requestLeave x0 x1 x2).pending = x2.pending ∧ (requestLeave x0 x1 x2).tclk = x2.tclk ∧ (requestLeave x0 x1 x2).gZero = x2.gZero ∧ (requestLeave x0 x1 x2).drawn = x2.drawn ∧ (requestLeave x0 x1 x2).power = x2.power ∧ (requestLeave x0 x1 x2).boot = x2.boot ∧ (requestLeave x0 x1 x2).rings = x2.rings ∧ (requestLeave x0 x1 x2).mem = x2.mem ∧ (requestLeave x0 x1 x2).ecc = x2.ecc ∧ (requestLeave x0 x1 x2).spaces = x2.spaces ∧ (requestLeave x0 x1 x2).flash = x2.flash ∧ (requestLeave x0 x1 x2).fabric = x2.fabric ∧ (requestLeave x0 x1 x2).embed = x2.embed ∧ (requestLeave x0 x1 x2).ralid = x2.ralid ∧ (requestLeave x0 x1 x2).cfl = x2.cfl ∧ (requestLeave x0 x1 x2).sec = x2.sec := by
  simp [requestLeave]

@[simp] theorem putRange_frame (x0 : Nat) (x1 : List Byte) (x2 : State) :
    (putRange x0 x1 x2).pending = x2.pending ∧ (putRange x0 x1 x2).tclk = x2.tclk ∧ (putRange x0 x1 x2).gZero = x2.gZero ∧ (putRange x0 x1 x2).drawn = x2.drawn ∧ (putRange x0 x1 x2).power = x2.power ∧ (putRange x0 x1 x2).boot = x2.boot ∧ (putRange x0 x1 x2).host = x2.host ∧ (putRange x0 x1 x2).rings = x2.rings ∧ (putRange x0 x1 x2).evt = x2.evt ∧ (putRange x0 x1 x2).ecc = x2.ecc ∧ (putRange x0 x1 x2).spaces = x2.spaces ∧ (putRange x0 x1 x2).flash = x2.flash ∧ (putRange x0 x1 x2).fabric = x2.fabric ∧ (putRange x0 x1 x2).embed = x2.embed ∧ (putRange x0 x1 x2).ralid = x2.ralid ∧ (putRange x0 x1 x2).cfl = x2.cfl ∧ (putRange x0 x1 x2).sec = x2.sec := by
  simp [putRange]

@[simp] theorem writeTileBlocks_frame (x0 : Nat) (x1 : State) :
    (writeTileBlocks x0 x1).pending = x1.pending ∧ (writeTileBlocks x0 x1).tclk = x1.tclk ∧ (writeTileBlocks x0 x1).gZero = x1.gZero ∧ (writeTileBlocks x0 x1).power = x1.power ∧ (writeTileBlocks x0 x1).boot = x1.boot ∧ (writeTileBlocks x0 x1).host = x1.host ∧ (writeTileBlocks x0 x1).rings = x1.rings ∧ (writeTileBlocks x0 x1).evt = x1.evt ∧ (writeTileBlocks x0 x1).tensor = x1.tensor ∧ (writeTileBlocks x0 x1).ecc = x1.ecc ∧ (writeTileBlocks x0 x1).spaces = x1.spaces ∧ (writeTileBlocks x0 x1).flash = x1.flash ∧ (writeTileBlocks x0 x1).fabric = x1.fabric ∧ (writeTileBlocks x0 x1).embed = x1.embed ∧ (writeTileBlocks x0 x1).ralid = x1.ralid ∧ (writeTileBlocks x0 x1).cfl = x1.cfl ∧ (writeTileBlocks x0 x1).sec = x1.sec := by
  simp [writeTileBlocks]

@[simp] theorem saveJob_frame (x0 : Nat) (x1 : Job) (x2 : List Nat) (x3 : State) :
    (saveJob x0 x1 x2 x3).pending = x3.pending ∧ (saveJob x0 x1 x2 x3).tclk = x3.tclk ∧ (saveJob x0 x1 x2 x3).gZero = x3.gZero ∧ (saveJob x0 x1 x2 x3).power = x3.power ∧ (saveJob x0 x1 x2 x3).boot = x3.boot ∧ (saveJob x0 x1 x2 x3).host = x3.host ∧ (saveJob x0 x1 x2 x3).rings = x3.rings ∧ (saveJob x0 x1 x2 x3).evt = x3.evt ∧ (saveJob x0 x1 x2 x3).ecc = x3.ecc ∧ (saveJob x0 x1 x2 x3).spaces = x3.spaces ∧ (saveJob x0 x1 x2 x3).flash = x3.flash ∧ (saveJob x0 x1 x2 x3).fabric = x3.fabric ∧ (saveJob x0 x1 x2 x3).embed = x3.embed ∧ (saveJob x0 x1 x2 x3).ralid = x3.ralid ∧ (saveJob x0 x1 x2 x3).cfl = x3.cfl ∧ (saveJob x0 x1 x2 x3).sec = x3.sec := by
  simp [saveJob]

@[simp] theorem setSaves_frame (x0 : Job) (x1 : Tbl TileSave) (x2 : State) :
    (setSaves x0 x1 x2).pending = x2.pending ∧ (setSaves x0 x1 x2).tclk = x2.tclk ∧ (setSaves x0 x1 x2).gZero = x2.gZero ∧ (setSaves x0 x1 x2).drawn = x2.drawn ∧ (setSaves x0 x1 x2).power = x2.power ∧ (setSaves x0 x1 x2).boot = x2.boot ∧ (setSaves x0 x1 x2).host = x2.host ∧ (setSaves x0 x1 x2).rings = x2.rings ∧ (setSaves x0 x1 x2).evt = x2.evt ∧ (setSaves x0 x1 x2).mem = x2.mem ∧ (setSaves x0 x1 x2).ecc = x2.ecc ∧ (setSaves x0 x1 x2).spaces = x2.spaces ∧ (setSaves x0 x1 x2).flash = x2.flash ∧ (setSaves x0 x1 x2).fabric = x2.fabric ∧ (setSaves x0 x1 x2).embed = x2.embed ∧ (setSaves x0 x1 x2).ralid = x2.ralid ∧ (setSaves x0 x1 x2).cfl = x2.cfl ∧ (setSaves x0 x1 x2).sec = x2.sec := by
  simp [setSaves]

@[simp] theorem landFlag_frame (x0 : FlagSetOp) (x1 : State) :
    (landFlag x0 x1).pending = x1.pending ∧ (landFlag x0 x1).tclk = x1.tclk ∧ (landFlag x0 x1).gZero = x1.gZero ∧ (landFlag x0 x1).drawn = x1.drawn ∧ (landFlag x0 x1).power = x1.power ∧ (landFlag x0 x1).boot = x1.boot ∧ (landFlag x0 x1).host = x1.host ∧ (landFlag x0 x1).rings = x1.rings ∧ (landFlag x0 x1).evt = x1.evt ∧ (landFlag x0 x1).mem = x1.mem ∧ (landFlag x0 x1).ecc = x1.ecc ∧ (landFlag x0 x1).spaces = x1.spaces ∧ (landFlag x0 x1).flash = x1.flash ∧ (landFlag x0 x1).fabric = x1.fabric ∧ (landFlag x0 x1).embed = x1.embed ∧ (landFlag x0 x1).ralid = x1.ralid ∧ (landFlag x0 x1).cfl = x1.cfl ∧ (landFlag x0 x1).sec = x1.sec := by
  simp [landFlag]

@[simp] theorem enterRunning_frame (x0 : Nat) (x1 : State) :
    (enterRunning x0 x1).pending = x1.pending ∧ (enterRunning x0 x1).tclk = x1.tclk ∧ (enterRunning x0 x1).gZero = x1.gZero ∧ (enterRunning x0 x1).drawn = x1.drawn ∧ (enterRunning x0 x1).power = x1.power ∧ (enterRunning x0 x1).boot = x1.boot ∧ (enterRunning x0 x1).rings = x1.rings ∧ (enterRunning x0 x1).ecc = x1.ecc ∧ (enterRunning x0 x1).spaces = x1.spaces ∧ (enterRunning x0 x1).flash = x1.flash ∧ (enterRunning x0 x1).fabric = x1.fabric ∧ (enterRunning x0 x1).embed = x1.embed ∧ (enterRunning x0 x1).ralid = x1.ralid ∧ (enterRunning x0 x1).cfl = x1.cfl ∧ (enterRunning x0 x1).sec = x1.sec := by
  unfold enterRunning; split <;> simp

@[simp] theorem readyInPhase_frame (x0 : Nat) (x1 : Nat) (x2 : List Region) (x3 : State) :
    (readyInPhase x0 x1 x2 x3).pending = x3.pending ∧ (readyInPhase x0 x1 x2 x3).tclk = x3.tclk ∧ (readyInPhase x0 x1 x2 x3).gZero = x3.gZero ∧ (readyInPhase x0 x1 x2 x3).power = x3.power ∧ (readyInPhase x0 x1 x2 x3).boot = x3.boot ∧ (readyInPhase x0 x1 x2 x3).ecc = x3.ecc ∧ (readyInPhase x0 x1 x2 x3).spaces = x3.spaces ∧ (readyInPhase x0 x1 x2 x3).ralid = x3.ralid ∧ (readyInPhase x0 x1 x2 x3).cfl = x3.cfl ∧ (readyInPhase x0 x1 x2 x3).sec = x3.sec := by
  unfold readyInPhase; dsimp only; (repeat' split) <;> simp

@[simp] theorem freeComplex_frame (x0 : State) :
    (freeComplex x0).pending = x0.pending ∧ (freeComplex x0).tclk = x0.tclk ∧ (freeComplex x0).gZero = x0.gZero ∧ (freeComplex x0).drawn = x0.drawn ∧ (freeComplex x0).power = x0.power ∧ (freeComplex x0).boot = x0.boot ∧ (freeComplex x0).host = x0.host ∧ (freeComplex x0).rings = x0.rings ∧ (freeComplex x0).evt = x0.evt ∧ (freeComplex x0).ecc = x0.ecc ∧ (freeComplex x0).spaces = x0.spaces ∧ (freeComplex x0).flash = x0.flash ∧ (freeComplex x0).fabric = x0.fabric ∧ (freeComplex x0).embed = x0.embed ∧ (freeComplex x0).ralid = x0.ralid ∧ (freeComplex x0).cfl = x0.cfl ∧ (freeComplex x0).sec = x0.sec := by
  simp [freeComplex]

@[simp] theorem issueBarrier_frame (x0 : Nat) (x1 : State) :
    (issueBarrier x0 x1).pending = x1.pending ∧ (issueBarrier x0 x1).tclk = x1.tclk ∧ (issueBarrier x0 x1).gZero = x1.gZero ∧ (issueBarrier x0 x1).power = x1.power ∧ (issueBarrier x0 x1).boot = x1.boot ∧ (issueBarrier x0 x1).ecc = x1.ecc ∧ (issueBarrier x0 x1).spaces = x1.spaces ∧ (issueBarrier x0 x1).ralid = x1.ralid ∧ (issueBarrier x0 x1).cfl = x1.cfl ∧ (issueBarrier x0 x1).sec = x1.sec := by
  unfold issueBarrier; split <;> simp

@[simp] theorem dropBarrier_frame (x0 : Job) (x1 : State) :
    (dropBarrier x0 x1).pending = x1.pending ∧ (dropBarrier x0 x1).tclk = x1.tclk ∧ (dropBarrier x0 x1).gZero = x1.gZero ∧ (dropBarrier x0 x1).drawn = x1.drawn ∧ (dropBarrier x0 x1).power = x1.power ∧ (dropBarrier x0 x1).boot = x1.boot ∧ (dropBarrier x0 x1).host = x1.host ∧ (dropBarrier x0 x1).rings = x1.rings ∧ (dropBarrier x0 x1).evt = x1.evt ∧ (dropBarrier x0 x1).tensor = x1.tensor ∧ (dropBarrier x0 x1).mem = x1.mem ∧ (dropBarrier x0 x1).ecc = x1.ecc ∧ (dropBarrier x0 x1).spaces = x1.spaces ∧ (dropBarrier x0 x1).flash = x1.flash ∧ (dropBarrier x0 x1).embed = x1.embed ∧ (dropBarrier x0 x1).ralid = x1.ralid ∧ (dropBarrier x0 x1).cfl = x1.cfl ∧ (dropBarrier x0 x1).sec = x1.sec := by
  simp [dropBarrier]

@[simp] theorem drainJob_frame (x0 : Nat) (x1 : State) :
    (drainJob x0 x1).pending = x1.pending ∧ (drainJob x0 x1).tclk = x1.tclk ∧ (drainJob x0 x1).gZero = x1.gZero ∧ (drainJob x0 x1).power = x1.power ∧ (drainJob x0 x1).boot = x1.boot ∧ (drainJob x0 x1).ecc = x1.ecc ∧ (drainJob x0 x1).spaces = x1.spaces ∧ (drainJob x0 x1).ralid = x1.ralid ∧ (drainJob x0 x1).cfl = x1.cfl ∧ (drainJob x0 x1).sec = x1.sec := by
  unfold drainJob; (repeat' split) <;> simp

@[simp] theorem drainJobs_frame (x0 : State) :
    (drainJobs x0).pending = x0.pending ∧ (drainJobs x0).tclk = x0.tclk ∧ (drainJobs x0).gZero = x0.gZero ∧ (drainJobs x0).power = x0.power ∧ (drainJobs x0).boot = x0.boot ∧ (drainJobs x0).ecc = x0.ecc ∧ (drainJobs x0).spaces = x0.spaces ∧ (drainJobs x0).ralid = x0.ralid ∧ (drainJobs x0).cfl = x0.cfl ∧ (drainJobs x0).sec = x0.sec := by
  simp [drainJobs]

end Sys2Proof.Machine
end

