-- ==== Sys2Proof/Laws/FramesJobCmds.lean ====
section
/-! SUPPORT. What each shared operation of Machine/JobCmds.lean leaves as it is. -/

namespace Sys2Proof.Machine

@[simp] theorem wake_frame (x0 : Nat) (x1 : State) :
    (wake x0 x1).pending = x1.pending ∧ (wake x0 x1).tclk = x1.tclk ∧ (wake x0 x1).gZero = x1.gZero ∧ (wake x0 x1).drawn = x1.drawn ∧ (wake x0 x1).power = x1.power ∧ (wake x0 x1).boot = x1.boot ∧ (wake x0 x1).rings = x1.rings ∧ (wake x0 x1).ecc = x1.ecc ∧ (wake x0 x1).spaces = x1.spaces ∧ (wake x0 x1).flash = x1.flash ∧ (wake x0 x1).fabric = x1.fabric ∧ (wake x0 x1).embed = x1.embed ∧ (wake x0 x1).ralid = x1.ralid ∧ (wake x0 x1).cfl = x1.cfl ∧ (wake x0 x1).sec = x1.sec := by
  unfold wake; split <;> simp

@[simp] theorem setWork_frame (x0 : Nat) (x1 : State) :
    (setWork x0 x1).pending = x1.pending ∧ (setWork x0 x1).tclk = x1.tclk ∧ (setWork x0 x1).gZero = x1.gZero ∧ (setWork x0 x1).drawn = x1.drawn ∧ (setWork x0 x1).power = x1.power ∧ (setWork x0 x1).boot = x1.boot ∧ (setWork x0 x1).rings = x1.rings ∧ (setWork x0 x1).ecc = x1.ecc ∧ (setWork x0 x1).spaces = x1.spaces ∧ (setWork x0 x1).flash = x1.flash ∧ (setWork x0 x1).fabric = x1.fabric ∧ (setWork x0 x1).embed = x1.embed ∧ (setWork x0 x1).ralid = x1.ralid ∧ (setWork x0 x1).cfl = x1.cfl ∧ (setWork x0 x1).sec = x1.sec := by
  simp [setWork]

@[simp] theorem setStage_frame (x0 : Nat) (x1 : XStage) (x2 : State) :
    (setStage x0 x1 x2).pending = x2.pending ∧ (setStage x0 x1 x2).tclk = x2.tclk ∧ (setStage x0 x1 x2).gZero = x2.gZero ∧ (setStage x0 x1 x2).drawn = x2.drawn ∧ (setStage x0 x1 x2).power = x2.power ∧ (setStage x0 x1 x2).boot = x2.boot ∧ (setStage x0 x1 x2).host = x2.host ∧ (setStage x0 x1 x2).rings = x2.rings ∧ (setStage x0 x1 x2).evt = x2.evt ∧ (setStage x0 x1 x2).mem = x2.mem ∧ (setStage x0 x1 x2).ecc = x2.ecc ∧ (setStage x0 x1 x2).spaces = x2.spaces ∧ (setStage x0 x1 x2).flash = x2.flash ∧ (setStage x0 x1 x2).fabric = x2.fabric ∧ (setStage x0 x1 x2).embed = x2.embed ∧ (setStage x0 x1 x2).ralid = x2.ralid ∧ (setStage x0 x1 x2).cfl = x2.cfl ∧ (setStage x0 x1 x2).sec = x2.sec := by
  simp [setStage]

end Sys2Proof.Machine
end

