-- ==== Sys2Proof/Laws/FramesParcels.lean ====
section
/-! SUPPORT. What each shared operation of Machine/Parcels.lean leaves as it is. -/

namespace Sys2Proof.Machine

@[simp] theorem dropParcel_frame (x0 : Nat) (x1 : State) :
    (dropParcel x0 x1).pending = x1.pending ∧ (dropParcel x0 x1).tclk = x1.tclk ∧ (dropParcel x0 x1).gZero = x1.gZero ∧ (dropParcel x0 x1).drawn = x1.drawn ∧ (dropParcel x0 x1).power = x1.power ∧ (dropParcel x0 x1).boot = x1.boot ∧ (dropParcel x0 x1).host = x1.host ∧ (dropParcel x0 x1).rings = x1.rings ∧ (dropParcel x0 x1).evt = x1.evt ∧ (dropParcel x0 x1).tensor = x1.tensor ∧ (dropParcel x0 x1).mem = x1.mem ∧ (dropParcel x0 x1).ecc = x1.ecc ∧ (dropParcel x0 x1).spaces = x1.spaces ∧ (dropParcel x0 x1).flash = x1.flash ∧ (dropParcel x0 x1).embed = x1.embed ∧ (dropParcel x0 x1).ralid = x1.ralid ∧ (dropParcel x0 x1).cfl = x1.cfl ∧ (dropParcel x0 x1).sec = x1.sec := by
  simp [dropParcel]

@[simp] theorem countUnmapped_frame (x0 : Nat) (x1 : Nat) (x2 : State) :
    (countUnmapped x0 x1 x2).pending = x2.pending ∧ (countUnmapped x0 x1 x2).tclk = x2.tclk ∧ (countUnmapped x0 x1 x2).gZero = x2.gZero ∧ (countUnmapped x0 x1 x2).drawn = x2.drawn ∧ (countUnmapped x0 x1 x2).power = x2.power ∧ (countUnmapped x0 x1 x2).boot = x2.boot ∧ (countUnmapped x0 x1 x2).host = x2.host ∧ (countUnmapped x0 x1 x2).rings = x2.rings ∧ (countUnmapped x0 x1 x2).mem = x2.mem ∧ (countUnmapped x0 x1 x2).ecc = x2.ecc ∧ (countUnmapped x0 x1 x2).spaces = x2.spaces ∧ (countUnmapped x0 x1 x2).flash = x2.flash ∧ (countUnmapped x0 x1 x2).fabric = x2.fabric ∧ (countUnmapped x0 x1 x2).embed = x2.embed ∧ (countUnmapped x0 x1 x2).ralid = x2.ralid ∧ (countUnmapped x0 x1 x2).cfl = x2.cfl ∧ (countUnmapped x0 x1 x2).sec = x2.sec := by
  unfold countUnmapped; dsimp only; (repeat' split) <;> simp

@[simp] theorem refuse_frame (x0 : Nat) (x1 : Parcel) (x2 : Nat) (x3 : State) :
    (refuse x0 x1 x2 x3).pending = x3.pending ∧ (refuse x0 x1 x2 x3).tclk = x3.tclk ∧ (refuse x0 x1 x2 x3).gZero = x3.gZero ∧ (refuse x0 x1 x2 x3).drawn = x3.drawn ∧ (refuse x0 x1 x2 x3).power = x3.power ∧ (refuse x0 x1 x2 x3).boot = x3.boot ∧ (refuse x0 x1 x2 x3).host = x3.host ∧ (refuse x0 x1 x2 x3).rings = x3.rings ∧ (refuse x0 x1 x2 x3).evt = x3.evt ∧ (refuse x0 x1 x2 x3).tensor = x3.tensor ∧ (refuse x0 x1 x2 x3).mem = x3.mem ∧ (refuse x0 x1 x2 x3).ecc = x3.ecc ∧ (refuse x0 x1 x2 x3).spaces = x3.spaces ∧ (refuse x0 x1 x2 x3).flash = x3.flash ∧ (refuse x0 x1 x2 x3).embed = x3.embed ∧ (refuse x0 x1 x2 x3).ralid = x3.ralid ∧ (refuse x0 x1 x2 x3).cfl = x3.cfl ∧ (refuse x0 x1 x2 x3).sec = x3.sec := by
  simp [refuse]

@[simp] theorem dataRequest_pending (x0 : Nat) (x1 : Parcel) (x2 : Bool) (x3 : Bool) (x4 : Nat) (x5 : Nat → Job → State → State) (x6 : State) (h : ∀ y0 y1 y2, (x5 y0 y1 y2).pending = y2.pending) :
    (dataRequest x0 x1 x2 x3 x4 x5 x6).pending = x6.pending := by
  unfold dataRequest; (repeat' split) <;> simp [h]

@[simp] theorem dataRequest_tclk (x0 : Nat) (x1 : Parcel) (x2 : Bool) (x3 : Bool) (x4 : Nat) (x5 : Nat → Job → State → State) (x6 : State) (h : ∀ y0 y1 y2, (x5 y0 y1 y2).tclk = y2.tclk) :
    (dataRequest x0 x1 x2 x3 x4 x5 x6).tclk = x6.tclk := by
  unfold dataRequest; (repeat' split) <;> simp [h]

@[simp] theorem dataRequest_gZero (x0 : Nat) (x1 : Parcel) (x2 : Bool) (x3 : Bool) (x4 : Nat) (x5 : Nat → Job → State → State) (x6 : State) (h : ∀ y0 y1 y2, (x5 y0 y1 y2).gZero = y2.gZero) :
    (dataRequest x0 x1 x2 x3 x4 x5 x6).gZero = x6.gZero := by
  unfold dataRequest; (repeat' split) <;> simp [h]

@[simp] theorem dataRequest_power (x0 : Nat) (x1 : Parcel) (x2 : Bool) (x3 : Bool) (x4 : Nat) (x5 : Nat → Job → State → State) (x6 : State) (h : ∀ y0 y1 y2, (x5 y0 y1 y2).power = y2.power) :
    (dataRequest x0 x1 x2 x3 x4 x5 x6).power = x6.power := by
  unfold dataRequest; (repeat' split) <;> simp [h]

@[simp] theorem dataRequest_boot (x0 : Nat) (x1 : Parcel) (x2 : Bool) (x3 : Bool) (x4 : Nat) (x5 : Nat → Job → State → State) (x6 : State) (h : ∀ y0 y1 y2, (x5 y0 y1 y2).boot = y2.boot) :
    (dataRequest x0 x1 x2 x3 x4 x5 x6).boot = x6.boot := by
  unfold dataRequest; (repeat' split) <;> simp [h]

@[simp] theorem dataRequest_ecc (x0 : Nat) (x1 : Parcel) (x2 : Bool) (x3 : Bool) (x4 : Nat) (x5 : Nat → Job → State → State) (x6 : State) (h : ∀ y0 y1 y2, (x5 y0 y1 y2).ecc = y2.ecc) :
    (dataRequest x0 x1 x2 x3 x4 x5 x6).ecc = x6.ecc := by
  unfold dataRequest; (repeat' split) <;> simp [h]

@[simp] theorem dataRequest_spaces (x0 : Nat) (x1 : Parcel) (x2 : Bool) (x3 : Bool) (x4 : Nat) (x5 : Nat → Job → State → State) (x6 : State) (h : ∀ y0 y1 y2, (x5 y0 y1 y2).spaces = y2.spaces) :
    (dataRequest x0 x1 x2 x3 x4 x5 x6).spaces = x6.spaces := by
  unfold dataRequest; (repeat' split) <;> simp [h]

@[simp] theorem dataRequest_ralid (x0 : Nat) (x1 : Parcel) (x2 : Bool) (x3 : Bool) (x4 : Nat) (x5 : Nat → Job → State → State) (x6 : State) (h : ∀ y0 y1 y2, (x5 y0 y1 y2).ralid = y2.ralid) :
    (dataRequest x0 x1 x2 x3 x4 x5 x6).ralid = x6.ralid := by
  unfold dataRequest; (repeat' split) <;> simp [h]

@[simp] theorem dataRequest_cfl (x0 : Nat) (x1 : Parcel) (x2 : Bool) (x3 : Bool) (x4 : Nat) (x5 : Nat → Job → State → State) (x6 : State) (h : ∀ y0 y1 y2, (x5 y0 y1 y2).cfl = y2.cfl) :
    (dataRequest x0 x1 x2 x3 x4 x5 x6).cfl = x6.cfl := by
  unfold dataRequest; (repeat' split) <;> simp [h]

@[simp] theorem dataRequest_sec (x0 : Nat) (x1 : Parcel) (x2 : Bool) (x3 : Bool) (x4 : Nat) (x5 : Nat → Job → State → State) (x6 : State) (h : ∀ y0 y1 y2, (x5 y0 y1 y2).sec = y2.sec) :
    (dataRequest x0 x1 x2 x3 x4 x5 x6).sec = x6.sec := by
  unfold dataRequest; (repeat' split) <;> simp [h]

@[simp] theorem countLanded_frame (x0 : Nat) (x1 : Nat) (x2 : State) :
    (countLanded x0 x1 x2).pending = x2.pending ∧ (countLanded x0 x1 x2).tclk = x2.tclk ∧ (countLanded x0 x1 x2).gZero = x2.gZero ∧ (countLanded x0 x1 x2).drawn = x2.drawn ∧ (countLanded x0 x1 x2).power = x2.power ∧ (countLanded x0 x1 x2).boot = x2.boot ∧ (countLanded x0 x1 x2).host = x2.host ∧ (countLanded x0 x1 x2).rings = x2.rings ∧ (countLanded x0 x1 x2).evt = x2.evt ∧ (countLanded x0 x1 x2).mem = x2.mem ∧ (countLanded x0 x1 x2).ecc = x2.ecc ∧ (countLanded x0 x1 x2).spaces = x2.spaces ∧ (countLanded x0 x1 x2).flash = x2.flash ∧ (countLanded x0 x1 x2).fabric = x2.fabric ∧ (countLanded x0 x1 x2).embed = x2.embed ∧ (countLanded x0 x1 x2).ralid = x2.ralid ∧ (countLanded x0 x1 x2).cfl = x2.cfl ∧ (countLanded x0 x1 x2).sec = x2.sec := by
  simp [countLanded]

@[simp] theorem dropFlag_frame (x0 : Nat) (x1 : Job) (x2 : State) :
    (dropFlag x0 x1 x2).pending = x2.pending ∧ (dropFlag x0 x1 x2).tclk = x2.tclk ∧ (dropFlag x0 x1 x2).gZero = x2.gZero ∧ (dropFlag x0 x1 x2).drawn = x2.drawn ∧ (dropFlag x0 x1 x2).power = x2.power ∧ (dropFlag x0 x1 x2).boot = x2.boot ∧ (dropFlag x0 x1 x2).host = x2.host ∧ (dropFlag x0 x1 x2).rings = x2.rings ∧ (dropFlag x0 x1 x2).evt = x2.evt ∧ (dropFlag x0 x1 x2).ecc = x2.ecc ∧ (dropFlag x0 x1 x2).spaces = x2.spaces ∧ (dropFlag x0 x1 x2).flash = x2.flash ∧ (dropFlag x0 x1 x2).fabric = x2.fabric ∧ (dropFlag x0 x1 x2).embed = x2.embed ∧ (dropFlag x0 x1 x2).ralid = x2.ralid ∧ (dropFlag x0 x1 x2).cfl = x2.cfl ∧ (dropFlag x0 x1 x2).sec = x2.sec := by
  unfold dropFlag; split <;> simp

@[simp] theorem reduceFault_frame (x0 : Reduction) (x1 : Nat) (x2 : State) :
    (reduceFault x0 x1 x2).pending = x2.pending ∧ (reduceFault x0 x1 x2).tclk = x2.tclk ∧ (reduceFault x0 x1 x2).gZero = x2.gZero ∧ (reduceFault x0 x1 x2).power = x2.power ∧ (reduceFault x0 x1 x2).boot = x2.boot ∧ (reduceFault x0 x1 x2).ecc = x2.ecc ∧ (reduceFault x0 x1 x2).spaces = x2.spaces ∧ (reduceFault x0 x1 x2).ralid = x2.ralid ∧ (reduceFault x0 x1 x2).cfl = x2.cfl ∧ (reduceFault x0 x1 x2).sec = x2.sec := by
  simp [reduceFault]

@[simp] theorem reduceProgress_frame (x0 : Reduction) (x1 : State) :
    (reduceProgress x0 x1).pending = x1.pending ∧ (reduceProgress x0 x1).tclk = x1.tclk ∧ (reduceProgress x0 x1).gZero = x1.gZero ∧ (reduceProgress x0 x1).drawn = x1.drawn ∧ (reduceProgress x0 x1).power = x1.power ∧ (reduceProgress x0 x1).boot = x1.boot ∧ (reduceProgress x0 x1).host = x1.host ∧ (reduceProgress x0 x1).rings = x1.rings ∧ (reduceProgress x0 x1).evt = x1.evt ∧ (reduceProgress x0 x1).mem = x1.mem ∧ (reduceProgress x0 x1).ecc = x1.ecc ∧ (reduceProgress x0 x1).spaces = x1.spaces ∧ (reduceProgress x0 x1).flash = x1.flash ∧ (reduceProgress x0 x1).fabric = x1.fabric ∧ (reduceProgress x0 x1).embed = x1.embed ∧ (reduceProgress x0 x1).ralid = x1.ralid ∧ (reduceProgress x0 x1).cfl = x1.cfl ∧ (reduceProgress x0 x1).sec = x1.sec := by
  unfold reduceProgress; (repeat' split) <;> simp

@[simp] theorem finishSegment_frame (x0 : Nat) (x1 : Reduction) (x2 : Nat) (x3 : List W64) (x4 : State) :
    (finishSegment x0 x1 x2 x3 x4).pending = x4.pending ∧ (finishSegment x0 x1 x2 x3 x4).tclk = x4.tclk ∧ (finishSegment x0 x1 x2 x3 x4).gZero = x4.gZero ∧ (finishSegment x0 x1 x2 x3 x4).drawn = x4.drawn ∧ (finishSegment x0 x1 x2 x3 x4).power = x4.power ∧ (finishSegment x0 x1 x2 x3 x4).boot = x4.boot ∧ (finishSegment x0 x1 x2 x3 x4).host = x4.host ∧ (finishSegment x0 x1 x2 x3 x4).rings = x4.rings ∧ (finishSegment x0 x1 x2 x3 x4).evt = x4.evt ∧ (finishSegment x0 x1 x2 x3 x4).ecc = x4.ecc ∧ (finishSegment x0 x1 x2 x3 x4).spaces = x4.spaces ∧ (finishSegment x0 x1 x2 x3 x4).flash = x4.flash ∧ (finishSegment x0 x1 x2 x3 x4).embed = x4.embed ∧ (finishSegment x0 x1 x2 x3 x4).ralid = x4.ralid ∧ (finishSegment x0 x1 x2 x3 x4).cfl = x4.cfl ∧ (finishSegment x0 x1 x2 x3 x4).sec = x4.sec := by
  unfold finishSegment; split <;> simp

@[simp] theorem endRequest_frame (x0 : Nat) (x1 : State) :
    (endRequest x0 x1).pending = x1.pending ∧ (endRequest x0 x1).tclk = x1.tclk ∧ (endRequest x0 x1).gZero = x1.gZero ∧ (endRequest x0 x1).drawn = x1.drawn ∧ (endRequest x0 x1).power = x1.power ∧ (endRequest x0 x1).boot = x1.boot ∧ (endRequest x0 x1).host = x1.host ∧ (endRequest x0 x1).rings = x1.rings ∧ (endRequest x0 x1).evt = x1.evt ∧ (endRequest x0 x1).tensor = x1.tensor ∧ (endRequest x0 x1).mem = x1.mem ∧ (endRequest x0 x1).ecc = x1.ecc ∧ (endRequest x0 x1).spaces = x1.spaces ∧ (endRequest x0 x1).flash = x1.flash ∧ (endRequest x0 x1).embed = x1.embed ∧ (endRequest x0 x1).ralid = x1.ralid ∧ (endRequest x0 x1).cfl = x1.cfl ∧ (endRequest x0 x1).sec = x1.sec := by
  simp [endRequest]

@[simp] theorem requestOk_frame (x0 : FabReq) (x1 : State) :
    (requestOk x0 x1).pending = x1.pending ∧ (requestOk x0 x1).tclk = x1.tclk ∧ (requestOk x0 x1).gZero = x1.gZero ∧ (requestOk x0 x1).drawn = x1.drawn ∧ (requestOk x0 x1).power = x1.power ∧ (requestOk x0 x1).boot = x1.boot ∧ (requestOk x0 x1).host = x1.host ∧ (requestOk x0 x1).rings = x1.rings ∧ (requestOk x0 x1).evt = x1.evt ∧ (requestOk x0 x1).mem = x1.mem ∧ (requestOk x0 x1).ecc = x1.ecc ∧ (requestOk x0 x1).spaces = x1.spaces ∧ (requestOk x0 x1).flash = x1.flash ∧ (requestOk x0 x1).fabric = x1.fabric ∧ (requestOk x0 x1).embed = x1.embed ∧ (requestOk x0 x1).ralid = x1.ralid ∧ (requestOk x0 x1).cfl = x1.cfl ∧ (requestOk x0 x1).sec = x1.sec := by
  unfold requestOk; split <;> simp

@[simp] theorem requestFailed_frame (x0 : FabReq) (x1 : Nat) (x2 : State) :
    (requestFailed x0 x1 x2).pending = x2.pending ∧ (requestFailed x0 x1 x2).tclk = x2.tclk ∧ (requestFailed x0 x1 x2).gZero = x2.gZero ∧ (requestFailed x0 x1 x2).power = x2.power ∧ (requestFailed x0 x1 x2).boot = x2.boot ∧ (requestFailed x0 x1 x2).ecc = x2.ecc ∧ (requestFailed x0 x1 x2).spaces = x2.spaces ∧ (requestFailed x0 x1 x2).ralid = x2.ralid ∧ (requestFailed x0 x1 x2).cfl = x2.cfl ∧ (requestFailed x0 x1 x2).sec = x2.sec := by
  unfold requestFailed; (repeat' split) <;> simp

@[simp] theorem respond_frame (x0 : Nat) (x1 : FabReq) (x2 : Nat) (x3 : State) :
    (respond x0 x1 x2 x3).pending = x3.pending ∧ (respond x0 x1 x2 x3).tclk = x3.tclk ∧ (respond x0 x1 x2 x3).gZero = x3.gZero ∧ (respond x0 x1 x2 x3).power = x3.power ∧ (respond x0 x1 x2 x3).boot = x3.boot ∧ (respond x0 x1 x2 x3).ecc = x3.ecc ∧ (respond x0 x1 x2 x3).spaces = x3.spaces ∧ (respond x0 x1 x2 x3).ralid = x3.ralid ∧ (respond x0 x1 x2 x3).cfl = x3.cfl ∧ (respond x0 x1 x2 x3).sec = x3.sec := by
  simp [respond]

end Sys2Proof.Machine
end

