-- ==== Sys2Proof/Laws/FramesRalidOps.lean ====
section
/-! SUPPORT. What each shared operation of Machine/RalidOps.lean leaves as it is. -/

namespace Sys2Proof.Machine

@[simp] theorem setRalid_frame (x0 : Ralid) (x1 : State) :
    (setRalid x0 x1).pending = x1.pending ∧ (setRalid x0 x1).tclk = x1.tclk ∧ (setRalid x0 x1).gZero = x1.gZero ∧ (setRalid x0 x1).drawn = x1.drawn ∧ (setRalid x0 x1).power = x1.power ∧ (setRalid x0 x1).boot = x1.boot ∧ (setRalid x0 x1).host = x1.host ∧ (setRalid x0 x1).rings = x1.rings ∧ (setRalid x0 x1).evt = x1.evt ∧ (setRalid x0 x1).tensor = x1.tensor ∧ (setRalid x0 x1).mem = x1.mem ∧ (setRalid x0 x1).ecc = x1.ecc ∧ (setRalid x0 x1).spaces = x1.spaces ∧ (setRalid x0 x1).flash = x1.flash ∧ (setRalid x0 x1).fabric = x1.fabric ∧ (setRalid x0 x1).embed = x1.embed ∧ (setRalid x0 x1).cfl = x1.cfl ∧ (setRalid x0 x1).sec = x1.sec := by
  simp [setRalid]

@[simp] theorem putRecord_frame (x0 : Nat) (x1 : Nat) (x2 : State) :
    (putRecord x0 x1 x2).pending = x2.pending ∧ (putRecord x0 x1 x2).tclk = x2.tclk ∧ (putRecord x0 x1 x2).gZero = x2.gZero ∧ (putRecord x0 x1 x2).drawn = x2.drawn ∧ (putRecord x0 x1 x2).power = x2.power ∧ (putRecord x0 x1 x2).boot = x2.boot ∧ (putRecord x0 x1 x2).host = x2.host ∧ (putRecord x0 x1 x2).rings = x2.rings ∧ (putRecord x0 x1 x2).evt = x2.evt ∧ (putRecord x0 x1 x2).tensor = x2.tensor ∧ (putRecord x0 x1 x2).ecc = x2.ecc ∧ (putRecord x0 x1 x2).spaces = x2.spaces ∧ (putRecord x0 x1 x2).flash = x2.flash ∧ (putRecord x0 x1 x2).fabric = x2.fabric ∧ (putRecord x0 x1 x2).embed = x2.embed ∧ (putRecord x0 x1 x2).ralid = x2.ralid ∧ (putRecord x0 x1 x2).cfl = x2.cfl ∧ (putRecord x0 x1 x2).sec = x2.sec := by
  simp [putRecord]

@[simp] theorem sendResult_frame (x0 : Nat) (x1 : Nat) (x2 : List Byte) (x3 : State) :
    (sendResult x0 x1 x2 x3).pending = x3.pending ∧ (sendResult x0 x1 x2 x3).tclk = x3.tclk ∧ (sendResult x0 x1 x2 x3).gZero = x3.gZero ∧ (sendResult x0 x1 x2 x3).drawn = x3.drawn ∧ (sendResult x0 x1 x2 x3).power = x3.power ∧ (sendResult x0 x1 x2 x3).boot = x3.boot ∧ (sendResult x0 x1 x2 x3).host = x3.host ∧ (sendResult x0 x1 x2 x3).rings = x3.rings ∧ (sendResult x0 x1 x2 x3).evt = x3.evt ∧ (sendResult x0 x1 x2 x3).tensor = x3.tensor ∧ (sendResult x0 x1 x2 x3).mem = x3.mem ∧ (sendResult x0 x1 x2 x3).ecc = x3.ecc ∧ (sendResult x0 x1 x2 x3).spaces = x3.spaces ∧ (sendResult x0 x1 x2 x3).flash = x3.flash ∧ (sendResult x0 x1 x2 x3).embed = x3.embed ∧ (sendResult x0 x1 x2 x3).ralid = x3.ralid ∧ (sendResult x0 x1 x2 x3).cfl = x3.cfl ∧ (sendResult x0 x1 x2 x3).sec = x3.sec := by
  simp [sendResult]

@[simp] theorem dropReads_frame (x0 : Nat) (x1 : State) :
    (dropReads x0 x1).pending = x1.pending ∧ (dropReads x0 x1).tclk = x1.tclk ∧ (dropReads x0 x1).gZero = x1.gZero ∧ (dropReads x0 x1).drawn = x1.drawn ∧ (dropReads x0 x1).power = x1.power ∧ (dropReads x0 x1).boot = x1.boot ∧ (dropReads x0 x1).host = x1.host ∧ (dropReads x0 x1).rings = x1.rings ∧ (dropReads x0 x1).evt = x1.evt ∧ (dropReads x0 x1).tensor = x1.tensor ∧ (dropReads x0 x1).ecc = x1.ecc ∧ (dropReads x0 x1).spaces = x1.spaces ∧ (dropReads x0 x1).flash = x1.flash ∧ (dropReads x0 x1).fabric = x1.fabric ∧ (dropReads x0 x1).embed = x1.embed ∧ (dropReads x0 x1).ralid = x1.ralid ∧ (dropReads x0 x1).cfl = x1.cfl ∧ (dropReads x0 x1).sec = x1.sec := by
  simp [dropReads]

@[simp] theorem endQuery_frame (x0 : Nat) (x1 : Nat) (x2 : List Hit) (x3 : State) :
    (endQuery x0 x1 x2 x3).pending = x3.pending ∧ (endQuery x0 x1 x2 x3).tclk = x3.tclk ∧ (endQuery x0 x1 x2 x3).gZero = x3.gZero ∧ (endQuery x0 x1 x2 x3).power = x3.power ∧ (endQuery x0 x1 x2 x3).boot = x3.boot ∧ (endQuery x0 x1 x2 x3).tensor = x3.tensor ∧ (endQuery x0 x1 x2 x3).ecc = x3.ecc ∧ (endQuery x0 x1 x2 x3).spaces = x3.spaces ∧ (endQuery x0 x1 x2 x3).flash = x3.flash ∧ (endQuery x0 x1 x2 x3).embed = x3.embed ∧ (endQuery x0 x1 x2 x3).cfl = x3.cfl ∧ (endQuery x0 x1 x2 x3).sec = x3.sec := by
  unfold endQuery; (repeat' split) <;> simp

@[simp] theorem finishQuery_frame (x0 : Nat) (x1 : State) :
    (finishQuery x0 x1).pending = x1.pending ∧ (finishQuery x0 x1).tclk = x1.tclk ∧ (finishQuery x0 x1).gZero = x1.gZero ∧ (finishQuery x0 x1).power = x1.power ∧ (finishQuery x0 x1).boot = x1.boot ∧ (finishQuery x0 x1).tensor = x1.tensor ∧ (finishQuery x0 x1).ecc = x1.ecc ∧ (finishQuery x0 x1).spaces = x1.spaces ∧ (finishQuery x0 x1).flash = x1.flash ∧ (finishQuery x0 x1).embed = x1.embed ∧ (finishQuery x0 x1).cfl = x1.cfl ∧ (finishQuery x0 x1).sec = x1.sec := by
  unfold finishQuery; split <;> simp

@[simp] theorem takeList_frame (x0 : Nat) (x1 : ShardList) (x2 : State) :
    (takeList x0 x1 x2).pending = x2.pending ∧ (takeList x0 x1 x2).tclk = x2.tclk ∧ (takeList x0 x1 x2).gZero = x2.gZero ∧ (takeList x0 x1 x2).power = x2.power ∧ (takeList x0 x1 x2).boot = x2.boot ∧ (takeList x0 x1 x2).tensor = x2.tensor ∧ (takeList x0 x1 x2).ecc = x2.ecc ∧ (takeList x0 x1 x2).spaces = x2.spaces ∧ (takeList x0 x1 x2).flash = x2.flash ∧ (takeList x0 x1 x2).embed = x2.embed ∧ (takeList x0 x1 x2).cfl = x2.cfl ∧ (takeList x0 x1 x2).sec = x2.sec := by
  unfold takeList; split <;> simp

@[simp] theorem shardMissing_frame (x0 : Nat) (x1 : Nat) (x2 : State) :
    (shardMissing x0 x1 x2).pending = x2.pending ∧ (shardMissing x0 x1 x2).tclk = x2.tclk ∧ (shardMissing x0 x1 x2).gZero = x2.gZero ∧ (shardMissing x0 x1 x2).power = x2.power ∧ (shardMissing x0 x1 x2).boot = x2.boot ∧ (shardMissing x0 x1 x2).tensor = x2.tensor ∧ (shardMissing x0 x1 x2).ecc = x2.ecc ∧ (shardMissing x0 x1 x2).spaces = x2.spaces ∧ (shardMissing x0 x1 x2).flash = x2.flash ∧ (shardMissing x0 x1 x2).embed = x2.embed ∧ (shardMissing x0 x1 x2).cfl = x2.cfl ∧ (shardMissing x0 x1 x2).sec = x2.sec := by
  unfold shardMissing; split <;> simp

@[simp] theorem ownList_frame (x0 : Nat) (x1 : Nat) (x2 : List Hit) (x3 : Nat) (x4 : Nat) (x5 : State) :
    (ownList x0 x1 x2 x3 x4 x5).pending = x5.pending ∧ (ownList x0 x1 x2 x3 x4 x5).tclk = x5.tclk ∧ (ownList x0 x1 x2 x3 x4 x5).gZero = x5.gZero ∧ (ownList x0 x1 x2 x3 x4 x5).power = x5.power ∧ (ownList x0 x1 x2 x3 x4 x5).boot = x5.boot ∧ (ownList x0 x1 x2 x3 x4 x5).tensor = x5.tensor ∧ (ownList x0 x1 x2 x3 x4 x5).ecc = x5.ecc ∧ (ownList x0 x1 x2 x3 x4 x5).spaces = x5.spaces ∧ (ownList x0 x1 x2 x3 x4 x5).flash = x5.flash ∧ (ownList x0 x1 x2 x3 x4 x5).embed = x5.embed ∧ (ownList x0 x1 x2 x3 x4 x5).cfl = x5.cfl ∧ (ownList x0 x1 x2 x3 x4 x5).sec = x5.sec := by
  unfold ownList; (repeat' split) <;> simp

@[simp] theorem readVector_frame (x0 : RalIndex) (x1 : Nat) (x2 : Nat) (x3 : State) :
    (readVector x0 x1 x2 x3).2.pending = x3.pending ∧ (readVector x0 x1 x2 x3).2.tclk = x3.tclk ∧ (readVector x0 x1 x2 x3).2.gZero = x3.gZero ∧ (readVector x0 x1 x2 x3).2.drawn = x3.drawn ∧ (readVector x0 x1 x2 x3).2.power = x3.power ∧ (readVector x0 x1 x2 x3).2.boot = x3.boot ∧ (readVector x0 x1 x2 x3).2.rings = x3.rings ∧ (readVector x0 x1 x2 x3).2.tensor = x3.tensor ∧ (readVector x0 x1 x2 x3).2.mem = x3.mem ∧ (readVector x0 x1 x2 x3).2.spaces = x3.spaces ∧ (readVector x0 x1 x2 x3).2.flash = x3.flash ∧ (readVector x0 x1 x2 x3).2.fabric = x3.fabric ∧ (readVector x0 x1 x2 x3).2.embed = x3.embed ∧ (readVector x0 x1 x2 x3).2.ralid = x3.ralid ∧ (readVector x0 x1 x2 x3).2.cfl = x3.cfl ∧ (readVector x0 x1 x2 x3).2.sec = x3.sec := by
  unfold readVector; split <;> simp

@[simp] theorem rankQuery_frame (x0 : Nat) (x1 : State) :
    (rankQuery x0 x1).pending = x1.pending ∧ (rankQuery x0 x1).tclk = x1.tclk ∧ (rankQuery x0 x1).gZero = x1.gZero ∧ (rankQuery x0 x1).power = x1.power ∧ (rankQuery x0 x1).boot = x1.boot ∧ (rankQuery x0 x1).tensor = x1.tensor ∧ (rankQuery x0 x1).ecc = x1.ecc ∧ (rankQuery x0 x1).spaces = x1.spaces ∧ (rankQuery x0 x1).flash = x1.flash ∧ (rankQuery x0 x1).embed = x1.embed ∧ (rankQuery x0 x1).cfl = x1.cfl ∧ (rankQuery x0 x1).sec = x1.sec := by
  unfold rankQuery; split <;> simp

@[simp] theorem maybeRank_frame (x0 : Nat) (x1 : State) :
    (maybeRank x0 x1).pending = x1.pending ∧ (maybeRank x0 x1).tclk = x1.tclk ∧ (maybeRank x0 x1).gZero = x1.gZero ∧ (maybeRank x0 x1).power = x1.power ∧ (maybeRank x0 x1).boot = x1.boot ∧ (maybeRank x0 x1).tensor = x1.tensor ∧ (maybeRank x0 x1).ecc = x1.ecc ∧ (maybeRank x0 x1).spaces = x1.spaces ∧ (maybeRank x0 x1).flash = x1.flash ∧ (maybeRank x0 x1).embed = x1.embed ∧ (maybeRank x0 x1).cfl = x1.cfl ∧ (maybeRank x0 x1).sec = x1.sec := by
  unfold maybeRank; split <;> simp

@[simp] theorem readReturned_frame (x0 : Nat) (x1 : Nat) (x2 : RankState) (x3 : State) :
    (readReturned x0 x1 x2 x3).pending = x3.pending ∧ (readReturned x0 x1 x2 x3).tclk = x3.tclk ∧ (readReturned x0 x1 x2 x3).gZero = x3.gZero ∧ (readReturned x0 x1 x2 x3).power = x3.power ∧ (readReturned x0 x1 x2 x3).boot = x3.boot ∧ (readReturned x0 x1 x2 x3).tensor = x3.tensor ∧ (readReturned x0 x1 x2 x3).ecc = x3.ecc ∧ (readReturned x0 x1 x2 x3).spaces = x3.spaces ∧ (readReturned x0 x1 x2 x3).flash = x3.flash ∧ (readReturned x0 x1 x2 x3).embed = x3.embed ∧ (readReturned x0 x1 x2 x3).cfl = x3.cfl ∧ (readReturned x0 x1 x2 x3).sec = x3.sec := by
  unfold readReturned; split <;> simp

@[simp] theorem refuseQuery_frame (x0 : Nat) (x1 : Nat) (x2 : State) :
    (refuseQuery x0 x1 x2).pending = x2.pending ∧ (refuseQuery x0 x1 x2).tclk = x2.tclk ∧ (refuseQuery x0 x1 x2).gZero = x2.gZero ∧ (refuseQuery x0 x1 x2).power = x2.power ∧ (refuseQuery x0 x1 x2).boot = x2.boot ∧ (refuseQuery x0 x1 x2).tensor = x2.tensor ∧ (refuseQuery x0 x1 x2).ecc = x2.ecc ∧ (refuseQuery x0 x1 x2).spaces = x2.spaces ∧ (refuseQuery x0 x1 x2).flash = x2.flash ∧ (refuseQuery x0 x1 x2).embed = x2.embed ∧ (refuseQuery x0 x1 x2).cfl = x2.cfl ∧ (refuseQuery x0 x1 x2).sec = x2.sec := by
  unfold refuseQuery; (repeat' split) <;> simp

@[simp] theorem detachIndex_frame (x0 : State) :
    (detachIndex x0).pending = x0.pending ∧ (detachIndex x0).tclk = x0.tclk ∧ (detachIndex x0).gZero = x0.gZero ∧ (detachIndex x0).drawn = x0.drawn ∧ (detachIndex x0).power = x0.power ∧ (detachIndex x0).boot = x0.boot ∧ (detachIndex x0).host = x0.host ∧ (detachIndex x0).rings = x0.rings ∧ (detachIndex x0).evt = x0.evt ∧ (detachIndex x0).tensor = x0.tensor ∧ (detachIndex x0).mem = x0.mem ∧ (detachIndex x0).ecc = x0.ecc ∧ (detachIndex x0).spaces = x0.spaces ∧ (detachIndex x0).flash = x0.flash ∧ (detachIndex x0).fabric = x0.fabric ∧ (detachIndex x0).embed = x0.embed ∧ (detachIndex x0).cfl = x0.cfl ∧ (detachIndex x0).sec = x0.sec := by
  simp [detachIndex]

@[simp] theorem resetRalid_frame (x0 : Bool) (x1 : State) :
    (resetRalid x0 x1).pending = x1.pending ∧ (resetRalid x0 x1).tclk = x1.tclk ∧ (resetRalid x0 x1).gZero = x1.gZero ∧ (resetRalid x0 x1).drawn = x1.drawn ∧ (resetRalid x0 x1).power = x1.power ∧ (resetRalid x0 x1).boot = x1.boot ∧ (resetRalid x0 x1).host = x1.host ∧ (resetRalid x0 x1).rings = x1.rings ∧ (resetRalid x0 x1).evt = x1.evt ∧ (resetRalid x0 x1).tensor = x1.tensor ∧ (resetRalid x0 x1).mem = x1.mem ∧ (resetRalid x0 x1).ecc = x1.ecc ∧ (resetRalid x0 x1).spaces = x1.spaces ∧ (resetRalid x0 x1).flash = x1.flash ∧ (resetRalid x0 x1).fabric = x1.fabric ∧ (resetRalid x0 x1).embed = x1.embed ∧ (resetRalid x0 x1).cfl = x1.cfl ∧ (resetRalid x0 x1).sec = x1.sec := by
  simp [resetRalid]

end Sys2Proof.Machine
end

