-- ==== Sys2Proof/Laws/FramesRalid.lean ====
section
/-! SUPPORT. What each shared operation of Machine/Ralid.lean leaves as it is. -/

namespace Sys2Proof.Machine

@[simp] theorem modQuery_frame (x0 : Nat) (x1 : Query → Query) (x2 : State) :
    (modQuery x0 x1 x2).pending = x2.pending ∧ (modQuery x0 x1 x2).tclk = x2.tclk ∧ (modQuery x0 x1 x2).gZero = x2.gZero ∧ (modQuery x0 x1 x2).drawn = x2.drawn ∧ (modQuery x0 x1 x2).power = x2.power ∧ (modQuery x0 x1 x2).boot = x2.boot ∧ (modQuery x0 x1 x2).host = x2.host ∧ (modQuery x0 x1 x2).rings = x2.rings ∧ (modQuery x0 x1 x2).evt = x2.evt ∧ (modQuery x0 x1 x2).tensor = x2.tensor ∧ (modQuery x0 x1 x2).mem = x2.mem ∧ (modQuery x0 x1 x2).ecc = x2.ecc ∧ (modQuery x0 x1 x2).spaces = x2.spaces ∧ (modQuery x0 x1 x2).flash = x2.flash ∧ (modQuery x0 x1 x2).fabric = x2.fabric ∧ (modQuery x0 x1 x2).embed = x2.embed ∧ (modQuery x0 x1 x2).cfl = x2.cfl ∧ (modQuery x0 x1 x2).sec = x2.sec := by
  simp [modQuery]

@[simp] theorem addQuery_frame (x0 : Query) (x1 : State) :
    (addQuery x0 x1).pending = x1.pending ∧ (addQuery x0 x1).tclk = x1.tclk ∧ (addQuery x0 x1).gZero = x1.gZero ∧ (addQuery x0 x1).drawn = x1.drawn ∧ (addQuery x0 x1).power = x1.power ∧ (addQuery x0 x1).boot = x1.boot ∧ (addQuery x0 x1).host = x1.host ∧ (addQuery x0 x1).rings = x1.rings ∧ (addQuery x0 x1).evt = x1.evt ∧ (addQuery x0 x1).tensor = x1.tensor ∧ (addQuery x0 x1).mem = x1.mem ∧ (addQuery x0 x1).ecc = x1.ecc ∧ (addQuery x0 x1).spaces = x1.spaces ∧ (addQuery x0 x1).flash = x1.flash ∧ (addQuery x0 x1).fabric = x1.fabric ∧ (addQuery x0 x1).embed = x1.embed ∧ (addQuery x0 x1).cfl = x1.cfl ∧ (addQuery x0 x1).sec = x1.sec := by
  simp [addQuery]

@[simp] theorem sendQuery_frame (x0 : Nat) (x1 : Nat) (x2 : List Byte) (x3 : State) :
    (sendQuery x0 x1 x2 x3).pending = x3.pending ∧ (sendQuery x0 x1 x2 x3).tclk = x3.tclk ∧ (sendQuery x0 x1 x2 x3).gZero = x3.gZero ∧ (sendQuery x0 x1 x2 x3).drawn = x3.drawn ∧ (sendQuery x0 x1 x2 x3).power = x3.power ∧ (sendQuery x0 x1 x2 x3).boot = x3.boot ∧ (sendQuery x0 x1 x2 x3).host = x3.host ∧ (sendQuery x0 x1 x2 x3).rings = x3.rings ∧ (sendQuery x0 x1 x2 x3).evt = x3.evt ∧ (sendQuery x0 x1 x2 x3).tensor = x3.tensor ∧ (sendQuery x0 x1 x2 x3).mem = x3.mem ∧ (sendQuery x0 x1 x2 x3).ecc = x3.ecc ∧ (sendQuery x0 x1 x2 x3).spaces = x3.spaces ∧ (sendQuery x0 x1 x2 x3).flash = x3.flash ∧ (sendQuery x0 x1 x2 x3).embed = x3.embed ∧ (sendQuery x0 x1 x2 x3).ralid = x3.ralid ∧ (sendQuery x0 x1 x2 x3).cfl = x3.cfl ∧ (sendQuery x0 x1 x2 x3).sec = x3.sec := by
  simp [sendQuery]

@[simp] theorem setInsertWaits_frame (x0 : Nat) (x1 : Bool) (x2 : State) :
    (setInsertWaits x0 x1 x2).pending = x2.pending ∧ (setInsertWaits x0 x1 x2).tclk = x2.tclk ∧ (setInsertWaits x0 x1 x2).gZero = x2.gZero ∧ (setInsertWaits x0 x1 x2).drawn = x2.drawn ∧ (setInsertWaits x0 x1 x2).power = x2.power ∧ (setInsertWaits x0 x1 x2).boot = x2.boot ∧ (setInsertWaits x0 x1 x2).host = x2.host ∧ (setInsertWaits x0 x1 x2).evt = x2.evt ∧ (setInsertWaits x0 x1 x2).tensor = x2.tensor ∧ (setInsertWaits x0 x1 x2).mem = x2.mem ∧ (setInsertWaits x0 x1 x2).ecc = x2.ecc ∧ (setInsertWaits x0 x1 x2).spaces = x2.spaces ∧ (setInsertWaits x0 x1 x2).flash = x2.flash ∧ (setInsertWaits x0 x1 x2).fabric = x2.fabric ∧ (setInsertWaits x0 x1 x2).embed = x2.embed ∧ (setInsertWaits x0 x1 x2).ralid = x2.ralid ∧ (setInsertWaits x0 x1 x2).cfl = x2.cfl ∧ (setInsertWaits x0 x1 x2).sec = x2.sec := by
  unfold setInsertWaits; split <;> simp

@[simp] theorem appendNeighbour_frame (x0 : Nat) (x1 : Nat) (x2 : State) :
    (appendNeighbour x0 x1 x2).pending = x2.pending ∧ (appendNeighbour x0 x1 x2).tclk = x2.tclk ∧ (appendNeighbour x0 x1 x2).gZero = x2.gZero ∧ (appendNeighbour x0 x1 x2).drawn = x2.drawn ∧ (appendNeighbour x0 x1 x2).power = x2.power ∧ (appendNeighbour x0 x1 x2).boot = x2.boot ∧ (appendNeighbour x0 x1 x2).host = x2.host ∧ (appendNeighbour x0 x1 x2).rings = x2.rings ∧ (appendNeighbour x0 x1 x2).evt = x2.evt ∧ (appendNeighbour x0 x1 x2).tensor = x2.tensor ∧ (appendNeighbour x0 x1 x2).ecc = x2.ecc ∧ (appendNeighbour x0 x1 x2).spaces = x2.spaces ∧ (appendNeighbour x0 x1 x2).flash = x2.flash ∧ (appendNeighbour x0 x1 x2).fabric = x2.fabric ∧ (appendNeighbour x0 x1 x2).embed = x2.embed ∧ (appendNeighbour x0 x1 x2).ralid = x2.ralid ∧ (appendNeighbour x0 x1 x2).cfl = x2.cfl ∧ (appendNeighbour x0 x1 x2).sec = x2.sec := by
  simp [appendNeighbour]

@[simp] theorem linkBack_frame (x0 : Nat) (x1 : State) (x2 : Nat) :
    (linkBack x0 x1 x2).pending = x1.pending ∧ (linkBack x0 x1 x2).tclk = x1.tclk ∧ (linkBack x0 x1 x2).gZero = x1.gZero ∧ (linkBack x0 x1 x2).drawn = x1.drawn ∧ (linkBack x0 x1 x2).power = x1.power ∧ (linkBack x0 x1 x2).boot = x1.boot ∧ (linkBack x0 x1 x2).host = x1.host ∧ (linkBack x0 x1 x2).rings = x1.rings ∧ (linkBack x0 x1 x2).evt = x1.evt ∧ (linkBack x0 x1 x2).tensor = x1.tensor ∧ (linkBack x0 x1 x2).ecc = x1.ecc ∧ (linkBack x0 x1 x2).spaces = x1.spaces ∧ (linkBack x0 x1 x2).flash = x1.flash ∧ (linkBack x0 x1 x2).fabric = x1.fabric ∧ (linkBack x0 x1 x2).embed = x1.embed ∧ (linkBack x0 x1 x2).cfl = x1.cfl ∧ (linkBack x0 x1 x2).sec = x1.sec := by
  simp [linkBack]

@[simp] theorem setDeath_frame (x0 : Nat) (x1 : Nat) (x2 : State) :
    (setDeath x0 x1 x2).pending = x2.pending ∧ (setDeath x0 x1 x2).tclk = x2.tclk ∧ (setDeath x0 x1 x2).gZero = x2.gZero ∧ (setDeath x0 x1 x2).drawn = x2.drawn ∧ (setDeath x0 x1 x2).power = x2.power ∧ (setDeath x0 x1 x2).boot = x2.boot ∧ (setDeath x0 x1 x2).host = x2.host ∧ (setDeath x0 x1 x2).rings = x2.rings ∧ (setDeath x0 x1 x2).evt = x2.evt ∧ (setDeath x0 x1 x2).tensor = x2.tensor ∧ (setDeath x0 x1 x2).ecc = x2.ecc ∧ (setDeath x0 x1 x2).spaces = x2.spaces ∧ (setDeath x0 x1 x2).flash = x2.flash ∧ (setDeath x0 x1 x2).fabric = x2.fabric ∧ (setDeath x0 x1 x2).embed = x2.embed ∧ (setDeath x0 x1 x2).cfl = x2.cfl ∧ (setDeath x0 x1 x2).sec = x2.sec := by
  unfold setDeath; split <;> simp

@[simp] theorem startPass_frame (x0 : State) :
    (startPass x0).pending = x0.pending ∧ (startPass x0).tclk = x0.tclk ∧ (startPass x0).gZero = x0.gZero ∧ (startPass x0).drawn = x0.drawn ∧ (startPass x0).power = x0.power ∧ (startPass x0).boot = x0.boot ∧ (startPass x0).host = x0.host ∧ (startPass x0).rings = x0.rings ∧ (startPass x0).evt = x0.evt ∧ (startPass x0).tensor = x0.tensor ∧ (startPass x0).ecc = x0.ecc ∧ (startPass x0).spaces = x0.spaces ∧ (startPass x0).flash = x0.flash ∧ (startPass x0).fabric = x0.fabric ∧ (startPass x0).embed = x0.embed ∧ (startPass x0).cfl = x0.cfl ∧ (startPass x0).sec = x0.sec := by
  unfold startPass; split <;> simp

@[simp] theorem sweepKeys_frame (x0 : List Nat) (x1 : Nat) (x2 : State) :
    (sweepKeys x0 x1 x2).pending = x2.pending ∧ (sweepKeys x0 x1 x2).tclk = x2.tclk ∧ (sweepKeys x0 x1 x2).gZero = x2.gZero ∧ (sweepKeys x0 x1 x2).drawn = x2.drawn ∧ (sweepKeys x0 x1 x2).power = x2.power ∧ (sweepKeys x0 x1 x2).boot = x2.boot ∧ (sweepKeys x0 x1 x2).host = x2.host ∧ (sweepKeys x0 x1 x2).rings = x2.rings ∧ (sweepKeys x0 x1 x2).evt = x2.evt ∧ (sweepKeys x0 x1 x2).tensor = x2.tensor ∧ (sweepKeys x0 x1 x2).ecc = x2.ecc ∧ (sweepKeys x0 x1 x2).spaces = x2.spaces ∧ (sweepKeys x0 x1 x2).flash = x2.flash ∧ (sweepKeys x0 x1 x2).fabric = x2.fabric ∧ (sweepKeys x0 x1 x2).embed = x2.embed ∧ (sweepKeys x0 x1 x2).cfl = x2.cfl ∧ (sweepKeys x0 x1 x2).sec = x2.sec := by
  unfold sweepKeys; split <;> simp

@[simp] theorem advanceEpoch_frame (x0 : Publish) (x1 : State) :
    (advanceEpoch x0 x1).pending = x1.pending ∧ (advanceEpoch x0 x1).tclk = x1.tclk ∧ (advanceEpoch x0 x1).gZero = x1.gZero ∧ (advanceEpoch x0 x1).power = x1.power ∧ (advanceEpoch x0 x1).boot = x1.boot ∧ (advanceEpoch x0 x1).tensor = x1.tensor ∧ (advanceEpoch x0 x1).ecc = x1.ecc ∧ (advanceEpoch x0 x1).spaces = x1.spaces ∧ (advanceEpoch x0 x1).flash = x1.flash ∧ (advanceEpoch x0 x1).fabric = x1.fabric ∧ (advanceEpoch x0 x1).embed = x1.embed ∧ (advanceEpoch x0 x1).cfl = x1.cfl ∧ (advanceEpoch x0 x1).sec = x1.sec := by
  simp [advanceEpoch]

@[simp] theorem putNeighbours_frame (x0 : Nat) (x1 : List Nat) (x2 : State) :
    (putNeighbours x0 x1 x2).pending = x2.pending ∧ (putNeighbours x0 x1 x2).tclk = x2.tclk ∧ (putNeighbours x0 x1 x2).gZero = x2.gZero ∧ (putNeighbours x0 x1 x2).drawn = x2.drawn ∧ (putNeighbours x0 x1 x2).power = x2.power ∧ (putNeighbours x0 x1 x2).boot = x2.boot ∧ (putNeighbours x0 x1 x2).host = x2.host ∧ (putNeighbours x0 x1 x2).rings = x2.rings ∧ (putNeighbours x0 x1 x2).evt = x2.evt ∧ (putNeighbours x0 x1 x2).tensor = x2.tensor ∧ (putNeighbours x0 x1 x2).ecc = x2.ecc ∧ (putNeighbours x0 x1 x2).spaces = x2.spaces ∧ (putNeighbours x0 x1 x2).flash = x2.flash ∧ (putNeighbours x0 x1 x2).fabric = x2.fabric ∧ (putNeighbours x0 x1 x2).embed = x2.embed ∧ (putNeighbours x0 x1 x2).ralid = x2.ralid ∧ (putNeighbours x0 x1 x2).cfl = x2.cfl ∧ (putNeighbours x0 x1 x2).sec = x2.sec := by
  simp [putNeighbours]

@[simp] theorem applyRepair_frame (x0 : Nat) (x1 : Nat) (x2 : Option Nat) (x3 : State) :
    (applyRepair x0 x1 x2 x3).pending = x3.pending ∧ (applyRepair x0 x1 x2 x3).tclk = x3.tclk ∧ (applyRepair x0 x1 x2 x3).gZero = x3.gZero ∧ (applyRepair x0 x1 x2 x3).drawn = x3.drawn ∧ (applyRepair x0 x1 x2 x3).power = x3.power ∧ (applyRepair x0 x1 x2 x3).boot = x3.boot ∧ (applyRepair x0 x1 x2 x3).host = x3.host ∧ (applyRepair x0 x1 x2 x3).rings = x3.rings ∧ (applyRepair x0 x1 x2 x3).evt = x3.evt ∧ (applyRepair x0 x1 x2 x3).tensor = x3.tensor ∧ (applyRepair x0 x1 x2 x3).ecc = x3.ecc ∧ (applyRepair x0 x1 x2 x3).spaces = x3.spaces ∧ (applyRepair x0 x1 x2 x3).flash = x3.flash ∧ (applyRepair x0 x1 x2 x3).fabric = x3.fabric ∧ (applyRepair x0 x1 x2 x3).embed = x3.embed ∧ (applyRepair x0 x1 x2 x3).ralid = x3.ralid ∧ (applyRepair x0 x1 x2 x3).cfl = x3.cfl ∧ (applyRepair x0 x1 x2 x3).sec = x3.sec := by
  unfold applyRepair; split <;> simp

@[simp] theorem applyReverse_frame (x0 : RalIndex) (x1 : Nat) (x2 : Nat) (x3 : Nat) (x4 : State) :
    (applyReverse x0 x1 x2 x3 x4).pending = x4.pending ∧ (applyReverse x0 x1 x2 x3 x4).tclk = x4.tclk ∧ (applyReverse x0 x1 x2 x3 x4).gZero = x4.gZero ∧ (applyReverse x0 x1 x2 x3 x4).drawn = x4.drawn ∧ (applyReverse x0 x1 x2 x3 x4).power = x4.power ∧ (applyReverse x0 x1 x2 x3 x4).boot = x4.boot ∧ (applyReverse x0 x1 x2 x3 x4).host = x4.host ∧ (applyReverse x0 x1 x2 x3 x4).rings = x4.rings ∧ (applyReverse x0 x1 x2 x3 x4).evt = x4.evt ∧ (applyReverse x0 x1 x2 x3 x4).tensor = x4.tensor ∧ (applyReverse x0 x1 x2 x3 x4).ecc = x4.ecc ∧ (applyReverse x0 x1 x2 x3 x4).spaces = x4.spaces ∧ (applyReverse x0 x1 x2 x3 x4).flash = x4.flash ∧ (applyReverse x0 x1 x2 x3 x4).fabric = x4.fabric ∧ (applyReverse x0 x1 x2 x3 x4).embed = x4.embed ∧ (applyReverse x0 x1 x2 x3 x4).ralid = x4.ralid ∧ (applyReverse x0 x1 x2 x3 x4).cfl = x4.cfl ∧ (applyReverse x0 x1 x2 x3 x4).sec = x4.sec := by
  unfold applyReverse; dsimp only; (repeat' split) <;> simp

@[simp] theorem newEntry_frame (x0 : RalIndex) (x1 : Nat) (x2 : State) :
    (newEntry x0 x1 x2).2.pending = x2.pending ∧ (newEntry x0 x1 x2).2.tclk = x2.tclk ∧ (newEntry x0 x1 x2).2.gZero = x2.gZero ∧ (newEntry x0 x1 x2).2.power = x2.power ∧ (newEntry x0 x1 x2).2.boot = x2.boot ∧ (newEntry x0 x1 x2).2.host = x2.host ∧ (newEntry x0 x1 x2).2.rings = x2.rings ∧ (newEntry x0 x1 x2).2.evt = x2.evt ∧ (newEntry x0 x1 x2).2.tensor = x2.tensor ∧ (newEntry x0 x1 x2).2.mem = x2.mem ∧ (newEntry x0 x1 x2).2.ecc = x2.ecc ∧ (newEntry x0 x1 x2).2.spaces = x2.spaces ∧ (newEntry x0 x1 x2).2.flash = x2.flash ∧ (newEntry x0 x1 x2).2.fabric = x2.fabric ∧ (newEntry x0 x1 x2).2.embed = x2.embed ∧ (newEntry x0 x1 x2).2.ralid = x2.ralid ∧ (newEntry x0 x1 x2).2.cfl = x2.cfl ∧ (newEntry x0 x1 x2).2.sec = x2.sec := by
  unfold newEntry; (repeat' split) <;> simp

@[simp] theorem freeNode_frame (x0 : State) (x1 : Nat) :
    (freeNode x0 x1).pending = x0.pending ∧ (freeNode x0 x1).tclk = x0.tclk ∧ (freeNode x0 x1).gZero = x0.gZero ∧ (freeNode x0 x1).drawn = x0.drawn ∧ (freeNode x0 x1).power = x0.power ∧ (freeNode x0 x1).boot = x0.boot ∧ (freeNode x0 x1).host = x0.host ∧ (freeNode x0 x1).rings = x0.rings ∧ (freeNode x0 x1).evt = x0.evt ∧ (freeNode x0 x1).tensor = x0.tensor ∧ (freeNode x0 x1).ecc = x0.ecc ∧ (freeNode x0 x1).spaces = x0.spaces ∧ (freeNode x0 x1).flash = x0.flash ∧ (freeNode x0 x1).fabric = x0.fabric ∧ (freeNode x0 x1).embed = x0.embed ∧ (freeNode x0 x1).cfl = x0.cfl ∧ (freeNode x0 x1).sec = x0.sec := by
  unfold freeNode; split <;> simp

@[simp] theorem writeRalLog_frame (x0 : W64) (x1 : State) :
    (writeRalLog x0 x1).pending = x1.pending ∧ (writeRalLog x0 x1).tclk = x1.tclk ∧ (writeRalLog x0 x1).gZero = x1.gZero ∧ (writeRalLog x0 x1).drawn = x1.drawn ∧ (writeRalLog x0 x1).power = x1.power ∧ (writeRalLog x0 x1).boot = x1.boot ∧ (writeRalLog x0 x1).host = x1.host ∧ (writeRalLog x0 x1).rings = x1.rings ∧ (writeRalLog x0 x1).evt = x1.evt ∧ (writeRalLog x0 x1).tensor = x1.tensor ∧ (writeRalLog x0 x1).mem = x1.mem ∧ (writeRalLog x0 x1).ecc = x1.ecc ∧ (writeRalLog x0 x1).spaces = x1.spaces ∧ (writeRalLog x0 x1).flash = x1.flash ∧ (writeRalLog x0 x1).fabric = x1.fabric ∧ (writeRalLog x0 x1).embed = x1.embed ∧ (writeRalLog x0 x1).cfl = x1.cfl ∧ (writeRalLog x0 x1).sec = x1.sec := by
  simp [writeRalLog]

@[simp] theorem writeRalParam_frame (x0 : W64) (x1 : State) :
    (writeRalParam x0 x1).pending = x1.pending ∧ (writeRalParam x0 x1).tclk = x1.tclk ∧ (writeRalParam x0 x1).gZero = x1.gZero ∧ (writeRalParam x0 x1).drawn = x1.drawn ∧ (writeRalParam x0 x1).power = x1.power ∧ (writeRalParam x0 x1).boot = x1.boot ∧ (writeRalParam x0 x1).host = x1.host ∧ (writeRalParam x0 x1).rings = x1.rings ∧ (writeRalParam x0 x1).evt = x1.evt ∧ (writeRalParam x0 x1).tensor = x1.tensor ∧ (writeRalParam x0 x1).mem = x1.mem ∧ (writeRalParam x0 x1).ecc = x1.ecc ∧ (writeRalParam x0 x1).spaces = x1.spaces ∧ (writeRalParam x0 x1).flash = x1.flash ∧ (writeRalParam x0 x1).fabric = x1.fabric ∧ (writeRalParam x0 x1).embed = x1.embed ∧ (writeRalParam x0 x1).cfl = x1.cfl ∧ (writeRalParam x0 x1).sec = x1.sec := by
  simp [writeRalParam]

@[simp] theorem writeRalShards_frame (x0 : W64) (x1 : State) :
    (writeRalShards x0 x1).pending = x1.pending ∧ (writeRalShards x0 x1).tclk = x1.tclk ∧ (writeRalShards x0 x1).gZero = x1.gZero ∧ (writeRalShards x0 x1).drawn = x1.drawn ∧ (writeRalShards x0 x1).power = x1.power ∧ (writeRalShards x0 x1).boot = x1.boot ∧ (writeRalShards x0 x1).host = x1.host ∧ (writeRalShards x0 x1).rings = x1.rings ∧ (writeRalShards x0 x1).evt = x1.evt ∧ (writeRalShards x0 x1).tensor = x1.tensor ∧ (writeRalShards x0 x1).mem = x1.mem ∧ (writeRalShards x0 x1).ecc = x1.ecc ∧ (writeRalShards x0 x1).spaces = x1.spaces ∧ (writeRalShards x0 x1).flash = x1.flash ∧ (writeRalShards x0 x1).fabric = x1.fabric ∧ (writeRalShards x0 x1).embed = x1.embed ∧ (writeRalShards x0 x1).cfl = x1.cfl ∧ (writeRalShards x0 x1).sec = x1.sec := by
  simp [writeRalShards]

@[simp] theorem refuseRemote_frame (x0 : Nat) (x1 : Nat) (x2 : Nat) (x3 : State) :
    (refuseRemote x0 x1 x2 x3).pending = x3.pending ∧ (refuseRemote x0 x1 x2 x3).tclk = x3.tclk ∧ (refuseRemote x0 x1 x2 x3).gZero = x3.gZero ∧ (refuseRemote x0 x1 x2 x3).drawn = x3.drawn ∧ (refuseRemote x0 x1 x2 x3).power = x3.power ∧ (refuseRemote x0 x1 x2 x3).boot = x3.boot ∧ (refuseRemote x0 x1 x2 x3).host = x3.host ∧ (refuseRemote x0 x1 x2 x3).rings = x3.rings ∧ (refuseRemote x0 x1 x2 x3).tensor = x3.tensor ∧ (refuseRemote x0 x1 x2 x3).mem = x3.mem ∧ (refuseRemote x0 x1 x2 x3).ecc = x3.ecc ∧ (refuseRemote x0 x1 x2 x3).spaces = x3.spaces ∧ (refuseRemote x0 x1 x2 x3).flash = x3.flash ∧ (refuseRemote x0 x1 x2 x3).embed = x3.embed ∧ (refuseRemote x0 x1 x2 x3).ralid = x3.ralid ∧ (refuseRemote x0 x1 x2 x3).cfl = x3.cfl ∧ (refuseRemote x0 x1 x2 x3).sec = x3.sec := by
  simp [refuseRemote]

@[simp] theorem remoteQuery_frame (x0 : Nat) (x1 : Nat) (x2 : List Byte) (x3 : State) :
    (remoteQuery x0 x1 x2 x3).pending = x3.pending ∧ (remoteQuery x0 x1 x2 x3).tclk = x3.tclk ∧ (remoteQuery x0 x1 x2 x3).gZero = x3.gZero ∧ (remoteQuery x0 x1 x2 x3).drawn = x3.drawn ∧ (remoteQuery x0 x1 x2 x3).power = x3.power ∧ (remoteQuery x0 x1 x2 x3).boot = x3.boot ∧ (remoteQuery x0 x1 x2 x3).host = x3.host ∧ (remoteQuery x0 x1 x2 x3).rings = x3.rings ∧ (remoteQuery x0 x1 x2 x3).tensor = x3.tensor ∧ (remoteQuery x0 x1 x2 x3).mem = x3.mem ∧ (remoteQuery x0 x1 x2 x3).ecc = x3.ecc ∧ (remoteQuery x0 x1 x2 x3).spaces = x3.spaces ∧ (remoteQuery x0 x1 x2 x3).flash = x3.flash ∧ (remoteQuery x0 x1 x2 x3).embed = x3.embed ∧ (remoteQuery x0 x1 x2 x3).cfl = x3.cfl ∧ (remoteQuery x0 x1 x2 x3).sec = x3.sec := by
  unfold remoteQuery; split <;> simp

@[simp] theorem noteRead_frame (x0 : Nat) (x1 : Nat) (x2 : List (Option (Fin 10))) (x3 : State) :
    (noteRead x0 x1 x2 x3).pending = x3.pending ∧ (noteRead x0 x1 x2 x3).tclk = x3.tclk ∧ (noteRead x0 x1 x2 x3).gZero = x3.gZero ∧ (noteRead x0 x1 x2 x3).drawn = x3.drawn ∧ (noteRead x0 x1 x2 x3).power = x3.power ∧ (noteRead x0 x1 x2 x3).boot = x3.boot ∧ (noteRead x0 x1 x2 x3).rings = x3.rings ∧ (noteRead x0 x1 x2 x3).tensor = x3.tensor ∧ (noteRead x0 x1 x2 x3).mem = x3.mem ∧ (noteRead x0 x1 x2 x3).ecc = x3.ecc ∧ (noteRead x0 x1 x2 x3).spaces = x3.spaces ∧ (noteRead x0 x1 x2 x3).fabric = x3.fabric ∧ (noteRead x0 x1 x2 x3).embed = x3.embed ∧ (noteRead x0 x1 x2 x3).ralid = x3.ralid ∧ (noteRead x0 x1 x2 x3).cfl = x3.cfl ∧ (noteRead x0 x1 x2 x3).sec = x3.sec := by
  simp [noteRead]

end Sys2Proof.Machine
end

