-- ==== Sys2Proof/Laws/FramesEmbed.lean ====
section
/-! SUPPORT. What each shared operation of Machine/Embed.lean leaves as it is. -/

namespace Sys2Proof.Machine

@[simp] theorem bindCheck_frame (x0 : Nat) (x1 : BitVec 1024) (x2 : State) :
    (bindCheck x0 x1 x2).2.pending = x2.pending ∧ (bindCheck x0 x1 x2).2.tclk = x2.tclk ∧ (bindCheck x0 x1 x2).2.gZero = x2.gZero ∧ (bindCheck x0 x1 x2).2.drawn = x2.drawn ∧ (bindCheck x0 x1 x2).2.power = x2.power ∧ (bindCheck x0 x1 x2).2.boot = x2.boot ∧ (bindCheck x0 x1 x2).2.rings = x2.rings ∧ (bindCheck x0 x1 x2).2.tensor = x2.tensor ∧ (bindCheck x0 x1 x2).2.mem = x2.mem ∧ (bindCheck x0 x1 x2).2.spaces = x2.spaces ∧ (bindCheck x0 x1 x2).2.flash = x2.flash ∧ (bindCheck x0 x1 x2).2.fabric = x2.fabric ∧ (bindCheck x0 x1 x2).2.embed = x2.embed ∧ (bindCheck x0 x1 x2).2.ralid = x2.ralid ∧ (bindCheck x0 x1 x2).2.cfl = x2.cfl ∧ (bindCheck x0 x1 x2).2.sec = x2.sec := by
  unfold bindCheck; dsimp only; (repeat' (split <;> (try (obtain rfl := snd_of_eq ‹_ = (_, _)›)))); all_goals (first | done | simp | simp_all)

@[simp] theorem emptyEntry_frame (x0 : ModelTable) (x1 : State) (x2 : Nat) :
    (emptyEntry x0 x1 x2).pending = x1.pending ∧ (emptyEntry x0 x1 x2).tclk = x1.tclk ∧ (emptyEntry x0 x1 x2).gZero = x1.gZero ∧ (emptyEntry x0 x1 x2).drawn = x1.drawn ∧ (emptyEntry x0 x1 x2).power = x1.power ∧ (emptyEntry x0 x1 x2).boot = x1.boot ∧ (emptyEntry x0 x1 x2).host = x1.host ∧ (emptyEntry x0 x1 x2).rings = x1.rings ∧ (emptyEntry x0 x1 x2).evt = x1.evt ∧ (emptyEntry x0 x1 x2).tensor = x1.tensor ∧ (emptyEntry x0 x1 x2).ecc = x1.ecc ∧ (emptyEntry x0 x1 x2).spaces = x1.spaces ∧ (emptyEntry x0 x1 x2).flash = x1.flash ∧ (emptyEntry x0 x1 x2).fabric = x1.fabric ∧ (emptyEntry x0 x1 x2).embed = x1.embed ∧ (emptyEntry x0 x1 x2).ralid = x1.ralid ∧ (emptyEntry x0 x1 x2).cfl = x1.cfl ∧ (emptyEntry x0 x1 x2).sec = x1.sec := by
  simp [emptyEntry]

@[simp] theorem modCtx_frame (x0 : Nat) (x1 : EmbedDoc → EmbedDoc) (x2 : State) :
    (modCtx x0 x1 x2).pending = x2.pending ∧ (modCtx x0 x1 x2).tclk = x2.tclk ∧ (modCtx x0 x1 x2).gZero = x2.gZero ∧ (modCtx x0 x1 x2).drawn = x2.drawn ∧ (modCtx x0 x1 x2).power = x2.power ∧ (modCtx x0 x1 x2).boot = x2.boot ∧ (modCtx x0 x1 x2).host = x2.host ∧ (modCtx x0 x1 x2).rings = x2.rings ∧ (modCtx x0 x1 x2).evt = x2.evt ∧ (modCtx x0 x1 x2).tensor = x2.tensor ∧ (modCtx x0 x1 x2).mem = x2.mem ∧ (modCtx x0 x1 x2).ecc = x2.ecc ∧ (modCtx x0 x1 x2).spaces = x2.spaces ∧ (modCtx x0 x1 x2).flash = x2.flash ∧ (modCtx x0 x1 x2).fabric = x2.fabric ∧ (modCtx x0 x1 x2).ralid = x2.ralid ∧ (modCtx x0 x1 x2).cfl = x2.cfl ∧ (modCtx x0 x1 x2).sec = x2.sec := by
  simp [modCtx]

@[simp] theorem leaveCtx_frame (x0 : Nat) (x1 : Nat) (x2 : Bool) (x3 : List Byte) (x4 : List Byte) (x5 : State) :
    (leaveCtx x0 x1 x2 x3 x4 x5).pending = x5.pending ∧ (leaveCtx x0 x1 x2 x3 x4 x5).tclk = x5.tclk ∧ (leaveCtx x0 x1 x2 x3 x4 x5).gZero = x5.gZero ∧ (leaveCtx x0 x1 x2 x3 x4 x5).power = x5.power ∧ (leaveCtx x0 x1 x2 x3 x4 x5).boot = x5.boot ∧ (leaveCtx x0 x1 x2 x3 x4 x5).tensor = x5.tensor ∧ (leaveCtx x0 x1 x2 x3 x4 x5).mem = x5.mem ∧ (leaveCtx x0 x1 x2 x3 x4 x5).ecc = x5.ecc ∧ (leaveCtx x0 x1 x2 x3 x4 x5).spaces = x5.spaces ∧ (leaveCtx x0 x1 x2 x3 x4 x5).flash = x5.flash ∧ (leaveCtx x0 x1 x2 x3 x4 x5).fabric = x5.fabric ∧ (leaveCtx x0 x1 x2 x3 x4 x5).ralid = x5.ralid ∧ (leaveCtx x0 x1 x2 x3 x4 x5).cfl = x5.cfl ∧ (leaveCtx x0 x1 x2 x3 x4 x5).sec = x5.sec := by
  unfold leaveCtx; split <;> simp

@[simp] theorem writeInput_frame (x0 : ModelTable) (x1 : Nat) (x2 : List Nat) (x3 : State) :
    (writeInput x0 x1 x2 x3).pending = x3.pending ∧ (writeInput x0 x1 x2 x3).tclk = x3.tclk ∧ (writeInput x0 x1 x2 x3).gZero = x3.gZero ∧ (writeInput x0 x1 x2 x3).drawn = x3.drawn ∧ (writeInput x0 x1 x2 x3).power = x3.power ∧ (writeInput x0 x1 x2 x3).boot = x3.boot ∧ (writeInput x0 x1 x2 x3).host = x3.host ∧ (writeInput x0 x1 x2 x3).rings = x3.rings ∧ (writeInput x0 x1 x2 x3).evt = x3.evt ∧ (writeInput x0 x1 x2 x3).tensor = x3.tensor ∧ (writeInput x0 x1 x2 x3).ecc = x3.ecc ∧ (writeInput x0 x1 x2 x3).spaces = x3.spaces ∧ (writeInput x0 x1 x2 x3).flash = x3.flash ∧ (writeInput x0 x1 x2 x3).fabric = x3.fabric ∧ (writeInput x0 x1 x2 x3).embed = x3.embed ∧ (writeInput x0 x1 x2 x3).ralid = x3.ralid ∧ (writeInput x0 x1 x2 x3).cfl = x3.cfl ∧ (writeInput x0 x1 x2 x3).sec = x3.sec := by
  simp [writeInput]

@[simp] theorem prepareSlot_frame (x0 : Nat) (x1 : Nat) (x2 : EmbedDoc) (x3 : State) :
    (prepareSlot x0 x1 x2 x3).pending = x3.pending ∧ (prepareSlot x0 x1 x2 x3).tclk = x3.tclk ∧ (prepareSlot x0 x1 x2 x3).gZero = x3.gZero ∧ (prepareSlot x0 x1 x2 x3).drawn = x3.drawn ∧ (prepareSlot x0 x1 x2 x3).power = x3.power ∧ (prepareSlot x0 x1 x2 x3).boot = x3.boot ∧ (prepareSlot x0 x1 x2 x3).rings = x3.rings ∧ (prepareSlot x0 x1 x2 x3).tensor = x3.tensor ∧ (prepareSlot x0 x1 x2 x3).spaces = x3.spaces ∧ (prepareSlot x0 x1 x2 x3).flash = x3.flash ∧ (prepareSlot x0 x1 x2 x3).fabric = x3.fabric ∧ (prepareSlot x0 x1 x2 x3).ralid = x3.ralid ∧ (prepareSlot x0 x1 x2 x3).cfl = x3.cfl ∧ (prepareSlot x0 x1 x2 x3).sec = x3.sec := by
  unfold prepareSlot; (repeat' (split <;> (try (obtain rfl := snd_of_eq ‹_ = (_, _)›)))); all_goals (first | done | simp | simp_all)

@[simp] theorem selectBatch_frame (x0 : List (Nat × EmbedDoc)) (x1 : State) :
    (selectBatch x0 x1).pending = x1.pending ∧ (selectBatch x0 x1).tclk = x1.tclk ∧ (selectBatch x0 x1).gZero = x1.gZero ∧ (selectBatch x0 x1).drawn = x1.drawn ∧ (selectBatch x0 x1).power = x1.power ∧ (selectBatch x0 x1).boot = x1.boot ∧ (selectBatch x0 x1).rings = x1.rings ∧ (selectBatch x0 x1).tensor = x1.tensor ∧ (selectBatch x0 x1).spaces = x1.spaces ∧ (selectBatch x0 x1).flash = x1.flash ∧ (selectBatch x0 x1).fabric = x1.fabric ∧ (selectBatch x0 x1).ralid = x1.ralid ∧ (selectBatch x0 x1).cfl = x1.cfl ∧ (selectBatch x0 x1).sec = x1.sec := by
  fun_induction selectBatch x0 x1 <;> simp_all

@[simp] theorem writeEmpty_frame (x0 : State) :
    (writeEmpty x0).pending = x0.pending ∧ (writeEmpty x0).tclk = x0.tclk ∧ (writeEmpty x0).gZero = x0.gZero ∧ (writeEmpty x0).drawn = x0.drawn ∧ (writeEmpty x0).power = x0.power ∧ (writeEmpty x0).boot = x0.boot ∧ (writeEmpty x0).host = x0.host ∧ (writeEmpty x0).rings = x0.rings ∧ (writeEmpty x0).evt = x0.evt ∧ (writeEmpty x0).tensor = x0.tensor ∧ (writeEmpty x0).ecc = x0.ecc ∧ (writeEmpty x0).spaces = x0.spaces ∧ (writeEmpty x0).flash = x0.flash ∧ (writeEmpty x0).fabric = x0.fabric ∧ (writeEmpty x0).embed = x0.embed ∧ (writeEmpty x0).ralid = x0.ralid ∧ (writeEmpty x0).cfl = x0.cfl ∧ (writeEmpty x0).sec = x0.sec := by
  simp [writeEmpty]

@[simp] theorem leaveFailed_frame (x0 : State) :
    (leaveFailed x0).pending = x0.pending ∧ (leaveFailed x0).tclk = x0.tclk ∧ (leaveFailed x0).gZero = x0.gZero ∧ (leaveFailed x0).power = x0.power ∧ (leaveFailed x0).boot = x0.boot ∧ (leaveFailed x0).tensor = x0.tensor ∧ (leaveFailed x0).mem = x0.mem ∧ (leaveFailed x0).ecc = x0.ecc ∧ (leaveFailed x0).spaces = x0.spaces ∧ (leaveFailed x0).flash = x0.flash ∧ (leaveFailed x0).fabric = x0.fabric ∧ (leaveFailed x0).ralid = x0.ralid ∧ (leaveFailed x0).cfl = x0.cfl ∧ (leaveFailed x0).sec = x0.sec := by
  simp [leaveFailed]

end Sys2Proof.Machine
end

