-- ==== Sys2Proof/Laws/FramesSecurity.lean ====
section
/-! SUPPORT. What each shared operation of Machine/Security.lean leaves as it is. -/

namespace Sys2Proof.Machine

@[simp] theorem setSec_frame (x0 : Sec → Sec) (x1 : State) :
    (setSec x0 x1).pending = x1.pending ∧ (setSec x0 x1).tclk = x1.tclk ∧ (setSec x0 x1).gZero = x1.gZero ∧ (setSec x0 x1).drawn = x1.drawn ∧ (setSec x0 x1).power = x1.power ∧ (setSec x0 x1).boot = x1.boot ∧ (setSec x0 x1).host = x1.host ∧ (setSec x0 x1).rings = x1.rings ∧ (setSec x0 x1).evt = x1.evt ∧ (setSec x0 x1).tensor = x1.tensor ∧ (setSec x0 x1).mem = x1.mem ∧ (setSec x0 x1).ecc = x1.ecc ∧ (setSec x0 x1).spaces = x1.spaces ∧ (setSec x0 x1).flash = x1.flash ∧ (setSec x0 x1).fabric = x1.fabric ∧ (setSec x0 x1).embed = x1.embed ∧ (setSec x0 x1).ralid = x1.ralid ∧ (setSec x0 x1).cfl = x1.cfl := by
  simp [setSec]

@[simp] theorem putSlot_frame (x0 : Nat) (x1 : KeySlot) (x2 : State) :
    (putSlot x0 x1 x2).pending = x2.pending ∧ (putSlot x0 x1 x2).tclk = x2.tclk ∧ (putSlot x0 x1 x2).gZero = x2.gZero ∧ (putSlot x0 x1 x2).drawn = x2.drawn ∧ (putSlot x0 x1 x2).power = x2.power ∧ (putSlot x0 x1 x2).boot = x2.boot ∧ (putSlot x0 x1 x2).host = x2.host ∧ (putSlot x0 x1 x2).rings = x2.rings ∧ (putSlot x0 x1 x2).evt = x2.evt ∧ (putSlot x0 x1 x2).tensor = x2.tensor ∧ (putSlot x0 x1 x2).mem = x2.mem ∧ (putSlot x0 x1 x2).ecc = x2.ecc ∧ (putSlot x0 x1 x2).spaces = x2.spaces ∧ (putSlot x0 x1 x2).flash = x2.flash ∧ (putSlot x0 x1 x2).fabric = x2.fabric ∧ (putSlot x0 x1 x2).embed = x2.embed ∧ (putSlot x0 x1 x2).ralid = x2.ralid ∧ (putSlot x0 x1 x2).cfl = x2.cfl := by
  simp [putSlot]

@[simp] theorem checkAuth_frame (x0 : Nat) (x1 : AuthInput) (x2 : State) :
    (checkAuth x0 x1 x2).2.pending = x2.pending ∧ (checkAuth x0 x1 x2).2.tclk = x2.tclk ∧ (checkAuth x0 x1 x2).2.gZero = x2.gZero ∧ (checkAuth x0 x1 x2).2.drawn = x2.drawn ∧ (checkAuth x0 x1 x2).2.power = x2.power ∧ (checkAuth x0 x1 x2).2.boot = x2.boot ∧ (checkAuth x0 x1 x2).2.rings = x2.rings ∧ (checkAuth x0 x1 x2).2.tensor = x2.tensor ∧ (checkAuth x0 x1 x2).2.mem = x2.mem ∧ (checkAuth x0 x1 x2).2.ecc = x2.ecc ∧ (checkAuth x0 x1 x2).2.spaces = x2.spaces ∧ (checkAuth x0 x1 x2).2.flash = x2.flash ∧ (checkAuth x0 x1 x2).2.fabric = x2.fabric ∧ (checkAuth x0 x1 x2).2.embed = x2.embed ∧ (checkAuth x0 x1 x2).2.ralid = x2.ralid ∧ (checkAuth x0 x1 x2).2.cfl = x2.cfl := by
  unfold checkAuth; dsimp only; (repeat' split) <;> simp

@[simp] theorem burn_frame (x0 : Nat) (x1 : FuseWrite) (x2 : State) :
    (burn x0 x1 x2).pending = x2.pending ∧ (burn x0 x1 x2).tclk = x2.tclk ∧ (burn x0 x1 x2).gZero = x2.gZero ∧ (burn x0 x1 x2).drawn = x2.drawn ∧ (burn x0 x1 x2).power = x2.power ∧ (burn x0 x1 x2).boot = x2.boot ∧ (burn x0 x1 x2).host = x2.host ∧ (burn x0 x1 x2).evt = x2.evt ∧ (burn x0 x1 x2).tensor = x2.tensor ∧ (burn x0 x1 x2).mem = x2.mem ∧ (burn x0 x1 x2).ecc = x2.ecc ∧ (burn x0 x1 x2).spaces = x2.spaces ∧ (burn x0 x1 x2).flash = x2.flash ∧ (burn x0 x1 x2).fabric = x2.fabric ∧ (burn x0 x1 x2).embed = x2.embed ∧ (burn x0 x1 x2).ralid = x2.ralid ∧ (burn x0 x1 x2).cfl = x2.cfl := by
  simp [burn]

@[simp] theorem burnDigest_frame (x0 : Nat) (x1 : BitVec 512) (x2 : Nat) (x3 : State) :
    (burnDigest x0 x1 x2 x3).pending = x3.pending ∧ (burnDigest x0 x1 x2 x3).tclk = x3.tclk ∧ (burnDigest x0 x1 x2 x3).gZero = x3.gZero ∧ (burnDigest x0 x1 x2 x3).drawn = x3.drawn ∧ (burnDigest x0 x1 x2 x3).power = x3.power ∧ (burnDigest x0 x1 x2 x3).boot = x3.boot ∧ (burnDigest x0 x1 x2 x3).host = x3.host ∧ (burnDigest x0 x1 x2 x3).rings = x3.rings ∧ (burnDigest x0 x1 x2 x3).evt = x3.evt ∧ (burnDigest x0 x1 x2 x3).tensor = x3.tensor ∧ (burnDigest x0 x1 x2 x3).mem = x3.mem ∧ (burnDigest x0 x1 x2 x3).ecc = x3.ecc ∧ (burnDigest x0 x1 x2 x3).spaces = x3.spaces ∧ (burnDigest x0 x1 x2 x3).flash = x3.flash ∧ (burnDigest x0 x1 x2 x3).fabric = x3.fabric ∧ (burnDigest x0 x1 x2 x3).embed = x3.embed ∧ (burnDigest x0 x1 x2 x3).ralid = x3.ralid ∧ (burnDigest x0 x1 x2 x3).cfl = x3.cfl := by
  simp [burnDigest]

@[simp] theorem cutFuse_frame (x0 : State) :
    (cutFuse x0).pending = x0.pending ∧ (cutFuse x0).tclk = x0.tclk ∧ (cutFuse x0).gZero = x0.gZero ∧ (cutFuse x0).power = x0.power ∧ (cutFuse x0).boot = x0.boot ∧ (cutFuse x0).host = x0.host ∧ (cutFuse x0).rings = x0.rings ∧ (cutFuse x0).evt = x0.evt ∧ (cutFuse x0).tensor = x0.tensor ∧ (cutFuse x0).mem = x0.mem ∧ (cutFuse x0).ecc = x0.ecc ∧ (cutFuse x0).spaces = x0.spaces ∧ (cutFuse x0).flash = x0.flash ∧ (cutFuse x0).fabric = x0.fabric ∧ (cutFuse x0).embed = x0.embed ∧ (cutFuse x0).ralid = x0.ralid ∧ (cutFuse x0).cfl = x0.cfl := by
  unfold cutFuse; (repeat' split) <;> simp

@[simp] theorem fuseCommand_pending (x0 : Nat) (x1 : Nat) (x2 : Bool) (x3 : State → State) (x4 : State) (h : ∀ y0, (x3 y0).pending = y0.pending) :
    (fuseCommand x0 x1 x2 x3 x4).pending = x4.pending := by
  unfold fuseCommand; split <;> simp [h]

@[simp] theorem fuseCommand_tclk (x0 : Nat) (x1 : Nat) (x2 : Bool) (x3 : State → State) (x4 : State) (h : ∀ y0, (x3 y0).tclk = y0.tclk) :
    (fuseCommand x0 x1 x2 x3 x4).tclk = x4.tclk := by
  unfold fuseCommand; split <;> simp [h]

@[simp] theorem fuseCommand_gZero (x0 : Nat) (x1 : Nat) (x2 : Bool) (x3 : State → State) (x4 : State) (h : ∀ y0, (x3 y0).gZero = y0.gZero) :
    (fuseCommand x0 x1 x2 x3 x4).gZero = x4.gZero := by
  unfold fuseCommand; split <;> simp [h]

@[simp] theorem fuseCommand_power (x0 : Nat) (x1 : Nat) (x2 : Bool) (x3 : State → State) (x4 : State) (h : ∀ y0, (x3 y0).power = y0.power) :
    (fuseCommand x0 x1 x2 x3 x4).power = x4.power := by
  unfold fuseCommand; split <;> simp [h]

@[simp] theorem fuseCommand_boot (x0 : Nat) (x1 : Nat) (x2 : Bool) (x3 : State → State) (x4 : State) (h : ∀ y0, (x3 y0).boot = y0.boot) :
    (fuseCommand x0 x1 x2 x3 x4).boot = x4.boot := by
  unfold fuseCommand; split <;> simp [h]

@[simp] theorem fuseCommand_tensor (x0 : Nat) (x1 : Nat) (x2 : Bool) (x3 : State → State) (x4 : State) (h : ∀ y0, (x3 y0).tensor = y0.tensor) :
    (fuseCommand x0 x1 x2 x3 x4).tensor = x4.tensor := by
  unfold fuseCommand; split <;> simp [h]

@[simp] theorem fuseCommand_mem (x0 : Nat) (x1 : Nat) (x2 : Bool) (x3 : State → State) (x4 : State) (h : ∀ y0, (x3 y0).mem = y0.mem) :
    (fuseCommand x0 x1 x2 x3 x4).mem = x4.mem := by
  unfold fuseCommand; split <;> simp [h]

@[simp] theorem fuseCommand_ecc (x0 : Nat) (x1 : Nat) (x2 : Bool) (x3 : State → State) (x4 : State) (h : ∀ y0, (x3 y0).ecc = y0.ecc) :
    (fuseCommand x0 x1 x2 x3 x4).ecc = x4.ecc := by
  unfold fuseCommand; split <;> simp [h]

@[simp] theorem fuseCommand_spaces (x0 : Nat) (x1 : Nat) (x2 : Bool) (x3 : State → State) (x4 : State) (h : ∀ y0, (x3 y0).spaces = y0.spaces) :
    (fuseCommand x0 x1 x2 x3 x4).spaces = x4.spaces := by
  unfold fuseCommand; split <;> simp [h]

@[simp] theorem fuseCommand_flash (x0 : Nat) (x1 : Nat) (x2 : Bool) (x3 : State → State) (x4 : State) (h : ∀ y0, (x3 y0).flash = y0.flash) :
    (fuseCommand x0 x1 x2 x3 x4).flash = x4.flash := by
  unfold fuseCommand; split <;> simp [h]

@[simp] theorem fuseCommand_fabric (x0 : Nat) (x1 : Nat) (x2 : Bool) (x3 : State → State) (x4 : State) (h : ∀ y0, (x3 y0).fabric = y0.fabric) :
    (fuseCommand x0 x1 x2 x3 x4).fabric = x4.fabric := by
  unfold fuseCommand; split <;> simp [h]

@[simp] theorem fuseCommand_embed (x0 : Nat) (x1 : Nat) (x2 : Bool) (x3 : State → State) (x4 : State) (h : ∀ y0, (x3 y0).embed = y0.embed) :
    (fuseCommand x0 x1 x2 x3 x4).embed = x4.embed := by
  unfold fuseCommand; split <;> simp [h]

@[simp] theorem fuseCommand_ralid (x0 : Nat) (x1 : Nat) (x2 : Bool) (x3 : State → State) (x4 : State) (h : ∀ y0, (x3 y0).ralid = y0.ralid) :
    (fuseCommand x0 x1 x2 x3 x4).ralid = x4.ralid := by
  unfold fuseCommand; split <;> simp [h]

@[simp] theorem fuseCommand_cfl (x0 : Nat) (x1 : Nat) (x2 : Bool) (x3 : State → State) (x4 : State) (h : ∀ y0, (x3 y0).cfl = y0.cfl) :
    (fuseCommand x0 x1 x2 x3 x4).cfl = x4.cfl := by
  unfold fuseCommand; split <;> simp [h]

@[simp] theorem fuseCommand_sec (x0 : Nat) (x1 : Nat) (x2 : Bool) (x3 : State → State) (x4 : State) (h : ∀ y0, (x3 y0).sec = y0.sec) :
    (fuseCommand x0 x1 x2 x3 x4).sec = x4.sec := by
  unfold fuseCommand; split <;> simp [h]

@[simp] theorem authorised_pending (x0 : Nat) (x1 : Nat) (x2 : AuthInput) (x3 : State → State) (x4 : State) (h : ∀ y0, (x3 y0).pending = y0.pending) :
    (authorised x0 x1 x2 x3 x4).pending = x4.pending := by
  simp [authorised, h]

@[simp] theorem authorised_tclk (x0 : Nat) (x1 : Nat) (x2 : AuthInput) (x3 : State → State) (x4 : State) (h : ∀ y0, (x3 y0).tclk = y0.tclk) :
    (authorised x0 x1 x2 x3 x4).tclk = x4.tclk := by
  simp [authorised, h]

@[simp] theorem authorised_gZero (x0 : Nat) (x1 : Nat) (x2 : AuthInput) (x3 : State → State) (x4 : State) (h : ∀ y0, (x3 y0).gZero = y0.gZero) :
    (authorised x0 x1 x2 x3 x4).gZero = x4.gZero := by
  simp [authorised, h]

@[simp] theorem authorised_power (x0 : Nat) (x1 : Nat) (x2 : AuthInput) (x3 : State → State) (x4 : State) (h : ∀ y0, (x3 y0).power = y0.power) :
    (authorised x0 x1 x2 x3 x4).power = x4.power := by
  simp [authorised, h]

@[simp] theorem authorised_boot (x0 : Nat) (x1 : Nat) (x2 : AuthInput) (x3 : State → State) (x4 : State) (h : ∀ y0, (x3 y0).boot = y0.boot) :
    (authorised x0 x1 x2 x3 x4).boot = x4.boot := by
  simp [authorised, h]

@[simp] theorem authorised_tensor (x0 : Nat) (x1 : Nat) (x2 : AuthInput) (x3 : State → State) (x4 : State) (h : ∀ y0, (x3 y0).tensor = y0.tensor) :
    (authorised x0 x1 x2 x3 x4).tensor = x4.tensor := by
  simp [authorised, h]

@[simp] theorem authorised_mem (x0 : Nat) (x1 : Nat) (x2 : AuthInput) (x3 : State → State) (x4 : State) (h : ∀ y0, (x3 y0).mem = y0.mem) :
    (authorised x0 x1 x2 x3 x4).mem = x4.mem := by
  simp [authorised, h]

@[simp] theorem authorised_ecc (x0 : Nat) (x1 : Nat) (x2 : AuthInput) (x3 : State → State) (x4 : State) (h : ∀ y0, (x3 y0).ecc = y0.ecc) :
    (authorised x0 x1 x2 x3 x4).ecc = x4.ecc := by
  simp [authorised, h]

@[simp] theorem authorised_spaces (x0 : Nat) (x1 : Nat) (x2 : AuthInput) (x3 : State → State) (x4 : State) (h : ∀ y0, (x3 y0).spaces = y0.spaces) :
    (authorised x0 x1 x2 x3 x4).spaces = x4.spaces := by
  simp [authorised, h]

@[simp] theorem authorised_flash (x0 : Nat) (x1 : Nat) (x2 : AuthInput) (x3 : State → State) (x4 : State) (h : ∀ y0, (x3 y0).flash = y0.flash) :
    (authorised x0 x1 x2 x3 x4).flash = x4.flash := by
  simp [authorised, h]

@[simp] theorem authorised_fabric (x0 : Nat) (x1 : Nat) (x2 : AuthInput) (x3 : State → State) (x4 : State) (h : ∀ y0, (x3 y0).fabric = y0.fabric) :
    (authorised x0 x1 x2 x3 x4).fabric = x4.fabric := by
  simp [authorised, h]

@[simp] theorem authorised_embed (x0 : Nat) (x1 : Nat) (x2 : AuthInput) (x3 : State → State) (x4 : State) (h : ∀ y0, (x3 y0).embed = y0.embed) :
    (authorised x0 x1 x2 x3 x4).embed = x4.embed := by
  simp [authorised, h]

@[simp] theorem authorised_ralid (x0 : Nat) (x1 : Nat) (x2 : AuthInput) (x3 : State → State) (x4 : State) (h : ∀ y0, (x3 y0).ralid = y0.ralid) :
    (authorised x0 x1 x2 x3 x4).ralid = x4.ralid := by
  simp [authorised, h]

@[simp] theorem authorised_cfl (x0 : Nat) (x1 : Nat) (x2 : AuthInput) (x3 : State → State) (x4 : State) (h : ∀ y0, (x3 y0).cfl = y0.cfl) :
    (authorised x0 x1 x2 x3 x4).cfl = x4.cfl := by
  simp [authorised, h]

@[simp] theorem enrolInto_frame (x0 : Nat) (x1 : BitVec 512) (x2 : State) :
    (enrolInto x0 x1 x2).pending = x2.pending ∧ (enrolInto x0 x1 x2).tclk = x2.tclk ∧ (enrolInto x0 x1 x2).gZero = x2.gZero ∧ (enrolInto x0 x1 x2).power = x2.power ∧ (enrolInto x0 x1 x2).boot = x2.boot ∧ (enrolInto x0 x1 x2).tensor = x2.tensor ∧ (enrolInto x0 x1 x2).mem = x2.mem ∧ (enrolInto x0 x1 x2).ecc = x2.ecc ∧ (enrolInto x0 x1 x2).spaces = x2.spaces ∧ (enrolInto x0 x1 x2).flash = x2.flash ∧ (enrolInto x0 x1 x2).fabric = x2.fabric ∧ (enrolInto x0 x1 x2).embed = x2.embed ∧ (enrolInto x0 x1 x2).ralid = x2.ralid ∧ (enrolInto x0 x1 x2).cfl = x2.cfl := by
  unfold enrolInto; split <;> simp

@[simp] theorem setSpdm_frame (x0 : Spdm → Spdm) (x1 : State) :
    (setSpdm x0 x1).pending = x1.pending ∧ (setSpdm x0 x1).tclk = x1.tclk ∧ (setSpdm x0 x1).gZero = x1.gZero ∧ (setSpdm x0 x1).drawn = x1.drawn ∧ (setSpdm x0 x1).power = x1.power ∧ (setSpdm x0 x1).boot = x1.boot ∧ (setSpdm x0 x1).host = x1.host ∧ (setSpdm x0 x1).rings = x1.rings ∧ (setSpdm x0 x1).evt = x1.evt ∧ (setSpdm x0 x1).tensor = x1.tensor ∧ (setSpdm x0 x1).mem = x1.mem ∧ (setSpdm x0 x1).ecc = x1.ecc ∧ (setSpdm x0 x1).spaces = x1.spaces ∧ (setSpdm x0 x1).flash = x1.flash ∧ (setSpdm x0 x1).fabric = x1.fabric ∧ (setSpdm x0 x1).embed = x1.embed ∧ (setSpdm x0 x1).ralid = x1.ralid ∧ (setSpdm x0 x1).cfl = x1.cfl := by
  simp [setSpdm]

@[simp] theorem spdmSend_frame (x0 : List Byte) (x1 : State) :
    (spdmSend x0 x1).pending = x1.pending ∧ (spdmSend x0 x1).tclk = x1.tclk ∧ (spdmSend x0 x1).gZero = x1.gZero ∧ (spdmSend x0 x1).drawn = x1.drawn ∧ (spdmSend x0 x1).power = x1.power ∧ (spdmSend x0 x1).boot = x1.boot ∧ (spdmSend x0 x1).rings = x1.rings ∧ (spdmSend x0 x1).evt = x1.evt ∧ (spdmSend x0 x1).tensor = x1.tensor ∧ (spdmSend x0 x1).mem = x1.mem ∧ (spdmSend x0 x1).ecc = x1.ecc ∧ (spdmSend x0 x1).spaces = x1.spaces ∧ (spdmSend x0 x1).flash = x1.flash ∧ (spdmSend x0 x1).fabric = x1.fabric ∧ (spdmSend x0 x1).embed = x1.embed ∧ (spdmSend x0 x1).ralid = x1.ralid ∧ (spdmSend x0 x1).cfl = x1.cfl := by
  simp [spdmSend]

@[simp] theorem spdmError_frame (x0 : Nat) (x1 : State) :
    (spdmError x0 x1).pending = x1.pending ∧ (spdmError x0 x1).tclk = x1.tclk ∧ (spdmError x0 x1).gZero = x1.gZero ∧ (spdmError x0 x1).drawn = x1.drawn ∧ (spdmError x0 x1).power = x1.power ∧ (spdmError x0 x1).boot = x1.boot ∧ (spdmError x0 x1).rings = x1.rings ∧ (spdmError x0 x1).evt = x1.evt ∧ (spdmError x0 x1).tensor = x1.tensor ∧ (spdmError x0 x1).mem = x1.mem ∧ (spdmError x0 x1).ecc = x1.ecc ∧ (spdmError x0 x1).spaces = x1.spaces ∧ (spdmError x0 x1).flash = x1.flash ∧ (spdmError x0 x1).fabric = x1.fabric ∧ (spdmError x0 x1).embed = x1.embed ∧ (spdmError x0 x1).ralid = x1.ralid ∧ (spdmError x0 x1).cfl = x1.cfl ∧ (spdmError x0 x1).sec = x1.sec := by
  simp [spdmError]

@[simp] theorem spdmTake_frame (x0 : List Byte) (x1 : State) :
    (spdmTake x0 x1).pending = x1.pending ∧ (spdmTake x0 x1).tclk = x1.tclk ∧ (spdmTake x0 x1).gZero = x1.gZero ∧ (spdmTake x0 x1).drawn = x1.drawn ∧ (spdmTake x0 x1).power = x1.power ∧ (spdmTake x0 x1).boot = x1.boot ∧ (spdmTake x0 x1).host = x1.host ∧ (spdmTake x0 x1).rings = x1.rings ∧ (spdmTake x0 x1).evt = x1.evt ∧ (spdmTake x0 x1).tensor = x1.tensor ∧ (spdmTake x0 x1).mem = x1.mem ∧ (spdmTake x0 x1).ecc = x1.ecc ∧ (spdmTake x0 x1).spaces = x1.spaces ∧ (spdmTake x0 x1).flash = x1.flash ∧ (spdmTake x0 x1).fabric = x1.fabric ∧ (spdmTake x0 x1).embed = x1.embed ∧ (spdmTake x0 x1).ralid = x1.ralid ∧ (spdmTake x0 x1).cfl = x1.cfl := by
  simp [spdmTake]

@[simp] theorem spdmSigned_frame (x0 : Nat) (x1 : List Byte) (x2 : State) :
    (spdmSigned x0 x1 x2).pending = x2.pending ∧ (spdmSigned x0 x1 x2).tclk = x2.tclk ∧ (spdmSigned x0 x1 x2).gZero = x2.gZero ∧ (spdmSigned x0 x1 x2).drawn = x2.drawn ∧ (spdmSigned x0 x1 x2).power = x2.power ∧ (spdmSigned x0 x1 x2).boot = x2.boot ∧ (spdmSigned x0 x1 x2).rings = x2.rings ∧ (spdmSigned x0 x1 x2).evt = x2.evt ∧ (spdmSigned x0 x1 x2).tensor = x2.tensor ∧ (spdmSigned x0 x1 x2).mem = x2.mem ∧ (spdmSigned x0 x1 x2).ecc = x2.ecc ∧ (spdmSigned x0 x1 x2).spaces = x2.spaces ∧ (spdmSigned x0 x1 x2).flash = x2.flash ∧ (spdmSigned x0 x1 x2).fabric = x2.fabric ∧ (spdmSigned x0 x1 x2).embed = x2.embed ∧ (spdmSigned x0 x1 x2).ralid = x2.ralid ∧ (spdmSigned x0 x1 x2).cfl = x2.cfl := by
  simp [spdmSigned]

@[simp] theorem spdmAfter_pending (x0 : State → State) (x1 : State) (h : ∀ y0, (x0 y0).pending = y0.pending) :
    (spdmAfter x0 x1).pending = x1.pending := by
  simp [spdmAfter, h]

@[simp] theorem spdmAfter_tclk (x0 : State → State) (x1 : State) (h : ∀ y0, (x0 y0).tclk = y0.tclk) :
    (spdmAfter x0 x1).tclk = x1.tclk := by
  simp [spdmAfter, h]

@[simp] theorem spdmAfter_gZero (x0 : State → State) (x1 : State) (h : ∀ y0, (x0 y0).gZero = y0.gZero) :
    (spdmAfter x0 x1).gZero = x1.gZero := by
  simp [spdmAfter, h]

@[simp] theorem spdmAfter_drawn (x0 : State → State) (x1 : State) (h : ∀ y0, (x0 y0).drawn = y0.drawn) :
    (spdmAfter x0 x1).drawn = x1.drawn := by
  simp [spdmAfter, h]

@[simp] theorem spdmAfter_power (x0 : State → State) (x1 : State) (h : ∀ y0, (x0 y0).power = y0.power) :
    (spdmAfter x0 x1).power = x1.power := by
  simp [spdmAfter, h]

@[simp] theorem spdmAfter_boot (x0 : State → State) (x1 : State) (h : ∀ y0, (x0 y0).boot = y0.boot) :
    (spdmAfter x0 x1).boot = x1.boot := by
  simp [spdmAfter, h]

@[simp] theorem spdmAfter_rings (x0 : State → State) (x1 : State) (h : ∀ y0, (x0 y0).rings = y0.rings) :
    (spdmAfter x0 x1).rings = x1.rings := by
  simp [spdmAfter, h]

@[simp] theorem spdmAfter_evt (x0 : State → State) (x1 : State) (h : ∀ y0, (x0 y0).evt = y0.evt) :
    (spdmAfter x0 x1).evt = x1.evt := by
  simp [spdmAfter, h]

@[simp] theorem spdmAfter_tensor (x0 : State → State) (x1 : State) (h : ∀ y0, (x0 y0).tensor = y0.tensor) :
    (spdmAfter x0 x1).tensor = x1.tensor := by
  simp [spdmAfter, h]

@[simp] theorem spdmAfter_mem (x0 : State → State) (x1 : State) (h : ∀ y0, (x0 y0).mem = y0.mem) :
    (spdmAfter x0 x1).mem = x1.mem := by
  simp [spdmAfter, h]

@[simp] theorem spdmAfter_ecc (x0 : State → State) (x1 : State) (h : ∀ y0, (x0 y0).ecc = y0.ecc) :
    (spdmAfter x0 x1).ecc = x1.ecc := by
  simp [spdmAfter, h]

@[simp] theorem spdmAfter_spaces (x0 : State → State) (x1 : State) (h : ∀ y0, (x0 y0).spaces = y0.spaces) :
    (spdmAfter x0 x1).spaces = x1.spaces := by
  simp [spdmAfter, h]

@[simp] theorem spdmAfter_flash (x0 : State → State) (x1 : State) (h : ∀ y0, (x0 y0).flash = y0.flash) :
    (spdmAfter x0 x1).flash = x1.flash := by
  simp [spdmAfter, h]

@[simp] theorem spdmAfter_fabric (x0 : State → State) (x1 : State) (h : ∀ y0, (x0 y0).fabric = y0.fabric) :
    (spdmAfter x0 x1).fabric = x1.fabric := by
  simp [spdmAfter, h]

@[simp] theorem spdmAfter_embed (x0 : State → State) (x1 : State) (h : ∀ y0, (x0 y0).embed = y0.embed) :
    (spdmAfter x0 x1).embed = x1.embed := by
  simp [spdmAfter, h]

@[simp] theorem spdmAfter_ralid (x0 : State → State) (x1 : State) (h : ∀ y0, (x0 y0).ralid = y0.ralid) :
    (spdmAfter x0 x1).ralid = x1.ralid := by
  simp [spdmAfter, h]

@[simp] theorem spdmAfter_cfl (x0 : State → State) (x1 : State) (h : ∀ y0, (x0 y0).cfl = y0.cfl) :
    (spdmAfter x0 x1).cfl = x1.cfl := by
  simp [spdmAfter, h]

@[simp] theorem spdmAfter_sec (x0 : State → State) (x1 : State) (h : ∀ y0, (x0 y0).sec = y0.sec) :
    (spdmAfter x0 x1).sec = x1.sec := by
  simp [spdmAfter, h]

end Sys2Proof.Machine
end

