-- ==== Sys2Proof/Laws/FramesRings.lean ====
section
/-! SUPPORT. What each shared operation of Machine/Rings.lean leaves as it is. -/

namespace Sys2Proof.Machine

@[simp] theorem setHost_frame (x0 : HostSide → HostSide) (x1 : State) :
    (setHost x0 x1).pending = x1.pending ∧ (setHost x0 x1).tclk = x1.tclk ∧ (setHost x0 x1).gZero = x1.gZero ∧ (setHost x0 x1).drawn = x1.drawn ∧ (setHost x0 x1).power = x1.power ∧ (setHost x0 x1).boot = x1.boot ∧ (setHost x0 x1).rings = x1.rings ∧ (setHost x0 x1).evt = x1.evt ∧ (setHost x0 x1).tensor = x1.tensor ∧ (setHost x0 x1).mem = x1.mem ∧ (setHost x0 x1).ecc = x1.ecc ∧ (setHost x0 x1).spaces = x1.spaces ∧ (setHost x0 x1).flash = x1.flash ∧ (setHost x0 x1).fabric = x1.fabric ∧ (setHost x0 x1).embed = x1.embed ∧ (setHost x0 x1).ralid = x1.ralid ∧ (setHost x0 x1).cfl = x1.cfl ∧ (setHost x0 x1).sec = x1.sec := by
  simp [setHost]

@[simp] theorem setRings_frame (x0 : Rings → Rings) (x1 : State) :
    (setRings x0 x1).pending = x1.pending ∧ (setRings x0 x1).tclk = x1.tclk ∧ (setRings x0 x1).gZero = x1.gZero ∧ (setRings x0 x1).drawn = x1.drawn ∧ (setRings x0 x1).power = x1.power ∧ (setRings x0 x1).boot = x1.boot ∧ (setRings x0 x1).host = x1.host ∧ (setRings x0 x1).evt = x1.evt ∧ (setRings x0 x1).tensor = x1.tensor ∧ (setRings x0 x1).mem = x1.mem ∧ (setRings x0 x1).ecc = x1.ecc ∧ (setRings x0 x1).spaces = x1.spaces ∧ (setRings x0 x1).flash = x1.flash ∧ (setRings x0 x1).fabric = x1.fabric ∧ (setRings x0 x1).embed = x1.embed ∧ (setRings x0 x1).ralid = x1.ralid ∧ (setRings x0 x1).cfl = x1.cfl ∧ (setRings x0 x1).sec = x1.sec := by
  simp [setRings]

@[simp] theorem modSq_frame (x0 : Nat) (x1 : Sq → Sq) (x2 : State) :
    (modSq x0 x1 x2).pending = x2.pending ∧ (modSq x0 x1 x2).tclk = x2.tclk ∧ (modSq x0 x1 x2).gZero = x2.gZero ∧ (modSq x0 x1 x2).drawn = x2.drawn ∧ (modSq x0 x1 x2).power = x2.power ∧ (modSq x0 x1 x2).boot = x2.boot ∧ (modSq x0 x1 x2).host = x2.host ∧ (modSq x0 x1 x2).evt = x2.evt ∧ (modSq x0 x1 x2).tensor = x2.tensor ∧ (modSq x0 x1 x2).mem = x2.mem ∧ (modSq x0 x1 x2).ecc = x2.ecc ∧ (modSq x0 x1 x2).spaces = x2.spaces ∧ (modSq x0 x1 x2).flash = x2.flash ∧ (modSq x0 x1 x2).fabric = x2.fabric ∧ (modSq x0 x1 x2).embed = x2.embed ∧ (modSq x0 x1 x2).ralid = x2.ralid ∧ (modSq x0 x1 x2).cfl = x2.cfl ∧ (modSq x0 x1 x2).sec = x2.sec := by
  simp [modSq]

@[simp] theorem modCq_frame (x0 : Nat) (x1 : Cq → Cq) (x2 : State) :
    (modCq x0 x1 x2).pending = x2.pending ∧ (modCq x0 x1 x2).tclk = x2.tclk ∧ (modCq x0 x1 x2).gZero = x2.gZero ∧ (modCq x0 x1 x2).drawn = x2.drawn ∧ (modCq x0 x1 x2).power = x2.power ∧ (modCq x0 x1 x2).boot = x2.boot ∧ (modCq x0 x1 x2).host = x2.host ∧ (modCq x0 x1 x2).evt = x2.evt ∧ (modCq x0 x1 x2).tensor = x2.tensor ∧ (modCq x0 x1 x2).mem = x2.mem ∧ (modCq x0 x1 x2).ecc = x2.ecc ∧ (modCq x0 x1 x2).spaces = x2.spaces ∧ (modCq x0 x1 x2).flash = x2.flash ∧ (modCq x0 x1 x2).fabric = x2.fabric ∧ (modCq x0 x1 x2).embed = x2.embed ∧ (modCq x0 x1 x2).ralid = x2.ralid ∧ (modCq x0 x1 x2).cfl = x2.cfl ∧ (modCq x0 x1 x2).sec = x2.sec := by
  simp [modCq]

@[simp] theorem dropLines_frame (x0 : State) :
    (dropLines x0).pending = x0.pending ∧ (dropLines x0).tclk = x0.tclk ∧ (dropLines x0).gZero = x0.gZero ∧ (dropLines x0).drawn = x0.drawn ∧ (dropLines x0).power = x0.power ∧ (dropLines x0).boot = x0.boot ∧ (dropLines x0).rings = x0.rings ∧ (dropLines x0).evt = x0.evt ∧ (dropLines x0).tensor = x0.tensor ∧ (dropLines x0).mem = x0.mem ∧ (dropLines x0).ecc = x0.ecc ∧ (dropLines x0).spaces = x0.spaces ∧ (dropLines x0).flash = x0.flash ∧ (dropLines x0).fabric = x0.fabric ∧ (dropLines x0).embed = x0.embed ∧ (dropLines x0).ralid = x0.ralid ∧ (dropLines x0).cfl = x0.cfl ∧ (dropLines x0).sec = x0.sec := by
  simp [dropLines]

@[simp] theorem readLines_frame (x0 : List Nat) (x1 : State) :
    (readLines x0 x1).pending = x1.pending ∧ (readLines x0 x1).tclk = x1.tclk ∧ (readLines x0 x1).gZero = x1.gZero ∧ (readLines x0 x1).drawn = x1.drawn ∧ (readLines x0 x1).power = x1.power ∧ (readLines x0 x1).boot = x1.boot ∧ (readLines x0 x1).rings = x1.rings ∧ (readLines x0 x1).evt = x1.evt ∧ (readLines x0 x1).tensor = x1.tensor ∧ (readLines x0 x1).mem = x1.mem ∧ (readLines x0 x1).ecc = x1.ecc ∧ (readLines x0 x1).spaces = x1.spaces ∧ (readLines x0 x1).flash = x1.flash ∧ (readLines x0 x1).fabric = x1.fabric ∧ (readLines x0 x1).embed = x1.embed ∧ (readLines x0 x1).ralid = x1.ralid ∧ (readLines x0 x1).cfl = x1.cfl ∧ (readLines x0 x1).sec = x1.sec := by
  simp [readLines]

@[simp] theorem readAllLines_frame (x0 : State) :
    (readAllLines x0).pending = x0.pending ∧ (readAllLines x0).tclk = x0.tclk ∧ (readAllLines x0).gZero = x0.gZero ∧ (readAllLines x0).drawn = x0.drawn ∧ (readAllLines x0).power = x0.power ∧ (readAllLines x0).boot = x0.boot ∧ (readAllLines x0).rings = x0.rings ∧ (readAllLines x0).evt = x0.evt ∧ (readAllLines x0).tensor = x0.tensor ∧ (readAllLines x0).mem = x0.mem ∧ (readAllLines x0).ecc = x0.ecc ∧ (readAllLines x0).spaces = x0.spaces ∧ (readAllLines x0).flash = x0.flash ∧ (readAllLines x0).fabric = x0.fabric ∧ (readAllLines x0).embed = x0.embed ∧ (readAllLines x0).ralid = x0.ralid ∧ (readAllLines x0).cfl = x0.cfl ∧ (readAllLines x0).sec = x0.sec := by
  simp [readAllLines]

@[simp] theorem countReread_frame (x0 : Nat) (x1 : State) :
    (countReread x0 x1).pending = x1.pending ∧ (countReread x0 x1).tclk = x1.tclk ∧ (countReread x0 x1).gZero = x1.gZero ∧ (countReread x0 x1).drawn = x1.drawn ∧ (countReread x0 x1).power = x1.power ∧ (countReread x0 x1).boot = x1.boot ∧ (countReread x0 x1).host = x1.host ∧ (countReread x0 x1).rings = x1.rings ∧ (countReread x0 x1).tensor = x1.tensor ∧ (countReread x0 x1).mem = x1.mem ∧ (countReread x0 x1).ecc = x1.ecc ∧ (countReread x0 x1).spaces = x1.spaces ∧ (countReread x0 x1).flash = x1.flash ∧ (countReread x0 x1).fabric = x1.fabric ∧ (countReread x0 x1).embed = x1.embed ∧ (countReread x0 x1).ralid = x1.ralid ∧ (countReread x0 x1).cfl = x1.cfl ∧ (countReread x0 x1).sec = x1.sec := by
  simp [countReread]

@[simp] theorem sqError_frame (x0 : Nat) (x1 : Nat) (x2 : Nat) (x3 : State) :
    (sqError x0 x1 x2 x3).pending = x3.pending ∧ (sqError x0 x1 x2 x3).tclk = x3.tclk ∧ (sqError x0 x1 x2 x3).gZero = x3.gZero ∧ (sqError x0 x1 x2 x3).power = x3.power ∧ (sqError x0 x1 x2 x3).boot = x3.boot ∧ (sqError x0 x1 x2 x3).tensor = x3.tensor ∧ (sqError x0 x1 x2 x3).mem = x3.mem ∧ (sqError x0 x1 x2 x3).ecc = x3.ecc ∧ (sqError x0 x1 x2 x3).spaces = x3.spaces ∧ (sqError x0 x1 x2 x3).flash = x3.flash ∧ (sqError x0 x1 x2 x3).fabric = x3.fabric ∧ (sqError x0 x1 x2 x3).embed = x3.embed ∧ (sqError x0 x1 x2 x3).ralid = x3.ralid ∧ (sqError x0 x1 x2 x3).cfl = x3.cfl ∧ (sqError x0 x1 x2 x3).sec = x3.sec := by
  unfold sqError; split <;> simp

@[simp] theorem cqError_frame (x0 : Nat) (x1 : Nat) (x2 : State) :
    (cqError x0 x1 x2).pending = x2.pending ∧ (cqError x0 x1 x2).tclk = x2.tclk ∧ (cqError x0 x1 x2).gZero = x2.gZero ∧ (cqError x0 x1 x2).drawn = x2.drawn ∧ (cqError x0 x1 x2).power = x2.power ∧ (cqError x0 x1 x2).boot = x2.boot ∧ (cqError x0 x1 x2).tensor = x2.tensor ∧ (cqError x0 x1 x2).mem = x2.mem ∧ (cqError x0 x1 x2).ecc = x2.ecc ∧ (cqError x0 x1 x2).spaces = x2.spaces ∧ (cqError x0 x1 x2).flash = x2.flash ∧ (cqError x0 x1 x2).fabric = x2.fabric ∧ (cqError x0 x1 x2).embed = x2.embed ∧ (cqError x0 x1 x2).ralid = x2.ralid ∧ (cqError x0 x1 x2).cfl = x2.cfl ∧ (cqError x0 x1 x2).sec = x2.sec := by
  unfold cqError; split <;> simp

@[simp] theorem takeSqTail_frame (x0 : Nat) (x1 : Nat) (x2 : State) :
    (takeSqTail x0 x1 x2).pending = x2.pending ∧ (takeSqTail x0 x1 x2).tclk = x2.tclk ∧ (takeSqTail x0 x1 x2).gZero = x2.gZero ∧ (takeSqTail x0 x1 x2).power = x2.power ∧ (takeSqTail x0 x1 x2).boot = x2.boot ∧ (takeSqTail x0 x1 x2).tensor = x2.tensor ∧ (takeSqTail x0 x1 x2).mem = x2.mem ∧ (takeSqTail x0 x1 x2).ecc = x2.ecc ∧ (takeSqTail x0 x1 x2).spaces = x2.spaces ∧ (takeSqTail x0 x1 x2).flash = x2.flash ∧ (takeSqTail x0 x1 x2).fabric = x2.fabric ∧ (takeSqTail x0 x1 x2).embed = x2.embed ∧ (takeSqTail x0 x1 x2).ralid = x2.ralid ∧ (takeSqTail x0 x1 x2).cfl = x2.cfl ∧ (takeSqTail x0 x1 x2).sec = x2.sec := by
  unfold takeSqTail; split <;> simp

@[simp] theorem takeCqHead_frame (x0 : Nat) (x1 : Nat) (x2 : State) :
    (takeCqHead x0 x1 x2).pending = x2.pending ∧ (takeCqHead x0 x1 x2).tclk = x2.tclk ∧ (takeCqHead x0 x1 x2).gZero = x2.gZero ∧ (takeCqHead x0 x1 x2).drawn = x2.drawn ∧ (takeCqHead x0 x1 x2).power = x2.power ∧ (takeCqHead x0 x1 x2).boot = x2.boot ∧ (takeCqHead x0 x1 x2).tensor = x2.tensor ∧ (takeCqHead x0 x1 x2).mem = x2.mem ∧ (takeCqHead x0 x1 x2).ecc = x2.ecc ∧ (takeCqHead x0 x1 x2).spaces = x2.spaces ∧ (takeCqHead x0 x1 x2).flash = x2.flash ∧ (takeCqHead x0 x1 x2).fabric = x2.fabric ∧ (takeCqHead x0 x1 x2).embed = x2.embed ∧ (takeCqHead x0 x1 x2).ralid = x2.ralid ∧ (takeCqHead x0 x1 x2).cfl = x2.cfl ∧ (takeCqHead x0 x1 x2).sec = x2.sec := by
  unfold takeCqHead; split <;> simp

@[simp] theorem startAdmin_frame (x0 : State) :
    (startAdmin x0).pending = x0.pending ∧ (startAdmin x0).tclk = x0.tclk ∧ (startAdmin x0).gZero = x0.gZero ∧ (startAdmin x0).drawn = x0.drawn ∧ (startAdmin x0).power = x0.power ∧ (startAdmin x0).boot = x0.boot ∧ (startAdmin x0).evt = x0.evt ∧ (startAdmin x0).tensor = x0.tensor ∧ (startAdmin x0).mem = x0.mem ∧ (startAdmin x0).ecc = x0.ecc ∧ (startAdmin x0).spaces = x0.spaces ∧ (startAdmin x0).flash = x0.flash ∧ (startAdmin x0).fabric = x0.fabric ∧ (startAdmin x0).embed = x0.embed ∧ (startAdmin x0).ralid = x0.ralid ∧ (startAdmin x0).cfl = x0.cfl ∧ (startAdmin x0).sec = x0.sec := by
  simp [startAdmin]

@[simp] theorem writeAdminCtrl_frame (x0 : W32) (x1 : State) :
    (writeAdminCtrl x0 x1).pending = x1.pending ∧ (writeAdminCtrl x0 x1).tclk = x1.tclk ∧ (writeAdminCtrl x0 x1).gZero = x1.gZero ∧ (writeAdminCtrl x0 x1).drawn = x1.drawn ∧ (writeAdminCtrl x0 x1).power = x1.power ∧ (writeAdminCtrl x0 x1).boot = x1.boot ∧ (writeAdminCtrl x0 x1).evt = x1.evt ∧ (writeAdminCtrl x0 x1).tensor = x1.tensor ∧ (writeAdminCtrl x0 x1).mem = x1.mem ∧ (writeAdminCtrl x0 x1).ecc = x1.ecc ∧ (writeAdminCtrl x0 x1).spaces = x1.spaces ∧ (writeAdminCtrl x0 x1).flash = x1.flash ∧ (writeAdminCtrl x0 x1).fabric = x1.fabric ∧ (writeAdminCtrl x0 x1).embed = x1.embed ∧ (writeAdminCtrl x0 x1).ralid = x1.ralid ∧ (writeAdminCtrl x0 x1).cfl = x1.cfl ∧ (writeAdminCtrl x0 x1).sec = x1.sec := by
  simp [writeAdminCtrl]

@[simp] theorem passEntry_frame (x0 : Nat) (x1 : State) :
    (passEntry x0 x1).pending = x1.pending ∧ (passEntry x0 x1).tclk = x1.tclk ∧ (passEntry x0 x1).gZero = x1.gZero ∧ (passEntry x0 x1).drawn = x1.drawn ∧ (passEntry x0 x1).power = x1.power ∧ (passEntry x0 x1).boot = x1.boot ∧ (passEntry x0 x1).host = x1.host ∧ (passEntry x0 x1).evt = x1.evt ∧ (passEntry x0 x1).tensor = x1.tensor ∧ (passEntry x0 x1).mem = x1.mem ∧ (passEntry x0 x1).ecc = x1.ecc ∧ (passEntry x0 x1).spaces = x1.spaces ∧ (passEntry x0 x1).flash = x1.flash ∧ (passEntry x0 x1).fabric = x1.fabric ∧ (passEntry x0 x1).embed = x1.embed ∧ (passEntry x0 x1).ralid = x1.ralid ∧ (passEntry x0 x1).cfl = x1.cfl ∧ (passEntry x0 x1).sec = x1.sec := by
  simp [passEntry]

@[simp] theorem placeTask_frame (x0 : Nat) (x1 : Nat) (x2 : State) :
    (placeTask x0 x1 x2).pending = x2.pending ∧ (placeTask x0 x1 x2).tclk = x2.tclk ∧ (placeTask x0 x1 x2).gZero = x2.gZero ∧ (placeTask x0 x1 x2).power = x2.power ∧ (placeTask x0 x1 x2).boot = x2.boot ∧ (placeTask x0 x1 x2).tensor = x2.tensor ∧ (placeTask x0 x1 x2).mem = x2.mem ∧ (placeTask x0 x1 x2).ecc = x2.ecc ∧ (placeTask x0 x1 x2).spaces = x2.spaces ∧ (placeTask x0 x1 x2).flash = x2.flash ∧ (placeTask x0 x1 x2).fabric = x2.fabric ∧ (placeTask x0 x1 x2).embed = x2.embed ∧ (placeTask x0 x1 x2).ralid = x2.ralid ∧ (placeTask x0 x1 x2).cfl = x2.cfl ∧ (placeTask x0 x1 x2).sec = x2.sec := by
  unfold placeTask; split <;> simp

end Sys2Proof.Machine
end

