-- ==== Sys2Proof/Laws/FramesAdmin.lean ====
section
/-! SUPPORT. What each shared operation of Machine/Admin.lean leaves as it is. -/

namespace Sys2Proof.Machine

@[simp] theorem reachPower_frame (x0 : Nat) (x1 : State) :
    (reachPower x0 x1).pending = x1.pending ∧ (reachPower x0 x1).tclk = x1.tclk ∧ (reachPower x0 x1).gZero = x1.gZero ∧ (reachPower x0 x1).drawn = x1.drawn ∧ (reachPower x0 x1).power = x1.power ∧ (reachPower x0 x1).boot = x1.boot ∧ (reachPower x0 x1).rings = x1.rings ∧ (reachPower x0 x1).tensor = x1.tensor ∧ (reachPower x0 x1).mem = x1.mem ∧ (reachPower x0 x1).ecc = x1.ecc ∧ (reachPower x0 x1).spaces = x1.spaces ∧ (reachPower x0 x1).flash = x1.flash ∧ (reachPower x0 x1).fabric = x1.fabric ∧ (reachPower x0 x1).embed = x1.embed ∧ (reachPower x0 x1).ralid = x1.ralid ∧ (reachPower x0 x1).cfl = x1.cfl ∧ (reachPower x0 x1).sec = x1.sec := by
  simp [reachPower]

@[simp] theorem handlePower_frame (x0 : Nat) (x1 : State) :
    (handlePower x0 x1).pending = x1.pending ∧ (handlePower x0 x1).tclk = x1.tclk ∧ (handlePower x0 x1).gZero = x1.gZero ∧ (handlePower x0 x1).power = x1.power ∧ (handlePower x0 x1).boot = x1.boot ∧ (handlePower x0 x1).tensor = x1.tensor ∧ (handlePower x0 x1).mem = x1.mem ∧ (handlePower x0 x1).ecc = x1.ecc ∧ (handlePower x0 x1).spaces = x1.spaces ∧ (handlePower x0 x1).flash = x1.flash ∧ (handlePower x0 x1).fabric = x1.fabric ∧ (handlePower x0 x1).embed = x1.embed ∧ (handlePower x0 x1).ralid = x1.ralid ∧ (handlePower x0 x1).cfl = x1.cfl ∧ (handlePower x0 x1).sec = x1.sec := by
  unfold handlePower; split <;> simp

@[simp] theorem retryPower_frame (x0 : State) :
    (retryPower x0).pending = x0.pending ∧ (retryPower x0).tclk = x0.tclk ∧ (retryPower x0).gZero = x0.gZero ∧ (retryPower x0).power = x0.power ∧ (retryPower x0).boot = x0.boot ∧ (retryPower x0).tensor = x0.tensor ∧ (retryPower x0).mem = x0.mem ∧ (retryPower x0).ecc = x0.ecc ∧ (retryPower x0).spaces = x0.spaces ∧ (retryPower x0).flash = x0.flash ∧ (retryPower x0).fabric = x0.fabric ∧ (retryPower x0).embed = x0.embed ∧ (retryPower x0).ralid = x0.ralid ∧ (retryPower x0).cfl = x0.cfl ∧ (retryPower x0).sec = x0.sec := by
  simp [retryPower]

@[simp] theorem finishPower_frame (x0 : State) :
    (finishPower x0).pending = x0.pending ∧ (finishPower x0).tclk = x0.tclk ∧ (finishPower x0).gZero = x0.gZero ∧ (finishPower x0).power = x0.power ∧ (finishPower x0).boot = x0.boot ∧ (finishPower x0).tensor = x0.tensor ∧ (finishPower x0).mem = x0.mem ∧ (finishPower x0).ecc = x0.ecc ∧ (finishPower x0).spaces = x0.spaces ∧ (finishPower x0).flash = x0.flash ∧ (finishPower x0).fabric = x0.fabric ∧ (finishPower x0).embed = x0.embed ∧ (finishPower x0).ralid = x0.ralid ∧ (finishPower x0).cfl = x0.cfl ∧ (finishPower x0).sec = x0.sec := by
  unfold finishPower; split <;> simp

@[simp] theorem postHeld_frame (x0 : State) :
    (postHeld x0).pending = x0.pending ∧ (postHeld x0).tclk = x0.tclk ∧ (postHeld x0).gZero = x0.gZero ∧ (postHeld x0).power = x0.power ∧ (postHeld x0).boot = x0.boot ∧ (postHeld x0).evt = x0.evt ∧ (postHeld x0).tensor = x0.tensor ∧ (postHeld x0).mem = x0.mem ∧ (postHeld x0).ecc = x0.ecc ∧ (postHeld x0).spaces = x0.spaces ∧ (postHeld x0).flash = x0.flash ∧ (postHeld x0).fabric = x0.fabric ∧ (postHeld x0).embed = x0.embed ∧ (postHeld x0).ralid = x0.ralid ∧ (postHeld x0).cfl = x0.cfl ∧ (postHeld x0).sec = x0.sec := by
  simp [postHeld]

end Sys2Proof.Machine
end

