-- ==== Sys2Proof/Laws/FramesConfigFlash.lean ====
section
/-! SUPPORT. What each shared operation of Machine/ConfigFlash.lean leaves as it is. -/

namespace Sys2Proof.Machine

@[simp] theorem bankStore_frame (x0 : Nat) (x1 : Nat) (x2 : Nat) (x3 : Nat) (x4 : State) :
    (bankStore x0 x1 x2 x3 x4).pending = x4.pending ∧ (bankStore x0 x1 x2 x3 x4).tclk = x4.tclk ∧ (bankStore x0 x1 x2 x3 x4).gZero = x4.gZero ∧ (bankStore x0 x1 x2 x3 x4).drawn = x4.drawn ∧ (bankStore x0 x1 x2 x3 x4).power = x4.power ∧ (bankStore x0 x1 x2 x3 x4).boot = x4.boot ∧ (bankStore x0 x1 x2 x3 x4).host = x4.host ∧ (bankStore x0 x1 x2 x3 x4).rings = x4.rings ∧ (bankStore x0 x1 x2 x3 x4).evt = x4.evt ∧ (bankStore x0 x1 x2 x3 x4).tensor = x4.tensor ∧ (bankStore x0 x1 x2 x3 x4).mem = x4.mem ∧ (bankStore x0 x1 x2 x3 x4).ecc = x4.ecc ∧ (bankStore x0 x1 x2 x3 x4).spaces = x4.spaces ∧ (bankStore x0 x1 x2 x3 x4).flash = x4.flash ∧ (bankStore x0 x1 x2 x3 x4).fabric = x4.fabric ∧ (bankStore x0 x1 x2 x3 x4).embed = x4.embed ∧ (bankStore x0 x1 x2 x3 x4).ralid = x4.ralid ∧ (bankStore x0 x1 x2 x3 x4).sec = x4.sec := by
  unfold bankStore; dsimp only; (repeat' split) <;> simp

@[simp] theorem refuseBankOp_frame (x0 : Nat) (x1 : CflBank → CflBank) (x2 : State) :
    (refuseBankOp x0 x1 x2).pending = x2.pending ∧ (refuseBankOp x0 x1 x2).tclk = x2.tclk ∧ (refuseBankOp x0 x1 x2).gZero = x2.gZero ∧ (refuseBankOp x0 x1 x2).drawn = x2.drawn ∧ (refuseBankOp x0 x1 x2).power = x2.power ∧ (refuseBankOp x0 x1 x2).boot = x2.boot ∧ (refuseBankOp x0 x1 x2).host = x2.host ∧ (refuseBankOp x0 x1 x2).rings = x2.rings ∧ (refuseBankOp x0 x1 x2).evt = x2.evt ∧ (refuseBankOp x0 x1 x2).tensor = x2.tensor ∧ (refuseBankOp x0 x1 x2).mem = x2.mem ∧ (refuseBankOp x0 x1 x2).ecc = x2.ecc ∧ (refuseBankOp x0 x1 x2).spaces = x2.spaces ∧ (refuseBankOp x0 x1 x2).flash = x2.flash ∧ (refuseBankOp x0 x1 x2).fabric = x2.fabric ∧ (refuseBankOp x0 x1 x2).embed = x2.embed ∧ (refuseBankOp x0 x1 x2).ralid = x2.ralid ∧ (refuseBankOp x0 x1 x2).sec = x2.sec := by
  simp [refuseBankOp]

@[simp] theorem startBankOp_frame (x0 : Nat) (x1 : CflOp) (x2 : Nat) (x3 : Nat) (x4 : State) :
    (startBankOp x0 x1 x2 x3 x4).pending = x4.pending ∧ (startBankOp x0 x1 x2 x3 x4).tclk = x4.tclk ∧ (startBankOp x0 x1 x2 x3 x4).gZero = x4.gZero ∧ (startBankOp x0 x1 x2 x3 x4).drawn = x4.drawn ∧ (startBankOp x0 x1 x2 x3 x4).power = x4.power ∧ (startBankOp x0 x1 x2 x3 x4).boot = x4.boot ∧ (startBankOp x0 x1 x2 x3 x4).host = x4.host ∧ (startBankOp x0 x1 x2 x3 x4).rings = x4.rings ∧ (startBankOp x0 x1 x2 x3 x4).evt = x4.evt ∧ (startBankOp x0 x1 x2 x3 x4).tensor = x4.tensor ∧ (startBankOp x0 x1 x2 x3 x4).mem = x4.mem ∧ (startBankOp x0 x1 x2 x3 x4).ecc = x4.ecc ∧ (startBankOp x0 x1 x2 x3 x4).spaces = x4.spaces ∧ (startBankOp x0 x1 x2 x3 x4).flash = x4.flash ∧ (startBankOp x0 x1 x2 x3 x4).fabric = x4.fabric ∧ (startBankOp x0 x1 x2 x3 x4).embed = x4.embed ∧ (startBankOp x0 x1 x2 x3 x4).ralid = x4.ralid ∧ (startBankOp x0 x1 x2 x3 x4).sec = x4.sec := by
  simp [startBankOp]

@[simp] theorem startHostOp_frame (x0 : Nat) (x1 : State) :
    (startHostOp x0 x1).pending = x1.pending ∧ (startHostOp x0 x1).tclk = x1.tclk ∧ (startHostOp x0 x1).gZero = x1.gZero ∧ (startHostOp x0 x1).drawn = x1.drawn ∧ (startHostOp x0 x1).power = x1.power ∧ (startHostOp x0 x1).boot = x1.boot ∧ (startHostOp x0 x1).rings = x1.rings ∧ (startHostOp x0 x1).tensor = x1.tensor ∧ (startHostOp x0 x1).mem = x1.mem ∧ (startHostOp x0 x1).ecc = x1.ecc ∧ (startHostOp x0 x1).spaces = x1.spaces ∧ (startHostOp x0 x1).flash = x1.flash ∧ (startHostOp x0 x1).fabric = x1.fabric ∧ (startHostOp x0 x1).embed = x1.embed ∧ (startHostOp x0 x1).ralid = x1.ralid ∧ (startHostOp x0 x1).sec = x1.sec := by
  unfold startHostOp; (repeat' split) <;> simp

@[simp] theorem startProt_frame (x0 : Nat) (x1 : Nat) (x2 : State) :
    (startProt x0 x1 x2).pending = x2.pending ∧ (startProt x0 x1 x2).tclk = x2.tclk ∧ (startProt x0 x1 x2).gZero = x2.gZero ∧ (startProt x0 x1 x2).drawn = x2.drawn ∧ (startProt x0 x1 x2).power = x2.power ∧ (startProt x0 x1 x2).boot = x2.boot ∧ (startProt x0 x1 x2).rings = x2.rings ∧ (startProt x0 x1 x2).tensor = x2.tensor ∧ (startProt x0 x1 x2).mem = x2.mem ∧ (startProt x0 x1 x2).ecc = x2.ecc ∧ (startProt x0 x1 x2).spaces = x2.spaces ∧ (startProt x0 x1 x2).flash = x2.flash ∧ (startProt x0 x1 x2).fabric = x2.fabric ∧ (startProt x0 x1 x2).embed = x2.embed ∧ (startProt x0 x1 x2).ralid = x2.ralid ∧ (startProt x0 x1 x2).sec = x2.sec := by
  unfold startProt; split <;> simp

@[simp] theorem prefetchAfter_frame (x0 : Nat) (x1 : Nat) (x2 : State) :
    (prefetchAfter x0 x1 x2).pending = x2.pending ∧ (prefetchAfter x0 x1 x2).tclk = x2.tclk ∧ (prefetchAfter x0 x1 x2).gZero = x2.gZero ∧ (prefetchAfter x0 x1 x2).drawn = x2.drawn ∧ (prefetchAfter x0 x1 x2).power = x2.power ∧ (prefetchAfter x0 x1 x2).boot = x2.boot ∧ (prefetchAfter x0 x1 x2).host = x2.host ∧ (prefetchAfter x0 x1 x2).rings = x2.rings ∧ (prefetchAfter x0 x1 x2).evt = x2.evt ∧ (prefetchAfter x0 x1 x2).tensor = x2.tensor ∧ (prefetchAfter x0 x1 x2).mem = x2.mem ∧ (prefetchAfter x0 x1 x2).ecc = x2.ecc ∧ (prefetchAfter x0 x1 x2).spaces = x2.spaces ∧ (prefetchAfter x0 x1 x2).flash = x2.flash ∧ (prefetchAfter x0 x1 x2).fabric = x2.fabric ∧ (prefetchAfter x0 x1 x2).embed = x2.embed ∧ (prefetchAfter x0 x1 x2).ralid = x2.ralid ∧ (prefetchAfter x0 x1 x2).sec = x2.sec := by
  simp [prefetchAfter]

@[simp] theorem endRun_frame (x0 : Nat) (x1 : CflBank → CflBank) (x2 : State) :
    (endRun x0 x1 x2).pending = x2.pending ∧ (endRun x0 x1 x2).tclk = x2.tclk ∧ (endRun x0 x1 x2).gZero = x2.gZero ∧ (endRun x0 x1 x2).drawn = x2.drawn ∧ (endRun x0 x1 x2).power = x2.power ∧ (endRun x0 x1 x2).boot = x2.boot ∧ (endRun x0 x1 x2).host = x2.host ∧ (endRun x0 x1 x2).rings = x2.rings ∧ (endRun x0 x1 x2).evt = x2.evt ∧ (endRun x0 x1 x2).tensor = x2.tensor ∧ (endRun x0 x1 x2).mem = x2.mem ∧ (endRun x0 x1 x2).ecc = x2.ecc ∧ (endRun x0 x1 x2).spaces = x2.spaces ∧ (endRun x0 x1 x2).flash = x2.flash ∧ (endRun x0 x1 x2).fabric = x2.fabric ∧ (endRun x0 x1 x2).embed = x2.embed ∧ (endRun x0 x1 x2).ralid = x2.ralid ∧ (endRun x0 x1 x2).sec = x2.sec := by
  simp [endRun]

@[simp] theorem endDev_frame (x0 : CflBank → CflBank) (x1 : State) :
    (endDev x0 x1).pending = x1.pending ∧ (endDev x0 x1).tclk = x1.tclk ∧ (endDev x0 x1).gZero = x1.gZero ∧ (endDev x0 x1).drawn = x1.drawn ∧ (endDev x0 x1).power = x1.power ∧ (endDev x0 x1).boot = x1.boot ∧ (endDev x0 x1).host = x1.host ∧ (endDev x0 x1).rings = x1.rings ∧ (endDev x0 x1).evt = x1.evt ∧ (endDev x0 x1).tensor = x1.tensor ∧ (endDev x0 x1).mem = x1.mem ∧ (endDev x0 x1).ecc = x1.ecc ∧ (endDev x0 x1).spaces = x1.spaces ∧ (endDev x0 x1).flash = x1.flash ∧ (endDev x0 x1).fabric = x1.fabric ∧ (endDev x0 x1).embed = x1.embed ∧ (endDev x0 x1).ralid = x1.ralid ∧ (endDev x0 x1).sec = x1.sec := by
  simp [endDev]

@[simp] theorem programFailed_frame (x0 : Nat) (x1 : Nat) (x2 : State) :
    (programFailed x0 x1 x2).pending = x2.pending ∧ (programFailed x0 x1 x2).tclk = x2.tclk ∧ (programFailed x0 x1 x2).gZero = x2.gZero ∧ (programFailed x0 x1 x2).power = x2.power ∧ (programFailed x0 x1 x2).boot = x2.boot ∧ (programFailed x0 x1 x2).rings = x2.rings ∧ (programFailed x0 x1 x2).tensor = x2.tensor ∧ (programFailed x0 x1 x2).mem = x2.mem ∧ (programFailed x0 x1 x2).ecc = x2.ecc ∧ (programFailed x0 x1 x2).spaces = x2.spaces ∧ (programFailed x0 x1 x2).flash = x2.flash ∧ (programFailed x0 x1 x2).fabric = x2.fabric ∧ (programFailed x0 x1 x2).embed = x2.embed ∧ (programFailed x0 x1 x2).ralid = x2.ralid ∧ (programFailed x0 x1 x2).sec = x2.sec := by
  simp [programFailed]

@[simp] theorem recordDone_frame (x0 : Bool) (x1 : State) :
    (recordDone x0 x1).pending = x1.pending ∧ (recordDone x0 x1).tclk = x1.tclk ∧ (recordDone x0 x1).gZero = x1.gZero ∧ (recordDone x0 x1).drawn = x1.drawn ∧ (recordDone x0 x1).power = x1.power ∧ (recordDone x0 x1).boot = x1.boot ∧ (recordDone x0 x1).host = x1.host ∧ (recordDone x0 x1).rings = x1.rings ∧ (recordDone x0 x1).evt = x1.evt ∧ (recordDone x0 x1).tensor = x1.tensor ∧ (recordDone x0 x1).mem = x1.mem ∧ (recordDone x0 x1).ecc = x1.ecc ∧ (recordDone x0 x1).spaces = x1.spaces ∧ (recordDone x0 x1).flash = x1.flash ∧ (recordDone x0 x1).fabric = x1.fabric ∧ (recordDone x0 x1).embed = x1.embed ∧ (recordDone x0 x1).ralid = x1.ralid ∧ (recordDone x0 x1).sec = x1.sec := by
  simp [recordDone]

@[simp] theorem partnerDone_frame (x0 : Nat) (x1 : State) :
    (partnerDone x0 x1).pending = x1.pending ∧ (partnerDone x0 x1).tclk = x1.tclk ∧ (partnerDone x0 x1).gZero = x1.gZero ∧ (partnerDone x0 x1).drawn = x1.drawn ∧ (partnerDone x0 x1).power = x1.power ∧ (partnerDone x0 x1).boot = x1.boot ∧ (partnerDone x0 x1).host = x1.host ∧ (partnerDone x0 x1).rings = x1.rings ∧ (partnerDone x0 x1).evt = x1.evt ∧ (partnerDone x0 x1).tensor = x1.tensor ∧ (partnerDone x0 x1).mem = x1.mem ∧ (partnerDone x0 x1).ecc = x1.ecc ∧ (partnerDone x0 x1).spaces = x1.spaces ∧ (partnerDone x0 x1).flash = x1.flash ∧ (partnerDone x0 x1).fabric = x1.fabric ∧ (partnerDone x0 x1).embed = x1.embed ∧ (partnerDone x0 x1).ralid = x1.ralid ∧ (partnerDone x0 x1).sec = x1.sec := by
  simp [partnerDone]

@[simp] theorem protWritten_frame (x0 : Nat) (x1 : Nat) (x2 : Nat) (x3 : W64) (x4 : State) :
    (protWritten x0 x1 x2 x3 x4).pending = x4.pending ∧ (protWritten x0 x1 x2 x3 x4).tclk = x4.tclk ∧ (protWritten x0 x1 x2 x3 x4).gZero = x4.gZero ∧ (protWritten x0 x1 x2 x3 x4).drawn = x4.drawn ∧ (protWritten x0 x1 x2 x3 x4).power = x4.power ∧ (protWritten x0 x1 x2 x3 x4).boot = x4.boot ∧ (protWritten x0 x1 x2 x3 x4).host = x4.host ∧ (protWritten x0 x1 x2 x3 x4).rings = x4.rings ∧ (protWritten x0 x1 x2 x3 x4).evt = x4.evt ∧ (protWritten x0 x1 x2 x3 x4).tensor = x4.tensor ∧ (protWritten x0 x1 x2 x3 x4).mem = x4.mem ∧ (protWritten x0 x1 x2 x3 x4).ecc = x4.ecc ∧ (protWritten x0 x1 x2 x3 x4).spaces = x4.spaces ∧ (protWritten x0 x1 x2 x3 x4).flash = x4.flash ∧ (protWritten x0 x1 x2 x3 x4).fabric = x4.fabric ∧ (protWritten x0 x1 x2 x3 x4).embed = x4.embed ∧ (protWritten x0 x1 x2 x3 x4).ralid = x4.ralid ∧ (protWritten x0 x1 x2 x3 x4).sec = x4.sec := by
  simp [protWritten]

@[simp] theorem endProt_frame (x0 : Nat) (x1 : Nat) (x2 : Nat) (x3 : W64) (x4 : Nat) (x5 : State) :
    (endProt x0 x1 x2 x3 x4 x5).pending = x5.pending ∧ (endProt x0 x1 x2 x3 x4 x5).tclk = x5.tclk ∧ (endProt x0 x1 x2 x3 x4 x5).gZero = x5.gZero ∧ (endProt x0 x1 x2 x3 x4 x5).power = x5.power ∧ (endProt x0 x1 x2 x3 x4 x5).boot = x5.boot ∧ (endProt x0 x1 x2 x3 x4 x5).rings = x5.rings ∧ (endProt x0 x1 x2 x3 x4 x5).tensor = x5.tensor ∧ (endProt x0 x1 x2 x3 x4 x5).mem = x5.mem ∧ (endProt x0 x1 x2 x3 x4 x5).ecc = x5.ecc ∧ (endProt x0 x1 x2 x3 x4 x5).spaces = x5.spaces ∧ (endProt x0 x1 x2 x3 x4 x5).flash = x5.flash ∧ (endProt x0 x1 x2 x3 x4 x5).fabric = x5.fabric ∧ (endProt x0 x1 x2 x3 x4 x5).embed = x5.embed ∧ (endProt x0 x1 x2 x3 x4 x5).ralid = x5.ralid ∧ (endProt x0 x1 x2 x3 x4 x5).sec = x5.sec := by
  simp [endProt]

@[simp] theorem startRecord_frame (x0 : Nat) (x1 : List Byte) (x2 : Bool) (x3 : State) :
    (startRecord x0 x1 x2 x3).pending = x3.pending ∧ (startRecord x0 x1 x2 x3).tclk = x3.tclk ∧ (startRecord x0 x1 x2 x3).gZero = x3.gZero ∧ (startRecord x0 x1 x2 x3).drawn = x3.drawn ∧ (startRecord x0 x1 x2 x3).power = x3.power ∧ (startRecord x0 x1 x2 x3).boot = x3.boot ∧ (startRecord x0 x1 x2 x3).host = x3.host ∧ (startRecord x0 x1 x2 x3).rings = x3.rings ∧ (startRecord x0 x1 x2 x3).evt = x3.evt ∧ (startRecord x0 x1 x2 x3).tensor = x3.tensor ∧ (startRecord x0 x1 x2 x3).mem = x3.mem ∧ (startRecord x0 x1 x2 x3).ecc = x3.ecc ∧ (startRecord x0 x1 x2 x3).spaces = x3.spaces ∧ (startRecord x0 x1 x2 x3).flash = x3.flash ∧ (startRecord x0 x1 x2 x3).fabric = x3.fabric ∧ (startRecord x0 x1 x2 x3).embed = x3.embed ∧ (startRecord x0 x1 x2 x3).ralid = x3.ralid ∧ (startRecord x0 x1 x2 x3).sec = x3.sec := by
  simp [startRecord]

@[simp] theorem selectSector_frame (x0 : W32) (x1 : State) :
    (selectSector x0 x1).pending = x1.pending ∧ (selectSector x0 x1).tclk = x1.tclk ∧ (selectSector x0 x1).gZero = x1.gZero ∧ (selectSector x0 x1).drawn = x1.drawn ∧ (selectSector x0 x1).power = x1.power ∧ (selectSector x0 x1).boot = x1.boot ∧ (selectSector x0 x1).host = x1.host ∧ (selectSector x0 x1).rings = x1.rings ∧ (selectSector x0 x1).evt = x1.evt ∧ (selectSector x0 x1).tensor = x1.tensor ∧ (selectSector x0 x1).mem = x1.mem ∧ (selectSector x0 x1).ecc = x1.ecc ∧ (selectSector x0 x1).spaces = x1.spaces ∧ (selectSector x0 x1).flash = x1.flash ∧ (selectSector x0 x1).fabric = x1.fabric ∧ (selectSector x0 x1).embed = x1.embed ∧ (selectSector x0 x1).ralid = x1.ralid ∧ (selectSector x0 x1).sec = x1.sec := by
  simp [selectSector]

@[simp] theorem writeBankStatus_frame (x0 : Nat) (x1 : W32) (x2 : State) :
    (writeBankStatus x0 x1 x2).pending = x2.pending ∧ (writeBankStatus x0 x1 x2).tclk = x2.tclk ∧ (writeBankStatus x0 x1 x2).gZero = x2.gZero ∧ (writeBankStatus x0 x1 x2).drawn = x2.drawn ∧ (writeBankStatus x0 x1 x2).power = x2.power ∧ (writeBankStatus x0 x1 x2).boot = x2.boot ∧ (writeBankStatus x0 x1 x2).host = x2.host ∧ (writeBankStatus x0 x1 x2).rings = x2.rings ∧ (writeBankStatus x0 x1 x2).evt = x2.evt ∧ (writeBankStatus x0 x1 x2).tensor = x2.tensor ∧ (writeBankStatus x0 x1 x2).mem = x2.mem ∧ (writeBankStatus x0 x1 x2).ecc = x2.ecc ∧ (writeBankStatus x0 x1 x2).spaces = x2.spaces ∧ (writeBankStatus x0 x1 x2).flash = x2.flash ∧ (writeBankStatus x0 x1 x2).fabric = x2.fabric ∧ (writeBankStatus x0 x1 x2).embed = x2.embed ∧ (writeBankStatus x0 x1 x2).ralid = x2.ralid ∧ (writeBankStatus x0 x1 x2).sec = x2.sec := by
  simp [writeBankStatus]

@[simp] theorem reErase_frame (x0 : Nat) (x1 : State) :
    (reErase x0 x1).pending = x1.pending ∧ (reErase x0 x1).tclk = x1.tclk ∧ (reErase x0 x1).gZero = x1.gZero ∧ (reErase x0 x1).power = x1.power ∧ (reErase x0 x1).boot = x1.boot ∧ (reErase x0 x1).rings = x1.rings ∧ (reErase x0 x1).tensor = x1.tensor ∧ (reErase x0 x1).mem = x1.mem ∧ (reErase x0 x1).ecc = x1.ecc ∧ (reErase x0 x1).spaces = x1.spaces ∧ (reErase x0 x1).flash = x1.flash ∧ (reErase x0 x1).fabric = x1.fabric ∧ (reErase x0 x1).embed = x1.embed ∧ (reErase x0 x1).ralid = x1.ralid ∧ (reErase x0 x1).sec = x1.sec := by
  simp [reErase]

@[simp] theorem scanSector_frame (x0 : Nat) (x1 : State) :
    (scanSector x0 x1).pending = x1.pending ∧ (scanSector x0 x1).tclk = x1.tclk ∧ (scanSector x0 x1).gZero = x1.gZero ∧ (scanSector x0 x1).power = x1.power ∧ (scanSector x0 x1).boot = x1.boot ∧ (scanSector x0 x1).rings = x1.rings ∧ (scanSector x0 x1).tensor = x1.tensor ∧ (scanSector x0 x1).mem = x1.mem ∧ (scanSector x0 x1).ecc = x1.ecc ∧ (scanSector x0 x1).spaces = x1.spaces ∧ (scanSector x0 x1).flash = x1.flash ∧ (scanSector x0 x1).fabric = x1.fabric ∧ (scanSector x0 x1).embed = x1.embed ∧ (scanSector x0 x1).ralid = x1.ralid ∧ (scanSector x0 x1).sec = x1.sec := by
  unfold scanSector; dsimp only; (repeat' split) <;> simp

@[simp] theorem scanMarks_frame (x0 : State) :
    (scanMarks x0).pending = x0.pending ∧ (scanMarks x0).tclk = x0.tclk ∧ (scanMarks x0).gZero = x0.gZero ∧ (scanMarks x0).power = x0.power ∧ (scanMarks x0).boot = x0.boot ∧ (scanMarks x0).rings = x0.rings ∧ (scanMarks x0).tensor = x0.tensor ∧ (scanMarks x0).mem = x0.mem ∧ (scanMarks x0).ecc = x0.ecc ∧ (scanMarks x0).spaces = x0.spaces ∧ (scanMarks x0).flash = x0.flash ∧ (scanMarks x0).fabric = x0.fabric ∧ (scanMarks x0).embed = x0.embed ∧ (scanMarks x0).ralid = x0.ralid ∧ (scanMarks x0).sec = x0.sec := by
  simp [scanMarks]

@[simp] theorem loadGroup_frame (x0 : Nat) (x1 : Nat) (x2 : State) :
    (loadGroup x0 x1 x2).pending = x2.pending ∧ (loadGroup x0 x1 x2).tclk = x2.tclk ∧ (loadGroup x0 x1 x2).gZero = x2.gZero ∧ (loadGroup x0 x1 x2).drawn = x2.drawn ∧ (loadGroup x0 x1 x2).power = x2.power ∧ (loadGroup x0 x1 x2).boot = x2.boot ∧ (loadGroup x0 x1 x2).rings = x2.rings ∧ (loadGroup x0 x1 x2).tensor = x2.tensor ∧ (loadGroup x0 x1 x2).mem = x2.mem ∧ (loadGroup x0 x1 x2).ecc = x2.ecc ∧ (loadGroup x0 x1 x2).spaces = x2.spaces ∧ (loadGroup x0 x1 x2).flash = x2.flash ∧ (loadGroup x0 x1 x2).fabric = x2.fabric ∧ (loadGroup x0 x1 x2).embed = x2.embed ∧ (loadGroup x0 x1 x2).ralid = x2.ralid ∧ (loadGroup x0 x1 x2).sec = x2.sec := by
  unfold loadGroup; dsimp only; (repeat' split) <;> simp

@[simp] theorem loadProtection_frame (x0 : State) :
    (loadProtection x0).pending = x0.pending ∧ (loadProtection x0).tclk = x0.tclk ∧ (loadProtection x0).gZero = x0.gZero ∧ (loadProtection x0).drawn = x0.drawn ∧ (loadProtection x0).power = x0.power ∧ (loadProtection x0).boot = x0.boot ∧ (loadProtection x0).rings = x0.rings ∧ (loadProtection x0).tensor = x0.tensor ∧ (loadProtection x0).mem = x0.mem ∧ (loadProtection x0).ecc = x0.ecc ∧ (loadProtection x0).spaces = x0.spaces ∧ (loadProtection x0).flash = x0.flash ∧ (loadProtection x0).fabric = x0.fabric ∧ (loadProtection x0).embed = x0.embed ∧ (loadProtection x0).ralid = x0.ralid ∧ (loadProtection x0).sec = x0.sec := by
  simp [loadProtection]

@[simp] theorem openCopy_frame (x0 : State) :
    (openCopy x0).pending = x0.pending ∧ (openCopy x0).tclk = x0.tclk ∧ (openCopy x0).gZero = x0.gZero ∧ (openCopy x0).power = x0.power ∧ (openCopy x0).boot = x0.boot ∧ (openCopy x0).rings = x0.rings ∧ (openCopy x0).tensor = x0.tensor ∧ (openCopy x0).mem = x0.mem ∧ (openCopy x0).ecc = x0.ecc ∧ (openCopy x0).spaces = x0.spaces ∧ (openCopy x0).flash = x0.flash ∧ (openCopy x0).fabric = x0.fabric ∧ (openCopy x0).embed = x0.embed ∧ (openCopy x0).ralid = x0.ralid ∧ (openCopy x0).sec = x0.sec := by
  simp [openCopy]

@[simp] theorem openLayout_frame (x0 : State) :
    (openLayout x0).pending = x0.pending ∧ (openLayout x0).tclk = x0.tclk ∧ (openLayout x0).gZero = x0.gZero ∧ (openLayout x0).power = x0.power ∧ (openLayout x0).boot = x0.boot ∧ (openLayout x0).rings = x0.rings ∧ (openLayout x0).tensor = x0.tensor ∧ (openLayout x0).mem = x0.mem ∧ (openLayout x0).ecc = x0.ecc ∧ (openLayout x0).spaces = x0.spaces ∧ (openLayout x0).flash = x0.flash ∧ (openLayout x0).fabric = x0.fabric ∧ (openLayout x0).embed = x0.embed ∧ (openLayout x0).ralid = x0.ralid ∧ (openLayout x0).sec = x0.sec := by
  simp [openLayout]

@[simp] theorem countSkipped_frame (x0 : State) :
    (countSkipped x0).pending = x0.pending ∧ (countSkipped x0).tclk = x0.tclk ∧ (countSkipped x0).gZero = x0.gZero ∧ (countSkipped x0).drawn = x0.drawn ∧ (countSkipped x0).power = x0.power ∧ (countSkipped x0).boot = x0.boot ∧ (countSkipped x0).host = x0.host ∧ (countSkipped x0).rings = x0.rings ∧ (countSkipped x0).evt = x0.evt ∧ (countSkipped x0).tensor = x0.tensor ∧ (countSkipped x0).mem = x0.mem ∧ (countSkipped x0).spaces = x0.spaces ∧ (countSkipped x0).flash = x0.flash ∧ (countSkipped x0).fabric = x0.fabric ∧ (countSkipped x0).embed = x0.embed ∧ (countSkipped x0).ralid = x0.ralid ∧ (countSkipped x0).cfl = x0.cfl ∧ (countSkipped x0).sec = x0.sec := by
  simp [countSkipped]

@[simp] theorem cflStartUp_frame (x0 : State) :
    (cflStartUp x0).pending = x0.pending ∧ (cflStartUp x0).tclk = x0.tclk ∧ (cflStartUp x0).gZero = x0.gZero ∧ (cflStartUp x0).power = x0.power ∧ (cflStartUp x0).boot = x0.boot ∧ (cflStartUp x0).rings = x0.rings ∧ (cflStartUp x0).tensor = x0.tensor ∧ (cflStartUp x0).mem = x0.mem ∧ (cflStartUp x0).spaces = x0.spaces ∧ (cflStartUp x0).flash = x0.flash ∧ (cflStartUp x0).fabric = x0.fabric ∧ (cflStartUp x0).embed = x0.embed ∧ (cflStartUp x0).ralid = x0.ralid ∧ (cflStartUp x0).sec = x0.sec := by
  simp [cflStartUp]

end Sys2Proof.Machine
end

