-- ==== Sys2Proof/Laws/FramesResetOps.lean ====
section
/-! SUPPORT. What each shared operation of Machine/ResetOps.lean leaves as it is. -/

namespace Sys2Proof.Machine

@[simp] theorem setBoot_frame (x0 : Boot → Boot) (x1 : State) :
    (setBoot x0 x1).pending = x1.pending ∧ (setBoot x0 x1).tclk = x1.tclk ∧ (setBoot x0 x1).gZero = x1.gZero ∧ (setBoot x0 x1).drawn = x1.drawn ∧ (setBoot x0 x1).power = x1.power ∧ (setBoot x0 x1).host = x1.host ∧ (setBoot x0 x1).rings = x1.rings ∧ (setBoot x0 x1).evt = x1.evt ∧ (setBoot x0 x1).tensor = x1.tensor ∧ (setBoot x0 x1).mem = x1.mem ∧ (setBoot x0 x1).ecc = x1.ecc ∧ (setBoot x0 x1).spaces = x1.spaces ∧ (setBoot x0 x1).flash = x1.flash ∧ (setBoot x0 x1).fabric = x1.fabric ∧ (setBoot x0 x1).embed = x1.embed ∧ (setBoot x0 x1).ralid = x1.ralid ∧ (setBoot x0 x1).cfl = x1.cfl ∧ (setBoot x0 x1).sec = x1.sec := by
  simp [setBoot]

@[simp] theorem setPower_frame (x0 : Power → Power) (x1 : State) :
    (setPower x0 x1).pending = x1.pending ∧ (setPower x0 x1).tclk = x1.tclk ∧ (setPower x0 x1).gZero = x1.gZero ∧ (setPower x0 x1).drawn = x1.drawn ∧ (setPower x0 x1).boot = x1.boot ∧ (setPower x0 x1).host = x1.host ∧ (setPower x0 x1).rings = x1.rings ∧ (setPower x0 x1).evt = x1.evt ∧ (setPower x0 x1).tensor = x1.tensor ∧ (setPower x0 x1).mem = x1.mem ∧ (setPower x0 x1).ecc = x1.ecc ∧ (setPower x0 x1).spaces = x1.spaces ∧ (setPower x0 x1).flash = x1.flash ∧ (setPower x0 x1).fabric = x1.fabric ∧ (setPower x0 x1).embed = x1.embed ∧ (setPower x0 x1).ralid = x1.ralid ∧ (setPower x0 x1).cfl = x1.cfl ∧ (setPower x0 x1).sec = x1.sec := by
  simp [setPower]

@[simp] theorem interruptBank_frame (x0 : Nat) (x1 : State) :
    (interruptBank x0 x1).pending = x1.pending ∧ (interruptBank x0 x1).tclk = x1.tclk ∧ (interruptBank x0 x1).gZero = x1.gZero ∧ (interruptBank x0 x1).power = x1.power ∧ (interruptBank x0 x1).boot = x1.boot ∧ (interruptBank x0 x1).host = x1.host ∧ (interruptBank x0 x1).rings = x1.rings ∧ (interruptBank x0 x1).evt = x1.evt ∧ (interruptBank x0 x1).tensor = x1.tensor ∧ (interruptBank x0 x1).mem = x1.mem ∧ (interruptBank x0 x1).ecc = x1.ecc ∧ (interruptBank x0 x1).spaces = x1.spaces ∧ (interruptBank x0 x1).flash = x1.flash ∧ (interruptBank x0 x1).fabric = x1.fabric ∧ (interruptBank x0 x1).embed = x1.embed ∧ (interruptBank x0 x1).ralid = x1.ralid ∧ (interruptBank x0 x1).sec = x1.sec := by
  unfold interruptBank; dsimp only; (repeat' split) <;> simp

@[simp] theorem takeCfl_frame (x0 : State) :
    (takeCfl x0).pending = x0.pending ∧ (takeCfl x0).tclk = x0.tclk ∧ (takeCfl x0).gZero = x0.gZero ∧ (takeCfl x0).power = x0.power ∧ (takeCfl x0).boot = x0.boot ∧ (takeCfl x0).host = x0.host ∧ (takeCfl x0).rings = x0.rings ∧ (takeCfl x0).evt = x0.evt ∧ (takeCfl x0).tensor = x0.tensor ∧ (takeCfl x0).mem = x0.mem ∧ (takeCfl x0).ecc = x0.ecc ∧ (takeCfl x0).spaces = x0.spaces ∧ (takeCfl x0).flash = x0.flash ∧ (takeCfl x0).fabric = x0.fabric ∧ (takeCfl x0).embed = x0.embed ∧ (takeCfl x0).ralid = x0.ralid ∧ (takeCfl x0).sec = x0.sec := by
  simp [takeCfl]

@[simp] theorem takeChannel_frame (x0 : Nat) (x1 : State) :
    (takeChannel x0 x1).pending = x1.pending ∧ (takeChannel x0 x1).tclk = x1.tclk ∧ (takeChannel x0 x1).gZero = x1.gZero ∧ (takeChannel x0 x1).drawn = x1.drawn ∧ (takeChannel x0 x1).power = x1.power ∧ (takeChannel x0 x1).boot = x1.boot ∧ (takeChannel x0 x1).host = x1.host ∧ (takeChannel x0 x1).rings = x1.rings ∧ (takeChannel x0 x1).evt = x1.evt ∧ (takeChannel x0 x1).tensor = x1.tensor ∧ (takeChannel x0 x1).mem = x1.mem ∧ (takeChannel x0 x1).ecc = x1.ecc ∧ (takeChannel x0 x1).spaces = x1.spaces ∧ (takeChannel x0 x1).fabric = x1.fabric ∧ (takeChannel x0 x1).embed = x1.embed ∧ (takeChannel x0 x1).ralid = x1.ralid ∧ (takeChannel x0 x1).cfl = x1.cfl ∧ (takeChannel x0 x1).sec = x1.sec := by
  simp [takeChannel]

@[simp] theorem programRecord_frame (x0 : Nat) (x1 : EvtRec) (x2 : State) :
    (programRecord x0 x1 x2).pending = x2.pending ∧ (programRecord x0 x1 x2).tclk = x2.tclk ∧ (programRecord x0 x1 x2).gZero = x2.gZero ∧ (programRecord x0 x1 x2).drawn = x2.drawn ∧ (programRecord x0 x1 x2).power = x2.power ∧ (programRecord x0 x1 x2).boot = x2.boot ∧ (programRecord x0 x1 x2).host = x2.host ∧ (programRecord x0 x1 x2).rings = x2.rings ∧ (programRecord x0 x1 x2).evt = x2.evt ∧ (programRecord x0 x1 x2).tensor = x2.tensor ∧ (programRecord x0 x1 x2).mem = x2.mem ∧ (programRecord x0 x1 x2).ecc = x2.ecc ∧ (programRecord x0 x1 x2).spaces = x2.spaces ∧ (programRecord x0 x1 x2).flash = x2.flash ∧ (programRecord x0 x1 x2).fabric = x2.fabric ∧ (programRecord x0 x1 x2).embed = x2.embed ∧ (programRecord x0 x1 x2).ralid = x2.ralid ∧ (programRecord x0 x1 x2).sec = x2.sec := by
  simp [programRecord]

@[simp] theorem programLoss_frame (x0 : Nat) (x1 : List EvtRec) (x2 : State) :
    (programLoss x0 x1 x2).pending = x2.pending ∧ (programLoss x0 x1 x2).tclk = x2.tclk ∧ (programLoss x0 x1 x2).gZero = x2.gZero ∧ (programLoss x0 x1 x2).drawn = x2.drawn ∧ (programLoss x0 x1 x2).power = x2.power ∧ (programLoss x0 x1 x2).boot = x2.boot ∧ (programLoss x0 x1 x2).host = x2.host ∧ (programLoss x0 x1 x2).rings = x2.rings ∧ (programLoss x0 x1 x2).evt = x2.evt ∧ (programLoss x0 x1 x2).tensor = x2.tensor ∧ (programLoss x0 x1 x2).mem = x2.mem ∧ (programLoss x0 x1 x2).ecc = x2.ecc ∧ (programLoss x0 x1 x2).spaces = x2.spaces ∧ (programLoss x0 x1 x2).flash = x2.flash ∧ (programLoss x0 x1 x2).fabric = x2.fabric ∧ (programLoss x0 x1 x2).embed = x2.embed ∧ (programLoss x0 x1 x2).ralid = x2.ralid ∧ (programLoss x0 x1 x2).sec = x2.sec := by
  fun_induction programLoss x0 x1 x2 <;> simp_all

@[simp] theorem writeLoss_frame (x0 : Bool) (x1 : State) :
    (writeLoss x0 x1).pending = x1.pending ∧ (writeLoss x0 x1).tclk = x1.tclk ∧ (writeLoss x0 x1).gZero = x1.gZero ∧ (writeLoss x0 x1).drawn = x1.drawn ∧ (writeLoss x0 x1).power = x1.power ∧ (writeLoss x0 x1).boot = x1.boot ∧ (writeLoss x0 x1).host = x1.host ∧ (writeLoss x0 x1).rings = x1.rings ∧ (writeLoss x0 x1).evt = x1.evt ∧ (writeLoss x0 x1).tensor = x1.tensor ∧ (writeLoss x0 x1).mem = x1.mem ∧ (writeLoss x0 x1).ecc = x1.ecc ∧ (writeLoss x0 x1).spaces = x1.spaces ∧ (writeLoss x0 x1).flash = x1.flash ∧ (writeLoss x0 x1).fabric = x1.fabric ∧ (writeLoss x0 x1).embed = x1.embed ∧ (writeLoss x0 x1).ralid = x1.ralid ∧ (writeLoss x0 x1).sec = x1.sec := by
  simp [writeLoss]

@[simp] theorem clearHost_frame (x0 : Bool) (x1 : State) :
    (clearHost x0 x1).pending = x1.pending ∧ (clearHost x0 x1).tclk = x1.tclk ∧ (clearHost x0 x1).gZero = x1.gZero ∧ (clearHost x0 x1).drawn = x1.drawn ∧ (clearHost x0 x1).power = x1.power ∧ (clearHost x0 x1).boot = x1.boot ∧ (clearHost x0 x1).rings = x1.rings ∧ (clearHost x0 x1).evt = x1.evt ∧ (clearHost x0 x1).tensor = x1.tensor ∧ (clearHost x0 x1).mem = x1.mem ∧ (clearHost x0 x1).ecc = x1.ecc ∧ (clearHost x0 x1).spaces = x1.spaces ∧ (clearHost x0 x1).flash = x1.flash ∧ (clearHost x0 x1).fabric = x1.fabric ∧ (clearHost x0 x1).embed = x1.embed ∧ (clearHost x0 x1).ralid = x1.ralid ∧ (clearHost x0 x1).cfl = x1.cfl ∧ (clearHost x0 x1).sec = x1.sec := by
  simp [clearHost]

@[simp] theorem clearEvt_frame (x0 : Bool) (x1 : State) :
    (clearEvt x0 x1).pending = x1.pending ∧ (clearEvt x0 x1).tclk = x1.tclk ∧ (clearEvt x0 x1).gZero = x1.gZero ∧ (clearEvt x0 x1).drawn = x1.drawn ∧ (clearEvt x0 x1).power = x1.power ∧ (clearEvt x0 x1).boot = x1.boot ∧ (clearEvt x0 x1).host = x1.host ∧ (clearEvt x0 x1).rings = x1.rings ∧ (clearEvt x0 x1).tensor = x1.tensor ∧ (clearEvt x0 x1).mem = x1.mem ∧ (clearEvt x0 x1).ecc = x1.ecc ∧ (clearEvt x0 x1).spaces = x1.spaces ∧ (clearEvt x0 x1).flash = x1.flash ∧ (clearEvt x0 x1).fabric = x1.fabric ∧ (clearEvt x0 x1).embed = x1.embed ∧ (clearEvt x0 x1).ralid = x1.ralid ∧ (clearEvt x0 x1).cfl = x1.cfl ∧ (clearEvt x0 x1).sec = x1.sec := by
  simp [clearEvt]

@[simp] theorem clearMem_frame (x0 : Bool) (x1 : State) :
    (clearMem x0 x1).pending = x1.pending ∧ (clearMem x0 x1).tclk = x1.tclk ∧ (clearMem x0 x1).gZero = x1.gZero ∧ (clearMem x0 x1).drawn = x1.drawn ∧ (clearMem x0 x1).power = x1.power ∧ (clearMem x0 x1).boot = x1.boot ∧ (clearMem x0 x1).host = x1.host ∧ (clearMem x0 x1).rings = x1.rings ∧ (clearMem x0 x1).evt = x1.evt ∧ (clearMem x0 x1).tensor = x1.tensor ∧ (clearMem x0 x1).ecc = x1.ecc ∧ (clearMem x0 x1).spaces = x1.spaces ∧ (clearMem x0 x1).flash = x1.flash ∧ (clearMem x0 x1).fabric = x1.fabric ∧ (clearMem x0 x1).embed = x1.embed ∧ (clearMem x0 x1).ralid = x1.ralid ∧ (clearMem x0 x1).cfl = x1.cfl ∧ (clearMem x0 x1).sec = x1.sec := by
  simp [clearMem]

@[simp] theorem clearFlash_frame (x0 : State) :
    (clearFlash x0).pending = x0.pending ∧ (clearFlash x0).tclk = x0.tclk ∧ (clearFlash x0).gZero = x0.gZero ∧ (clearFlash x0).drawn = x0.drawn ∧ (clearFlash x0).power = x0.power ∧ (clearFlash x0).boot = x0.boot ∧ (clearFlash x0).host = x0.host ∧ (clearFlash x0).rings = x0.rings ∧ (clearFlash x0).evt = x0.evt ∧ (clearFlash x0).tensor = x0.tensor ∧ (clearFlash x0).mem = x0.mem ∧ (clearFlash x0).ecc = x0.ecc ∧ (clearFlash x0).spaces = x0.spaces ∧ (clearFlash x0).fabric = x0.fabric ∧ (clearFlash x0).embed = x0.embed ∧ (clearFlash x0).ralid = x0.ralid ∧ (clearFlash x0).cfl = x0.cfl ∧ (clearFlash x0).sec = x0.sec := by
  simp [clearFlash]

@[simp] theorem clearEcc_frame (x0 : Bool) (x1 : State) :
    (clearEcc x0 x1).pending = x1.pending ∧ (clearEcc x0 x1).tclk = x1.tclk ∧ (clearEcc x0 x1).gZero = x1.gZero ∧ (clearEcc x0 x1).drawn = x1.drawn ∧ (clearEcc x0 x1).power = x1.power ∧ (clearEcc x0 x1).boot = x1.boot ∧ (clearEcc x0 x1).host = x1.host ∧ (clearEcc x0 x1).rings = x1.rings ∧ (clearEcc x0 x1).evt = x1.evt ∧ (clearEcc x0 x1).tensor = x1.tensor ∧ (clearEcc x0 x1).mem = x1.mem ∧ (clearEcc x0 x1).spaces = x1.spaces ∧ (clearEcc x0 x1).flash = x1.flash ∧ (clearEcc x0 x1).fabric = x1.fabric ∧ (clearEcc x0 x1).embed = x1.embed ∧ (clearEcc x0 x1).ralid = x1.ralid ∧ (clearEcc x0 x1).cfl = x1.cfl ∧ (clearEcc x0 x1).sec = x1.sec := by
  simp [clearEcc]

@[simp] theorem clearCfl_frame (x0 : Bool) (x1 : State) :
    (clearCfl x0 x1).pending = x1.pending ∧ (clearCfl x0 x1).tclk = x1.tclk ∧ (clearCfl x0 x1).gZero = x1.gZero ∧ (clearCfl x0 x1).drawn = x1.drawn ∧ (clearCfl x0 x1).power = x1.power ∧ (clearCfl x0 x1).boot = x1.boot ∧ (clearCfl x0 x1).host = x1.host ∧ (clearCfl x0 x1).rings = x1.rings ∧ (clearCfl x0 x1).evt = x1.evt ∧ (clearCfl x0 x1).tensor = x1.tensor ∧ (clearCfl x0 x1).mem = x1.mem ∧ (clearCfl x0 x1).ecc = x1.ecc ∧ (clearCfl x0 x1).spaces = x1.spaces ∧ (clearCfl x0 x1).flash = x1.flash ∧ (clearCfl x0 x1).fabric = x1.fabric ∧ (clearCfl x0 x1).embed = x1.embed ∧ (clearCfl x0 x1).ralid = x1.ralid ∧ (clearCfl x0 x1).sec = x1.sec := by
  simp [clearCfl]

@[simp] theorem clearSec_frame (x0 : State) :
    (clearSec x0).pending = x0.pending ∧ (clearSec x0).tclk = x0.tclk ∧ (clearSec x0).gZero = x0.gZero ∧ (clearSec x0).power = x0.power ∧ (clearSec x0).boot = x0.boot ∧ (clearSec x0).host = x0.host ∧ (clearSec x0).rings = x0.rings ∧ (clearSec x0).evt = x0.evt ∧ (clearSec x0).tensor = x0.tensor ∧ (clearSec x0).mem = x0.mem ∧ (clearSec x0).ecc = x0.ecc ∧ (clearSec x0).spaces = x0.spaces ∧ (clearSec x0).flash = x0.flash ∧ (clearSec x0).fabric = x0.fabric ∧ (clearSec x0).embed = x0.embed ∧ (clearSec x0).ralid = x0.ralid ∧ (clearSec x0).cfl = x0.cfl := by
  simp [clearSec]

@[simp] theorem clearPower_frame (x0 : State) :
    (clearPower x0).pending = x0.pending ∧ (clearPower x0).tclk = x0.tclk ∧ (clearPower x0).gZero = x0.gZero ∧ (clearPower x0).drawn = x0.drawn ∧ (clearPower x0).boot = x0.boot ∧ (clearPower x0).host = x0.host ∧ (clearPower x0).rings = x0.rings ∧ (clearPower x0).evt = x0.evt ∧ (clearPower x0).tensor = x0.tensor ∧ (clearPower x0).mem = x0.mem ∧ (clearPower x0).ecc = x0.ecc ∧ (clearPower x0).spaces = x0.spaces ∧ (clearPower x0).flash = x0.flash ∧ (clearPower x0).fabric = x0.fabric ∧ (clearPower x0).embed = x0.embed ∧ (clearPower x0).ralid = x0.ralid ∧ (clearPower x0).cfl = x0.cfl ∧ (clearPower x0).sec = x0.sec := by
  simp [clearPower]

@[simp] theorem clearBoot_frame (x0 : Bool) (x1 : State) :
    (clearBoot x0 x1).pending = x1.pending ∧ (clearBoot x0 x1).tclk = x1.tclk ∧ (clearBoot x0 x1).gZero = x1.gZero ∧ (clearBoot x0 x1).drawn = x1.drawn ∧ (clearBoot x0 x1).power = x1.power ∧ (clearBoot x0 x1).host = x1.host ∧ (clearBoot x0 x1).rings = x1.rings ∧ (clearBoot x0 x1).evt = x1.evt ∧ (clearBoot x0 x1).tensor = x1.tensor ∧ (clearBoot x0 x1).mem = x1.mem ∧ (clearBoot x0 x1).ecc = x1.ecc ∧ (clearBoot x0 x1).spaces = x1.spaces ∧ (clearBoot x0 x1).flash = x1.flash ∧ (clearBoot x0 x1).fabric = x1.fabric ∧ (clearBoot x0 x1).embed = x1.embed ∧ (clearBoot x0 x1).ralid = x1.ralid ∧ (clearBoot x0 x1).cfl = x1.cfl ∧ (clearBoot x0 x1).sec = x1.sec := by
  simp [clearBoot]

@[simp] theorem clearAll_frame (x0 : Bool) (x1 : State) :
    (clearAll x0 x1).pending = x1.pending ∧ (clearAll x0 x1).tclk = x1.tclk ∧ (clearAll x0 x1).spaces = x1.spaces := by
  simp [clearAll]

@[simp] theorem startRelease_frame (x0 : State) :
    (startRelease x0).pending = x0.pending ∧ (startRelease x0).tclk = x0.tclk ∧ (startRelease x0).gZero = x0.gZero ∧ (startRelease x0).drawn = x0.drawn ∧ (startRelease x0).power = x0.power ∧ (startRelease x0).host = x0.host ∧ (startRelease x0).rings = x0.rings ∧ (startRelease x0).evt = x0.evt ∧ (startRelease x0).tensor = x0.tensor ∧ (startRelease x0).mem = x0.mem ∧ (startRelease x0).ecc = x0.ecc ∧ (startRelease x0).spaces = x0.spaces ∧ (startRelease x0).flash = x0.flash ∧ (startRelease x0).fabric = x0.fabric ∧ (startRelease x0).embed = x0.embed ∧ (startRelease x0).ralid = x0.ralid ∧ (startRelease x0).cfl = x0.cfl ∧ (startRelease x0).sec = x0.sec := by
  simp [startRelease]

@[simp] theorem takeFree_frame (x0 : List PulseUnit) (x1 : State) :
    (takeFree x0 x1).pending = x1.pending ∧ (takeFree x0 x1).tclk = x1.tclk ∧ (takeFree x0 x1).gZero = x1.gZero ∧ (takeFree x0 x1).power = x1.power ∧ (takeFree x0 x1).boot = x1.boot ∧ (takeFree x0 x1).host = x1.host ∧ (takeFree x0 x1).rings = x1.rings ∧ (takeFree x0 x1).evt = x1.evt ∧ (takeFree x0 x1).tensor = x1.tensor ∧ (takeFree x0 x1).mem = x1.mem ∧ (takeFree x0 x1).ecc = x1.ecc ∧ (takeFree x0 x1).spaces = x1.spaces ∧ (takeFree x0 x1).flash = x1.flash ∧ (takeFree x0 x1).fabric = x1.fabric ∧ (takeFree x0 x1).embed = x1.embed ∧ (takeFree x0 x1).ralid = x1.ralid ∧ (takeFree x0 x1).sec = x1.sec := by
  simp [takeFree]

@[simp] theorem dropRails_frame (x0 : State) :
    (dropRails x0).pending = x0.pending ∧ (dropRails x0).tclk = x0.tclk ∧ (dropRails x0).gZero = x0.gZero ∧ (dropRails x0).drawn = x0.drawn ∧ (dropRails x0).host = x0.host ∧ (dropRails x0).rings = x0.rings ∧ (dropRails x0).evt = x0.evt ∧ (dropRails x0).tensor = x0.tensor ∧ (dropRails x0).mem = x0.mem ∧ (dropRails x0).ecc = x0.ecc ∧ (dropRails x0).spaces = x0.spaces ∧ (dropRails x0).flash = x0.flash ∧ (dropRails x0).fabric = x0.fabric ∧ (dropRails x0).embed = x0.embed ∧ (dropRails x0).ralid = x0.ralid ∧ (dropRails x0).cfl = x0.cfl ∧ (dropRails x0).sec = x0.sec := by
  simp [dropRails]

@[simp] theorem fullReset_frame (x0 : Nat) (x1 : Bool) (x2 : State) :
    (fullReset x0 x1 x2).pending = x2.pending ∧ (fullReset x0 x1 x2).tclk = x2.tclk ∧ (fullReset x0 x1 x2).spaces = x2.spaces := by
  simp [fullReset]

@[simp] theorem endAllJobs_frame (x0 : State) :
    (endAllJobs x0).pending = x0.pending ∧ (endAllJobs x0).tclk = x0.tclk ∧ (endAllJobs x0).gZero = x0.gZero ∧ (endAllJobs x0).power = x0.power ∧ (endAllJobs x0).boot = x0.boot ∧ (endAllJobs x0).ecc = x0.ecc ∧ (endAllJobs x0).spaces = x0.spaces ∧ (endAllJobs x0).ralid = x0.ralid ∧ (endAllJobs x0).cfl = x0.cfl ∧ (endAllJobs x0).sec = x0.sec := by
  unfold endAllJobs; dsimp only; (repeat' split) <;> simp

@[simp] theorem dropCommandWork_frame (x0 : State) :
    (dropCommandWork x0).pending = x0.pending ∧ (dropCommandWork x0).tclk = x0.tclk ∧ (dropCommandWork x0).gZero = x0.gZero ∧ (dropCommandWork x0).drawn = x0.drawn ∧ (dropCommandWork x0).power = x0.power ∧ (dropCommandWork x0).boot = x0.boot ∧ (dropCommandWork x0).host = x0.host ∧ (dropCommandWork x0).rings = x0.rings ∧ (dropCommandWork x0).evt = x0.evt ∧ (dropCommandWork x0).tensor = x0.tensor ∧ (dropCommandWork x0).ecc = x0.ecc ∧ (dropCommandWork x0).spaces = x0.spaces ∧ (dropCommandWork x0).embed = x0.embed ∧ (dropCommandWork x0).ralid = x0.ralid ∧ (dropCommandWork x0).cfl = x0.cfl ∧ (dropCommandWork x0).sec = x0.sec := by
  simp [dropCommandWork]

@[simp] theorem hostFrontEnd_frame (x0 : Bool) (x1 : State) :
    (hostFrontEnd x0 x1).pending = x1.pending ∧ (hostFrontEnd x0 x1).tclk = x1.tclk ∧ (hostFrontEnd x0 x1).gZero = x1.gZero ∧ (hostFrontEnd x0 x1).drawn = x1.drawn ∧ (hostFrontEnd x0 x1).power = x1.power ∧ (hostFrontEnd x0 x1).boot = x1.boot ∧ (hostFrontEnd x0 x1).rings = x1.rings ∧ (hostFrontEnd x0 x1).evt = x1.evt ∧ (hostFrontEnd x0 x1).tensor = x1.tensor ∧ (hostFrontEnd x0 x1).mem = x1.mem ∧ (hostFrontEnd x0 x1).ecc = x1.ecc ∧ (hostFrontEnd x0 x1).spaces = x1.spaces ∧ (hostFrontEnd x0 x1).flash = x1.flash ∧ (hostFrontEnd x0 x1).fabric = x1.fabric ∧ (hostFrontEnd x0 x1).embed = x1.embed ∧ (hostFrontEnd x0 x1).ralid = x1.ralid ∧ (hostFrontEnd x0 x1).cfl = x1.cfl ∧ (hostFrontEnd x0 x1).sec = x1.sec := by
  simp [hostFrontEnd]

@[simp] theorem hostReset_frame (x0 : Nat) (x1 : Bool) (x2 : State) :
    (hostReset x0 x1 x2).pending = x2.pending ∧ (hostReset x0 x1 x2).tclk = x2.tclk ∧ (hostReset x0 x1 x2).gZero = x2.gZero ∧ (hostReset x0 x1 x2).power = x2.power ∧ (hostReset x0 x1 x2).ecc = x2.ecc ∧ (hostReset x0 x1 x2).spaces = x2.spaces := by
  simp [hostReset]

@[simp] theorem linkLost_frame (x0 : State) :
    (linkLost x0).pending = x0.pending ∧ (linkLost x0).tclk = x0.tclk ∧ (linkLost x0).gZero = x0.gZero ∧ (linkLost x0).power = x0.power ∧ (linkLost x0).ecc = x0.ecc ∧ (linkLost x0).spaces = x0.spaces := by
  simp [linkLost]

@[simp] theorem startInputLoss_frame (x0 : State) :
    (startInputLoss x0).pending = x0.pending ∧ (startInputLoss x0).tclk = x0.tclk ∧ (startInputLoss x0).gZero = x0.gZero ∧ (startInputLoss x0).drawn = x0.drawn ∧ (startInputLoss x0).host = x0.host ∧ (startInputLoss x0).rings = x0.rings ∧ (startInputLoss x0).evt = x0.evt ∧ (startInputLoss x0).ecc = x0.ecc ∧ (startInputLoss x0).spaces = x0.spaces ∧ (startInputLoss x0).flash = x0.flash ∧ (startInputLoss x0).embed = x0.embed ∧ (startInputLoss x0).ralid = x0.ralid ∧ (startInputLoss x0).sec = x0.sec := by
  simp [startInputLoss]

@[simp] theorem noteLoss_frame (x0 : Ev) (x1 : State) :
    (noteLoss x0 x1).pending = x1.pending ∧ (noteLoss x0 x1).tclk = x1.tclk ∧ (noteLoss x0 x1).gZero = x1.gZero ∧ (noteLoss x0 x1).drawn = x1.drawn ∧ (noteLoss x0 x1).power = x1.power ∧ (noteLoss x0 x1).boot = x1.boot ∧ (noteLoss x0 x1).rings = x1.rings ∧ (noteLoss x0 x1).tensor = x1.tensor ∧ (noteLoss x0 x1).mem = x1.mem ∧ (noteLoss x0 x1).ecc = x1.ecc ∧ (noteLoss x0 x1).spaces = x1.spaces ∧ (noteLoss x0 x1).flash = x1.flash ∧ (noteLoss x0 x1).fabric = x1.fabric ∧ (noteLoss x0 x1).embed = x1.embed ∧ (noteLoss x0 x1).ralid = x1.ralid ∧ (noteLoss x0 x1).sec = x1.sec := by
  simp [noteLoss]

@[simp] theorem thermalTrip_frame (x0 : State) :
    (thermalTrip x0).pending = x0.pending ∧ (thermalTrip x0).tclk = x0.tclk ∧ (thermalTrip x0).spaces = x0.spaces := by
  simp [thermalTrip]

end Sys2Proof.Machine
end

