-- ==== Sys2Proof/Laws/FramesPower.lean ====
section
/-! SUPPORT. What each shared operation of Machine/Power.lean leaves as it is. -/

namespace Sys2Proof.Machine

@[simp] theorem toggleTrip_frame (x0 : State) :
    (toggleTrip x0).pending = x0.pending ∧ (toggleTrip x0).tclk = x0.tclk ∧ (toggleTrip x0).gZero = x0.gZero ∧ (toggleTrip x0).drawn = x0.drawn ∧ (toggleTrip x0).boot = x0.boot ∧ (toggleTrip x0).host = x0.host ∧ (toggleTrip x0).rings = x0.rings ∧ (toggleTrip x0).evt = x0.evt ∧ (toggleTrip x0).tensor = x0.tensor ∧ (toggleTrip x0).mem = x0.mem ∧ (toggleTrip x0).ecc = x0.ecc ∧ (toggleTrip x0).spaces = x0.spaces ∧ (toggleTrip x0).flash = x0.flash ∧ (toggleTrip x0).fabric = x0.fabric ∧ (toggleTrip x0).embed = x0.embed ∧ (toggleTrip x0).ralid = x0.ralid ∧ (toggleTrip x0).cfl = x0.cfl ∧ (toggleTrip x0).sec = x0.sec := by
  simp [toggleTrip]

@[simp] theorem tryConnect_frame (x0 : Nat) (x1 : State) :
    (tryConnect x0 x1).pending = x1.pending ∧ (tryConnect x0 x1).tclk = x1.tclk ∧ (tryConnect x0 x1).gZero = x1.gZero ∧ (tryConnect x0 x1).drawn = x1.drawn ∧ (tryConnect x0 x1).boot = x1.boot ∧ (tryConnect x0 x1).host = x1.host ∧ (tryConnect x0 x1).rings = x1.rings ∧ (tryConnect x0 x1).evt = x1.evt ∧ (tryConnect x0 x1).tensor = x1.tensor ∧ (tryConnect x0 x1).mem = x1.mem ∧ (tryConnect x0 x1).ecc = x1.ecc ∧ (tryConnect x0 x1).spaces = x1.spaces ∧ (tryConnect x0 x1).flash = x1.flash ∧ (tryConnect x0 x1).fabric = x1.fabric ∧ (tryConnect x0 x1).embed = x1.embed ∧ (tryConnect x0 x1).ralid = x1.ralid ∧ (tryConnect x0 x1).cfl = x1.cfl ∧ (tryConnect x0 x1).sec = x1.sec := by
  simp [tryConnect]

@[simp] theorem noteOvervoltage_frame (x0 : State) :
    (noteOvervoltage x0).pending = x0.pending ∧ (noteOvervoltage x0).tclk = x0.tclk ∧ (noteOvervoltage x0).gZero = x0.gZero ∧ (noteOvervoltage x0).drawn = x0.drawn ∧ (noteOvervoltage x0).boot = x0.boot ∧ (noteOvervoltage x0).rings = x0.rings ∧ (noteOvervoltage x0).tensor = x0.tensor ∧ (noteOvervoltage x0).mem = x0.mem ∧ (noteOvervoltage x0).ecc = x0.ecc ∧ (noteOvervoltage x0).spaces = x0.spaces ∧ (noteOvervoltage x0).flash = x0.flash ∧ (noteOvervoltage x0).fabric = x0.fabric ∧ (noteOvervoltage x0).embed = x0.embed ∧ (noteOvervoltage x0).ralid = x0.ralid ∧ (noteOvervoltage x0).cfl = x0.cfl ∧ (noteOvervoltage x0).sec = x0.sec := by
  simp [noteOvervoltage]

@[simp] theorem noteSupply_frame (x0 : Nat) (x1 : State) :
    (noteSupply x0 x1).pending = x1.pending ∧ (noteSupply x0 x1).tclk = x1.tclk ∧ (noteSupply x0 x1).gZero = x1.gZero ∧ (noteSupply x0 x1).drawn = x1.drawn ∧ (noteSupply x0 x1).boot = x1.boot ∧ (noteSupply x0 x1).rings = x1.rings ∧ (noteSupply x0 x1).tensor = x1.tensor ∧ (noteSupply x0 x1).mem = x1.mem ∧ (noteSupply x0 x1).ecc = x1.ecc ∧ (noteSupply x0 x1).spaces = x1.spaces ∧ (noteSupply x0 x1).flash = x1.flash ∧ (noteSupply x0 x1).fabric = x1.fabric ∧ (noteSupply x0 x1).embed = x1.embed ∧ (noteSupply x0 x1).ralid = x1.ralid ∧ (noteSupply x0 x1).cfl = x1.cfl ∧ (noteSupply x0 x1).sec = x1.sec := by
  simp [noteSupply]

@[simp] theorem keepHighest_frame (x0 : Nat) (x1 : Nat) (x2 : Nat) (x3 : State) :
    (keepHighest x0 x1 x2 x3).pending = x3.pending ∧ (keepHighest x0 x1 x2 x3).tclk = x3.tclk ∧ (keepHighest x0 x1 x2 x3).gZero = x3.gZero ∧ (keepHighest x0 x1 x2 x3).drawn = x3.drawn ∧ (keepHighest x0 x1 x2 x3).power = x3.power ∧ (keepHighest x0 x1 x2 x3).boot = x3.boot ∧ (keepHighest x0 x1 x2 x3).host = x3.host ∧ (keepHighest x0 x1 x2 x3).rings = x3.rings ∧ (keepHighest x0 x1 x2 x3).tensor = x3.tensor ∧ (keepHighest x0 x1 x2 x3).mem = x3.mem ∧ (keepHighest x0 x1 x2 x3).ecc = x3.ecc ∧ (keepHighest x0 x1 x2 x3).spaces = x3.spaces ∧ (keepHighest x0 x1 x2 x3).flash = x3.flash ∧ (keepHighest x0 x1 x2 x3).fabric = x3.fabric ∧ (keepHighest x0 x1 x2 x3).embed = x3.embed ∧ (keepHighest x0 x1 x2 x3).ralid = x3.ralid ∧ (keepHighest x0 x1 x2 x3).cfl = x3.cfl ∧ (keepHighest x0 x1 x2 x3).sec = x3.sec := by
  simp [keepHighest]

@[simp] theorem writePwrLimit_frame (x0 : W32) (x1 : State) :
    (writePwrLimit x0 x1).pending = x1.pending ∧ (writePwrLimit x0 x1).tclk = x1.tclk ∧ (writePwrLimit x0 x1).gZero = x1.gZero ∧ (writePwrLimit x0 x1).drawn = x1.drawn ∧ (writePwrLimit x0 x1).boot = x1.boot ∧ (writePwrLimit x0 x1).host = x1.host ∧ (writePwrLimit x0 x1).rings = x1.rings ∧ (writePwrLimit x0 x1).evt = x1.evt ∧ (writePwrLimit x0 x1).tensor = x1.tensor ∧ (writePwrLimit x0 x1).mem = x1.mem ∧ (writePwrLimit x0 x1).ecc = x1.ecc ∧ (writePwrLimit x0 x1).spaces = x1.spaces ∧ (writePwrLimit x0 x1).flash = x1.flash ∧ (writePwrLimit x0 x1).fabric = x1.fabric ∧ (writePwrLimit x0 x1).embed = x1.embed ∧ (writePwrLimit x0 x1).ralid = x1.ralid ∧ (writePwrLimit x0 x1).cfl = x1.cfl ∧ (writePwrLimit x0 x1).sec = x1.sec := by
  simp [writePwrLimit]

@[simp] theorem opticsSample_frame (x0 : Nat) (x1 : Int) (x2 : State) :
    (opticsSample x0 x1 x2).pending = x2.pending ∧ (opticsSample x0 x1 x2).tclk = x2.tclk ∧ (opticsSample x0 x1 x2).gZero = x2.gZero ∧ (opticsSample x0 x1 x2).drawn = x2.drawn ∧ (opticsSample x0 x1 x2).boot = x2.boot ∧ (opticsSample x0 x1 x2).rings = x2.rings ∧ (opticsSample x0 x1 x2).tensor = x2.tensor ∧ (opticsSample x0 x1 x2).mem = x2.mem ∧ (opticsSample x0 x1 x2).ecc = x2.ecc ∧ (opticsSample x0 x1 x2).spaces = x2.spaces ∧ (opticsSample x0 x1 x2).flash = x2.flash ∧ (opticsSample x0 x1 x2).embed = x2.embed ∧ (opticsSample x0 x1 x2).ralid = x2.ralid ∧ (opticsSample x0 x1 x2).cfl = x2.cfl ∧ (opticsSample x0 x1 x2).sec = x2.sec := by
  simp [opticsSample]

end Sys2Proof.Machine
end

