-- ==== Sys2Proof/Laws/FramesBoot.lean ====
section
/-! SUPPORT. What each shared operation of Machine/Boot.lean leaves as it is. -/

namespace Sys2Proof.Machine

@[simp] theorem writeRstCtrl_frame (x0 : W32) (x1 : State) :
    (writeRstCtrl x0 x1).pending = x1.pending ∧ (writeRstCtrl x0 x1).tclk = x1.tclk ∧ (writeRstCtrl x0 x1).spaces = x1.spaces := by
  simp [writeRstCtrl]

@[simp] theorem takeUnit_frame (x0 : PulseUnit) (x1 : State) :
    (takeUnit x0 x1).pending = x1.pending ∧ (takeUnit x0 x1).tclk = x1.tclk ∧ (takeUnit x0 x1).gZero = x1.gZero ∧ (takeUnit x0 x1).host = x1.host ∧ (takeUnit x0 x1).rings = x1.rings ∧ (takeUnit x0 x1).evt = x1.evt ∧ (takeUnit x0 x1).tensor = x1.tensor ∧ (takeUnit x0 x1).mem = x1.mem ∧ (takeUnit x0 x1).ecc = x1.ecc ∧ (takeUnit x0 x1).spaces = x1.spaces ∧ (takeUnit x0 x1).fabric = x1.fabric ∧ (takeUnit x0 x1).embed = x1.embed ∧ (takeUnit x0 x1).ralid = x1.ralid ∧ (takeUnit x0 x1).sec = x1.sec := by
  unfold takeUnit; split <;> simp

@[simp] theorem blockArrived_frame (x0 : Fin 64) (x1 : State) :
    (blockArrived x0 x1).pending = x1.pending ∧ (blockArrived x0 x1).tclk = x1.tclk ∧ (blockArrived x0 x1).gZero = x1.gZero ∧ (blockArrived x0 x1).drawn = x1.drawn ∧ (blockArrived x0 x1).power = x1.power ∧ (blockArrived x0 x1).host = x1.host ∧ (blockArrived x0 x1).rings = x1.rings ∧ (blockArrived x0 x1).evt = x1.evt ∧ (blockArrived x0 x1).tensor = x1.tensor ∧ (blockArrived x0 x1).mem = x1.mem ∧ (blockArrived x0 x1).ecc = x1.ecc ∧ (blockArrived x0 x1).spaces = x1.spaces ∧ (blockArrived x0 x1).flash = x1.flash ∧ (blockArrived x0 x1).fabric = x1.fabric ∧ (blockArrived x0 x1).embed = x1.embed ∧ (blockArrived x0 x1).ralid = x1.ralid ∧ (blockArrived x0 x1).cfl = x1.cfl ∧ (blockArrived x0 x1).sec = x1.sec := by
  unfold blockArrived; split <;> simp

@[simp] theorem blockReset_pending (x0 : Nat) (x1 : Nat) (x2 : Bool) (x3 : Bool) (x4 : State → State) (x5 : State) (h : ∀ y0, (x4 y0).pending = y0.pending) :
    (blockReset x0 x1 x2 x3 x4 x5).pending = x5.pending := by
  simp [blockReset, h]

@[simp] theorem blockReset_tclk (x0 : Nat) (x1 : Nat) (x2 : Bool) (x3 : Bool) (x4 : State → State) (x5 : State) (h : ∀ y0, (x4 y0).tclk = y0.tclk) :
    (blockReset x0 x1 x2 x3 x4 x5).tclk = x5.tclk := by
  simp [blockReset, h]

@[simp] theorem blockReset_gZero (x0 : Nat) (x1 : Nat) (x2 : Bool) (x3 : Bool) (x4 : State → State) (x5 : State) (h : ∀ y0, (x4 y0).gZero = y0.gZero) :
    (blockReset x0 x1 x2 x3 x4 x5).gZero = x5.gZero := by
  simp [blockReset, h]

@[simp] theorem blockReset_drawn (x0 : Nat) (x1 : Nat) (x2 : Bool) (x3 : Bool) (x4 : State → State) (x5 : State) (h : ∀ y0, (x4 y0).drawn = y0.drawn) :
    (blockReset x0 x1 x2 x3 x4 x5).drawn = x5.drawn := by
  simp [blockReset, h]

@[simp] theorem blockReset_power (x0 : Nat) (x1 : Nat) (x2 : Bool) (x3 : Bool) (x4 : State → State) (x5 : State) (h : ∀ y0, (x4 y0).power = y0.power) :
    (blockReset x0 x1 x2 x3 x4 x5).power = x5.power := by
  simp [blockReset, h]

@[simp] theorem blockReset_rings (x0 : Nat) (x1 : Nat) (x2 : Bool) (x3 : Bool) (x4 : State → State) (x5 : State) (h : ∀ y0, (x4 y0).rings = y0.rings) :
    (blockReset x0 x1 x2 x3 x4 x5).rings = x5.rings := by
  simp [blockReset, h]

@[simp] theorem blockReset_tensor (x0 : Nat) (x1 : Nat) (x2 : Bool) (x3 : Bool) (x4 : State → State) (x5 : State) (h : ∀ y0, (x4 y0).tensor = y0.tensor) :
    (blockReset x0 x1 x2 x3 x4 x5).tensor = x5.tensor := by
  simp [blockReset, h]

@[simp] theorem blockReset_mem (x0 : Nat) (x1 : Nat) (x2 : Bool) (x3 : Bool) (x4 : State → State) (x5 : State) (h : ∀ y0, (x4 y0).mem = y0.mem) :
    (blockReset x0 x1 x2 x3 x4 x5).mem = x5.mem := by
  simp [blockReset, h]

@[simp] theorem blockReset_ecc (x0 : Nat) (x1 : Nat) (x2 : Bool) (x3 : Bool) (x4 : State → State) (x5 : State) (h : ∀ y0, (x4 y0).ecc = y0.ecc) :
    (blockReset x0 x1 x2 x3 x4 x5).ecc = x5.ecc := by
  simp [blockReset, h]

@[simp] theorem blockReset_spaces (x0 : Nat) (x1 : Nat) (x2 : Bool) (x3 : Bool) (x4 : State → State) (x5 : State) (h : ∀ y0, (x4 y0).spaces = y0.spaces) :
    (blockReset x0 x1 x2 x3 x4 x5).spaces = x5.spaces := by
  simp [blockReset, h]

@[simp] theorem blockReset_flash (x0 : Nat) (x1 : Nat) (x2 : Bool) (x3 : Bool) (x4 : State → State) (x5 : State) (h : ∀ y0, (x4 y0).flash = y0.flash) :
    (blockReset x0 x1 x2 x3 x4 x5).flash = x5.flash := by
  simp [blockReset, h]

@[simp] theorem blockReset_fabric (x0 : Nat) (x1 : Nat) (x2 : Bool) (x3 : Bool) (x4 : State → State) (x5 : State) (h : ∀ y0, (x4 y0).fabric = y0.fabric) :
    (blockReset x0 x1 x2 x3 x4 x5).fabric = x5.fabric := by
  simp [blockReset, h]

@[simp] theorem blockReset_embed (x0 : Nat) (x1 : Nat) (x2 : Bool) (x3 : Bool) (x4 : State → State) (x5 : State) (h : ∀ y0, (x4 y0).embed = y0.embed) :
    (blockReset x0 x1 x2 x3 x4 x5).embed = x5.embed := by
  simp [blockReset, h]

@[simp] theorem blockReset_ralid (x0 : Nat) (x1 : Nat) (x2 : Bool) (x3 : Bool) (x4 : State → State) (x5 : State) (h : ∀ y0, (x4 y0).ralid = y0.ralid) :
    (blockReset x0 x1 x2 x3 x4 x5).ralid = x5.ralid := by
  simp [blockReset, h]

@[simp] theorem blockReset_cfl (x0 : Nat) (x1 : Nat) (x2 : Bool) (x3 : Bool) (x4 : State → State) (x5 : State) (h : ∀ y0, (x4 y0).cfl = y0.cfl) :
    (blockReset x0 x1 x2 x3 x4 x5).cfl = x5.cfl := by
  simp [blockReset, h]

@[simp] theorem blockReset_sec (x0 : Nat) (x1 : Nat) (x2 : Bool) (x3 : Bool) (x4 : State → State) (x5 : State) (h : ∀ y0, (x4 y0).sec = y0.sec) :
    (blockReset x0 x1 x2 x3 x4 x5).sec = x5.sec := by
  simp [blockReset, h]

@[simp] theorem clearTile_frame (x0 : Nat) (x1 : State) :
    (clearTile x0 x1).pending = x1.pending ∧ (clearTile x0 x1).tclk = x1.tclk ∧ (clearTile x0 x1).gZero = x1.gZero ∧ (clearTile x0 x1).drawn = x1.drawn ∧ (clearTile x0 x1).power = x1.power ∧ (clearTile x0 x1).boot = x1.boot ∧ (clearTile x0 x1).host = x1.host ∧ (clearTile x0 x1).rings = x1.rings ∧ (clearTile x0 x1).evt = x1.evt ∧ (clearTile x0 x1).mem = x1.mem ∧ (clearTile x0 x1).ecc = x1.ecc ∧ (clearTile x0 x1).spaces = x1.spaces ∧ (clearTile x0 x1).flash = x1.flash ∧ (clearTile x0 x1).fabric = x1.fabric ∧ (clearTile x0 x1).embed = x1.embed ∧ (clearTile x0 x1).ralid = x1.ralid ∧ (clearTile x0 x1).cfl = x1.cfl ∧ (clearTile x0 x1).sec = x1.sec := by
  unfold clearTile; split <;> simp

@[simp] theorem resetTile_frame (x0 : Nat) (x1 : Bool) (x2 : State) :
    (resetTile x0 x1 x2).pending = x2.pending ∧ (resetTile x0 x1 x2).tclk = x2.tclk ∧ (resetTile x0 x1 x2).gZero = x2.gZero ∧ (resetTile x0 x1 x2).drawn = x2.drawn ∧ (resetTile x0 x1 x2).power = x2.power ∧ (resetTile x0 x1 x2).rings = x2.rings ∧ (resetTile x0 x1 x2).ecc = x2.ecc ∧ (resetTile x0 x1 x2).spaces = x2.spaces ∧ (resetTile x0 x1 x2).flash = x2.flash ∧ (resetTile x0 x1 x2).fabric = x2.fabric ∧ (resetTile x0 x1 x2).embed = x2.embed ∧ (resetTile x0 x1 x2).ralid = x2.ralid ∧ (resetTile x0 x1 x2).cfl = x2.cfl ∧ (resetTile x0 x1 x2).sec = x2.sec := by
  simp [resetTile]

@[simp] theorem resetPort_frame (x0 : Nat) (x1 : Bool) (x2 : State) :
    (resetPort x0 x1 x2).pending = x2.pending ∧ (resetPort x0 x1 x2).tclk = x2.tclk ∧ (resetPort x0 x1 x2).gZero = x2.gZero ∧ (resetPort x0 x1 x2).drawn = x2.drawn ∧ (resetPort x0 x1 x2).power = x2.power ∧ (resetPort x0 x1 x2).rings = x2.rings ∧ (resetPort x0 x1 x2).tensor = x2.tensor ∧ (resetPort x0 x1 x2).mem = x2.mem ∧ (resetPort x0 x1 x2).ecc = x2.ecc ∧ (resetPort x0 x1 x2).spaces = x2.spaces ∧ (resetPort x0 x1 x2).flash = x2.flash ∧ (resetPort x0 x1 x2).embed = x2.embed ∧ (resetPort x0 x1 x2).ralid = x2.ralid ∧ (resetPort x0 x1 x2).cfl = x2.cfl ∧ (resetPort x0 x1 x2).sec = x2.sec := by
  simp [resetPort]

@[simp] theorem logSelftest_frame (x0 : Nat) (x1 : BitVec 32) (x2 : BitVec 32) (x3 : State) :
    (logSelftest x0 x1 x2 x3).pending = x3.pending ∧ (logSelftest x0 x1 x2 x3).tclk = x3.tclk ∧ (logSelftest x0 x1 x2 x3).gZero = x3.gZero ∧ (logSelftest x0 x1 x2 x3).drawn = x3.drawn ∧ (logSelftest x0 x1 x2 x3).power = x3.power ∧ (logSelftest x0 x1 x2 x3).boot = x3.boot ∧ (logSelftest x0 x1 x2 x3).rings = x3.rings ∧ (logSelftest x0 x1 x2 x3).tensor = x3.tensor ∧ (logSelftest x0 x1 x2 x3).mem = x3.mem ∧ (logSelftest x0 x1 x2 x3).ecc = x3.ecc ∧ (logSelftest x0 x1 x2 x3).spaces = x3.spaces ∧ (logSelftest x0 x1 x2 x3).flash = x3.flash ∧ (logSelftest x0 x1 x2 x3).fabric = x3.fabric ∧ (logSelftest x0 x1 x2 x3).embed = x3.embed ∧ (logSelftest x0 x1 x2 x3).ralid = x3.ralid ∧ (logSelftest x0 x1 x2 x3).cfl = x3.cfl ∧ (logSelftest x0 x1 x2 x3).sec = x3.sec := by
  simp [logSelftest]

@[simp] theorem runImage_frame (x0 : Nat) (x1 : List Byte) (x2 : State) :
    (runImage x0 x1 x2).pending = x2.pending ∧ (runImage x0 x1 x2).tclk = x2.tclk ∧ (runImage x0 x1 x2).gZero = x2.gZero ∧ (runImage x0 x1 x2).drawn = x2.drawn ∧ (runImage x0 x1 x2).power = x2.power ∧ (runImage x0 x1 x2).host = x2.host ∧ (runImage x0 x1 x2).rings = x2.rings ∧ (runImage x0 x1 x2).evt = x2.evt ∧ (runImage x0 x1 x2).tensor = x2.tensor ∧ (runImage x0 x1 x2).mem = x2.mem ∧ (runImage x0 x1 x2).ecc = x2.ecc ∧ (runImage x0 x1 x2).spaces = x2.spaces ∧ (runImage x0 x1 x2).flash = x2.flash ∧ (runImage x0 x1 x2).fabric = x2.fabric ∧ (runImage x0 x1 x2).embed = x2.embed ∧ (runImage x0 x1 x2).ralid = x2.ralid ∧ (runImage x0 x1 x2).cfl = x2.cfl := by
  simp [runImage]

@[simp] theorem rejectImage_frame (x0 : Nat) (x1 : Nat) (x2 : State) :
    (rejectImage x0 x1 x2).pending = x2.pending ∧ (rejectImage x0 x1 x2).tclk = x2.tclk ∧ (rejectImage x0 x1 x2).gZero = x2.gZero ∧ (rejectImage x0 x1 x2).drawn = x2.drawn ∧ (rejectImage x0 x1 x2).power = x2.power ∧ (rejectImage x0 x1 x2).boot = x2.boot ∧ (rejectImage x0 x1 x2).rings = x2.rings ∧ (rejectImage x0 x1 x2).tensor = x2.tensor ∧ (rejectImage x0 x1 x2).mem = x2.mem ∧ (rejectImage x0 x1 x2).ecc = x2.ecc ∧ (rejectImage x0 x1 x2).spaces = x2.spaces ∧ (rejectImage x0 x1 x2).flash = x2.flash ∧ (rejectImage x0 x1 x2).fabric = x2.fabric ∧ (rejectImage x0 x1 x2).embed = x2.embed ∧ (rejectImage x0 x1 x2).ralid = x2.ralid ∧ (rejectImage x0 x1 x2).cfl = x2.cfl ∧ (rejectImage x0 x1 x2).sec = x2.sec := by
  simp [rejectImage]

@[simp] theorem enterLantern_frame (x0 : Nat) (x1 : State) :
    (enterLantern x0 x1).pending = x1.pending ∧ (enterLantern x0 x1).tclk = x1.tclk ∧ (enterLantern x0 x1).gZero = x1.gZero ∧ (enterLantern x0 x1).drawn = x1.drawn ∧ (enterLantern x0 x1).power = x1.power ∧ (enterLantern x0 x1).rings = x1.rings ∧ (enterLantern x0 x1).tensor = x1.tensor ∧ (enterLantern x0 x1).mem = x1.mem ∧ (enterLantern x0 x1).ecc = x1.ecc ∧ (enterLantern x0 x1).spaces = x1.spaces ∧ (enterLantern x0 x1).flash = x1.flash ∧ (enterLantern x0 x1).fabric = x1.fabric ∧ (enterLantern x0 x1).embed = x1.embed ∧ (enterLantern x0 x1).ralid = x1.ralid ∧ (enterLantern x0 x1).cfl = x1.cfl := by
  simp [enterLantern]

@[simp] theorem verifyImages_frame (x0 : Nat) (x1 : ImageVerdict) (x2 : ImageVerdict) (x3 : State) :
    (verifyImages x0 x1 x2 x3).pending = x3.pending ∧ (verifyImages x0 x1 x2 x3).tclk = x3.tclk ∧ (verifyImages x0 x1 x2 x3).gZero = x3.gZero ∧ (verifyImages x0 x1 x2 x3).drawn = x3.drawn ∧ (verifyImages x0 x1 x2 x3).power = x3.power ∧ (verifyImages x0 x1 x2 x3).rings = x3.rings ∧ (verifyImages x0 x1 x2 x3).tensor = x3.tensor ∧ (verifyImages x0 x1 x2 x3).mem = x3.mem ∧ (verifyImages x0 x1 x2 x3).ecc = x3.ecc ∧ (verifyImages x0 x1 x2 x3).spaces = x3.spaces ∧ (verifyImages x0 x1 x2 x3).flash = x3.flash ∧ (verifyImages x0 x1 x2 x3).fabric = x3.fabric ∧ (verifyImages x0 x1 x2 x3).embed = x3.embed ∧ (verifyImages x0 x1 x2 x3).ralid = x3.ralid ∧ (verifyImages x0 x1 x2 x3).cfl = x3.cfl := by
  simp [verifyImages]

@[simp] theorem stepFailure_frame (x0 : Nat) (x1 : State) :
    (stepFailure x0 x1).pending = x1.pending ∧ (stepFailure x0 x1).tclk = x1.tclk ∧ (stepFailure x0 x1).gZero = x1.gZero ∧ (stepFailure x0 x1).drawn = x1.drawn ∧ (stepFailure x0 x1).power = x1.power ∧ (stepFailure x0 x1).rings = x1.rings ∧ (stepFailure x0 x1).tensor = x1.tensor ∧ (stepFailure x0 x1).mem = x1.mem ∧ (stepFailure x0 x1).ecc = x1.ecc ∧ (stepFailure x0 x1).spaces = x1.spaces ∧ (stepFailure x0 x1).flash = x1.flash ∧ (stepFailure x0 x1).fabric = x1.fabric ∧ (stepFailure x0 x1).embed = x1.embed ∧ (stepFailure x0 x1).ralid = x1.ralid ∧ (stepFailure x0 x1).cfl = x1.cfl ∧ (stepFailure x0 x1).sec = x1.sec := by
  simp [stepFailure]

@[simp] theorem enterReady_frame (x0 : State) :
    (enterReady x0).pending = x0.pending ∧ (enterReady x0).tclk = x0.tclk ∧ (enterReady x0).gZero = x0.gZero ∧ (enterReady x0).power = x0.power ∧ (enterReady x0).rings = x0.rings ∧ (enterReady x0).tensor = x0.tensor ∧ (enterReady x0).mem = x0.mem ∧ (enterReady x0).ecc = x0.ecc ∧ (enterReady x0).spaces = x0.spaces ∧ (enterReady x0).fabric = x0.fabric ∧ (enterReady x0).embed = x0.embed ∧ (enterReady x0).ralid = x0.ralid ∧ (enterReady x0).sec = x0.sec := by
  simp [enterReady]

@[simp] theorem stepTwo_frame (x0 : State) :
    (stepTwo x0).pending = x0.pending ∧ (stepTwo x0).tclk = x0.tclk ∧ (stepTwo x0).gZero = x0.gZero ∧ (stepTwo x0).power = x0.power ∧ (stepTwo x0).rings = x0.rings ∧ (stepTwo x0).tensor = x0.tensor ∧ (stepTwo x0).mem = x0.mem ∧ (stepTwo x0).spaces = x0.spaces ∧ (stepTwo x0).flash = x0.flash ∧ (stepTwo x0).fabric = x0.fabric ∧ (stepTwo x0).embed = x0.embed ∧ (stepTwo x0).ralid = x0.ralid := by
  simp [stepTwo]

@[simp] theorem stepFive_frame (x0 : State) :
    (stepFive x0).pending = x0.pending ∧ (stepFive x0).tclk = x0.tclk ∧ (stepFive x0).gZero = x0.gZero ∧ (stepFive x0).drawn = x0.drawn ∧ (stepFive x0).power = x0.power ∧ (stepFive x0).rings = x0.rings ∧ (stepFive x0).tensor = x0.tensor ∧ (stepFive x0).ecc = x0.ecc ∧ (stepFive x0).spaces = x0.spaces ∧ (stepFive x0).flash = x0.flash ∧ (stepFive x0).fabric = x0.fabric ∧ (stepFive x0).embed = x0.embed ∧ (stepFive x0).ralid = x0.ralid ∧ (stepFive x0).cfl = x0.cfl ∧ (stepFive x0).sec = x0.sec := by
  simp [stepFive]

@[simp] theorem stepEight_frame (x0 : Option Nat) (x1 : State) :
    (stepEight x0 x1).pending = x1.pending ∧ (stepEight x0 x1).tclk = x1.tclk ∧ (stepEight x0 x1).gZero = x1.gZero ∧ (stepEight x0 x1).power = x1.power ∧ (stepEight x0 x1).rings = x1.rings ∧ (stepEight x0 x1).tensor = x1.tensor ∧ (stepEight x0 x1).mem = x1.mem ∧ (stepEight x0 x1).ecc = x1.ecc ∧ (stepEight x0 x1).spaces = x1.spaces ∧ (stepEight x0 x1).embed = x1.embed ∧ (stepEight x0 x1).ralid = x1.ralid ∧ (stepEight x0 x1).sec = x1.sec := by
  simp [stepEight]

@[simp] theorem writeBootCtrl_frame (x0 : W32) (x1 : State) :
    (writeBootCtrl x0 x1).pending = x1.pending ∧ (writeBootCtrl x0 x1).tclk = x1.tclk ∧ (writeBootCtrl x0 x1).gZero = x1.gZero ∧ (writeBootCtrl x0 x1).power = x1.power ∧ (writeBootCtrl x0 x1).rings = x1.rings ∧ (writeBootCtrl x0 x1).tensor = x1.tensor ∧ (writeBootCtrl x0 x1).mem = x1.mem ∧ (writeBootCtrl x0 x1).ecc = x1.ecc ∧ (writeBootCtrl x0 x1).spaces = x1.spaces ∧ (writeBootCtrl x0 x1).flash = x1.flash ∧ (writeBootCtrl x0 x1).fabric = x1.fabric ∧ (writeBootCtrl x0 x1).embed = x1.embed ∧ (writeBootCtrl x0 x1).ralid = x1.ralid ∧ (writeBootCtrl x0 x1).sec = x1.sec := by
  simp [writeBootCtrl]

end Sys2Proof.Machine
end

