-- ==== Sys2Proof/Laws/FramesAttach.lean ====
section
/-! SUPPORT. What each shared operation of Machine/Attach.lean leaves as it is. -/

namespace Sys2Proof.Machine

@[simp] theorem flushMsix_frame (x0 : State) :
    (flushMsix x0).pending = x0.pending ∧ (flushMsix x0).tclk = x0.tclk ∧ (flushMsix x0).gZero = x0.gZero ∧ (flushMsix x0).drawn = x0.drawn ∧ (flushMsix x0).power = x0.power ∧ (flushMsix x0).boot = x0.boot ∧ (flushMsix x0).rings = x0.rings ∧ (flushMsix x0).evt = x0.evt ∧ (flushMsix x0).tensor = x0.tensor ∧ (flushMsix x0).mem = x0.mem ∧ (flushMsix x0).ecc = x0.ecc ∧ (flushMsix x0).spaces = x0.spaces ∧ (flushMsix x0).flash = x0.flash ∧ (flushMsix x0).fabric = x0.fabric ∧ (flushMsix x0).embed = x0.embed ∧ (flushMsix x0).ralid = x0.ralid ∧ (flushMsix x0).cfl = x0.cfl ∧ (flushMsix x0).sec = x0.sec := by
  simp [flushMsix]

@[simp] theorem maskVector_frame (x0 : Nat) (x1 : Bool) (x2 : State) :
    (maskVector x0 x1 x2).pending = x2.pending ∧ (maskVector x0 x1 x2).tclk = x2.tclk ∧ (maskVector x0 x1 x2).gZero = x2.gZero ∧ (maskVector x0 x1 x2).drawn = x2.drawn ∧ (maskVector x0 x1 x2).power = x2.power ∧ (maskVector x0 x1 x2).boot = x2.boot ∧ (maskVector x0 x1 x2).rings = x2.rings ∧ (maskVector x0 x1 x2).evt = x2.evt ∧ (maskVector x0 x1 x2).tensor = x2.tensor ∧ (maskVector x0 x1 x2).mem = x2.mem ∧ (maskVector x0 x1 x2).ecc = x2.ecc ∧ (maskVector x0 x1 x2).spaces = x2.spaces ∧ (maskVector x0 x1 x2).flash = x2.flash ∧ (maskVector x0 x1 x2).fabric = x2.fabric ∧ (maskVector x0 x1 x2).embed = x2.embed ∧ (maskVector x0 x1 x2).ralid = x2.ralid ∧ (maskVector x0 x1 x2).cfl = x2.cfl ∧ (maskVector x0 x1 x2).sec = x2.sec := by
  simp [maskVector]

@[simp] theorem stepConflict_frame (x0 : Nat) (x1 : Nat) (x2 : State) :
    (stepConflict x0 x1 x2).pending = x2.pending ∧ (stepConflict x0 x1 x2).tclk = x2.tclk ∧ (stepConflict x0 x1 x2).gZero = x2.gZero ∧ (stepConflict x0 x1 x2).power = x2.power ∧ (stepConflict x0 x1 x2).boot = x2.boot ∧ (stepConflict x0 x1 x2).rings = x2.rings ∧ (stepConflict x0 x1 x2).tensor = x2.tensor ∧ (stepConflict x0 x1 x2).ecc = x2.ecc ∧ (stepConflict x0 x1 x2).spaces = x2.spaces ∧ (stepConflict x0 x1 x2).flash = x2.flash ∧ (stepConflict x0 x1 x2).fabric = x2.fabric ∧ (stepConflict x0 x1 x2).embed = x2.embed ∧ (stepConflict x0 x1 x2).ralid = x2.ralid ∧ (stepConflict x0 x1 x2).cfl = x2.cfl ∧ (stepConflict x0 x1 x2).sec = x2.sec := by
  simp [stepConflict]

@[simp] theorem evictEarliest_frame (x0 : State) :
    (evictEarliest x0).pending = x0.pending ∧ (evictEarliest x0).tclk = x0.tclk ∧ (evictEarliest x0).gZero = x0.gZero ∧ (evictEarliest x0).drawn = x0.drawn ∧ (evictEarliest x0).power = x0.power ∧ (evictEarliest x0).boot = x0.boot ∧ (evictEarliest x0).rings = x0.rings ∧ (evictEarliest x0).evt = x0.evt ∧ (evictEarliest x0).tensor = x0.tensor ∧ (evictEarliest x0).mem = x0.mem ∧ (evictEarliest x0).ecc = x0.ecc ∧ (evictEarliest x0).spaces = x0.spaces ∧ (evictEarliest x0).flash = x0.flash ∧ (evictEarliest x0).fabric = x0.fabric ∧ (evictEarliest x0).embed = x0.embed ∧ (evictEarliest x0).ralid = x0.ralid ∧ (evictEarliest x0).cfl = x0.cfl ∧ (evictEarliest x0).sec = x0.sec := by
  unfold evictEarliest; split <;> simp

@[simp] theorem answerLine_frame (x0 : Nat) (x1 : State) :
    (answerLine x0 x1).pending = x1.pending ∧ (answerLine x0 x1).tclk = x1.tclk ∧ (answerLine x0 x1).gZero = x1.gZero ∧ (answerLine x0 x1).drawn = x1.drawn ∧ (answerLine x0 x1).power = x1.power ∧ (answerLine x0 x1).boot = x1.boot ∧ (answerLine x0 x1).rings = x1.rings ∧ (answerLine x0 x1).tensor = x1.tensor ∧ (answerLine x0 x1).mem = x1.mem ∧ (answerLine x0 x1).spaces = x1.spaces ∧ (answerLine x0 x1).flash = x1.flash ∧ (answerLine x0 x1).fabric = x1.fabric ∧ (answerLine x0 x1).embed = x1.embed ∧ (answerLine x0 x1).ralid = x1.ralid ∧ (answerLine x0 x1).cfl = x1.cfl ∧ (answerLine x0 x1).sec = x1.sec := by
  unfold answerLine; (repeat' (split <;> (try (obtain rfl := snd_of_eq ‹_ = (_, _)›)))); all_goals (first | done | simp | simp_all)

@[simp] theorem hostStore_frame (x0 : Nat) (x1 : List Byte) (x2 : Bool) (x3 : State) :
    (hostStore x0 x1 x2 x3).pending = x3.pending ∧ (hostStore x0 x1 x2 x3).tclk = x3.tclk ∧ (hostStore x0 x1 x2 x3).gZero = x3.gZero ∧ (hostStore x0 x1 x2 x3).drawn = x3.drawn ∧ (hostStore x0 x1 x2 x3).power = x3.power ∧ (hostStore x0 x1 x2 x3).boot = x3.boot ∧ (hostStore x0 x1 x2 x3).rings = x3.rings ∧ (hostStore x0 x1 x2 x3).ecc = x3.ecc ∧ (hostStore x0 x1 x2 x3).spaces = x3.spaces ∧ (hostStore x0 x1 x2 x3).flash = x3.flash ∧ (hostStore x0 x1 x2 x3).fabric = x3.fabric ∧ (hostStore x0 x1 x2 x3).embed = x3.embed ∧ (hostStore x0 x1 x2 x3).ralid = x3.ralid ∧ (hostStore x0 x1 x2 x3).cfl = x3.cfl ∧ (hostStore x0 x1 x2 x3).sec = x3.sec := by
  unfold hostStore; split <;> simp

@[simp] theorem accessError_frame (x0 : Bool) (x1 : State) :
    (accessError x0 x1).pending = x1.pending ∧ (accessError x0 x1).tclk = x1.tclk ∧ (accessError x0 x1).gZero = x1.gZero ∧ (accessError x0 x1).drawn = x1.drawn ∧ (accessError x0 x1).power = x1.power ∧ (accessError x0 x1).boot = x1.boot ∧ (accessError x0 x1).rings = x1.rings ∧ (accessError x0 x1).evt = x1.evt ∧ (accessError x0 x1).tensor = x1.tensor ∧ (accessError x0 x1).mem = x1.mem ∧ (accessError x0 x1).ecc = x1.ecc ∧ (accessError x0 x1).spaces = x1.spaces ∧ (accessError x0 x1).flash = x1.flash ∧ (accessError x0 x1).fabric = x1.fabric ∧ (accessError x0 x1).embed = x1.embed ∧ (accessError x0 x1).ralid = x1.ralid ∧ (accessError x0 x1).cfl = x1.cfl ∧ (accessError x0 x1).sec = x1.sec := by
  simp [accessError]

@[simp] theorem writeMsix_frame (x0 : Nat) (x1 : W32) (x2 : State) :
    (writeMsix x0 x1 x2).pending = x2.pending ∧ (writeMsix x0 x1 x2).tclk = x2.tclk ∧ (writeMsix x0 x1 x2).gZero = x2.gZero ∧ (writeMsix x0 x1 x2).drawn = x2.drawn ∧ (writeMsix x0 x1 x2).power = x2.power ∧ (writeMsix x0 x1 x2).boot = x2.boot ∧ (writeMsix x0 x1 x2).rings = x2.rings ∧ (writeMsix x0 x1 x2).evt = x2.evt ∧ (writeMsix x0 x1 x2).tensor = x2.tensor ∧ (writeMsix x0 x1 x2).mem = x2.mem ∧ (writeMsix x0 x1 x2).ecc = x2.ecc ∧ (writeMsix x0 x1 x2).spaces = x2.spaces ∧ (writeMsix x0 x1 x2).flash = x2.flash ∧ (writeMsix x0 x1 x2).fabric = x2.fabric ∧ (writeMsix x0 x1 x2).embed = x2.embed ∧ (writeMsix x0 x1 x2).ralid = x2.ralid ∧ (writeMsix x0 x1 x2).cfl = x2.cfl ∧ (writeMsix x0 x1 x2).sec = x2.sec := by
  unfold writeMsix; split <;> simp

@[simp] theorem writePortCtrl_frame (x0 : Nat) (x1 : W32) (x2 : State) :
    (writePortCtrl x0 x1 x2).pending = x2.pending ∧ (writePortCtrl x0 x1 x2).tclk = x2.tclk ∧ (writePortCtrl x0 x1 x2).gZero = x2.gZero ∧ (writePortCtrl x0 x1 x2).drawn = x2.drawn ∧ (writePortCtrl x0 x1 x2).power = x2.power ∧ (writePortCtrl x0 x1 x2).boot = x2.boot ∧ (writePortCtrl x0 x1 x2).rings = x2.rings ∧ (writePortCtrl x0 x1 x2).tensor = x2.tensor ∧ (writePortCtrl x0 x1 x2).mem = x2.mem ∧ (writePortCtrl x0 x1 x2).ecc = x2.ecc ∧ (writePortCtrl x0 x1 x2).spaces = x2.spaces ∧ (writePortCtrl x0 x1 x2).flash = x2.flash ∧ (writePortCtrl x0 x1 x2).embed = x2.embed ∧ (writePortCtrl x0 x1 x2).ralid = x2.ralid ∧ (writePortCtrl x0 x1 x2).cfl = x2.cfl ∧ (writePortCtrl x0 x1 x2).sec = x2.sec := by
  simp [writePortCtrl]

@[simp] theorem writeFabricCtrl_frame (x0 : W32) (x1 : State) :
    (writeFabricCtrl x0 x1).pending = x1.pending ∧ (writeFabricCtrl x0 x1).tclk = x1.tclk ∧ (writeFabricCtrl x0 x1).gZero = x1.gZero ∧ (writeFabricCtrl x0 x1).drawn = x1.drawn ∧ (writeFabricCtrl x0 x1).power = x1.power ∧ (writeFabricCtrl x0 x1).boot = x1.boot ∧ (writeFabricCtrl x0 x1).host = x1.host ∧ (writeFabricCtrl x0 x1).rings = x1.rings ∧ (writeFabricCtrl x0 x1).evt = x1.evt ∧ (writeFabricCtrl x0 x1).tensor = x1.tensor ∧ (writeFabricCtrl x0 x1).mem = x1.mem ∧ (writeFabricCtrl x0 x1).ecc = x1.ecc ∧ (writeFabricCtrl x0 x1).spaces = x1.spaces ∧ (writeFabricCtrl x0 x1).flash = x1.flash ∧ (writeFabricCtrl x0 x1).embed = x1.embed ∧ (writeFabricCtrl x0 x1).ralid = x1.ralid ∧ (writeFabricCtrl x0 x1).cfl = x1.cfl ∧ (writeFabricCtrl x0 x1).sec = x1.sec := by
  simp [writeFabricCtrl]

@[simp] theorem writeLdgGc_frame (x0 : W32) (x1 : State) :
    (writeLdgGc x0 x1).pending = x1.pending ∧ (writeLdgGc x0 x1).tclk = x1.tclk ∧ (writeLdgGc x0 x1).gZero = x1.gZero ∧ (writeLdgGc x0 x1).drawn = x1.drawn ∧ (writeLdgGc x0 x1).power = x1.power ∧ (writeLdgGc x0 x1).boot = x1.boot ∧ (writeLdgGc x0 x1).host = x1.host ∧ (writeLdgGc x0 x1).rings = x1.rings ∧ (writeLdgGc x0 x1).evt = x1.evt ∧ (writeLdgGc x0 x1).tensor = x1.tensor ∧ (writeLdgGc x0 x1).mem = x1.mem ∧ (writeLdgGc x0 x1).ecc = x1.ecc ∧ (writeLdgGc x0 x1).spaces = x1.spaces ∧ (writeLdgGc x0 x1).fabric = x1.fabric ∧ (writeLdgGc x0 x1).embed = x1.embed ∧ (writeLdgGc x0 x1).ralid = x1.ralid ∧ (writeLdgGc x0 x1).cfl = x1.cfl ∧ (writeLdgGc x0 x1).sec = x1.sec := by
  simp [writeLdgGc]

@[simp] theorem writeLdgFold_frame (x0 : W32) (x1 : State) :
    (writeLdgFold x0 x1).pending = x1.pending ∧ (writeLdgFold x0 x1).tclk = x1.tclk ∧ (writeLdgFold x0 x1).gZero = x1.gZero ∧ (writeLdgFold x0 x1).drawn = x1.drawn ∧ (writeLdgFold x0 x1).power = x1.power ∧ (writeLdgFold x0 x1).boot = x1.boot ∧ (writeLdgFold x0 x1).host = x1.host ∧ (writeLdgFold x0 x1).rings = x1.rings ∧ (writeLdgFold x0 x1).evt = x1.evt ∧ (writeLdgFold x0 x1).tensor = x1.tensor ∧ (writeLdgFold x0 x1).mem = x1.mem ∧ (writeLdgFold x0 x1).ecc = x1.ecc ∧ (writeLdgFold x0 x1).spaces = x1.spaces ∧ (writeLdgFold x0 x1).fabric = x1.fabric ∧ (writeLdgFold x0 x1).embed = x1.embed ∧ (writeLdgFold x0 x1).ralid = x1.ralid ∧ (writeLdgFold x0 x1).cfl = x1.cfl ∧ (writeLdgFold x0 x1).sec = x1.sec := by
  simp [writeLdgFold]

@[simp] theorem writeAdminReg_frame (x0 : Rings → Rings) (x1 : State) :
    (writeAdminReg x0 x1).pending = x1.pending ∧ (writeAdminReg x0 x1).tclk = x1.tclk ∧ (writeAdminReg x0 x1).gZero = x1.gZero ∧ (writeAdminReg x0 x1).drawn = x1.drawn ∧ (writeAdminReg x0 x1).power = x1.power ∧ (writeAdminReg x0 x1).boot = x1.boot ∧ (writeAdminReg x0 x1).host = x1.host ∧ (writeAdminReg x0 x1).evt = x1.evt ∧ (writeAdminReg x0 x1).tensor = x1.tensor ∧ (writeAdminReg x0 x1).mem = x1.mem ∧ (writeAdminReg x0 x1).ecc = x1.ecc ∧ (writeAdminReg x0 x1).spaces = x1.spaces ∧ (writeAdminReg x0 x1).flash = x1.flash ∧ (writeAdminReg x0 x1).fabric = x1.fabric ∧ (writeAdminReg x0 x1).embed = x1.embed ∧ (writeAdminReg x0 x1).ralid = x1.ralid ∧ (writeAdminReg x0 x1).cfl = x1.cfl ∧ (writeAdminReg x0 x1).sec = x1.sec := by
  simp [writeAdminReg]

@[simp] theorem write64_frame (x0 : Nat) (x1 : W64) (x2 : State) :
    (write64 x0 x1 x2).pending = x2.pending ∧ (write64 x0 x1 x2).tclk = x2.tclk ∧ (write64 x0 x1 x2).gZero = x2.gZero ∧ (write64 x0 x1 x2).drawn = x2.drawn ∧ (write64 x0 x1 x2).power = x2.power ∧ (write64 x0 x1 x2).boot = x2.boot ∧ (write64 x0 x1 x2).tensor = x2.tensor ∧ (write64 x0 x1 x2).ecc = x2.ecc ∧ (write64 x0 x1 x2).spaces = x2.spaces ∧ (write64 x0 x1 x2).embed = x2.embed ∧ (write64 x0 x1 x2).cfl = x2.cfl ∧ (write64 x0 x1 x2).sec = x2.sec := by
  simp [write64]

end Sys2Proof.Machine
end

