-- ==== Sys2Proof/Laws/FramesClock.lean ====
section
/-! SUPPORT. What each shared operation of Machine/Clock.lean leaves as it is. -/

namespace Sys2Proof.Machine

@[simp] theorem finishFlagTile_frame (x0 : Nat) (x1 : State) :
    (finishFlagTile x0 x1).pending = x1.pending ∧ (finishFlagTile x0 x1).tclk = x1.tclk ∧ (finishFlagTile x0 x1).gZero = x1.gZero ∧ (finishFlagTile x0 x1).drawn = x1.drawn ∧ (finishFlagTile x0 x1).power = x1.power ∧ (finishFlagTile x0 x1).boot = x1.boot ∧ (finishFlagTile x0 x1).host = x1.host ∧ (finishFlagTile x0 x1).rings = x1.rings ∧ (finishFlagTile x0 x1).evt = x1.evt ∧ (finishFlagTile x0 x1).mem = x1.mem ∧ (finishFlagTile x0 x1).ecc = x1.ecc ∧ (finishFlagTile x0 x1).spaces = x1.spaces ∧ (finishFlagTile x0 x1).flash = x1.flash ∧ (finishFlagTile x0 x1).fabric = x1.fabric ∧ (finishFlagTile x0 x1).embed = x1.embed ∧ (finishFlagTile x0 x1).ralid = x1.ralid ∧ (finishFlagTile x0 x1).cfl = x1.cfl ∧ (finishFlagTile x0 x1).sec = x1.sec := by
  unfold finishFlagTile; split <;> simp

@[simp] theorem landDue_frame (x0 : State) :
    (landDue x0).pending = x0.pending ∧ (landDue x0).tclk = x0.tclk ∧ (landDue x0).gZero = x0.gZero ∧ (landDue x0).drawn = x0.drawn ∧ (landDue x0).power = x0.power ∧ (landDue x0).boot = x0.boot ∧ (landDue x0).host = x0.host ∧ (landDue x0).rings = x0.rings ∧ (landDue x0).evt = x0.evt ∧ (landDue x0).mem = x0.mem ∧ (landDue x0).ecc = x0.ecc ∧ (landDue x0).spaces = x0.spaces ∧ (landDue x0).flash = x0.flash ∧ (landDue x0).fabric = x0.fabric ∧ (landDue x0).embed = x0.embed ∧ (landDue x0).ralid = x0.ralid ∧ (landDue x0).cfl = x0.cfl ∧ (landDue x0).sec = x0.sec := by
  simp [landDue]

@[simp] theorem commitFlags_frame (x0 : State) :
    (commitFlags x0).pending = x0.pending ∧ (commitFlags x0).tclk = x0.tclk ∧ (commitFlags x0).gZero = x0.gZero ∧ (commitFlags x0).drawn = x0.drawn ∧ (commitFlags x0).power = x0.power ∧ (commitFlags x0).boot = x0.boot ∧ (commitFlags x0).host = x0.host ∧ (commitFlags x0).rings = x0.rings ∧ (commitFlags x0).evt = x0.evt ∧ (commitFlags x0).ecc = x0.ecc ∧ (commitFlags x0).spaces = x0.spaces ∧ (commitFlags x0).flash = x0.flash ∧ (commitFlags x0).fabric = x0.fabric ∧ (commitFlags x0).embed = x0.embed ∧ (commitFlags x0).ralid = x0.ralid ∧ (commitFlags x0).cfl = x0.cfl ∧ (commitFlags x0).sec = x0.sec := by
  simp [commitFlags]

@[simp] theorem countTile_frame (x0 : Nat) (x1 : Tile) (x2 : State) :
    (countTile x0 x1 x2).pending = x2.pending ∧ (countTile x0 x1 x2).tclk = x2.tclk ∧ (countTile x0 x1 x2).gZero = x2.gZero ∧ (countTile x0 x1 x2).drawn = x2.drawn ∧ (countTile x0 x1 x2).power = x2.power ∧ (countTile x0 x1 x2).boot = x2.boot ∧ (countTile x0 x1 x2).host = x2.host ∧ (countTile x0 x1 x2).rings = x2.rings ∧ (countTile x0 x1 x2).tensor = x2.tensor ∧ (countTile x0 x1 x2).mem = x2.mem ∧ (countTile x0 x1 x2).ecc = x2.ecc ∧ (countTile x0 x1 x2).spaces = x2.spaces ∧ (countTile x0 x1 x2).flash = x2.flash ∧ (countTile x0 x1 x2).fabric = x2.fabric ∧ (countTile x0 x1 x2).embed = x2.embed ∧ (countTile x0 x1 x2).ralid = x2.ralid ∧ (countTile x0 x1 x2).cfl = x2.cfl ∧ (countTile x0 x1 x2).sec = x2.sec := by
  simp [countTile]

@[simp] theorem countCycle_frame (x0 : State) :
    (countCycle x0).pending = x0.pending ∧ (countCycle x0).tclk = x0.tclk ∧ (countCycle x0).gZero = x0.gZero ∧ (countCycle x0).drawn = x0.drawn ∧ (countCycle x0).power = x0.power ∧ (countCycle x0).boot = x0.boot ∧ (countCycle x0).host = x0.host ∧ (countCycle x0).rings = x0.rings ∧ (countCycle x0).mem = x0.mem ∧ (countCycle x0).ecc = x0.ecc ∧ (countCycle x0).spaces = x0.spaces ∧ (countCycle x0).flash = x0.flash ∧ (countCycle x0).fabric = x0.fabric ∧ (countCycle x0).embed = x0.embed ∧ (countCycle x0).ralid = x0.ralid ∧ (countCycle x0).cfl = x0.cfl ∧ (countCycle x0).sec = x0.sec := by
  unfold countCycle; dsimp only; (repeat' split) <;> simp

end Sys2Proof.Machine
end

