-- ==== Sys2Proof/Laws/FramesGrid.lean ====
section
/-! SUPPORT. What each shared operation of Machine/Grid.lean leaves as it is. -/

namespace Sys2Proof.Machine

@[simp] theorem modBank_frame (x0 : Nat) (x1 : QBank → QBank) (x2 : State) :
    (modBank x0 x1 x2).pending = x2.pending ∧ (modBank x0 x1 x2).tclk = x2.tclk ∧ (modBank x0 x1 x2).gZero = x2.gZero ∧ (modBank x0 x1 x2).drawn = x2.drawn ∧ (modBank x0 x1 x2).power = x2.power ∧ (modBank x0 x1 x2).boot = x2.boot ∧ (modBank x0 x1 x2).host = x2.host ∧ (modBank x0 x1 x2).rings = x2.rings ∧ (modBank x0 x1 x2).evt = x2.evt ∧ (modBank x0 x1 x2).mem = x2.mem ∧ (modBank x0 x1 x2).ecc = x2.ecc ∧ (modBank x0 x1 x2).spaces = x2.spaces ∧ (modBank x0 x1 x2).flash = x2.flash ∧ (modBank x0 x1 x2).fabric = x2.fabric ∧ (modBank x0 x1 x2).embed = x2.embed ∧ (modBank x0 x1 x2).ralid = x2.ralid ∧ (modBank x0 x1 x2).cfl = x2.cfl ∧ (modBank x0 x1 x2).sec = x2.sec := by
  simp [modBank]

end Sys2Proof.Machine
end

