-- ==== Sys2Proof/Laws/FramesIntegrity.lean ====
section
/-! SUPPORT. What each shared operation of Machine/Integrity.lean leaves as it is. -/

namespace Sys2Proof.Machine

@[simp] theorem wearWord_frame (x0 : Nat) (x1 : W72) (x2 : W72) (x3 : State) :
    (wearWord x0 x1 x2 x3).pending = x3.pending ∧ (wearWord x0 x1 x2 x3).tclk = x3.tclk ∧ (wearWord x0 x1 x2 x3).gZero = x3.gZero ∧ (wearWord x0 x1 x2 x3).drawn = x3.drawn ∧ (wearWord x0 x1 x2 x3).power = x3.power ∧ (wearWord x0 x1 x2 x3).boot = x3.boot ∧ (wearWord x0 x1 x2 x3).host = x3.host ∧ (wearWord x0 x1 x2 x3).rings = x3.rings ∧ (wearWord x0 x1 x2 x3).evt = x3.evt ∧ (wearWord x0 x1 x2 x3).tensor = x3.tensor ∧ (wearWord x0 x1 x2 x3).spaces = x3.spaces ∧ (wearWord x0 x1 x2 x3).flash = x3.flash ∧ (wearWord x0 x1 x2 x3).fabric = x3.fabric ∧ (wearWord x0 x1 x2 x3).embed = x3.embed ∧ (wearWord x0 x1 x2 x3).ralid = x3.ralid ∧ (wearWord x0 x1 x2 x3).cfl = x3.cfl ∧ (wearWord x0 x1 x2 x3).sec = x3.sec := by
  simp [wearWord]

@[simp] theorem noteStuck_frame (x0 : Nat) (x1 : Nat) (x2 : State) :
    (noteStuck x0 x1 x2).pending = x2.pending ∧ (noteStuck x0 x1 x2).tclk = x2.tclk ∧ (noteStuck x0 x1 x2).gZero = x2.gZero ∧ (noteStuck x0 x1 x2).drawn = x2.drawn ∧ (noteStuck x0 x1 x2).power = x2.power ∧ (noteStuck x0 x1 x2).boot = x2.boot ∧ (noteStuck x0 x1 x2).rings = x2.rings ∧ (noteStuck x0 x1 x2).tensor = x2.tensor ∧ (noteStuck x0 x1 x2).mem = x2.mem ∧ (noteStuck x0 x1 x2).spaces = x2.spaces ∧ (noteStuck x0 x1 x2).flash = x2.flash ∧ (noteStuck x0 x1 x2).fabric = x2.fabric ∧ (noteStuck x0 x1 x2).embed = x2.embed ∧ (noteStuck x0 x1 x2).ralid = x2.ralid ∧ (noteStuck x0 x1 x2).cfl = x2.cfl ∧ (noteStuck x0 x1 x2).sec = x2.sec := by
  simp [noteStuck]

@[simp] theorem patrol_frame (x0 : Nat) (x1 : State) :
    (patrol x0 x1).pending = x1.pending ∧ (patrol x0 x1).tclk = x1.tclk ∧ (patrol x0 x1).gZero = x1.gZero ∧ (patrol x0 x1).drawn = x1.drawn ∧ (patrol x0 x1).power = x1.power ∧ (patrol x0 x1).boot = x1.boot ∧ (patrol x0 x1).rings = x1.rings ∧ (patrol x0 x1).tensor = x1.tensor ∧ (patrol x0 x1).spaces = x1.spaces ∧ (patrol x0 x1).flash = x1.flash ∧ (patrol x0 x1).fabric = x1.fabric ∧ (patrol x0 x1).embed = x1.embed ∧ (patrol x0 x1).ralid = x1.ralid ∧ (patrol x0 x1).cfl = x1.cfl ∧ (patrol x0 x1).sec = x1.sec := by
  unfold patrol; dsimp only; (repeat' split) <;> simp

end Sys2Proof.Machine
end

