-- ==== Sys2Proof/Laws/State.lean ====
section
/-! SUPPORT. What each update of a part of the state gives for each field: the changed part, and every other part as it was. -/

namespace Sys2Proof.Machine

/-! setHost. -/

@[simp] theorem setHost_pending (f : HostSide → HostSide) (s : State) : (setHost f s).pending = s.pending := rfl
@[simp] theorem setHost_tclk (f : HostSide → HostSide) (s : State) : (setHost f s).tclk = s.tclk := rfl
@[simp] theorem setHost_gZero (f : HostSide → HostSide) (s : State) : (setHost f s).gZero = s.gZero := rfl
@[simp] theorem setHost_drawn (f : HostSide → HostSide) (s : State) : (setHost f s).drawn = s.drawn := rfl
@[simp] theorem setHost_power (f : HostSide → HostSide) (s : State) : (setHost f s).power = s.power := rfl
@[simp] theorem setHost_boot (f : HostSide → HostSide) (s : State) : (setHost f s).boot = s.boot := rfl
@[simp] theorem setHost_host (f : HostSide → HostSide) (s : State) : (setHost f s).host = f s.host := rfl
@[simp] theorem setHost_rings (f : HostSide → HostSide) (s : State) : (setHost f s).rings = s.rings := rfl
@[simp] theorem setHost_evt (f : HostSide → HostSide) (s : State) : (setHost f s).evt = s.evt := rfl
@[simp] theorem setHost_tensor (f : HostSide → HostSide) (s : State) : (setHost f s).tensor = s.tensor := rfl
@[simp] theorem setHost_mem (f : HostSide → HostSide) (s : State) : (setHost f s).mem = s.mem := rfl
@[simp] theorem setHost_ecc (f : HostSide → HostSide) (s : State) : (setHost f s).ecc = s.ecc := rfl
@[simp] theorem setHost_spaces (f : HostSide → HostSide) (s : State) : (setHost f s).spaces = s.spaces := rfl
@[simp] theorem setHost_flash (f : HostSide → HostSide) (s : State) : (setHost f s).flash = s.flash := rfl
@[simp] theorem setHost_fabric (f : HostSide → HostSide) (s : State) : (setHost f s).fabric = s.fabric := rfl
@[simp] theorem setHost_embed (f : HostSide → HostSide) (s : State) : (setHost f s).embed = s.embed := rfl
@[simp] theorem setHost_ralid (f : HostSide → HostSide) (s : State) : (setHost f s).ralid = s.ralid := rfl
@[simp] theorem setHost_cfl (f : HostSide → HostSide) (s : State) : (setHost f s).cfl = s.cfl := rfl
@[simp] theorem setHost_sec (f : HostSide → HostSide) (s : State) : (setHost f s).sec = s.sec := rfl

/-! setRings. -/

@[simp] theorem setRings_pending (f : Rings → Rings) (s : State) : (setRings f s).pending = s.pending := rfl
@[simp] theorem setRings_tclk (f : Rings → Rings) (s : State) : (setRings f s).tclk = s.tclk := rfl
@[simp] theorem setRings_gZero (f : Rings → Rings) (s : State) : (setRings f s).gZero = s.gZero := rfl
@[simp] theorem setRings_drawn (f : Rings → Rings) (s : State) : (setRings f s).drawn = s.drawn := rfl
@[simp] theorem setRings_power (f : Rings → Rings) (s : State) : (setRings f s).power = s.power := rfl
@[simp] theorem setRings_boot (f : Rings → Rings) (s : State) : (setRings f s).boot = s.boot := rfl
@[simp] theorem setRings_host (f : Rings → Rings) (s : State) : (setRings f s).host = s.host := rfl
@[simp] theorem setRings_rings (f : Rings → Rings) (s : State) : (setRings f s).rings = f s.rings := rfl
@[simp] theorem setRings_evt (f : Rings → Rings) (s : State) : (setRings f s).evt = s.evt := rfl
@[simp] theorem setRings_tensor (f : Rings → Rings) (s : State) : (setRings f s).tensor = s.tensor := rfl
@[simp] theorem setRings_mem (f : Rings → Rings) (s : State) : (setRings f s).mem = s.mem := rfl
@[simp] theorem setRings_ecc (f : Rings → Rings) (s : State) : (setRings f s).ecc = s.ecc := rfl
@[simp] theorem setRings_spaces (f : Rings → Rings) (s : State) : (setRings f s).spaces = s.spaces := rfl
@[simp] theorem setRings_flash (f : Rings → Rings) (s : State) : (setRings f s).flash = s.flash := rfl
@[simp] theorem setRings_fabric (f : Rings → Rings) (s : State) : (setRings f s).fabric = s.fabric := rfl
@[simp] theorem setRings_embed (f : Rings → Rings) (s : State) : (setRings f s).embed = s.embed := rfl
@[simp] theorem setRings_ralid (f : Rings → Rings) (s : State) : (setRings f s).ralid = s.ralid := rfl
@[simp] theorem setRings_cfl (f : Rings → Rings) (s : State) : (setRings f s).cfl = s.cfl := rfl
@[simp] theorem setRings_sec (f : Rings → Rings) (s : State) : (setRings f s).sec = s.sec := rfl

/-! setCfl. -/

@[simp] theorem setCfl_pending (f : Cfl → Cfl) (s : State) : (setCfl f s).pending = s.pending := rfl
@[simp] theorem setCfl_tclk (f : Cfl → Cfl) (s : State) : (setCfl f s).tclk = s.tclk := rfl
@[simp] theorem setCfl_gZero (f : Cfl → Cfl) (s : State) : (setCfl f s).gZero = s.gZero := rfl
@[simp] theorem setCfl_drawn (f : Cfl → Cfl) (s : State) : (setCfl f s).drawn = s.drawn := rfl
@[simp] theorem setCfl_power (f : Cfl → Cfl) (s : State) : (setCfl f s).power = s.power := rfl
@[simp] theorem setCfl_boot (f : Cfl → Cfl) (s : State) : (setCfl f s).boot = s.boot := rfl
@[simp] theorem setCfl_host (f : Cfl → Cfl) (s : State) : (setCfl f s).host = s.host := rfl
@[simp] theorem setCfl_rings (f : Cfl → Cfl) (s : State) : (setCfl f s).rings = s.rings := rfl
@[simp] theorem setCfl_evt (f : Cfl → Cfl) (s : State) : (setCfl f s).evt = s.evt := rfl
@[simp] theorem setCfl_tensor (f : Cfl → Cfl) (s : State) : (setCfl f s).tensor = s.tensor := rfl
@[simp] theorem setCfl_mem (f : Cfl → Cfl) (s : State) : (setCfl f s).mem = s.mem := rfl
@[simp] theorem setCfl_ecc (f : Cfl → Cfl) (s : State) : (setCfl f s).ecc = s.ecc := rfl
@[simp] theorem setCfl_spaces (f : Cfl → Cfl) (s : State) : (setCfl f s).spaces = s.spaces := rfl
@[simp] theorem setCfl_flash (f : Cfl → Cfl) (s : State) : (setCfl f s).flash = s.flash := rfl
@[simp] theorem setCfl_fabric (f : Cfl → Cfl) (s : State) : (setCfl f s).fabric = s.fabric := rfl
@[simp] theorem setCfl_embed (f : Cfl → Cfl) (s : State) : (setCfl f s).embed = s.embed := rfl
@[simp] theorem setCfl_ralid (f : Cfl → Cfl) (s : State) : (setCfl f s).ralid = s.ralid := rfl
@[simp] theorem setCfl_cfl (f : Cfl → Cfl) (s : State) : (setCfl f s).cfl = f s.cfl := rfl
@[simp] theorem setCfl_sec (f : Cfl → Cfl) (s : State) : (setCfl f s).sec = s.sec := rfl

/-! setSec. -/

@[simp] theorem setSec_pending (f : Sec → Sec) (s : State) : (setSec f s).pending = s.pending := rfl
@[simp] theorem setSec_tclk (f : Sec → Sec) (s : State) : (setSec f s).tclk = s.tclk := rfl
@[simp] theorem setSec_gZero (f : Sec → Sec) (s : State) : (setSec f s).gZero = s.gZero := rfl
@[simp] theorem setSec_drawn (f : Sec → Sec) (s : State) : (setSec f s).drawn = s.drawn := rfl
@[simp] theorem setSec_power (f : Sec → Sec) (s : State) : (setSec f s).power = s.power := rfl
@[simp] theorem setSec_boot (f : Sec → Sec) (s : State) : (setSec f s).boot = s.boot := rfl
@[simp] theorem setSec_host (f : Sec → Sec) (s : State) : (setSec f s).host = s.host := rfl
@[simp] theorem setSec_rings (f : Sec → Sec) (s : State) : (setSec f s).rings = s.rings := rfl
@[simp] theorem setSec_evt (f : Sec → Sec) (s : State) : (setSec f s).evt = s.evt := rfl
@[simp] theorem setSec_tensor (f : Sec → Sec) (s : State) : (setSec f s).tensor = s.tensor := rfl
@[simp] theorem setSec_mem (f : Sec → Sec) (s : State) : (setSec f s).mem = s.mem := rfl
@[simp] theorem setSec_ecc (f : Sec → Sec) (s : State) : (setSec f s).ecc = s.ecc := rfl
@[simp] theorem setSec_spaces (f : Sec → Sec) (s : State) : (setSec f s).spaces = s.spaces := rfl
@[simp] theorem setSec_flash (f : Sec → Sec) (s : State) : (setSec f s).flash = s.flash := rfl
@[simp] theorem setSec_fabric (f : Sec → Sec) (s : State) : (setSec f s).fabric = s.fabric := rfl
@[simp] theorem setSec_embed (f : Sec → Sec) (s : State) : (setSec f s).embed = s.embed := rfl
@[simp] theorem setSec_ralid (f : Sec → Sec) (s : State) : (setSec f s).ralid = s.ralid := rfl
@[simp] theorem setSec_cfl (f : Sec → Sec) (s : State) : (setSec f s).cfl = s.cfl := rfl
@[simp] theorem setSec_sec (f : Sec → Sec) (s : State) : (setSec f s).sec = f s.sec := rfl

/-! setPower. -/

@[simp] theorem setPower_pending (f : Power → Power) (s : State) : (setPower f s).pending = s.pending := rfl
@[simp] theorem setPower_tclk (f : Power → Power) (s : State) : (setPower f s).tclk = s.tclk := rfl
@[simp] theorem setPower_gZero (f : Power → Power) (s : State) : (setPower f s).gZero = s.gZero := rfl
@[simp] theorem setPower_drawn (f : Power → Power) (s : State) : (setPower f s).drawn = s.drawn := rfl
@[simp] theorem setPower_power (f : Power → Power) (s : State) : (setPower f s).power = f s.power := rfl
@[simp] theorem setPower_boot (f : Power → Power) (s : State) : (setPower f s).boot = s.boot := rfl
@[simp] theorem setPower_host (f : Power → Power) (s : State) : (setPower f s).host = s.host := rfl
@[simp] theorem setPower_rings (f : Power → Power) (s : State) : (setPower f s).rings = s.rings := rfl
@[simp] theorem setPower_evt (f : Power → Power) (s : State) : (setPower f s).evt = s.evt := rfl
@[simp] theorem setPower_tensor (f : Power → Power) (s : State) : (setPower f s).tensor = s.tensor := rfl
@[simp] theorem setPower_mem (f : Power → Power) (s : State) : (setPower f s).mem = s.mem := rfl
@[simp] theorem setPower_ecc (f : Power → Power) (s : State) : (setPower f s).ecc = s.ecc := rfl
@[simp] theorem setPower_spaces (f : Power → Power) (s : State) : (setPower f s).spaces = s.spaces := rfl
@[simp] theorem setPower_flash (f : Power → Power) (s : State) : (setPower f s).flash = s.flash := rfl
@[simp] theorem setPower_fabric (f : Power → Power) (s : State) : (setPower f s).fabric = s.fabric := rfl
@[simp] theorem setPower_embed (f : Power → Power) (s : State) : (setPower f s).embed = s.embed := rfl
@[simp] theorem setPower_ralid (f : Power → Power) (s : State) : (setPower f s).ralid = s.ralid := rfl
@[simp] theorem setPower_cfl (f : Power → Power) (s : State) : (setPower f s).cfl = s.cfl := rfl
@[simp] theorem setPower_sec (f : Power → Power) (s : State) : (setPower f s).sec = s.sec := rfl

/-! setBoot. -/

@[simp] theorem setBoot_pending (f : Boot → Boot) (s : State) : (setBoot f s).pending = s.pending := rfl
@[simp] theorem setBoot_tclk (f : Boot → Boot) (s : State) : (setBoot f s).tclk = s.tclk := rfl
@[simp] theorem setBoot_gZero (f : Boot → Boot) (s : State) : (setBoot f s).gZero = s.gZero := rfl
@[simp] theorem setBoot_drawn (f : Boot → Boot) (s : State) : (setBoot f s).drawn = s.drawn := rfl
@[simp] theorem setBoot_power (f : Boot → Boot) (s : State) : (setBoot f s).power = s.power := rfl
@[simp] theorem setBoot_boot (f : Boot → Boot) (s : State) : (setBoot f s).boot = f s.boot := rfl
@[simp] theorem setBoot_host (f : Boot → Boot) (s : State) : (setBoot f s).host = s.host := rfl
@[simp] theorem setBoot_rings (f : Boot → Boot) (s : State) : (setBoot f s).rings = s.rings := rfl
@[simp] theorem setBoot_evt (f : Boot → Boot) (s : State) : (setBoot f s).evt = s.evt := rfl
@[simp] theorem setBoot_tensor (f : Boot → Boot) (s : State) : (setBoot f s).tensor = s.tensor := rfl
@[simp] theorem setBoot_mem (f : Boot → Boot) (s : State) : (setBoot f s).mem = s.mem := rfl
@[simp] theorem setBoot_ecc (f : Boot → Boot) (s : State) : (setBoot f s).ecc = s.ecc := rfl
@[simp] theorem setBoot_spaces (f : Boot → Boot) (s : State) : (setBoot f s).spaces = s.spaces := rfl
@[simp] theorem setBoot_flash (f : Boot → Boot) (s : State) : (setBoot f s).flash = s.flash := rfl
@[simp] theorem setBoot_fabric (f : Boot → Boot) (s : State) : (setBoot f s).fabric = s.fabric := rfl
@[simp] theorem setBoot_embed (f : Boot → Boot) (s : State) : (setBoot f s).embed = s.embed := rfl
@[simp] theorem setBoot_ralid (f : Boot → Boot) (s : State) : (setBoot f s).ralid = s.ralid := rfl
@[simp] theorem setBoot_cfl (f : Boot → Boot) (s : State) : (setBoot f s).cfl = s.cfl := rfl
@[simp] theorem setBoot_sec (f : Boot → Boot) (s : State) : (setBoot f s).sec = s.sec := rfl

/-! setRalid. -/

@[simp] theorem setRalid_pending (r : Ralid) (s : State) : (setRalid r s).pending = s.pending := rfl
@[simp] theorem setRalid_tclk (r : Ralid) (s : State) : (setRalid r s).tclk = s.tclk := rfl
@[simp] theorem setRalid_gZero (r : Ralid) (s : State) : (setRalid r s).gZero = s.gZero := rfl
@[simp] theorem setRalid_drawn (r : Ralid) (s : State) : (setRalid r s).drawn = s.drawn := rfl
@[simp] theorem setRalid_power (r : Ralid) (s : State) : (setRalid r s).power = s.power := rfl
@[simp] theorem setRalid_boot (r : Ralid) (s : State) : (setRalid r s).boot = s.boot := rfl
@[simp] theorem setRalid_host (r : Ralid) (s : State) : (setRalid r s).host = s.host := rfl
@[simp] theorem setRalid_rings (r : Ralid) (s : State) : (setRalid r s).rings = s.rings := rfl
@[simp] theorem setRalid_evt (r : Ralid) (s : State) : (setRalid r s).evt = s.evt := rfl
@[simp] theorem setRalid_tensor (r : Ralid) (s : State) : (setRalid r s).tensor = s.tensor := rfl
@[simp] theorem setRalid_mem (r : Ralid) (s : State) : (setRalid r s).mem = s.mem := rfl
@[simp] theorem setRalid_ecc (r : Ralid) (s : State) : (setRalid r s).ecc = s.ecc := rfl
@[simp] theorem setRalid_spaces (r : Ralid) (s : State) : (setRalid r s).spaces = s.spaces := rfl
@[simp] theorem setRalid_flash (r : Ralid) (s : State) : (setRalid r s).flash = s.flash := rfl
@[simp] theorem setRalid_fabric (r : Ralid) (s : State) : (setRalid r s).fabric = s.fabric := rfl
@[simp] theorem setRalid_embed (r : Ralid) (s : State) : (setRalid r s).embed = s.embed := rfl
@[simp] theorem setRalid_ralid (r : Ralid) (s : State) : (setRalid r s).ralid = r := rfl
@[simp] theorem setRalid_cfl (r : Ralid) (s : State) : (setRalid r s).cfl = s.cfl := rfl
@[simp] theorem setRalid_sec (r : Ralid) (s : State) : (setRalid r s).sec = s.sec := rfl

/-! setEmbed. -/

@[simp] theorem setEmbed_pending (e : Embed) (s : State) : (setEmbed e s).pending = s.pending := rfl
@[simp] theorem setEmbed_tclk (e : Embed) (s : State) : (setEmbed e s).tclk = s.tclk := rfl
@[simp] theorem setEmbed_gZero (e : Embed) (s : State) : (setEmbed e s).gZero = s.gZero := rfl
@[simp] theorem setEmbed_drawn (e : Embed) (s : State) : (setEmbed e s).drawn = s.drawn := rfl
@[simp] theorem setEmbed_power (e : Embed) (s : State) : (setEmbed e s).power = s.power := rfl
@[simp] theorem setEmbed_boot (e : Embed) (s : State) : (setEmbed e s).boot = s.boot := rfl
@[simp] theorem setEmbed_host (e : Embed) (s : State) : (setEmbed e s).host = s.host := rfl
@[simp] theorem setEmbed_rings (e : Embed) (s : State) : (setEmbed e s).rings = s.rings := rfl
@[simp] theorem setEmbed_evt (e : Embed) (s : State) : (setEmbed e s).evt = s.evt := rfl
@[simp] theorem setEmbed_tensor (e : Embed) (s : State) : (setEmbed e s).tensor = s.tensor := rfl
@[simp] theorem setEmbed_mem (e : Embed) (s : State) : (setEmbed e s).mem = s.mem := rfl
@[simp] theorem setEmbed_ecc (e : Embed) (s : State) : (setEmbed e s).ecc = s.ecc := rfl
@[simp] theorem setEmbed_spaces (e : Embed) (s : State) : (setEmbed e s).spaces = s.spaces := rfl
@[simp] theorem setEmbed_flash (e : Embed) (s : State) : (setEmbed e s).flash = s.flash := rfl
@[simp] theorem setEmbed_fabric (e : Embed) (s : State) : (setEmbed e s).fabric = s.fabric := rfl
@[simp] theorem setEmbed_embed (e : Embed) (s : State) : (setEmbed e s).embed = e := rfl
@[simp] theorem setEmbed_ralid (e : Embed) (s : State) : (setEmbed e s).ralid = s.ralid := rfl
@[simp] theorem setEmbed_cfl (e : Embed) (s : State) : (setEmbed e s).cfl = s.cfl := rfl
@[simp] theorem setEmbed_sec (e : Embed) (s : State) : (setEmbed e s).sec = s.sec := rfl

/-! setTile. -/

@[simp] theorem setTile_pending (n : Nat) (x : Tile) (s : State) : (setTile n x s).pending = s.pending := rfl
@[simp] theorem setTile_tclk (n : Nat) (x : Tile) (s : State) : (setTile n x s).tclk = s.tclk := rfl
@[simp] theorem setTile_gZero (n : Nat) (x : Tile) (s : State) : (setTile n x s).gZero = s.gZero := rfl
@[simp] theorem setTile_drawn (n : Nat) (x : Tile) (s : State) : (setTile n x s).drawn = s.drawn := rfl
@[simp] theorem setTile_power (n : Nat) (x : Tile) (s : State) : (setTile n x s).power = s.power := rfl
@[simp] theorem setTile_boot (n : Nat) (x : Tile) (s : State) : (setTile n x s).boot = s.boot := rfl
@[simp] theorem setTile_host (n : Nat) (x : Tile) (s : State) : (setTile n x s).host = s.host := rfl
@[simp] theorem setTile_rings (n : Nat) (x : Tile) (s : State) : (setTile n x s).rings = s.rings := rfl
@[simp] theorem setTile_evt (n : Nat) (x : Tile) (s : State) : (setTile n x s).evt = s.evt := rfl
@[simp] theorem setTile_mem (n : Nat) (x : Tile) (s : State) : (setTile n x s).mem = s.mem := rfl
@[simp] theorem setTile_ecc (n : Nat) (x : Tile) (s : State) : (setTile n x s).ecc = s.ecc := rfl
@[simp] theorem setTile_spaces (n : Nat) (x : Tile) (s : State) : (setTile n x s).spaces = s.spaces := rfl
@[simp] theorem setTile_flash (n : Nat) (x : Tile) (s : State) : (setTile n x s).flash = s.flash := rfl
@[simp] theorem setTile_fabric (n : Nat) (x : Tile) (s : State) : (setTile n x s).fabric = s.fabric := rfl
@[simp] theorem setTile_embed (n : Nat) (x : Tile) (s : State) : (setTile n x s).embed = s.embed := rfl
@[simp] theorem setTile_ralid (n : Nat) (x : Tile) (s : State) : (setTile n x s).ralid = s.ralid := rfl
@[simp] theorem setTile_cfl (n : Nat) (x : Tile) (s : State) : (setTile n x s).cfl = s.cfl := rfl
@[simp] theorem setTile_sec (n : Nat) (x : Tile) (s : State) : (setTile n x s).sec = s.sec := rfl

/-! setJob. -/

@[simp] theorem setJob_pending (n : Nat) (j : Job) (s : State) : (setJob n j s).pending = s.pending := rfl
@[simp] theorem setJob_tclk (n : Nat) (j : Job) (s : State) : (setJob n j s).tclk = s.tclk := rfl
@[simp] theorem setJob_gZero (n : Nat) (j : Job) (s : State) : (setJob n j s).gZero = s.gZero := rfl
@[simp] theorem setJob_drawn (n : Nat) (j : Job) (s : State) : (setJob n j s).drawn = s.drawn := rfl
@[simp] theorem setJob_power (n : Nat) (j : Job) (s : State) : (setJob n j s).power = s.power := rfl
@[simp] theorem setJob_boot (n : Nat) (j : Job) (s : State) : (setJob n j s).boot = s.boot := rfl
@[simp] theorem setJob_host (n : Nat) (j : Job) (s : State) : (setJob n j s).host = s.host := rfl
@[simp] theorem setJob_rings (n : Nat) (j : Job) (s : State) : (setJob n j s).rings = s.rings := rfl
@[simp] theorem setJob_evt (n : Nat) (j : Job) (s : State) : (setJob n j s).evt = s.evt := rfl
@[simp] theorem setJob_mem (n : Nat) (j : Job) (s : State) : (setJob n j s).mem = s.mem := rfl
@[simp] theorem setJob_ecc (n : Nat) (j : Job) (s : State) : (setJob n j s).ecc = s.ecc := rfl
@[simp] theorem setJob_spaces (n : Nat) (j : Job) (s : State) : (setJob n j s).spaces = s.spaces := rfl
@[simp] theorem setJob_flash (n : Nat) (j : Job) (s : State) : (setJob n j s).flash = s.flash := rfl
@[simp] theorem setJob_fabric (n : Nat) (j : Job) (s : State) : (setJob n j s).fabric = s.fabric := rfl
@[simp] theorem setJob_embed (n : Nat) (j : Job) (s : State) : (setJob n j s).embed = s.embed := rfl
@[simp] theorem setJob_ralid (n : Nat) (j : Job) (s : State) : (setJob n j s).ralid = s.ralid := rfl
@[simp] theorem setJob_cfl (n : Nat) (j : Job) (s : State) : (setJob n j s).cfl = s.cfl := rfl
@[simp] theorem setJob_sec (n : Nat) (j : Job) (s : State) : (setJob n j s).sec = s.sec := rfl

/-! setPort. -/

@[simp] theorem setPort_pending (n : Nat) (q : Port) (s : State) : (setPort n q s).pending = s.pending := rfl
@[simp] theorem setPort_tclk (n : Nat) (q : Port) (s : State) : (setPort n q s).tclk = s.tclk := rfl
@[simp] theorem setPort_gZero (n : Nat) (q : Port) (s : State) : (setPort n q s).gZero = s.gZero := rfl
@[simp] theorem setPort_drawn (n : Nat) (q : Port) (s : State) : (setPort n q s).drawn = s.drawn := rfl
@[simp] theorem setPort_power (n : Nat) (q : Port) (s : State) : (setPort n q s).power = s.power := rfl
@[simp] theorem setPort_boot (n : Nat) (q : Port) (s : State) : (setPort n q s).boot = s.boot := rfl
@[simp] theorem setPort_host (n : Nat) (q : Port) (s : State) : (setPort n q s).host = s.host := rfl
@[simp] theorem setPort_rings (n : Nat) (q : Port) (s : State) : (setPort n q s).rings = s.rings := rfl
@[simp] theorem setPort_evt (n : Nat) (q : Port) (s : State) : (setPort n q s).evt = s.evt := rfl
@[simp] theorem setPort_tensor (n : Nat) (q : Port) (s : State) : (setPort n q s).tensor = s.tensor := rfl
@[simp] theorem setPort_mem (n : Nat) (q : Port) (s : State) : (setPort n q s).mem = s.mem := rfl
@[simp] theorem setPort_ecc (n : Nat) (q : Port) (s : State) : (setPort n q s).ecc = s.ecc := rfl
@[simp] theorem setPort_spaces (n : Nat) (q : Port) (s : State) : (setPort n q s).spaces = s.spaces := rfl
@[simp] theorem setPort_flash (n : Nat) (q : Port) (s : State) : (setPort n q s).flash = s.flash := rfl
@[simp] theorem setPort_embed (n : Nat) (q : Port) (s : State) : (setPort n q s).embed = s.embed := rfl
@[simp] theorem setPort_ralid (n : Nat) (q : Port) (s : State) : (setPort n q s).ralid = s.ralid := rfl
@[simp] theorem setPort_cfl (n : Nat) (q : Port) (s : State) : (setPort n q s).cfl = s.cfl := rfl
@[simp] theorem setPort_sec (n : Nat) (q : Port) (s : State) : (setPort n q s).sec = s.sec := rfl

/-! setSb. -/

@[simp] theorem setSb_pending (n : Nat) (b : Superblock) (s : State) : (setSb n b s).pending = s.pending := rfl
@[simp] theorem setSb_tclk (n : Nat) (b : Superblock) (s : State) : (setSb n b s).tclk = s.tclk := rfl
@[simp] theorem setSb_gZero (n : Nat) (b : Superblock) (s : State) : (setSb n b s).gZero = s.gZero := rfl
@[simp] theorem setSb_drawn (n : Nat) (b : Superblock) (s : State) : (setSb n b s).drawn = s.drawn := rfl
@[simp] theorem setSb_power (n : Nat) (b : Superblock) (s : State) : (setSb n b s).power = s.power := rfl
@[simp] theorem setSb_boot (n : Nat) (b : Superblock) (s : State) : (setSb n b s).boot = s.boot := rfl
@[simp] theorem setSb_host (n : Nat) (b : Superblock) (s : State) : (setSb n b s).host = s.host := rfl
@[simp] theorem setSb_rings (n : Nat) (b : Superblock) (s : State) : (setSb n b s).rings = s.rings := rfl
@[simp] theorem setSb_evt (n : Nat) (b : Superblock) (s : State) : (setSb n b s).evt = s.evt := rfl
@[simp] theorem setSb_tensor (n : Nat) (b : Superblock) (s : State) : (setSb n b s).tensor = s.tensor := rfl
@[simp] theorem setSb_mem (n : Nat) (b : Superblock) (s : State) : (setSb n b s).mem = s.mem := rfl
@[simp] theorem setSb_ecc (n : Nat) (b : Superblock) (s : State) : (setSb n b s).ecc = s.ecc := rfl
@[simp] theorem setSb_spaces (n : Nat) (b : Superblock) (s : State) : (setSb n b s).spaces = s.spaces := rfl
@[simp] theorem setSb_fabric (n : Nat) (b : Superblock) (s : State) : (setSb n b s).fabric = s.fabric := rfl
@[simp] theorem setSb_embed (n : Nat) (b : Superblock) (s : State) : (setSb n b s).embed = s.embed := rfl
@[simp] theorem setSb_ralid (n : Nat) (b : Superblock) (s : State) : (setSb n b s).ralid = s.ralid := rfl
@[simp] theorem setSb_cfl (n : Nat) (b : Superblock) (s : State) : (setSb n b s).cfl = s.cfl := rfl
@[simp] theorem setSb_sec (n : Nat) (b : Superblock) (s : State) : (setSb n b s).sec = s.sec := rfl

/-! setOp. -/

@[simp] theorem setOp_pending (n : Nat) (o : StoreOp) (s : State) : (setOp n o s).pending = s.pending := rfl
@[simp] theorem setOp_tclk (n : Nat) (o : StoreOp) (s : State) : (setOp n o s).tclk = s.tclk := rfl
@[simp] theorem setOp_gZero (n : Nat) (o : StoreOp) (s : State) : (setOp n o s).gZero = s.gZero := rfl
@[simp] theorem setOp_drawn (n : Nat) (o : StoreOp) (s : State) : (setOp n o s).drawn = s.drawn := rfl
@[simp] theorem setOp_power (n : Nat) (o : StoreOp) (s : State) : (setOp n o s).power = s.power := rfl
@[simp] theorem setOp_boot (n : Nat) (o : StoreOp) (s : State) : (setOp n o s).boot = s.boot := rfl
@[simp] theorem setOp_host (n : Nat) (o : StoreOp) (s : State) : (setOp n o s).host = s.host := rfl
@[simp] theorem setOp_rings (n : Nat) (o : StoreOp) (s : State) : (setOp n o s).rings = s.rings := rfl
@[simp] theorem setOp_evt (n : Nat) (o : StoreOp) (s : State) : (setOp n o s).evt = s.evt := rfl
@[simp] theorem setOp_tensor (n : Nat) (o : StoreOp) (s : State) : (setOp n o s).tensor = s.tensor := rfl
@[simp] theorem setOp_mem (n : Nat) (o : StoreOp) (s : State) : (setOp n o s).mem = s.mem := rfl
@[simp] theorem setOp_ecc (n : Nat) (o : StoreOp) (s : State) : (setOp n o s).ecc = s.ecc := rfl
@[simp] theorem setOp_spaces (n : Nat) (o : StoreOp) (s : State) : (setOp n o s).spaces = s.spaces := rfl
@[simp] theorem setOp_fabric (n : Nat) (o : StoreOp) (s : State) : (setOp n o s).fabric = s.fabric := rfl
@[simp] theorem setOp_embed (n : Nat) (o : StoreOp) (s : State) : (setOp n o s).embed = s.embed := rfl
@[simp] theorem setOp_ralid (n : Nat) (o : StoreOp) (s : State) : (setOp n o s).ralid = s.ralid := rfl
@[simp] theorem setOp_cfl (n : Nat) (o : StoreOp) (s : State) : (setOp n o s).cfl = s.cfl := rfl
@[simp] theorem setOp_sec (n : Nat) (o : StoreOp) (s : State) : (setOp n o s).sec = s.sec := rfl

/-! setPhase. -/

@[simp] theorem setPhase_pending (n : Nat) (p : TaskPhase) (s : State) : (setPhase n p s).pending = s.pending := rfl
@[simp] theorem setPhase_tclk (n : Nat) (p : TaskPhase) (s : State) : (setPhase n p s).tclk = s.tclk := rfl
@[simp] theorem setPhase_gZero (n : Nat) (p : TaskPhase) (s : State) : (setPhase n p s).gZero = s.gZero := rfl
@[simp] theorem setPhase_drawn (n : Nat) (p : TaskPhase) (s : State) : (setPhase n p s).drawn = s.drawn := rfl
@[simp] theorem setPhase_power (n : Nat) (p : TaskPhase) (s : State) : (setPhase n p s).power = s.power := rfl
@[simp] theorem setPhase_boot (n : Nat) (p : TaskPhase) (s : State) : (setPhase n p s).boot = s.boot := rfl
@[simp] theorem setPhase_host (n : Nat) (p : TaskPhase) (s : State) : (setPhase n p s).host = s.host := rfl
@[simp] theorem setPhase_evt (n : Nat) (p : TaskPhase) (s : State) : (setPhase n p s).evt = s.evt := rfl
@[simp] theorem setPhase_tensor (n : Nat) (p : TaskPhase) (s : State) : (setPhase n p s).tensor = s.tensor := rfl
@[simp] theorem setPhase_mem (n : Nat) (p : TaskPhase) (s : State) : (setPhase n p s).mem = s.mem := rfl
@[simp] theorem setPhase_ecc (n : Nat) (p : TaskPhase) (s : State) : (setPhase n p s).ecc = s.ecc := rfl
@[simp] theorem setPhase_spaces (n : Nat) (p : TaskPhase) (s : State) : (setPhase n p s).spaces = s.spaces := rfl
@[simp] theorem setPhase_flash (n : Nat) (p : TaskPhase) (s : State) : (setPhase n p s).flash = s.flash := rfl
@[simp] theorem setPhase_fabric (n : Nat) (p : TaskPhase) (s : State) : (setPhase n p s).fabric = s.fabric := rfl
@[simp] theorem setPhase_embed (n : Nat) (p : TaskPhase) (s : State) : (setPhase n p s).embed = s.embed := rfl
@[simp] theorem setPhase_ralid (n : Nat) (p : TaskPhase) (s : State) : (setPhase n p s).ralid = s.ralid := rfl
@[simp] theorem setPhase_cfl (n : Nat) (p : TaskPhase) (s : State) : (setPhase n p s).cfl = s.cfl := rfl
@[simp] theorem setPhase_sec (n : Nat) (p : TaskPhase) (s : State) : (setPhase n p s).sec = s.sec := rfl

/-! Reading back what an update wrote. -/

theorem tileOf_setTile_self (n : Nat) (x : Tile) (s : State) : tileOf n (setTile n x s) = x := by
  simp [tileOf, setTile, Tbl.lookD]

theorem tileOf_setTile_ne {n m : Nat} (x : Tile) (s : State) (h : m ≠ n) : tileOf m (setTile n x s) = tileOf m s := by
  simp [tileOf, setTile, Tbl.lookD, Tbl.look_put_ne _ _ h]

theorem jobOf_setJob_self (n : Nat) (j : Job) (s : State) : jobOf n (setJob n j s) = some j := by
  simp [jobOf, setJob]

theorem jobOf_setJob_ne {n m : Nat} (j : Job) (s : State) (h : m ≠ n) : jobOf m (setJob n j s) = jobOf m s := by
  simp [jobOf, setJob, Tbl.look_put_ne _ _ h]

theorem portOf_setPort_self (n : Nat) (q : Port) (s : State) : portOf n (setPort n q s) = q := by
  simp [portOf, setPort, Tbl.lookD]

theorem sbOf_setSb_self (n : Nat) (b : Superblock) (s : State) : sbOf n (setSb n b s) = b := by
  simp [sbOf, setSb, Tbl.lookD]

end Sys2Proof.Machine
end

