-- ==== Sys2Proof/Tests/Slice0.lean ====
section
/-! SUPPORT. Tests of this slice: witnesses of the statements' hypotheses, the checks of `Instr.wellFormed`, and single commands on
small states. -/

set_option Elab.async false

namespace Sys2Proof.Tests

open Sys2Proof.Machine

/-- A device in READY: bring-up over, the link up in CXL mode, the host's enables set. -/
def upS : State :=
  { State.reset with
    boot := { State.reset.boot with dev := .ready, stage := 9, recoveryDone := true }
    host := { State.reset.host with
      linkUp := true, rate := 3, width := 2, cxl := true, memEn := true, biEn := true, msixEn := true, cacheEn := true } }

/-- A change of the supply of `upS`. -/
def powS (f : Power → Power) : State := { upS with power := f upS.power }
/-- A change of the boot state of `upS`. -/
def bootS (f : Boot → Boot) : State := { upS with boot := f upS.boot }
/-- A change of the host side of `upS`. -/
def hostS (f : HostSide → HostSide) : State := { upS with host := f upS.host }

/-- A word of `w` bits with values at bit positions. -/
def word (w : Nat) (l : List (Nat × Nat)) : BitVec w := BitVec.ofNat w (l.foldl (fun n p => n + p.2 * 2 ^ p.1) 0)

/-- A running job with nothing pending. -/
def job0 : Job :=
  { tag := 1, desc := word 1024 [(0, 1), (32, 2), (72, 16), (66, 2), (96, 3), (128, 1), (224, 9)], cq := 1, sq := 1, cmdTag := 5, opcode := 0x50,
    state := .running, phase := 0, hasWp := false, lr := 0, stepIdx := 0, stepLeft := 0, workPending := false, urgent := false,
    urgentOrder := 0, waitOrder := 0, sliceOver := false, leave := none, yieldDecided := false, suspendTrs := [],
    suspendPending := false, abortTrs := [], abortPending := false, drainPending := false, window := some 0, mapped := true,
    heldFlags := [], flagImage := [], signed := [], signedLogged := false, exchange := none, stop := none, lastSet := [],
    ieee := 0#5, cycles := 0, startAt := 0, leaves := 0, promotions := 0, lateCount := 0, longestGap := 0, longGaps := 0,
    flagsSaved := 0, refused := 0, stepLoad := 0, stallPriority := 0, stallBusy := 0, stallRetry := 0, stallQueue := 0,
    root := 0, admitOrder := 0 }

/-- `upS` whose owner is job `j` at entry 0, with read-only pages below 2^26 and write-only pages from there, and tiles `ts`. -/
def ownS (j : Job) (ts : Tbl Tile) : State :=
  { upS with tensor := { upS.tensor with
      owner := some 0, jobs := [(0, j)], tiles := ts, delivered := 10
      region := { upS.tensor.region with
        active := [{ writeOnly := false, base := 0, pages := 2 ^ 26 }, { writeOnly := true, base := 2 ^ 26, pages := 2 ^ 26 }] } } }

/-- The job's tile 0 is `x`. -/
def tileS (x : Tile) : State := ownS job0 [(0, x)]

/-- A queue entry with slot `sl`. -/
def entry (sl : BitVec 128) : QEntry :=
  { slot := sl, id := 0, word := 0x1000, hdr := 0#64, tracker := none, null := false, resolved := true, waitFrom := none,
    done := false, left := 0, next := 0, lock := none }

/-- A grid slot: BF16, 32 by 32 by 32, operands at 0x1000 and 0x8000, parameter record at 0x20000. -/
def gridSl : BitVec 128 := word 128 [(120, 1), (88, 1), (80, 32), (72, 32), (48, 0x40), (32, 0x400), (16, 0x800)]

/-- A grid instruction in flight. -/
def gridJ : GridJob :=
  { entry := entry gridSl, buf := 0, param := word 512 [(252, 8), (112, 0x1000)], streaming := false, acc := [], rows := 128, delivered := 0,
    corr := .absent, cvals := [], cflags := 0, entered := 0 }

/-- Tile memory with a few patterns. -/
def someMem : Mem := (List.range 512).map (fun i => (i, BitVec.ofNat 8 (37 * i + 1)))

/-- A vector slot: opcode, formats, four elements from 0 and 64 to 4096. -/
def vecSl (op fa fd n : Nat) : BitVec 128 := word 128 [(120, op), (100, fa), (96, fd), (64, n), (48, 0), (32, 1), (16, 2), (0, 64)]
/-- A tile whose vector unit has started `sl`. -/
def vecS (sl : BitVec 128) : State := tileS { Tile.fresh with mem := someMem, vec := some (entry sl) }

/-- An Itinerary header: engine and SYNC/LOOP slots present, with the mask's complement. -/
def hdr (mask : Nat) (l : List (Nat × Nat)) : W64 := word 64 ([(0, mask), (6, 63 - mask)] ++ l)

/-- A tile fetching from 0x1000, with units `us` in its buffer from there. -/
def fetchT (us : List W64) : Tile :=
  { Tile.fresh with rp := 0x1000, rangeLo := 0x1000, rangeHi := 0x2000, buf := (List.range us.length).map (fun i => (0x1000 + 8 * i, us.getD i 0#64)) }

/-- An ADD of four FP32 elements from 0 and 64 to 4096. -/
def addSl : BitVec 128 := word 128 [(120, 1), (100, 8), (96, 8), (64, 4), (32, 1), (0, 64)]

/-- A tile whose present word still has SYNC slot `sl`. -/
def syncS (sl : BitVec 128) : State :=
  tileS { fetchT [] with cur := some { addr := 0x1000, units := 3, hdr := hdr 16 [], sync := some sl, loop := none, hasEngine := false, skipTo := none, waited := false } }

/-- `s` after `n` delivered cycles. -/
def withDel (n : Nat) (s : State) : State := { s with tensor := { s.tensor with delivered := n } }

/-- A loop slot: counter 3, four iterations, a body of 5 units. -/
def loopSl : BitVec 128 := word 128 [(120, 1), (101, 3), (100, 1), (84, 4), (68, 5)]

/-- `s` with bytes at the start of stacked memory. -/
def withStk (s : State) : State := { s with mem := { s.mem with stacked := someMem } }

/-- `s` with Caravan group 5: leader tile 0, member tile 3. -/
def carS (s : State) (run : Bool) : State :=
  { s with tensor := { s.tensor with caravans := [(5, { leader := 0, members := word 128 [(3, 1)], running := run })] } }

/-- `s` with namespace 2 of 100 units, route 0 for a tree whose root is this device, and a route to device 6. -/
def nsS (s : State) : State :=
  { s with
    spaces := [(2, { blocks := 400, pool := 0, base := 1000 })]
    fabric := { s.fabric with routes := [(0, word 64 [(48, 1)]), (6, word 64 [(63, 1), (59, 2)])] } }

/-- `s` with another region table. -/
def withRegion (f : RegionTable → RegionTable) (s : State) : State :=
  { s with tensor := { s.tensor with region := f s.tensor.region } }

/-- Every tile of the owner at the step barrier, and the next step set read. -/
def stepS : State :=
  withRegion (fun r => { r with left := 1, next := .ready [{ writeOnly := false, base := 5, pages := 6 }] 1 4 })
    (ownS job0 ((List.range 128).map (fun i => (i, { fetchT [] with hold := .barrierStep }))))

/-- A descriptor: opcode and complement, tag 5, complements of zero lengths, and fields. -/
def desc (op : Nat) (l : List (Nat × Nat)) : BitVec 1024 :=
  word 1024 ([(0, op), (8, 255 - op), (32, 5), (224, 0xFFFFFFFF), (288, 0xFFFFFFFF)] ++ l)

/-- `s` with SQ 1 on CQ 1, and in task register 70 a command of that SQ ready for its row. -/
def taskS (op : Nat) (l : List (Nat × Nat)) (s : State) : State :=
  { s with rings := { s.rings with
      sqs := [(1, { state := .running, cls := 1, cq := 1, base := 0x100000, depth := 16, db := 0x200000, head := 3, tail := 3,
                    trLimit := 8, stopped := false, insertWaits := false, nextOrder := 1 })]
      cqs := [(1, { error := false, vector := 0xFFF, base := 0x300000, depth := 16, db := 0x200040, tail := 2, head := 0,
                    phase := true, agg := 0, since := 0 })]
      tasks := [(70, { sq := 1, order := 0, desc := desc op l, phase := .ready, owes2 := false })] } }

/-- The start of the job area. -/
def J : Nat := (jobArea State.reset).1

/-- A job descriptor with its areas in the job area, and one LR descriptor. -/
def jobDesc (l : List (Nat × Nat)) : BitVec 1024 :=
  word 1024 ([(0, 77), (32, 1), (40, 0xFE), (51, 1), (56, 1), (66, 2), (128, 9), (480, J), (448, 18), (384, J + 0x10000),
    (256, J + 0x100000), (320, J + 0x200000), (72, 1)] ++ l)

/-- `s` with the bytes of `v` at stacked-memory address `a`. -/
def withBytes (a n v : Nat) (s : State) : State :=
  { s with mem := { s.mem with stacked := Mem.write zeroByte s.mem.stacked a (leBytes n v) } }

/-- The Itinerary entries of 128 tiles: one page each from J + 0x400000. -/
def itins : Nat := (List.range 128).foldl (fun n i => n + (J + 0x400000 + 4096 * i + 2 ^ 40) * 2 ^ (64 * i)) 0

/-- `s` with a phase table, and what it names: a mapping of this device alone, Itineraries, no Caravans, one step set with a
read-only and a write-only range, an exchange with one range in and one entry out to device 6, and one LR descriptor with one
range. -/
def tablesS (s : State) : State :=
  withBytes (J + 0x100000) 64
      (word 512 [(216, J + 0x120000), (160, J + 0x101000), (120, J + 0x104000), (80, J + 0x102000), (40, J + 0x106000)]).toNat
    (withBytes (J + 0x101000) 8 1
    (withBytes (J + 0x104000) 24 (word 192 [(48, 2), (32, 3), (64, word' (J + 0x800000) 1), (128, word' (J + 0xA00000) 2)]).toNat
    (withBytes (J + 0x106000) 1024 itins
    (withBytes (J + 0x120000) 64 (word 512 [(80, 64), (64, 1), (32, 1), (200, (J + 0xC00000) / 4096), (172, 1),
        (472, J + 0xD00000), (460, 6), (420, 0x3C0000), (388, 128)]).toNat
    (withBytes (J + 0x200000) 16 (word 128 [(88, J + 0x201000), (76, 1)]).toNat
    (withBytes (J + 0x201000) 16 (word 128 [(126, 1), (119, 3), (103, 2), (40, 4)]).toNat s))))))
where
  /-- A region-mode entry: 16 pages from an address. -/
  word' (a mode : Nat) : Nat := mode * 2 ^ 62 + a / 4096 * 2 ^ 34 + 16 * 2 ^ 6

/-- The job 0 on `jobDesc`, changed by `f`, owner of `upS` with tables. -/
def jobS (f : Job → Job) : State := tablesS (ownS (f { job0 with desc := jobDesc [] }) [(0, { fetchT [] with mem := someMem })])

/-- `s` in a stage of a switch. -/
def swS (w : SwitchStage) (s : State) : State := { s with tensor := { s.tensor with switch := w } }

/-- The fields of a model: batch buffer, embedding table, 100 tokens, 256 dimensions. -/
def modelV : BitVec 512 :=
  word 512 [(472, J + 0x1000000), (432, J + 0x2000000), (408, 100), (384, 1), (378, 1), (366, 256)]

/-- `s` with a submitted embedding job on JOB descriptor and model table, ready to bind. -/
def bindS : State :=
  withBytes (J + 0x300000) 128 (jobDesc []).toNat (withBytes (J + 0x310000) 64 modelV.toNat
    (withBytes (J + 0x200000) 16 (word 128 [(88, J + 0x201000), (76, 1), (1, 1)]).toNat
      (taskS 0x40 [(64, J + 0x300000), (128, J + 0x310000)] (tablesS upS))))

/-- The embedding service bound to job 0. -/
def embS (f : Embed → Embed) (s : State) : State :=
  { s with embed := f { s.embed with bound := some 0, model := modelOf modelV.toNat } }

/-- A document of command 70 that reads host memory. -/
def doc0 : EmbedDoc :=
  { tr := 70, index := 0, key := 9#64, srcAddr := 0x500000, tokenCount := 20, srcNs := 0, srcKind := 0, tokensDone := 0,
    windowsDone := 0, staged := false, fail := 0, admitSeq := 1, running := false, reading := false }

/-- A list entry of one host document. -/
def list0 : List Byte := leBytes 32 (word 256 [(192, 9), (128, 0x500000), (96, 20)]).toNat

/-- An attached index of four nodes, 256 dimensions. -/
def index0 : RalIndex :=
  { capacity := 64, dims := 256, sketchSel := 0, metric := false, vecNs := 2, entry := 0, top := 4, freed := [], dead := [] }

/-- A node record: neighbours, birth 0, no death. -/
def rec (l : List Nat) : Nat :=
  (word 1024 ([(58, l.length), (10, 0xFFFFFF)] ++ (List.range l.length).map (fun j => (32 * j + 64, l.getD j 0)))).toNat

/-- `s` with the index attached, and the records of its nodes. -/
def ralS (f : Ralid → Ralid) (s : State) : State :=
  let x := withBytes (adjAddr 0 s) 128 (rec [1, 2]) (withBytes (adjAddr 1 s) 128 (rec [0, 3])
    (withBytes (adjAddr 2 s) 128 (rec [0]) (withBytes (adjAddr 3 s) 128 (rec [1]) s)))
  { x with ralid := f { x.ralid with index := some index0, shards := [0, 6], nextQuery := 11 } }

/-- A query that waits. -/
def query0 : Query :=
  { origin := .host 70, stage := .waiting, walker := none, k := 2, rerank := 4, l := 8, maxExp := 20, epoch := none, vec := List.replicate 256 0,
    sketch := 5, resAddr := 0x600000, fanout := false, since := 0, budget := 1000, queue := [], expansions := 0, limit := false, ranks := [],
    readsOver := false, expect := [], lists := [], missing := 0, refused := 0, parts := [] }

/-- A parcel of `words` words with an opcode and fields. -/
def parcel (op : Nat) (payload : List W64) (l : List (Nat × Nat)) : Parcel :=
  { header := word 256 ([(252, op), (182, payload.length)] ++ l), payload := payload }

/-- `s` with parcels at the head of port 3. -/
def portS (ps : List Parcel) (s : State) : State :=
  { s with fabric := { s.fabric with ports := [(3, { Port.reset with enable := true, state := 5, inbox := ps })] } }

/-- An image header: four nodes, 256 dimensions, vectors in namespace 2. -/
def attH : BitVec 512 :=
  word 512 [(480, 4), (425, 3), (401, 0xFFFFFC), (389, 256), (381, 1)]

/-- `s` with namespace 2, whose unit 0 holds an image header in write-buffer slot 0, and a log area. -/
def attS (s : State) : State :=
  let x := { s with
    spaces := [(2, { blocks := 40000, pool := 0, base := 1000 })]
    ralid := { s.ralid with logReg := BitVec.ofNat 64 (0xFFFF * 2 ^ 48) }
    flash := { s.flash with
      ledger := [(1000, .buffer 0)]
      slots := [(0, { ledgerIndex := 1000, writeSeq := 1, pool := 0, mask := 15, prev := .unmapped, started := false, lost := 0 })] } }
  withBytes (slotAddr 0 x) 64 attH.toNat x

/-- `s` with one Cellar request, number 5. -/
def cellS (r : CellarReq) : State :=
  let x := ownS job0 [(0, { fetchT [] with pin := [{ entry (word 128 [(120, 4), (70, 0x100), (65, 1), (16, 1)]) with next := 1, left := 1 }] })]
  { x with
    spaces := [(2, { blocks := 400, pool := 0, base := 1000 })]
    mem := { x.mem with cellar := [(5, r)], cellarNext := 6 } }

/-- `s` with port 3 changed by `f` from an enabled port that is UP on all quads. -/
def pS (f : Port → Port) (s : State) : State :=
  { s with fabric := { s.fabric with ports := [(3, f { Port.reset with
      enable := true, state := 5, quads := 15, peerValid := true, peerDev := 6, peerPort := 2, healthy := 15 })] } }

/-- A peer's EXCHANGE: device 6, port 2. -/
def peer (quads : Nat) : PeerInfo := { dev := 6, port := 2, quads := BitVec.ofNat 4 quads, maxLanes := 0 }

/-- A flit of a header and body words, coded as it would be sent. -/
def flit (h : List (Nat × Nat)) (body : List W64) : Flit := { fecOk := true, words := encodeWords (word 64 h).toNat body }

/-- A flit kept for replay. -/
def sent (n : Nat) : SentFlit := { seq := n, words := encodeWords (word 64 [(52, n)]).toNat [] }

/-- A unit of a Ledger index, as the media hold it. -/
def unit (idx : Nat) : MediaUnit := { writeSeq := 1, ledgerIndex := some idx, pool := 1, trim := none, data := [(0, 5#8)] }

/-- A superblock in a state. -/
def sb (x : SbState) : Superblock := { Superblock.fresh with state := x, pool := 1 }

/-- An open superblock of a stream. -/
def sbOpen (t : Stream) (slc : Bool) (row : List RowUnit) : Superblock :=
  { Superblock.fresh with state := .open_, pool := 1, slc := slc, stream := some t, row := row }

/-- A write-buffer slot of Ledger index `idx` that holds the blocks of `mask`. -/
def slot (idx mask : Nat) (prev : LedgerEntry) : BufSlot :=
  { ledgerIndex := idx, writeSeq := 1, pool := 1, mask := mask, prev := prev, started := false, lost := 0 }

/-- `s` with namespace 2 of 100 units, superblocks and a Ledger, and what their entries point to. -/
def flashS (sbs : Tbl Superblock) (ledger : Tbl LedgerEntry) (f : Flash → Flash) (s : State) : State :=
  { s with
    spaces := [(2, { blocks := 400, pool := 1, base := 1000 })]
    flash := f { s.flash with sbs := sbs, ledger := ledger, media := [(mediaKey 1 5, unit 1000)] } }

/-- `s` with SQ `n` of class `cls` on CQ `n`, two commands waiting in it, and no task register in use. -/
def rngS (n cls : Nat) (s : State) : State :=
  { s with rings := { s.rings with
      running := true, enable := true
      sqs := [(n, { state := .running, cls := cls, cq := n, base := 0x100000, depth := 16, db := 0x200000, head := 3, tail := 5,
                    trLimit := 8, stopped := false, insertWaits := false, nextOrder := 1 })]
      cqs := [(n, { error := false, vector := 0xFFF, base := 0x300000, depth := 16, db := 0x200040, tail := 2, head := 0,
                    phase := true, agg := 0, since := 0 })] } }

/-- `upS` with bank `b` of the configuration flash changed by `f`. -/
def cflS (b : Nat) (f : CflBank → CflBank) (s : State) : State :=
  { s with cfl := { s.cfl with banks := [(b, f CflBank.reset)] } }

/-- An authorisation under slot 1 for a command and an operand, over nonce 5. -/
def auth (op cls operand : Nat) : AuthInput :=
  { block := leBytes 8 0x5541343630384B51 ++ leBytes 1 op ++ leBytes 1 cls ++ leBytes 6 0 ++ leBytes 16 operand ++ leBytes 64 5,
    keyMatches := true, signatureOk := true }

/-- `s` with key slot 1 enrolled, nonce 5 outstanding, and `f`. -/
def secS (f : Sec → Sec) (s : State) : State :=
  { s with sec := f { s.sec with
      slots := [(1, { valid := true, revoked := false, spent := false, digest := 7#512 }),
        (2, { valid := true, revoked := false, spent := false, digest := 9#512 })]
      nonce := some 5#512 } }


/-! What an option, or a read, gives. -/

theorem exGet {α : Type} {o : Option α} {P : α → Prop} (h : o.isSome = true) (k : P (o.get h)) : ∃ x, o = some x ∧ P x :=
  ⟨o.get h, (Option.some_get h).symm, k⟩
theorem exGet' {α : Type} {o : Option α} (h : o.isSome = true) : ∃ x, o = some x := ⟨o.get h, (Option.some_get h).symm⟩
theorem exGet2 {α β : Type} {o : Option (α × β)} {P : α → β → Prop} (h : o.isSome = true) (k : P (o.get h).1 (o.get h).2) :
    ∃ x y, o = some (x, y) ∧ P x y := ⟨(o.get h).1, (o.get h).2, (Option.some_get h).symm, k⟩
theorem exGet2' {α β : Type} {o : Option (α × β)} (h : o.isSome = true) : ∃ x y, o = some (x, y) :=
  ⟨(o.get h).1, (o.get h).2, (Option.some_get h).symm⟩
theorem exOk {ε α β : Type} {r : Except ε α × β} {P : α → β → Prop} (h : r.1.toOption.isSome = true)
    (k : P (r.1.toOption.get h) r.2) : ∃ x y, r = (.ok x, y) ∧ P x y := by
  obtain ⟨e, b⟩ := r; cases e with
  | error _ => simp [Except.toOption] at h
  | ok a => exact ⟨a, b, rfl, k⟩
theorem exOk' {ε α β : Type} {r : Except ε α × β} (h : r.1.toOption.isSome = true) : ∃ x y, r = (.ok x, y) :=
  let ⟨x, y, e, _⟩ := exOk (P := fun _ _ => True) h trivial; ⟨x, y, e⟩
theorem exOk1 {ε α : Type} {r : Except ε α} {P : α → Prop} (h : r.toOption.isSome = true) (k : P (r.toOption.get h)) :
    ∃ x, r = .ok x ∧ P x := by
  cases r with
  | error _ => simp [Except.toOption] at h
  | ok a => exact ⟨a, rfl, k⟩
theorem exOk1' {ε α : Type} {r : Except ε α} (h : r.toOption.isSome = true) : ∃ x, r = .ok x :=
  let ⟨x, e, _⟩ := exOk1 (P := fun _ => True) h trivial; ⟨x, e⟩
/-- An outcome that goes on. -/
def goes (o : Host.Outcome State Fault Refusal) : Bool := match o with | .next _ => true | _ => false
theorem exNext {o : Host.Outcome State Fault Refusal} (h : goes o = true) : ∃ t, o = .next t := by
  cases o with
  | next t => exact ⟨t, rfl⟩
  | fault _ => simp [goes] at h
  | refused _ => simp [goes] at h
theorem exStarts {tr op : Nat} {s : State} {P : Task → Namespace → Nat → State → Prop} (h1 : (dataTask tr op s).isSome = true)
    (h2 : (nsFind (stNs ((dataTask tr op s).get h1).desc) s).isSome = true)
    (h3 : stSlba ((dataTask tr op s).get h1).desc + stNlb ((dataTask tr op s).get h1).desc
      ≤ ((nsFind (stNs ((dataTask tr op s).get h1).desc) s).get h2).blocks)
    (h4 : ((dataTask tr op s).get h1).phase ≠ .fenced)
    (h5 : (takeLock (dataLock tr op ((dataTask tr op s).get h1).desc) s).isSome = true)
    (h6 : lockClear ((takeLock (dataLock tr op ((dataTask tr op s).get h1).desc) s).get h5).1
      ((takeLock (dataLock tr op ((dataTask tr op s).get h1).desc) s).get h5).2 = true)
    (k : P ((dataTask tr op s).get h1) ((nsFind (stNs ((dataTask tr op s).get h1).desc) s).get h2)
      ((takeLock (dataLock tr op ((dataTask tr op s).get h1).desc) s).get h5).1
      ((takeLock (dataLock tr op ((dataTask tr op s).get h1).desc) s).get h5).2) :
    ∃ task x n s1, DataStarts tr op task x n s s1 ∧ P task x n s1 :=
  ⟨_, _, _, _, ⟨(Option.some_get h1).symm, (Option.some_get h2).symm, h3, h4, (Option.some_get h5).symm, h6⟩, k⟩
theorem exStarts' {tr op : Nat} {s : State} (h1 : (dataTask tr op s).isSome = true)
    (h2 : (nsFind (stNs ((dataTask tr op s).get h1).desc) s).isSome = true)
    (h3 : stSlba ((dataTask tr op s).get h1).desc + stNlb ((dataTask tr op s).get h1).desc
      ≤ ((nsFind (stNs ((dataTask tr op s).get h1).desc) s).get h2).blocks)
    (h4 : ((dataTask tr op s).get h1).phase ≠ .fenced)
    (h5 : (takeLock (dataLock tr op ((dataTask tr op s).get h1).desc) s).isSome = true)
    (h6 : lockClear ((takeLock (dataLock tr op ((dataTask tr op s).get h1).desc) s).get h5).1
      ((takeLock (dataLock tr op ((dataTask tr op s).get h1).desc) s).get h5).2 = true) :
    ∃ task x n s1, DataStarts tr op task x n s s1 :=
  let ⟨a, b, c, d, e, _⟩ := exStarts (P := fun _ _ _ _ => True) h1 h2 h3 h4 h5 h6 trivial; ⟨a, b, c, d, e⟩
theorem exGet3 {α β γ : Type} {o : Option (α × β × γ)} {P : α → β → γ → Prop} (h : o.isSome = true)
    (k : P (o.get h).1 (o.get h).2.1 (o.get h).2.2) : ∃ x y z, o = some (x, y, z) ∧ P x y z :=
  ⟨_, _, _, (Option.some_get h).symm, k⟩
theorem exGet3' {α β γ : Type} {o : Option (α × β × γ)} (h : o.isSome = true) : ∃ x y z, o = some (x, y, z) :=
  ⟨_, _, _, (Option.some_get h).symm⟩
theorem all3 {α β γ : Type} {o : Option (α × β × γ)} {b : α → β → γ → Bool} (h : o.all (fun x => b x.1 x.2.1 x.2.2) = true) :
    ∀ x y z, o = some (x, y, z) → b x y z = true := by
  intro x y z e; subst e; exact h
theorem exTrue {α : Type} {x : Bool × α} (h : x.1 = true) : ∃ y, x = (true, y) := ⟨x.2, Prod.ext h rfl⟩
theorem allAt {α : Type} {l : List α} {P : Nat → α → Prop} (h : ∀ p ∈ l.zipIdx, P p.2 p.1) : ∀ i u, l[i]? = some u → P i u :=
  fun i u e => h (u, i) (List.mem_zipIdx_iff_getElem?.2 e)
/-- Of a device's superblocks, 98,300 are closed and one is free. -/
def fewSbs : Tbl Superblock := (0, sb .free) :: (List.range 98300).map (fun i => (i + 1, sb .closed))
def fewS : State := flashS fewSbs [] (fun f => f) upS
theorem fewS_sbs : fewS.flash.sbs = fewSbs := rfl
theorem fewSbs_length : fewSbs.length = 98300 + 1 := by rw [fewSbs, List.length_cons, List.length_map, List.length_range]
theorem fewSbs_none : ∀ p ∈ fewSbs, (p.2.state != .erased) = true := by
  intro p hp
  rcases List.mem_cons.1 hp with rfl | hp
  · rfl
  · obtain ⟨i, -, rfl⟩ := List.mem_map.1 hp; rfl
theorem fewS_erased : erasedCount fewS < 64 := by
  rw [erasedCount, fewS_sbs, List.filter_eq_self.2 fewSbs_none, fewSbs_length]
  decide
/-- A WRITE of two units, over a write buffer that is full. -/
def writeS : State := taskS 0x21 [(320, 2), (328, 4), (392, 1), (64, 0x600000), (128, 0x610000)] (flashS [(1, sb .closed)] [] (fun f => f) upS)
def fullSlots : Tbl BufSlot := (List.range (slotCount writeS)).map (fun i => (i, { slot (5000 + i) 15 .unmapped with started := true }))
def fullS : State := { writeS with flash := { writeS.flash with slots := fullSlots } }
theorem fullSlots_length : fullSlots.length = slotCount writeS := by rw [fullSlots, List.length_map, List.length_range]
theorem slotCount_flash (s : State) (f : Flash) : slotCount { s with flash := f } = slotCount s := rfl
theorem slots_flash (s : State) (x : Tbl BufSlot) : ({ s with flash := { s.flash with slots := x } } : State).flash.slots = x := rfl
theorem fullS_count : slotCount fullS = slotCount writeS := by rw [fullS, slotCount_flash]
theorem fullS_slots : fullS.flash.slots = fullSlots := by rw [fullS]
theorem fullS_free : freeSlots fullS = 0 := by rw [freeSlots, fullS_count, fullS_slots, fullSlots_length, Nat.sub_self]
theorem lt_of_zero {a b : Nat} (h : a = 0) (k : 0 < b) : a < b := by omega
/-! A switch that loads its tables. -/

theorem touched_none {a n : Nat} {s : State} (hw : s.mem.werr = []) (hc : s.ecc.cells = []) : touchedWords a n s = [] := by
  simp [touchedWords, hw, hc]
theorem readStacked_clean {a n : Nat} {s : State} (hw : s.mem.werr = []) (hc : s.ecc.cells = []) :
    readStacked a n s = (.ok (Mem.read zeroByte s.mem.stacked a n), s) := by
  simp [readStacked, correctedWords, firstBad, stackedBytes, touched_none hw hc, countCorrected]
theorem readTable_clean {a n k : Nat} {s : State} {b : List Byte} (hw : s.mem.werr = []) (hc : s.ecc.cells = [])
    (h : Mem.read zeroByte s.mem.stacked a (n * k) = b) : readTable a n k s = (some ((chunksOf n (k + 1) b).map leNat), s) := by
  rw [readTable, readStacked_clean hw hc, h]
theorem look_append {α : Type} (l m : Tbl α) (k : Nat) : Tbl.look (l ++ m) k = (Tbl.look l k).or (Tbl.look m k) := by
  induction l with
  | nil => rfl
  | cons p l ih => simp only [List.cons_append, Tbl.look]; split <;> simp [ih]
theorem look_none {α : Type} {l : Tbl α} {k : Nat} (h : ∀ p ∈ l, p.1 ≠ k) : Tbl.look l k = none := by
  induction l with
  | nil => rfl
  | cons p l ih => rw [Tbl.look, if_neg (h p (by simp)), ih (fun q hq => h q (by simp [hq]))]
theorem look_stride {α : Type} (c n k : Nat) (v : α) :
    Tbl.look ((List.range n).map (fun i => (c + 8 * i, v))) k = if c ≤ k ∧ (k - c) % 8 = 0 ∧ (k - c) / 8 < n then some v else none := by
  induction n with
  | zero => simp [Tbl.look]
  | succ n ih =>
    rw [List.range_succ, List.map_append, look_append, ih]
    by_cases h : c + 8 * n = k
    · subst h
      simp [Tbl.look]
    · simp only [List.map_cons, List.map_nil, Tbl.look, if_neg h]
      by_cases g : c ≤ k ∧ (k - c) % 8 = 0 ∧ (k - c) / 8 < n
      · rw [if_pos g, if_pos ⟨g.1, g.2.1, by omega⟩]; rfl
      · rw [if_neg g, if_neg (by omega)]; rfl

/-- The cells of a phase entry, a mapping and a step set. -/
def lowCells : Mem :=
  [(1048582, 96), (1048583, 16), (1048587, 32), (1048588, 16), (1048592, 64), (1048593, 16), (1048597, 16), (1048598, 16),
   (1048605, 18), (1052672, 1), (1064964, 3), (1064966, 2), (1064969, 4), (1064973, 32), (1064975, 64), (1064977, 4),
   (1064981, 40), (1064983, 128)]
/-- With them the Itinerary entries: page 0 of the job area, for every tile. -/
def loadCells : Mem := lowCells ++ (List.range 128).map (fun i => (1073157 + 8 * i, 1))
/-- A job that takes the module with these tables. -/
def loadS (f : Job → Job) : State :=
  let s := swS .loading (ownS (f { job0 with desc := jobDesc [], state := .restoring }) [])
  { s with mem := { s.mem with stacked := loadCells } }
def loadPe : Nat := (word 512 [(216, 0x120000), (160, 0x101000), (120, 0x104000), (80, 0x102000), (40, 0x106000)]).toNat

theorem load_itins : Mem.read zeroByte loadCells 0x106000 (8 * 128) = (List.range 1024).map (fun i => if i % 8 = 5 then 1 else 0) := by
  apply List.map_congr_left
  intro i hi
  have h : i < 1024 := by simpa using hi
  have l : Tbl.look lowCells (0x106000 + i) = none := look_none (by
    intro p hp e
    have : ∀ p ∈ lowCells, p.1 < 0x106000 := by decide
    have := this p hp
    omega)
  rw [Mem.byte, Tbl.lookD, loadCells, look_append, l, look_stride]
  by_cases g : i % 8 = 5
  · rw [if_pos (by omega), if_pos g]; rfl
  · rw [if_neg (by omega), if_neg g]; rfl
theorem load_caravans : Mem.read zeroByte loadCells 0x102000 (32 * 256) = (List.range 8192).map (fun _ => 0) := by
  apply List.map_congr_left
  intro i hi
  have h : i < 8192 := by simpa using hi
  have l : Tbl.look lowCells (0x102000 + i) = none := look_none (by
    intro p hp e
    have : ∀ p ∈ lowCells, p.1 < 0x102000 ∨ 0x104000 ≤ p.1 := by decide
    have := this p hp
    omega)
  rw [Mem.byte, Tbl.lookD, loadCells, look_append, l, look_stride, if_neg (by omega)]; rfl

theorem loadS_werr (f : Job → Job) : (loadS f).mem.werr = [] := rfl
theorem loadS_cells (f : Job → Job) : (loadS f).ecc.cells = [] := rfl
theorem loadS_mem (f : Job → Job) : (loadS f).mem.stacked = loadCells := rfl
theorem loadS_area (f : Job → Job) (a n : Nat) : inJobArea a n (loadS f) = inJobArea a n upS := rfl
theorem loadPe_itins : peItins loadPe = 0x106000 := by decide +kernel
theorem loadPe_caravans : peCaravans loadPe = 0x102000 := by decide +kernel
theorem loadPe_read : leNat (Mem.read zeroByte loadCells (jPhaseTable (jobDesc []) + 64 * 0) 64) = loadPe := by decide +kernel
theorem load_entries : (chunksOf 8 (128 + 1) ((List.range 1024).map (fun i => if i % 8 = 5 then (1 : Byte) else 0))).map leNat =
    List.replicate 128 (2 ^ 40) := by decide +kernel
theorem load_groups : (chunksOf 32 (256 + 1) ((List.range 8192).map (fun _ => (0 : Byte)))).map leNat = List.replicate 256 0 := by decide +kernel
theorem load_phase {s : State} (j : Job) (hw : s.mem.werr = []) (hc : s.ecc.cells = []) (hm : s.mem.stacked = loadCells)
    (hd : j.desc = jobDesc []) (hp : j.phase = 0) : phaseEntry j j.phase s = (some loadPe, s) := by
  rw [phaseEntry, readNat, readStacked_clean hw hc, hd, hp, hm]
  dsimp only
  rw [loadPe_read]
theorem load_mapping (f : Job → Job) : readMapping (peMapping loadPe) (loadS f) = (.ok 0, loadS f) := by
  have h8 : leNat (Mem.read zeroByte loadCells (peMapping loadPe) 8) = 1 := by decide +kernel
  have h2 : Mem.read zeroByte (loadS f).mem.stacked (peMapping loadPe + 8) (2 * 1) = [0, 0] := by
    rw [loadS_mem]; decide +kernel
  rw [readMapping, readNat, readStacked_clean (loadS_werr f) (loadS_cells f), loadS_mem]
  simp only [h8]
  rw [show bits 1 15 0 = 1 by decide, show bits 1 31 16 = 0 by decide, if_neg (by decide),
    readTable_clean (loadS_werr f) (loadS_cells f) h2]
  rfl
theorem load_itin_ranges (f : Job → Job) : readItins (peItins loadPe) (loadS f) = (.ok (List.replicate 128 (0, 0, 4096)), loadS f) := by
  have h := load_itins
  rw [← loadS_mem f] at h
  rw [readItins, loadPe_itins, readTable_clean (loadS_werr f) (loadS_cells f) h]
  dsimp only
  rw [load_entries]
  simp only [loadS_area]
  refine (if_pos (by decide +kernel)).trans ?_
  simp only [List.map_replicate]
  rw [show bits (2 ^ 40) 39 0 = 0 by decide, show bits (2 ^ 40) 63 40 = 1 by decide]
theorem load_caravan_groups (f : Job → Job) : readCaravans (peCaravans loadPe) (loadS f) = (some [], loadS f) := by
  have h := load_caravans
  rw [← loadS_mem f] at h
  rw [readCaravans, loadPe_caravans, readTable_clean (loadS_werr f) (loadS_cells f) h]
  dsimp only
  rw [load_groups]
  exact Prod.ext (show some _ = some [] by decide +kernel) rfl
def loadSet : List Region := [{ writeOnly := false, base := 0x800, pages := 16 }, { writeOnly := true, base := 0xA00, pages := 16 }]
theorem loadPe_sets : peStepSets loadPe = 0x104000 := by decide +kernel
theorem loadSet_head : leNat (Mem.read zeroByte loadCells 0x104000 8) = 2 * 2 ^ 48 + 3 * 2 ^ 32 := by decide +kernel
theorem loadSet_entries : (chunksOf 8 (2 + 1) (Mem.read zeroByte loadCells (0x104000 + 8) (8 * 2))).map leNat =
    [1 * 2 ^ 62 + 0x800 * 2 ^ 34 + 16 * 2 ^ 6, 2 * 2 ^ 62 + 0xA00 * 2 ^ 34 + 16 * 2 ^ 6] := by decide +kernel
theorem loadSet_regions : ([1 * 2 ^ 62 + 0x800 * 2 ^ 34 + 16 * 2 ^ 6, 2 * 2 ^ 62 + 0xA00 * 2 ^ 34 + 16 * 2 ^ 6].map (fun e => regionOf e upS)).filterMap id =
    loadSet := by decide +kernel
theorem regionOf_area {s : State} (ha : s.mem.areas = upS.mem.areas) (e : Nat) : regionOf e s = regionOf e upS := by
  rw [regionOf, regionOf, inJobArea, inJobArea, jobArea, jobArea, area, area, ha]
theorem load_set {s : State} {j : Job} (hw : s.mem.werr = []) (hc : s.ecc.cells = []) (hm : s.mem.stacked = loadCells)
    (ha : s.mem.areas = upS.mem.areas) (hd : j.desc = jobDesc []) (hp : j.phase = 0)
    (hf : regionsOk (forbiddenPages j s) loadSet = true) : readSetNo j 0 s = (.ok loadSet 3, s) := by
  rw [readSetNo, load_phase j hw hc hm hd hp]
  dsimp only
  rw [loadPe_sets, setAddr]
  dsimp only
  rw [readSet, readNat, readStacked_clean hw hc, hm]
  dsimp only
  rw [loadSet_head, show bits (2 * 2 ^ 48 + 3 * 2 ^ 32) 63 48 = 2 by decide, if_neg (by decide), if_neg (by decide), readTable_clean hw hc rfl, hm]
  dsimp only
  rw [loadSet_entries]
  simp only [regionOf_area ha]
  rw [loadSet_regions, hf, show bits (2 * 2 ^ 48 + 3 * 2 ^ 32) 47 32 = 3 by decide]
  rfl
/-- A tile that a switch loads. -/
def loadTile (j : Job) (s : State) (its : List (Nat × Nat × Nat)) (t : Nat) : Tile :=
  let it := its.getD t (0, 0, 0)
  if j.hasWp then restoreTile (Tbl.lookD (Tbl.lookD s.tensor.saves (jSaveArea j.desc) []) t { saveTile Tile.fresh with rp := it.1 })
      s.tensor.delivered it.2.1 it.2.2
  else { Tile.fresh with
    rp := it.1, rangeLo := it.2.1, rangeHi := it.2.2, gapFrom := s.tensor.delivered
    flags := (j.flagImage.filter (fun p => p.1 / 64 == t)).map (fun p => (p.1 % 64, p.2)) }
theorem loadTile_range (j : Job) (s : State) (its : List (Nat × Nat × Nat)) (t : Nat) :
    (loadTile j s its t).rangeLo = (its.getD t (0, 0, 0)).2.1 ∧ (loadTile j s its t).rangeHi = (its.getD t (0, 0, 0)).2.2 := by
  unfold loadTile
  dsimp only
  split
  · exact ⟨rfl, rfl⟩
  · exact ⟨rfl, rfl⟩
/-- The state in which the first step set is read. -/
def loadState (e : Nat) (j : Job) (root : Nat) (its : List (Nat × Nat × Nat)) (cs : Tbl Caravan) (s : State) : State :=
  modJob e (fun k => { k with root := root }) { s with tensor := { s.tensor with
    caravans := cs, tiles := (List.range Config.tiles).map (fun t => (t, loadTile j s its t)) } }
theorem loadTables_ok {e : Nat} {j : Job} {s : State} {pe root n : Nat} {its : List (Nat × Nat × Nat)} {cs : Tbl Caravan} {set : List Region}
    (h1 : phaseEntry j j.phase s = (some pe, s)) (h2 : readMapping (peMapping pe) s = (.ok root, s))
    (h3 : readItins (peItins pe) s = (.ok its, s)) (h4 : readCaravans (peCaravans pe) s = (some cs, s))
    (h5 : readSetNo j (if j.hasWp then j.stepIdx else 0) (loadState e j root its cs s) = (.ok set n, loadState e j root its cs s))
    (a : s.host.snoop = []) (b : s.host.biOut = []) : ∃ s1, loadTables e j s = .ok s1 ∧ sweepClear s1 = true := by
  unfold loadState loadTile at h5
  unfold loadTables
  rw [h1]
  simp only [h2, h3, h4]
  simp only [h5]
  exact ⟨_, rfl, by simp [startSweep, issueSweep, sweepClear, modJob, a, b]⟩
theorem loadState_ranges (e : Nat) (j : Job) (root : Nat) (cs : Tbl Caravan) (s : State) :
    (loadState e j root (List.replicate 128 (0, 0, 4096)) cs s).tensor.tiles.map
      (fun p => (p.2.rangeLo / 4096, (p.2.rangeHi - p.2.rangeLo) / 4096)) =
    (List.range Config.tiles).map (fun t => (((List.replicate 128 (0, 0, 4096)).getD t (0, 0, 0)).2.1 / 4096,
      (((List.replicate 128 (0, 0, 4096)).getD t (0, 0, 0)).2.2 - ((List.replicate 128 (0, 0, 4096)).getD t (0, 0, 0)).2.1) / 4096)) := by
  show ((List.range Config.tiles).map (fun t => (t, loadTile j s _ t))).map _ = _
  rw [List.map_map]
  apply List.map_congr_left
  intro t _
  simp only [Function.comp, loadTile_range]
def loadJ (b : Bool) : Job := { job0 with desc := jobDesc [], state := .restoring, hasWp := b }
def loadF (b : Bool) (j : Job) : Job := { j with hasWp := b }
theorem loadJ_desc (b : Bool) : (loadJ b).desc = jobDesc [] := by rw [loadJ]
theorem loadJ_phase (b : Bool) : (loadJ b).phase = 0 := by rw [loadJ, job0]
theorem loadS_owner (b : Bool) : ownerJob (loadS (loadF b)) = some (0, loadJ b) := rfl
theorem load_regions (b : Bool) : regionsOk ((List.range Config.tiles).map (fun t => (((List.replicate 128 (0, 0, 4096)).getD t (0, 0, 0)).2.1 / 4096,
      (((List.replicate 128 (0, 0, 4096)).getD t (0, 0, 0)).2.2 - ((List.replicate 128 (0, 0, 4096)).getD t (0, 0, 0)).2.1) / 4096))
      ++ (loadJ b).signed.map (fun r => (r.2.1 / 4096, pagesUp (r.2.1 % 4096 + r.2.2)))
      ++ [(jSaveArea (loadJ b).desc / 4096, jSavePages (loadJ b).desc), (jDiag (loadJ b).desc / 4096, 8)]) loadSet = true := by
  cases b <;> decide +kernel
theorem loadState_mem (e : Nat) (j : Job) (root : Nat) (its : List (Nat × Nat × Nat)) (cs : Tbl Caravan) (s : State) :
    (loadState e j root its cs s).mem = s.mem := rfl
theorem loadState_ecc (e : Nat) (j : Job) (root : Nat) (its : List (Nat × Nat × Nat)) (cs : Tbl Caravan) (s : State) :
    (loadState e j root its cs s).ecc = s.ecc := rfl
theorem loadJ_first (b : Bool) : (if (loadJ b).hasWp then (loadJ b).stepIdx else 0) = 0 := by cases b <;> rfl
theorem loadS_areas (f : Job → Job) : (loadS f).mem.areas = upS.mem.areas := rfl
theorem loadS_host (f : Job → Job) : (loadS f).host = upS.host := rfl
theorem load_all (b : Bool) : ∃ s1, loadTables 0 (loadJ b) (loadS (loadF b)) = .ok s1 ∧ sweepClear s1 = true := by
  refine loadTables_ok (load_phase _ (loadS_werr _) (loadS_cells _) (loadS_mem _) (loadJ_desc b) (loadJ_phase b)) (load_mapping _)
    (load_itin_ranges _) (load_caravan_groups _) (set := loadSet) (n := 3) ?_ (by rw [loadS_host]; rfl) (by rw [loadS_host]; rfl)
  rw [loadJ_first]
  refine load_set ?_ ?_ ?_ ?_ (loadJ_desc b) (loadJ_phase b) ?_
  · rw [loadState_mem, loadS_werr]
  · rw [loadState_ecc, loadS_cells]
  · rw [loadState_mem, loadS_mem]
  · rw [loadState_mem, loadS_areas]
  · rw [forbiddenPages, loadState_ranges]
    exact load_regions b
theorem load_waypoint_witness : ∃ (s : State), ∃ e, ∃ j, ownerJob s = some (e, j) ∧ (s.tensor.switch = .loading) ∧
    ∃ s1, loadTables e j s = .ok s1 ∧ (j.hasWp = true ∨ sweepClear s1 = false) :=
  let ⟨s1, h, _⟩ := load_all true
  ⟨loadS (loadF true), 0, loadJ true, loadS_owner true, rfl, s1, h, .inl rfl⟩
theorem load_fresh_witness : ∃ (s : State), ∃ e, ∃ j, ownerJob s = some (e, j) ∧ (s.tensor.switch = .loading) ∧
    ∃ s1, loadTables e j s = .ok s1 ∧ (j.hasWp = false) ∧ (sweepClear s1 = true) ∧ (s.power.step ≠ 4) :=
  let ⟨s1, h, k⟩ := load_all false
  ⟨loadS (loadF false), 0, loadJ false, loadS_owner false, rfl, s1, h, rfl, k, by decide +kernel⟩

/-! Witnesses: for every statement with hypotheses, states and operands that meet those of each of its clauses. -/

set_option maxRecDepth 20000 in
theorem witness_IdleStepPassesOneCycle :
    ∃ (s : State), (s.pending = []) :=
  ⟨State.reset, by decide +kernel⟩

set_option maxRecDepth 20000 in
theorem witness_FusesOnlyBurn :
    ∃ (s : State), (FusesOrdered s = true) ∧ ∃ (t : State), step s = .next t :=
  ⟨({ (taskS 0x18 [] (secS (fun x => { x with fuse := some { tr := 70, write := .enroll 3 0x1234#512, words := 1 } }) upS)) with pending := [.fuseWriteComplete] }), ⟨by decide +kernel, exNext (by decide +kernel)⟩⟩

set_option maxRecDepth 20000 in
theorem witness_ConfigFlashStaysCanonical :
    ∃ (s : State), (CflCanonical s = true) ∧ ∃ (t : State), step s = .next t :=
  ⟨({ (cflS 1 (fun k => { k with run := some (.program 1 [(1, 5#64)]) }) upS) with pending := [.cflProgramPulseEnd 1 true] }), ⟨by decide +kernel, exNext (by decide +kernel)⟩⟩

set_option maxRecDepth 20000 in
theorem witness_ThrottleStepsStayLegal :
    ∃ (s : State), (StepsLegal s = true) ∧ ∃ (t : State), step s = .next t :=
  ⟨({ (powS (fun p => { p with powerReq := 2 })) with pending := [.throttleStepChange] }), ⟨by decide +kernel, exNext (by decide +kernel)⟩⟩

set_option maxRecDepth 20000 in
theorem witness_PowerLimitLockHolds :
    ∃ (s : State), (s.power.pwrLimit.getLsbD 31 = true) ∧ ∃ (t : State), step s = .next t :=
  ⟨({ (powS (fun p => { p with pwrLimit := 0x80030400#32 })) with pending := [.clkPwrLimitWrite 5] }), ⟨by decide +kernel, exNext (by decide +kernel)⟩⟩

theorem witness_StrapsAreSampledOnce :
    (∃ s : State, (s.power.porAsserted = true) ∧ (s.power.connected = true) ∧ (s.power.pwrdis = false) ∧ (s.power.thermTrip = false) ∧
      (s.power.inputLoss = false) ∧ (s.boot.deferred = [])) ∧
    (∃ (c : Instr) (s t : State), (∀ x, c ≠ .powerOnResetRelease x) ∧ (∀ x, c ≠ .pwrdisRelease x) ∧ exec c s = .next t) :=
  ⟨⟨{ (powS (fun p => { p with porAsserted := true })) with boot := { upS.boot with dev := .reset } }, by decide +kernel⟩,
    .watchdogRestart, upS, _, by simp, by simp, rfl⟩

set_option maxRecDepth 20000 in
theorem witness_PowerLimitActsAtWindowEnd :
    (∃ (s : State), (regWorks 1 true s = true) ∧ (s.power.pwrLimit.getLsbD 31 = false)) ∧
    (∃ (s : State), (alive s = true)) :=
  ⟨⟨upS, ⟨by decide +kernel, by decide +kernel⟩⟩,
    ⟨(powS (fun p => { p with winCount := 10, winSum := 17000000000, pwrLimit := 0x80030400#32 })), by decide +kernel⟩⟩

set_option maxRecDepth 20000 in
theorem witness_GuestBookRingStartsOrIsRefused :
    ∃ (s : State), (regWorks 1 true s = true) ∧ (s.evt.running = false) :=
  ⟨({ upS with evt := { upS.evt with base := 64 } }), ⟨by decide +kernel, by decide +kernel⟩⟩

set_option maxRecDepth 20000 in
theorem witness_SketchDistanceCountsDifferingBits :
    (∃ x, ∃ n, ∃ (s : State), ∃ i, ∃ b, (stackedBytes (sketchAddr x n s) (sketchBytes x) s)[i / 8]? = some b) ∧
    (∃ (a : Nat), ∃ (b : Nat), (a < 2 ^ 1024) ∧ (b < 2 ^ 1024)) ∧
    (∃ (n : Nat), ∃ (a : Nat), ∃ (b : Nat), (n ≤ 1024) ∧ (a < 2 ^ n) ∧ (b < 2 ^ n)) :=
  ⟨⟨index0, 2, (withStk (ralS id upS)), 8, exGet' (by decide +kernel)⟩,
    ⟨2^1024-1, 0, ⟨by decide +kernel, by decide +kernel⟩⟩,
    ⟨300, 2^299+77, 2^298+1, ⟨by decide +kernel, ⟨by decide +kernel, by decide +kernel⟩⟩⟩⟩

set_option maxRecDepth 20000 in
theorem witness_Int8ConversionRoundsAndSaturates :
    (∃ v, ∃ sc, ∃ ms, ∃ es, f32.decode sc = .fin false ms es ∧ (2 ^ 23 ≤ ms) ∧ ∃ neg, ∃ m, ∃ (e : Int), f32.decode v = .fin neg m e) ∧
    (∃ v, ∃ sc, ∃ ms, ∃ es, f32.decode sc = .fin false ms es ∧ (2 ^ 23 ≤ ms) ∧ (f32.decode v = .nan)) ∧
    (∃ v, ∃ sc, ∃ ms, ∃ es, f32.decode sc = .fin false ms es ∧ (2 ^ 23 ≤ ms) ∧ ∃ neg, f32.decode v = .inf neg) :=
  ⟨⟨0x42FF0000, 0x3F800000, ⟨_, _, rfl, ⟨by decide +kernel, ⟨_, _, _, rfl⟩⟩⟩⟩,
    ⟨0x7FC00000, 0x3F800000, ⟨_, _, rfl, ⟨by decide +kernel, by decide +kernel⟩⟩⟩,
    ⟨0xFF800000, 0x3F800000, ⟨_, _, rfl, ⟨by decide +kernel, ⟨_, rfl⟩⟩⟩⟩⟩

set_option maxRecDepth 20000 in
theorem witness_SyndromeDecidesTheWord :
    (∃ (w : Nat), (w72Syndrome w = 0)) ∧
    (∃ (w : Nat), ∃ (i : Nat), ∃ h, w72Columns[i]? = some h ∧ (w72Syndrome w = h)) ∧
    (∃ (w : Nat), ∃ j, (j < 8) ∧ (w72Syndrome w = 2 ^ j)) ∧
    (∃ (w : Nat), (w72Syndrome w ≠ 0) ∧ (w72Syndrome w ∉ w72Columns) ∧ ((∀ j < 8, w72Syndrome w ≠ 2 ^ j))) ∧
    (∃ a, ∃ n, ∃ (s : State), (firstBad a n s = none)) ∧
    (∃ a, ∃ n, ∃ (s : State), ∃ (w : Nat), ∃ syn, firstBad a n s = some (w, syn)) :=
  ⟨⟨(w72Encode 0x123456789ABCDEF), by decide +kernel⟩,
    ⟨(w72Encode 0x123456789ABCDEF ^^^ 2^63), 63, exGet (by decide +kernel) (by decide +kernel)⟩,
    ⟨(w72Encode 0x123456789ABCDEF ^^^ 2^71), 7, ⟨by decide +kernel, by decide +kernel⟩⟩,
    ⟨(w72Encode 0x123456789ABCDEF ^^^ 2^64 ^^^ 2 ^ 9), ⟨by decide +kernel, ⟨by decide +kernel, by decide +kernel⟩⟩⟩,
    ⟨3, 0, upS, by decide +kernel⟩,
    ⟨3, 20, ((let x := withStk upS; { x with mem := { x.mem with werr := [(0, 4#72), (2, 5#72)] } })), exGet2' (by decide +kernel)⟩⟩

set_option maxRecDepth 20000 in
theorem witness_SingleBitErrorsAreCorrected :
    ∃ (data : Nat), (data < 2 ^ 64) :=
  ⟨2^64-1, by decide +kernel⟩

set_option maxRecDepth 20000 in
theorem witness_StackedMemoryReadsBackWrites :
    (∃ a, ∃ (bytes : List Byte), ∃ (s : State), (a % 8 = 0) ∧ (bytes.length % 8 = 0) ∧ (s.ecc.cells = [])) ∧
    (∃ a, ∃ (bytes : List Byte), ∃ x, (a % 8 = 0) ∧ (bytes.length % 8 = 0) ∧ ((x < a ∨ a + bytes.length ≤ x))) ∧
    (∃ (s : State), (Mem.wf zeroByte s.mem.stacked = true)) :=
  ⟨⟨16, [1,2,3,4,5,6,7,8], ((let x := withStk upS; { x with mem := { x.mem with werr := [(2, 5#72)] } })), ⟨by decide +kernel, ⟨by decide +kernel, by decide +kernel⟩⟩⟩,
    ⟨16, [1,2,3,4,5,6,7,8], 0, ⟨by decide +kernel, ⟨by decide +kernel, by decide +kernel⟩⟩⟩,
    ⟨({ upS with mem := { upS.mem with stacked := [(3, 4#8), (16, 4#8), (23, 9#8)] } }), by decide +kernel⟩⟩

set_option maxRecDepth 20000 in
theorem witness_CompletionPostsOneRecord :
    ∃ tr, ∃ (s : State), ∃ k, Tbl.look s.rings.tasks tr = some k ∧ ∃ q, Tbl.look s.rings.sqs k.sq = some q ∧ ∃ c, Tbl.look s.rings.cqs q.cq = some c ∧ (c.error = false) ∧ (s.host.pstate ≠ 3) ∧ (s.host.psPhase ≠ .exitingPs3) ∧ (s.host.stopIo = false) ∧ (s.host.linkUp = true) :=
  ⟨70, (taskS 0x20 [] upS), exGet (by decide +kernel) (exGet (by decide +kernel) (exGet (by decide +kernel) (⟨by decide +kernel, ⟨by decide +kernel, ⟨by decide +kernel, ⟨by decide +kernel, by decide +kernel⟩⟩⟩⟩)))⟩

set_option maxRecDepth 20000 in
theorem witness_FaultStopsTheOwner :
    (∃ (s : State), ∃ e, ∃ j, ownerJob s = some (e, j) ∧ (j.stop = none)) ∧
    (∃ cause, ∃ tile, ∃ (s : State), ∃ e, ∃ j, ownerJob s = some (e, j) ∧ ∃ o, j.stop = some o ∧ ((o.cycle ≠ s.tclk ∨ o.cause < cause ∨ o.cause = cause ∧ o.firstTile ≤ tile))) ∧
    (∃ cause, ∃ tile, ∃ (s : State), ∃ e, ∃ j, ownerJob s = some (e, j) ∧ ∃ o, j.stop = some o ∧ (o.cycle = s.tclk) ∧ ((cause < o.cause ∨ cause = o.cause ∧ tile < o.firstTile))) :=
  ⟨⟨(ownS job0 []), exGet2 (by decide +kernel) (by decide +kernel)⟩,
    ⟨3, 5, ((ownS { job0 with stop := some { cause := 9, status := 1, firstTile := 9, outsideWait := false, firstKind := 0, expired := 0, faultWord := 0, faultSlot := 0, dropped := 0, cycle := 4, at_ := 0 } } [])), exGet2 (by decide +kernel) (exGet (by decide +kernel) (by decide +kernel))⟩,
    ⟨3, 5, ((ownS { job0 with stop := some { cause := 3, status := 1, firstTile := 6, outsideWait := false, firstKind := 0, expired := 0, faultWord := 0, faultSlot := 0, dropped := 0, cycle := 0, at_ := 0 } } [])), exGet2 (by decide +kernel) (exGet (by decide +kernel) (⟨by decide +kernel, by decide +kernel⟩))⟩⟩

set_option maxRecDepth 20000 in
theorem witness_FlagIncrementsTakeEffect :
    (∃ (x : Tile), ∃ f, (Tbl.sorted x.incs = true) ∧ ∃ k, Tbl.look x.incs f = some k ∧ (Tbl.look x.inits f = none) ∧ (x.flag f + k ≤ 255)) ∧
    (∃ (x : Tile), ∃ f, (Tbl.sorted x.incs = true) ∧ ∃ k, Tbl.look x.incs f = some k ∧ (Tbl.look x.inits f = none) ∧ (255 < x.flag f + k)) ∧
    (∃ (x : Tile), ∃ f, ∃ v, Tbl.look x.inits f = some v) ∧
    (∃ (x : Tile), ∃ f, (Tbl.look x.incs f = none)) :=
  ⟨⟨(({ Tile.fresh with flags := [(2, 9)], incs := [(2, 246), (3, 4)], inits := [(3, 7)] } : Tile)), 2, ⟨by decide +kernel, exGet (by decide +kernel) (⟨by decide +kernel, by decide +kernel⟩)⟩⟩,
    ⟨(({ Tile.fresh with flags := [(2, 9)], incs := [(2, 500), (3, 4)], inits := [(3, 7)] } : Tile)), 2, ⟨by decide +kernel, exGet (by decide +kernel) (⟨by decide +kernel, by decide +kernel⟩)⟩⟩,
    ⟨(({ Tile.fresh with flags := [(2, 9)], incs := [(2, 3), (3, 4)], inits := [(3, 7)] } : Tile)), 3, exGet' (by decide +kernel)⟩,
    ⟨(({ Tile.fresh with flags := [(2, 9)], incs := [(2, 3), (3, 4)], inits := [(3, 7)] } : Tile)), 4, by decide +kernel⟩⟩

set_option maxRecDepth 20000 in
theorem witness_AcceptedDescriptorsAreWellFormed :
    (∃ cls, ∃ d, ∃ (s : State), (checkDescriptor cls d s = 0)) ∧
    (∃ d, (dOpcode d + dBits d 15 8 ≠ 255)) ∧
    (∃ cls, ∃ d, (complementsOk d cls = true) ∧ (cmdForm (dOpcode d) = none)) ∧
    (∃ (s : State), (s.boot.dev = .bringUp ∨ s.boot.dev = .reset)) :=
  ⟨⟨0, (desc 0x06 [(320, 1)]), upS, by decide +kernel⟩,
    ⟨0#1024, by decide +kernel⟩,
    ⟨0, (desc 0x7F []), ⟨by decide +kernel, by decide +kernel⟩⟩,
    ⟨(bootS (fun b => { b with dev := .reset })), by decide +kernel⟩⟩

set_option maxRecDepth 20000 in
theorem witness_MaskedInterruptsPend :
    (∃ v, ∃ (s : State), (v ≠ 0xFFF) ∧ (s.host.msixEn = true) ∧ (((msixEntry v s).masked = true ∨ s.host.funcMask = true))) ∧
    (∃ v, ∃ (s : State), (v ≠ 0xFFF) ∧ (s.host.msixEn = true) ∧ ((msixEntry v s).masked = false) ∧ (s.host.funcMask = false) ∧ (s.host.linkUp = true) ∧ (s.host.stopIo = false)) ∧
    (∃ (v : Fin 2048), ∃ (s : State), (regWorks 1 false s = true) ∧ (s.host.msixEn = true) ∧ (s.host.funcMask = false) ∧ (s.host.linkUp = true) ∧ (s.host.stopIo = false) ∧ (s.host.pba = [v.val])) :=
  ⟨⟨5, ((let x := upS; { x with host := { x.host with funcMask := true, pba := [5] } })), ⟨by decide +kernel, ⟨by decide +kernel, by decide +kernel⟩⟩⟩,
    ⟨1, ((let x := upS; { x with host := { x.host with msix := [(1, { masked := false, addr := 0x1004#64, data := 8#32 })] } })), ⟨by decide +kernel, ⟨by decide +kernel, ⟨by decide +kernel, ⟨by decide +kernel, ⟨by decide +kernel, by decide +kernel⟩⟩⟩⟩⟩⟩,
    ⟨1, ((let x := upS; { x with host := { x.host with pba := [1], msix := [(1, { masked := true, addr := 0x1004#64, data := 8#32 })] } })), ⟨by decide +kernel, ⟨by decide +kernel, ⟨by decide +kernel, ⟨by decide +kernel, ⟨by decide +kernel, by decide +kernel⟩⟩⟩⟩⟩⟩⟩

set_option maxRecDepth 20000 in
theorem witness_SupplyCommandsComplete :
    (∃ (s : State), (s.boot.dev ≠ .reset)) ∧
    (∃ (s : State), (s.power.pwrdis = true)) ∧
    (∃ v, (38000 ≤ v) ∧ (v ≤ 62000)) ∧
    (∃ v, ∃ (s : State), (s.power.seated = true) ∧ (38000 ≤ v) ∧ (v ≤ 62000)) ∧
    (∃ (s : State), (s.power.inputLoss = false) ∧ (s.boot.dev ≠ .reset)) ∧
    (∃ v, ∃ (s : State), (62000 < v) ∧ (s.power.connected = true) ∧ (s.power.inputLoss = false) ∧ (s.boot.dev ≠ .reset)) ∧
    (∃ v, ∃ (s : State), (v < 36000) ∧ (s.power.connected = true) ∧ (s.power.inputLoss = false) ∧ (s.boot.dev ≠ .reset)) ∧
    (∃ (s : State), (s.power.inputLoss = true) ∧ (s.boot.deferred = [])) ∧
    (∃ (s : State), (s.power.porAsserted = true) ∧ (s.power.connected = true) ∧ (s.power.pwrdis = false) ∧ (s.power.perst = false) ∧ (s.power.thermTrip = false) ∧ (s.power.inputLoss = false) ∧ (s.boot.deferred = []) ∧ (s.boot.dev = .reset)) :=
  ⟨⟨upS, by decide +kernel⟩,
    ⟨(powS (fun p => { p with pwrdis := true })), by decide +kernel⟩,
    ⟨48000, ⟨by decide +kernel, by decide +kernel⟩⟩,
    ⟨38000, (powS (fun p => { p with connected := false })), ⟨by decide +kernel, ⟨by decide +kernel, by decide +kernel⟩⟩⟩,
    ⟨upS, ⟨by decide +kernel, by decide +kernel⟩⟩,
    ⟨62001, upS, ⟨by decide +kernel, ⟨by decide +kernel, ⟨by decide +kernel, by decide +kernel⟩⟩⟩⟩,
    ⟨35999, upS, ⟨by decide +kernel, ⟨by decide +kernel, ⟨by decide +kernel, by decide +kernel⟩⟩⟩⟩,
    ⟨({ (powS (fun p => { p with inputLoss := true })) with boot := { upS.boot with dev := .reset } }), ⟨by decide +kernel, by decide +kernel⟩⟩,
    ⟨({ (powS (fun p => { p with porAsserted := true })) with boot := { upS.boot with dev := .reset } }), ⟨by decide +kernel, ⟨by decide +kernel, ⟨by decide +kernel, ⟨by decide +kernel, ⟨by decide +kernel, ⟨by decide +kernel, ⟨by decide +kernel, by decide +kernel⟩⟩⟩⟩⟩⟩⟩⟩⟩

set_option maxRecDepth 20000 in
theorem witness_GovernorCommandsComplete :
    (∃ (s : State), (alive s = true)) ∧
    (∃ (s : State), (alive s = true) ∧ (0 < s.power.winCount)) ∧
    (∃ (s : State), (alive s = true) ∧ (wantedStep s ≠ s.power.step)) ∧
    (∃ (s : State), (regWorks 1 true s = true) ∧ (s.power.pwrLimit.getLsbD 31 = false)) ∧
    (∃ (s : State), (regWorks 1 true s = true) ∧ (s.power.pwrLimit.getLsbD 31 = false)) ∧
    (∃ r, ∃ (s : State), (r.length = 106) ∧ (alive s = true) ∧ (s.power.thermTrip = false) ∧ (s.power.inputLoss = false) ∧ (tripReached r = false)) ∧
    (∃ r, ∃ (s : State), (r.length = 106) ∧ (alive s = true) ∧ (s.power.thermTrip = false) ∧ (s.power.inputLoss = false) ∧ (tripReached r = true)) ∧
    (∃ (s : State), (alive s = true)) ∧
    (∃ (s : State), (standby s = true) ∧ (s.power.tamperLow = false)) ∧
    (∃ (s : State), (standby s = true)) :=
  ⟨⟨upS, by decide +kernel⟩,
    ⟨(powS (fun p => { p with winCount := 10, winSum := 1, lowWindows := 9, powerReq := 2 })), ⟨by decide +kernel, by decide +kernel⟩⟩,
    ⟨(powS (fun p => { p with powerReq := 2 })), ⟨by decide +kernel, by decide +kernel⟩⟩,
    ⟨upS, ⟨by decide +kernel, by decide +kernel⟩⟩,
    ⟨upS, ⟨by decide +kernel, by decide +kernel⟩⟩,
    ⟨(List.replicate 72 1584#16 ++ List.replicate 34 0#16), upS, ⟨by decide +kernel, ⟨by decide +kernel, ⟨by decide +kernel, ⟨by decide +kernel, by decide +kernel⟩⟩⟩⟩⟩,
    ⟨(List.replicate 106 (2000#16)), upS, ⟨by decide +kernel, ⟨by decide +kernel, ⟨by decide +kernel, ⟨by decide +kernel, by decide +kernel⟩⟩⟩⟩⟩,
    ⟨upS, by decide +kernel⟩,
    ⟨upS, ⟨by decide +kernel, by decide +kernel⟩⟩,
    ⟨upS, by decide +kernel⟩⟩

set_option maxRecDepth 20000 in
theorem witness_ResetCommandsComplete :
    (∃ (s : State), (s.boot.dev ≠ .reset)) ∧
    (∃ (s : State), (s.boot.dev = .reset) ∧ (s.power.rails.vaon = true) ∧ (s.power.porAsserted = false) ∧ (s.power.thermTrip = false) ∧ (s.power.inputLoss = false) ∧ (s.boot.railsAfter = false)) ∧
    (∃ (s : State), (s.boot.dev ≠ .reset) ∧ (regWorks 1 true s = true) ∧ (mayStart s = true)) ∧
    (∃ (s : State), (s.boot.dev ≠ .reset) ∧ (mayStart s = true)) ∧
    (∃ (s : State), (s.boot.dev ≠ .reset)) ∧
    (∃ (s : State), (s.boot.dev ≠ .reset) ∧ (s.boot.stepFailed = true) ∧ (mayStart s = true)) ∧
    (∃ (s : State), (s.boot.dev = .bringUp) ∧ (s.boot.hostReset = false) ∧ (s.boot.waitHostImage = false) ∧ (mayStart s = true)) ∧
    (∃ (s : State), (s.boot.dev = .bringUp) ∧ (s.power.straps.clkmode = 0#1) ∧ (s.boot.refResonator = false)) ∧
    (∃ (s : State), (s.boot.dev ≠ .reset) ∧ (s.power.straps.clkmode = 0#1) ∧ (s.boot.refResonator = false) ∧ (s.boot.holdover = false)) ∧
    (∃ (s : State), (s.boot.dev ≠ .reset) ∧ (s.host.linkUp = true)) ∧
    (∃ (s : State), (s.boot.dev ≠ .reset) ∧ (s.host.linkUp = true)) ∧
    (∃ (s : State), (s.boot.dev ≠ .reset) ∧ (s.host.linkUp = true)) ∧
    (∃ (s : State), (s.boot.hostReset = true) ∧ (sweepClear s = true)) :=
  ⟨⟨upS, by decide +kernel⟩,
    ⟨({ (powS (fun p => { p with perst := true })) with boot := { upS.boot with dev := .reset } }), ⟨by decide +kernel, ⟨by decide +kernel, ⟨by decide +kernel, ⟨by decide +kernel, ⟨by decide +kernel, by decide +kernel⟩⟩⟩⟩⟩⟩,
    ⟨upS, ⟨by decide +kernel, ⟨by decide +kernel, by decide +kernel⟩⟩⟩,
    ⟨upS, ⟨by decide +kernel, by decide +kernel⟩⟩,
    ⟨upS, by decide +kernel⟩,
    ⟨(bootS (fun b => { b with dev := .bringUp, stage := 3, stepFailed := true })), ⟨by decide +kernel, ⟨by decide +kernel, by decide +kernel⟩⟩⟩,
    ⟨(bootS (fun b => { b with dev := .bringUp, stage := 3 })), ⟨by decide +kernel, ⟨by decide +kernel, ⟨by decide +kernel, by decide +kernel⟩⟩⟩⟩,
    ⟨(bootS (fun b => { b with dev := .bringUp, stage := 0 })), ⟨by decide +kernel, ⟨by decide +kernel, by decide +kernel⟩⟩⟩,
    ⟨upS, ⟨by decide +kernel, ⟨by decide +kernel, ⟨by decide +kernel, by decide +kernel⟩⟩⟩⟩,
    ⟨upS, ⟨by decide +kernel, by decide +kernel⟩⟩,
    ⟨upS, ⟨by decide +kernel, by decide +kernel⟩⟩,
    ⟨upS, ⟨by decide +kernel, by decide +kernel⟩⟩,
    ⟨(bootS (fun b => { b with dev := .bringUp, hostReset := true })), ⟨by decide +kernel, by decide +kernel⟩⟩⟩

set_option maxRecDepth 20000 in
theorem witness_BringUpCommandsComplete :
    (∃ u, ∃ (s : State), (u ∈ s.boot.deferred) ∧ (unitQuiet u s = true)) ∧
    (∃ c, ∃ (s : State), (.channel c ∈ s.boot.deferred)) ∧
    (∃ (s : State), (s.boot.dev = .ready) ∧ (s.boot.blk = none) ∧ (s.host.d3hot = false)) ∧
    (∃ (s : State), (s.boot.dev = .ready) ∧ (s.boot.blk = none) ∧ (s.host.d3hot = false)) ∧
    (∃ (s : State), (s.boot.dev = .ready) ∧ (s.boot.blk = none) ∧ (s.host.d3hot = false)) ∧
    (∃ (s : State), (s.boot.dev = .ready) ∧ (s.boot.blk = none) ∧ (s.host.d3hot = false)) ∧
    (∃ (s : State), (s.boot.dev = .ready) ∧ (s.boot.blk = none) ∧ (s.host.d3hot = false)) ∧
    (∃ (s : State), ∃ b, s.boot.blk = some b ∧ (b.waiting = false)) ∧
    (∃ (s : State), ∃ b, s.boot.blk = some b ∧ (b.waiting = false) ∧ (s.boot.dev ≠ .reset) ∧ (mayStart s = true)) ∧
    (∃ (s : State), (s.boot.dev = .bringUp) ∧ (s.boot.hostReset = false) ∧ (s.boot.stepFailed = false) ∧ (s.boot.stuckInStep1 = false) ∧ (s.boot.waitHostImage = false) ∧ (s.boot.stage < 8) ∧ (s.boot.stage ≠ 1) ∧ (s.boot.stage ≠ 2) ∧ (s.boot.stage ≠ 7) ∧ (stepHeld (s.boot.stage + 1) s = false)) ∧
    (∃ (s : State), (s.boot.dev = .bringUp) ∧ (s.boot.hostReset = false) ∧ (s.boot.stepFailed = false) ∧ (s.boot.stuckInStep1 = false) ∧ (s.boot.waitHostImage = false) ∧ (s.boot.stage = 7) ∧ (s.boot.recoveryDone = true)) ∧
    (∃ (s : State), (s.boot.dev = .bringUp) ∧ (s.boot.recoveryRunning = true) ∧ (s.boot.recoveryDone = false) ∧ (s.boot.stepFailed = false)) ∧
    (∃ (v : W32), ∃ (s : State), (s.boot.dev = .ready) ∧ (s.host.d3hot = false) ∧ (cflServes s = true) ∧ (v.toNat / 2 ^ 24 = 0x3E) ∧ (v.getLsbD 0 = true)) ∧
    (∃ m, ∃ (s : State), (doeServed s = true) ∧ (s.boot.waitHostImage = true) ∧ (m.length = 12 + 8192) ∧ (m.take 4 = [0x10#8, 0xEF#8, 0#8, 0#8]) ∧ (headerField m 4 4 = 0) ∧ (headerField m 8 4 = 16384)) :=
  ⟨⟨(PulseUnit.channel 63), (bootS (fun b => { b with dev := .reset, deferred := [.channel 63] })), ⟨by decide +kernel, by decide +kernel⟩⟩,
    ⟨63, (bootS (fun b => { b with dev := .reset, deferred := [.channel 63] })), by decide +kernel⟩,
    ⟨upS, ⟨by decide +kernel, ⟨by decide +kernel, by decide +kernel⟩⟩⟩,
    ⟨upS, ⟨by decide +kernel, ⟨by decide +kernel, by decide +kernel⟩⟩⟩,
    ⟨upS, ⟨by decide +kernel, ⟨by decide +kernel, by decide +kernel⟩⟩⟩,
    ⟨upS, ⟨by decide +kernel, ⟨by decide +kernel, by decide +kernel⟩⟩⟩,
    ⟨upS, ⟨by decide +kernel, ⟨by decide +kernel, by decide +kernel⟩⟩⟩,
    ⟨(bootS (fun b => { b with blk := some { kind := 1, index := 5, byHost := true, waiting := false } })), exGet (by decide +kernel) (by decide +kernel)⟩,
    ⟨(bootS (fun b => { b with blk := some { kind := 1, index := 5, byHost := true, waiting := false } })), exGet (by decide +kernel) (⟨by decide +kernel, ⟨by decide +kernel, by decide +kernel⟩⟩)⟩,
    ⟨(bootS (fun b => { b with dev := .bringUp, stage := 6 })), ⟨by decide +kernel, ⟨by decide +kernel, ⟨by decide +kernel, ⟨by decide +kernel, ⟨by decide +kernel, ⟨by decide +kernel, ⟨by decide +kernel, ⟨by decide +kernel, ⟨by decide +kernel, by decide +kernel⟩⟩⟩⟩⟩⟩⟩⟩⟩⟩,
    ⟨(bootS (fun b => { b with dev := .bringUp, stage := 7, recoveryDone := true })), ⟨by decide +kernel, ⟨by decide +kernel, ⟨by decide +kernel, ⟨by decide +kernel, ⟨by decide +kernel, ⟨by decide +kernel, by decide +kernel⟩⟩⟩⟩⟩⟩⟩,
    ⟨(bootS (fun b => { b with dev := .bringUp, stage := 7, recoveryRunning := true, recoveryDone := false })), ⟨by decide +kernel, ⟨by decide +kernel, ⟨by decide +kernel, by decide +kernel⟩⟩⟩⟩,
    ⟨0x3E000001#32, upS, ⟨by decide +kernel, ⟨by decide +kernel, ⟨by decide +kernel, ⟨by decide +kernel, by decide +kernel⟩⟩⟩⟩⟩,
    ⟨([0x10#8, 0xEF#8, 0#8, 0#8] ++ [0#8, 0#8, 0#8, 0#8] ++ [0#8, 0x40#8, 0#8, 0#8] ++ List.replicate 8192 0x5A#8), (bootS (fun b => { b with dev := .bringUp, stage := 2, waitHostImage := true })), ⟨by decide +kernel, ⟨by decide +kernel, ⟨by decide +kernel, ⟨by decide +kernel, ⟨by decide +kernel, by decide +kernel⟩⟩⟩⟩⟩⟩⟩

set_option maxRecDepth 20000 in
theorem witness_GridCommandsComplete :
    (∃ (tile : Fin 128), ∃ (s : State), (draining s = true) ∧ ∃ q, (tileOf tile.val s).arr = some q ∧ (q.null = false) ∧ (sOp q.slot = 1) ∧ ((tileOf tile.val s).grids.all (fun g => g.streaming) = true) ∧ (gridParamOk q.slot (BitVec.ofNat 512 (leNat (tileRead (tileOf tile.val s) (gParam q.slot * 64) 64))) = true)) ∧
    (∃ (tile : Fin 128), ∃ (s : State), (draining s = true) ∧ ∃ g, (tileOf tile.val s).grids.find? (fun h => !h.streaming) = some g) ∧
    (∃ (tile : Fin 128), ∃ (s : State), (draining s = true) ∧ ∃ g, (tileOf tile.val s).grids.find? (fun h => h.streaming && decide (h.delivered < h.rows)) = some g ∧ (bufferFree g (tileOf tile.val s).grids = true)) ∧
    (∃ (tile : Fin 128), ∃ (s : State), (draining s = true) ∧ ((tileOf tile.val s).grids.any (fun h => h.corr == .running) = false) ∧ ∃ g, (tileOf tile.val s).grids.find? (fun h => h.corr == .due) = some g) ∧
    (∃ (tile : Fin 128), ∃ (s : State), (draining s = true) ∧ ∃ g, (tileOf tile.val s).grids.find? (fun h => h.corr == .running) = some g) ∧
    (∃ (tile : Fin 128), ∃ (s : State), (draining s = true) ∧ ∃ g, (tileOf tile.val s).grids.find? (fun h => decide (h.entered < h.rows)) = some g ∧ (g.entered < g.delivered) ∧ (((gAMxe g.entry.slot || gBMxe g.entry.slot) = true → g.corr = .ended))) ∧
    (∃ (tile : Fin 128), ∃ (s : State), (draining s = true) ∧ ∃ g, ∃ rest, (tileOf tile.val s).grids = g :: rest ∧ (g.entered = g.rows)) :=
  ⟨⟨0, (tileS { Tile.fresh with arr := some (entry gridSl), gridCount := 3, mem := [(0x2001E, 0#8), (0x2001F, 0x80#8), (0x2003F, 0x80#8), (0x2000F, 0x10#8)] }), ⟨by decide +kernel, exGet (by decide +kernel) (⟨by decide +kernel, ⟨by decide +kernel, ⟨by decide +kernel, by decide +kernel⟩⟩⟩)⟩⟩,
    ⟨0, (tileS { Tile.fresh with grids := [gridJ], mem := someMem }), ⟨by decide +kernel, exGet' (by decide +kernel)⟩⟩,
    ⟨0, (tileS { Tile.fresh with grids := [{ gridJ with streaming := true, delivered := 127, entry := entry (gridSl ||| (1#128 <<< 104)) }] }), ⟨by decide +kernel, exGet (by decide +kernel) (by decide +kernel)⟩⟩,
    ⟨0, (tileS { Tile.fresh with grids := [{ gridJ with streaming := true, delivered := 128, corr := .due }] }), ⟨by decide +kernel, ⟨by decide +kernel, exGet' (by decide +kernel)⟩⟩⟩,
    ⟨0, (tileS { Tile.fresh with grids := [{ gridJ with streaming := true, delivered := 128, corr := .running, cflags := 3 }] }), ⟨by decide +kernel, exGet' (by decide +kernel)⟩⟩,
    ⟨0, (tileS { Tile.fresh with mem := someMem, grids := [{ gridJ with streaming := true, acc := List.replicate 128 (List.replicate 128 0x3F800000#32), delivered := 128 }] }), ⟨by decide +kernel, exGet (by decide +kernel) (⟨by decide +kernel, by decide +kernel⟩)⟩⟩,
    ⟨0, (tileS { Tile.fresh with grids := [{ gridJ with streaming := true, delivered := 128, entered := 128 }] }), ⟨by decide +kernel, ⟨_, _, rfl, by decide +kernel⟩⟩⟩⟩

set_option maxRecDepth 20000 in
theorem witness_VectorArithmeticCompletes :
    (∃ (tile : Fin 128), ∃ (s : State), ∃ q, startedVec tile.val 0x01 s = some q ∧ ∃ e, ∃ j, ownerJob s = some (e, j) ∧ (elemBits (vFmtD q.slot) % 8 = 0)) ∧
    (∃ (tile : Fin 128), ∃ (s : State), ∃ q, startedVec tile.val 0x02 s = some q ∧ ∃ e, ∃ j, ownerJob s = some (e, j) ∧ (elemBits (vFmtD q.slot) % 8 = 0)) ∧
    (∃ (tile : Fin 128), ∃ (s : State), ∃ q, startedVec tile.val 0x03 s = some q ∧ ∃ e, ∃ j, ownerJob s = some (e, j) ∧ (elemBits (vFmtD q.slot) % 8 = 0)) ∧
    (∃ (tile : Fin 128), ∃ (s : State), ∃ q, startedVec tile.val 0x04 s = some q ∧ ∃ e, ∃ j, ownerJob s = some (e, j) ∧ (elemBits (vFmtD q.slot) % 8 = 0)) ∧
    (∃ (tile : Fin 128), ∃ (s : State), ∃ q, startedVec tile.val 0x05 s = some q ∧ ∃ e, ∃ j, ownerJob s = some (e, j) ∧ (elemBits (vFmtD q.slot) % 8 = 0)) ∧
    (∃ (tile : Fin 128), ∃ (s : State), ∃ q, startedVec tile.val 0x06 s = some q ∧ ∃ e, ∃ j, ownerJob s = some (e, j) ∧ (elemBits (vFmtD q.slot) % 8 = 0)) ∧
    (∃ (tile : Fin 128), ∃ (s : State), ∃ q, startedVec tile.val 0x07 s = some q ∧ ∃ e, ∃ j, ownerJob s = some (e, j) ∧ (elemBits (vFmtD q.slot) % 8 = 0)) ∧
    (∃ (tile : Fin 128), ∃ (s : State), ∃ q, startedVec tile.val 0x08 s = some q ∧ ∃ e, ∃ j, ownerJob s = some (e, j) ∧ (elemBits (vFmtD q.slot) % 8 = 0)) ∧
    (∃ (tile : Fin 128), ∃ (s : State), ∃ q, startedVec tile.val 0x09 s = some q ∧ ∃ e, ∃ j, ownerJob s = some (e, j) ∧ (elemBits (vFmtD q.slot) % 8 = 0)) ∧
    (∃ (tile : Fin 128), ∃ (s : State), ∃ q, startedVec tile.val 0x0A s = some q ∧ ∃ e, ∃ j, ownerJob s = some (e, j) ∧ (elemBits (vFmtD q.slot) % 8 = 0)) ∧
    (∃ (tile : Fin 128), ∃ (s : State), ∃ q, startedVec tile.val 0x0C s = some q ∧ ∃ e, ∃ j, ownerJob s = some (e, j) ∧ (elemBits (vFmtD q.slot) % 8 = 0)) ∧
    (∃ (tile : Fin 128), ∃ (s : State), ∃ q, startedVec tile.val 0x0D s = some q ∧ ∃ e, ∃ j, ownerJob s = some (e, j) ∧ (elemBits (vFmtD q.slot) % 8 = 0)) ∧
    (∃ (tile : Fin 128), ∃ (s : State), ∃ q, startedVec tile.val 0x0E s = some q ∧ ∃ e, ∃ j, ownerJob s = some (e, j) ∧ (elemBits (vFmtD q.slot) % 8 = 0)) ∧
    (∃ (tile : Fin 128), ∃ (s : State), ∃ q, startedVec tile.val 0x0F s = some q ∧ ∃ e, ∃ j, ownerJob s = some (e, j) ∧ (elemBits (vFmtD q.slot) % 8 = 0)) ∧
    (∃ (tile : Fin 128), ∃ (s : State), ∃ q, startedVec tile.val 0x10 s = some q ∧ ∃ e, ∃ j, ownerJob s = some (e, j) ∧ (elemBits (vFmtD q.slot) % 8 = 0)) ∧
    (∃ (tile : Fin 128), ∃ (s : State), ∃ q, startedVec tile.val 0x11 s = some q ∧ ∃ e, ∃ j, ownerJob s = some (e, j) ∧ (elemBits (vFmtD q.slot) % 8 = 0)) :=
  ⟨⟨0, (vecS (vecSl 1 9 9 1)), exGet (by decide +kernel) (exGet2 (by decide +kernel) (by decide +kernel))⟩,
    ⟨0, (vecS (vecSl 2 9 9 1)), exGet (by decide +kernel) (exGet2 (by decide +kernel) (by decide +kernel))⟩,
    ⟨0, (vecS (vecSl 3 9 9 1)), exGet (by decide +kernel) (exGet2 (by decide +kernel) (by decide +kernel))⟩,
    ⟨0, (vecS (vecSl 4 9 9 1)), exGet (by decide +kernel) (exGet2 (by decide +kernel) (by decide +kernel))⟩,
    ⟨0, (vecS (vecSl 5 9 9 1)), exGet (by decide +kernel) (exGet2 (by decide +kernel) (by decide +kernel))⟩,
    ⟨0, (vecS (vecSl 6 9 9 1)), exGet (by decide +kernel) (exGet2 (by decide +kernel) (by decide +kernel))⟩,
    ⟨0, (vecS (vecSl 7 9 9 1)), exGet (by decide +kernel) (exGet2 (by decide +kernel) (by decide +kernel))⟩,
    ⟨0, (vecS (vecSl 8 9 9 1)), exGet (by decide +kernel) (exGet2 (by decide +kernel) (by decide +kernel))⟩,
    ⟨0, (vecS (vecSl 9 9 9 1)), exGet (by decide +kernel) (exGet2 (by decide +kernel) (by decide +kernel))⟩,
    ⟨0, (vecS (vecSl 10 9 9 1)), exGet (by decide +kernel) (exGet2 (by decide +kernel) (by decide +kernel))⟩,
    ⟨0, (vecS (vecSl 12 9 9 1)), exGet (by decide +kernel) (exGet2 (by decide +kernel) (by decide +kernel))⟩,
    ⟨0, (vecS (vecSl 13 9 9 1)), exGet (by decide +kernel) (exGet2 (by decide +kernel) (by decide +kernel))⟩,
    ⟨0, (vecS (vecSl 14 9 9 1)), exGet (by decide +kernel) (exGet2 (by decide +kernel) (by decide +kernel))⟩,
    ⟨0, (vecS (vecSl 15 9 9 1)), exGet (by decide +kernel) (exGet2 (by decide +kernel) (by decide +kernel))⟩,
    ⟨0, (vecS (vecSl 16 9 9 1)), exGet (by decide +kernel) (exGet2 (by decide +kernel) (by decide +kernel))⟩,
    ⟨0, (vecS (vecSl 17 9 9 1)), exGet (by decide +kernel) (exGet2 (by decide +kernel) (by decide +kernel))⟩⟩

set_option maxRecDepth 20000 in
theorem witness_VectorTranscendentalsComplete :
    (∃ (tile : Fin 128), ∃ (s : State), ∃ q, startedVec tile.val 0x18 s = some q ∧ ∃ e, ∃ j, ownerJob s = some (e, j) ∧ (elemBits (vFmtD q.slot) % 8 = 0)) ∧
    (∃ (tile : Fin 128), ∃ (s : State), ∃ q, startedVec tile.val 0x19 s = some q ∧ ∃ e, ∃ j, ownerJob s = some (e, j) ∧ (elemBits (vFmtD q.slot) % 8 = 0)) ∧
    (∃ (tile : Fin 128), ∃ (s : State), ∃ q, startedVec tile.val 0x1A s = some q ∧ ∃ e, ∃ j, ownerJob s = some (e, j) ∧ (elemBits (vFmtD q.slot) % 8 = 0)) ∧
    (∃ (tile : Fin 128), ∃ (s : State), ∃ q, startedVec tile.val 0x1B s = some q ∧ ∃ e, ∃ j, ownerJob s = some (e, j) ∧ (elemBits (vFmtD q.slot) % 8 = 0)) ∧
    (∃ (tile : Fin 128), ∃ (s : State), ∃ q, startedVec tile.val 0x1C s = some q ∧ ∃ e, ∃ j, ownerJob s = some (e, j) ∧ (elemBits (vFmtD q.slot) % 8 = 0)) ∧
    (∃ (tile : Fin 128), ∃ (s : State), ∃ q, startedVec tile.val 0x1D s = some q ∧ ∃ e, ∃ j, ownerJob s = some (e, j) ∧ (elemBits (vFmtD q.slot) % 8 = 0)) ∧
    (∃ (tile : Fin 128), ∃ (s : State), ∃ q, startedVec tile.val 0x1E s = some q ∧ ∃ e, ∃ j, ownerJob s = some (e, j) ∧ (elemBits (vFmtD q.slot) % 8 = 0)) ∧
    (∃ (tile : Fin 128), ∃ (s : State), ∃ q, startedVec tile.val 0x1F s = some q ∧ ∃ e, ∃ j, ownerJob s = some (e, j) ∧ (elemBits (vFmtD q.slot) % 8 = 0)) :=
  ⟨⟨0, (vecS (vecSl 24 8 8 1)), exGet (by decide +kernel) (exGet2 (by decide +kernel) (by decide +kernel))⟩,
    ⟨0, (vecS (vecSl 25 8 8 1)), exGet (by decide +kernel) (exGet2 (by decide +kernel) (by decide +kernel))⟩,
    ⟨0, (vecS (vecSl 26 8 8 1)), exGet (by decide +kernel) (exGet2 (by decide +kernel) (by decide +kernel))⟩,
    ⟨0, (vecS (vecSl 27 8 8 1)), exGet (by decide +kernel) (exGet2 (by decide +kernel) (by decide +kernel))⟩,
    ⟨0, (vecS (vecSl 28 8 8 1)), exGet (by decide +kernel) (exGet2 (by decide +kernel) (by decide +kernel))⟩,
    ⟨0, (vecS (vecSl 29 8 8 1)), exGet (by decide +kernel) (exGet2 (by decide +kernel) (by decide +kernel))⟩,
    ⟨0, (vecS (vecSl 30 8 8 1)), exGet (by decide +kernel) (exGet2 (by decide +kernel) (by decide +kernel))⟩,
    ⟨0, (vecS (vecSl 31 8 8 1)), exGet (by decide +kernel) (exGet2 (by decide +kernel) (by decide +kernel))⟩⟩

set_option maxRecDepth 20000 in
theorem witness_VectorIntegersComplete :
    ∃ (tile : Fin 128), ∃ (s : State), ∃ q, startedVec tile.val 40 s = some q ∧ ∃ e, ∃ j, ownerJob s = some (e, j) ∧ (vFmtA q.slot = 10) ∧ (vFmtD q.slot = 10) :=
  ⟨0, (vecS (vecSl 40 10 10 1)), exGet (by decide +kernel) (exGet2 (by decide +kernel) (⟨by decide +kernel, by decide +kernel⟩))⟩

set_option maxRecDepth 20000 in
theorem witness_VectorReductionsAndConversionsComplete :
    (∃ (tile : Fin 128), ∃ (s : State), ∃ q, startedVec tile.val 0x0B s = some q ∧ ∃ e, ∃ j, ownerJob s = some (e, j) ∧ (elemBits (vFmtA q.slot) % 8 = 0)) ∧
    (∃ (tile : Fin 128), ∃ (s : State), ∃ q, startedVec tile.val 0x20 s = some q ∧ ∃ e, ∃ j, ownerJob s = some (e, j) ∧ (elemBits (vFmtA q.slot) % 8 = 0)) ∧
    (∃ (tile : Fin 128), ∃ (s : State), ∃ q, startedVec tile.val 0x21 s = some q ∧ ∃ e, ∃ j, ownerJob s = some (e, j) ∧ (elemBits (vFmtA q.slot) % 8 = 0)) ∧
    (∃ (tile : Fin 128), ∃ (s : State), ∃ q, startedVec tile.val 0x22 s = some q ∧ ∃ e, ∃ j, ownerJob s = some (e, j) ∧ (elemBits (vFmtA q.slot) % 8 = 0)) ∧
    (∃ (tile : Fin 128), ∃ (s : State), ∃ q, startedVec tile.val 0x23 s = some q ∧ ∃ e, ∃ j, ownerJob s = some (e, j) ∧ (elemBits ((fun _ => 10) q.slot) % 8 = 0)) ∧
    (∃ (tile : Fin 128), ∃ (s : State), ∃ q, startedVec tile.val 0x12 s = some q ∧ ∃ e, ∃ j, ownerJob s = some (e, j)) ∧
    (∃ (tile : Fin 128), ∃ (s : State), ∃ q, startedVec tile.val 0x13 s = some q ∧ ∃ e, ∃ j, ownerJob s = some (e, j) ∧ ((∀ i < vN q.slot * 2, ∀ k < vN q.slot * 2, vDst q.slot * 64 + i ≠ vSrc2 q.slot * 64 + k))) ∧
    (∃ (tile : Fin 128), ∃ (s : State), ∃ q, startedVec tile.val 0x14 s = some q ∧ ∃ e, ∃ j, ownerJob s = some (e, j)) ∧
    (∃ (tile : Fin 128), ∃ (s : State), ∃ q, startedVec tile.val 0x24 s = some q ∧ ∃ e, ∃ j, ownerJob s = some (e, j)) ∧
    (∃ (tile : Fin 128), ∃ (s : State), (draining s = true) ∧ ∃ q, (tileOf tile.val s).vec = some q ∧ (q.done = true)) :=
  ⟨⟨0, (vecS (vecSl 11 9 9 1)), exGet (by decide +kernel) (exGet2 (by decide +kernel) (by decide +kernel))⟩,
    ⟨0, (vecS (vecSl 32 9 9 1)), exGet (by decide +kernel) (exGet2 (by decide +kernel) (by decide +kernel))⟩,
    ⟨0, (vecS (vecSl 33 9 9 1)), exGet (by decide +kernel) (exGet2 (by decide +kernel) (by decide +kernel))⟩,
    ⟨0, (vecS (vecSl 34 9 9 1)), exGet (by decide +kernel) (exGet2 (by decide +kernel) (by decide +kernel))⟩,
    ⟨0, (vecS (vecSl 35 9 10 1)), exGet (by decide +kernel) (exGet2 (by decide +kernel) (by decide +kernel))⟩,
    ⟨0, (vecS (vecSl 18 5 8 1)), exGet (by decide +kernel) (exGet2' (by decide +kernel))⟩,
    ⟨0, (vecS (vecSl 19 8 8 1)), exGet (by decide +kernel) (exGet2 (by decide +kernel) (by decide +kernel))⟩,
    ⟨0, (vecS (vecSl 20 8 8 1)), exGet (by decide +kernel) (exGet2' (by decide +kernel))⟩,
    ⟨0, (vecS (vecSl 0x24 8 7 9)), exGet (by decide +kernel) (exGet2' (by decide +kernel))⟩,
    ⟨0, (tileS { Tile.fresh with mem := someMem, vec := some { entry (vecSl 1 8 8 4) with done := true } }), ⟨by decide +kernel, exGet (by decide +kernel) (by decide +kernel)⟩⟩⟩

set_option maxRecDepth 20000 in
theorem witness_DispatchCommandsComplete :
    (∃ (tile : Fin 128), ∃ (s : State), (running s = true) ∧ ((tileOf tile.val s).left = false) ∧ ((tileOf tile.val s).buf.length < Config.fetchUnits) ∧ (firstMissing (tileOf tile.val s) (tileOf tile.val s).rp Config.fetchUnits + 8 ≤ (tileOf tile.val s).rangeHi) ∧ (fetchSigned (firstMissing (tileOf tile.val s) (tileOf tile.val s).rp Config.fetchUnits) s = true) ∧ ((hostClear false [(firstMissing (tileOf tile.val s) (tileOf tile.val s).rp Config.fetchUnits, 8)] s).1 = true) ∧ ∃ b, ∃ s1, readStacked (firstMissing (tileOf tile.val s) (tileOf tile.val s).rp Config.fetchUnits) 8 s = (.ok b, s1)) ∧
    (∃ (tile : Fin 128), ∃ (s : State), ∃ e, ∃ j, ownerJob s = some (e, j) ∧ (running s = true) ∧ ((tileOf tile.val s).cur = none) ∧ ((tileOf tile.val s).hold = .none) ∧ ((tileOf tile.val s).left = false) ∧ ∃ h, Tbl.look (tileOf tile.val s).buf (tileOf tile.val s).rp = some h ∧ (isCompl 6 (hMask h) (hMaskN h) = true) ∧ ∃ us, fetchWord (tileOf tile.val s) h = some us ∧ (lowestCause (wordCauses tile.val (tileOf tile.val s) j h (wordSlots h us) s) = none) ∧ ((hWaypoint h = true → (tileOf tile.val s).wpPassed = true)) ∧ ((∀ p ∈ wordSlots h us, p.1 < 4 → ((tileOf tile.val s).queue (engineAt p.1)).length < Config.queueDepth)) ∧ (Tbl.freeKey (tileOf tile.val s).trackers 0 Config.trackers ≠ none)) ∧
    (∃ (tile : Fin 128), ∃ (s : State), ∃ e, ∃ j, ownerJob s = some (e, j) ∧ (running s = true) ∧ ((tileOf tile.val s).cur = none) ∧ ((tileOf tile.val s).hold = .none) ∧ ((tileOf tile.val s).left = false) ∧ ∃ h, Tbl.look (tileOf tile.val s).buf (tileOf tile.val s).rp = some h ∧ (isCompl 6 (hMask h) (hMaskN h) = true) ∧ ∃ us, fetchWord (tileOf tile.val s) h = some us ∧ (lowestCause (wordCauses tile.val (tileOf tile.val s) j h (wordSlots h us) s) = none) ∧ (hWaypoint h = true) ∧ ((tileOf tile.val s).wpPassed = false)) ∧
    (∃ (tile : Fin 128), ∃ (s : State), (running s = true) ∧ ∃ x, x = (tileOf tile.val s).examineTo .pout ∧ (x.hold = .headerWait) ∧ ∃ w, x.cur = some w ∧ (x.satisfied x.holdHdr = true)) ∧
    (∃ (tile : Fin 128), ∃ (eng : Engine), ∃ (s : State), ∃ e, ∃ j, ownerJob s = some (e, j) ∧ (running s = true) ∧ ∃ x, x = (tileOf tile.val s).examineTo eng ∧ ∃ (q : QEntry), ∃ rest, x.queue eng = q :: rest ∧ (q.resolved = true) ∧ (canTake x eng q = true) ∧ ((∀ wr rows n, entryAccess eng q = some (wr, rows, n) → transferAllowed j wr rows n (setTile tile.val x s) = true))) ∧
    (∃ (tile : Fin 128), ∃ (eng : Engine), ∃ (q : QEntry), ∃ (s : State), (draining s = true) ∧ (q.null = true) ∧ ((match eng with | .arr => (tileOf tile.val s).arr | .vec => (tileOf tile.val s).vec | .pin => (tileOf tile.val s).pin.head? | .pout => (tileOf tile.val s).pout.head?) = some q)) ∧
    (∃ (tile : Fin 128), ∃ (eng : Engine), ∃ (q : QEntry), ∃ (s : State), (draining s = true) ∧ (q.null = false) ∧ (sOp q.slot = 0) ∧ ((match eng with | .arr => (tileOf tile.val s).arr | .vec => (tileOf tile.val s).vec | .pin => (tileOf tile.val s).pin.head? | .pout => (tileOf tile.val s).pout.head?) = some q)) ∧
    (∃ (tile : Fin 128), ∃ who, ∃ (s : State), ∃ e, ∃ j, ownerJob s = some (e, j) ∧ (running s = true) ∧ ∃ since, ∃ kind, ∃ w, waitSince ((tileOf tile.val s).examineTo .pout) who = some (since, kind, w) ∧ (waitLimit j < waited since s.tensor.delivered) ∧ ((who = .dispatcher → ((tileOf tile.val s).examineTo .pout).satisfied ((tileOf tile.val s).examineTo .pout).holdHdr = false))) :=
  ⟨⟨0, (tileS (fetchT [])), ⟨by decide +kernel, ⟨by decide +kernel, ⟨by decide +kernel, ⟨by decide +kernel, ⟨by decide +kernel, ⟨by decide +kernel, exOk' (by decide +kernel)⟩⟩⟩⟩⟩⟩⟩,
    ⟨0, (tileS (fetchT [hdr 2 [], (addSl).extractLsb' 0 64, (addSl).extractLsb' 64 64])), exGet2 (by decide +kernel) (⟨by decide +kernel, ⟨by decide +kernel, ⟨by decide +kernel, ⟨by decide +kernel, exGet (by decide +kernel) (⟨by decide +kernel, exGet (by decide +kernel) (⟨by decide +kernel, ⟨by decide +kernel, ⟨by decide +kernel, by decide +kernel⟩⟩⟩)⟩)⟩⟩⟩⟩)⟩,
    ⟨0, (tileS (fetchT [hdr 0 [(52, 1), (53, 3)]])), exGet2 (by decide +kernel) (⟨by decide +kernel, ⟨by decide +kernel, ⟨by decide +kernel, ⟨by decide +kernel, exGet (by decide +kernel) (⟨by decide +kernel, exGet (by decide +kernel) (⟨by decide +kernel, ⟨by decide +kernel, by decide +kernel⟩⟩)⟩)⟩⟩⟩⟩)⟩,
    ⟨0, (tileS { fetchT [] with hold := .headerWait, holdHdr := hdr 0 [(12, 5), (18, 1)], flags := [(5, 2)], cur := some { addr := 0x1000, units := 1, hdr := hdr 0 [(12, 5), (18, 1)], sync := none, loop := none, hasEngine := false, skipTo := none, waited := false } }), ⟨by decide +kernel, ⟨_, rfl, ⟨by decide +kernel, exGet (by decide +kernel) (by decide +kernel)⟩⟩⟩⟩,
    ⟨0, Engine.pout, (tileS { fetchT [] with qPout := [entry (word 128 [(120, 1), (70, 2^32), (38, 2)])] }), exGet2 (by decide +kernel) (⟨by decide +kernel, ⟨_, rfl, ⟨_, _, rfl, ⟨by decide +kernel, ⟨by decide +kernel, all3 (by decide +kernel)⟩⟩⟩⟩⟩)⟩,
    ⟨0, Engine.pout, ({ entry gridSl with null := true }), (tileS { fetchT [] with pout := [{ entry gridSl with null := true }, entry gridSl] }), ⟨by decide +kernel, ⟨by decide +kernel, by decide +kernel⟩⟩⟩,
    ⟨0, Engine.pout, (entry 0#128), (tileS { fetchT [] with pout := [entry 0#128, entry gridSl] }), ⟨by decide +kernel, ⟨by decide +kernel, ⟨by decide +kernel, by decide +kernel⟩⟩⟩⟩,
    ⟨0, (WaitEntity.head .vec), (withDel 5000 (tileS { fetchT [] with qVec := [{ entry (vecSl 1 8 8 4) with hdr := hdr 2 [(12, 5), (18, 1)], resolved := false, waitFrom := some 7 }] })), exGet2 (by decide +kernel) (⟨by decide +kernel, exGet3 (by decide +kernel) (⟨by decide +kernel, by decide +kernel⟩)⟩)⟩⟩

set_option maxRecDepth 20000 in
theorem witness_SyncSlotsComplete :
    (∃ (tile : Fin 128), ∃ (s : State), ∃ sl, pendingSync tile.val 1 s = some sl) ∧
    (∃ (tile : Fin 128), ∃ (s : State), ∃ sl, pendingSync tile.val 2 s = some sl) ∧
    (∃ (tile : Fin 128), ∃ (s : State), ∃ sl, pendingSync tile.val 3 s = some sl) ∧
    (∃ (tile : Fin 128), ∃ (s : State), ∃ sl, pendingSync tile.val 4 s = some sl) ∧
    (∃ (tile : Fin 128), ∃ (s : State), ∃ sl, pendingSync tile.val 5 s = some sl) ∧
    (∃ (tile : Fin 128), ∃ (s : State), ∃ sl, pendingSync tile.val 6 s = some sl) ∧
    (∃ (tile : Fin 128), ∃ (s : State), ∃ sl, pendingSync tile.val 7 s = some sl) ∧
    (∃ (tile : Fin 128), ∃ (s : State), ∃ sl, pendingSync tile.val 8 s = some sl) ∧
    (∃ (tile : Fin 128), ∃ (s : State), (running s = true) ∧ ((tileOf tile.val s).hold = .none) ∧ ∃ w, (tileOf tile.val s).cur = some w ∧ ∃ sl, w.loop = some sl ∧ (w.sync = none) ∧ (w.skipTo = none) ∧ (predRuns (tileOf tile.val s) sl = some true) ∧ (0 < lBody sl) ∧ ((if lSrc sl then lCount sl else Tbl.lookD (tileOf tile.val s).ctrs (lCtr sl) 0) ≠ 0)) :=
  ⟨⟨0, (syncS (word 128 [(120,1),(101,7),(85,0xFFFF)])), exGet' (by decide +kernel)⟩,
    ⟨0, (syncS (word 128 [(120,2),(101,7),(85,0xFFFF)])), exGet' (by decide +kernel)⟩,
    ⟨0, (syncS (word 128 [(120,3),(101,7),(98,1),(95,2),(79,9)])), exGet' (by decide +kernel)⟩,
    ⟨0, (syncS (word 128 [(120,4)])), exGet' (by decide +kernel)⟩,
    ⟨0, (syncS (word 128 [(120,5)])), exGet' (by decide +kernel)⟩,
    ⟨0, (syncS (word 128 [(120,6),(96,3)])), exGet' (by decide +kernel)⟩,
    ⟨0, (syncS (word 128 [(120,7)])), exGet' (by decide +kernel)⟩,
    ⟨0, (syncS (word 128 [(120,8),(98,63),(90,255)])), exGet' (by decide +kernel)⟩,
    ⟨0, (tileS { fetchT [] with cur := some { addr := 0x1000, units := 3, hdr := hdr 32 [], sync := none, loop := some loopSl, hasEngine := false, skipTo := none, waited := false } }), ⟨by decide +kernel, ⟨by decide +kernel, exGet (by decide +kernel) (exGet (by decide +kernel) (⟨by decide +kernel, ⟨by decide +kernel, ⟨by decide +kernel, ⟨by decide +kernel, by decide +kernel⟩⟩⟩⟩))⟩⟩⟩⟩

set_option maxRecDepth 20000 in
theorem witness_PorterTransfersComplete :
    (∃ (tile : Fin 128), ∃ (s : State), ∃ (q : QEntry), startedEntry tile.val true 1 s = some q ∧ ((hostClear false ((pRowAddrs q.slot).map (fun a => (a, pLen q.slot * 64))) s).1 = true) ∧ ∃ bytes, ∃ s1, readRows (pRowAddrs q.slot) (pLen q.slot * 64) s = (.ok bytes, s1)) ∧
    (∃ (tile : Fin 128), ∃ (s : State), ∃ (q : QEntry), startedEntry tile.val false 1 s = some q ∧ ((hostClear true ((pRowAddrs q.slot).map (fun a => (a, pLen q.slot * 64))) s).1 = true)) ∧
    (∃ (tile : Fin 128), ∃ (s : State), ∃ (q : QEntry), startedEntry tile.val true 2 s = some q) ∧
    (∃ (tile : Fin 128), ∃ (s : State), ∃ (q : QEntry), startedEntry tile.val true 3 s = some q) ∧
    (∃ (g : Fin 256), ∃ (s : State), ∃ c, Tbl.look s.tensor.caravans g.val = some c ∧ ∃ l, groupEntry c.leader 2 g.val s = some l ∧ (running s = true) ∧ (c.running = false) ∧ (l.next = 1) ∧ ((∀ m ∈ groupMembers c, ∃ q, groupEntry m 3 g.val s = some q ∧ q.next = 1 ∧ pLen q.slot = pLen l.slot ∧ pRows q.slot = pRows l.slot))) ∧
    (∃ (g : Fin 256), ∃ (s : State), ∃ c, Tbl.look s.tensor.caravans g.val = some c ∧ ∃ l, groupEntry c.leader 2 g.val s = some l ∧ (draining s = true) ∧ (c.running = true) ∧ ((hostClear false ((pRowAddrs l.slot).map (fun a => (a, pLen l.slot * 64))) s).1 = true) ∧ ∃ bytes, ∃ s1, readRows (pRowAddrs l.slot) (pLen l.slot * 64) { s with tensor := { s.tensor with caravans := Tbl.put s.tensor.caravans g.val { c with running := false } } } = (.ok bytes, s1)) :=
  ⟨⟨0, (withStk (tileS { fetchT [] with pin := [entry (word 128 [(120, 1), (70, 0x3C000000), (54, 4), (38, 2), (30, 3), (14, 1)])] })), exGet (by decide +kernel) (⟨by decide +kernel, exOk' (by decide +kernel)⟩)⟩,
    ⟨0, (tileS { fetchT [] with mem := someMem, pout := [entry (word 128 [(120, 1), (70, 0x100), (54, 1), (38, 0), (30, 3), (14, 1)])] }), exGet (by decide +kernel) (by decide +kernel)⟩,
    ⟨0, (tileS { fetchT [] with pin := [entry (word 128 [(120, 2), (70, 0x100), (38, 2), (6, 5)])] }), exGet' (by decide +kernel)⟩,
    ⟨0, (tileS { fetchT [] with pin := [entry (word 128 [(120, 3), (54, 8), (38, 2), (6, 5)])] }), exGet' (by decide +kernel)⟩,
    ⟨5, (carS (ownS job0 [(0, { fetchT [] with pin := [{ entry (word 128 [(120, 2), (70, 0x100), (38, 2), (6, 5)]) with next := 1 }] }), (3, { fetchT [] with pin := [{ entry (word 128 [(120, 3), (54, 8), (38, 2), (6, 5)]) with next := 1 }] })]) false), exGet (by decide +kernel) (exGet (by decide +kernel) (⟨by decide +kernel, ⟨by decide +kernel, ⟨by decide +kernel, by decide +kernel⟩⟩⟩))⟩,
    ⟨5, (withStk (carS (ownS job0 [(0, { fetchT [] with pin := [{ entry (word 128 [(120, 2), (70, 0x100), (38, 2), (6, 5)]) with next := 1 }] }), (3, { fetchT [] with pin := [{ entry (word 128 [(120, 3), (54, 8), (38, 2), (6, 5)]) with next := 1 }] })]) true)), exGet (by decide +kernel) (exGet (by decide +kernel) (⟨by decide +kernel, ⟨by decide +kernel, ⟨by decide +kernel, exOk' (by decide +kernel)⟩⟩⟩))⟩⟩

set_option maxRecDepth 20000 in
theorem witness_PorterRequestsComplete :
    (∃ (tile : Fin 128), ∃ (s : State), ∃ e, ∃ j, ownerJob s = some (e, j) ∧ ∃ (q : QEntry), cellarEntry tile.val true s = some q ∧ ∃ x, Tbl.look s.spaces (cNs q.slot + 1) = some x ∧ ∃ n, q.lock = some n ∧ (lockClear n s = true) ∧ (cellarQueued (cellarPorter (ledgerOf (x.base + cUnitOff q.slot + q.next) s) (x.base + cUnitOff q.slot + q.next) s) (if latencyCritical j then 2 else 4) s < 256)) ∧
    (∃ (tile : Fin 128), ∃ (s : State), ∃ e, ∃ j, ownerJob s = some (e, j) ∧ ∃ (q : QEntry), cellarEntry tile.val false s = some q ∧ ∃ x, Tbl.look s.spaces (cNs q.slot + 1) = some x ∧ ∃ n, q.lock = some n ∧ (lockClear n s = true) ∧ (cellarQueued (cellarPorter (ledgerOf (x.base + cUnitOff q.slot + q.next) s) (x.base + cUnitOff q.slot + q.next) s) 5 s < 256)) ∧
    (∃ (tile : Fin 128), ∃ (s : State), ∃ e, ∃ j, ownerJob s = some (e, j) ∧ ∃ (q : QEntry), startedEntry tile.val true 5 s = some q ∧ ∃ p, (remotePieces q.slot).getLast? = some p) ∧
    (∃ (tile : Fin 128), ∃ (s : State), ∃ e, ∃ j, ownerJob s = some (e, j) ∧ ∃ (q : QEntry), startedEntry tile.val false 3 s = some q ∧ ∃ p, (remotePieces q.slot).getLast? = some p) ∧
    (∃ (tile : Fin 128), ∃ (s : State), ∃ e, ∃ j, ownerJob s = some (e, j) ∧ ∃ (q : QEntry), startedEntry tile.val false 4 s = some q ∧ ∃ p, (remotePieces q.slot).getLast? = some p) ∧
    (∃ (tile : Fin 128), ∃ (s : State), ∃ e, ∃ j, ownerJob s = some (e, j) ∧ ∃ (q : QEntry), startedEntry tile.val false 5 s = some q ∧ (treeOk j.root s = true) ∧ (Tbl.look s.fabric.reductions (reduceKey (jFabricCtx j.desc) (rdId q.slot)) = none)) ∧
    (∃ (tile : Fin 128), ∃ (s : State), ∃ (q : QEntry), startedEntry tile.val false 0x10 s = some q) ∧
    (∃ (tile : Fin 128), ∃ (s : State), ∃ e, ∃ j, ownerJob s = some (e, j) ∧ ∃ (q : QEntry), startedEntry tile.val false 0x11 s = some q) ∧
    (∃ (tile : Fin 128), ∃ (s : State), (draining s = true) ∧ ∃ (q : QEntry), ∃ rest, (tileOf tile.val s).pin = q :: rest ∧ (q.done = true)) ∧
    (∃ (tile : Fin 128), ∃ (s : State), (draining s = true) ∧ ∃ (q : QEntry), ∃ rest, (tileOf tile.val s).pout = q :: rest ∧ (q.done = true)) ∧
    (∃ (s : State), ∃ a, s.mem.nextActive = some a) ∧
    (∃ (e : Fin 64), ∃ (s : State), (s.mem.nextActive = none) ∧ (resvActive e.val s = true)) ∧
    (∃ (s : State), (regWorks 5 false s = true)) ∧
    (∃ (i : Fin 64), ∃ (v : W64), ∃ (s : State), (regWorks 5 false s = true) ∧ (i.val < 5) ∧ ((s.mem.standing.set i.val (v.toNat % 1024)).foldl (· + ·) 0 + largestJob s ≤ Config.reservable)) ∧
    (∃ (i : Fin 64), ∃ (v : W64), ∃ (s : State), (regWorks 5 false s = true) ∧ (i.val < 5) ∧ (Config.reservable < (s.mem.standing.set i.val (v.toNat % 1024)).foldl (· + ·) 0 + largestJob s)) :=
  ⟨⟨0, (nsS (tileS { fetchT [] with pin := [{ entry (word 128 [(120, 4), (70, 0x100), (65, 1), (32, 7), (16, 3)]) with lock := some 3 }] })), exGet2 (by decide +kernel) (exGet (by decide +kernel) (exGet (by decide +kernel) (exGet (by decide +kernel) (⟨by decide +kernel, by decide +kernel⟩))))⟩,
    ⟨0, (nsS (tileS { fetchT [] with pout := [{ entry (word 128 [(120, 2), (70, 0x100), (65, 1), (32, 7), (16, 3)]) with lock := some 3 }] })), exGet2 (by decide +kernel) (exGet (by decide +kernel) (exGet (by decide +kernel) (exGet (by decide +kernel) (⟨by decide +kernel, by decide +kernel⟩))))⟩,
    ⟨0, (nsS (tileS { fetchT [] with pin := [entry (word 128 [(120, 5), (70, 0x3C0), (54, 8), (38, 33), (30, 1), (14, 40), (2, 6), (1, 1)])] })), exGet2 (by decide +kernel) (exGet (by decide +kernel) (exGet' (by decide +kernel)))⟩,
    ⟨0, (nsS (tileS { fetchT [] with mem := someMem, pout := [entry (word 128 [(120, 3), (70, 0x3C0), (54, 8), (38, 33), (30, 1), (14, 40), (2, 6), (1, 1)])] })), exGet2 (by decide +kernel) (exGet (by decide +kernel) (exGet' (by decide +kernel)))⟩,
    ⟨0, (nsS (tileS { fetchT [] with mem := someMem, pout := [entry (word 128 [(120, 4), (70, 0x3C0), (54, 8), (38, 33), (30, 1), (14, 40), (2, 6), (0, 1)])] })), exGet2 (by decide +kernel) (exGet (by decide +kernel) (exGet' (by decide +kernel)))⟩,
    ⟨0, (nsS (tileS { fetchT [] with mem := someMem, pout := [entry (word 128 [(120, 5), (70, 0x3C0), (54, 1), (38, 4), (30, 0), (14, 4), (12, 1), (0, 77)])] })), exGet2 (by decide +kernel) (exGet (by decide +kernel) (⟨by decide +kernel, by decide +kernel⟩))⟩,
    ⟨0, (nsS (tileS { fetchT [] with pout := [entry (word 128 [(120, 0x10), (97, 127), (91, 5), (87, 3)])] })), exGet' (by decide +kernel)⟩,
    ⟨0, (nsS (tileS { fetchT [] with pout := [entry (word 128 [(120, 0x11), (92, 6), (85, 127), (79, 5), (75, 3)])] })), exGet2 (by decide +kernel) (exGet' (by decide +kernel))⟩,
    ⟨0, (nsS (tileS { fetchT [] with pin := [{ entry (word 128 [(120, 4), (70, 0x100), (65, 1), (32, 7), (16, 3)]) with lock := some 3, done := true }, entry (word 128 [(120, 5), (70, 0x3C0), (54, 8), (38, 33), (30, 1), (14, 40), (2, 6), (1, 1)])] })), ⟨by decide +kernel, ⟨_, _, rfl, by decide +kernel⟩⟩⟩,
    ⟨0, (nsS (tileS { fetchT [] with pout := [{ entry (word 128 [(120, 2), (70, 0x100), (65, 1), (32, 7), (16, 3)]) with lock := some 3, done := true }, entry (word 128 [(120, 4), (70, 0x3C0), (54, 8), (38, 33), (30, 1), (14, 40), (2, 6), (0, 1)])] })), ⟨by decide +kernel, ⟨_, _, rfl, by decide +kernel⟩⟩⟩,
    ⟨({ upS with mem := { upS.mem with nextActive := some (some 7) } }), exGet' (by decide +kernel)⟩,
    ⟨7, ({ upS with mem := { upS.mem with activeJob := some 7 } }), ⟨by decide +kernel, by decide +kernel⟩⟩,
    ⟨upS, by decide +kernel⟩,
    ⟨4, 0x0000000A#64, upS, ⟨by decide +kernel, ⟨by decide +kernel, by decide +kernel⟩⟩⟩,
    ⟨4, 0x000003FF#64, upS, ⟨by decide +kernel, ⟨by decide +kernel, by decide +kernel⟩⟩⟩⟩

set_option maxRecDepth 20000 in
theorem witness_BarrierCommandsComplete :
    (∃ (tile : Fin 128), ∃ (s : State), (running s = true) ∧ ((tileOf tile.val s).drained = true) ∧ ((tileOf tile.val s).hold = .drain .fence)) ∧
    (∃ (tile : Fin 128), ∃ (s : State), (running s = true) ∧ ((tileOf tile.val s).drained = true) ∧ ((tileOf tile.val s).left = false) ∧ ((tileOf tile.val s).hold = .drain .step)) ∧
    (∃ (tile : Fin 128), ∃ (s : State), (running s = true) ∧ ((tileOf tile.val s).drained = true) ∧ ∃ lr, (tileOf tile.val s).hold = .drain (.waypoint lr)) ∧
    (∃ (tile : Fin 128), ∃ k, ∃ (s : State), (running s = true) ∧ ((tileOf tile.val s).drained = true) ∧ (k = DrainKind.phase ∨ k = DrainKind.ending) ∧ ((tileOf tile.val s).hold = .drain k)) ∧
    (∃ (s : State), (running s = true) ∧ (allAtStep s = true) ∧ (s.tensor.region.waits = false) ∧ ∃ set, incomingSet s = some set ∧ (s.host.snoop = []) ∧ ((∀ b ∈ s.host.biOut, b.sweep = false)) ∧ ((s.tensor.region.left = 1 → s.tensor.region.next ≠ .bad ∧ s.tensor.region.next ≠ .lost))) ∧
    (∃ (s : State), ∃ e, ∃ j, ownerJob s = some (e, j) ∧ (running s = true) ∧ (s.tensor.region.next = .loading) ∧ (s.tensor.region.left ≠ 0) ∧ (s.tensor.region.waits = false)) :=
  ⟨⟨0, (tileS { fetchT [] with hold := .drain .fence, holdSig := some 5, cur := some { addr := 0x1000, units := 3, hdr := hdr 16 [], sync := none, loop := none, hasEngine := false, skipTo := none, waited := false } }), ⟨by decide +kernel, ⟨by decide +kernel, by decide +kernel⟩⟩⟩,
    ⟨0, (tileS { fetchT [] with hold := .drain .step }), ⟨by decide +kernel, ⟨by decide +kernel, ⟨by decide +kernel, by decide +kernel⟩⟩⟩⟩,
    ⟨0, (tileS { fetchT [] with hold := .drain (.waypoint 3) }), ⟨by decide +kernel, ⟨by decide +kernel, ⟨_, rfl⟩⟩⟩⟩,
    ⟨0, DrainKind.ending, (tileS { fetchT [] with hold := .drain .ending, left := true, holdSig := some 2 }), ⟨by decide +kernel, ⟨by decide +kernel, ⟨by decide +kernel, by decide +kernel⟩⟩⟩⟩,
    ⟨stepS, ⟨by decide +kernel, ⟨by decide +kernel, ⟨by decide +kernel, exGet (by decide +kernel) (⟨by decide +kernel, ⟨by decide +kernel, by decide +kernel⟩⟩)⟩⟩⟩⟩,
    ⟨(withRegion (fun r => { r with left := 2 }) (tileS (fetchT []))), exGet2 (by decide +kernel) (⟨by decide +kernel, ⟨by decide +kernel, ⟨by decide +kernel, by decide +kernel⟩⟩⟩)⟩⟩

set_option maxRecDepth 20000 in
theorem witness_JobCommandsComplete :
    (∃ tr, ∃ lib, ∃ (s : State), ∃ task, readyTask tr 0x50 s = some task ∧ ∃ d, ∃ hv, ∃ signed, ∃ s1, submitCheck (dPtr0 task.desc) lib (fun _ x => (none, x)) s = (.ok (d, hv, signed), s1) ∧ ∃ e, ∃ s2, admitJob tr task d hv signed s1 = .ok (e, s2)) ∧
    (∃ tr, ∃ (s : State), ∃ task, readyTask tr 0x51 s = some task ∧ ∃ e, ∃ j, findJob (cmdJobTag task) s = some (e, j) ∧ (ownerJob s = some (e, j)) ∧ (j.state = .running)) ∧
    (∃ tr, ∃ (s : State), ∃ task, readyTask tr 0x51 s = some task ∧ ∃ e, ∃ j, findJob (cmdJobTag task) s = some (e, j) ∧ (j.state ≠ .running) ∧ (j.state ≠ .saving) ∧ (j.state ≠ .restoring)) ∧
    (∃ tr, ∃ (s : State), ∃ task, readyTask tr 0x52 s = some task ∧ ∃ e, ∃ j, findJob (cmdJobTag task) s = some (e, j)) ∧
    (∃ tr, ∃ (s : State), ∃ task, readyTask tr 0x53 s = some task ∧ ∃ e, ∃ j, findJob (cmdJobTag task) s = some (e, j) ∧ (j.state ≠ .suspended)) ∧
    (∃ tr, ∃ (s : State), ∃ task, readyTask tr 0x54 s = some task ∧ ∃ e, ∃ j, findJob (cmdJobTag task) s = some (e, j) ∧ (j.state = .suspended)) ∧
    (∃ tr, ∃ (s : State), ∃ task, readyTask tr 0x55 s = some task ∧ ∃ e, ∃ j, findJob (cmdJobTag task) s = some (e, j)) ∧
    (∃ (s : State), ∃ e, ∃ j, ownerJob s = some (e, j) ∧ (j.state = .running) ∧ (jClass j.desc = 2)) ∧
    (∃ (tag : W32), ∃ (s : State), ∃ e, ∃ j, findJob tag.toNat s = some (e, j) ∧ (eligible j = true) ∧ (jClass j.desc = 2) ∧ (j.urgent = false)) ∧
    (∃ (s : State), ∃ e, ∃ j, ownerJob s = some (e, j) ∧ (j.state = .running) ∧ (j.urgent = true)) ∧
    (∃ (s : State), ∃ e, ∃ j, ownerJob s = some (e, j) ∧ (j.state = .running) ∧ (s.tensor.request = true) ∧ (s.tensor.late = false)) :=
  ⟨⟨70, (({keyMatches:=true,digestOk:=true,signatureOk:=true}:LibVerdict)), (withBytes (J + 0x300000) 128 (jobDesc []).toNat (taskS 0x50 [(64, J + 0x300000)] (tablesS upS))), exGet (by decide +kernel) (⟨_, _, _, _, rfl, ⟨_, _, rfl⟩⟩)⟩,
    ⟨70, (taskS 0x51 [(320, 1)] (tileS (fetchT []))), exGet (by decide +kernel) (exGet2 (by decide +kernel) (⟨by decide +kernel, by decide +kernel⟩))⟩,
    ⟨70, (taskS 0x51 [(320, 1)] (ownS { job0 with state := .exchanging } [])), exGet (by decide +kernel) (exGet2 (by decide +kernel) (⟨by decide +kernel, ⟨by decide +kernel, by decide +kernel⟩⟩))⟩,
    ⟨70, (taskS 0x52 [(320, 1)] (ownS { job0 with state := .parked } [])), exGet (by decide +kernel) (exGet2' (by decide +kernel))⟩,
    ⟨70, (taskS 0x53 [(320, 1)] (ownS { job0 with state := .exchanging } [])), exGet (by decide +kernel) (exGet2 (by decide +kernel) (by decide +kernel))⟩,
    ⟨70, (taskS 0x54 [(320, 1)] (ownS { job0 with state := .suspended, hasWp := false } [])), exGet (by decide +kernel) (exGet2 (by decide +kernel) (by decide +kernel))⟩,
    ⟨70, (taskS 0x55 [(320, 1)] (ownS { job0 with phase := 3 } [])), exGet (by decide +kernel) (exGet2' (by decide +kernel))⟩,
    ⟨(ownS { job0 with desc := word 1024 [(32, 2)] } []), exGet2 (by decide +kernel) (⟨by decide +kernel, by decide +kernel⟩)⟩,
    ⟨1#32, (ownS { job0 with desc := word 1024 [(32, 2)], state := .ready } []), exGet2 (by decide +kernel) (⟨by decide +kernel, ⟨by decide +kernel, by decide +kernel⟩⟩)⟩,
    ⟨(ownS { job0 with urgent := true } []), exGet2 (by decide +kernel) (⟨by decide +kernel, by decide +kernel⟩)⟩,
    ⟨({ ownS job0 [] with tensor := { (ownS job0 []).tensor with request := true } }), exGet2 (by decide +kernel) (⟨by decide +kernel, ⟨by decide +kernel, by decide +kernel⟩⟩)⟩⟩

set_option maxRecDepth 20000 in
theorem witness_SwitchCommandsComplete :
    (∃ (s : State), ∃ e, ∃ j, ownerJob s = some (e, j) ∧ (j.state = .saving) ∧ ∃ d, ∃ s1, lrDescriptor j j.lr s = (some d, s1) ∧ ∃ ranges, ∃ s2, lrRanges d s1 = (some ranges, s2) ∧ (j.abortPending = false) ∧ (j.drainPending = false) ∧ ∃ saves, saves = addSavedAll j.heldFlags ((List.range Config.tiles).map (fun t => (t, saveTile (tileOf t s)))) ∧ (saves.2 = false)) ∧
    (∃ (s : State), (s.tensor.switch = .clearing) ∧ (s.mem.activeJob = s.tensor.owner) ∧ (s.mem.nextActive = none)) ∧
    (∃ (s : State), ∃ e, ∃ j, ownerJob s = some (e, j) ∧ (s.tensor.switch = .loading) ∧ ∃ s1, loadTables e j s = .ok s1 ∧ ((j.hasWp = true ∨ sweepClear s1 = false))) ∧
    (∃ (s : State), ∃ e, ∃ j, ownerJob s = some (e, j) ∧ (s.tensor.switch = .loading) ∧ ∃ s1, loadTables e j s = .ok s1 ∧ (j.hasWp = false) ∧ (sweepClear s1 = true) ∧ (s.power.step ≠ 4)) ∧
    (∃ (s : State), ∃ e, ∃ j, ownerJob s = some (e, j) ∧ (s.tensor.switch = .restoring) ∧ (sweepClear s = true) ∧ (j.hasWp = false) ∧ (s.power.step ≠ 4)) ∧
    (∃ (s : State), ∃ e, ∃ j, ownerJob s = some (e, j) ∧ (s.tensor.switch = .restoring) ∧ (sweepClear s = true) ∧ (j.hasWp = true) ∧ ∃ d, ∃ s1, lrDescriptor j j.lr s = (some d, s1) ∧ ∃ ranges, ∃ s2, lrRanges d s1 = (some ranges, s2) ∧ ∃ s3, restoreRanges ranges (jSaveArea j.desc + 0x11000) s2 = some s3 ∧ (s.power.step ≠ 4)) ∧
    (∃ (tag : W32), ∃ (s : State), ∃ e, ∃ j, ∃ x, exchanging tag .barrier1 s = some (e, j, x) ∧ (barrierDone j s = true) ∧ ∃ pe, ∃ s2, phaseEntry j j.phase (setStage e .sending (dropBarrier j s)) = (some pe, s2) ∧ ∃ rs, ∃ n, ∃ outs, ∃ s3, readExchange j (peExchange pe) s2 = (.ok (rs, n, outs), s3) ∧ ∃ s4, sendOuts e j outs s3 = .ok s4) ∧
    (∃ (tag : W32), ∃ (s : State), ∃ e, ∃ j, ∃ x, exchanging tag .sending s = some (e, j, x) ∧ (jobOf e s = some j) ∧ (x.outstanding = 0) ∧ (x.inBytes ≤ x.landed) ∧ (treeOk j.root s = true) ∧ (heldOf (reduceKey (jFabricCtx j.desc) 4095) s = [])) ∧
    (∃ (tag : W32), ∃ (s : State), ∃ e, ∃ j, ∃ x, exchanging tag .barrier2 s = some (e, j, x) ∧ (jobOf e s = some j) ∧ (barrierDone j s = true) ∧ (j.drainPending = false)) ∧
    (∃ (tag : W32), ∃ (s : State), ∃ e, ∃ j, findJob tag.toNat s = some (e, j) ∧ (jobOf e s = some j) ∧ (j.state = .exchanging)) ∧
    (∃ (tag : W32), ∃ (s : State), ∃ e, ∃ j, ownerJob s = some (e, j) ∧ ∃ r, j.stop = some r ∧ (j.tag = tag.toNat) ∧ ((∀ p ∈ s.tensor.tiles, quiet s.tensor.caravans p.2 = true))) :=
  ⟨⟨(jobS (fun j => { j with state := .saving, heldFlags := [{ tile := 3, flag := 5, n := 2 }] })), exGet2 (by decide +kernel) (⟨by decide +kernel, ⟨_, _, rfl, ⟨_, _, rfl, ⟨by decide +kernel, ⟨by decide +kernel, ⟨_, rfl, by decide +kernel⟩⟩⟩⟩⟩⟩)⟩,
    ⟨({ jobS (fun j => { j with state := .ready }) with mem := { upS.mem with activeJob := some 0 }, tensor := { (jobS id).tensor with switch := .clearing } }), ⟨by decide +kernel, ⟨by decide +kernel, by decide +kernel⟩⟩⟩,
    load_waypoint_witness,
    load_fresh_witness,
    ⟨(swS .restoring (jobS (fun j => { j with state := .restoring }))), exGet2 (by decide +kernel) (⟨by decide +kernel, ⟨by decide +kernel, ⟨by decide +kernel, by decide +kernel⟩⟩⟩)⟩,
    ⟨(swS .restoring (jobS (fun j => { j with state := .restoring, hasWp := true }))), exGet2 (by decide +kernel) (⟨by decide +kernel, ⟨by decide +kernel, ⟨by decide +kernel, ⟨_, _, rfl, ⟨_, _, rfl, exGet (by decide +kernel) (by decide +kernel)⟩⟩⟩⟩⟩)⟩,
    ⟨1#32, ({ (jobS (fun j => { j with exchange := some { stage := .barrier1, inRanges := [], inBytes := 0, landed := 0, outstanding := 0, next := 1, kept := [] }, state := .exchanging })) with fabric := { upS.fabric with routes := [(0, word 64 [(48, 1)])], reductions := [(4095, { ctx := 0, rid := 4095, root := 0, fmt := 0, data := [], dest := none, owner := 0, barrier := true, combined := [0], written := [0] })] } }), exGet3 (by decide +kernel) (⟨by decide +kernel, ⟨_, _, rfl, ⟨_, _, _, _, rfl, exOk1' (by decide +kernel)⟩⟩⟩)⟩,
    ⟨1#32, ({ (jobS (fun j => { j with exchange := some { stage := .sending, inRanges := [], inBytes := 0, landed := 0, outstanding := 0, next := 1, kept := [] }, state := .exchanging })) with fabric := { upS.fabric with routes := [(0, word 64 [(48, 1)])] } }), exGet3 (by decide +kernel) (⟨by decide +kernel, ⟨by decide +kernel, ⟨by decide +kernel, ⟨by decide +kernel, by decide +kernel⟩⟩⟩⟩)⟩,
    ⟨1#32, ({ (jobS (fun j => { j with exchange := some { stage := .barrier2, inRanges := [], inBytes := 0, landed := 0, outstanding := 0, next := 1, kept := [] }, state := .exchanging })) with fabric := { upS.fabric with routes := [(0, word 64 [(48, 1)])], reductions := [(4095, { ctx := 0, rid := 4095, root := 0, fmt := 0, data := [], dest := none, owner := 0, barrier := true, combined := [0], written := [0] })] } }), exGet3 (by decide +kernel) (⟨by decide +kernel, ⟨by decide +kernel, by decide +kernel⟩⟩)⟩,
    ⟨1#32, (jobS (fun j => { j with exchange := some { stage := .sending, inRanges := [], inBytes := 0, landed := 0, outstanding := 0, next := 1, kept := [] }, state := .exchanging })), exGet2 (by decide +kernel) (⟨by decide +kernel, by decide +kernel⟩)⟩,
    ⟨1#32, (ownS { job0 with stop := some { cause := 1, status := 1, firstTile := 3, outsideWait := false, firstKind := 0, expired := 0, faultWord := 0, faultSlot := 0, dropped := 0, cycle := 0, at_ := 0 } } [(0, fetchT [])]), exGet2 (by decide +kernel) (exGet (by decide +kernel) (⟨by decide +kernel, by decide +kernel⟩))⟩⟩

set_option maxRecDepth 20000 in
theorem witness_EmbeddingCommandsComplete :
    (∃ tr, ∃ lib, ∃ (s : State), ∃ task, readyTask tr 0x40 s = some task ∧ (s.embed.bound = none) ∧ ∃ d, ∃ hv, ∃ signed, ∃ s1, submitCheck (dPtr0 task.desc) lib (bindCheck (dPtr1 task.desc)) s = (.ok (d, hv, signed), s1) ∧ ∃ e, ∃ s2, admitJob tr task d hv signed s1 = .ok (e, s2)) ∧
    (∃ tr, ∃ (list : List Byte), ∃ (s : State), ∃ task, readyTask tr 0x41 s = some task ∧ ∃ n, n = eCount task.desc ∧ (1 ≤ n) ∧ (n ≤ 4096) ∧ (eFmt task.desc ≠ 3) ∧ (dPtr0 task.desc % 32 = 0) ∧ (dPtr1 task.desc % 64 = 0) ∧ (32 * n ≤ dLen0 task.desc) ∧ (n * recordSize s.embed.model (eFmt task.desc) (eSketch task.desc) ≤ dLen1 task.desc) ∧ (embedServes s = true) ∧ ((∀ k < n, docOk (match s.embed.bound.bind (fun e => jobOf e s) with | some j => jNsGrant j.desc | none => 0) s (docOf tr k (leNat ((list.drop (32 * k)).take 32))) = true)) ∧ (s.embed.queue.length < Config.admissionQueue)) ∧
    (∃ tr, ∃ (s : State), ∃ task, readyTask tr 0x42 s = some task ∧ (embedServes s = true) ∧ ∃ k, ∃ c, s.embed.cmds.find? (fun p => match Tbl.look s.rings.tasks p.1 with | some x => dTag x.desc == dParam task.desc 351 320 && x.sq == dParam task.desc 359 352 | none => false) = some (k, c) ∧ (k ∈ s.embed.queue)) ∧
    (∃ tr, ∃ (s : State), ∃ task, readyTask tr 0x43 s = some task ∧ (embedServes s = true)) ∧
    (∃ (s : State), ∃ tr, s.embed.unbindTr = some tr ∧ (s.embed.ctxs = [])) ∧
    (∃ (s : State), ((s.embed.ctxs.filter (fun p => p.2.reading)).length < Config.stagingFlight) ∧ ∃ i, ∃ d, (byAdmit s).find? (fun p => !p.2.staged && !p.2.reading && p.2.fail == 0) = some (i, d)) ∧
    (∃ i, ∃ (s : State), ∃ d, Tbl.look s.embed.ctxs i = some d ∧ (d.reading = true)) ∧
    (∃ i, ∃ (s : State), ∃ d, Tbl.look s.embed.ctxs i = some d ∧ (d.reading = true)) ∧
    (∃ i, ∃ (s : State), ∃ d, Tbl.look s.embed.ctxs i = some d ∧ (d.reading = true)) ∧
    (∃ (s : State), (s.embed.boundary = .due)) ∧
    (∃ (s : State), ∃ k, s.embed.boundary = .waits k ∧ (insertRoom s = true)) ∧
    (∃ (s : State), (s.embed.boundary = .running) ∧ ∃ e, s.embed.bound = some e) :=
  ⟨⟨70, (({keyMatches:=true,digestOk:=true,signatureOk:=true}:LibVerdict)), bindS, exGet (by decide +kernel) (⟨by decide +kernel, ⟨_, _, _, _, rfl, ⟨_, _, rfl⟩⟩⟩)⟩,
    ⟨70, list0, (embS id (taskS 0x41 [(320, 1), (338, 1), (192, 32), (256, 1024), (64, 0x700000), (128, 0x710000)] (ownS job0 []))), exGet (by decide +kernel) (⟨_, rfl, ⟨by decide +kernel, ⟨by decide +kernel, ⟨by decide +kernel, ⟨by decide +kernel, ⟨by decide +kernel, ⟨by decide +kernel, ⟨by decide +kernel, ⟨by decide +kernel, ⟨by decide +kernel, by decide +kernel⟩⟩⟩⟩⟩⟩⟩⟩⟩⟩)⟩,
    ⟨70, (embS (fun e => { e with queue := [3], cmds := [(3, { docs := [doc0], outAddr := 0, hostFmt := 0, hostSketch := false, insert := false, left := 1, good := 0, bad := none })] }) (let x := taskS 0x42 [(320, 6), (352, 1)] (ownS job0 []); { x with rings := { x.rings with tasks := [(3, { sq := 1, order := 0, desc := desc 0x41 [(32, 6 - 5)], phase := .running, owes2 := false })] ++ x.rings.tasks } })), exGet (by decide +kernel) (⟨by decide +kernel, exGet2 (by decide +kernel) (by decide +kernel)⟩)⟩,
    ⟨70, (embS (fun e => { e with ctxs := [(4, doc0)] }) (taskS 0x43 [] (ownS job0 []))), exGet (by decide +kernel) (by decide +kernel)⟩,
    ⟨(embS (fun e => { e with unbindTr := some 70 }) (taskS 0x43 [] (ownS job0 []))), exGet (by decide +kernel) (by decide +kernel)⟩,
    ⟨(embS (fun e => { e with ctxs := [(4, doc0)] }) (ownS job0 [])), ⟨by decide +kernel, exGet2' (by decide +kernel)⟩⟩,
    ⟨4, (embS (fun e => { e with ctxs := [(4, { doc0 with reading := true })] }) (ownS job0 [])), exGet (by decide +kernel) (by decide +kernel)⟩,
    ⟨4, (embS (fun e => { e with ctxs := [(4, { doc0 with reading := true })] }) (ownS job0 [])), exGet (by decide +kernel) (by decide +kernel)⟩,
    ⟨4, (embS (fun e => { e with ctxs := [(4, { doc0 with reading := true })] }) (ownS job0 [])), exGet (by decide +kernel) (by decide +kernel)⟩,
    ⟨(embS (fun e => { e with boundary := .due, ctxs := [(4, { doc0 with running := true, staged := true })], slots := [(0, { ctx := 4, tokens := 20, last := true })], cmds := [(70, { docs := [doc0], outAddr := 0, hostFmt := 0, hostSketch := false, insert := true, left := 1, good := 0, bad := none })] }) (taskS 0x41 [] (ownS job0 []))), by decide +kernel⟩,
    ⟨(ralS id (embS (fun e => { e with boundary := .waits 0, ctxs := [(4, { doc0 with running := true, staged := true })], slots := [(0, { ctx := 4, tokens := 20, last := true })], cmds := [(70, { docs := [doc0], outAddr := 0, hostFmt := 0, hostSketch := false, insert := true, left := 1, good := 0, bad := none })] }) (taskS 0x41 [] (ownS job0 [])))), ⟨_, rfl, by decide +kernel⟩⟩,
    ⟨(embS (fun e => { e with boundary := .running }) (ownS job0 [])), ⟨by decide +kernel, exGet' (by decide +kernel)⟩⟩⟩

set_option maxRecDepth 20000 in
theorem witness_QueryCommandsComplete :
    (∃ tr, ∃ (s : State), ∃ task, readyTask tr 0x30 s = some task ∧ ∃ d, d = task.desc ∧ ((qEpochSel d = true → isCompl 24 (qEpoch d) (qEpochN d) = true ∧ inWindow (qEpoch d) s = true)) ∧ (queryFieldsOk d = true) ∧ ∃ i, s.ralid.index = some i ∧ (queryMin i ≤ dLen0 d) ∧ (resultMin d ≤ dLen1 d) ∧ (ralidServes s = true) ∧ ((qFanout d = true → s.ralid.shards ≠ []))) ∧
    (∃ (s : State), ∃ i, s.ralid.index = some i ∧ ∃ q, ∃ x, firstWaitingQuery s = some (q, x) ∧ (walkersOn s = true) ∧ ((∀ p, s.ralid.publish = some p → p.holds = false)) ∧ ((bestWalker s).2 < perWalker s) ∧ (epochsOk s = true) ∧ (inWindow (x.epoch.getD s.ralid.current.v) s = true) ∧ ∃ shards, shards = (if x.fanout then noRepeat s.ralid.shards else [s.fabric.id]) ∧ (s.fabric.id ∈ shards) ∧ ((checkReads [(adjAddr i.entry s, 8), (sketchAddr i i.entry s, sketchBytes i)] s).1 = true)) ∧
    (∃ (s : State), ∃ i, s.ralid.index = some i ∧ ∃ q, ∃ x, firstWaitingQuery s = some (q, x) ∧ (walkersOn s = true) ∧ ((∀ p, s.ralid.publish = some p → p.holds = false)) ∧ ((bestWalker s).2 < perWalker s) ∧ (epochsOk s = true) ∧ (inWindow (x.epoch.getD s.ralid.current.v) s = true) ∧ (x.fanout = true) ∧ (s.fabric.id ∉ s.ralid.shards)) ∧
    (∃ q, ∃ (s : State), ∃ i, s.ralid.index = some i ∧ ∃ x, Tbl.look s.ralid.queries q = some x ∧ (x.stage = .walking) ∧ (walkersOn s = true) ∧ ∃ c, firstUnexpanded x.queue = some c ∧ (x.expansions + 1 < x.maxExp) ∧ ∃ queue, ∃ s1, expandNode i (x.epoch.getD s.ralid.current.v) x.l x.sketch c.node x.queue s = (.grown queue, s1) ∧ ((firstUnexpanded queue).isSome = true)) ∧
    (∃ q, ∃ (s : State), ∃ i, s.ralid.index = some i ∧ ∃ x, Tbl.look s.ralid.queries q = some x ∧ (x.stage = .walking) ∧ (walkersOn s = true) ∧ (firstUnexpanded x.queue = none)) ∧
    (∃ q, ∃ (s : State), ∃ x, Tbl.look s.ralid.queries q = some x ∧ (x.stage = .ranking)) ∧
    (∃ q, ∃ (s : State), ∃ x, Tbl.look s.ralid.queries q = some x ∧ (x.stage ≠ .ranking) ∧ (x.stage ≠ .merging)) ∧
    (∃ q, ∃ (s : State), ∃ x, Tbl.look s.ralid.queries q = some x ∧ (x.fanout = true)) ∧
    (∃ q, ∃ (s : State), ∃ x, Tbl.look s.ralid.queries q = some x ∧ (x.stage = .held)) ∧
    (∃ (n : Fin 16), ∃ (s : State), ∃ p, headParcel n.val 7 s = some p ∧ (walkersOn s = true) ∧ (messageOk p = true) ∧ (1 < mSegs p) ∧ ((∀ x ∈ s.ralid.parts, x.1 ≠ phSrc p ∨ x.2.1 ≠ mId p))) ∧
    (∃ (n : Fin 16), ∃ (s : State), ∃ p, headParcel n.val 7 s = some p ∧ (walkersOn s = true) ∧ (messageOk p = true) ∧ ∃ mine, mine = (fun (x : Nat × Nat × Nat × Nat × List W64) => x.1 == phSrc p && x.2.1 == mId p) ∧ ∃ bytes, wholeMessage (mSegs p) (((s.ralid.parts ++ [(phSrc p, mId p, mSeg p, mSegs p, p.payload)]).filter mine).map (fun x => (x.2.2.1, x.2.2.2.2))) = some bytes ∧ (remoteWaiting s < Config.remoteWaiting)) ∧
    (∃ (n : Fin 16), ∃ (s : State), ∃ p, headParcel n.val 8 s = some p ∧ ∃ x, Tbl.look s.ralid.queries (mId p) = some x ∧ (messageOk p = true) ∧ (phSrc p ∈ x.expect) ∧ (phSrc p ≠ s.fabric.id) ∧ (wholeMessage (mSegs p) (((x.parts ++ [(phSrc p, mSeg p, mSegs p, p.payload)]).filter (fun y => y.1 == phSrc p)).map (fun y => (y.2.1, y.2.2.2))) = none)) ∧
    (∃ (n : Fin 16), ∃ (s : State), ∃ p, headParcel n.val 8 s = some p ∧ ∃ x, Tbl.look s.ralid.queries (mId p) = some x ∧ (messageOk p = true) ∧ (phSrc p ∈ x.expect) ∧ (phSrc p ≠ s.fabric.id) ∧ ∃ bytes, wholeMessage (mSegs p) (((x.parts ++ [(phSrc p, mSeg p, mSegs p, p.payload)]).filter (fun y => y.1 == phSrc p)).map (fun y => (y.2.1, y.2.2.2))) = some bytes ∧ ((∃ d ∈ x.expect, d ≠ phSrc p)) ∧ ((listOf (phSrc p) bytes).status ≠ 0x03)) ∧
    (∃ (n : Fin 16), ∃ (s : State), ∃ p, headParcel n.val 9 s = some p ∧ ∃ r, matchRequest p s = some r ∧ (phRsp p = 0)) ∧
    (∃ (n : Fin 16), ∃ (s : State), ∃ p, headParcel n.val 9 s = some p ∧ ∃ r, matchRequest p s = some r ∧ (phRsp p = 4) ∧ (r.resends < 2)) ∧
    (∃ (tag : BitVec 16), ∃ (s : State), ∃ r, Tbl.look s.fabric.reqs tag.toNat = some r) :=
  ⟨⟨70, (ralS id (taskS 0x30 [(192, 0x420), (256, 0x200), (320, 2), (364, 500), (64, 0x600000), (128, 0x610000)] upS)), exGet (by decide +kernel) (⟨_, rfl, ⟨by decide +kernel, ⟨by decide +kernel, exGet (by decide +kernel) (⟨by decide +kernel, ⟨by decide +kernel, ⟨by decide +kernel, by decide +kernel⟩⟩⟩)⟩⟩⟩)⟩,
    ⟨(ralS (fun r => { r with queries := [(5, { query0 with fanout := true })] }) upS), exGet (by decide +kernel) (exGet2 (by decide +kernel) (⟨by decide +kernel, ⟨by decide +kernel, ⟨by decide +kernel, ⟨by decide +kernel, ⟨by decide +kernel, ⟨_, rfl, ⟨by decide +kernel, by decide +kernel⟩⟩⟩⟩⟩⟩⟩))⟩,
    ⟨(ralS (fun r => { r with shards := [6, 7], queries := [(5, { query0 with fanout := true })] }) upS), exGet (by decide +kernel) (exGet2 (by decide +kernel) (⟨by decide +kernel, ⟨by decide +kernel, ⟨by decide +kernel, ⟨by decide +kernel, ⟨by decide +kernel, ⟨by decide +kernel, by decide +kernel⟩⟩⟩⟩⟩⟩))⟩,
    ⟨5, (ralS (fun r => { r with queries := [(5, { query0 with stage := .walking, walker := some 0, epoch := some 0, queue := [{ node := 0, dist := 3, birth := 0, death := 0xFFFFFF, tomb := false, expanded := false }] })] }) upS), exGet (by decide +kernel) (exGet (by decide +kernel) (⟨by decide +kernel, ⟨by decide +kernel, exGet (by decide +kernel) (⟨by decide +kernel, ⟨_, _, rfl, by decide +kernel⟩⟩)⟩⟩))⟩,
    ⟨5, (ralS (fun r => { r with queries := [(5, { query0 with stage := .walking, walker := some 0, epoch := some 0, queue := [{ node := 0, dist := 3, birth := 0, death := 0xFFFFFF, tomb := false, expanded := true }] })] }) (taskS 0x30 [] upS)), exGet (by decide +kernel) (exGet (by decide +kernel) (⟨by decide +kernel, ⟨by decide +kernel, by decide +kernel⟩⟩))⟩,
    ⟨5, (ralS (fun r => { r with queries := [(5, { query0 with stage := .ranking, walker := some 0, epoch := some 0, ranks := [{ node := 0, dist := 3, st := .reading true }] })] }) (taskS 0x30 [] upS)), exGet (by decide +kernel) (by decide +kernel)⟩,
    ⟨5, (ralS (fun r => { r with queries := [(5, query0)] }) upS), exGet (by decide +kernel) (⟨by decide +kernel, by decide +kernel⟩)⟩,
    ⟨5, (ralS (fun r => { r with queries := [(5, { query0 with fanout := true, stage := .ranking, walker := some 3, expect := [6] })] }) (taskS 0x30 [] upS)), exGet (by decide +kernel) (by decide +kernel)⟩,
    ⟨5, (ralS (fun r => { r with queries := [(5, { query0 with stage := .held, origin := .shard 6 9 })] }) upS), exGet (by decide +kernel) (by decide +kernel)⟩,
    ⟨3, (portS [parcel 7 (List.replicate 128 0#64) [(228, 6), (110, 9), (106, 1), (102, 3)]] (ralS id upS)), exGet (by decide +kernel) (⟨by decide +kernel, ⟨by decide +kernel, ⟨by decide +kernel, by decide +kernel⟩⟩⟩)⟩,
    ⟨3, (portS [parcel 7 (List.replicate 12 0#64) [(228, 6), (110, 9), (106, 0), (102, 1)]] (ralS id upS)), exGet (by decide +kernel) (⟨by decide +kernel, ⟨by decide +kernel, ⟨_, rfl, exGet (by decide +kernel) (by decide +kernel)⟩⟩⟩)⟩,
    ⟨3, (portS [parcel 8 (List.replicate 12 0#64) [(228, 6), (110, 5), (106, 0), (102, 3)]] (ralS (fun r => { r with queries := [(5, { query0 with stage := .merging, fanout := true, expect := [6, 7] })] }) upS)), exGet (by decide +kernel) (exGet (by decide +kernel) (⟨by decide +kernel, ⟨by decide +kernel, ⟨by decide +kernel, by decide +kernel⟩⟩⟩))⟩,
    ⟨3, (portS [parcel 8 (List.replicate 12 0#64) [(228, 6), (110, 5), (106, 0), (102, 1)]] (ralS (fun r => { r with queries := [(5, { query0 with stage := .merging, fanout := true, expect := [6, 7] })] }) upS)), exGet (by decide +kernel) (exGet (by decide +kernel) (⟨by decide +kernel, ⟨by decide +kernel, ⟨by decide +kernel, exGet (by decide +kernel) (⟨by decide +kernel, by decide +kernel⟩)⟩⟩⟩))⟩,
    ⟨3, (portS [parcel 9 [] [(228, 6), (192, 9)]] { upS with fabric := { upS.fabric with reqs := [(9, { parcel := parcel 1 [] [(240, 6)], for_ := .reduce 5, resends := 0 })] } }), exGet (by decide +kernel) (exGet (by decide +kernel) (by decide +kernel))⟩,
    ⟨3, (portS [parcel 9 [] [(228, 6), (192, 9), (64, 4)]] { upS with fabric := { upS.fabric with reqs := [(9, { parcel := parcel 1 [] [(240, 6)], for_ := .exchange 0, resends := 0 })] } }), exGet (by decide +kernel) (exGet (by decide +kernel) (⟨by decide +kernel, by decide +kernel⟩))⟩,
    ⟨9#16, ({ upS with fabric := { upS.fabric with reqs := [(9, { parcel := parcel 1 [] [(240, 6)], for_ := .reduce 5, resends := 0 })] } }), exGet' (by decide +kernel)⟩⟩

set_option maxRecDepth 20000 in
theorem witness_RalidCommandsComplete :
    (∃ tr, ∃ (s : State), ∃ task, readyTask tr 0x31 s = some task ∧ ∃ i, s.ralid.index = some i ∧ (ralidServes s = true) ∧ (vecBytes i.dims + sketchBytes i ≤ dLen0 task.desc) ∧ (insertRoom s = true) ∧ ∃ n, i.lowestFree = some n) ∧
    (∃ n, ∃ (s : State), ∃ i, s.ralid.index = some i ∧ ∃ r, Tbl.look s.ralid.inserts n = some r ∧ (r.vector = [])) ∧
    (∃ tr, ∃ (s : State), ∃ task, readyTask tr 0x32 s = some task ∧ (dByNode task.desc = true) ∧ (ralidServes s = true) ∧ ∃ i, s.ralid.index = some i ∧ (dNode task.desc < i.capacity) ∧ (keyOf (dNode task.desc) s = dKey task.desc) ∧ (i.has (dNode task.desc) = true) ∧ (rDeath (recordOf (dNode task.desc) s) = noDeath)) ∧
    (∃ tr, ∃ (s : State), ∃ task, readyTask tr 0x32 s = some task ∧ (dByNode task.desc = false) ∧ (dNode task.desc = 0) ∧ (ralidServes s = true) ∧ (s.ralid.staged.length + ((s.ralid.publish.map (·.keys.length)).getD 0) < Config.stagedKeys)) ∧
    (∃ tr, ∃ (s : State), ∃ task, readyTask tr 0x33 s = some task ∧ ∃ d, d = task.desc ∧ (isCompl 24 (pEpoch d) (pEpochN d) = true) ∧ (isCompl 24 (pFloor d) (pFloorN d) = true) ∧ (ralidServes s = true) ∧ (s.ralid.publish = none) ∧ (s.ralid.attach = none) ∧ (epochsOk s = true) ∧ (pEpoch d = s.ralid.open_.v) ∧ (s.ralid.floor.v ≤ pFloor d) ∧ (pFloor d ≤ pEpoch d) ∧ ((pCompact d = true → pFloor d = pEpoch d)) ∧ (pEpoch d ≠ 0xFFFFFE)) ∧
    (∃ (s : State), ∃ p, s.ralid.publish = some p ∧ ∃ i, s.ralid.index = some i ∧ (p.holds = false) ∧ ((∀ x ∈ s.ralid.inserts, p.epoch < x.2.birth)) ∧ (epochsOk s = true) ∧ (p.compact = true)) ∧
    (∃ (s : State), ∃ p, s.ralid.publish = some p ∧ ∃ i, s.ralid.index = some i ∧ (p.holds = false) ∧ ((∀ x ∈ s.ralid.inserts, p.epoch < x.2.birth)) ∧ (epochsOk s = true) ∧ (p.compact = false)) ∧
    (∃ (s : State), ∃ p, s.ralid.publish = some p ∧ ∃ i, s.ralid.index = some i ∧ (p.holds = true) ∧ ((∀ q ∈ s.ralid.queries, q.2.walker.isSome = true → p.epoch ≤ q.2.epoch.getD 0))) ∧
    (∃ (s : State), ∃ i, s.ralid.index = some i ∧ ∃ ds, s.ralid.pass = some ds) ∧
    (∃ (s : State), ∃ ds, s.ralid.pass = some ds) ∧
    (∃ tr, ∃ (s : State), ∃ task, readyTask tr 0x34 s = some task ∧ (s.ralid.index = none) ∧ (s.ralid.attach = none) ∧ ∃ x, nsFind (dParam task.desc 324 320 + 1) s = some x ∧ (dParam task.desc 357 325 < x.blocks / 4) ∧ ∃ bytes, ∃ s1, readUnit (x.base + dParam task.desc 357 325) 0 s = (some bytes, s1) ∧ ∃ h, h = leNat (bytes.take 64) ∧ (isCompl 24 (hEpoch h) (hEpochN h) = true) ∧ (headerOk h (x.blocks / 4 - dParam task.desc 357 325) = true) ∧ (hCount h ≤ nodeCapacity (hSketchSel h) s1) ∧ ((hCount h + vecsPerUnit (hDims h) - 1) / vecsPerUnit (hDims h) ≤ ((nsFind (hVecNs h + 1) s1).map (fun n => n.blocks / 4)).getD 0) ∧ ((nodeCapacity (hSketchSel h) s1 + 4 * 2 ^ 20 - 1) / (4 * 2 ^ 20) + 64 ≤ bits s1.ralid.logReg.toNat 63 48)) ∧
    (∃ (s : State), ∃ a, s.ralid.attach = some a ∧ ∃ s1, copyImage a (setRalid { s.ralid with attach := none } s) = (true, s1)) ∧
    (∃ (r : MediaResult), ∃ (s : State), ∃ a, s.ralid.attach = some a ∧ (r ≠ .ok)) ∧
    (∃ tr, ∃ (s : State), ∃ task, readyTask tr 0x35 s = some task ∧ (ralidServes s = true)) ∧
    (∃ (s : State), ∃ tr, s.ralid.detach = some tr ∧ (ralidBusy s = false) ∧ (s.ralid.publish = none)) ∧
    (∃ (s : State), (regWorks 7 false s = true) ∧ (s.ralid.index = none)) ∧
    (∃ (s : State), (regWorks 7 false s = true) ∧ (s.ralid.index = none)) ∧
    (∃ (s : State), (regWorks 7 false s = true)) :=
  ⟨⟨70, (ralS id (taskS 0x31 [(192, 0x420), (224, 0)] upS)), exGet (by decide +kernel) (exGet (by decide +kernel) (⟨by decide +kernel, ⟨by decide +kernel, ⟨by decide +kernel, exGet' (by decide +kernel)⟩⟩⟩))⟩,
    ⟨2, (ralS (fun r => { r with inserts := [(2, { tr := none, birth := 1, near := [0, 1, 3], vector := [] })] }) (taskS 0x31 [] upS)), exGet (by decide +kernel) (exGet (by decide +kernel) (by decide +kernel))⟩,
    ⟨70, (ralS id (taskS 0x32 [(415, 1), (384, 3)] upS)), exGet (by decide +kernel) (⟨by decide +kernel, ⟨by decide +kernel, exGet (by decide +kernel) (⟨by decide +kernel, ⟨by decide +kernel, ⟨by decide +kernel, by decide +kernel⟩⟩⟩)⟩⟩)⟩,
    ⟨70, (ralS id (taskS 0x32 [(320, 99)] upS)), exGet (by decide +kernel) (⟨by decide +kernel, ⟨by decide +kernel, ⟨by decide +kernel, by decide +kernel⟩⟩⟩)⟩,
    ⟨70, (ralS (fun r => { r with staged := [7] }) (taskS 0x33 [(320, 1), (344, 0xFFFFFE), (368, 1), (392, 0xFFFFFF - 1), (416, 1)] upS)), exGet (by decide +kernel) (⟨_, rfl, ⟨by decide +kernel, ⟨by decide +kernel, ⟨by decide +kernel, ⟨by decide +kernel, ⟨by decide +kernel, ⟨by decide +kernel, ⟨by decide +kernel, ⟨by decide +kernel, ⟨by decide +kernel, ⟨by decide +kernel, by decide +kernel⟩⟩⟩⟩⟩⟩⟩⟩⟩⟩⟩)⟩,
    ⟨(ralS (fun r => { r with publish := some { tr := 70, epoch := 1, floor := 1, compact := true, keys := [0], holds := false } }) (taskS 0x33 [] upS)), exGet (by decide +kernel) (exGet (by decide +kernel) (⟨by decide +kernel, ⟨by decide +kernel, ⟨by decide +kernel, by decide +kernel⟩⟩⟩))⟩,
    ⟨(ralS (fun r => { r with publish := some { tr := 70, epoch := 1, floor := 0, compact := false, keys := [0], holds := false } }) (taskS 0x33 [] upS)), exGet (by decide +kernel) (exGet (by decide +kernel) (⟨by decide +kernel, ⟨by decide +kernel, ⟨by decide +kernel, by decide +kernel⟩⟩⟩))⟩,
    ⟨(ralS (fun r => { r with log := [.reverse 1 2, .repair 0 1 (some 2)], covered := some [1], publish := some { tr := 70, epoch := 1, floor := 1, compact := true, keys := [], holds := true } }) (taskS 0x33 [] upS)), exGet (by decide +kernel) (exGet (by decide +kernel) (⟨by decide +kernel, by decide +kernel⟩))⟩,
    ⟨(ralS (fun r => { r with pass := some [1] }) upS), exGet (by decide +kernel) (exGet' (by decide +kernel))⟩,
    ⟨(ralS (fun r => { r with pass := some [1] }) upS), exGet' (by decide +kernel)⟩,
    ⟨70, (attS (taskS 0x34 [(320, 1), (325, 0)] upS)), exGet (by decide +kernel) (⟨by decide +kernel, ⟨by decide +kernel, exGet (by decide +kernel) (⟨by decide +kernel, ⟨_, _, rfl, ⟨_, rfl, ⟨by decide +kernel, ⟨by decide +kernel, ⟨by decide +kernel, ⟨by decide +kernel, by decide +kernel⟩⟩⟩⟩⟩⟩⟩)⟩⟩)⟩,
    ⟨(let x := attS (taskS 0x34 [] upS); { x with ralid := { x.ralid with attach := some { tr := 70, header := attH.toNat, base := 1000 } } }), exGet (by decide +kernel) (exTrue (by decide +kernel))⟩,
    ⟨MediaResult.unrecoverable, ({ taskS 0x34 [] upS with ralid := { upS.ralid with attach := some { tr := 70, header := attH.toNat, base := 1000 } } }), exGet (by decide +kernel) (by decide +kernel)⟩,
    ⟨70, (ralS id (taskS 0x35 [] upS)), exGet (by decide +kernel) (by decide +kernel)⟩,
    ⟨(ralS (fun r => { r with detach := some 70 }) (taskS 0x35 [] upS)), exGet (by decide +kernel) (⟨by decide +kernel, by decide +kernel⟩)⟩,
    ⟨upS, ⟨by decide +kernel, by decide +kernel⟩⟩,
    ⟨upS, ⟨by decide +kernel, by decide +kernel⟩⟩,
    ⟨upS, by decide +kernel⟩⟩

set_option maxRecDepth 20000 in
theorem witness_CellarCommandsComplete :
    (∃ (p : Fin 32), ∃ (s : State), ∃ c, nextClass p.val s = some c ∧ ∃ n, ∃ r, firstWaiting p.val c s = some (n, r)) ∧
    (∃ n, ∃ (o : PageOutcome), ∃ (s : State), ∃ r, Tbl.look s.mem.cellar n = some r ∧ ∃ sb, ∃ off, r.place = .flash sb off ∧ (r.issued = true) ∧ (r.result = none) ∧ ∃ tile, ∃ inb, ∃ entry, ∃ addr, ∃ fua, r.for_ = .slot tile inb entry addr fua ∧ (o.busError = false)) ∧
    (∃ n, ∃ (o : PageOutcome), ∃ (s : State), ∃ r, Tbl.look s.mem.cellar n = some r ∧ ∃ sb, ∃ off, r.place = .flash sb off ∧ (r.issued = true) ∧ (r.result = none) ∧ ∃ tile, ∃ inb, ∃ entry, ∃ addr, ∃ fua, r.for_ = .slot tile inb entry addr fua ∧ (o.busError = true)) ∧
    (∃ n, ∃ (s : State), (n < s.mem.cellarNext) ∧ ∃ r, Tbl.look s.mem.cellar n = some r ∧ ∃ sb, ∃ off, r.place = .flash sb off ∧ (r.issued = true) ∧ (r.result = none) ∧ ∃ tr, r.for_ = .command tr) ∧
    (∃ n, ∃ (s : State), ∃ r, Tbl.look s.mem.cellar n = some r ∧ ∃ tile, ∃ entry, ∃ addr, ∃ fua, r.for_ = .slot tile true entry addr fua ∧ ∃ lost, r.result = some (.read lost) ∧ ((hostClear true [(addr, 16384)] s).1 = true) ∧ ∃ bytes, ∃ s1, readUnit r.index lost s = (some bytes, s1) ∧ (addr % 8 = 0) ∧ (bytes.length % 8 = 0)) ∧
    (∃ n, ∃ (s : State), ∃ r, Tbl.look s.mem.cellar n = some r ∧ ∃ q, ∃ node, r.for_ = .rerank q node ∧ (r.issued = true)) ∧
    (∃ n, ∃ (s : State), (n < s.mem.cellarNext) ∧ ∃ r, Tbl.look s.mem.cellar n = some r ∧ ∃ q, ∃ node, r.for_ = .rerank q node ∧ (r.issued = false)) :=
  ⟨⟨3, (cellS ({ porter := 3, cls := 4, index := 1000, place := .flash 8 0, for_ := .slot 0 true 0 0x4000 false, issued := false, again := false, late := false, result := none })), exGet (by decide +kernel) (exGet2' (by decide +kernel))⟩,
    ⟨5, (({steps:=[some 0,none],busError:=false}:PageOutcome)), (cellS ({ porter := 3, cls := 4, index := 1000, place := .flash 8 0, for_ := .slot 0 true 0 0x4000 false, issued := true, again := false, late := false, result := none })), exGet (by decide +kernel) (⟨_, _, rfl, ⟨by decide +kernel, ⟨by decide +kernel, ⟨_, _, _, _, _, rfl, by decide +kernel⟩⟩⟩⟩)⟩,
    ⟨5, (({steps:=[some 0,none],busError:=true}:PageOutcome)), (cellS ({ porter := 3, cls := 4, index := 1000, place := .flash 8 0, for_ := .slot 0 true 0 0x4000 false, issued := true, again := false, late := false, result := none })), exGet (by decide +kernel) (⟨_, _, rfl, ⟨by decide +kernel, ⟨by decide +kernel, ⟨_, _, _, _, _, rfl, by decide +kernel⟩⟩⟩⟩)⟩,
    ⟨5, (cellS ({ porter := 3, cls := 4, index := 1000, place := .flash 8 0, for_ := .command 70, issued := true, again := false, late := false, result := none })), ⟨by decide +kernel, exGet (by decide +kernel) (⟨_, _, rfl, ⟨by decide +kernel, ⟨by decide +kernel, ⟨_, rfl⟩⟩⟩⟩)⟩⟩,
    ⟨5, (cellS ({ porter := 3, cls := 4, index := 1000, place := .flash 8 0, for_ := .slot 0 true 0 0x4000 false, issued := true, again := false, late := false, result := some (.read 0) })), exGet (by decide +kernel) (⟨_, _, _, _, rfl, ⟨_, rfl, ⟨by decide +kernel, ⟨_, _, rfl, ⟨by decide +kernel, by decide +kernel⟩⟩⟩⟩⟩)⟩,
    ⟨5, (cellS ({ porter := 3, cls := 4, index := 1000, place := .flash 8 0, for_ := .rerank 3 7, issued := true, again := false, late := false, result := none })), exGet (by decide +kernel) (⟨_, _, rfl, by decide +kernel⟩)⟩,
    ⟨5, (cellS ({ porter := 3, cls := 4, index := 1000, place := .flash 8 0, for_ := .rerank 3 7, issued := false, again := false, late := false, result := none })), ⟨by decide +kernel, exGet (by decide +kernel) (⟨_, _, rfl, by decide +kernel⟩)⟩⟩⟩

set_option maxRecDepth 20000 in
theorem witness_PortCommandsComplete :
    (∃ (n : Fin 16), ∃ (s : State), (regWorks 8 false s = true) ∧ (fabricReleased s = true) ∧ ((portOf n.val s).state = 0)) ∧
    (∃ (n : Fin 16), ∃ (s : State), (regWorks 8 false s = true) ∧ (portLinked (portOf n.val s) = false)) ∧
    (∃ (n : Fin 16), ∃ (s : State), (regWorks 8 false s = true) ∧ (portLinked (portOf n.val s) = true)) ∧
    (∃ (n : Fin 16), ∃ (s : State), (regWorks 8 false s = true) ∧ (fabricReleased s = true) ∧ ((portOf n.val s).enable = true) ∧ ((portOf n.val s).laserWait = false)) ∧
    (∃ (n : Fin 16), ∃ (s : State), ((portOf n.val s).state = 1)) ∧
    (∃ (n : Fin 16), ∃ (s : State), ((portOf n.val s).state = 2)) ∧
    (∃ (n : Fin 16), ∃ (s : State), ((portOf n.val s).state = 3)) ∧
    (∃ (n : Fin 16), ∃ (p : PeerInfo), ∃ (s : State), ((portOf n.val s).state = 4) ∧ (p.dev.toNat ≠ s.fabric.id) ∧ ∃ set, set = laneSet (portOf n.val s).healthy p.quads.toNat (min (laneCap (portOf n.val s).maxLanes) (laneCap p.maxLanes.toNat)) ∧ (2 ≤ set.length)) ∧
    (∃ (n : Fin 16), ∃ (p : PeerInfo), ∃ (s : State), ((portOf n.val s).state = 4) ∧ ((p.dev.toNat = s.fabric.id ∨ (laneSet (portOf n.val s).healthy p.quads.toNat (min (laneCap (portOf n.val s).maxLanes) (laneCap p.maxLanes.toNat))).length < 2))) ∧
    (∃ (n : Fin 16), ∃ (s : State), (1 ≤ (portOf n.val s).state) ∧ ((portOf n.val s).state ≤ 4)) ∧
    (∃ (n : Fin 16), ∃ (s : State), ((portOf n.val s).state = 6) ∧ ((portOf n.val s).enable = true) ∧ ((portOf n.val s).laserWait = false)) ∧
    (∃ (n : Fin 16), ∃ (k : Fin 4), ∃ (s : State), ((portOf n.val s).state = 5) ∧ (bit (portOf n.val s).quads k.val = true)) ∧
    (∃ (n : Fin 16), ∃ (k : Fin 4), ∃ (s : State), ((portOf n.val s).state = 7) ∧ (bit (portOf n.val s).quads k.val = true)) ∧
    (∃ (n : Fin 16), ∃ (s : State), ((portOf n.val s).state = 7)) ∧
    (∃ (n : Fin 16), ∃ (p : PeerInfo), ∃ (s : State), ((portOf n.val s).state = 7) ∧ ∃ mine, mine = (List.range 4).foldl (fun m i => if bit (portOf n.val s).quads i && bit (portOf n.val s).healthy i then m + 2 ^ i else m) 0 ∧ ∃ set, set = laneSet mine p.quads.toNat (min (laneCap (portOf n.val s).maxLanes) (laneCap p.maxLanes.toNat)) ∧ (2 ≤ set.length)) ∧
    (∃ (n : Fin 16), ∃ (s : State), (portLinked (portOf n.val s) = true)) :=
  ⟨⟨3, (pS (fun q => { q with state := 0, enable := false }) upS), ⟨by decide +kernel, ⟨by decide +kernel, by decide +kernel⟩⟩⟩,
    ⟨3, (pS (fun q => { q with state := 6 }) upS), ⟨by decide +kernel, by decide +kernel⟩⟩,
    ⟨3, (pS (fun q => { q with state := 7, replay := [sent 1] }) upS), ⟨by decide +kernel, by decide +kernel⟩⟩,
    ⟨3, (pS (fun q => { q with state := 5, replay := [sent 1] }) upS), ⟨by decide +kernel, ⟨by decide +kernel, ⟨by decide +kernel, by decide +kernel⟩⟩⟩⟩,
    ⟨3, (pS (fun q => { q with state := 1 }) upS), by decide +kernel⟩,
    ⟨3, (pS (fun q => { q with state := 2 }) upS), by decide +kernel⟩,
    ⟨3, (pS (fun q => { q with state := 3 }) upS), by decide +kernel⟩,
    ⟨3, (peer 6), (pS (fun q => { q with state := 4, attempts := 3, maxLanes := 2 }) upS), ⟨by decide +kernel, ⟨by decide +kernel, ⟨_, rfl, by decide +kernel⟩⟩⟩⟩,
    ⟨3, ({ peer 15 with dev := 0 }), (pS (fun q => { q with state := 4 }) upS), ⟨by decide +kernel, by decide +kernel⟩⟩,
    ⟨3, (pS (fun q => { q with state := 4 }) upS), ⟨by decide +kernel, by decide +kernel⟩⟩,
    ⟨3, (pS (fun q => { q with state := 6 }) upS), ⟨by decide +kernel, ⟨by decide +kernel, by decide +kernel⟩⟩⟩,
    ⟨3, 2, (pS id upS), ⟨by decide +kernel, by decide +kernel⟩⟩,
    ⟨3, 1, (pS (fun q => { q with state := 7, healthy := 13 }) upS), ⟨by decide +kernel, by decide +kernel⟩⟩,
    ⟨3, (pS (fun q => { q with state := 7, healthy := 13 }) upS), by decide +kernel⟩,
    ⟨3, (peer 13), (pS (fun q => { q with state := 7, healthy := 13, replay := [sent 1] }) upS), ⟨by decide +kernel, ⟨_, rfl, ⟨_, rfl, by decide +kernel⟩⟩⟩⟩,
    ⟨3, (pS (fun q => { q with replay := [sent 1], txSeq := 2 }) upS), by decide +kernel⟩⟩

set_option maxRecDepth 20000 in
theorem witness_FlitCommandsComplete :
    (∃ (n : Fin 16), ∃ f, ∃ (s : State), ((portOf n.val s).state = 5) ∧ (f.fecOk = true) ∧ (badWords f = 0) ∧ (fhKind (flitHeader f) = 1) ∧ (fhVc (flitHeader f) ≠ 3) ∧ (fhSeq (flitHeader f) = (portOf n.val s).rxSeq)) ∧
    (∃ (n : Fin 16), ∃ f, ∃ (s : State), ((portOf n.val s).state = 5) ∧ ((portOf n.val s).rxWait = false) ∧ ((f.fecOk = false ∨ badWords f ≠ 0 ∨ fhKind (flitHeader f) ≠ 1 ∨ fhVc (flitHeader f) = 3 ∨ fhSeq (flitHeader f) ≠ (portOf n.val s).rxSeq))) ∧
    (∃ (n : Fin 16), ∃ f, ∃ (s : State), ((portOf n.val s).state = 5) ∧ (f.fecOk = true) ∧ (w72Syndrome (flitWord f 0) = 0) ∧ (fhKind (flitHeader f) = 0)) ∧
    (∃ (n : Fin 16), ∃ f, ∃ (s : State), ((portOf n.val s).state = 5) ∧ (f.fecOk = true) ∧ (w72Syndrome (flitWord f 0) = 0) ∧ (fhKind (flitHeader f) = 2) ∧ ∃ x, ∃ rest, ((portOf n.val s).acked (fhAck (flitHeader f))).replay = x :: rest) ∧
    (∃ (n : Fin 16), ∃ (s : State), ((portOf n.val s).state = 5) ∧ (0 < (portOf n.val s).rxSince)) ∧
    (∃ (n : Fin 16), ∃ (v : Fin 3), ∃ (s : State), ((portOf n.val s).state = 5) ∧ (0 < ((portOf n.val s).tx v.val).credits) ∧ ((((portOf n.val s).tx v.val).queue ≠ [] ∨ ((portOf n.val s).tx v.val).rest ≠ [])) ∧ ((portOf n.val s).replay.length < Config.replayFlits)) ∧
    (∃ (s : State), (regWorks 8 false s = true) ∧ ((∀ p < 16, (portOf p s).state = 0))) ∧
    (∃ p, ∃ (s : State), (regWorks 8 false s = true) ∧ (p < 16) ∧ ((portOf p s).state ≠ 0)) ∧
    (∃ (s : State), (regWorks 8 false s = true)) :=
  ⟨⟨3, (flit [(52, 5), (38, 1), (31, 1)] ((List.range 4).map (fun i => (parcel 1 [7#64, 8#64] [(240, 0)]).header.extractLsb' (64 * i) 64) ++ [7#64, 8#64])), (pS (fun q => { q with rxSeq := 5 }) upS), ⟨by decide +kernel, ⟨by decide +kernel, ⟨by decide +kernel, ⟨by decide +kernel, ⟨by decide +kernel, by decide +kernel⟩⟩⟩⟩⟩⟩,
    ⟨3, (flit [(52, 5), (38, 1), (36, 3)] []), (pS (fun q => { q with rxSeq := 5 }) upS), ⟨by decide +kernel, ⟨by decide +kernel, by decide +kernel⟩⟩⟩,
    ⟨3, (flit [(40, 3), (38, 0), (20, 4), (10, 5), (0, 6)] []), (pS (fun q => { q with replay := [sent 2, sent 4] }) upS), ⟨by decide +kernel, ⟨by decide +kernel, ⟨by decide +kernel, by decide +kernel⟩⟩⟩⟩,
    ⟨3, (flit [(40, 3), (38, 2)] []), (pS (fun q => { q with replays := 0, replay := [sent 4] }) upS), ⟨by decide +kernel, ⟨by decide +kernel, ⟨by decide +kernel, ⟨by decide +kernel, ⟨_, _, rfl⟩⟩⟩⟩⟩⟩,
    ⟨3, (pS (fun q => { q with rxSince := 4 }) upS), ⟨by decide +kernel, by decide +kernel⟩⟩,
    ⟨3, 2, (pS (fun q => { q with txSeq := 4095, txRed := { queue := [parcel 9 [] []], rest := [], credits := 2, owed := 0 } }) upS), ⟨by decide +kernel, ⟨by decide +kernel, ⟨by decide +kernel, by decide +kernel⟩⟩⟩⟩,
    ⟨upS, ⟨by decide +kernel, by decide +kernel⟩⟩,
    ⟨3, (pS id upS), ⟨by decide +kernel, ⟨by decide +kernel, by decide +kernel⟩⟩⟩,
    ⟨upS, by decide +kernel⟩⟩

set_option maxRecDepth 20000 in
theorem witness_ParcelCommandsComplete :
    (∃ (n : Fin 16), ∃ (s : State), ∃ p, headParcel n.val 1 s = some p ∧ (commonFieldsOk p = true) ∧ (phCtx p ≠ 0) ∧ (phWords p ≠ 0) ∧ (phAddr p % 64 = 0) ∧ (phSpec p = 0) ∧ ∃ e, ∃ j, windowJob (phCtx p) s = some (e, j) ∧ (inJobArea (phAddr p) (8 * p.payload.length) s = true) ∧ (parcelAllowed e j true (phAddr p) (8 * p.payload.length) s = true) ∧ ((hostClear true [(phAddr p, 8 * p.payload.length)] s).1 = true)) ∧
    (∃ (n : Fin 16), ∃ (s : State), ∃ p, headParcel n.val 2 s = some p ∧ (commonFieldsOk p = true) ∧ (phCtx p ≠ 0) ∧ (phWords p = 0) ∧ (1 ≤ phBits p 141 132) ∧ (phBits p 141 132 ≤ 512) ∧ (phBits p 131 72 = 0) ∧ (phAddr p % 64 = 0) ∧ ∃ e, ∃ j, windowJob (phCtx p) s = some (e, j) ∧ (inJobArea (phAddr p) (8 * phBits p 141 132) s = true) ∧ (parcelAllowed e j false (phAddr p) (8 * phBits p 141 132) s = true) ∧ ((hostClear false [(phAddr p, 8 * phBits p 141 132)] s).1 = true) ∧ ∃ b, ∃ s1, readStacked (phAddr p) (8 * phBits p 141 132) (dropParcel n.val s) = (.ok b, s1)) ∧
    (∃ (n : Fin 16), ∃ (s : State), ∃ p, headParcel n.val 3 s = some p ∧ (commonFieldsOk p = true) ∧ (phCtx p ≠ 0) ∧ (phWords p ≠ 0) ∧ (phAddr p % 64 = 0) ∧ (phSpec p = 0) ∧ ∃ e, ∃ j, windowJob (phCtx p) s = some (e, j) ∧ (inJobArea (phAddr p) (8 * p.payload.length) s = true) ∧ (parcelAllowed e j true (phAddr p) (8 * p.payload.length) s = true) ∧ ((hostClear true [(phAddr p, 8 * p.payload.length)] s).1 = true) ∧ ∃ b, ∃ s1, readStacked (phAddr p) (8 * p.payload.length) (dropParcel n.val s) = (.ok b, s1)) ∧
    (∃ (n : Fin 16), ∃ (s : State), ∃ p, headParcel n.val 4 s = some p ∧ (commonFieldsOk p = true) ∧ (phCtx p ≠ 0) ∧ (phWords p = 0) ∧ (phBits p 128 125 ≠ 0) ∧ (phBits p 124 72 = 0) ∧ ∃ e, ∃ j, windowJob (phCtx p) s = some (e, j) ∧ ∃ s1, flagLands e j { tile := phBits p 141 135, flag := phBits p 134 129, n := phBits p 128 125 } (dropParcel n.val s) = some s1) ∧
    (∃ (n : Fin 16), ∃ (s : State), ∃ p, headParcel n.val 5 s = some p ∧ (reduceFieldsOk p = true) ∧ ∃ e, ∃ j, windowJob (phCtx p) s = some (e, j) ∧ (Tbl.look s.fabric.reductions (reduceKey (phCtx p) (rpId p)) = none)) ∧
    (∃ (n : Fin 16), ∃ (s : State), ∃ p, headParcel n.val 5 s = some p ∧ (reduceFieldsOk p = true) ∧ ∃ e, ∃ j, windowJob (phCtx p) s = some (e, j) ∧ ∃ r, Tbl.look s.fabric.reductions (reduceKey (phCtx p) (rpId p)) = some r ∧ (heldBad r (reduceKey (phCtx p) (rpId p)) { s with fabric := { s.fabric with held := Tbl.put s.fabric.held (reduceKey (phCtx p) (rpId p)) (heldOf (reduceKey (phCtx p) (rpId p)) s ++ [{ src := phSrc p, root := rpRoot p, fmt := phFmt p, segment := rpSegment p, payload := p.payload }]) } } = false)) ∧
    (∃ (c : BitVec 12), ∃ (i : BitVec 12), ∃ seg, ∃ (s : State), ∃ r, Tbl.look s.fabric.reductions (reduceKey c.toNat i.toNat) = some r ∧ ∃ kids, kids = segmentHeld (reduceKey c.toNat i.toNat) seg s ∧ (kids.length = childrenOf r.root s) ∧ (seg < r.segments) ∧ (seg ∉ r.combined) ∧ (r.root ≠ s.fabric.id)) ∧
    (∃ (c : BitVec 12), ∃ (i : BitVec 12), ∃ seg, ∃ (s : State), ∃ r, Tbl.look s.fabric.reductions (reduceKey c.toNat i.toNat) = some r ∧ ∃ kids, kids = segmentHeld (reduceKey c.toNat i.toNat) seg s ∧ (kids.length = childrenOf r.root s) ∧ (seg < r.segments) ∧ (seg ∉ r.combined) ∧ (r.root = s.fabric.id) ∧ ∃ a, r.dest = some a ∧ (a % 8 = 0) ∧ ∃ w, w = combine r.fmt ((s.fabric.id, r.own seg) :: kids.map (fun c => (c.src, c.payload))) ∧ ((hostClear true [(a + 4096 * seg, 8 * w.length)] s).1 = true) ∧ (resultAllowed r seg (8 * w.length) s = true)) ∧
    (∃ (n : Fin 16), ∃ (s : State), ∃ p, headParcel n.val 6 s = some p ∧ (reduceFieldsOk p = true) ∧ ∃ e, ∃ j, windowJob (phCtx p) s = some (e, j) ∧ ∃ r, Tbl.look s.fabric.reductions (reduceKey (phCtx p) (rpId p)) = some r ∧ (rpSegment p ∈ r.combined) ∧ (rpSegment p ∉ r.written) ∧ (r.root ≠ s.fabric.id) ∧ (phFmt p = r.fmt) ∧ (p.payload.length = (r.own (rpSegment p)).length) ∧ ∃ a, r.dest = some a ∧ (a % 8 = 0) ∧ ((hostClear true [(a + 4096 * rpSegment p, 8 * p.payload.length)] s).1 = true) ∧ (resultAllowed r (rpSegment p) (8 * p.payload.length) s = true)) ∧
    (∃ (n : Fin 16), ∃ (s : State), ∃ p, headParcel n.val 0xA s = some p ∧ ∃ r, matchRequest p s = some r ∧ ∃ tile, ∃ entry, ∃ a, r.for_ = .slot tile true entry a ∧ (p.payload.length = phBits r.parcel 141 132)) :=
  ⟨⟨3, (portS [parcel 1 [1#64, 2#64] [(228, 6), (216, 9), (142, 274877906944)]] (ownS job0 [])), exGet (by decide +kernel) (⟨by decide +kernel, ⟨by decide +kernel, ⟨by decide +kernel, ⟨by decide +kernel, ⟨by decide +kernel, exGet2 (by decide +kernel) (⟨by decide +kernel, ⟨by decide +kernel, by decide +kernel⟩⟩)⟩⟩⟩⟩⟩)⟩,
    ⟨3, (portS [parcel 2 [] [(228, 6), (216, 9), (142, 0), (132, 3)]] (ownS job0 [])), exGet (by decide +kernel) (⟨by decide +kernel, ⟨by decide +kernel, ⟨by decide +kernel, ⟨by decide +kernel, ⟨by decide +kernel, ⟨by decide +kernel, ⟨by decide +kernel, exGet2 (by decide +kernel) (⟨by decide +kernel, ⟨by decide +kernel, ⟨by decide +kernel, exOk' (by decide +kernel)⟩⟩⟩)⟩⟩⟩⟩⟩⟩⟩)⟩,
    ⟨3, (portS [parcel 3 [1#64, 2#64] [(228, 6), (216, 9), (208, 1), (142, 274877906944)]] (ownS job0 [])), exGet (by decide +kernel) (⟨by decide +kernel, ⟨by decide +kernel, ⟨by decide +kernel, ⟨by decide +kernel, ⟨by decide +kernel, exGet2 (by decide +kernel) (⟨by decide +kernel, ⟨by decide +kernel, ⟨by decide +kernel, exOk' (by decide +kernel)⟩⟩⟩)⟩⟩⟩⟩⟩)⟩,
    ⟨3, (portS [parcel 4 [] [(228, 6), (216, 9), (135, 5), (129, 3), (125, 2)]] (ownS { job0 with state := .idle } [])), exGet (by decide +kernel) (⟨by decide +kernel, ⟨by decide +kernel, ⟨by decide +kernel, ⟨by decide +kernel, ⟨by decide +kernel, exGet2 (by decide +kernel) (exGet' (by decide +kernel))⟩⟩⟩⟩⟩)⟩,
    ⟨3, (portS [parcel 5 [1#64, 2#64] [(228, 6), (216, 9), (130, 5), (118, 0)]] (ownS job0 [])), exGet (by decide +kernel) (⟨by decide +kernel, exGet2 (by decide +kernel) (by decide +kernel)⟩)⟩,
    ⟨3, (portS [parcel 5 [1#64, 2#64] [(228, 6), (216, 9), (130, 5), (118, 0)]] ((let x := ownS job0 []; { x with fabric := { x.fabric with routes := [(0, word 64 [(48, 1), (24, 1)]), (6, word 64 [(63, 1), (59, 2)])], reductions := [(36869, { ctx := 9, rid := 5, root := 0, fmt := 0, data := leBytes 16 7, dest := some 274877906944, owner := 0, barrier := false, combined := [], written := [] })], held := [] } }))), exGet (by decide +kernel) (⟨by decide +kernel, exGet2 (by decide +kernel) (exGet (by decide +kernel) (by decide +kernel))⟩)⟩,
    ⟨9#12, 5#12, 0, ((let x := ownS job0 []; { x with fabric := { x.fabric with routes := [(6, word 64 [(63, 1), (59, 2)]), (7, word 64 [(48, 1), (36, 6), (24, 1)])], reductions := [(36869, { ctx := 9, rid := 5, root := 7, fmt := 0, data := leBytes 16 7, dest := some 274877906944, owner := 0, barrier := false, combined := [], written := [] })], held := [(36869, [{ src := 6, root := 7, fmt := 0, segment := 0, payload := [3#64, 4#64] }])] } })), exGet (by decide +kernel) (⟨_, rfl, ⟨by decide +kernel, ⟨by decide +kernel, ⟨by decide +kernel, by decide +kernel⟩⟩⟩⟩)⟩,
    ⟨9#12, 5#12, 0, ((let x := ownS job0 []; { x with fabric := { x.fabric with routes := [(0, word 64 [(48, 1), (24, 1)]), (6, word 64 [(63, 1), (59, 2)])], reductions := [(36869, { ctx := 9, rid := 5, root := 0, fmt := 0, data := leBytes 16 7, dest := some 274877906944, owner := 0, barrier := false, combined := [], written := [] })], held := [(36869, [{ src := 6, root := 0, fmt := 0, segment := 0, payload := [3#64, 4#64] }])] } })), exGet (by decide +kernel) (⟨_, rfl, ⟨by decide +kernel, ⟨by decide +kernel, ⟨by decide +kernel, ⟨by decide +kernel, exGet (by decide +kernel) (⟨by decide +kernel, ⟨_, rfl, ⟨by decide +kernel, by decide +kernel⟩⟩⟩)⟩⟩⟩⟩⟩)⟩,
    ⟨3, (portS [parcel 6 [1#64, 2#64] [(228, 6), (216, 9), (130, 5), (118, 7)]] ((let x := ownS job0 []; { x with fabric := { x.fabric with routes := [(0, word 64 [(48, 1), (24, 1)]), (6, word 64 [(63, 1), (59, 2)])], reductions := [(36869, { ctx := 9, rid := 5, root := 7, fmt := 0, data := leBytes 16 7, dest := some 274877906944, owner := 0, barrier := false, combined := [0], written := [] })], held := [] } }))), exGet (by decide +kernel) (⟨by decide +kernel, exGet2 (by decide +kernel) (exGet (by decide +kernel) (⟨by decide +kernel, ⟨by decide +kernel, ⟨by decide +kernel, ⟨by decide +kernel, ⟨by decide +kernel, exGet (by decide +kernel) (⟨by decide +kernel, ⟨by decide +kernel, by decide +kernel⟩⟩)⟩⟩⟩⟩⟩))⟩)⟩,
    ⟨3, (portS [parcel 0xA [1#64, 2#64] [(228, 6), (192, 9)]] ({ upS with fabric := { upS.fabric with reqs := [(9, { parcel := parcel 2 [] [(240, 6), (132, 2)], for_ := .slot 0 true 5 0x4000, resends := 0 })] } })), exGet (by decide +kernel) (exGet (by decide +kernel) (⟨_, _, _, rfl, by decide +kernel⟩))⟩⟩

set_option maxRecDepth 20000 in
theorem witness_FlashCommandsComplete :
    (∃ sb, ∃ (s0 : State), ∃ (s : State), (s = enterTrims s0) ∧ ∃ b, b = sbOf sb s ∧ (b.state = .open_) ∧ (b.row ≠ []) ∧ ((rowLen sb b ≤ b.row.length ∨ (b.slc = true ∧ rowWanted b s = true))) ∧ ((∀ i u, b.row[i]? = some u → u.offset = b.next + i))) ∧
    (∃ sb, ∃ (failed : BitVec 32), ∃ (s0 : State), ∃ (s : State), (s = enterTrims s0) ∧ ∃ b, b = sbOf sb s ∧ (b.state = .open_) ∧ (b.row ≠ []) ∧ ((rowLen sb b ≤ b.row.length ∨ (b.slc = true ∧ rowWanted b s = true))) ∧ (failed.toNat ≠ 0)) ∧
    (∃ sb, ∃ (s : State), ((sbOf sb s).erasing = true)) ∧
    (∃ (c : Fin 64), ∃ (d : Fin 8), ∃ (s : State), (c.val * 8 + d.val ∉ s.flash.failedDies)) ∧
    (∃ n, ∃ (lost : BitVec 4), ∃ (s : State), ∃ k, slotAt n s = some k ∧ (k.started = false) ∧ (k.lost = 0) ∧ ((∀ p ∈ s.flash.slots, p.2.started = false → p.2.lost = 0 → slotStream p.2 s = slotStream k s → k.writeSeq ≤ p.2.writeSeq)) ∧ (s.mem.werr = []) ∧ (s.ecc.cells = []) ∧ ((∀ b < 4, bit k.mask b = false → blockPlace s b (s.flash.slots.length + 2) k.prev ≠ .lost ∧ ∀ sb off, blockPlace s b (s.flash.slots.length + 2) k.prev = .flash sb off → bit lost.toNat b = false)) ∧ ((∀ u, (placeUnit (slotStream k s) u (.slot n) s).isSome = true))) ∧
    (∃ n, ∃ (lost : BitVec 4), ∃ b, ∃ (s : State), ∃ k, slotAt n s = some k ∧ (k.started = false) ∧ (k.lost = 0) ∧ ((∀ p ∈ s.flash.slots, p.2.started = false → p.2.lost = 0 → slotStream p.2 s = slotStream k s → k.writeSeq ≤ p.2.writeSeq)) ∧ (b < 4) ∧ (bit k.mask b = false) ∧ ∃ sb, ∃ off, blockPlace s b (s.flash.slots.length + 2) k.prev = .flash sb off ∧ (bit lost.toNat b = true)) ∧
    (∃ (s : State), (s.flash.foldStart < (s.flash.sbs.filter (fun p => p.2.pool == 4 && p.2.state == .closed)).length) ∧ (backgroundRuns s = true) ∧ ∃ sb, foldSource s = some sb ∧ ∃ off, ∃ i, nextValid sb s = some (off, i) ∧ ∃ u, Tbl.look s.flash.media (mediaKey sb off) = some u ∧ ∃ n, ∃ s1, placeUnit (.fold u.pool) u (.copy sb off) s = some (n, s1)) ∧
    (∃ p, ∃ (s : State), (freeCount s < s.flash.gcStart) ∧ (backgroundRuns s = true) ∧ (s.flash.sbs.find? (fun p => p.2.state == .collecting && !p.2.due && (nextValid p.1 s).isSome) = some p)) ∧
    (∃ (s : State), (freeCount s < s.flash.gcStart) ∧ (backgroundRuns s = true) ∧ (s.flash.sbs.find? (fun p => p.2.state == .collecting && !p.2.due && (nextValid p.1 s).isSome) = none) ∧ (s.flash.dueList = []) ∧ ∃ n, gcVictim s = some n ∧ ((nextValid n (modSb n (fun b => { b with state := .collecting }) s)).isSome = true)) ∧
    (∃ (s : State), (backgroundRuns s = true) ∧ ∃ n, ∃ rest, s.flash.dueList = n :: rest ∧ ((sbOf n s).state = .closed)) ∧
    (∃ sb, ∃ (s : State), ((sbOf sb s).state = .free) ∧ ((sbOf sb s).erasing = false) ∧ ((sbOf sb s).corrupt = false) ∧ ((sbOf sb s).heldBy = []) ∧ ((sbOf sb s).segs = []) ∧ (erasedCount s < 64) ∧ (neededByMerge sb s = false) ∧ ((s.power.step ≠ 4 ∧ s.host.pstate ≠ 2 ∨ s.flash.urgent = true))) ∧
    (∃ (g : Fin 8192), ∃ (s : State), (g.val ∈ s.flash.dirty)) ∧
    (∃ (s : State), (regWorks 4 false s = true)) ∧
    (∃ (p : Fin 3), ∃ (v : W32), ∃ (s : State), (regWorks 4 false s = true) ∧ (((∀ x ∈ s.spaces, x.2.pool ≠ p.val + 1) ∨ bit v.toNat 31 = poolSlc (p.val + 1) s))) ∧
    (∃ (p : Fin 3), ∃ (v : W32), ∃ x, ∃ (s : State), (regWorks 4 false s = true) ∧ (x ∈ s.spaces) ∧ (x.2.pool = p.val + 1) ∧ (bit v.toNat 31 ≠ poolSlc (p.val + 1) s)) :=
  ⟨⟨0, (flashS [(0, sbOpen (.fold 1) false ((List.range 112).map (fun i => { offset := i, unit := unit (1000 + i), source := .copy 1 i })))] [(1000, .flash 1 0)] (fun f => f) upS), (flashS [(0, sbOpen (.fold 1) false ((List.range 112).map (fun i => { offset := i, unit := unit (1000 + i), source := .copy 1 i })))] [(1000, .flash 1 0)] (fun f => f) upS), ⟨by decide +kernel, ⟨_, rfl, ⟨by decide +kernel, ⟨by decide +kernel, ⟨by decide +kernel, allAt (by decide +kernel)⟩⟩⟩⟩⟩⟩,
    ⟨0, 0xFFFF#32, (flashS [(0, sbOpen (.fold 1) false ((List.range 112).map (fun i => { offset := i, unit := unit (1000 + i), source := .copy 1 i })))] [(1000, .flash 1 0)] (fun f => f) upS), (flashS [(0, sbOpen (.fold 1) false ((List.range 112).map (fun i => { offset := i, unit := unit (1000 + i), source := .copy 1 i })))] [(1000, .flash 1 0)] (fun f => f) upS), ⟨by decide +kernel, ⟨_, rfl, ⟨by decide +kernel, ⟨by decide +kernel, ⟨by decide +kernel, by decide +kernel⟩⟩⟩⟩⟩⟩,
    ⟨1, (flashS [(1, { sb .free with erasing := true, slc := false })] [] (fun f => f) upS), by decide +kernel⟩,
    ⟨5, 7, upS, by decide +kernel⟩,
    ⟨0, 0, (flashS [(0, sbOpen .buffer true []), (3, sb .closed)] [(1000, .buffer 0)] (fun f => { f with slots := [(0, slot 1000 7 (.flash 3 5))] }) upS), exGet (by decide +kernel) (⟨by decide +kernel, ⟨by decide +kernel, ⟨by decide +kernel, ⟨by decide +kernel, ⟨by decide +kernel, ⟨fun _ _ _ => ⟨by rename_i b hb h; revert b; decide +kernel, fun _ _ _ => by simp [bit]⟩, fun _ => rfl⟩⟩⟩⟩⟩⟩)⟩,
    ⟨0, 8, 3, (flashS [(0, sbOpen .buffer true []), (3, sb .closed)] [(1000, .buffer 0)] (fun f => { f with slots := [(0, slot 1000 7 (.flash 3 5))] }) upS), exGet (by decide +kernel) (⟨by decide +kernel, ⟨by decide +kernel, ⟨by decide +kernel, ⟨by decide +kernel, ⟨by decide +kernel, ⟨_, _, rfl, by decide +kernel⟩⟩⟩⟩⟩⟩)⟩,
    ⟨(flashS [(0, sbOpen (.fold 1) false []), (1, { sb .closed with pool := 4, slc := true })] [(1000, .flash 1 5)] (fun f => { f with foldStart := 0 }) upS), ⟨by decide +kernel, ⟨by decide +kernel, exGet (by decide +kernel) (exGet2 (by decide +kernel) (exGet (by decide +kernel) (exGet2' (by decide +kernel))))⟩⟩⟩,
    ⟨(((1, sb .collecting) : Nat × Superblock)), (flashS [(0, sbOpen (.reloc 1) false []), (1, sb .collecting)] [(1000, .flash 1 5)] (fun f => { f with gcStart := 98304 }) upS), ⟨by decide +kernel, ⟨by decide +kernel, by decide +kernel⟩⟩⟩,
    ⟨(flashS [(0, sbOpen (.reloc 1) false []), (1, sb .closed)] [(1000, .flash 1 5)] (fun f => { f with gcStart := 98304 }) upS), ⟨by decide +kernel, ⟨by decide +kernel, ⟨by decide +kernel, ⟨by decide +kernel, exGet (by decide +kernel) (by decide +kernel)⟩⟩⟩⟩⟩,
    ⟨(flashS [(0, sbOpen (.reloc 1) false []), (1, sb .closed)] [] (fun f => { f with dueList := [1] }) upS), ⟨by decide +kernel, ⟨_, _, rfl, by decide +kernel⟩⟩⟩,
    ⟨0, fewS, ⟨rfl, ⟨rfl, ⟨rfl, ⟨rfl, ⟨rfl, ⟨fewS_erased, ⟨rfl, .inl (by decide +kernel)⟩⟩⟩⟩⟩⟩⟩⟩,
    ⟨1, (flashS [(0, sb .closed)] [(1000, .flash 1 5)] (fun f => { f with dirty := [0, 1] }) upS), by decide +kernel⟩,
    ⟨({ upS with flash := { upS.flash with minute := 19 } }), by decide +kernel⟩,
    ⟨0, 0xC0000005#32, (flashS [] [] (fun f => { f with pools := [(1, { slc := true, refreshEn := false, readLimit := 4, ageDays := 5 })] }) upS), ⟨by decide +kernel, by decide +kernel⟩⟩,
    ⟨0, 0x7FFFFFFF#32, (((2, { blocks := 400, pool := 1, base := 1000 }) : Nat × Namespace)), (flashS [] [] (fun f => f) upS), ⟨by decide +kernel, ⟨by decide +kernel, ⟨by decide +kernel, by decide +kernel⟩⟩⟩⟩⟩

set_option maxRecDepth 20000 in
theorem witness_StorageCommandsComplete :
    (∃ tr, ∃ (s : State), ∃ task, readyTask tr 0x10 s = some task ∧ (Tbl.look s.spaces (dParam task.desc 327 320) = none) ∧ ((s.spaces.foldl (fun n p => n + nsCharge p.2.blocks p.2.pool s) 0 + nsCharge (dParam task.desc 375 328) (dParam task.desc 378 376) s) * 4096 ≤ Config.userCapacity) ∧ ∃ base, ledgerFit (dParam task.desc 375 328 / 4) s = some base) ∧
    (∃ tr, ∃ (s : State), ∃ task, readyTask tr 0x11 s = some task ∧ ∃ x, nsFind (dParam task.desc 327 320) s = some x ∧ (nsHeld (dParam task.desc 327 320) s = false) ∧ (nsServed (dParam task.desc 327 320) s = false)) ∧
    (∃ tr, ∃ (s : State), ∃ task, readyTask tr 0x12 s = some task ∧ ∃ x, nsFind (dParam task.desc 327 320) s = some x) ∧
    (∃ tr, ∃ (s : State), ∃ task x n s1, DataStarts tr 0x20 task x n s s1 ∧ ((∀ u ∈ unitsOf (dataOp tr 0x20 task.desc []), flashNeed (x.base + u) (blocksIn (dataOp tr 0x20 task.desc []) u) s = none))) ∧
    (∃ tr, ∃ u, ∃ (s : State), ∃ task x n s1, DataStarts tr 0x20 task x n s s1 ∧ (u ∈ unitsOf (dataOp tr 0x20 task.desc [])) ∧ ∃ p, flashNeed (x.base + u) (blocksIn (dataOp tr 0x20 task.desc []) u) s = some p) ∧
    (∃ tr, ∃ (s : State), ∃ task x n s1, DataStarts tr 0x24 task x n s s1 ∧ ((∀ u ∈ unitsOf (dataOp tr 0x24 task.desc []), flashNeed (x.base + u) (blocksIn (dataOp tr 0x24 task.desc []) u) s = none))) ∧
    (∃ tr, ∃ u, ∃ (s : State), ∃ task x n s1, DataStarts tr 0x24 task x n s s1 ∧ (u ∈ unitsOf (dataOp tr 0x24 task.desc [])) ∧ ∃ p, flashNeed (x.base + u) (blocksIn (dataOp tr 0x24 task.desc []) u) s = some p) ∧
    (∃ tr, ∃ buffer, ∃ (s : State), ∃ task x n s1, DataStarts tr 0x21 task x n s s1 ∧ (spareZero s = false) ∧ (slotsNeeded ((unitsOf (dataOp tr 0x21 task.desc buffer)).map (fun u => x.base + u)) s ≤ freeSlots s) ∧ (stFua task.desc = false)) ∧
    (∃ tr, ∃ buffer, ∃ u, ∃ (s : State), ∃ task x n s1, DataStarts tr 0x21 task x n s s1 ∧ (spareZero s = false) ∧ (unitsOf (dataOp tr 0x21 task.desc buffer) = [u]) ∧ ∃ m, ∃ f, slotFor (x.base + u) s = some (m, f) ∧ (slotsNeeded [x.base + u] s ≤ freeSlots s)) ∧
    (∃ tr, ∃ buffer, ∃ (s : State), ∃ task x n s1, DataStarts tr 0x21 task x n s s1 ∧ (spareZero s = false) ∧ (freeSlots s < slotsNeeded ((unitsOf (dataOp tr 0x21 task.desc buffer)).map (fun u => x.base + u)) s)) ∧
    (∃ tr, ∃ (s : State), ∃ task x n s1, DataStarts tr 0x23 task x n s s1 ∧ (spareZero s = false) ∧ (slotsNeeded ((slotUnits (dataOp tr 0x23 task.desc [])).map (fun u => x.base + u)) s ≤ freeSlots s)) ∧
    (∃ tr, ∃ (s : State), ∃ task, readyTask tr 0x22 s = some task ∧ (nsFind (stNs task.desc) s ≠ none ∨ stNs task.desc = 0xFF) ∧ ((notDurable (if stNs task.desc = 0xFF then s.spaces.map (·.2) else (nsFind (stNs task.desc) s).toList) s).1 = []) ∧ ((notDurable (if stNs task.desc = 0xFF then s.spaces.map (·.2) else (nsFind (stNs task.desc) s).toList) s).2.1 = [])) ∧
    (∃ tr, ∃ (s : State), ∃ task, readyTask tr 0x22 s = some task ∧ (nsFind (stNs task.desc) s ≠ none ∨ stNs task.desc = 0xFF) ∧ ∃ w, w = notDurable (if stNs task.desc = 0xFF then s.spaces.map (·.2) else (nsFind (stNs task.desc) s).toList) s ∧ ((w.1 ≠ [] ∨ w.2.1 ≠ []))) ∧
    (∃ n, ∃ (s : State), ∃ l, Tbl.look s.flash.locks n = some l ∧ ∃ tr, l.holder = .command tr ∧ ∃ o, Tbl.look s.flash.ops tr = some o ∧ (o.started = false) ∧ (o.waitsSlots = false) ∧ (isFenced tr s = false) ∧ (lockClear n s = true)) ∧
    (∃ tr, ∃ (s : State), ∃ o, Tbl.look s.flash.ops tr = some o ∧ (o.waitsSlots = true)) :=
  ⟨⟨70, (taskS 0x10 [(320, 3), (328, 400), (376, 1)] (flashS [] [] (fun f => f) upS)), exGet (by decide +kernel) (⟨by decide +kernel, ⟨by decide +kernel, exGet' (by decide +kernel)⟩⟩)⟩,
    ⟨70, (taskS 0x11 [(320, 2)] (flashS [(1, sb .closed)] [(1000, .flash 1 5), (1001, .buffer 0), (2000, .flash 1 6)] (fun f => { f with slots := [(0, slot 1001 15 .unmapped)] }) upS)), exGet (by decide +kernel) (exGet (by decide +kernel) (⟨by decide +kernel, by decide +kernel⟩))⟩,
    ⟨70, (taskS 0x12 [(320, 2), (64, 0x600000)] (flashS [] [] (fun f => f) upS)), exGet (by decide +kernel) (exGet' (by decide +kernel))⟩,
    ⟨70, (taskS 0x20 [(320, 2), (328, 0), (392, 1), (64, 0x600000), (128, 0x610000)] (flashS [(1, sb .closed)] [(1000, .buffer 0)] (fun f => { f with slots := [(0, { slot 1000 14 .unmapped with lost := 1 })] }) upS)), exStarts (by decide +kernel) (by decide +kernel) (by decide +kernel) (by decide +kernel) (by decide +kernel) (by decide +kernel) (by decide +kernel)⟩,
    ⟨70, 0, (taskS 0x20 [(320, 2), (328, 0), (392, 1), (64, 0x600000), (128, 0x610000)] (flashS [(1, sb .closed)] [(1000, .buffer 0)] (fun f => { f with slots := [(0, slot 1000 14 (.flash 1 5))] }) upS)), exStarts (by decide +kernel) (by decide +kernel) (by decide +kernel) (by decide +kernel) (by decide +kernel) (by decide +kernel) (⟨by decide +kernel, exGet' (by decide +kernel)⟩)⟩,
    ⟨70, (taskS 0x24 [(320, 2), (328, 1), (392, 1), (64, 0x600000), (128, 0x610000)] (flashS [(1, sb .closed)] [(1000, .buffer 0)] (fun f => { f with slots := [(0, slot 1000 15 .unmapped)] }) upS)), exStarts (by decide +kernel) (by decide +kernel) (by decide +kernel) (by decide +kernel) (by decide +kernel) (by decide +kernel) (by decide +kernel)⟩,
    ⟨70, 0, (taskS 0x24 [(320, 2), (328, 0), (392, 1), (64, 0x600000), (128, 0x610000)] (flashS [(1, sb .closed)] [(1000, .flash 1 5)] (fun f => f) upS)), exStarts (by decide +kernel) (by decide +kernel) (by decide +kernel) (by decide +kernel) (by decide +kernel) (by decide +kernel) (⟨by decide +kernel, exGet' (by decide +kernel)⟩)⟩,
    ⟨70, [7#8], (taskS 0x21 [(320, 2), (328, 1), (392, 0), (64, 0x600000), (128, 0x610000)] (flashS [(1, sb .closed)] [] (fun f => f) upS)), exStarts (by decide +kernel) (by decide +kernel) (by decide +kernel) (by decide +kernel) (by decide +kernel) (by decide +kernel) (⟨by decide +kernel, ⟨by decide +kernel, by decide +kernel⟩⟩)⟩,
    ⟨70, [7#8], 0, (taskS 0x21 [(320, 2), (328, 1), (392, 2), (424, 1), (64, 0x600000), (128, 0x610000)] (flashS [(1, sb .closed)] [(1000, .buffer 0)] (fun f => { f with slots := [(0, slot 1000 8 (.flash 1 5))] }) upS)), exStarts (by decide +kernel) (by decide +kernel) (by decide +kernel) (by decide +kernel) (by decide +kernel) (by decide +kernel) (⟨by decide +kernel, ⟨by decide +kernel, exGet2 (by decide +kernel) (by decide +kernel)⟩⟩)⟩,
    ⟨70, [7#8], fullS, exStarts (by decide +kernel) (by decide +kernel) (by decide +kernel) (by decide +kernel) (by decide +kernel) (by decide +kernel) (⟨by decide +kernel, lt_of_zero fullS_free (by decide +kernel)⟩)⟩,
    ⟨70, (taskS 0x23 [(320, 2), (328, 1), (392, 10), (424, 1), (64, 0x600000), (128, 0x610000)] (flashS [(1, sb .closed)] [(1000, .buffer 0), (1001, .flash 1 5)] (fun f => { f with slots := [(0, slot 1000 15 .unmapped)] }) upS)), exStarts (by decide +kernel) (by decide +kernel) (by decide +kernel) (by decide +kernel) (by decide +kernel) (by decide +kernel) (⟨by decide +kernel, by decide +kernel⟩)⟩,
    ⟨70, (taskS 0x22 [(320, 0xFF)] (flashS [] [(1000, .flash 1 5)] (fun f => f) upS)), exGet (by decide +kernel) (⟨by decide +kernel, ⟨by decide +kernel, by decide +kernel⟩⟩)⟩,
    ⟨70, (taskS 0x22 [(320, 0xFF)] (flashS [] [(1000, .buffer 0)] (fun f => { f with slots := [(0, slot 1000 15 .unmapped)], trims := [(9, [1004])] }) upS)), exGet (by decide +kernel) (⟨by decide +kernel, ⟨_, rfl, by decide +kernel⟩⟩)⟩,
    ⟨4, (taskS 0x23 [(320, 2), (328, 0), (392, 1)] (flashS [(1, sb .closed)] [(1000, .flash 1 5)] (fun f => { f with locks := [(4, { holder := .command 70, ns := 2, first := 0, last := 0, writes := false })], ops := [(70, dataOp 70 0x23 (desc 0x23 [(320, 2), (328, 0), (392, 1)]) [])] }) upS)), exGet (by decide +kernel) (⟨_, rfl, exGet (by decide +kernel) (⟨by decide +kernel, ⟨by decide +kernel, ⟨by decide +kernel, by decide +kernel⟩⟩⟩)⟩)⟩,
    ⟨70, (taskS 0x21 [(320, 2), (328, 0), (392, 1)] (flashS [(1, sb .closed)] [(1000, .flash 1 5)] (fun f => { f with locks := [(4, { holder := .command 70, ns := 2, first := 0, last := 0, writes := true })], ops := [(70, { dataOp 70 0x21 (desc 0x21 [(320, 2), (328, 0), (392, 1)]) [] with waitsSlots := true })] }) upS)), exGet (by decide +kernel) (by decide +kernel)⟩⟩

set_option maxRecDepth 20000 in
theorem witness_LinkCommandsComplete :
    (∃ (rate : BitVec 2), ∃ (width : BitVec 2), ∃ (s : State), (alive s = true) ∧ (s.host.linkUp = false) ∧ (s.boot.linkBarred = false) ∧ (rate ≠ 0#2) ∧ (width ≠ 0#2) ∧ (width ≠ 3#2)) ∧
    (∃ (width : BitVec 2), ∃ (s : State), (s.host.linkUp = true) ∧ ((width = 1#2 ∨ width = 2#2))) ∧
    (∃ (s : State), (alive s = true) ∧ (s.host.linkUp = true) ∧ (s.host.stopIo = false) ∧ (released 1 s = false)) ∧
    (∃ (s : State), (alive s = true) ∧ (s.host.linkUp = true) ∧ (s.host.stopIo = false) ∧ (released 1 s = true)) ∧
    (∃ (s : State), (alive s = true) ∧ (s.host.linkUp = true) ∧ (s.host.stopIo = false) ∧ (released 1 s = true)) ∧
    (∃ (s : State), (alive s = true) ∧ (s.host.linkUp = true) ∧ (s.host.stopIo = false) ∧ (released 1 s = true)) ∧
    (∃ (s : State), (alive s = true) ∧ (s.host.linkUp = true) ∧ (s.host.stopIo = false) ∧ (released 1 s = true)) ∧
    (∃ (s : State), (alive s = true) ∧ (released 1 s = true) ∧ (s.host.linkUp = true) ∧ (s.host.cxl = true) ∧ (s.host.cacheEn = false)) ∧
    (∃ (s : State), (alive s = true) ∧ (s.host.linkUp = true) ∧ (s.host.cacheEn = true)) :=
  ⟨⟨3#2, 2#2, ((let x := upS; { x with host := { x.host with linkUp := false } })), ⟨by decide +kernel, ⟨by decide +kernel, ⟨by decide +kernel, ⟨by decide +kernel, ⟨by decide +kernel, by decide +kernel⟩⟩⟩⟩⟩⟩,
    ⟨1#2, upS, ⟨by decide +kernel, by decide +kernel⟩⟩,
    ⟨(bootS (fun b => { b with dev := .bringUp, stage := 0 })), ⟨by decide +kernel, ⟨by decide +kernel, ⟨by decide +kernel, by decide +kernel⟩⟩⟩⟩,
    ⟨upS, ⟨by decide +kernel, ⟨by decide +kernel, ⟨by decide +kernel, by decide +kernel⟩⟩⟩⟩,
    ⟨upS, ⟨by decide +kernel, ⟨by decide +kernel, ⟨by decide +kernel, by decide +kernel⟩⟩⟩⟩,
    ⟨upS, ⟨by decide +kernel, ⟨by decide +kernel, ⟨by decide +kernel, by decide +kernel⟩⟩⟩⟩,
    ⟨upS, ⟨by decide +kernel, ⟨by decide +kernel, ⟨by decide +kernel, by decide +kernel⟩⟩⟩⟩,
    ⟨((let x := rngS 1 1 upS; { x with host := { x.host with cacheEn := false } })), ⟨by decide +kernel, ⟨by decide +kernel, ⟨by decide +kernel, ⟨by decide +kernel, by decide +kernel⟩⟩⟩⟩⟩,
    ⟨((let x := rngS 1 1 upS; { x with host := { x.host with lines := [0x8000], reading := [0x8001] } })), ⟨by decide +kernel, ⟨by decide +kernel, by decide +kernel⟩⟩⟩⟩

set_option maxRecDepth 20000 in
theorem witness_WindowCommandsComplete :
    (∃ (s : State), (barServed s = true) ∧ (s.boot.dev = .ready) ∧ (s.host.memEn = true) ∧ (s.host.biEn = true) ∧ (s.host.cxl = true)) ∧
    (∃ (s : State), (barServed s = true) ∧ ((s.boot.dev ≠ .ready ∨ s.host.memEn = false ∨ s.host.biEn = false ∨ s.host.cxl = false))) ∧
    (∃ (addr : BitVec 34), ∃ (s : State), (hdmServed s = true) ∧ (s.host.d3hot = false) ∧ (s.boot.dev = .ready) ∧ (stepEntry ((windowBase s + 64 * (addr.toNat / 64)) / 4096) s = none) ∧ ∃ (bytes : List Byte), (readStacked (windowBase s + 64 * (addr.toNat / 64)) 64 s).1 = .ok bytes) ∧
    (∃ (addr : BitVec 34), ∃ intent, ∃ (s : State), (intent ≠ HdmIntent.uncached) ∧ (hdmServed s = true) ∧ (s.host.d3hot = false) ∧ (s.boot.dev = .ready) ∧ (stepEntry ((windowBase s + 64 * (addr.toNat / 64)) / 4096) s = none) ∧ (s.host.snoop.length < Config.snoopEntries) ∧ ∃ (bytes : List Byte), (readStacked (windowBase s + 64 * (addr.toNat / 64)) 64 s).1 = .ok bytes) ∧
    (∃ (addr : BitVec 34), ∃ (bytes : List Byte), ∃ (s : State), (hdmServed s = true) ∧ (s.host.d3hot = false) ∧ (s.boot.dev = .ready) ∧ ∃ a, a = windowBase s + addr.toNat ∧ ∃ (data : List Byte), data = bytes.take (64 - addr.toNat % 64) ∧ (a % 8 = 0) ∧ (data.length % 8 = 0) ∧ (stepEntry (a / 4096) s = none) ∧ (signedHit a data.length s = none)) ∧
    (∃ (addr : BitVec 34), ∃ (bytes : List Byte), ∃ (s : State), (hdmServed s = true) ∧ (s.host.d3hot = false) ∧ (s.boot.dev = .ready) ∧ ∃ e, ∃ j, signedHit (windowBase s + addr.toNat) (bytes.take (64 - addr.toNat % 64)).length s = some (e, j)) ∧
    (∃ (line : BitVec 28), ∃ (s : State), ∃ b, s.host.biOut.find? (fun x => x.line == line.toNat) = some b ∧ (s.host.linkUp = true) ∧ (s.host.stopMem = false) ∧ (s.host.sweep = []) ∧ (s.host.waiting = none) ∧ (s.tensor.region.waits = false)) :=
  ⟨⟨upS, ⟨by decide +kernel, ⟨by decide +kernel, ⟨by decide +kernel, ⟨by decide +kernel, by decide +kernel⟩⟩⟩⟩⟩,
    ⟨((let x := upS; { x with host := { x.host with cxl := false } })), ⟨by decide +kernel, by decide +kernel⟩⟩,
    ⟨0x1040#34, ((let x := upS; { x with host := { x.host with hdmCommitted := true } })), ⟨by decide +kernel, ⟨by decide +kernel, ⟨by decide +kernel, ⟨by decide +kernel, exOk1' (by decide +kernel)⟩⟩⟩⟩⟩,
    ⟨0x1040#34, HdmIntent.exclusive, ((let x := upS; { x with host := { x.host with hdmCommitted := true } })), ⟨by decide +kernel, ⟨by decide +kernel, ⟨by decide +kernel, ⟨by decide +kernel, ⟨by decide +kernel, ⟨by decide +kernel, exOk1' (by decide +kernel)⟩⟩⟩⟩⟩⟩⟩,
    ⟨0x1078#34, (List.replicate 64 7), ((let x := upS; { x with host := { x.host with hdmCommitted := true } })), ⟨by decide +kernel, ⟨by decide +kernel, ⟨by decide +kernel, ⟨_, rfl, ⟨_, rfl, ⟨by decide +kernel, ⟨by decide +kernel, ⟨by decide +kernel, by decide +kernel⟩⟩⟩⟩⟩⟩⟩⟩⟩,
    ⟨0x10000#34, ([1, 2, 3]), ((let x := ownS { job0 with signed := [(1, 285078519808, 0x10000)] } []; { x with host := { x.host with hdmCommitted := true } })), ⟨by decide +kernel, ⟨by decide +kernel, ⟨by decide +kernel, exGet2' (by decide +kernel)⟩⟩⟩⟩,
    ⟨7#28, ((let x := upS; { x with host := { x.host with snoop := [{ line := 3, exclusive := true }, { line := 7, exclusive := true }], biOut := [{ line := 7, inv := false, sweep := false }] } })), exGet (by decide +kernel) (⟨by decide +kernel, ⟨by decide +kernel, ⟨by decide +kernel, ⟨by decide +kernel, by decide +kernel⟩⟩⟩⟩)⟩⟩

set_option maxRecDepth 20000 in
theorem witness_HostRegisterCommandsComplete :
    (∃ (s : State), (s.host.linkUp = true) ∧ (s.host.ideMem = true)) ∧
    (∃ (s : State), (s.host.linkUp = true) ∧ (s.host.ideIo = true)) ∧
    (∃ (s : State), (doeServed s = true) ∧ (s.sec.spdm.session = true) ∧ (s.host.stopMem = false) ∧ (s.host.cxl = true)) ∧
    (∃ (s : State), (doeServed s = true) ∧ (s.sec.spdm.session = true)) ∧
    (∃ (s : State), (doeServed s = true)) ∧
    (∃ (s : State), (doeServed s = true)) ∧
    (∃ (s : State), (doeServed s = true)) ∧
    (∃ (s : State), (doeServed s = true)) ∧
    (∃ (s : State), (regWorks 1 false s = true)) ∧
    (∃ (s : State), (alive s = true) ∧ (s.host.linkUp = true) ∧ (s.host.stopIo = false) ∧ (s.host.d3hot = false)) ∧
    (∃ (s : State), (alive s = true) ∧ (s.host.linkUp = true) ∧ (s.host.stopIo = false) ∧ (s.host.d3hot = false)) ∧
    (∃ (offset : BitVec 23), ∃ (wide : Bool), ∃ (s : State), (barServed s = true) ∧ (offset.toNat % (if wide then 8 else 4) ≠ 0)) ∧
    (∃ (offset : BitVec 23), ∃ (s : State), (barServed s = true) ∧ (is64 offset.toNat = true) ∧ (offset.toNat % 8 = 0)) ∧
    (∃ (offset : BitVec 23), ∃ (s : State), (barServed s = true) ∧ (is64 offset.toNat = false) ∧ (offset.toNat % 8 = 0)) ∧
    (∃ (offset : BitVec 23), ∃ (s : State), (barServed s = true) ∧ (is64 (offset.toNat / 8 * 8) = false) ∧ (offset.toNat % 4 = 0)) ∧
    (∃ (offset : BitVec 23), ∃ (s : State), (barServed s = true) ∧ (is64 offset.toNat = true) ∧ (offset.toNat % 8 = 0)) ∧
    (∃ (offset : BitVec 23), ∃ (s : State), (barServed s = true) ∧ (is64 (offset.toNat - 4) = true) ∧ (offset.toNat % 8 = 4) ∧ ∃ lo, Tbl.look s.host.staged (offset.toNat - 4) = some lo) :=
  ⟨⟨((let x := upS; { x with host := { x.host with ideMem := true } })), ⟨by decide +kernel, by decide +kernel⟩⟩,
    ⟨((let x := upS; { x with host := { x.host with ideIo := true } })), ⟨by decide +kernel, by decide +kernel⟩⟩,
    ⟨({ upS with sec := { upS.sec with spdm := { upS.sec.spdm with session := true } } }), ⟨by decide +kernel, ⟨by decide +kernel, ⟨by decide +kernel, by decide +kernel⟩⟩⟩⟩,
    ⟨({ upS with sec := { upS.sec with spdm := { upS.sec.spdm with session := true } } }), ⟨by decide +kernel, by decide +kernel⟩⟩,
    ⟨upS, by decide +kernel⟩,
    ⟨upS, by decide +kernel⟩,
    ⟨upS, by decide +kernel⟩,
    ⟨upS, by decide +kernel⟩,
    ⟨((let x := upS; { x with host := { x.host with pba := [5, 2047] } })), by decide +kernel⟩,
    ⟨upS, ⟨by decide +kernel, ⟨by decide +kernel, ⟨by decide +kernel, by decide +kernel⟩⟩⟩⟩,
    ⟨upS, ⟨by decide +kernel, ⟨by decide +kernel, ⟨by decide +kernel, by decide +kernel⟩⟩⟩⟩,
    ⟨0x10002#23, false, upS, ⟨by decide +kernel, by decide +kernel⟩⟩,
    ⟨229400#23, upS, ⟨by decide +kernel, ⟨by decide +kernel, by decide +kernel⟩⟩⟩,
    ⟨73728#23, upS, ⟨by decide +kernel, ⟨by decide +kernel, by decide +kernel⟩⟩⟩,
    ⟨73732#23, upS, ⟨by decide +kernel, ⟨by decide +kernel, by decide +kernel⟩⟩⟩,
    ⟨0x20008#23, upS, ⟨by decide +kernel, ⟨by decide +kernel, by decide +kernel⟩⟩⟩,
    ⟨0x2000C#23, ((let x := upS; { x with host := { x.host with staged := [(0x20008, 7)] } })), ⟨by decide +kernel, ⟨by decide +kernel, ⟨by decide +kernel, exGet' (by decide +kernel)⟩⟩⟩⟩⟩

set_option maxRecDepth 20000 in
theorem witness_RingCommandsComplete :
    (∃ (line : BitVec 58), ∃ (s : State), (cacheUsable s = true) ∧ (line.toNat ∈ s.host.lines)) ∧
    (∃ (line : BitVec 58), ∃ words, ∃ n, ∃ (s : State), (cacheUsable s = true) ∧ (line.toNat ∈ s.host.reading) ∧ (Tbl.sorted s.rings.sqs = true) ∧ ((∀ p ∈ s.rings.cqs, p.2.db / 64 ≠ line.toNat)) ∧ ∃ q, Tbl.look s.rings.sqs n = some q ∧ (q.state = .running) ∧ (q.db / 64 = line.toNat) ∧ ∃ w, w = ((padTo 16 0#32 words).getD (q.db / 4 % 16) 0#32).toNat ∧ (w < q.depth) ∧ (w < 65536)) ∧
    (∃ (line : BitVec 58), ∃ words, ∃ n, ∃ (s : State), (cacheUsable s = true) ∧ (line.toNat ∈ s.host.reading) ∧ (Tbl.sorted s.rings.cqs = true) ∧ ((∀ p ∈ s.rings.sqs, p.2.db / 64 ≠ line.toNat)) ∧ ∃ q, Tbl.look s.rings.cqs n = some q ∧ (q.error = false) ∧ (q.db / 64 = line.toNat) ∧ ∃ w, w = ((padTo 16 0#32 words).getD (q.db / 4 % 16) 0#32).toNat ∧ (w < q.depth) ∧ (w < 65536) ∧ ((w + q.depth - q.head) % q.depth ≤ cqUnreleased q)) ∧
    (∃ (s : State), (cacheUsable s = true)) ∧
    (∃ (sq : Fin 256), ∃ desc, ∃ (s : State), (fetching s = true) ∧ (nextSq s = some sq.val) ∧ ∃ q, Tbl.look s.rings.sqs sq.val = some q ∧ ∃ tr, freeReg sq.val s = some tr ∧ (checkDescriptor q.cls desc s = 0) ∧ ((startsExit q.cls (dOpcode desc) && inPs2 s) = false)) ∧
    (∃ (sq : Fin 256), ∃ desc, ∃ (s : State), (fetching s = true) ∧ (nextSq s = some sq.val) ∧ ∃ q, Tbl.look s.rings.sqs sq.val = some q ∧ ∃ tr, freeReg sq.val s = some tr ∧ (checkDescriptor q.cls desc s ≠ 0) ∧ ((startsExit q.cls (dOpcode desc) && inPs2 s) = false)) ∧
    (∃ (sq : Fin 256), ∃ (s : State), (fetching s = true) ∧ (nextSq s = some sq.val) ∧ ∃ q, Tbl.look s.rings.sqs sq.val = some q ∧ (q.state = .running)) ∧
    (∃ tr, ∃ (s : State), ∃ k, Tbl.look s.rings.tasks tr = some k ∧ (k.phase = .fenced) ∧ ((∀ p ∈ s.rings.tasks, p.2.sq = k.sq → k.order ≤ p.2.order)) ∧ ((∀ p ∈ s.rings.heldRecs, p.2.sq ≠ k.sq)) ∧ (Tbl.look s.flash.ops tr = none)) ∧
    (∃ tr, ∃ (s : State), ∃ k, Tbl.look s.rings.tasks tr = some k ∧ (k.phase = .fenced) ∧ ((∀ p ∈ s.rings.tasks, p.2.sq = k.sq → k.order ≤ p.2.order)) ∧ ((∀ p ∈ s.rings.heldRecs, p.2.sq ≠ k.sq)) ∧ ∃ o, Tbl.look s.flash.ops tr = some o ∧ ∃ n, ∃ l, s.flash.locks.find? (fun p => p.2.holder == .command tr) = some (n, l) ∧ (lockClear n s = true)) ∧
    (∃ (value : W32), ∃ (s : State), (regWorks 1 true s = true) ∧ (s.rings.running = false) ∧ ∃ r, r = { s.rings with vectorReg := bits value.toNat 27 16, depthReg := bits value.toNat 15 0 } ∧ (adminOk r s = true)) ∧
    (∃ (s : State), (regWorks 1 true s = true)) ∧
    (∃ (s : State), ∃ q, Tbl.look s.rings.sqs 0 = some q ∧ (q.stopped = true) ∧ ((∀ p ∈ s.rings.tasks, p.2.sq ≠ 0))) :=
  ⟨⟨0x8000#58, ((let x := rngS 1 1 upS; { x with host := { x.host with lines := [0x8000, 0x8001] } })), ⟨by decide +kernel, by decide +kernel⟩⟩,
    ⟨0x8000#58, [9], 1, ((let x := rngS 1 1 upS; { x with host := { x.host with reading := [0x8000] } })), ⟨by decide +kernel, ⟨by decide +kernel, ⟨by decide +kernel, ⟨by decide +kernel, exGet (by decide +kernel) (⟨by decide +kernel, ⟨by decide +kernel, ⟨_, rfl, ⟨by decide +kernel, by decide +kernel⟩⟩⟩⟩)⟩⟩⟩⟩⟩,
    ⟨0x8001#58, [1], 1, ((let x := rngS 1 1 upS; { x with host := { x.host with reading := [0x8001] } })), ⟨by decide +kernel, ⟨by decide +kernel, ⟨by decide +kernel, ⟨by decide +kernel, exGet (by decide +kernel) (⟨by decide +kernel, ⟨by decide +kernel, ⟨_, rfl, ⟨by decide +kernel, ⟨by decide +kernel, by decide +kernel⟩⟩⟩⟩⟩)⟩⟩⟩⟩⟩,
    ⟨((let x := rngS 1 1 upS; { x with host := { x.host with lines := [0x8000, 0x8001] } })), by decide +kernel⟩,
    ⟨1, (desc 0x22 [(320, 2), (16, 1)]), (rngS 1 1 upS), ⟨by decide +kernel, ⟨by decide +kernel, exGet (by decide +kernel) (exGet (by decide +kernel) (⟨by decide +kernel, by decide +kernel⟩))⟩⟩⟩,
    ⟨1, (desc 0x07 []), (rngS 1 1 upS), ⟨by decide +kernel, ⟨by decide +kernel, exGet (by decide +kernel) (exGet (by decide +kernel) (⟨by decide +kernel, by decide +kernel⟩))⟩⟩⟩,
    ⟨1, (rngS 1 1 upS), ⟨by decide +kernel, ⟨by decide +kernel, exGet (by decide +kernel) (by decide +kernel)⟩⟩⟩,
    ⟨70, ((let x := taskS 0x22 [(320, 2)] upS; { x with rings := { x.rings with tasks := [(70, { sq := 1, order := 0, desc := desc 0x22 [(320, 2)], phase := .fenced, owes2 := false })] } })), exGet (by decide +kernel) (⟨by decide +kernel, ⟨by decide +kernel, ⟨by decide +kernel, by decide +kernel⟩⟩⟩)⟩,
    ⟨70, ((let x := taskS 0x20 [(320, 2), (328, 0), (392, 1)] (flashS [(1, sb .closed)] [(1000, .flash 1 5)] (fun f => { f with locks := [(4, { holder := .command 70, ns := 2, first := 0, last := 0, writes := false })], ops := [(70, dataOp 70 0x20 (desc 0x20 [(320, 2), (328, 0), (392, 1)]) [])] }) upS); { x with rings := { x.rings with tasks := [(70, { sq := 1, order := 0, desc := desc 0x20 [(320, 2), (328, 0), (392, 1)], phase := .fenced, owes2 := false })] } })), exGet (by decide +kernel) (⟨by decide +kernel, ⟨by decide +kernel, ⟨by decide +kernel, exGet (by decide +kernel) (exGet2 (by decide +kernel) (by decide +kernel))⟩⟩⟩)⟩,
    ⟨0x8FFF000F#32, ({ upS with rings := { upS.rings with sqBase := 0x100000, cqBase := 0x200000, sqDb := 0x300000, cqDb := 0x300040 } }), ⟨by decide +kernel, ⟨by decide +kernel, ⟨_, rfl, by decide +kernel⟩⟩⟩⟩,
    ⟨(rngS 0 0 upS), by decide +kernel⟩,
    ⟨((let x := rngS 0 0 upS; { x with rings := { x.rings with sqs := x.rings.sqs.map (fun p => (p.1, { p.2 with stopped := true })) } })), exGet (by decide +kernel) (⟨by decide +kernel, by decide +kernel⟩)⟩⟩

set_option maxRecDepth 20000 in
theorem witness_AdminCommandsComplete :
    (∃ tr, ∃ (s : State), ∃ task, readyTask tr 0x01 s = some task) ∧
    (∃ tr, ∃ (s : State), ∃ task, readyTask tr 0x02 s = some task ∧ (placeOk (dPtr1 task.desc) (dPtr0 task.desc, crDepth task.desc * 128) s = true) ∧ (Tbl.look s.rings.sqs (crNum task.desc) = none) ∧ ∃ cq, cq = dParam task.desc 351 344 ∧ (cq ≠ 0) ∧ ∃ c, Tbl.look s.rings.cqs cq = some c ∧ (boundTo cq s + 2 ≤ c.depth - 1) ∧ (s.host.cacheEn = true) ∧ (lineFits (dPtr1 task.desc) s = true)) ∧
    (∃ tr, ∃ (s : State), ∃ task, readyTask tr 0x03 s = some task ∧ (placeOk (dPtr1 task.desc) (dPtr0 task.desc, crDepth task.desc * 32) s = true) ∧ (Tbl.look s.rings.cqs (crNum task.desc) = none) ∧ (s.host.cacheEn = true) ∧ (lineFits (dPtr1 task.desc) s = true)) ∧
    (∃ tr, ∃ (s : State), ∃ task, readyTask tr 0x04 s = some task ∧ ∃ q, Tbl.look s.rings.sqs (crNum task.desc) = some q ∧ (q.state ≠ .deleting) ∧ (crNum task.desc ≠ 0)) ∧
    (∃ (sq : Fin 256), ∃ (s : State), ∃ tr, Tbl.look s.rings.deleting sq.val = some tr ∧ ((∀ p ∈ s.rings.tasks, p.2.sq ≠ sq.val)) ∧ ((∀ p ∈ s.rings.heldRecs, p.2.sq ≠ sq.val))) ∧
    (∃ tr, ∃ (s : State), ∃ task, readyTask tr 0x05 s = some task ∧ ∃ c, Tbl.look s.rings.cqs (crNum task.desc) = some c ∧ (crNum task.desc ≠ 0) ∧ (boundTo (crNum task.desc) s = 0) ∧ ((∀ p ∈ s.tensor.jobs, p.2.cq ≠ crNum task.desc))) ∧
    (∃ tr, ∃ (s : State), ∃ task, readyTask tr 0x07 s = some task ∧ (s.boot.dev = .ready)) ∧
    (∃ (s : State), ∃ tr, s.rings.drainTr = some tr ∧ (s.tensor.jobs = []) ∧ (ralidBusy s = false) ∧ (writesOpen s = false) ∧ (s.flash.trims = []) ∧ ((∀ p ∈ s.flash.slots, p.2.lost ≠ 0))) ∧
    (∃ tr, ∃ (s : State), ∃ task, readyTask tr 0x08 s = some task ∧ (s.boot.dev = .draining) ∧ (s.rings.drainTr = none)) :=
  ⟨⟨70, (taskS 0x01 [(64, 0x600000)] upS), exGet' (by decide +kernel)⟩,
    ⟨70, (taskS 0x02 [(64, 0x600000), (128, 0x700000), (320, 5), (328, 63), (344, 1), (352, 3), (355, 4)] upS), exGet (by decide +kernel) (⟨by decide +kernel, ⟨by decide +kernel, ⟨_, rfl, ⟨by decide +kernel, exGet (by decide +kernel) (⟨by decide +kernel, ⟨by decide +kernel, by decide +kernel⟩⟩)⟩⟩⟩⟩)⟩,
    ⟨70, (taskS 0x03 [(64, 0x600000), (128, 0x700000), (320, 5), (328, 63), (344, 0xFFF), (356, 4)] upS), exGet (by decide +kernel) (⟨by decide +kernel, ⟨by decide +kernel, ⟨by decide +kernel, by decide +kernel⟩⟩⟩)⟩,
    ⟨70, (taskS 0x04 [(320, 1)] upS), exGet (by decide +kernel) (exGet (by decide +kernel) (⟨by decide +kernel, by decide +kernel⟩))⟩,
    ⟨7, ((let x := taskS 0x04 [(320, 7)] upS; { x with rings := { x.rings with deleting := [(7, 70)] } })), exGet (by decide +kernel) (⟨by decide +kernel, by decide +kernel⟩)⟩,
    ⟨70, ((let x := taskS 0x05 [(320, 4)] upS; { x with rings := { x.rings with cqs := x.rings.cqs ++ [(4, { error := false, vector := 0xFFF, base := 0x380000, depth := 16, db := 0x200080, tail := 2, head := 2, phase := true, agg := 0, since := 0 })] } })), exGet (by decide +kernel) (exGet (by decide +kernel) (⟨by decide +kernel, ⟨by decide +kernel, by decide +kernel⟩⟩))⟩,
    ⟨70, (taskS 0x07 [] upS), exGet (by decide +kernel) (by decide +kernel)⟩,
    ⟨((let x := taskS 0x07 [] (bootS (fun b => { b with dev := .draining })); { x with rings := { x.rings with drainTr := some 70 }, flash := { x.flash with slots := [(0, { slot 1000 15 .unmapped with lost := 1 })] } })), exGet (by decide +kernel) (⟨by decide +kernel, ⟨by decide +kernel, ⟨by decide +kernel, ⟨by decide +kernel, by decide +kernel⟩⟩⟩⟩)⟩,
    ⟨70, (taskS 0x08 [] (bootS (fun b => { b with dev := .draining }))), exGet (by decide +kernel) (⟨by decide +kernel, by decide +kernel⟩)⟩⟩

set_option maxRecDepth 20000 in
theorem witness_PowerStateCommandsComplete :
    (∃ tr, ∃ (s : State), ∃ task, readyTask tr 0x06 s = some task ∧ (s.host.psPhase = .steady) ∧ (dParam task.desc 321 320 = s.host.pstate) ∧ ((s.host.pstate = 0 ∨ jobsBusy s = false ∧ (s.host.pstate = 2 → ralidActive s = false)))) ∧
    (∃ tr, ∃ (s : State), ∃ task, readyTask tr 0x06 s = some task ∧ (s.host.psPhase = .steady) ∧ ∃ target, target = dParam task.desc 321 320 ∧ (target ≠ 0) ∧ (jobsBusy s = false) ∧ ((target = 2 → ralidActive s = false)) ∧ (s.host.pstate = 0)) ∧
    (∃ tr, ∃ (s : State), ∃ task, readyTask tr 0x06 s = some task ∧ (s.host.psPhase = .steady) ∧ ∃ target, target = dParam task.desc 321 320 ∧ ((target = 0 ∨ jobsBusy s = false ∧ (target = 2 → ralidActive s = false))) ∧ (s.host.pstate ≠ 0) ∧ (target ≠ s.host.pstate)) ∧
    (∃ tr, ∃ (s : State), ∃ task, readyTask tr 0x06 s = some task ∧ (s.host.psPhase ≠ .steady)) ∧
    (∃ (s : State), ∃ p, s.host.psPhase = .entering p true) ∧
    (∃ (s : State), ∃ p, s.host.psPhase = .entering p false ∧ (s.rings.powerWait = [])) ∧
    (∃ (s : State), (s.host.psPhase = .exiting 0) ∧ (s.rings.powerWait = [])) ∧
    (∃ p, ∃ (s : State), (s.host.psPhase = .exiting (p + 1))) ∧
    (∃ (s : State), (s.host.psPhase = .exitingPs3) ∧ (s.rings.powerWait = [])) ∧
    (∃ (s : State), (alive s = true) ∧ (released 1 s = true) ∧ (s.host.linkUp = true) ∧ (s.host.d3hot = false)) ∧
    (∃ (s : State), (s.host.psPhase = .d3Stopping) ∧ (s.tensor.owner = none) ∧ (removedWork s = false)) ∧
    (∃ (s : State), (s.host.d3hot = true) ∧ (s.host.psPhase = .d3Stopping) ∧ (s.rings.powerWait = [])) ∧
    (∃ (s : State), (s.host.d3hot = true) ∧ (s.host.psPhase = .steady) ∧ (s.host.pstate = 3)) :=
  ⟨⟨70, (taskS 0x06 [(320, 2)] ((let x := upS; { x with host := { x.host with pstate := 2 } }))), exGet (by decide +kernel) (⟨by decide +kernel, ⟨by decide +kernel, by decide +kernel⟩⟩)⟩,
    ⟨70, (taskS 0x06 [(320, 2)] upS), exGet (by decide +kernel) (⟨by decide +kernel, ⟨_, rfl, ⟨by decide +kernel, ⟨by decide +kernel, ⟨by decide +kernel, by decide +kernel⟩⟩⟩⟩⟩)⟩,
    ⟨70, (taskS 0x06 [(320, 0)] ((let x := upS; { x with host := { x.host with pstate := 3 } }))), exGet (by decide +kernel) (⟨by decide +kernel, ⟨_, rfl, ⟨by decide +kernel, ⟨by decide +kernel, by decide +kernel⟩⟩⟩⟩)⟩,
    ⟨70, (taskS 0x06 [(320, 1)] ((let x := upS; { x with host := { x.host with psPhase := .entering 1 false } }))), exGet (by decide +kernel) (by decide +kernel)⟩,
    ⟨((let x := upS; { x with host := { x.host with psPhase := .entering 2 true } })), ⟨_, rfl⟩⟩,
    ⟨((let x := upS; { x with host := { x.host with psPhase := .entering 2 false } })), ⟨_, rfl, by decide +kernel⟩⟩,
    ⟨((let x := upS; { x with host := { x.host with pstate := 1, psPhase := .exiting 0 } })), ⟨by decide +kernel, by decide +kernel⟩⟩,
    ⟨1, ((let x := upS; { x with host := { x.host with pstate := 1, psPhase := .exiting 2 } })), by decide +kernel⟩,
    ⟨((let x := (let x := upS; { x with host := { x.host with pstate := 3, psPhase := .exitingPs3 } }); { x with power := { x.power with rails := { x.power.rails with vcore := false, vopt := false } } })), ⟨by decide +kernel, by decide +kernel⟩⟩,
    ⟨upS, ⟨by decide +kernel, ⟨by decide +kernel, ⟨by decide +kernel, by decide +kernel⟩⟩⟩⟩,
    ⟨((let x := upS; { x with host := { x.host with psPhase := .d3Stopping, d3hot := true } })), ⟨by decide +kernel, ⟨by decide +kernel, by decide +kernel⟩⟩⟩,
    ⟨((let x := upS; { x with host := { x.host with psPhase := .d3Stopping, d3hot := true } })), ⟨by decide +kernel, ⟨by decide +kernel, by decide +kernel⟩⟩⟩,
    ⟨((let x := upS; { x with host := { x.host with pstate := 3, d3hot := true } })), ⟨by decide +kernel, ⟨by decide +kernel, by decide +kernel⟩⟩⟩⟩

set_option maxRecDepth 20000 in
theorem witness_FlashSequencesComplete :
    (∃ (offset : BitVec 29), ∃ size, ∃ (value : W64), ∃ (s : State), (cflServes s = true) ∧ (s.host.d3hot = false) ∧ ∃ b, b = offset.toNat / 2 ^ 28 ∧ ∃ off, off = offset.toNat % 2 ^ 28 ∧ ∃ v, v = (if size = 1 then value.toNat % 256 else value.toNat) ∧ (¬ (size = 1 ∧ off = 0xA3C ∧ v = 0xF0)) ∧ ((cflBank b s).host = none) ∧ ((cflBank b s).run = none) ∧ (((cflBank b s).dev = none ∨ (cflBank b s).seq.cycles ≠ 0))) ∧
    (∃ (offset : BitVec 29), ∃ size, ∃ (value : W64), ∃ (s : State), (cflServes s = true) ∧ (s.host.d3hot = false) ∧ ∃ b, b = offset.toNat / 2 ^ 28 ∧ ∃ off, off = offset.toNat % 2 ^ 28 ∧ ∃ v, v = (if size = 1 then value.toNat % 256 else value.toNat) ∧ (¬ (size = 1 ∧ off = 0xA3C ∧ v = 0xF0)) ∧ (((cflBank b s).host.isSome = true ∨ (cflBank b s).run.isSome = true))) ∧
    (∃ (s : State), (cflServes s = true) ∧ (s.host.d3hot = false)) ∧
    (∃ (bank : Fin 2), ∃ (s : State), (cflServes s = true) ∧ ((cflBank bank.val s).seq.cycles ≠ 0)) ∧
    (∃ (bank : Fin 2), ∃ (s : State), ∃ page, ∃ words, (cflBank bank.val s).host = some (.program page words) ∧ (bankFree bank.val s = true) ∧ (cflProtected (16 * bank.val + page / 32768) s = false)) ∧
    (∃ (bank : Fin 2), ∃ (s : State), ∃ page, ∃ words, (cflBank bank.val s).host = some (.program page words) ∧ (bankFree bank.val s = true) ∧ (cflProtected (16 * bank.val + page / 32768) s = true)) ∧
    (∃ (bank : Fin 2), ∃ (s : State), ∃ sector, (cflBank bank.val s).host = some (.erase sector) ∧ (bankFree bank.val s = true) ∧ (cflProtected (16 * bank.val + sector / 64) s = false)) ∧
    (∃ (bank : Fin 2), ∃ (s : State), ∃ sector, (cflBank bank.val s).host = some (.erase sector) ∧ (bankFree bank.val s = true) ∧ (cflProtected (16 * bank.val + sector / 64) s = true)) ∧
    (∃ (bank : Fin 2), ∃ (s : State), ∃ code, (cflBank bank.val s).host = some (.contEnter code) ∧ (bankFree bank.val s = true)) ∧
    (∃ (bank : Fin 2), ∃ (s : State), ((cflBank bank.val s).host = some .contExit) ∧ (bankFree bank.val s = true)) ∧
    (∃ (bank : Fin 2), ∃ g, ∃ pw, ∃ (s : State), ((cflBank bank.val s).host = some (.prot 0x40 g pw 0#64)) ∧ (bankFree bank.val s = true) ∧ (g < 15) ∧ (cflLocked (16 * bank.val + g) s = false) ∧ ((currentRow bank.val s).2.passwords.getD g 0#64 = pw)) ∧
    (∃ (bank : Fin 2), ∃ g, ∃ pw, ∃ (s : State), ((cflBank bank.val s).host = some (.prot 0x41 g pw 0#64)) ∧ (bankFree bank.val s = true) ∧ (g < 15) ∧ (cflLocked (16 * bank.val + g) s = false) ∧ ((currentRow bank.val s).2.passwords.getD g 0#64 = pw)) ∧
    (∃ (bank : Fin 2), ∃ (s : State), ∃ g, ∃ pw, ∃ pw2, (cflBank bank.val s).host = some (.prot 0x42 g pw pw2) ∧ (bankFree bank.val s = true) ∧ (g < 15) ∧ (cflLocked (16 * bank.val + g) s = false) ∧ ((currentRow bank.val s).2.passwords.getD g 0#64 = pw)) ∧
    (∃ (bank : Fin 2), ∃ (s : State), ∃ op, (cflBank bank.val s).host = some op ∧ (bankFree bank.val s = true)) :=
  ⟨⟨268435456#29, 1, 158#64, ((cflS 1 (fun k => { k with seq := { cycles := 3, cmd := 32, page := none, words := [], group := none, pw := none } }) upS)), ⟨by decide +kernel, ⟨by decide +kernel, ⟨_, rfl, ⟨_, rfl, ⟨_, rfl, ⟨by decide +kernel, ⟨by decide +kernel, ⟨by decide +kernel, by decide +kernel⟩⟩⟩⟩⟩⟩⟩⟩⟩,
    ⟨0xA3C#29, 1, 0x6E#64, ((cflS 0 (fun k => { k with run := some (.erase 3) }) upS)), ⟨by decide +kernel, ⟨by decide +kernel, ⟨_, rfl, ⟨_, rfl, ⟨_, rfl, ⟨by decide +kernel, by decide +kernel⟩⟩⟩⟩⟩⟩⟩,
    ⟨((cflS 0 (fun k => { k with host := some (.erase 3) }) upS)), ⟨by decide +kernel, by decide +kernel⟩⟩,
    ⟨1, ((cflS 1 (fun k => { k with seq := { cycles := 3, cmd := 16, page := none, words := [], group := none, pw := none } }) upS)), ⟨by decide +kernel, by decide +kernel⟩⟩,
    ⟨1, ((cflS 1 (fun k => { k with host := some (.program 70000 [(1, 5#64)]) }) upS)), ⟨_, _, rfl, ⟨by decide +kernel, by decide +kernel⟩⟩⟩,
    ⟨1, ((cflS 1 (fun k => { k with host := some (.program (32768 * 15) [(1, 5#64)]) }) upS)), ⟨_, _, rfl, ⟨by decide +kernel, by decide +kernel⟩⟩⟩,
    ⟨1, ((cflS 1 (fun k => { k with host := some (.erase 70) }) upS)), ⟨_, rfl, ⟨by decide +kernel, by decide +kernel⟩⟩⟩,
    ⟨0, ((cflS 0 (fun k => { k with host := some (.erase 1000) }) upS)), ⟨_, rfl, ⟨by decide +kernel, by decide +kernel⟩⟩⟩,
    ⟨1, ((cflS 1 (fun k => { k with host := some (.contEnter 2) }) upS)), ⟨_, rfl, by decide +kernel⟩⟩,
    ⟨1, ((cflS 1 (fun k => { k with host := some .contExit, contCode := 2 }) upS)), ⟨by decide +kernel, by decide +kernel⟩⟩,
    ⟨1, 3, 103, ((cflS 1 (fun k => { k with host := some (.prot 0x40 3 103#64 0#64) }) (let x := upS; { x with cfl := { x.cfl with rows := [(2, { seq := 5, bits := 4, bitsN := 0xFFFB, passwords := (List.range 16).map (fun i => BitVec.ofNat 64 (i + 100)) })], fails := [(19, 2)] } }))), ⟨by decide +kernel, ⟨by decide +kernel, ⟨by decide +kernel, ⟨by decide +kernel, by decide +kernel⟩⟩⟩⟩⟩,
    ⟨1, 2, 102, ((cflS 1 (fun k => { k with host := some (.prot 0x41 2 102#64 0#64) }) (let x := upS; { x with cfl := { x.cfl with rows := [(2, { seq := 5, bits := 4, bitsN := 0xFFFB, passwords := (List.range 16).map (fun i => BitVec.ofNat 64 (i + 100)) })], fails := [(19, 2)] } }))), ⟨by decide +kernel, ⟨by decide +kernel, ⟨by decide +kernel, ⟨by decide +kernel, by decide +kernel⟩⟩⟩⟩⟩,
    ⟨1, ((cflS 1 (fun k => { k with host := some (.prot 0x42 3 103#64 7#64) }) (let x := upS; { x with cfl := { x.cfl with rows := [(2, { seq := 5, bits := 4, bitsN := 0xFFFB, passwords := (List.range 16).map (fun i => BitVec.ofNat 64 (i + 100)) })], fails := [(19, 2)] } }))), ⟨_, _, _, rfl, ⟨by decide +kernel, ⟨by decide +kernel, ⟨by decide +kernel, by decide +kernel⟩⟩⟩⟩⟩,
    ⟨1, ((cflS 1 (fun k => { k with host := some (.prot 0x40 3 4#64 0#64) }) (let x := upS; { x with cfl := { x.cfl with rows := [(2, { seq := 5, bits := 4, bitsN := 0xFFFB, passwords := (List.range 16).map (fun i => BitVec.ofNat 64 (i + 100)) })], fails := [(19, 2)] } }))), exGet (by decide +kernel) (by decide +kernel)⟩⟩

set_option maxRecDepth 20000 in
theorem witness_FlashPulsesComplete :
    (∃ (s : State), (cflServes s = true) ∧ (s.host.d3hot = false)) ∧
    (∃ (bank : Fin 2), ∃ (s : State), (cflHeld s = false) ∧ ∃ page, ∃ words, (cflBank bank.val s).run = some (.program page words)) ∧
    (∃ (bank : Fin 2), ∃ (s : State), (cflHeld s = false) ∧ ∃ page, ∃ words, (cflBank bank.val s).run = some (.program page words) ∧ ((cflBank bank.val s).pulses < 7)) ∧
    (∃ (bank : Fin 2), ∃ (s : State), (cflHeld s = false) ∧ ∃ page, ∃ words, (cflBank bank.val s).run = some (.program page words) ∧ (7 ≤ (cflBank bank.val s).pulses)) ∧
    (∃ (bank : Fin 2), ∃ (s : State), (cflHeld s = false) ∧ ∃ sector, (cflBank bank.val s).run = some (.erase sector) ∧ (sector < 1024)) ∧
    (∃ (bank : Fin 2), ∃ (s : State), (cflHeld s = false) ∧ ∃ sector, (cflBank bank.val s).run = some (.erase sector) ∧ ((cflBank bank.val s).pulses < 9)) ∧
    (∃ (bank : Fin 2), ∃ (s : State), (cflHeld s = false) ∧ ∃ sector, (cflBank bank.val s).run = some (.erase sector) ∧ ((cflBank bank.val s).pulses = 9)) ∧
    (∃ (bank : Fin 2), ∃ (s : State), (cflHeld s = false) ∧ ∃ cmd, ∃ g, ∃ pw, ∃ pw2, (cflBank bank.val s).run = some (.prot cmd g pw pw2) ∧ ((cflBank bank.val s).pulses ≤ 10)) ∧
    (∃ (s : State), (cflServes s = true) ∧ ((cflBank 0 s).busy = false) ∧ ((cflBank 0 s).seq.cycles < 3) ∧ (s.power.inputLoss = false) ∧ (s.cfl.layoutDue = true)) ∧
    (∃ (s : State), (cflServes s = true) ∧ ((cflBank 0 s).busy = false) ∧ ((cflBank 0 s).seq.cycles < 3) ∧ (s.power.inputLoss = false) ∧ (s.cfl.layoutDue = false) ∧ ∃ e, ∃ rest, s.evt.copyQueue = e :: rest) ∧
    (∃ (s : State), (regWorks 2 true s = true)) :=
  ⟨⟨((let x := upS; { x with cfl := { x.cfl with array := (List.range 700).map (fun i => (2 ^ 28 + 512 + i, BitVec.ofNat 8 (i % 200))) } })), ⟨by decide +kernel, by decide +kernel⟩⟩,
    ⟨1, ((cflS 1 (fun k => { k with run := some (.program 1 [(1, 5#64), (3, 6#64)]) }) (let x := upS; { x with cfl := { x.cfl with array := (List.range 700).map (fun i => (2 ^ 28 + 512 + i, BitVec.ofNat 8 (i % 200))) } }))), ⟨by decide +kernel, ⟨_, _, rfl⟩⟩⟩,
    ⟨1, ((cflS 1 (fun k => { k with run := some (.program 1 [(1, 5#64), (3, 6#64)]), pulses := 6 }) (let x := upS; { x with cfl := { x.cfl with array := (List.range 700).map (fun i => (2 ^ 28 + 512 + i, BitVec.ofNat 8 (i % 200))) } }))), ⟨by decide +kernel, ⟨_, _, rfl, by decide +kernel⟩⟩⟩,
    ⟨1, ((cflS 1 (fun k => { k with run := some (.program 1 [(1, 5#64), (3, 6#64)]), pulses := 8 }) (let x := upS; { x with cfl := { x.cfl with array := (List.range 700).map (fun i => (2 ^ 28 + 512 + i, BitVec.ofNat 8 (i % 200))) } }))), ⟨by decide +kernel, ⟨_, _, rfl, by decide +kernel⟩⟩⟩,
    ⟨1, ((cflS 1 (fun k => { k with run := some (.erase 0), count := 8 }) (let x := upS; { x with cfl := { x.cfl with array := (List.range 700).map (fun i => (2 ^ 28 + 512 + i, BitVec.ofNat 8 (i % 200))) } }))), ⟨by decide +kernel, ⟨_, rfl, by decide +kernel⟩⟩⟩,
    ⟨1, ((cflS 1 (fun k => { k with run := some (.erase 0), pulses := 8 }) (let x := upS; { x with cfl := { x.cfl with array := (List.range 700).map (fun i => (2 ^ 28 + 512 + i, BitVec.ofNat 8 (i % 200))) } }))), ⟨by decide +kernel, ⟨_, rfl, by decide +kernel⟩⟩⟩,
    ⟨1, ((cflS 1 (fun k => { k with run := some (.erase 0), pulses := 9 }) (let x := upS; { x with cfl := { x.cfl with array := (List.range 700).map (fun i => (2 ^ 28 + 512 + i, BitVec.ofNat 8 (i % 200))) } }))), ⟨by decide +kernel, ⟨_, rfl, by decide +kernel⟩⟩⟩,
    ⟨0, ((cflS 0 (fun k => { k with run := some (.prot 66 3 0#64 7#64) }) (let x := upS; { x with cfl := { x.cfl with rows := [(2, { seq := 5, bits := 4, bitsN := 0xFFFB, passwords := (List.range 16).map (fun i => BitVec.ofNat 64 (i + 100)) })], fails := [(19, 2)] } }))), ⟨by decide +kernel, ⟨_, _, _, _, rfl, by decide +kernel⟩⟩⟩,
    ⟨({ upS with cfl := { upS.cfl with layoutDue := true } }), ⟨by decide +kernel, ⟨by decide +kernel, ⟨by decide +kernel, ⟨by decide +kernel, by decide +kernel⟩⟩⟩⟩⟩,
    ⟨({ upS with evt := { upS.evt with copyQueue := [{ code := 1, seq := 3, time := 4, detail := 5 }] } }), ⟨by decide +kernel, ⟨by decide +kernel, ⟨by decide +kernel, ⟨by decide +kernel, ⟨by decide +kernel, ⟨_, _, rfl⟩⟩⟩⟩⟩⟩⟩,
    ⟨upS, by decide +kernel⟩⟩

set_option maxRecDepth 20000 in
theorem witness_IntegrityCommandsComplete :
    (∃ (addr : BitVec 40), ∃ (s : State), (alive s = true) ∧ (released 5 s = true) ∧ (addr.toNat < Config.stackedEnd) ∧ ∃ d, w72Decode (rawWord (addr.toNat / 8) s) = .clean d) ∧
    (∃ (addr : BitVec 40), ∃ (s : State), (alive s = true) ∧ (released 5 s = true) ∧ (addr.toNat < Config.stackedEnd) ∧ ∃ d, ∃ pos, w72Decode (rawWord (addr.toNat / 8) s) = .corrected d pos ∧ (addr.toNat / 8 ∉ s.ecc.known)) ∧
    (∃ (addr : BitVec 40), ∃ (s : State), (alive s = true) ∧ (released 5 s = true) ∧ (addr.toNat < Config.stackedEnd) ∧ ∃ syn, w72Decode (rawWord (addr.toNat / 8) s) = .uncorrectable syn) ∧
    (∃ (unit : Fin 16), ∃ (s : State), (alive s = true) ∧ (9 ≤ unit.val) ∧ (unit.val ≤ 14)) ∧
    (∃ (unit : Fin 16), ∃ (s : State), (alive s = true) ∧ (9 ≤ unit.val) ∧ (unit.val ≤ 14) ∧ (Tbl.lookD s.ecc.retries unit.val 0 = 0)) :=
  ⟨⟨0x1003#40, (withStk upS), ⟨by decide +kernel, ⟨by decide +kernel, ⟨by decide +kernel, ⟨_, rfl⟩⟩⟩⟩⟩,
    ⟨0x13#40, ((let x := withStk upS; { x with mem := { x.mem with werr := [(2, 1180591620717411303424#72)] } })), ⟨by decide +kernel, ⟨by decide +kernel, ⟨by decide +kernel, ⟨_, _, rfl, by decide +kernel⟩⟩⟩⟩⟩,
    ⟨0x13#40, ((let x := withStk upS; { x with mem := { x.mem with werr := [(2, 5#72)] } })), ⟨by decide +kernel, ⟨by decide +kernel, ⟨by decide +kernel, ⟨_, rfl⟩⟩⟩⟩⟩,
    ⟨14, upS, ⟨by decide +kernel, ⟨by decide +kernel, by decide +kernel⟩⟩⟩,
    ⟨14, upS, ⟨by decide +kernel, ⟨by decide +kernel, ⟨by decide +kernel, by decide +kernel⟩⟩⟩⟩⟩

set_option maxRecDepth 20000 in
theorem witness_SecurityCommandsComplete :
    (∃ tr, ∃ auth, ∃ (s : State), ∃ task, readyTask tr 0x18 s = some task ∧ (s.sec.fuse = none) ∧ (s.sec.debugUnlocked = false) ∧ ∃ k, blankSlot s = some k ∧ ((usableSlots s = [] ∨ authAccepted 0x18 auth s = true))) ∧
    (∃ tr, ∃ auth, ∃ (s : State), ∃ task, readyTask tr 0x19 s = some task ∧ (s.sec.fuse = none) ∧ (s.sec.debugUnlocked = false) ∧ (authAccepted 0x19 auth s = true) ∧ ∃ k, k = authField auth 16 1 ∧ (k < 4) ∧ (usableSlots s ≠ [k])) ∧
    (∃ tr, ∃ auth, ∃ (s : State), ∃ task, readyTask tr 0x1A s = some task ∧ (s.sec.fuse = none) ∧ (s.sec.debugUnlocked = false) ∧ (authAccepted 0x1A auth s = true)) ∧
    (∃ tr, ∃ auth, ∃ (s : State), ∃ task, readyTask tr 0x1B s = some task ∧ (s.sec.fuse = none) ∧ (authAccepted 0x1B auth s = true) ∧ ∃ n, n = authOperand auth % 128 ∧ (1 ≤ n) ∧ (n ≤ 64) ∧ (s.sec.svnMin ≤ n) ∧ (n ≤ imageSvn 0 s) ∧ (n ≤ imageSvn 1 s)) ∧
    (∃ tr, ∃ (s : State), ∃ task, readyTask tr 0x1C s = some task ∧ (s.sec.authFails < 8)) ∧
    (∃ tr, ∃ auth, ∃ (s : State), ∃ task, readyTask tr 0x1D s = some task ∧ (s.sec.debugDisable = false) ∧ (authAccepted 0x1D auth s = true)) ∧
    (∃ (s : State), ∃ f, s.sec.fuse = some f ∧ ∃ k, ∃ d, f.write = .enroll k d ∧ (1 < f.words)) ∧
    (∃ (s : State), ∃ f, s.sec.fuse = some f ∧ ∃ k, ∃ d, f.write = .enroll k d ∧ (f.words = 1)) ∧
    (∃ (s : State), ∃ f, s.sec.fuse = some f ∧ ∃ k, f.write = .revoke k ∧ (f.words = 1)) ∧
    (∃ (s : State), ∃ f, s.sec.fuse = some f ∧ ∃ a, ∃ b, f.write = .policy a b ∧ (f.words = 1)) ∧
    (∃ (s : State), ∃ f, s.sec.fuse = some f ∧ ∃ n, f.write = .svn n ∧ (f.words = 1)) :=
  ⟨⟨70, ({ block := [], keyMatches := false, signatureOk := false }), (taskS 0x18 [] upS), exGet (by decide +kernel) (⟨by decide +kernel, ⟨by decide +kernel, exGet (by decide +kernel) (by decide +kernel)⟩⟩)⟩,
    ⟨70, (auth 0x19 1 2), ((taskS 0x19 [] (secS (fun x => x) upS))), exGet (by decide +kernel) (⟨by decide +kernel, ⟨by decide +kernel, ⟨by decide +kernel, ⟨_, rfl, ⟨by decide +kernel, by decide +kernel⟩⟩⟩⟩⟩)⟩,
    ⟨70, (auth 0x1A 1 3), ((taskS 0x1A [] (secS (fun x => x) upS))), exGet (by decide +kernel) (⟨by decide +kernel, ⟨by decide +kernel, by decide +kernel⟩⟩)⟩,
    ⟨70, (auth 0x1B 1 7), ((taskS 0x1B [] (secS (fun x => { x with svnMin := 5 }) upS))), exGet (by decide +kernel) (⟨by decide +kernel, ⟨by decide +kernel, ⟨_, rfl, ⟨by decide +kernel, ⟨by decide +kernel, ⟨by decide +kernel, ⟨by decide +kernel, by decide +kernel⟩⟩⟩⟩⟩⟩⟩)⟩,
    ⟨70, (taskS 0x1C [] upS), exGet (by decide +kernel) (by decide +kernel)⟩,
    ⟨70, (auth 0x1D 255 0), ((taskS 0x1D [] (secS (fun x => x) upS))), exGet (by decide +kernel) (⟨by decide +kernel, by decide +kernel⟩)⟩,
    ⟨((taskS 0x18 [] (secS (fun x => { x with fuse := some { tr := 70, write := .enroll 3 0x123456789ABCDEF0123456789ABCDEF01234#512, words := 2 } }) upS))), exGet (by decide +kernel) (⟨_, _, rfl, by decide +kernel⟩)⟩,
    ⟨((taskS 0x18 [] (secS (fun x => { x with fuse := some { tr := 70, write := .enroll 3 0x1234#512, words := 1 } }) upS))), exGet (by decide +kernel) (⟨_, _, rfl, by decide +kernel⟩)⟩,
    ⟨((taskS 0x19 [] (secS (fun x => { x with fuse := some { tr := 70, write := .revoke 2, words := 1 } }) upS))), exGet (by decide +kernel) (⟨_, rfl, by decide +kernel⟩)⟩,
    ⟨((taskS 0x1A [] (secS (fun x => { x with fuse := some { tr := 70, write := .policy true false, words := 1 } }) upS))), exGet (by decide +kernel) (⟨_, _, rfl, by decide +kernel⟩)⟩,
    ⟨((taskS 0x1B [] (secS (fun x => { x with fuse := some { tr := 70, write := .svn 9, words := 1 } }) upS))), exGet (by decide +kernel) (⟨_, rfl, by decide +kernel⟩)⟩⟩

set_option maxRecDepth 20000 in
theorem witness_AttestationCommandsComplete :
    (∃ (s : State), (doeServed s = true)) ∧
    (∃ (s : State), (doeServed s = true) ∧ (s.sec.spdm.version = true)) ∧
    (∃ (s : State), (doeServed s = true) ∧ (s.sec.spdm.caps = true)) ∧
    (∃ offset, ∃ len, ∃ (s : State), (doeServed s = true) ∧ (s.sec.spdm.algs = true) ∧ ∃ msg, msg = Config.spdmBody 0x02 (leBytes 2 ((Config.certificateChain s.sec.measurement).length - offset)) ++ ((Config.certificateChain s.sec.measurement).drop offset).take len) ∧
    (∃ (s : State), (doeServed s = true) ∧ (s.sec.spdm.algs = true)) ∧
    (∃ (index : Byte), ∃ (s : State), (doeServed s = true) ∧ (s.sec.spdm.algs = true) ∧ ((index.toNat ≤ 6 ∨ index = 0xFF#8))) ∧
    (∃ (s : State), (doeServed s = true) ∧ (s.sec.spdm.algs = true)) ∧
    (∃ (s : State), (doeServed s = true) ∧ (s.sec.spdm.algs = true) ∧ (s.sec.spdm.session = true)) ∧
    (∃ (s : State), (doeServed s = true) ∧ (s.sec.spdm.algs = true) ∧ (s.sec.spdm.session = true)) ∧
    (∃ (seq : BitVec 16), ∃ (s : State), (doeServed s = true) ∧ (s.sec.spdm.algs = true) ∧ (s.sec.spdm.chunks ≠ []) ∧ (s.sec.spdm.chunkSeq = seq.toNat)) :=
  ⟨⟨({ upS with sec := { upS.sec with spdm := { upS.sec.spdm with version := true, caps := true, algs := true } } }), by decide +kernel⟩,
    ⟨({ upS with sec := { upS.sec with spdm := { upS.sec.spdm with version := true } } }), ⟨by decide +kernel, by decide +kernel⟩⟩,
    ⟨({ upS with sec := { upS.sec with spdm := { upS.sec.spdm with version := true, caps := true } } }), ⟨by decide +kernel, by decide +kernel⟩⟩,
    ⟨0, 5, ({ upS with sec := { upS.sec with spdm := { upS.sec.spdm with version := true, caps := true, algs := true } } }), ⟨by decide +kernel, ⟨by decide +kernel, ⟨_, rfl⟩⟩⟩⟩,
    ⟨({ upS with sec := { upS.sec with spdm := { upS.sec.spdm with version := true, caps := true, algs := true } } }), ⟨by decide +kernel, by decide +kernel⟩⟩,
    ⟨255#8, ({ upS with sec := { upS.sec with spdm := { upS.sec.spdm with version := true, caps := true, algs := true } } }), ⟨by decide +kernel, ⟨by decide +kernel, by decide +kernel⟩⟩⟩,
    ⟨({ upS with sec := { upS.sec with spdm := { upS.sec.spdm with version := true, caps := true, algs := true } } }), ⟨by decide +kernel, by decide +kernel⟩⟩,
    ⟨({ upS with sec := { upS.sec with spdm := { upS.sec.spdm with version := true, caps := true, algs := true, session := true } } }), ⟨by decide +kernel, ⟨by decide +kernel, by decide +kernel⟩⟩⟩,
    ⟨({ upS with sec := { upS.sec with spdm := { upS.sec.spdm with version := true, caps := true, algs := true, session := true } } }), ⟨by decide +kernel, ⟨by decide +kernel, by decide +kernel⟩⟩⟩,
    ⟨2, ({ upS with sec := { upS.sec with spdm := { upS.sec.spdm with version := true, caps := true, algs := true, chunks := List.replicate 5000 7, chunkSeq := 2 } } }), ⟨by decide +kernel, ⟨by decide +kernel, ⟨by decide +kernel, by decide +kernel⟩⟩⟩⟩⟩

set_option maxRecDepth 20000 in
theorem witness_EventCommandsComplete :
    (∃ (value : W32), ∃ (s : State), (regWorks 1 true s = true) ∧ (s.evt.running = false) ∧ (63 ≤ bits value.toNat 15 0) ∧ ((bits value.toNat 27 16 ≤ 2047 ∨ bits value.toNat 27 16 = 0xFFF)) ∧ (s.evt.base % 4096 = 0) ∧ (s.evt.buffer = []) ∧ (s.evt.lostPending = 0)) ∧
    (∃ (value : W32), ∃ (s : State), (regWorks 1 true s = true) ∧ (s.evt.running = false) ∧ ((bits value.toNat 15 0 < 63 ∨ 2047 < bits value.toNat 27 16 ∧ bits value.toNat 27 16 ≠ 0xFFF))) ∧
    (∃ (s : State), (regWorks 1 true s = true)) ∧
    (∃ (value : W32), ∃ (s : State), (regWorks 1 true s = true) ∧ (s.evt.running = true) ∧ ∃ h, h = bits value.toNat 15 0 ∧ (h ≤ s.evt.depthM1) ∧ ((h + (s.evt.depthM1 + 1) - s.evt.head) % (s.evt.depthM1 + 1) ≤ gbUnreleased s.evt)) ∧
    (∃ (value : W32), ∃ (s : State), (regWorks 1 true s = true) ∧ (s.evt.running = true) ∧ ∃ h, h = bits value.toNat 15 0 ∧ ((s.evt.depthM1 < h ∨ gbUnreleased s.evt < (h + (s.evt.depthM1 + 1) - s.evt.head) % (s.evt.depthM1 + 1)))) ∧
    (∃ (s : State), (regWorks 7 false s = true)) ∧
    (∃ (s : State), (winMode s.tensor.qctrlInUse = 1)) ∧
    (∃ (s : State), (regWorks 1 true s = true)) ∧
    (∃ (bank : Fin 7), ∃ (s : State), (winMode (winOf bank.val s).inUse = 1)) ∧
    (∃ (s : State), (regWorks 1 true s = true)) ∧
    (∃ (request : List Byte), ∃ (s : State), (doeServed s = true) ∧ (request.take 4 = [0x01#8, 0xFE#8, 0x00#8, 0x00#8]) ∧ ∃ first, first = leNat ((request.drop 4).take 4) ∧ ∃ count, count = leNat ((request.drop 8).take 2) ∧ (1 ≤ count) ∧ (count ≤ 2000)) ∧
    (∃ (request : List Byte), ∃ (s : State), (doeServed s = true) ∧ (request.take 4 = [0x02#8, 0xFD#8, 0x00#8, 0x00#8])) ∧
    (∃ (request : List Byte), ∃ (s : State), (doeServed s = true) ∧ (request.take 4 = [0x03#8, 0xFC#8, 0x00#8, 0x00#8]) ∧ ∃ bank, bank = (request.getD 4 0#8).toNat ∧ ∃ inst, inst = (request.getD 5 0#8).toNat ∧ (inst < bankInstances bank)) :=
  ⟨⟨0x8005003F#32, upS, ⟨by decide +kernel, ⟨by decide +kernel, ⟨by decide +kernel, ⟨by decide +kernel, ⟨by decide +kernel, ⟨by decide +kernel, by decide +kernel⟩⟩⟩⟩⟩⟩⟩,
    ⟨0x8800003F#32, upS, ⟨by decide +kernel, ⟨by decide +kernel, by decide +kernel⟩⟩⟩,
    ⟨({ upS with evt := { upS.evt with running := true, enable := true } }), by decide +kernel⟩,
    ⟨5#32, ({ upS with evt := { upS.evt with running := true, head := 3, tail := 8 } }), ⟨by decide +kernel, ⟨by decide +kernel, ⟨_, rfl, ⟨by decide +kernel, by decide +kernel⟩⟩⟩⟩⟩,
    ⟨0xFFFF#32, ({ upS with evt := { upS.evt with running := true, head := 3, tail := 8 } }), ⟨by decide +kernel, ⟨by decide +kernel, ⟨_, rfl, by decide +kernel⟩⟩⟩⟩,
    ⟨({ (ownS job0 []) with tensor := { (ownS job0 []).tensor with qbanks := [(3, { QBank.zero with sat := 4 })] } }), by decide +kernel⟩,
    ⟨({ (ownS job0 []) with tensor := { (ownS job0 []).tensor with qctrlInUse := 0x40000000#32, qctrl := 0x58000000#32, qbanks := [(3, { QBank.zero with sat := 4 })] } }), by decide +kernel⟩,
    ⟨({ upS with evt := { upS.evt with counters := [(ctrKey 6 0 2, 5)] } }), by decide +kernel⟩,
    ⟨4, ({ upS with evt := { upS.evt with wins := [(4, { reg := 0x18000000#32, inUse := 0x58000000#32, seq := 4 })], counters := [(ctrKey 4 15 31, 5)] } }), by decide +kernel⟩,
    ⟨upS, by decide +kernel⟩,
    ⟨([1, 0xFE, 0, 0, 0, 0, 0, 0, 4, 0]), ({ upS with cfl := { upS.cfl with array := Mem.write onesByte [] (968 * 0x40000) (({ code := 1, seq := 3, time := 4, detail := 5 } : EvtRec).bytes false) } }), ⟨by decide +kernel, ⟨by decide +kernel, ⟨_, rfl, ⟨_, rfl, ⟨by decide +kernel, by decide +kernel⟩⟩⟩⟩⟩⟩,
    ⟨([2, 0xFD, 0, 0]), upS, ⟨by decide +kernel, by decide +kernel⟩⟩,
    ⟨([3, 0xFC, 0, 0, 6, 0]), upS, ⟨by decide +kernel, ⟨by decide +kernel, ⟨_, rfl, ⟨_, rfl, by decide +kernel⟩⟩⟩⟩⟩⟩


/-! The checks of `Instr.wellFormed`: one ill-formed command for each, refused. -/

/-- A flit one word short. -/
def shortFlit : Flit := { fecOk := true, words := List.replicate 31 0 }

theorem test_wf_sensors : Instr.wellFormed (.sensorSample [1, 2]) = false := by decide
theorem test_wf_short_links : Instr.wellFormed (.reservationFrameEnd [(3, 7), (3, 8)]) = false := by decide
theorem test_wf_task_register : Instr.wellFormed (.jobAbort 999999) = false := by decide
theorem test_wf_embed_list : Instr.wellFormed (.embedSubmit 70 (List.replicate 31 0)) = false := by decide
theorem test_wf_embed_list_empty : Instr.wellFormed (.embedSubmit 70 []) = false := by decide
theorem test_wf_context : Instr.wellFormed (.stagingReadComplete 999999 .ok []) = false := by decide
theorem test_wf_query_buffer : Instr.wellFormed (.query 70 []) = false := by decide
theorem test_wf_insert_buffer : Instr.wellFormed (.insert 70 []) = false := by decide
theorem test_wf_node : Instr.wellFormed (.insertComplete (2 ^ 31)) = false := by decide
theorem test_wf_data_flit : Instr.wellFormed (.dataFlitReceive 0 shortFlit) = false := by decide
theorem test_wf_idle_flit : Instr.wellFormed (.idleFlitReceive 0 shortFlit) = false := by decide
theorem test_wf_replay_flit : Instr.wellFormed (.replayRequestReceive 0 shortFlit) = false := by decide
theorem test_wf_page_outcome : Instr.wellFormed (.nandReadComplete 0 { steps := [none], busError := false }) = false := by decide
theorem test_wf_superblock : Instr.wellFormed (.nandProgramComplete 98304 0 1) = false ∧ Instr.wellFormed (.nandEraseComplete 98304 0 1) = false ∧
    Instr.wellFormed (.backgroundErase 98304) = false := by decide
theorem test_wf_link : Instr.wellFormed (.linkUp 0 1 true false) = false ∧ Instr.wellFormed (.linkUp 1 3 true false) = false := by decide
theorem test_wf_l0p : Instr.wellFormed (.l0pWidthChange 3) = false := by decide
theorem test_wf_register : Instr.wellFormed (.registerWrite 4 true 0) = false ∧ Instr.wellFormed (.registerWrite 2 false 0) = false ∧
    Instr.wellFormed (.registerWrite 4 false (2 ^ 32)) = false := by decide
theorem test_wf_window_write : Instr.wellFormed (.hdmHostWrite 60 (List.replicate 8 0) false) = false ∧
    Instr.wellFormed (.hdmHostWrite 0 [] false) = false := by decide
theorem test_wf_write_back : Instr.wellFormed (.bisnpResponse 0 [0]) = false := by decide
theorem test_wf_doorbell_line : Instr.wellFormed (.doorbellLineReturn 0 [0]) = false := by decide
theorem test_wf_write_buffer : Instr.wellFormed (.write 70 [0]) = false := by decide
theorem test_wf_image_message : Instr.wellFormed (.imageTransfer [] { keyDigestOk := true, bodyDigestOk := true, signatureOk := true }) = false := by decide
theorem test_wf_store_size : Instr.wellFormed (.cflCycleStore 0 3 0) = false ∧ Instr.wellFormed (.cflCycleStore 0 1 256) = false := by decide
theorem test_wf_flash_window : Instr.wellFormed (.cflWindowRead 0 0) = false := by decide
theorem test_wf_patrol : Instr.wellFormed (.patrolRead 4 0 0) = false := by decide
theorem test_wf_copy_unit : Instr.wellFormed (.copyRefetchComplete 8 .clean 0 0 0) = false := by decide
theorem test_wf_authorisation : Instr.wellFormed (.secRevoke 70 (auth 1 1 1)) = false ∧
    Instr.wellFormed (.secEnroll 70 0 (auth 1 1 1)) = false := by decide +kernel
theorem test_wf_management : Instr.wellFormed (.gbRead [0, 0]) = false ∧ Instr.wellFormed (.telemetryRead [0]) = false ∧
    Instr.wellFormed (.counterRead [0, 0, 0, 0]) = false := by decide

/-! Single commands. The expected values are worked out from the rules by hand. -/

/-- The opcode table gives its rows no bits, so no word spells a command. -/
theorem test_no_words : decodeTableWord 32 0 = none := rfl

/-- Bytes that a vector command stores. -/
def vecRun (c : Instr) (sl : BitVec 128) (x y : List Byte) (a n : Nat) : List Byte :=
  let m := Mem.write zeroByte (Mem.write zeroByte [] 0 x) 64 y
  match exec c (tileS { Tile.fresh with mem := m, vec := some (entry sl) }) with
  | .next t => Mem.read zeroByte (tileOf 0 t).mem a n
  | _ => []

/-- 1.0 + 2.0 = 3.0 in FP32. -/
theorem test_add_fp32 : vecRun (.vecAdd 0) (vecSl 1 8 8 1) [0, 0, 0x80, 0x3F] [0, 0, 0, 0x40] 4096 4 = [0, 0, 0x40, 0x40] := by decide +kernel
/-- 3.0 - 1.0 = 2.0: the second source is taken from the first. -/
theorem test_sub_fp32 : vecRun (.vecSub 0) (vecSl 2 8 8 1) [0, 0, 0x40, 0x40] [0, 0, 0x80, 0x3F] 4096 4 = [0, 0, 0, 0x40] := by decide +kernel
/-- minimumNumber of a quiet NaN and -1.0 is -1.0. -/
theorem test_minnum_nan : vecRun (.vecMinnum 0) (vecSl 9 8 8 1) [0, 0, 0xC0, 0x7F] [0, 0, 0x80, 0xBF] 4096 4 = [0, 0, 0x80, 0xBF] := by decide +kernel
/-- 37.8 rounds to 37.75 in BF16 (the worked block of chapter 02). -/
theorem test_cvt_bf16 : vecRun (.vecCvt 0) (vecSl 18 8 0 1) [0x33, 0x33, 0x17, 0x42] [] 4096 2 = [0x17, 0x42] := by decide +kernel
/-- 2^31 - 1 and 1 wrap to -2^31. -/
theorem test_iadd_wraps : vecRun (.vecIadd 0) (vecSl 40 10 10 1) [0xFF, 0xFF, 0xFF, 0x7F] [1, 0, 0, 0] 4096 4 = [0, 0, 0, 0x80] := by decide +kernel
/-- -8 shifted right by 33, which is 1 mod 32, keeps its sign: -4. -/
theorem test_shr_arithmetic : vecRun (.vecShr 0) (vecSl 47 10 10 1) [0xF8, 0xFF, 0xFF, 0xFF] [33, 0, 0, 0] 4096 4 = [0xFC, 0xFF, 0xFF, 0xFF] := by
  decide +kernel

end Sys2Proof.Tests
end

section
/-! SUPPORT. Operations below the commands that leave the supply and governor (`power`) as they are, beyond those of the
frame laws. Where an operation answers a pair, `snd_of_eq` turns the state that a match binds into the answer's second part,
so that the operation's own law applies; an operation that may answer none has its law under the hypothesis that it answers. -/

namespace Sys2Proof.Machine

@[simp] theorem readRows_power (as : List Nat) (n : Nat) (s : State) : (readRows as n s).2.power = s.power := by
  induction as generalizing s with
  | nil => rfl
  | cons a rest ih =>
    unfold readRows
    repeat' (split <;> obtain rfl := snd_of_eq ‹_ = (_, _)›)
    all_goals simp [ih]

@[simp] theorem fetchUnits_power (t k a : Nat) (s : State) : (fetchUnits t k a s).power = s.power := by
  induction k generalizing a s with
  | zero => rfl
  | succ k ih =>
    unfold fetchUnits
    dsimp only
    split
    · rfl
    split
    · rfl
    split
    · simp
    split
    · simp
    split <;> obtain rfl := snd_of_eq ‹_ = (_, _)› <;> simp [ih]

theorem openSb_power {t : Stream} {k n : Nat} {s s' : State} (h : openSb t k s = some (n, s')) : s'.power = s.power := by
  unfold openSb at h
  repeat' split at h
  all_goals cases h
  simp

theorem placeUnit_power {t : Stream} {u : MediaUnit} {src : RowSource} {n : Nat} {s s' : State}
    (h : placeUnit t u src s = some (n, s')) : s'.power = s.power := by
  unfold placeUnit at h
  dsimp only at h
  split at h
  · cases h
  next m s1 hfound =>
    have hs1 : s1.power = s.power := by
      split at hfound
      · cases hfound; rfl
      · exact openSb_power hfound
    split at h
    · cases h
    · cases h; simpa using hs1

theorem writeUnit_power {idx pool n : Nat} {blocks : List (Nat × List Byte)} {s s' : State}
    (h : writeUnit idx pool blocks s = some (n, s')) : s'.power = s.power := by
  unfold writeUnit at h
  split at h
  · cases h
  · cases h; simp

theorem cellarAdd_power {cls idx : Nat} {place : LedgerEntry} {f : CellarFor} {s s' : State}
    (h : cellarAdd cls idx place f s = some s') : s'.power = s.power := by
  unfold cellarAdd at h
  dsimp only at h
  split at h
  · cases h
  · cases h; rfl

theorem takeLock_power {l : RangeLock} {n : Nat} {s s' : State} (h : takeLock l s = some (n, s')) : s'.power = s.power := by
  unfold takeLock at h
  split at h
  · cases h
  · cases h; rfl

@[simp] theorem deliverUnit_power (o : StoreOp) (base u lost : Nat) (bus : Bool) (s : State) :
    (deliverUnit o base u lost bus s).2.power = s.power := by
  unfold deliverUnit
  refine foldl_snd_power _ (fun acc b => ?_) _ _
  dsimp only
  repeat' split
  all_goals simp

@[simp] theorem startReads_power (o : StoreOp) (base : Nat) (s : State) : (startReads o base s).power = s.power := by
  unfold startReads
  simp only [finishOp_frame, setOp_power]
  refine foldl_snd_power _ (fun acc u => ?_) _ _
  split <;> simp

@[simp] theorem startWrites_power (o : StoreOp) (x : Namespace) (s : State) : (startWrites o x s).power = s.power := by
  have hwrites : ∀ (blocks : Nat → List (Nat × List Byte)) (us : List Nat) (p : List Nat × State),
      (us.foldl (fun acc u => match writeUnit (x.base + u) x.pool (blocks u) acc.2 with
        | some (n, s1) => (acc.1 ++ [n], s1)
        | none => acc) p).2.power = p.2.power := by
    refine fun blocks => foldl_snd_power _ (fun acc u => ?_)
    split
    next hwrite => exact writeUnit_power hwrite
    · rfl
  unfold startWrites
  dsimp only
  split
  · rfl
  simp only [finishOp_frame, setOp_power, ite_power, nextSeq_frame, ite_self, foldl_power, unmapUnit_frame, implies_true]
  exact hwrites _ _ _

@[simp] theorem startOp_power (o : StoreOp) (s : State) : (startOp o s).power = s.power := by
  unfold startOp
  split <;> simp

@[simp] theorem dataCommand_power (tr opcode : Nat) (data : List Byte) (s : State) :
    (dataCommand tr opcode data s).power = s.power := by
  unfold dataCommand
  dsimp only
  split
  · rfl
  split
  · simp
  split
  · simp
  split
  · simp
  split
  · rfl
  next hlock => simp [takeLock_power hlock]

theorem cellarUnit_power {t : Nat} {inbound : Bool} {q : QEntry} {j : Job} {x : Namespace} {u : Nat} {s s' : State}
    (h : cellarUnit t inbound q j x u s = some s') : s'.power = s.power := by
  simp only [cellarUnit, Option.ite_none_left_eq_some, Option.some.injEq] at h
  obtain ⟨-, rfl⟩ := h
  rfl

@[simp] theorem cellarUnits_power (t : Nat) (inbound : Bool) (q : QEntry) (j : Job) (x : Namespace) (k u : Nat) (s : State) :
    (cellarUnits t inbound q j x k u s).2.power = s.power := by
  induction k generalizing u s with
  | zero => rfl
  | succ k ih =>
    unfold cellarUnits
    split
    next hunit => rw [ih, cellarUnit_power hunit]
    · rfl

@[simp] theorem cellarSlot_power (t : Nat) (inbound : Bool) (s : State) : (cellarSlot t inbound s).power = s.power := by
  unfold cellarSlot
  split
  next j q _ _ =>
    split
    · rfl
    dsimp only
    split
    · rfl
    next n s1 hheld =>
      have hs1 : s1.power = s.power := by
        split at hheld
        · cases hheld; rfl
        · exact takeLock_power hheld
      simp [hs1]
  · rfl

@[simp] theorem completeSlotUnit_power (n : Nat) (r : CellarReq) (t : Nat) (inbound : Bool) (entry addr : Nat) (fua : Bool)
    (s : State) : (completeSlotUnit n r t inbound entry addr fua s).power = s.power := by
  unfold completeSlotUnit
  dsimp only
  split
  · simp
  split
  · split
    · rfl
    · simp
    · split <;> obtain rfl := snd_of_eq ‹_ = (_, _)› <;> simp
  · split
    · split <;> obtain rfl := snd_of_eq ‹_ = (_, _)›
      · simp
      · split
        · rfl
        next hwrite => split <;> simp [writeUnit_power hwrite]
    · simp
    · rfl

@[simp] theorem closeSb_power (n : Nat) (s : State) : (closeSb n s).power = s.power := by
  unfold closeSb
  dsimp only
  simp only [settleSb_frame, foldl_power, implies_true]
  rw [foldl_power]
  · simp
  · intro acc c
    split
    · rfl
    · simp

@[simp] theorem enterTrims_power (s : State) : (enterTrims s).power = s.power := by
  unfold enterTrims
  refine foldl_power _ (fun acc p => ?_) _ _
  dsimp only
  split
  · rfl
  split
  next hplace => exact placeUnit_power hplace
  · rfl

@[simp] theorem copyUnit_power (t : Stream) (sb off : Nat) (s : State) : (copyUnit t sb off s).power = s.power := by
  unfold copyUnit
  split
  · rfl
  split
  next hplace => exact placeUnit_power hplace
  · rfl

@[simp] theorem relocateNext_power (sb counter : Nat) (s : State) : (relocateNext sb counter s).power = s.power := by
  unfold relocateNext
  split <;> simp

@[simp] theorem setAddr_power (list k : Nat) (s : State) : (setAddr list k s).2.power = s.power := by
  induction k generalizing s with
  | zero => rfl
  | succ k ih =>
    unfold setAddr
    repeat' (split <;> obtain rfl := snd_of_eq ‹_ = (_, _)›)
    all_goals simp [ih]

@[simp] theorem readSetNo_power (j : Job) (k : Nat) (s : State) : (readSetNo j k s).2.power = s.power := by
  unfold readSetNo
  repeat' (split <;> obtain rfl := snd_of_eq ‹_ = (_, _)›)
  all_goals simp

@[simp] theorem checkLr_power (d : BitVec 1024) (k lr big : Nat) (s : State) : (checkLr d k lr big s).2.power = s.power := by
  induction k generalizing lr big s with
  | zero => rfl
  | succ k ih =>
    unfold checkLr
    split <;> obtain rfl := snd_of_eq ‹_ = (_, _)›
    · simp
    split
    · simp
    split <;> obtain rfl := snd_of_eq ‹_ = (_, _)›
    · simp
    split <;> simp [ih]

theorem restoreRanges_power {rs : List Nat} {a : Nat} {s s' : State} (h : restoreRanges rs a s = some s') :
    s'.power = s.power := by
  induction rs generalizing a s with
  | nil => cases h; rfl
  | cons r rs ih =>
    unfold restoreRanges at h
    split at h
    · cases h
    next hread => obtain rfl := snd_of_eq hread; simpa using ih h

@[simp] theorem finishBoundary_power (s : State) : (finishBoundary s).power = s.power := by
  unfold finishBoundary
  dsimp only
  split
  · simp
  split
  · simp
  rw [foldl_power]
  · simp
  · intro acc t
    split <;> simp

@[simp] theorem boundaryDue_power (s : State) : (boundaryDue s).power = s.power := by
  unfold boundaryDue
  split <;> simp

@[simp] theorem boundaryResume_power (s : State) : (boundaryResume s).power = s.power := by
  simp [boundaryResume]

theorem loadTables_power {e : Nat} {j : Job} {s s' : State} (h : loadTables e j s = .ok s') : s'.power = s.power := by
  unfold loadTables at h
  split at h
  · cases h
  next hentry =>
  split at h
  · cases h
  · cases h
  next hmap =>
  split at h
  · cases h
  · cases h
  next hitins =>
  split at h
  · cases h
  next hcaravans =>
  dsimp only at h
  split at h
  · cases h
  · cases h
  · cases h
  next hset =>
  cases h
  simp [snd_of_eq hset, snd_of_eq hcaravans, snd_of_eq hitins, snd_of_eq hmap, snd_of_eq hentry]

@[simp] theorem readExchange_power (j : Job) (a : Nat) (s : State) : (readExchange j a s).2.power = s.power := by
  unfold readExchange
  split <;> obtain rfl := snd_of_eq ‹_ = (_, _)›
  · simp
  dsimp only
  split
  · simp
  split <;> obtain rfl := snd_of_eq ‹_ = (_, _)›
  · simp
  split <;> obtain rfl := snd_of_eq ‹_ = (_, _)›
  · simp
  split <;> simp

@[simp] theorem enterExchange_power (e : Nat) (j : Job) (table next : Nat) (kept : List Region) (s : State) :
    (enterExchange e j table next kept s).power = s.power := by
  unfold enterExchange
  split <;> obtain rfl := snd_of_eq ‹_ = (_, _)› <;> simp

theorem sendPieces_power {e ctx dst k src dest n : Nat} {s s' : State} (h : sendPieces e ctx dst k src dest n s = some s') :
    s'.power = s.power := by
  induction k generalizing src dest n s with
  | zero => cases h; rfl
  | succ k ih =>
    unfold sendPieces at h
    dsimp only at h
    split at h
    · cases h
    next hread => obtain rfl := snd_of_eq hread; simpa using ih h

theorem sendOuts_power {e : Nat} {j : Job} {xs : List Nat} {s s' : State} (h : sendOuts e j xs s = .ok s') :
    s'.power = s.power := by
  induction xs generalizing s with
  | nil => cases h; rfl
  | cons x xs ih =>
    unfold sendOuts at h
    dsimp only at h
    split at h
    · cases h
    split at h
    · cases h
    next hsend => rw [ih h, sendPieces_power hsend]

@[simp] theorem phaseEnd_power (e : Nat) (j : Job) (s : State) : (phaseEnd e j s).power = s.power := by
  unfold phaseEnd
  split <;> obtain rfl := snd_of_eq ‹_ = (_, _)›
  · simp
  split
  · simp
  split <;> simp

@[simp] theorem checkBarriers_power (s : State) : (checkBarriers s).power = s.power := by
  unfold checkBarriers
  dsimp only
  repeat' split
  all_goals simp

@[simp] theorem submitCheck_power (addr : Nat) (lib : LibVerdict) (extra : ExtraCheck) (s : State)
    (hextra : ∀ d x, (extra d x).2.power = x.power) : (submitCheck addr lib extra s).2.power = s.power := by
  unfold submitCheck
  split
  · rfl
  split <;> obtain rfl := snd_of_eq ‹_ = (_, _)›
  · simp
  dsimp only
  split
  · simp
  split
  · simp
  split <;> obtain rfl := snd_of_eq ‹_ = (_, _)›
  · simp [hextra]
  split <;> obtain rfl := snd_of_eq ‹_ = (_, _)›
  · simp [hextra]
  · simp [hextra]
  split
  · simp [hextra]
  have hsaved : ∀ (p : Prop) [Decidable p] (a n v : Nat) (x : State),
      (if p then readNat a n x else (some v, x)).2.power = x.power := by
    intro p _ a n v x
    split <;> simp
  split <;> obtain rfl := snd_of_eq ‹_ = (_, _)›
  · simp [hextra, hsaved]
  split
  · simp [hextra, hsaved]
  split <;> obtain rfl := snd_of_eq ‹_ = (_, _)› <;> simp [hextra, hsaved]

theorem admitJob_power {tr : Nat} {t : Task} {d : BitVec 1024} {hv n : Nat} {signed : List (Nat × Nat × Nat)} {s s' : State}
    (h : admitJob tr t d hv signed s = .ok (n, s')) : s'.power = s.power := by
  unfold admitJob at h
  dsimp only at h
  split at h
  · cases h
  split at h
  · cases h
  split at h
  · cases h
  · cases h; simp

@[simp] theorem withJob_power (tr : Nat) (t : Task) (f : Nat → Job → State) (s : State)
    (h : ∀ e j, (f e j).power = s.power) : (withJob tr t f s).power = s.power := by
  unfold withJob
  split <;> simp [h]

theorem flagLands_power {e : Nat} {j : Job} {f : FlagSetOp} {s s' : State} (h : flagLands e j f s = some s') :
    s'.power = s.power := by
  unfold flagLands at h
  dsimp only at h
  repeat' split at h
  all_goals cases h
  all_goals simp

@[simp] theorem checkReads_power (l : List (Nat × Nat)) (s : State) : (checkReads l s).2.power = s.power := by
  induction l generalizing s with
  | nil => rfl
  | cons p rest ih =>
    unfold checkReads
    split <;> obtain rfl := snd_of_eq ‹_ = (_, _)› <;> simp [ih]

@[simp] theorem expandNode_power (x : RalIndex) (e l sketch node : Nat) (queue : List Candidate) (s : State) :
    (expandNode x e l sketch node queue s).2.power = s.power := by
  unfold expandNode
  dsimp only
  split <;> obtain rfl := snd_of_eq ‹_ = (_, _)›
  · simp
  split <;> simp

@[simp] theorem requestVector_power (x : RalIndex) (q : Nat) (vec : List Nat) (lateAll : Bool) (c : RankEntry) (s : State) :
    (requestVector x q vec lateAll c s).2.power = s.power := by
  unfold requestVector
  split
  · rfl
  dsimp only
  split
  · split <;> obtain rfl := snd_of_eq ‹_ = (_, _)› <;> simp
  split
  · rfl
  split
  next hadd => exact cellarAdd_power hadd
  · rfl

@[simp] theorem requestAll_power (x : RalIndex) (q : Nat) (vec : List Nat) (lateAll : Bool) (l : List RankEntry) (s : State) :
    (requestAll x q vec lateAll l s).2.power = s.power := by
  induction l generalizing s with
  | nil => rfl
  | cons c cs ih =>
    unfold requestAll
    dsimp only
    rw [ih]
    split <;> simp

@[simp] theorem topUpReads_power (s : State) : (topUpReads s).power = s.power := by
  unfold topUpReads
  split
  · rfl
  refine foldl_power _ (fun acc p => ?_) _ _
  dsimp only
  split <;> simp

@[simp] theorem endWalk_power (i : RalIndex) (q : Nat) (x : Query) (e : Nat) (s : State) : (endWalk i q x e s).power = s.power := by
  simp [endWalk]

@[simp] theorem epochCorrupt_power (s : State) : (epochCorrupt s).power = s.power := by
  unfold epochCorrupt
  extract_lets s0 s1 f status s2 s3 s4
  have h1 : s1.power = s.power := by
    refine (foldl_power _ (fun acc q => ?_) _ _).trans (by simp [s0])
    split <;> simp
  have h2 : s2.power = s.power := by simp [s2, f, h1]
  have h3 : s3.power = s.power := by
    unfold s3
    split <;> simp [h2]
  have h4 : s4.power = s.power := by
    unfold s4
    split <;> simp [h3]
  simp [h4]

@[simp] theorem abortWalkers_power (group : Nat) (s : State) : (abortWalkers group s).power = s.power := by
  unfold abortWalkers
  refine foldl_power _ (fun acc p => ?_) _ _
  split <;> simp

@[simp] theorem startWalk_power (i : RalIndex) (q : Nat) (x : Query) (s : State) : (startWalk i q x s).power = s.power := by
  unfold startWalk
  split <;> obtain rfl := snd_of_eq ‹_ = (_, _)› <;> simp

@[simp] theorem insertWalk_power (i : RalIndex) (e l sketch fuel : Nat) (queue : List Candidate) (s : State) :
    (insertWalk i e l sketch fuel queue s).2.power = s.power := by
  induction fuel generalizing queue s with
  | zero => rfl
  | succ fuel ih =>
    unfold insertWalk
    split
    · rfl
    split <;> obtain rfl := snd_of_eq ‹_ = (_, _)› <;> simp [ih]

theorem writeVector_power {i : RalIndex} {n : Nat} {vector : List Byte} {s s' : State} (h : writeVector i n vector s = some s') :
    s'.power = s.power := by
  unfold writeVector at h
  split at h
  · cases h; rfl
  dsimp only at h
  obtain ⟨⟨m, _⟩, hwrite, rfl⟩ := Option.map_eq_some_iff.mp h
  rw [writeUnit_power hwrite, foldl_snd_power _ (fun acc b => by simp)]

theorem startInsert_power {tr : Option Nat} {key : Nat} {vector : List Byte} {sketch : Nat} {i : RalIndex} {s s' : State}
    (h : startInsert tr key vector sketch i s = some s') : s'.power = s.power := by
  have hvector : ∀ (n : Nat) (x : State), ((writeVector i n vector x).getD x).power = x.power := by
    intro n x
    cases hv : writeVector i n vector x with
    | none => rfl
    | some y => exact writeVector_power hv
  unfold startInsert at h
  split at h
  · cases h
  · cases h
    simp [hvector]

@[simp] theorem copyUnits_power (k idx at_ bytes : Nat) (s : State) : (copyUnits k idx at_ bytes s).2.power = s.power := by
  induction k generalizing idx at_ bytes s with
  | zero => rfl
  | succ k ih =>
    unfold copyUnits
    split <;> obtain rfl := snd_of_eq ‹_ = (_, _)› <;> simp [ih]

@[simp] theorem copyImage_power (a : Attach) (s : State) : (copyImage a s).2.power = s.power := by
  unfold copyImage
  refine foldl_snd_power _ (fun acc p => ?_) _ _
  split <;> simp

@[simp] theorem deliverRead_power (n : Nat) (r : CellarReq) (lost : Nat) (bus : Bool) (s : State) :
    (deliverRead n r lost bus s).power = s.power := by
  unfold deliverRead
  dsimp only
  split
  · split
    · split
      · simp
      split
      · simp
      split <;> obtain rfl := snd_of_eq ‹_ = (_, _)› <;> simp
    · simp
  · split
    · simp
    split <;> simp
  · rfl

@[simp] theorem admitDoc_power (s : State) (d : EmbedDoc) : (admitDoc s d).power = s.power := by
  unfold admitDoc
  split
  · rfl
  · simp only [setEmbed_power, putStacked_frame]

@[simp] theorem admitCommands_power (l : List Nat) (s : State) : (admitCommands l s).power = s.power := by
  induction l generalizing s with
  | nil => rfl
  | cons tr rest ih =>
    unfold admitCommands
    split
    · rfl
    split
    · rfl
    · simp [ih]

@[simp] theorem admitAndSelect_power (s : State) : (admitAndSelect s).power = s.power := by
  simp [admitAndSelect]

@[simp] theorem rerunAdmission_power (s : State) : (rerunAdmission s).power = s.power := by
  unfold rerunAdmission
  split
  · rfl
  dsimp only
  split <;> simp

theorem handInsert_power {key : Nat} {vec : List Byte} {sketch : Nat} {s s' : State} {b : Bool}
    (h : handInsert key vec sketch s = some (b, s')) : s'.power = s.power := by
  unfold handInsert at h
  split at h
  · cases h; rfl
  split at h
  · cases h; rfl
  split at h
  · cases h
  split at h
  next hstart => cases h; exact startInsert_power hstart
  · cases h; rfl

theorem endSlot_power {k : Nat} {b : BatchSlot} {s s' : State} (h : endSlot k b s = .done s') : s'.power = s.power := by
  unfold endSlot at h
  split at h
  · cases h; rfl
  dsimp only at h
  split at h <;> obtain rfl := snd_of_eq ‹_ = (_, _)›
  · cases h; simp
  split at h
  · cases h; simp
  split at h
  · cases h; simp
  split at h
  · cases h; simp
  split at h
  · cases h
  next hhand => cases h; simp [handInsert_power hhand]
  next hhand => cases h; simp [handInsert_power hhand]

@[simp] theorem endSlots_power (l : List (Nat × BatchSlot)) (s : State) : (endSlots l s).power = s.power := by
  induction l generalizing s with
  | nil => rfl
  | cons p rest ih =>
    unfold endSlots
    split
    · rfl
    next hdone => simp [ih, endSlot_power hdone]

@[simp] theorem runBoundary_power (s : State) : (runBoundary s).power = s.power := by
  unfold runBoundary
  dsimp only
  split <;> simp

@[simp] theorem releaseDelayed_power (s : State) : (releaseDelayed s).power = s.power := by
  unfold releaseDelayed
  refine foldl_power _ (fun acc p => ?_) _ _
  split <;> simp

@[simp] theorem reachPs0_power (s : State) : (reachPs0 s).power = s.power := by
  simp [reachPs0]

@[simp] theorem failChannel_power (mine : Nat → Bool) (s : State) : (failChannel mine s).power = s.power := by
  unfold failChannel
  refine foldl_power _ (fun acc p => ?_) _ _
  split <;> simp

@[simp] theorem resetWalkers_power (g : Nat) (byHost : Bool) (s : State) : (resetWalkers g byHost s).power = s.power := by
  simp [resetWalkers]

@[simp] theorem resetChannel_power (c : Nat) (byHost : Bool) (s : State) : (resetChannel c byHost s).power = s.power := by
  simp [resetChannel]

@[simp] theorem resetPorters_power (g : Nat) (byHost : Bool) (s : State) : (resetPorters g byHost s).power = s.power := by
  simp [resetPorters]

@[simp] theorem writeRstBlock_power (v : W32) (s : State) : (writeRstBlock v s).power = s.power := by
  unfold writeRstBlock
  dsimp only
  split
  · simp
  split <;> simp

theorem recordLine_power {line : Nat} {exclusive : Bool} {s s' : State} (h : recordLine line exclusive s = some s') :
    s'.power = s.power := by
  unfold recordLine at h
  repeat' split at h
  all_goals cases h
  all_goals rfl

@[simp] theorem resumeWaiting_power (s : State) : (resumeWaiting s).power = s.power := by
  unfold resumeWaiting
  split
  · rfl
  split
  next hline => simp [recordLine_power hline]
  · rfl

@[simp] theorem copyLost_power (unit tile entry : Nat) (s : State) : (copyLost unit tile entry s).power = s.power := by
  unfold copyLost
  repeat' split
  all_goals simp

end Sys2Proof.Machine
end

section
/-! SUPPORT. Operations that do write the supply and governor, and carry the sampled straps (R14) over: resets, supply
changes, and the register writes that lead to them. -/

namespace Sys2Proof.Machine

@[simp] theorem ite_straps (p : Prop) [Decidable p] (a b : Power) :
    (if p then a else b).straps = if p then a.straps else b.straps := by
  split <;> rfl

@[simp] theorem foldl_straps {α : Type} (f : State → α → State) (h : ∀ x a, (f x a).power.straps = x.power.straps) (l : List α)
    (s : State) : (l.foldl f s).power.straps = s.power.straps := by
  induction l generalizing s with
  | nil => rfl
  | cons a l ih => rw [List.foldl_cons, ih, h]

@[simp] theorem regWrite_straps (stage : Nat) (lantern : Bool) (f : State → State) (s : State)
    (h : ∀ x, (f x).power.straps = x.power.straps) : (regWrite stage lantern f s).power.straps = s.power.straps := by
  unfold regWrite
  split
  · exact h s
  · rfl

@[simp] theorem clearPower_straps (s : State) : (clearPower s).power.straps = s.power.straps := rfl

@[simp] theorem clearAll_straps (rails : Bool) (s : State) : (clearAll rails s).power.straps = s.power.straps := by
  simp [clearAll]

@[simp] theorem dropRails_straps (s : State) : (dropRails s).power.straps = s.power.straps := by
  unfold dropRails
  split <;> simp

@[simp] theorem fullReset_straps (source : Nat) (rails : Bool) (s : State) :
    (fullReset source rails s).power.straps = s.power.straps := by
  unfold fullReset
  dsimp only
  split
  · simp
  · simp only [startRelease_frame, dropRails_straps]
    split <;> simp

@[simp] theorem startInputLoss_straps (s : State) : (startInputLoss s).power.straps = s.power.straps := by
  unfold startInputLoss
  split <;> simp

@[simp] theorem thermalTrip_straps (s : State) : (thermalTrip s).power.straps = s.power.straps := by
  unfold thermalTrip
  dsimp only
  repeat' split
  all_goals simp

@[simp] theorem toggleTrip_straps (s : State) : (toggleTrip s).power.straps = s.power.straps := by
  unfold toggleTrip
  split <;> simp

@[simp] theorem tryConnect_straps (vinMv : Nat) (s : State) : (tryConnect vinMv s).power.straps = s.power.straps := by
  unfold tryConnect
  split <;> simp

@[simp] theorem noteOvervoltage_straps (s : State) : (noteOvervoltage s).power.straps = s.power.straps := by
  unfold noteOvervoltage
  split <;> simp

@[simp] theorem noteSupply_straps (vinMv : Nat) (s : State) : (noteSupply vinMv s).power.straps = s.power.straps := by
  unfold noteSupply
  dsimp only
  repeat' split
  all_goals simp

@[simp] theorem writePwrLimit_straps (v : W32) (s : State) : (writePwrLimit v s).power.straps = s.power.straps := by
  unfold writePwrLimit
  split <;> simp

@[simp] theorem opticsSample_straps (n : Nat) (t : Int) (s : State) : (opticsSample n t s).power.straps = s.power.straps := by
  unfold opticsSample
  dsimp only
  repeat' split
  all_goals simp

@[simp] theorem writeRstCtrl_straps (v : W32) (s : State) : (writeRstCtrl v s).power.straps = s.power.straps := by
  unfold writeRstCtrl
  split
  · simp
  · rfl

@[simp] theorem takeUnit_straps (u : PulseUnit) (s : State) : (takeUnit u s).power.straps = s.power.straps := by
  cases u with
  | configFlash =>
    simp only [takeUnit, dropRails_straps, setBoot_power]
    split <;> simp
  | channel c => simp [takeUnit]

@[simp] theorem authorised_straps (tr op : Nat) (auth : AuthInput) (f : State → State) (s : State)
    (h : ∀ x, (f x).power.straps = x.power.straps) : (authorised tr op auth f s).power.straps = s.power.straps := by
  simp [authorised, h]

@[simp] theorem leavePs3_straps (s : State) : (leavePs3 s).power.straps = s.power.straps := by
  simp [leavePs3]

@[simp] theorem write32_straps (off : Nat) (v : W32) (s : State) : (write32 off v s).power.straps = s.power.straps := by
  simp [write32]

@[simp] theorem store4_straps (off : Nat) (v : W32) (s : State) : (store4 off v s).power.straps = s.power.straps := by
  unfold store4
  dsimp only
  split
  · simp
  split
  · simp
  split <;> simp

@[simp] theorem store8_straps (off : Nat) (v : W64) (s : State) : (store8 off v s).power.straps = s.power.straps := by
  unfold store8
  split <;> simp

end Sys2Proof.Machine
end

section
/-! SUPPORT. What the outcome of a command leaves as it is. -/

namespace Sys2Proof.Machine

/-- An outcome leaves `g` of the state as it is in `s`: its next state, where it has one, has the same `g`. -/
def Leaves {α : Type} (g : State → α) (s : State) (o : Host.Outcome State Fault Refusal) : Prop :=
  ∀ t, o = .next t → g t = g s

@[simp] theorem leaves_next {α : Type} (g : State → α) (s t : State) : Leaves g s (.next t) ↔ g t = g s := by
  constructor
  · exact fun h => h t rfl
  · rintro h _ ⟨⟩
    exact h

@[simp] theorem leaves_ite {α : Type} (g : State → α) (s : State) (p : Prop) [Decidable p]
    (a b : Host.Outcome State Fault Refusal) : Leaves g s (if p then a else b) ↔ (p → Leaves g s a) ∧ (¬ p → Leaves g s b) := by
  split <;> simp_all

theorem Leaves.trans {α : Type} {g : State → α} {s s' : State} {o : Host.Outcome State Fault Refusal} (ho : Leaves g s' o)
    (h : g s' = g s) : Leaves g s o := fun t ht => (ho t ht).trans h

end Sys2Proof.Machine
end

section
/-! SUPPORT. The commands that do not reach the supply and governor, chapter by chapter. -/

namespace Sys2Proof.Machine

/-! Module, connectors and ratings. -/

@[simp] theorem execCoolantFault_leaves_power (cause : CoolantCause) (s : State) :
    Leaves State.power s (execCoolantFault cause s) := by
  simp [execCoolantFault]

/-! Itineraries. -/

@[simp] theorem execItineraryFetchReturn_leaves_power (tile : Fin 128) (units : Nat) (s : State) :
    Leaves State.power s (execItineraryFetchReturn tile units s) := by
  simp [execItineraryFetchReturn]

@[simp] theorem execWordDispatch_leaves_power (tile : Fin 128) (s : State) : Leaves State.power s (execWordDispatch tile s) := by
  unfold execWordDispatch
  dsimp only
  (repeat' split) <;> simp

@[simp] theorem execDispatcherUnblock_leaves_power (tile : Fin 128) (s : State) :
    Leaves State.power s (execDispatcherUnblock tile s) := by
  unfold execDispatcherUnblock
  dsimp only
  (repeat' split) <;> simp

@[simp] theorem execEngineEntryStart_leaves_power (tile : Fin 128) (eng : Engine) (s : State) :
    Leaves State.power s (execEngineEntryStart tile eng s) := by
  unfold execEngineEntryStart
  dsimp only
  (repeat' split) <;> simp

@[simp] theorem execNullEntryRun_leaves_power (tile : Fin 128) (eng : Engine) (s : State) :
    Leaves State.power s (execNullEntryRun tile eng s) := by
  simp [execNullEntryRun]

@[simp] theorem execNop_leaves_power (tile : Fin 128) (eng : Engine) (s : State) : Leaves State.power s (execNop tile eng s) := by
  simp [execNop]

@[simp] theorem execWaitTimeout_leaves_power (tile : Fin 128) (who : WaitEntity) (s : State) :
    Leaves State.power s (execWaitTimeout tile who s) := by
  unfold execWaitTimeout
  dsimp only
  (repeat' split) <;> simp

/-! Grid. -/

@[simp] theorem execGrid_leaves_power (tile : Fin 128) (s : State) : Leaves State.power s (execGrid tile s) := by
  unfold execGrid
  dsimp only
  (repeat' split) <;> simp

@[simp] theorem execGridStreamStart_leaves_power (tile : Fin 128) (s : State) :
    Leaves State.power s (execGridStreamStart tile s) := by
  unfold execGridStreamStart
  dsimp only
  (repeat' split) <;> simp

@[simp] theorem execGridRowDeliver_leaves_power (tile : Fin 128) (s : State) :
    Leaves State.power s (execGridRowDeliver tile s) := by
  unfold execGridRowDeliver
  dsimp only
  (repeat' split) <;> simp

@[simp] theorem execCorrectionPassStart_leaves_power (tile : Fin 128) (s : State) :
    Leaves State.power s (execCorrectionPassStart tile s) := by
  simp [execCorrectionPassStart]

@[simp] theorem execCorrectionPassEnd_leaves_power (tile : Fin 128) (s : State) :
    Leaves State.power s (execCorrectionPassEnd tile s) := by
  unfold execCorrectionPassEnd
  dsimp only
  (repeat' split) <;> simp

@[simp] theorem execEpilogueRowEnter_leaves_power (tile : Fin 128) (s : State) :
    Leaves State.power s (execEpilogueRowEnter tile s) := by
  unfold execEpilogueRowEnter
  dsimp only
  (repeat' split) <;> simp

@[simp] theorem execGridComplete_leaves_power (tile : Fin 128) (s : State) : Leaves State.power s (execGridComplete tile s) := by
  unfold execGridComplete
  dsimp only
  (repeat' split) <;> simp

/-! Vector unit. Every operation but VEC_CVT is `runVec` of its own function. -/

@[simp] theorem runVec_leaves_power (t op : Nat) (f : Rm → BitVec 128 → Tile → QBank → VecResult) (s : State) :
    Leaves State.power s (runVec t op f s) := by
  unfold runVec
  split <;> simp

@[simp] theorem execVecCvt_leaves_power (tile : Fin 128) (s : State) : Leaves State.power s (execVecCvt tile s) :=
  (runVec_leaves_power _ _ _ _).trans (by simp)

@[simp] theorem execVecOpComplete_leaves_power (tile : Fin 128) (s : State) :
    Leaves State.power s (execVecOpComplete tile s) := by
  simp [execVecOpComplete]

/-! SYNC and LOOP slots, drains and barriers. -/

@[simp] theorem execSetctr_leaves_power (tile : Fin 128) (s : State) : Leaves State.power s (execSetctr tile s) := by
  unfold execSetctr
  (repeat' split) <;> simp

@[simp] theorem execAddctr_leaves_power (tile : Fin 128) (s : State) : Leaves State.power s (execAddctr tile s) := by
  unfold execAddctr
  (repeat' split) <;> simp

@[simp] theorem execCmpset_leaves_power (tile : Fin 128) (s : State) : Leaves State.power s (execCmpset tile s) := by
  unfold execCmpset
  (repeat' split) <;> simp

@[simp] theorem execFence_leaves_power (tile : Fin 128) (s : State) : Leaves State.power s (execFence tile s) := by
  unfold execFence
  (repeat' split) <;> simp

@[simp] theorem execStepSlot_leaves_power (tile : Fin 128) (s : State) : Leaves State.power s (execStepSlot tile s) := by
  unfold execStepSlot
  (repeat' split) <;> simp

@[simp] theorem execPhaseSlot_leaves_power (tile : Fin 128) (s : State) : Leaves State.power s (execPhaseSlot tile s) := by
  unfold execPhaseSlot
  (repeat' split) <;> simp

@[simp] theorem execEndSlot_leaves_power (tile : Fin 128) (s : State) : Leaves State.power s (execEndSlot tile s) := by
  unfold execEndSlot
  (repeat' split) <;> simp

@[simp] theorem execFlaginit_leaves_power (tile : Fin 128) (s : State) : Leaves State.power s (execFlaginit tile s) := by
  unfold execFlaginit
  (repeat' split) <;> simp

@[simp] theorem execLoopBegin_leaves_power (tile : Fin 128) (s : State) : Leaves State.power s (execLoopBegin tile s) := by
  unfold execLoopBegin
  dsimp only
  (repeat' split) <;> simp

@[simp] theorem execTileDrainComplete_leaves_power (tile : Fin 128) (s : State) :
    Leaves State.power s (execTileDrainComplete tile s) := by
  unfold execTileDrainComplete
  dsimp only
  split
  · simp
  split <;> simp

@[simp] theorem execStepBarrierEnd_leaves_power (s : State) : Leaves State.power s (execStepBarrierEnd s) := by
  simp [execStepBarrierEnd]

@[simp] theorem execStepSetLoadComplete_leaves_power (s : State) : Leaves State.power s (execStepSetLoadComplete s) := by
  unfold execStepSetLoadComplete
  (repeat' split) <;> simp

/-! Porters, Caravans, Cellar Porters. -/

@[simp] theorem execLoad_leaves_power (tile : Fin 128) (s : State) : Leaves State.power s (execLoad tile s) := by
  unfold execLoad
  dsimp only
  split
  · simp
  split
  · simp
  split <;> obtain rfl := snd_of_eq ‹_ = (_, _)› <;> simp

@[simp] theorem execStore_leaves_power (tile : Fin 128) (s : State) : Leaves State.power s (execStore tile s) := by
  unfold execStore
  dsimp only
  (repeat' split) <;> simp

@[simp] theorem execCaravanLoad_leaves_power (tile : Fin 128) (s : State) : Leaves State.power s (execCaravanLoad tile s) := by
  simp [execCaravanLoad]

@[simp] theorem execCaravanRecv_leaves_power (tile : Fin 128) (s : State) : Leaves State.power s (execCaravanRecv tile s) := by
  simp [execCaravanRecv]

@[simp] theorem execCellarRead_leaves_power (tile : Fin 128) (s : State) : Leaves State.power s (execCellarRead tile s) := by
  simp [execCellarRead]

@[simp] theorem execCellarWrite_leaves_power (tile : Fin 128) (s : State) : Leaves State.power s (execCellarWrite tile s) := by
  simp [execCellarWrite]

@[simp] theorem execRemoteGet_leaves_power (tile : Fin 128) (s : State) : Leaves State.power s (execRemoteGet tile s) := by
  simp [execRemoteGet]

@[simp] theorem execRemotePut_leaves_power (tile : Fin 128) (s : State) : Leaves State.power s (execRemotePut tile s) := by
  simp [execRemotePut]

@[simp] theorem execRemoteAdd_leaves_power (tile : Fin 128) (s : State) : Leaves State.power s (execRemoteAdd tile s) := by
  simp [execRemoteAdd]

@[simp] theorem execReduce_leaves_power (tile : Fin 128) (s : State) : Leaves State.power s (execReduce tile s) := by
  unfold execReduce
  dsimp only
  (repeat' split) <;> simp

@[simp] theorem execFlagTile_leaves_power (tile : Fin 128) (s : State) : Leaves State.power s (execFlagTile tile s) := by
  unfold execFlagTile
  dsimp only
  (repeat' split) <;> simp

@[simp] theorem execFlagRemote_leaves_power (tile : Fin 128) (s : State) : Leaves State.power s (execFlagRemote tile s) := by
  unfold execFlagRemote
  dsimp only
  (repeat' split) <;> simp

@[simp] theorem execPorterEntryComplete_leaves_power (tile : Fin 128) (eng : Engine) (s : State) :
    Leaves State.power s (execPorterEntryComplete tile eng s) := by
  unfold execPorterEntryComplete
  dsimp only
  (repeat' split) <;> simp

@[simp] theorem execCaravanDeliveryStart_leaves_power (group : Fin 256) (s : State) :
    Leaves State.power s (execCaravanDeliveryStart group s) := by
  unfold execCaravanDeliveryStart
  extract_lets +onlyGivenNames g
  split
  · simp
  split
  · simp
  extract_lets +onlyGivenNames ms joined
  split
  · simp
  extract_lets +onlyGivenNames differs bad
  split
  · simp
  extract_lets +onlyGivenNames start s1
  have hstart : ∀ op t acc, (start op t acc).power = acc.power := by
    intro op t acc
    unfold start
    split <;> simp
  simp [s1, hstart]

@[simp] theorem execCaravanDeliveryComplete_leaves_power (group : Fin 256) (s : State) :
    Leaves State.power s (execCaravanDeliveryComplete group s) := by
  unfold execCaravanDeliveryComplete
  dsimp only
  split
  · simp
  split
  · simp
  split
  · simp
  split
  · simp
  split <;> obtain rfl := snd_of_eq ‹_ = (_, _)› <;> rw [leaves_next, foldl_power]
  · simp
  · intro acc p
    split <;> simp
  · simp
  · intro acc p
    split <;> simp

@[simp] theorem execCellarUnitIssue_leaves_power (porter : Fin 32) (s : State) :
    Leaves State.power s (execCellarUnitIssue porter s) := by
  unfold execCellarUnitIssue
  dsimp only
  (repeat' split) <;> simp

@[simp] theorem execCellarRequestDeadline_leaves_power (request : Nat) (s : State) :
    Leaves State.power s (execCellarRequestDeadline request s) := by
  unfold execCellarRequestDeadline
  (repeat' split) <;> simp

@[simp] theorem execCellarUnitComplete_leaves_power (request : Nat) (s : State) :
    Leaves State.power s (execCellarUnitComplete request s) := by
  unfold execCellarUnitComplete
  (repeat' split) <;> simp

@[simp] theorem execReservationFrameEnd_leaves_power (short : List (Fin 64 × Fin 256)) (s : State) :
    Leaves State.power s (execReservationFrameEnd short s) := by
  unfold execReservationFrameEnd
  dsimp only
  (repeat' split) <;> simp

@[simp] theorem execPtrAreaWrite_leaves_power (index : Fin 8) (value : W32) (s : State) :
    Leaves State.power s (execPtrAreaWrite index value s) := by
  simp [execPtrAreaWrite]

@[simp] theorem execPtrResvWrite_leaves_power (index : Fin 64) (value : W64) (s : State) :
    Leaves State.power s (execPtrResvWrite index value s) := by
  simp [execPtrResvWrite]

/-! Jobs. -/

@[simp] theorem execJobSubmit_leaves_power (tr : Nat) (lib : LibVerdict) (s : State) :
    Leaves State.power s (execJobSubmit tr lib s) := by
  unfold execJobSubmit
  split
  · simp
  split <;> obtain rfl := snd_of_eq ‹_ = (_, _)›
  · simp
  split
  · simp
  next hadmit => simp [admitJob_power hadmit]

@[simp] theorem execJobAbort_leaves_power (tr : Nat) (s : State) : Leaves State.power s (execJobAbort tr s) := by
  unfold execJobAbort
  split
  · simp
  rw [leaves_next, withJob_power]
  intro e j
  dsimp only
  split <;> simp

@[simp] theorem execJobKick_leaves_power (tr : Nat) (s : State) : Leaves State.power s (execJobKick tr s) := by
  unfold execJobKick
  (repeat' split) <;> simp

@[simp] theorem execJobSuspend_leaves_power (tr : Nat) (s : State) : Leaves State.power s (execJobSuspend tr s) := by
  unfold execJobSuspend
  split
  · simp
  rw [leaves_next, withJob_power]
  intro e j
  dsimp only
  split <;> simp

@[simp] theorem execJobResume_leaves_power (tr : Nat) (s : State) : Leaves State.power s (execJobResume tr s) := by
  unfold execJobResume
  (repeat' split) <;> simp

@[simp] theorem execJobQuery_leaves_power (tr : Nat) (s : State) : Leaves State.power s (execJobQuery tr s) := by
  unfold execJobQuery
  (repeat' split) <;> simp

@[simp] theorem execSliceExpiry_leaves_power (s : State) : Leaves State.power s (execSliceExpiry s) := by
  unfold execSliceExpiry
  (repeat' split) <;> simp

@[simp] theorem execStarvationPromotion_leaves_power (jobTag : W32) (s : State) :
    Leaves State.power s (execStarvationPromotion jobTag s) := by
  unfold execStarvationPromotion
  (repeat' split) <;> simp

@[simp] theorem execUrgentQuantumEnd_leaves_power (s : State) : Leaves State.power s (execUrgentQuantumEnd s) := by
  unfold execUrgentQuantumEnd
  (repeat' split) <;> simp

@[simp] theorem execPreemptLate_leaves_power (s : State) : Leaves State.power s (execPreemptLate s) := by
  unfold execPreemptLate
  (repeat' split) <;> simp

@[simp] theorem execJobSaveComplete_leaves_power (s : State) : Leaves State.power s (execJobSaveComplete s) := by
  unfold execJobSaveComplete
  split
  · simp
  split
  · simp
  split <;> obtain rfl := snd_of_eq ‹_ = (_, _)›
  · simp
  split <;> obtain rfl := snd_of_eq ‹_ = (_, _)›
  · simp
  simp

@[simp] theorem execSwitchClearComplete_leaves_power (s : State) : Leaves State.power s (execSwitchClearComplete s) := by
  simp [execSwitchClearComplete]

@[simp] theorem execSwitchTableLoadComplete_leaves_power (s : State) : Leaves State.power s (execSwitchTableLoadComplete s) := by
  unfold execSwitchTableLoadComplete
  split
  · simp
  split
  · simp
  split
  · simp
  next hload => simp [loadTables_power hload]

@[simp] theorem execJobRestoreComplete_leaves_power (s : State) : Leaves State.power s (execJobRestoreComplete s) := by
  unfold execJobRestoreComplete
  split
  · simp
  split
  · simp
  split
  · simp
  split <;> obtain rfl := snd_of_eq ‹_ = (_, _)›
  · simp
  split <;> obtain rfl := snd_of_eq ‹_ = (_, _)›
  · simp
  split
  · simp
  next hrestore => simp [restoreRanges_power hrestore]

@[simp] theorem execExchangeFirstBarrierDone_leaves_power (jobTag : W32) (s : State) :
    Leaves State.power s (execExchangeFirstBarrierDone jobTag s) := by
  unfold execExchangeFirstBarrierDone
  split
  · simp
  split
  · simp
  dsimp only
  split <;> obtain rfl := snd_of_eq ‹_ = (_, _)›
  · simp
  split <;> obtain rfl := snd_of_eq ‹_ = (_, _)›
  · split
    next hsend => simp [sendOuts_power hsend]
    · simp
  · simp
  · simp

@[simp] theorem execExchangeLanded_leaves_power (jobTag : W32) (s : State) :
    Leaves State.power s (execExchangeLanded jobTag s) := by
  unfold execExchangeLanded
  (repeat' split) <;> simp

@[simp] theorem execExchangeComplete_leaves_power (jobTag : W32) (s : State) :
    Leaves State.power s (execExchangeComplete jobTag s) := by
  unfold execExchangeComplete
  (repeat' split) <;> simp

@[simp] theorem execExchangeTimeout_leaves_power (jobTag : W32) (s : State) :
    Leaves State.power s (execExchangeTimeout jobTag s) := by
  unfold execExchangeTimeout
  (repeat' split) <;> simp

@[simp] theorem execJobEnd_leaves_power (jobTag : W32) (s : State) : Leaves State.power s (execJobEnd jobTag s) := by
  unfold execJobEnd
  (repeat' split) <;> simp

/-! Embedding service. -/

@[simp] theorem execEmbedBind_leaves_power (tr : Nat) (lib : LibVerdict) (s : State) :
    Leaves State.power s (execEmbedBind tr lib s) := by
  unfold execEmbedBind
  split
  · simp
  split
  · simp
  split <;> obtain rfl := snd_of_eq ‹_ = (_, _)›
  · simp
  split
  · simp
  next hadmit => simp [admitJob_power hadmit]

@[simp] theorem execEmbedSubmit_leaves_power (tr : Nat) (list : List Byte) (s : State) :
    Leaves State.power s (execEmbedSubmit tr list s) := by
  unfold execEmbedSubmit
  (repeat' split) <;> simp

@[simp] theorem execEmbedCancel_leaves_power (tr : Nat) (s : State) : Leaves State.power s (execEmbedCancel tr s) := by
  unfold execEmbedCancel
  dsimp only
  (repeat' split) <;> simp

@[simp] theorem execEmbedUnbind_leaves_power (tr : Nat) (s : State) : Leaves State.power s (execEmbedUnbind tr s) := by
  unfold execEmbedUnbind
  (repeat' split) <;> simp

@[simp] theorem execEmbedUnbindComplete_leaves_power (s : State) : Leaves State.power s (execEmbedUnbindComplete s) := by
  simp [execEmbedUnbindComplete]

@[simp] theorem execStagingReadStart_leaves_power (s : State) : Leaves State.power s (execStagingReadStart s) := by
  unfold execStagingReadStart
  (repeat' split) <;> simp

@[simp] theorem execStagingReadComplete_leaves_power (ctx : Nat) (result : MediaResult) (tokens : List W32) (s : State) :
    Leaves State.power s (execStagingReadComplete ctx result tokens s) := by
  unfold execStagingReadComplete
  (repeat' split) <;> simp

@[simp] theorem execBatchStepBoundary_leaves_power (s : State) : Leaves State.power s (execBatchStepBoundary s) := by
  simp [execBatchStepBoundary]

@[simp] theorem execBoundaryInsertResume_leaves_power (s : State) : Leaves State.power s (execBoundaryInsertResume s) := by
  unfold execBoundaryInsertResume
  (repeat' split) <;> simp

@[simp] theorem execBoundaryProcedureEnd_leaves_power (durationUs : Nat) (s : State) :
    Leaves State.power s (execBoundaryProcedureEnd durationUs s) := by
  unfold execBoundaryProcedureEnd
  (repeat' split) <;> simp

/-! Ralid. -/

@[simp] theorem execQuery_leaves_power (tr : Nat) (buffer : List Byte) (s : State) :
    Leaves State.power s (execQuery tr buffer s) := by
  unfold execQuery
  (repeat' split) <;> simp

@[simp] theorem execQueryAdmit_leaves_power (s : State) : Leaves State.power s (execQueryAdmit s) := by
  unfold execQueryAdmit
  (repeat' split) <;> simp

@[simp] theorem execWalkExpand_leaves_power (query : Nat) (s : State) : Leaves State.power s (execWalkExpand query s) := by
  unfold execWalkExpand
  split
  · split
    · simp
    dsimp only
    split
    · simp
    split
    · simp
    split <;> obtain rfl := snd_of_eq ‹_ = (_, _)› <;> simp
  · simp

@[simp] theorem execRerankDeadline_leaves_power (query : Nat) (s : State) :
    Leaves State.power s (execRerankDeadline query s) := by
  unfold execRerankDeadline
  (repeat' split) <;> simp

@[simp] theorem execMergeDeadline_leaves_power (query : Nat) (s : State) : Leaves State.power s (execMergeDeadline query s) := by
  unfold execMergeDeadline
  dsimp only
  (repeat' split) <;> simp

@[simp] theorem execInsert_leaves_power (tr : Nat) (buffer : List Byte) (s : State) :
    Leaves State.power s (execInsert tr buffer s) := by
  unfold execInsert
  split
  · simp
  split
  · simp
  dsimp only
  split
  · simp
  split
  · simp
  split
  · simp
  split
  next hstart => simp [startInsert_power hstart]
  · simp

@[simp] theorem execInsertComplete_leaves_power (node : Nat) (s : State) :
    Leaves State.power s (execInsertComplete node s) := by
  unfold execInsertComplete
  split
  next i r _ _ =>
    split
    · simp
    next s1 hvector =>
      have hs1 : s1.power = s.power := by
        split at hvector
        · cases hvector
          rfl
        · exact writeVector_power hvector
      dsimp only
      rw [leaves_next]
      split <;> simp [hs1]
  · simp

@[simp] theorem execDeleteByNode_leaves_power (tr : Nat) (s : State) : Leaves State.power s (execDeleteByNode tr s) := by
  unfold execDeleteByNode
  (repeat' split) <;> simp

@[simp] theorem execDeleteByKey_leaves_power (tr : Nat) (s : State) : Leaves State.power s (execDeleteByKey tr s) := by
  unfold execDeleteByKey
  (repeat' split) <;> simp

@[simp] theorem execPublish_leaves_power (tr : Nat) (s : State) : Leaves State.power s (execPublish tr s) := by
  unfold execPublish
  (repeat' split) <;> simp

@[simp] theorem execPublishProceed_leaves_power (s : State) : Leaves State.power s (execPublishProceed s) := by
  unfold execPublishProceed
  (repeat' split) <;> simp

@[simp] theorem execPublishApply_leaves_power (s : State) : Leaves State.power s (execPublishApply s) := by
  unfold execPublishApply
  split
  · dsimp only
    split
    · simp
    simp only [leaves_next, advanceEpoch_frame, setRalid_power, foldl_power, freeNode_frame, newEntry_frame, implies_true]
    refine foldl_power _ (fun acc l => ?_) _ _
    split <;> simp
  · simp

@[simp] theorem execConsolidationPassComplete_leaves_power (s : State) :
    Leaves State.power s (execConsolidationPassComplete s) := by
  unfold execConsolidationPassComplete
  (repeat' split) <;> simp

@[simp] theorem execConsolidationLogFull_leaves_power (s : State) : Leaves State.power s (execConsolidationLogFull s) := by
  unfold execConsolidationLogFull
  (repeat' split) <;> simp

@[simp] theorem execAttach_leaves_power (tr : Nat) (s : State) : Leaves State.power s (execAttach tr s) := by
  unfold execAttach
  split
  · simp
  extract_lets +onlyGivenNames unit
  split
  · simp
  split
  · simp
  split
  · simp
  split <;> obtain rfl := snd_of_eq ‹_ = (_, _)›
  · simp
  extract_lets +onlyGivenNames h cap vecUnits log
  split
  · simp
  split
  · simp
  split
  · simp
  · simp

@[simp] theorem execAttachLoadComplete_leaves_power (result : MediaResult) (s : State) :
    Leaves State.power s (execAttachLoadComplete result s) := by
  unfold execAttachLoadComplete
  dsimp only
  split
  · simp
  split
  · simp
  · simp
  split <;> obtain rfl := snd_of_eq ‹_ = (_, _)› <;> simp

@[simp] theorem execDetach_leaves_power (tr : Nat) (s : State) : Leaves State.power s (execDetach tr s) := by
  unfold execDetach
  (repeat' split) <;> simp

@[simp] theorem execDetachComplete_leaves_power (s : State) : Leaves State.power s (execDetachComplete s) := by
  unfold execDetachComplete
  (repeat' split) <;> simp

@[simp] theorem execRalLogWrite_leaves_power (value : W64) (s : State) : Leaves State.power s (execRalLogWrite value s) := by
  simp [execRalLogWrite]

@[simp] theorem execRalParamWrite_leaves_power (value : W64) (s : State) : Leaves State.power s (execRalParamWrite value s) := by
  simp [execRalParamWrite]

@[simp] theorem execRalShardsWrite_leaves_power (value : W64) (s : State) :
    Leaves State.power s (execRalShardsWrite value s) := by
  simp [execRalShardsWrite]

/-! Kyober fabric. -/

@[simp] theorem execPortEnable_leaves_power (port : Fin 16) (s : State) : Leaves State.power s (execPortEnable port s) := by
  simp [execPortEnable]

@[simp] theorem execPortDisable_leaves_power (port : Fin 16) (s : State) : Leaves State.power s (execPortDisable port s) := by
  simp [execPortDisable]

@[simp] theorem execPortRetrain_leaves_power (port : Fin 16) (s : State) : Leaves State.power s (execPortRetrain port s) := by
  simp [execPortRetrain]

@[simp] theorem execSignalDetected_leaves_power (port : Fin 16) (s : State) :
    Leaves State.power s (execSignalDetected port s) := by
  simp [execSignalDetected]

@[simp] theorem execEqualiseComplete_leaves_power (port : Fin 16) (s : State) :
    Leaves State.power s (execEqualiseComplete port s) := by
  simp [execEqualiseComplete]

@[simp] theorem execAlignComplete_leaves_power (port : Fin 16) (healthy : BitVec 4) (s : State) :
    Leaves State.power s (execAlignComplete port healthy s) := by
  simp [execAlignComplete]

@[simp] theorem execLinkExchangeComplete_leaves_power (port : Fin 16) (peer : PeerInfo) (s : State) :
    Leaves State.power s (execLinkExchangeComplete port peer s) := by
  simp [execLinkExchangeComplete]

@[simp] theorem execTrainingStateTimeout_leaves_power (port : Fin 16) (s : State) :
    Leaves State.power s (execTrainingStateTimeout port s) := by
  simp [execTrainingStateTimeout]

@[simp] theorem execTrainingRetryWaitExpiry_leaves_power (port : Fin 16) (s : State) :
    Leaves State.power s (execTrainingRetryWaitExpiry port s) := by
  simp [execTrainingRetryWaitExpiry]

@[simp] theorem execQuadFail_leaves_power (port : Fin 16) (quad : Fin 4) (s : State) :
    Leaves State.power s (execQuadFail port quad s) := by
  simp [execQuadFail]

@[simp] theorem execFastRetrainComplete_leaves_power (port : Fin 16) (result : Option PeerInfo) (s : State) :
    Leaves State.power s (execFastRetrainComplete port result s) := by
  unfold execFastRetrainComplete
  (repeat' split) <;> simp

@[simp] theorem execPeerTransmitStop_leaves_power (port : Fin 16) (s : State) :
    Leaves State.power s (execPeerTransmitStop port s) := by
  simp [execPeerTransmitStop]

@[simp] theorem execDataFlitReceive_leaves_power (port : Fin 16) (flit : Flit) (s : State) :
    Leaves State.power s (execDataFlitReceive port flit s) := by
  simp [execDataFlitReceive]

@[simp] theorem execIdleFlitReceive_leaves_power (port : Fin 16) (flit : Flit) (s : State) :
    Leaves State.power s (execIdleFlitReceive port flit s) := by
  simp [execIdleFlitReceive]

@[simp] theorem execReplayRequestReceive_leaves_power (port : Fin 16) (flit : Flit) (s : State) :
    Leaves State.power s (execReplayRequestReceive port flit s) := by
  unfold execReplayRequestReceive
  dsimp only
  (repeat' split) <;> simp

@[simp] theorem execAckTimer_leaves_power (port : Fin 16) (s : State) : Leaves State.power s (execAckTimer port s) := by
  simp [execAckTimer]

@[simp] theorem execFlitSend_leaves_power (port : Fin 16) (vc : Fin 3) (s : State) :
    Leaves State.power s (execFlitSend port vc s) := by
  simp [execFlitSend]

@[simp] theorem execPut_leaves_power (port : Fin 16) (s : State) : Leaves State.power s (execPut port s) := by
  unfold execPut
  dsimp only
  (repeat' split) <;> simp

@[simp] theorem execGet_leaves_power (port : Fin 16) (s : State) : Leaves State.power s (execGet port s) := by
  unfold execGet
  dsimp only
  split
  · simp
  rw [leaves_next, dataRequest_power]
  intro e j x
  split <;> obtain rfl := snd_of_eq ‹_ = (_, _)› <;> simp

@[simp] theorem execAdd_leaves_power (port : Fin 16) (s : State) : Leaves State.power s (execAdd port s) := by
  unfold execAdd
  dsimp only
  split
  · simp
  rw [leaves_next, dataRequest_power]
  intro e j x
  split <;> obtain rfl := snd_of_eq ‹_ = (_, _)› <;> simp

@[simp] theorem execFlagSet_leaves_power (port : Fin 16) (s : State) : Leaves State.power s (execFlagSet port s) := by
  unfold execFlagSet
  dsimp only
  split
  · simp
  split
  · simp
  split
  · simp
  split
  next hlands => simp [flagLands_power hlands]
  · simp

@[simp] theorem execReduceUp_leaves_power (port : Fin 16) (s : State) : Leaves State.power s (execReduceUp port s) := by
  unfold execReduceUp
  dsimp only
  (repeat' split) <;> simp

@[simp] theorem execReduceSegmentCombine_leaves_power (ctx : BitVec 12) (reduceId : BitVec 12) (segment : Nat) (s : State) :
    Leaves State.power s (execReduceSegmentCombine ctx reduceId segment s) := by
  unfold execReduceSegmentCombine
  dsimp only
  (repeat' split) <;> simp

@[simp] theorem execReduceDown_leaves_power (port : Fin 16) (s : State) : Leaves State.power s (execReduceDown port s) := by
  unfold execReduceDown
  dsimp only
  (repeat' split) <;> simp

@[simp] theorem execQueryParcel_leaves_power (port : Fin 16) (s : State) : Leaves State.power s (execQueryParcel port s) := by
  unfold execQueryParcel
  dsimp only
  (repeat' split) <;> simp

@[simp] theorem execResult_leaves_power (port : Fin 16) (s : State) : Leaves State.power s (execResult port s) := by
  unfold execResult
  dsimp only
  (repeat' split) <;> simp

@[simp] theorem execRsp_leaves_power (port : Fin 16) (s : State) : Leaves State.power s (execRsp port s) := by
  unfold execRsp
  dsimp only
  (repeat' split) <;> simp

@[simp] theorem execGetData_leaves_power (port : Fin 16) (s : State) : Leaves State.power s (execGetData port s) := by
  unfold execGetData
  dsimp only
  (repeat' split) <;> simp

@[simp] theorem execResponseTimeout_leaves_power (tag : BitVec 16) (s : State) :
    Leaves State.power s (execResponseTimeout tag s) := by
  unfold execResponseTimeout
  (repeat' split) <;> simp

@[simp] theorem execKybDeviceIdWrite_leaves_power (value : W32) (s : State) :
    Leaves State.power s (execKybDeviceIdWrite value s) := by
  simp [execKybDeviceIdWrite]

@[simp] theorem execKybRouteWrite_leaves_power (dest : BitVec 12) (value : W64) (s : State) :
    Leaves State.power s (execKybRouteWrite dest value s) := by
  simp [execKybRouteWrite]

/-! Flash media and the Ledger. -/

@[simp] theorem execNandReadComplete_leaves_power (request : Nat) (outcome : PageOutcome) (s : State) :
    Leaves State.power s (execNandReadComplete request outcome s) := by
  unfold execNandReadComplete
  split
  · simp
  split
  · simp
  · simp

@[simp] theorem execNandProgramComplete_leaves_power (sb : Nat) (failed : BitVec 32) (dur10us : Nat) (s : State) :
    Leaves State.power s (execNandProgramComplete sb failed dur10us s) := by
  unfold execNandProgramComplete
  extract_lets +onlyGivenNames s0 b full
  split
  · simp [s0]
  extract_lets +onlyGivenNames ch limit s1 s2
  have hs2 : s2.power = s.power := by simp [s2, s1, s0]
  split
  · simp [hs2]
  · extract_lets s3 back
    have hback : ∀ acc u, (back acc u).power = acc.power := by
      intro acc u
      unfold back
      split <;> rfl
    simp [s3, hback, hs2]

@[simp] theorem execNandEraseComplete_leaves_power (sb : Nat) (failed : BitVec 32) (dur10us : Nat) (s : State) :
    Leaves State.power s (execNandEraseComplete sb failed dur10us s) := by
  simp [execNandEraseComplete]

@[simp] theorem execDieStatusTimeout_leaves_power (channel : Fin 64) (die : Fin 8) (s : State) :
    Leaves State.power s (execDieStatusTimeout channel die s) := by
  simp [execDieStatusTimeout]

@[simp] theorem execWriteBufferLeave_leaves_power (slot : Nat) (lost : BitVec 4) (s : State) :
    Leaves State.power s (execWriteBufferLeave slot lost s) := by
  unfold execWriteBufferLeave
  split
  · simp
  extract_lets +onlyGivenNames earlier
  split
  · simp
  extract_lets +onlyGivenNames missing lostNow
  split
  · simp
  extract_lets +onlyGivenNames r
  have hr : r.2.power = s.power := by
    refine foldl_snd_power _ (fun acc b => ?_) _ _
    extract_lets +onlyGivenNames here
    change here.2.power = acc.2.power
    unfold here
    split
    · split <;> obtain rfl := snd_of_eq ‹_ = (_, _)› <;> simp
    · split
      · rfl
      · split <;> obtain rfl := snd_of_eq ‹_ = (_, _)› <;> simp
      · rfl
  split
  · exact (leaves_next _ _ _).mpr hr
  extract_lets +onlyGivenNames u
  split
  · exact (leaves_next _ _ _).mpr hr
  next hplace => exact (leaves_next _ _ _).mpr ((placeUnit_power hplace).trans hr)

@[simp] theorem execFoldStart_leaves_power (s : State) : Leaves State.power s (execFoldStart s) := by
  unfold execFoldStart
  (repeat' split) <;> simp

@[simp] theorem execGcVictimSelect_leaves_power (s : State) : Leaves State.power s (execGcVictimSelect s) := by
  unfold execGcVictimSelect
  (repeat' split) <;> simp

@[simp] theorem execRefreshRelocate_leaves_power (s : State) : Leaves State.power s (execRefreshRelocate s) := by
  unfold execRefreshRelocate
  (repeat' split) <;> simp

@[simp] theorem execBackgroundErase_leaves_power (sb : Nat) (s : State) : Leaves State.power s (execBackgroundErase sb s) := by
  simp [execBackgroundErase]

@[simp] theorem execLedgerSegmentWrite_leaves_power (segment : Fin 8192) (s : State) :
    Leaves State.power s (execLedgerSegmentWrite segment s) := by
  simp [execLedgerSegmentWrite]

@[simp] theorem execLdgClockMinuteTick_leaves_power (s : State) : Leaves State.power s (execLdgClockMinuteTick s) := by
  simp [execLdgClockMinuteTick]

@[simp] theorem execLdgClockWrite_leaves_power (value : W32) (s : State) : Leaves State.power s (execLdgClockWrite value s) := by
  simp [execLdgClockWrite]

@[simp] theorem execLdgPoolWrite_leaves_power (pool : Fin 3) (value : W32) (s : State) :
    Leaves State.power s (execLdgPoolWrite pool value s) := by
  simp [execLdgPoolWrite]

@[simp] theorem execLedgerRecoveryComplete_leaves_power (ok : Bool) (lost : List (Nat × Nat)) (s : State) :
    Leaves State.power s (execLedgerRecoveryComplete ok lost s) := by
  simp [execLedgerRecoveryComplete]

/-! Host attachment. -/

@[simp] theorem execLinkUp_leaves_power (rate : BitVec 2) (width : BitVec 2) (cxl : Bool) (latOpt : Bool) (s : State) :
    Leaves State.power s (execLinkUp rate width cxl latOpt s) := by
  simp [execLinkUp]

@[simp] theorem execL0pWidthChange_leaves_power (width : BitVec 2) (s : State) :
    Leaves State.power s (execL0pWidthChange width s) := by
  simp [execL0pWidthChange]

@[simp] theorem execCxlHotReset_leaves_power (s : State) : Leaves State.power s (execCxlHotReset s) := by simp [execCxlHotReset]

@[simp] theorem execLinkDown_leaves_power (s : State) : Leaves State.power s (execLinkDown s) := by simp [execLinkDown]

@[simp] theorem execFlr_leaves_power (s : State) : Leaves State.power s (execFlr s) := by simp [execFlr]

@[simp] theorem execHostResetComplete_leaves_power (s : State) : Leaves State.power s (execHostResetComplete s) := by
  simp [execHostResetComplete]

@[simp] theorem execConfigRequest_leaves_power (req : ConfigReq) (s : State) :
    Leaves State.power s (execConfigRequest req s) := by
  unfold execConfigRequest
  (repeat' split) <;> simp

@[simp] theorem execD3hotRequest_leaves_power (s : State) : Leaves State.power s (execD3hotRequest s) := by
  unfold execD3hotRequest
  dsimp only
  (repeat' split) <;> simp

@[simp] theorem execD0Request_leaves_power (s : State) : Leaves State.power s (execD0Request s) := by simp [execD0Request]

@[simp] theorem execBar0AccessError_leaves_power (write : Bool) (s : State) :
    Leaves State.power s (execBar0AccessError write s) := by
  simp [execBar0AccessError]

@[simp] theorem execCacheEnableSet_leaves_power (s : State) : Leaves State.power s (execCacheEnableSet s) := by
  simp [execCacheEnableSet]

@[simp] theorem execCacheEnableClear_leaves_power (s : State) : Leaves State.power s (execCacheEnableClear s) := by
  simp [execCacheEnableClear]

@[simp] theorem execHdmDecoderCommit_leaves_power (base : W64) (s : State) :
    Leaves State.power s (execHdmDecoderCommit base s) := by
  simp [execHdmDecoderCommit]

@[simp] theorem execHdmHostRead_leaves_power (addr : BitVec 34) (intent : HdmIntent) (s : State) :
    Leaves State.power s (execHdmHostRead addr intent s) := by
  unfold execHdmHostRead
  split
  · simp
  split
  · simp
  split
  · simp
  extract_lets +onlyGivenNames line page s1
  have hs1 : s1.power = s.power := by
    unfold s1
    split
    · split <;> simp
    · rfl
  split
  · simp [hs1]
  split
  next hline => simp [recordLine_power hline, hs1]
  · simp [hs1]

@[simp] theorem execHdmHostWrite_leaves_power (addr : BitVec 34) (bytes : List Byte) (poison : Bool) (s : State) :
    Leaves State.power s (execHdmHostWrite addr bytes poison s) := by
  unfold execHdmHostWrite
  dsimp only
  (repeat' split) <;> simp

@[simp] theorem execBisnpResponse_leaves_power (line : BitVec 28) (writeBack : List Byte) (s : State) :
    Leaves State.power s (execBisnpResponse line writeBack s) := by
  unfold execBisnpResponse
  dsimp only
  (repeat' split) <;> simp

@[simp] theorem execIdeIntegrityFail_leaves_power (stream : IdeStream) (s : State) :
    Leaves State.power s (execIdeIntegrityFail stream s) := by
  unfold execIdeIntegrityFail
  (repeat' split) <;> simp

@[simp] theorem execIdeKeyProgram_leaves_power (stream : IdeStream) (s : State) :
    Leaves State.power s (execIdeKeyProgram stream s) := by
  unfold execIdeKeyProgram
  (repeat' split) <;> simp

@[simp] theorem execDoeDiscovery_leaves_power (inst : Fin 2) (index : Byte) (s : State) :
    Leaves State.power s (execDoeDiscovery inst index s) := by
  simp [execDoeDiscovery]

@[simp] theorem execCdatRead_leaves_power (s : State) : Leaves State.power s (execCdatRead s) := by simp [execCdatRead]

@[simp] theorem execDoeAbort_leaves_power (inst : Fin 2) (s : State) : Leaves State.power s (execDoeAbort inst s) := by
  simp [execDoeAbort]

@[simp] theorem execMsixUnmask_leaves_power (vector : Fin 2048) (s : State) : Leaves State.power s (execMsixUnmask vector s) := by
  simp [execMsixUnmask]

/-! Rings. -/

@[simp] theorem execDoorbellSnoop_leaves_power (line : BitVec 58) (s : State) :
    Leaves State.power s (execDoorbellSnoop line s) := by
  simp [execDoorbellSnoop]

@[simp] theorem execDoorbellLineReturn_leaves_power (line : BitVec 58) (words : List W32) (s : State) :
    Leaves State.power s (execDoorbellLineReturn line words s) := by
  simp [execDoorbellLineReturn]

@[simp] theorem execDoorbellRereadTimer_leaves_power (s : State) : Leaves State.power s (execDoorbellRereadTimer s) := by
  simp [execDoorbellRereadTimer]

@[simp] theorem execCommandFetch_leaves_power (sq : Fin 256) (desc : BitVec 1024) (s : State) :
    Leaves State.power s (execCommandFetch sq desc s) := by
  unfold execCommandFetch
  dsimp only
  (repeat' split) <;> simp

@[simp] theorem execDescriptorReadError_leaves_power (sq : Fin 256) (s : State) :
    Leaves State.power s (execDescriptorReadError sq s) := by
  simp [execDescriptorReadError]

@[simp] theorem execFencedCommandStart_leaves_power (tr : Nat) (s : State) :
    Leaves State.power s (execFencedCommandStart tr s) := by
  unfold execFencedCommandStart
  dsimp only
  (repeat' split) <;> simp

@[simp] theorem execAdminPairStart_leaves_power (value : W32) (s : State) :
    Leaves State.power s (execAdminPairStart value s) := by
  simp [execAdminPairStart]

@[simp] theorem execAdminPairStop_leaves_power (value : W32) (s : State) : Leaves State.power s (execAdminPairStop value s) := by
  simp [execAdminPairStop]

@[simp] theorem execAdminPairStopped_leaves_power (s : State) : Leaves State.power s (execAdminPairStopped s) := by
  unfold execAdminPairStopped
  (repeat' split) <;> simp

@[simp] theorem execIdentify_leaves_power (tr : Nat) (s : State) : Leaves State.power s (execIdentify tr s) := by
  unfold execIdentify
  (repeat' split) <;> simp

@[simp] theorem execCreateSq_leaves_power (tr : Nat) (s : State) : Leaves State.power s (execCreateSq tr s) := by
  unfold execCreateSq
  (repeat' split) <;> simp

@[simp] theorem execCreateCq_leaves_power (tr : Nat) (s : State) : Leaves State.power s (execCreateCq tr s) := by
  unfold execCreateCq
  (repeat' split) <;> simp

@[simp] theorem execDeleteSq_leaves_power (tr : Nat) (s : State) : Leaves State.power s (execDeleteSq tr s) := by
  unfold execDeleteSq
  dsimp only
  (repeat' split) <;> simp

@[simp] theorem execDeleteSqComplete_leaves_power (sq : Fin 256) (s : State) :
    Leaves State.power s (execDeleteSqComplete sq s) := by
  unfold execDeleteSqComplete
  dsimp only
  (repeat' split) <;> simp

@[simp] theorem execDeleteCq_leaves_power (tr : Nat) (s : State) : Leaves State.power s (execDeleteCq tr s) := by
  unfold execDeleteCq
  (repeat' split) <;> simp

@[simp] theorem execSetPower_leaves_power (tr : Nat) (s : State) : Leaves State.power s (execSetPower tr s) := by
  unfold execSetPower
  (repeat' split) <;> simp

@[simp] theorem execPowerStateEntryComplete_leaves_power (s : State) : Leaves State.power s (execPowerStateEntryComplete s) := by
  unfold execPowerStateEntryComplete
  (repeat' split) <;> simp

@[simp] theorem execDrain_leaves_power (tr : Nat) (s : State) : Leaves State.power s (execDrain tr s) := by
  unfold execDrain
  (repeat' split) <;> simp

@[simp] theorem execDrainComplete_leaves_power (s : State) : Leaves State.power s (execDrainComplete s) := by
  unfold execDrainComplete
  (repeat' split) <;> simp

@[simp] theorem execResume_leaves_power (tr : Nat) (s : State) : Leaves State.power s (execResume tr s) := by
  unfold execResume
  (repeat' split) <;> simp

/-! Storage. -/

@[simp] theorem execNsCreate_leaves_power (tr : Nat) (s : State) : Leaves State.power s (execNsCreate tr s) := by
  unfold execNsCreate
  dsimp only
  (repeat' split) <;> simp

@[simp] theorem execNsDelete_leaves_power (tr : Nat) (s : State) : Leaves State.power s (execNsDelete tr s) := by
  unfold execNsDelete
  dsimp only
  (repeat' split) <;> simp

@[simp] theorem execNsQuery_leaves_power (tr : Nat) (s : State) : Leaves State.power s (execNsQuery tr s) := by
  unfold execNsQuery
  dsimp only
  (repeat' split) <;> simp

@[simp] theorem execRead_leaves_power (tr : Nat) (s : State) : Leaves State.power s (execRead tr s) := by simp [execRead]

@[simp] theorem execWrite_leaves_power (tr : Nat) (buffer : List Byte) (s : State) :
    Leaves State.power s (execWrite tr buffer s) := by
  simp [execWrite]

@[simp] theorem execFlush_leaves_power (tr : Nat) (s : State) : Leaves State.power s (execFlush tr s) := by
  unfold execFlush
  (repeat' split) <;> simp

@[simp] theorem execTrim_leaves_power (tr : Nat) (s : State) : Leaves State.power s (execTrim tr s) := by simp [execTrim]

@[simp] theorem execVerify_leaves_power (tr : Nat) (s : State) : Leaves State.power s (execVerify tr s) := by simp [execVerify]

@[simp] theorem execRangeLockGrant_leaves_power (entry : Nat) (s : State) :
    Leaves State.power s (execRangeLockGrant entry s) := by
  unfold execRangeLockGrant
  (repeat' split) <;> simp

@[simp] theorem execWriteSlotGrant_leaves_power (tr : Nat) (s : State) : Leaves State.power s (execWriteSlotGrant tr s) := by
  unfold execWriteSlotGrant
  (repeat' split) <;> simp

/-! Reset and bring-up. -/

@[simp] theorem execRefclkAbsent_leaves_power (s : State) : Leaves State.power s (execRefclkAbsent s) := by
  simp [execRefclkAbsent]

@[simp] theorem execRefclkLost_leaves_power (s : State) : Leaves State.power s (execRefclkLost s) := by simp [execRefclkLost]

@[simp] theorem execTileReset_leaves_power (tile : Fin 128) (byHost : Bool) (s : State) :
    Leaves State.power s (execTileReset tile byHost s) := by
  simp [execTileReset]

@[simp] theorem execWalkerGroupReset_leaves_power (group : Fin 64) (byHost : Bool) (s : State) :
    Leaves State.power s (execWalkerGroupReset group byHost s) := by
  simp [execWalkerGroupReset]

@[simp] theorem execFlashChannelReset_leaves_power (channel : Fin 64) (byHost : Bool) (s : State) :
    Leaves State.power s (execFlashChannelReset channel byHost s) := by
  simp [execFlashChannelReset]

@[simp] theorem execFabricPortReset_leaves_power (port : Fin 16) (byHost : Bool) (s : State) :
    Leaves State.power s (execFabricPortReset port byHost s) := by
  simp [execFabricPortReset]

@[simp] theorem execPorterGroupReset_leaves_power (group : Fin 8) (byHost : Bool) (s : State) :
    Leaves State.power s (execPorterGroupReset group byHost s) := by
  simp [execPorterGroupReset]

@[simp] theorem execReleaseStep_leaves_power (work : StepWork) (elapsedMs : Nat) (first second : ImageVerdict) (s0 : State) :
    Leaves State.power s0 (execReleaseStep work elapsedMs first second s0) := by
  unfold execReleaseStep
  dsimp only
  (repeat' split) <;> simp

@[simp] theorem execClearCounter_leaves_power (value : W32) (s : State) : Leaves State.power s (execClearCounter value s) := by
  simp [execClearCounter]

@[simp] theorem execImageTransfer_leaves_power (message : List Byte) (verdict : ImageVerdict) (s : State) :
    Leaves State.power s (execImageTransfer message verdict s) := by
  simp [execImageTransfer]

/-! Configuration flash. -/

@[simp] theorem execCflCycleStore_leaves_power (offset : BitVec 29) (size : Nat) (value : W64) (s : State) :
    Leaves State.power s (execCflCycleStore offset size value s) := by
  simp [execCflCycleStore]

@[simp] theorem execCflAbandon_leaves_power (bank : Fin 2) (s : State) : Leaves State.power s (execCflAbandon bank s) := by
  simp [execCflAbandon]

@[simp] theorem execCflSequenceTimeout_leaves_power (bank : Fin 2) (s : State) :
    Leaves State.power s (execCflSequenceTimeout bank s) := by
  simp [execCflSequenceTimeout]

@[simp] theorem execPageProgram_leaves_power (bank : Fin 2) (s : State) : Leaves State.power s (execPageProgram bank s) := by
  unfold execPageProgram
  (repeat' split) <;> simp

@[simp] theorem execSectorErase_leaves_power (bank : Fin 2) (s : State) : Leaves State.power s (execSectorErase bank s) := by
  unfold execSectorErase
  (repeat' split) <;> simp

@[simp] theorem execContReadEnter_leaves_power (bank : Fin 2) (s : State) : Leaves State.power s (execContReadEnter bank s) := by
  unfold execContReadEnter
  (repeat' split) <;> simp

@[simp] theorem execContReadExit_leaves_power (bank : Fin 2) (s : State) : Leaves State.power s (execContReadExit bank s) := by
  unfold execContReadExit
  (repeat' split) <;> simp

@[simp] theorem execProtSet_leaves_power (bank : Fin 2) (s : State) : Leaves State.power s (execProtSet bank s) := by
  simp [execProtSet]

@[simp] theorem execProtClear_leaves_power (bank : Fin 2) (s : State) : Leaves State.power s (execProtClear bank s) := by
  simp [execProtClear]

@[simp] theorem execPasswordChange_leaves_power (bank : Fin 2) (s : State) :
    Leaves State.power s (execPasswordChange bank s) := by
  simp [execPasswordChange]

@[simp] theorem execCflWindowRead_leaves_power (offset : BitVec 29) (len : Nat) (s : State) :
    Leaves State.power s (execCflWindowRead offset len s) := by
  simp [execCflWindowRead]

@[simp] theorem execCflProgramPulseEnd_leaves_power (bank : Fin 2) (verified : Bool) (s : State) :
    Leaves State.power s (execCflProgramPulseEnd bank verified s) := by
  unfold execCflProgramPulseEnd
  dsimp only
  (repeat' split) <;> simp

@[simp] theorem execCflErasePulseEnd_leaves_power (bank : Fin 2) (verified : Bool) (s : State) :
    Leaves State.power s (execCflErasePulseEnd bank verified s) := by
  unfold execCflErasePulseEnd
  dsimp only
  (repeat' split) <;> simp

@[simp] theorem execCflProtectionOpComplete_leaves_power (bank : Fin 2) (s : State) :
    Leaves State.power s (execCflProtectionOpComplete bank s) := by
  unfold execCflProtectionOpComplete
  dsimp only
  (repeat' split) <;> simp

@[simp] theorem execCflQueuedHostOpStart_leaves_power (bank : Fin 2) (s : State) :
    Leaves State.power s (execCflQueuedHostOpStart bank s) := by
  simp [execCflQueuedHostOpStart]

@[simp] theorem execDeviceRecordWrite_leaves_power (s : State) : Leaves State.power s (execDeviceRecordWrite s) := by
  unfold execDeviceRecordWrite
  (repeat' split) <;> simp

@[simp] theorem execCflSectorSelWrite_leaves_power (value : W32) (s : State) :
    Leaves State.power s (execCflSectorSelWrite value s) := by
  simp [execCflSectorSelWrite]

/-! Integrity. -/

@[simp] theorem execPatrolRead_leaves_power (addr : BitVec 40) (errors : W72) (stuck : W72) (s : State) :
    Leaves State.power s (execPatrolRead addr errors stuck s) := by
  simp [execPatrolRead]

@[simp] theorem execCopyRefetchComplete_leaves_power (unit : Fin 16) (result : RefetchResult) (tile : Fin 128) (entry : W32)
    (mask : Byte) (s : State) :
    Leaves State.power s (execCopyRefetchComplete unit result tile entry mask s) := by
  unfold execCopyRefetchComplete
  (repeat' split) <;> simp

@[simp] theorem execIntegrityCorrectedRateCheck_leaves_power (unit : Fin 16) (s : State) :
    Leaves State.power s (execIntegrityCorrectedRateCheck unit s) := by
  simp [execIntegrityCorrectedRateCheck]

/-! Security. -/

@[simp] theorem execSecEnroll_leaves_power (tr : Nat) (digest : BitVec 512) (auth : AuthInput) (s : State) :
    Leaves State.power s (execSecEnroll tr digest auth s) := by
  simp [execSecEnroll]

@[simp] theorem execSecRevoke_leaves_power (tr : Nat) (auth : AuthInput) (s : State) :
    Leaves State.power s (execSecRevoke tr auth s) := by
  simp [execSecRevoke]

@[simp] theorem execSecSetPolicy_leaves_power (tr : Nat) (auth : AuthInput) (s : State) :
    Leaves State.power s (execSecSetPolicy tr auth s) := by
  simp [execSecSetPolicy]

@[simp] theorem execSecAdvanceSvn_leaves_power (tr : Nat) (auth : AuthInput) (s : State) :
    Leaves State.power s (execSecAdvanceSvn tr auth s) := by
  simp [execSecAdvanceSvn]

@[simp] theorem execSecChallenge_leaves_power (tr : Nat) (s : State) : Leaves State.power s (execSecChallenge tr s) := by
  unfold execSecChallenge
  (repeat' split) <;> simp

@[simp] theorem execFuseWriteComplete_leaves_power (s : State) : Leaves State.power s (execFuseWriteComplete s) := by
  unfold execFuseWriteComplete
  (repeat' split) <;> simp

@[simp] theorem execSpdmGetVersion_leaves_power (s : State) : Leaves State.power s (execSpdmGetVersion s) := by
  simp [execSpdmGetVersion]

@[simp] theorem execSpdmGetCapabilities_leaves_power (s : State) : Leaves State.power s (execSpdmGetCapabilities s) := by
  simp [execSpdmGetCapabilities]

@[simp] theorem execSpdmNegotiateAlgorithms_leaves_power (request : List Byte) (s : State) :
    Leaves State.power s (execSpdmNegotiateAlgorithms request s) := by
  simp [execSpdmNegotiateAlgorithms]

@[simp] theorem execSpdmGetCertificate_leaves_power (slot : Byte) (offset : Nat) (len : Nat) (s : State) :
    Leaves State.power s (execSpdmGetCertificate slot offset len s) := by
  simp [execSpdmGetCertificate]

@[simp] theorem execSpdmChallenge_leaves_power (request : List Byte) (s : State) :
    Leaves State.power s (execSpdmChallenge request s) := by
  simp [execSpdmChallenge]

@[simp] theorem execSpdmGetMeasurements_leaves_power (index : Byte) (raw : Bool) (request : List Byte) (s : State) :
    Leaves State.power s (execSpdmGetMeasurements index raw request s) := by
  simp [execSpdmGetMeasurements]

@[simp] theorem execSpdmKeyExchange_leaves_power (request : List Byte) (s : State) :
    Leaves State.power s (execSpdmKeyExchange request s) := by
  simp [execSpdmKeyExchange]

@[simp] theorem execSpdmKeyUpdate_leaves_power (request : List Byte) (s : State) :
    Leaves State.power s (execSpdmKeyUpdate request s) := by
  simp [execSpdmKeyUpdate]

@[simp] theorem execSpdmHeartbeat_leaves_power (s : State) : Leaves State.power s (execSpdmHeartbeat s) := by
  simp [execSpdmHeartbeat]

@[simp] theorem execSpdmChunkGet_leaves_power (handle : Byte) (seq : BitVec 16) (s : State) :
    Leaves State.power s (execSpdmChunkGet handle seq s) := by
  simp [execSpdmChunkGet]

/-! Guest Book, counters and telemetry. -/

@[simp] theorem execGbRingStart_leaves_power (value : W32) (s : State) : Leaves State.power s (execGbRingStart value s) := by
  simp [execGbRingStart]

@[simp] theorem execGbRingStop_leaves_power (value : W32) (s : State) : Leaves State.power s (execGbRingStop value s) := by
  simp [execGbRingStop]

@[simp] theorem execGbHeadWrite_leaves_power (value : W32) (s : State) : Leaves State.power s (execGbHeadWrite value s) := by
  simp [execGbHeadWrite]

@[simp] theorem execGbCopyBudgetTick_leaves_power (s : State) : Leaves State.power s (execGbCopyBudgetTick s) := by
  simp [execGbCopyBudgetTick]

@[simp] theorem execQstatCtrlWrite_leaves_power (value : W32) (s : State) :
    Leaves State.power s (execQstatCtrlWrite value s) := by
  simp [execQstatCtrlWrite]

@[simp] theorem execQstatWindowLatch_leaves_power (s : State) : Leaves State.power s (execQstatWindowLatch s) := by
  simp [execQstatWindowLatch]

@[simp] theorem execEvtWinCtrlWrite_leaves_power (bank : Fin 7) (value : W32) (s : State) :
    Leaves State.power s (execEvtWinCtrlWrite bank value s) := by
  simp [execEvtWinCtrlWrite]

@[simp] theorem execStatsWindowEnd_leaves_power (bank : Fin 7) (s : State) :
    Leaves State.power s (execStatsWindowEnd bank s) := by
  simp [execStatsWindowEnd]

@[simp] theorem execEvtCtrSelWrite_leaves_power (value : W32) (s : State) :
    Leaves State.power s (execEvtCtrSelWrite value s) := by
  simp [execEvtCtrSelWrite]

@[simp] theorem execGbRead_leaves_power (request : List Byte) (s : State) : Leaves State.power s (execGbRead request s) := by
  simp [execGbRead]

@[simp] theorem execTelemetryRead_leaves_power (request : List Byte) (s : State) :
    Leaves State.power s (execTelemetryRead request s) := by
  simp [execTelemetryRead]

@[simp] theorem execCounterRead_leaves_power (request : List Byte) (s : State) :
    Leaves State.power s (execCounterRead request s) := by
  simp [execCounterRead]

/-! Later rows of the table. -/

@[simp] theorem execWatchdogRestart_leaves_power (s : State) : Leaves State.power s (execWatchdogRestart s) := by
  simp [execWatchdogRestart]

@[simp] theorem execShardQueryBudgetExpiry_leaves_power (query : Nat) (s : State) :
    Leaves State.power s (execShardQueryBudgetExpiry query s) := by
  unfold execShardQueryBudgetExpiry
  (repeat' split) <;> simp

end Sys2Proof.Machine
end

section
/-! SUPPORT. The commands that reach the supply and governor and leave the sampled straps. -/

namespace Sys2Proof.Machine

@[simp] theorem execPwrdisAssert_leaves_straps (s : State) :
    Leaves (fun x => x.power.straps) s (execPwrdisAssert s) := by
  simp [execPwrdisAssert]

@[simp] theorem execBladeSeated_leaves_straps (vinMv : Nat) (s : State) :
    Leaves (fun x => x.power.straps) s (execBladeSeated vinMv s) := by
  simp [execBladeSeated]

@[simp] theorem execBladeUnseated_leaves_straps (s : State) :
    Leaves (fun x => x.power.straps) s (execBladeUnseated s) := by
  simp [execBladeUnseated]

@[simp] theorem execVin48OvervoltageDisconnect_leaves_straps (vinMv : Nat) (s : State) :
    Leaves (fun x => x.power.straps) s (execVin48OvervoltageDisconnect vinMv s) := by
  simp [execVin48OvervoltageDisconnect]

@[simp] theorem execInputLossDetect_leaves_straps (vinMv : Nat) (s : State) :
    Leaves (fun x => x.power.straps) s (execInputLossDetect vinMv s) := by
  simp [execInputLossDetect]

@[simp] theorem execInputLossRecordProgram_leaves_straps (s : State) :
    Leaves (fun x => x.power.straps) s (execInputLossRecordProgram s) := by
  simp [execInputLossRecordProgram]

@[simp] theorem execSmbrstAssert_leaves_straps (s : State) :
    Leaves (fun x => x.power.straps) s (execSmbrstAssert s) := by
  simp [execSmbrstAssert]

@[simp] theorem execGovernorSample_leaves_straps (vinMv : Nat) (currentMa : Nat) (s : State) :
    Leaves (fun x => x.power.straps) s (execGovernorSample vinMv currentMa s) := by
  simp [execGovernorSample]

@[simp] theorem execGovernorWindowEnd_leaves_straps (s : State) :
    Leaves (fun x => x.power.straps) s (execGovernorWindowEnd s) := by
  simp [execGovernorWindowEnd]

@[simp] theorem execThrottleStepChange_leaves_straps (s : State) :
    Leaves (fun x => x.power.straps) s (execThrottleStepChange s) := by
  simp [execThrottleStepChange]

@[simp] theorem execClkPwrLimitWrite_leaves_straps (value : W32) (s : State) :
    Leaves (fun x => x.power.straps) s (execClkPwrLimitWrite value s) := by
  simp [execClkPwrLimitWrite]

@[simp] theorem execPwrLimitLock_leaves_straps (value : W32) (s : State) :
    Leaves (fun x => x.power.straps) s (execPwrLimitLock value s) := by
  simp [execPwrLimitLock]

@[simp] theorem execSensorSample_leaves_straps (readings : List (BitVec 16)) (s : State) :
    Leaves (fun x => x.power.straps) s (execSensorSample readings s) := by
  simp [execSensorSample]

@[simp] theorem execTamperOpen_leaves_straps (s : State) :
    Leaves (fun x => x.power.straps) s (execTamperOpen s) := by
  simp [execTamperOpen]

@[simp] theorem execPs3Entry_leaves_straps (s : State) :
    Leaves (fun x => x.power.straps) s (execPs3Entry s) := by
  simp [execPs3Entry]

@[simp] theorem execRegisterWrite_leaves_straps (offset : BitVec 23) (wide : Bool) (value : W64) (s : State) :
    Leaves (fun x => x.power.straps) s (execRegisterWrite offset wide value s) := by
  simp [execRegisterWrite]

@[simp] theorem execPowerStateExitComplete_leaves_straps (s : State) :
    Leaves (fun x => x.power.straps) s (execPowerStateExitComplete s) := by
  unfold execPowerStateExitComplete
  (repeat' split) <;> simp

@[simp] theorem execPerstAssert_leaves_straps (s : State) :
    Leaves (fun x => x.power.straps) s (execPerstAssert s) := by
  simp [execPerstAssert]

@[simp] theorem execPerstRelease_leaves_straps (s : State) :
    Leaves (fun x => x.power.straps) s (execPerstRelease s) := by
  simp [execPerstRelease]

@[simp] theorem execSoftwareDeviceReset_leaves_straps (value : W32) (s : State) :
    Leaves (fun x => x.power.straps) s (execSoftwareDeviceReset value s) := by
  simp [execSoftwareDeviceReset]

@[simp] theorem execWatchdogExpiry_leaves_straps (s : State) :
    Leaves (fun x => x.power.straps) s (execWatchdogExpiry s) := by
  simp [execWatchdogExpiry]

@[simp] theorem execStepFailureReset_leaves_straps (s : State) :
    Leaves (fun x => x.power.straps) s (execStepFailureReset s) := by
  simp [execStepFailureReset]

@[simp] theorem execBringupTimeout_leaves_straps (s : State) :
    Leaves (fun x => x.power.straps) s (execBringupTimeout s) := by
  simp [execBringupTimeout]

@[simp] theorem execDeferredResetTake_leaves_straps (unit : PulseUnit) (s : State) :
    Leaves (fun x => x.power.straps) s (execDeferredResetTake unit s) := by
  unfold execDeferredResetTake
  (repeat' split) <;> simp

@[simp] theorem execChannelResetForce_leaves_straps (channel : Fin 64) (s : State) :
    Leaves (fun x => x.power.straps) s (execChannelResetForce channel s) := by
  unfold execChannelResetForce
  (repeat' split) <;> simp

@[simp] theorem execBlockResetEnd_leaves_straps (selftest : StepWork) (s : State) :
    Leaves (fun x => x.power.straps) s (execBlockResetEnd selftest s) := by
  unfold execBlockResetEnd
  dsimp only
  (repeat' split) <;> simp

@[simp] theorem execSecDebugUnlock_leaves_straps (tr : Nat) (auth : AuthInput) (s : State) :
    Leaves (fun x => x.power.straps) s (execSecDebugUnlock tr auth s) := by
  unfold execSecDebugUnlock
  (repeat' split) <;> simp

@[simp] theorem execVin48Return_leaves_straps (vinMv : Nat) (s : State) :
    Leaves (fun x => x.power.straps) s (execVin48Return vinMv s) := by
  simp [execVin48Return]

@[simp] theorem execTamperCoverClose_leaves_straps (s : State) :
    Leaves (fun x => x.power.straps) s (execTamperCoverClose s) := by
  simp [execTamperCoverClose]

end Sys2Proof.Machine
end

section
/-! SUPPORT. The frame of `exec` for the supply and for the sampled straps, by the laws of its commands. -/

namespace Sys2Proof.Machine

/-- A command whose reach (`mayChange`) leaves out the supply and governor leaves that whole part of the state. -/
theorem exec_leaves_power {c : Instr} (s : State) (h : Part.power ∉ mayChange c) : Leaves State.power s (exec c s) := by
  cases c with
  | pwrdisAssert | pwrdisRelease | bladeSeated | bladeUnseated | vin48OvervoltageDisconnect | powerOnResetRelease
  | inputLossDetect | inputLossRecordProgram | smbrstAssert | governorSample | governorWindowEnd | throttleStepChange
  | clkPwrLimitWrite | pwrLimitLock | sensorSample | tamperOpen | ps3Entry | registerWrite | powerStateExitComplete
  | perstAssert | perstRelease | softwareDeviceReset | watchdogExpiry | stepFailureReset | bringupTimeout | deferredResetTake
  | channelResetForce | blockResetEnd | secDebugUnlock | vin48Return | tamperCoverClose =>
    simp [mayChange] at h
  | vecAdd | vecSub | vecMul | vecFma | vecDiv | vecSqrt | vecMin | vecMax | vecMinnum | vecMaxnum | vecCmp | vecSel | vecAbs
  | vecNeg | vecCopysign | vecRint | vecScaleb | vecSplit2 | vecSplit3 | vecExp | vecExp2 | vecLog | vecLog2 | vecTanh
  | vecErf | vecSigmoid | vecRsqrt | vecRsum | vecRmax | vecRmin | vecRargmax | vecSignpack | vecIadd | vecIsub | vecImul
  | vecAnd | vecOr | vecXor | vecShl | vecShr =>
    simp only [exec, execVecAdd, execVecSub, execVecMul, execVecFma, execVecDiv, execVecSqrt, execVecMin, execVecMax,
      execVecMinnum, execVecMaxnum, execVecCmp, execVecSel, execVecAbs, execVecNeg, execVecCopysign, execVecRint, execVecScaleb,
      execVecSplit2, execVecSplit3, execVecExp, execVecExp2, execVecLog, execVecLog2, execVecTanh, execVecErf, execVecSigmoid,
      execVecRsqrt, execVecRsum, execVecRmax, execVecRmin, execVecRargmax, execVecSignpack, execVecIadd, execVecIsub,
      execVecImul, execVecAnd, execVecOr, execVecXor, execVecShl, execVecShr, runVec_leaves_power]
  -- each of the others by its own law
  | _ => simp [exec]

/-- Every command but the two releases (R14, R16) leaves the sampled straps: either it does not reach the supply at all, or it
is one of the commands that carry the straps over. -/
theorem exec_leaves_straps {c : Instr} (s : State) (hrelease : ∀ x, c ≠ .powerOnResetRelease x)
    (hpwrdis : ∀ x, c ≠ .pwrdisRelease x) :
    Leaves (fun x => x.power.straps) s (exec c s) := by
  by_cases hpower : Part.power ∈ mayChange c
  · cases c with
    | powerOnResetRelease x => exact absurd rfl (hrelease x)
    | pwrdisRelease x => exact absurd rfl (hpwrdis x)
    | pwrdisAssert | bladeSeated | bladeUnseated | vin48OvervoltageDisconnect | inputLossDetect | inputLossRecordProgram
    | smbrstAssert | governorSample | governorWindowEnd | throttleStepChange | clkPwrLimitWrite | pwrLimitLock | sensorSample
    | tamperOpen | ps3Entry | registerWrite | powerStateExitComplete | perstAssert | perstRelease | softwareDeviceReset
    | watchdogExpiry | stepFailureReset | bringupTimeout | deferredResetTake | channelResetForce | blockResetEnd
    | secDebugUnlock | vin48Return | tamperCoverClose =>
      simp [exec]
    | _ => simp [mayChange] at hpower
  · exact fun t ht => congrArg Power.straps (exec_leaves_power s hpower t ht)

end Sys2Proof.Machine
end

section
/-! SUPPORT. What the release of power-on reset and a write to CLK_PWR_LIMIT do. -/

namespace Sys2Proof.Machine

theorem execPowerOnResetRelease_samples_straps {straps : Straps} {s : State} (hpor : s.power.porAsserted = true)
    (hconnected : s.power.connected = true) (hpwrdis : s.power.pwrdis = false) (htrip : s.power.thermTrip = false)
    (hloss : s.power.inputLoss = false) (hdeferred : s.boot.deferred = []) :
    ∃ t, execPowerOnResetRelease straps s = .next t ∧ t.power.straps = straps := by
  simp [execPowerOnResetRelease, hpor, hconnected, hpwrdis, htrip, hloss, hdeferred]

theorem bit_eq_testBit (v i : Nat) : bit v i = v.testBit i := by
  simp [bit, Nat.testBit_eq_decide_div_mod_eq, beq_eq_decide]

theorem writePwrLimit_unlocked {v : W32} {s : State} (h : s.power.pwrLimit.getLsbD 31 = false) :
    writePwrLimit v s = setPower (fun p => { p with pwrLimit := v &&& 0x800707FF#32 }) s := by
  rw [BitVec.getLsbD, ← bit_eq_testBit] at h
  simp [writePwrLimit, h]

theorem regWrite_of_works {stage : Nat} {lantern : Bool} {s : State} (f : State → State) (h : regWorks stage lantern s = true) :
    regWrite stage lantern f s = f s := if_pos h

end Sys2Proof.Machine
end

section
/-! The statements of the module family. -/

open Sys2Proof Sys2Proof.Machine

/-- Settles O11: the release of power-on reset copies the pins, and every command but the two releases leaves the copies. -/
theorem strapsAreSampledOnce : Obligations.StrapsAreSampledOnce := by
  constructor
  · intro straps s hpor hconnected hpwrdis htrip hloss hdeferred
    exact execPowerOnResetRelease_samples_straps hpor hconnected hpwrdis htrip hloss hdeferred
  · intro c s t hrelease hpwrdis hexec
    exact exec_leaves_straps s hrelease hpwrdis t hexec

/-- Settles O12: the write changes CLK_PWR_LIMIT alone, and the window's end copies limit_w into the limit in force. -/
theorem powerLimitActsAtWindowEnd : Obligations.PowerLimitActsAtWindowEnd := by
  constructor
  · intro value s hworks hunlocked
    refine ⟨_, rfl, ?_⟩
    rw [regWrite_of_works _ hworks, writePwrLimit_unlocked hunlocked]
    exact ⟨rfl, rfl, rfl, rfl⟩
  · intro s halive
    refine ⟨_, if_neg (by simp [halive]), ?_⟩
    simp
end

section
/-! SUPPORT. Rounding a quotient to an integer, and the conversion of FP32 to INT8 case by case (R69, R110). -/

namespace Sys2Proof.Machine

/-- `divEven n d` lies within half of n / d, and a quotient halfway between two integers goes to the even one. -/
theorem divEven_nearest_even (n : Nat) {d : Nat} (hd : 0 < d) :
    2 * divEven n d * d ≤ 2 * n + d ∧ 2 * n ≤ 2 * divEven n d * d + d ∧
      (2 * n + d = 2 * divEven n d * d ∨ 2 * n = 2 * divEven n d * d + d → divEven n d % 2 = 0) := by
  have hn : d * (n / d) + n % d = n := Nat.div_add_mod n d
  have hr : n % d < d := Nat.mod_lt n hd
  have hdown : 2 * (n / d) * d = 2 * (d * (n / d)) := by ring
  have hup : 2 * (n / d + 1) * d = 2 * (d * (n / d)) + 2 * d := by ring
  simp only [divEven, Bool.or_eq_true, Bool.and_eq_true, decide_eq_true_eq, beq_iff_eq]
  split
  · rw [hup]
    omega
  · rw [hdown]
    omega

/-- Magnitude m × 2^e over scale ms × 2^es as a fraction of natural numbers: its numerator. -/
def scaledNum (m : Nat) (e es : Int) : Nat := if es ≤ e then m * 2 ^ (e - es).toNat else m

/-- The denominator of the same fraction. -/
def scaledDen (ms : Nat) (e es : Int) : Nat := if es ≤ e then ms else ms * 2 ^ (es - e).toNat

theorem scaledDen_pos {ms : Nat} (hms : 0 < ms) (e es : Int) : 0 < scaledDen ms e es := by
  unfold scaledDen
  split
  · exact hms
  · exact Nat.mul_pos hms (Nat.two_pow_pos _)

theorem int8Encode_of_nan {v sc ms : Nat} {es : Int} (hsc : f32.decode sc = .fin false ms es) (hv : f32.decode v = .nan) :
    int8Encode v sc = (0, true) := by
  simp [int8Encode, hsc, hv]

theorem int8Encode_of_inf {v sc ms : Nat} {es : Int} {neg : Bool} (hsc : f32.decode sc = .fin false ms es)
    (hms : 2 ^ 23 ≤ ms) (hv : f32.decode v = .inf neg) : int8Encode v sc = (int8Byte neg 127, true) := by
  simp only [int8Encode, hsc, hv, if_neg (Nat.not_lt.mpr hms)]

theorem int8Encode_of_fin {v sc ms m : Nat} {es e : Int} {neg : Bool} (hsc : f32.decode sc = .fin false ms es)
    (hms : 2 ^ 23 ≤ ms) (hv : f32.decode v = .fin neg m e) :
    int8Encode v sc = (int8Byte neg (min (divEven (scaledNum m e es) (scaledDen ms e es)) 127),
      decide (127 < divEven (scaledNum m e es) (scaledDen ms e es))) := by
  simp only [int8Encode, hsc, hv, if_neg (Nat.not_lt.mpr hms), scaledNum, scaledDen]
  split <;> rfl

theorem int8Byte_in_range (neg : Bool) {k : Nat} (hk : k ≤ 127) : int8Byte neg k < 256 ∧ int8Byte neg k ≠ 0x80 := by
  unfold int8Byte
  split <;> omega

/-- Every answer of the conversion is 0 or the byte of a magnitude up to 127: −128 is never written. -/
theorem int8Encode_in_range (v sc : Nat) : (int8Encode v sc).1 < 256 ∧ (int8Encode v sc).1 ≠ 0x80 := by
  unfold int8Encode
  split
  · split
    · decide
    split
    · decide
    · exact int8Byte_in_range _ le_rfl
    · exact int8Byte_in_range _ (Nat.min_le_right _ 127)
  · decide

end Sys2Proof.Machine
end

section
/-! The statement of the number formats family. -/

open Sys2Proof Sys2Proof.Machine

/-- Settles O15: the magnitude is the quotient of `divEven`, held at 127. -/
theorem int8ConversionRoundsAndSaturates : Obligations.Int8ConversionRoundsAndSaturates := by
  refine ⟨?_, ?_, ?_, int8Encode_in_range⟩
  · intro v sc ms es neg m e hsc hms hv
    have hd : 0 < scaledDen ms e es := scaledDen_pos (Nat.lt_of_lt_of_le (Nat.two_pow_pos 23) hms) e es
    exact ⟨divEven (scaledNum m e es) (scaledDen ms e es), divEven_nearest_even _ hd, int8Encode_of_fin hsc hms hv⟩
  · intro v sc ms es hsc _ hv
    exact int8Encode_of_nan hsc hv
  · intro v sc ms es neg hsc hms hv
    exact int8Encode_of_inf hsc hms hv
end

section
/-! SUPPORT. The bits of a little-endian value, and the set bits of a number as a list of places (R4, R261). -/

namespace Sys2Proof.Machine

/-- Bit `i` of a little-endian value is bit i mod 8 of its byte i div 8. -/
theorem testBit_leNat {bytes : List Byte} {i : Nat} {b : Byte} (h : bytes[i / 8]? = some b) :
    (leNat bytes).testBit i = b.getLsbD (i % 8) := by
  induction bytes generalizing i with
  | nil => simp at h
  | cons c cs ih =>
    have hsplit : (leNat (c :: cs)).testBit i = if i < 8 then c.toNat.testBit i else (leNat cs).testBit (i - 8) := by
      rw [leNat, Nat.add_comm, show (256 : Nat) = 2 ^ 8 from rfl, Nat.testBit_two_pow_mul_add _ c.isLt]
    rw [hsplit]
    by_cases hi : i < 8
    · obtain rfl : c = b := by simpa [Nat.div_eq_of_lt hi] using h
      rw [if_pos hi, Nat.mod_eq_of_lt hi, BitVec.getLsbD]
    · have hdiv : i / 8 = (i - 8) / 8 + 1 := by omega
      rw [hdiv, List.getElem?_cons_succ] at h
      rw [if_neg hi, ih h, ← Nat.mod_eq_sub_mod (Nat.not_lt.mp hi)]

/-- `popCount n v` is the number of places below `n` where `v` has a set bit. -/
theorem popCount_eq_length_filter (n v : Nat) : popCount n v = ((List.range n).filter v.testBit).length := by
  induction n generalizing v with
  | zero => rfl
  | succ n ih =>
    have hbit : v % 2 = if v.testBit 0 then 1 else 0 := by
      rcases Nat.mod_two_eq_zero_or_one v with h | h <;> simp [h]
    have hshift : (v / 2).testBit = v.testBit ∘ Nat.succ := funext fun i => (Nat.testBit_succ v i).symm
    rw [popCount, ih, hbit, hshift, List.range_succ_eq_map, List.filter_cons, List.filter_map]
    split <;> simp [Nat.add_comm]

/-- A number of `n` bits has no more than `n` set bits, however many places are looked at. -/
theorem popCount_le_of_lt_two_pow {n v : Nat} (m : Nat) (hv : v < 2 ^ n) : popCount m v ≤ n := by
  have hsubset : (List.range m).filter v.testBit ⊆ List.range n := by
    intro i hi
    have hset : v.testBit i := (List.mem_filter.mp hi).2
    have hlow : 2 ^ i < 2 ^ n := (Nat.ge_two_pow_of_testBit hset).trans_lt hv
    exact List.mem_range.mpr ((Nat.pow_lt_pow_iff_right one_lt_two).mp hlow)
  calc popCount m v = ((List.range m).filter v.testBit).length := popCount_eq_length_filter m v
    _ ≤ (List.range n).length := ((List.nodup_range.filter _).subperm hsubset).length_le
    _ = n := List.length_range

theorem bit_sketchOf {x : RalIndex} {n i : Nat} {s : State} {b : Byte}
    (h : (stackedBytes (sketchAddr x n s) (sketchBytes x) s)[i / 8]? = some b) :
    bit (sketchOf x n s) i = b.getLsbD (i % 8) := by
  rw [bit_eq_testBit, sketchOf, testBit_leNat h]

theorem sketchDist_eq_length_filter (a b : Nat) :
    sketchDist a b = ((List.range 1024).filter (fun i => bit a i != bit b i)).length := by
  have hdiffer : (a ^^^ b).testBit = fun i => bit a i != bit b i := by
    funext i
    rw [Nat.testBit_xor, bit_eq_testBit, bit_eq_testBit, Bool.bne_eq_xor]
  rw [sketchDist, popCount_eq_length_filter, hdiffer]

theorem sketchDist_le {n a b : Nat} (ha : a < 2 ^ n) (hb : b < 2 ^ n) : sketchDist a b ≤ n :=
  popCount_le_of_lt_two_pow 1024 (Nat.xor_lt_two_pow ha hb)

end Sys2Proof.Machine
end

section
/-! The statement of the vector search family. -/

open Sys2Proof Sys2Proof.Machine

/-- Settles O14: a sketch is the little-endian value of its bytes, and the distance is the number of set bits of an exclusive or. -/
theorem sketchDistanceCountsDifferingBits : Obligations.SketchDistanceCountsDifferingBits := by
  refine ⟨?_, ?_, ?_⟩
  · intro x n s i b hbyte
    exact bit_sketchOf hbyte
  · intro a b _ _
    exact sketchDist_eq_length_filter a b
  · intro n a b _ ha hb
    exact sketchDist_le ha hb
end

section
/-! SUPPORT. What a W72 checker makes of a word, syndrome by syndrome, and what a read of stacked memory answers and counts
(R492, R496, R499, R504). -/

namespace Sys2Proof.Machine

theorem posOf_of_getElem? {xs : List Nat} {x i : Nat} (hnodup : xs.Nodup) (h : xs[i]? = some x) : posOf xs x = some i := by
  induction xs generalizing i with
  | nil => simp at h
  | cons y ys ih =>
    obtain ⟨hfresh, htail⟩ := List.nodup_cons.mp hnodup
    cases i with
    | zero =>
      obtain rfl : y = x := by simpa using h
      simp [posOf]
    | succ i =>
      rw [List.getElem?_cons_succ] at h
      have hne : y ≠ x := fun heq => hfresh (heq ▸ List.mem_of_getElem? h)
      simp [posOf, hne, ih htail h]

theorem posOf_of_notMem {xs : List Nat} {x : Nat} (h : x ∉ xs) : posOf xs x = none := by
  induction xs with
  | nil => rfl
  | cons y ys ih =>
    obtain ⟨hne, htail⟩ := List.ne_and_not_mem_of_not_mem_cons h
    simp [posOf, hne.symm, ih htail]

/-- The columns of the check bits: the values of weight 1 (R491). -/
def w72UnitColumns : List Nat := [1, 2, 4, 8, 16, 32, 64, 128]

theorem w72Columns_nodup : w72Columns.Nodup := by decide

theorem zero_notMem_w72Columns : 0 ∉ w72Columns := by decide

theorem two_pow_notMem_w72Columns : ∀ j < 8, 2 ^ j ∉ w72Columns := by decide

theorem w72UnitColumns_nodup : w72UnitColumns.Nodup := by decide

theorem w72UnitColumns_getElem? : ∀ j < 8, w72UnitColumns[j]? = some (2 ^ j) := by decide

theorem exists_two_pow_of_mem_w72UnitColumns : ∀ x ∈ w72UnitColumns, ∃ j < 8, x = 2 ^ j := by decide

/-! The rows of Table: W72 syndromes. -/

theorem w72Decode_of_syndrome_zero {w : Nat} (h : w72Syndrome w = 0) : w72Decode w = .clean (w % 2 ^ 64) := by
  simp [w72Decode, h]

theorem w72Decode_of_syndrome_column {w i : Nat} (h : w72Columns[i]? = some (w72Syndrome w)) :
    w72Decode w = .corrected (w % 2 ^ 64 ^^^ 2 ^ i) i := by
  have hne : w72Syndrome w ≠ 0 := fun h0 => zero_notMem_w72Columns (h0 ▸ List.mem_of_getElem? h)
  simp only [w72Decode, if_neg hne, posOf_of_getElem? w72Columns_nodup h]

theorem w72Decode_of_syndrome_unit {w j : Nat} (hj : j < 8) (h : w72Syndrome w = 2 ^ j) :
    w72Decode w = .corrected (w % 2 ^ 64) (64 + j) := by
  have hne : w72Syndrome w ≠ 0 := h ▸ (Nat.two_pow_pos j).ne'
  have hcolumn : posOf w72Columns (w72Syndrome w) = none := posOf_of_notMem (h ▸ two_pow_notMem_w72Columns j hj)
  have hunit : posOf [1, 2, 4, 8, 16, 32, 64, 128] (w72Syndrome w) = some j :=
    posOf_of_getElem? w72UnitColumns_nodup (h ▸ w72UnitColumns_getElem? j hj)
  simp only [w72Decode, if_neg hne, hcolumn, hunit]

theorem w72Decode_of_syndrome_other {w : Nat} (hne : w72Syndrome w ≠ 0) (hdata : w72Syndrome w ∉ w72Columns)
    (hweight : ∀ j < 8, w72Syndrome w ≠ 2 ^ j) : w72Decode w = .uncorrectable (w72Syndrome w) := by
  have hcolumn : posOf w72Columns (w72Syndrome w) = none := posOf_of_notMem hdata
  have hunit : posOf [1, 2, 4, 8, 16, 32, 64, 128] (w72Syndrome w) = none := by
    refine posOf_of_notMem fun hmem => ?_
    obtain ⟨j, hj, heq⟩ := exists_two_pow_of_mem_w72UnitColumns _ hmem
    exact hweight j hj heq
  simp only [w72Decode, if_neg hne, hcolumn, hunit]

/-! The counters (R496, R499, R504). -/

theorem eccOf_countCorrected_corrected (u k : Nat) (s : State) :
    (eccOf u (countCorrected u k s)).corrected =
      if k = 0 then (eccOf u s).corrected else satAdd 32 (eccOf u s).corrected k := by
  unfold countCorrected
  split
  · rfl
  · simp [eccOf, Tbl.lookD]

/-- Counting no correction leaves the counter as it is, so it is a saturating sum only where the counter fits its 32 bits. -/
theorem eccOf_countCorrected_eq_satAdd_iff (u k : Nat) (s : State) :
    (eccOf u (countCorrected u k s)).corrected = satAdd 32 (eccOf u s).corrected k ↔
      (k = 0 → (eccOf u s).corrected < 2 ^ 32) := by
  rw [eccOf_countCorrected_corrected]
  by_cases hk : k = 0
  · simp only [hk, satAdd, if_true, true_imp_iff]
    omega
  · simp [hk]

theorem eccOf_countCorrected_uncorrectable (u k : Nat) (s : State) :
    (eccOf u (countCorrected u k s)).uncorrectable = (eccOf u s).uncorrectable := by
  unfold countCorrected
  split
  · rfl
  · simp [eccOf, Tbl.lookD]

theorem eccOf_logUncorrectable_uncorrectable (u addr syn : Nat) (s : State) :
    (eccOf u (logUncorrectable u addr syn s)).uncorrectable = satAdd 16 (eccOf u s).uncorrectable 1 := by
  simp [logUncorrectable, eccOf, Tbl.lookD]

/-! A read of stacked memory. -/

theorem readStacked_of_firstBad_none {a n : Nat} {s : State} (h : firstBad a n s = none) :
    readStacked a n s = (.ok (stackedBytes a n s), countCorrected 0 (correctedWords a n s).length s) := by
  simp [readStacked, h]

theorem readStacked_of_firstBad_some {a n w syn : Nat} {s : State} (h : firstBad a n s = some (w, syn)) :
    readStacked a n s = (.error (w * 8, syn),
      logUncorrectable 0 (w * 8) syn (countCorrected 0 (correctedWords a n s).length s)) := by
  simp [readStacked, h]

/-- A state whose count of corrections of stacked memory, a natural number in the model, is past the 32 bits of its field. -/
def overfullCounter : State :=
  { State.reset with ecc := { Ecc.reset with ctrs := [(0, { corrected := 2 ^ 32, uncorrectable := 0, refetched := 0 })] } }

end Sys2Proof.Machine
end

section
/-! The statement of the data integrity family. -/

open Sys2Proof Sys2Proof.Machine

/-- The rows of the table hold of every word and the uncorrectable count of every read. All that the statement of O16 asks
beyond them is that a read that corrects nothing finds a count of corrections below 2 ^ 32. -/
theorem syndromeDecidesTheWord_iff_counterFits :
    Obligations.SyndromeDecidesTheWord ↔
      ∀ a n s, firstBad a n s = none → correctedWords a n s = [] → (eccOf 0 s).corrected < 2 ^ 32 := by
  constructor
  · rintro ⟨-, -, -, -, -, hread, -⟩ a n s hgood hnone
    obtain ⟨-, hcount⟩ := hread a n s hgood
    rw [readStacked_of_firstBad_none hgood, eccOf_countCorrected_eq_satAdd_iff] at hcount
    exact hcount (List.length_eq_zero_iff.mpr hnone)
  · intro hfits
    refine ⟨fun _ => rfl, fun _ => w72Decode_of_syndrome_zero, ?_, fun _ _ => w72Decode_of_syndrome_unit,
      fun _ => w72Decode_of_syndrome_other, ?_, ?_⟩
    · intro w i h hcolumn hsyndrome
      exact w72Decode_of_syndrome_column (hsyndrome ▸ hcolumn)
    · intro a n s hgood
      rw [readStacked_of_firstBad_none hgood, eccOf_countCorrected_eq_satAdd_iff]
      exact ⟨rfl, fun hnone => hfits a n s hgood (List.length_eq_zero_iff.mp hnone)⟩
    · intro a n s w syn hbad
      rw [readStacked_of_firstBad_some hbad, eccOf_logUncorrectable_uncorrectable, eccOf_countCorrected_uncorrectable]
      exact ⟨rfl, rfl⟩

/-- Refutes O16: its sixth clause quantifies over every state, and a read of no byte in `overfullCounter` corrects nothing and
leaves the count at 2 ^ 32, where the clause asks for its value held at 2 ^ 32 - 1. -/
theorem not_syndromeDecidesTheWord : ¬ Obligations.SyndromeDecidesTheWord := by
  rw [syndromeDecidesTheWord_iff_counterFits]
  intro hfits
  have hcount : (eccOf 0 overfullCounter).corrected < 2 ^ 32 := hfits 0 0 overfullCounter rfl rfl
  exact absurd hcount (by decide)
end

section
/-! SUPPORT. Records that go to the Guest Book ring leave it running, and what a write to EVT_GB_CTRL does to a stopped ring
(R526 to R528). -/

namespace Sys2Proof.Machine

@[simp] theorem gbPut_running (r : EvtRec) (s : State) : (gbPut r s).evt.running = s.evt.running := by
  simp [gbPut]

@[simp] theorem gbLose_running (r : EvtRec) (s : State) : (gbLose r s).evt.running = s.evt.running := rfl

@[simp] theorem gbNumber_running (code detail : Nat) (s : State) : (gbNumber code detail s).2.evt.running = s.evt.running := rfl

@[simp] theorem gbDeliver_running (r : EvtRec) (s : State) : (gbDeliver r s).evt.running = s.evt.running := by
  unfold gbDeliver
  split_ifs <;> simp

@[simp] theorem gbCopy_running (c : CopyClass) (r : EvtRec) (s : State) : (gbCopy c r s).evt.running = s.evt.running := by
  cases c with
  | never => simp [gbCopy]
  | always => simp [gbCopy, apply_ite Evt.running]
  | budget => simp [gbCopy, apply_ite Evt.running]

@[simp] theorem gbMark_running (copied : Bool) (s : State) : (gbMark copied s).evt.running = s.evt.running := by
  simp [gbMark, apply_ite Evt.running]

@[simp] theorem logEvent_running (ev : Ev) (detail : Nat) (s : State) : (logEvent ev detail s).evt.running = s.evt.running := by
  simp [logEvent]

@[simp] theorem gbReportLost_running (s : State) : (gbReportLost s).evt.running = s.evt.running := by
  simp [gbReportLost, apply_ite Evt.running]

@[simp] theorem gbFlush_running (rs : List EvtRec) (s : State) : (gbFlush rs s).evt.running = s.evt.running := by
  induction rs generalizing s with
  | nil => rfl
  | cons r rs ih => simp [gbFlush, ih, apply_ite Evt.running]

/-- The conditions of R526 on depth_m1, vector and EVT_GB_BASE for a start with the value `v`. -/
def gbStartOk (v base : Nat) : Prop :=
  63 ≤ bits v 15 0 ∧ (bits v 27 16 ≤ 2047 ∨ bits v 27 16 = 0xFFF) ∧ base % 4096 = 0

theorem writeGbCtrl_starts {v : W32} {s : State} (hstopped : s.evt.running = false) (henable : bit v.toNat 31 = true)
    (hok : gbStartOk v.toNat s.evt.base) : (writeGbCtrl v s).evt.running = true := by
  obtain ⟨hdepth, hvector, hbase⟩ := hok
  simp [writeGbCtrl, hstopped, henable, hdepth, hvector, hbase]

theorem writeGbCtrl_refuses {v : W32} {s : State} (hstopped : s.evt.running = false) (henable : bit v.toNat 31 = true)
    (hbad : ¬ gbStartOk v.toNat s.evt.base) :
    (writeGbCtrl v s).evt.running = false ∧ (writeGbCtrl v s).evt.refused = true := by
  rw [gbStartOk, ← and_assoc] at hbad
  simp [writeGbCtrl, hstopped, henable, hbad]

theorem bits_or (a b hi lo : Nat) : bits (a ||| b) hi lo = bits a hi lo ||| bits b hi lo := by
  simp [bits, Nat.or_div_two_pow, Nat.or_mod_two_pow]

theorem bit_setEnable (v : W32) : bit (v ||| 0x80000000#32).toNat 31 = true := by
  have henable : Nat.testBit 0x80000000 31 = true := by decide
  simp [bit_eq_testBit, henable]

/-- Setting enable, bit 31, leaves depth_m1 and vector, so it changes nothing of what R526 asks of the value. -/
theorem gbStartOk_setEnable (v : W32) (base : Nat) : gbStartOk (v ||| 0x80000000#32).toNat base ↔ gbStartOk v.toNat base := by
  have hdepth : bits 0x80000000 15 0 = 0 := by decide
  have hvector : bits 0x80000000 27 16 = 0 := by decide
  simp [gbStartOk, bits_or, hdepth, hvector]

end Sys2Proof.Machine
end

section
/-! The statement of the events family. -/

open Sys2Proof Sys2Proof.Machine

/-- Settles O13: the value is written with enable set, which leaves the fields that R526 speaks of, and a start whose conditions
hold keeps the ring running while the buffered records enter it. -/
theorem guestBookRingStartsOrIsRefused : Obligations.GuestBookRingStartsOrIsRefused := by
  intro value s hworks hstopped
  refine ⟨_, rfl, ?_⟩
  rw [regWrite_of_works _ hworks]
  constructor
  · intro hok
    exact writeGbCtrl_starts hstopped (bit_setEnable value) ((gbStartOk_setEnable value _).mpr hok)
  · intro hbad
    exact writeGbCtrl_refuses hstopped (bit_setEnable value) (mt (gbStartOk_setEnable value _).mp hbad)
end

section
set_option Elab.async false
/-! SUPPORT. A step of the machine: a command at the front of the queue, or one TCLK cycle on an empty queue (log 1), and the
parts of the state that such a cycle leaves. -/

namespace Sys2Proof.Machine

theorem step_of_nil {s : State} (h : s.pending = []) : step s = .next (clockTick s) := by
  simp [step, h]

theorem step_of_cons {s : State} {c : Instr} {rest : List Instr} (h : s.pending = c :: rest) :
    step s = exec c { s with pending := rest } := by
  simp [step, h]

/-- A part of the state that every operation keeps: what `kept p` says of it is `p`. -/
@[simp] abbrev kept (p : Prop) : Prop := p

/-- A part of the state that an operation may reach: nothing is said of it. -/
@[simp] abbrev reached (_ : Prop) : Prop := True

/-- `t` is `s` but for the parts that are named as `reached`. As an abbreviation for a conjunction of equations it can be given to
`simp`, which takes every part's equation from it. -/
@[simp] abbrev Within (s t : State) (pending tclk gZero drawn power boot host rings evt tensor mem ecc spaces flash fabric
    embed ralid cfl sec : Prop → Prop := kept) : Prop :=
  pending (t.pending = s.pending) ∧ tclk (t.tclk = s.tclk) ∧ gZero (t.gZero = s.gZero) ∧ drawn (t.drawn = s.drawn) ∧
  power (t.power = s.power) ∧ boot (t.boot = s.boot) ∧ host (t.host = s.host) ∧ rings (t.rings = s.rings) ∧
  evt (t.evt = s.evt) ∧ tensor (t.tensor = s.tensor) ∧ mem (t.mem = s.mem) ∧ ecc (t.ecc = s.ecc) ∧
  spaces (t.spaces = s.spaces) ∧ flash (t.flash = s.flash) ∧ fabric (t.fabric = s.fabric) ∧ embed (t.embed = s.embed) ∧
  ralid (t.ralid = s.ralid) ∧ cfl (t.cfl = s.cfl) ∧ sec (t.sec = s.sec)

@[simp] theorem finishFlagTile_within (src : Nat) (s : State) : Within s (finishFlagTile src s) (tensor := reached) := by
  unfold finishFlagTile
  split <;> simp

@[simp] theorem landDue_within (s : State) : Within s (landDue s) (tensor := reached) := by
  simp [landDue]

@[simp] theorem commitFlags_within (s : State) : Within s (commitFlags s) (tensor := reached) (mem := reached) := by
  simp [commitFlags]

@[simp] theorem countTile_within (t : Nat) (x : Tile) (s : State) : Within s (countTile t x s) (evt := reached) := by
  simp [countTile]

@[simp] theorem countCycle_within (s : State) : Within s (countCycle s) (evt := reached) (tensor := reached) := by
  unfold countCycle
  dsimp only
  (repeat' split) <;> simp

@[simp] theorem clockTick_within (s : State) :
    Within s (clockTick s) (tclk := reached) (evt := reached) (tensor := reached) (mem := reached) := by
  unfold clockTick
  dsimp only
  (repeat' split) <;> simp

theorem clockTick_tclk (s : State) : (clockTick s).tclk = s.tclk + 1 := by
  unfold clockTick
  dsimp only
  (repeat' split) <;> simp

end Sys2Proof.Machine
end

section
set_option Elab.async false
/-! The statements about a step and about the state after reset. -/

open Sys2Proof Sys2Proof.Machine

/-- Settles O1: `step` matches on the queue. -/
theorem stepRunsFrontCommand : Obligations.StepRunsFrontCommand :=
  fun _ _ _ => step_of_cons rfl

/-- Settles O2: the cycle's flag increments, landings and counts reach the tensor complex, its memory and the counters alone. -/
theorem idleStepPassesOneCycle : Obligations.IdleStepPassesOneCycle := by
  intro s hpending
  exact ⟨clockTick s, step_of_nil hpending, clockTick_tclk s, by simp [hpending]⟩

/-- Settles O5: every value is a field of `State.reset`. -/
theorem resetHoldsItsValues : Obligations.ResetHoldsItsValues := by
  have hwins : ∀ b < 7, (winOf b State.reset).reg = 0x18000000#32 := by decide
  exact ⟨rfl, rfl, rfl, rfl, rfl, by decide, hwins, rfl, rfl, rfl, rfl, rfl, rfl, rfl, rfl, rfl, rfl, rfl, rfl, rfl, rfl, rfl, rfl,
    rfl⟩

/-- Settles O6: no fuse write is in progress, no step is requested, and no memory lists a byte. -/
theorem resetMeetsInvariants : Obligations.ResetMeetsInvariants :=
  ⟨rfl, rfl, rfl⟩
end

section
set_option Elab.async false
/-! SUPPORT. The W72 code is linear, and its 72 columns are distinct and of odd weight (R491). -/

namespace Sys2Proof.Machine

theorem xorColumns_xor (cs : List Nat) (v w : Nat) : xorColumns cs (v ^^^ w) = xorColumns cs v ^^^ xorColumns cs w := by
  induction cs generalizing v w with
  | nil => simp [xorColumns]
  | cons c cs ih =>
    have hbit : (v ^^^ w) % 2 = v % 2 ^^^ w % 2 := Nat.xor_mod_two_pow (n := 1)
    have hrest : (v ^^^ w) / 2 = v / 2 ^^^ w / 2 := Nat.xor_div_two_pow (n := 1)
    simp only [xorColumns, hbit, hrest, ih]
    rcases Nat.mod_two_eq_zero_or_one v with hv | hv <;> rcases Nat.mod_two_eq_zero_or_one w with hw | hw <;>
      simp [hv, hw, Nat.xor_assoc, Nat.xor_left_comm]

theorem xorColumns_lt {cs : List Nat} {n : Nat} (h : ∀ c ∈ cs, c < 2 ^ n) (v : Nat) : xorColumns cs v < 2 ^ n := by
  induction cs generalizing v with
  | nil => exact Nat.two_pow_pos n
  | cons c cs ih =>
    have hrest := ih (fun x hx => h x (List.mem_cons_of_mem _ hx)) (v / 2)
    unfold xorColumns
    split
    · exact Nat.xor_lt_two_pow (h c List.mem_cons_self) hrest
    · exact hrest

theorem w72Columns_lt : ∀ c ∈ w72Columns, c < 2 ^ 8 := by decide

theorem w72Check_lt (data : Nat) : w72Check data < 2 ^ 8 := xorColumns_lt w72Columns_lt data

theorem w72Syndrome_xor (v w : Nat) : w72Syndrome (v ^^^ w) = w72Syndrome v ^^^ w72Syndrome w := by
  have hcheck : (v ^^^ w) / 2 ^ 64 % 2 ^ 8 = v / 2 ^ 64 % 2 ^ 8 ^^^ w / 2 ^ 64 % 2 ^ 8 := by
    rw [Nat.xor_div_two_pow, Nat.xor_mod_two_pow]
  unfold w72Syndrome w72Check
  rw [Nat.xor_mod_two_pow, xorColumns_xor, show 256 = 2 ^ 8 from rfl, hcheck]
  ac_rfl

theorem w72Encode_mod {data : Nat} (h : data < 2 ^ 64) : w72Encode data % 2 ^ 64 = data := by
  unfold w72Encode
  omega

theorem w72Syndrome_encode (data : Nat) : w72Syndrome (w72Encode data) = 0 := by
  have hcheck := w72Check_lt (data % 2 ^ 64)
  have hlow : w72Encode data % 2 ^ 64 = data % 2 ^ 64 := by
    unfold w72Encode
    omega
  have hhigh : w72Encode data / 2 ^ 64 % 256 = w72Check (data % 2 ^ 64) := by
    unfold w72Encode
    omega
  rw [w72Syndrome, hlow, hhigh, Nat.xor_self]

/-- The column of each bit of a word: the syndrome of that bit alone. -/
theorem w72Syndrome_two_pow_data : ∀ i < 64, w72Columns[i]? = some (w72Syndrome (2 ^ i)) := by decide

theorem w72Syndrome_two_pow_check : ∀ j < 8, w72Syndrome (2 ^ (64 + j)) = 2 ^ j := by decide

/-- Whether the weight of a byte is odd. -/
def oddWeight (c : Nat) : Nat := xorColumns [1, 1, 1, 1, 1, 1, 1, 1] c

theorem oddWeight_w72Columns : ∀ c ∈ w72Columns, oddWeight c = 1 := by decide

theorem oddWeight_two_pow : ∀ j < 8, oddWeight (2 ^ j) = 1 := by decide

theorem w72Syndrome_two_pow_odd {i : Nat} (h : i < 72) : oddWeight (w72Syndrome (2 ^ i)) = 1 := by
  by_cases hi : i < 64
  · exact oddWeight_w72Columns _ (List.mem_of_getElem? (w72Syndrome_two_pow_data i hi))
  · obtain ⟨j, rfl⟩ := Nat.exists_eq_add_of_le (Nat.le_of_not_lt hi)
    rw [w72Syndrome_two_pow_check j (by omega)]
    exact oddWeight_two_pow j (by omega)

theorem w72Syndrome_two_pow_ne : ∀ i < 72, ∀ j < i, w72Syndrome (2 ^ i) ≠ w72Syndrome (2 ^ j) := by decide

/-- Any one bit inverted: the syndrome is that bit's column, and the decoder inverts it back. -/
theorem w72Decode_one_error {data i : Nat} (hdata : data < 2 ^ 64) (hi : i < 72) :
    w72Decode (w72Encode data ^^^ 2 ^ i) = .corrected data i := by
  have hsyndrome : w72Syndrome (w72Encode data ^^^ 2 ^ i) = w72Syndrome (2 ^ i) := by
    rw [w72Syndrome_xor, w72Syndrome_encode, Nat.zero_xor]
  have hlow : (w72Encode data ^^^ 2 ^ i) % 2 ^ 64 = data ^^^ 2 ^ i % 2 ^ 64 := by
    rw [Nat.xor_mod_two_pow, w72Encode_mod hdata]
  by_cases hbit : i < 64
  · rw [w72Decode_of_syndrome_column (hsyndrome ▸ w72Syndrome_two_pow_data i hbit), hlow,
      Nat.mod_eq_of_lt (Nat.pow_lt_pow_right (by norm_num) hbit), Nat.xor_xor_cancel_right]
  · obtain ⟨j, rfl⟩ := Nat.exists_eq_add_of_le (Nat.le_of_not_lt hbit)
    have hj : j < 8 := by omega
    rw [w72Decode_of_syndrome_unit hj (hsyndrome.trans (w72Syndrome_two_pow_check j hj)), hlow, pow_add,
      Nat.mul_mod_right, Nat.xor_zero]

/-- Any two bits inverted: the syndrome is not zero and of even weight, so no column. -/
theorem w72Decode_two_errors (data : Nat) {i j : Nat} (hi : i < 72) (hj : j < i) :
    ∃ syn, w72Decode (w72Encode data ^^^ 2 ^ i ^^^ 2 ^ j) = .uncorrectable syn := by
  have hsyndrome : w72Syndrome (w72Encode data ^^^ 2 ^ i ^^^ 2 ^ j) = w72Syndrome (2 ^ i) ^^^ w72Syndrome (2 ^ j) := by
    rw [w72Syndrome_xor, w72Syndrome_xor, w72Syndrome_encode, Nat.zero_xor]
  have heven : oddWeight (w72Syndrome (w72Encode data ^^^ 2 ^ i ^^^ 2 ^ j)) = 0 := by
    rw [hsyndrome, oddWeight, xorColumns_xor]
    exact (congrArg₂ (· ^^^ ·) (w72Syndrome_two_pow_odd hi) (w72Syndrome_two_pow_odd (hj.trans hi))).trans (Nat.xor_self 1)
  refine ⟨_, w72Decode_of_syndrome_other ?_ ?_ ?_⟩
  · rw [hsyndrome]
    exact fun hzero => w72Syndrome_two_pow_ne i hi j hj (Nat.xor_eq_zero_iff.mp hzero)
  · intro hmem
    exact absurd (heven.symm.trans (oddWeight_w72Columns _ hmem)) (by decide)
  · intro k hk heq
    rw [heq, oddWeight_two_pow k hk] at heven
    exact absurd heven (by decide)

end Sys2Proof.Machine
end

section
set_option Elab.async false
open Sys2Proof Sys2Proof.Machine

/-- Settles O17: the code is linear, so an error's syndrome is the exclusive or of its columns, which are distinct and odd. -/
theorem singleBitErrorsAreCorrected : Obligations.SingleBitErrorsAreCorrected := by
  intro data hdata
  refine ⟨?_, fun i hi => w72Decode_one_error hdata hi, fun i hi j hj => w72Decode_two_errors data hi hj⟩
  rw [w72Decode_of_syndrome_zero (w72Syndrome_encode data), w72Encode_mod hdata]
end

section
set_option Elab.async false
/-! SUPPORT. What posting a record does to its ring and to host memory (R404, R405), and a command's completion (R396). -/

namespace Sys2Proof.Machine

@[simp] theorem length_leBytes (n v : Nat) : (leBytes n v).length = n := by
  induction n generalizing v with
  | zero => rfl
  | succ n ih => simp [leBytes, ih]

@[simp] theorem sendMsix_hostMem (v : Nat) (s : State) : (sendMsix v s).host.mem = s.host.mem := by
  unfold sendMsix
  dsimp only
  (repeat' split) <;> rfl

theorem hostWrite_hostMem {a : Nat} {bytes : List Byte} {s : State} (hlink : s.host.linkUp = true) (hio : s.host.stopIo = false) :
    (hostWrite a bytes s).host.mem = Mem.write zeroByte s.host.mem a bytes := by
  simp [hostWrite, hlink, hio]

/-- Records are posted at once: the device is neither in PS3 nor on its way out of it, and its link is up. -/
structure Posting (s : State) : Prop where
  power : s.host.pstate ≠ 3
  phase : s.host.psPhase ≠ .exitingPs3
  io : s.host.stopIo = false
  link : s.host.linkUp = true

/-- A completion queue after a record: its tail advances, and the phase inverts at the ring's end. -/
def Cq.posted (more : Bool) (q : Cq) : Cq :=
  { q with
    tail := if q.tail + 1 = q.depth then 0 else q.tail + 1
    phase := if q.tail + 1 = q.depth then !q.phase else q.phase
    since := if decide (q.agg ≤ q.since + 1) || !more then 0 else q.since + 1 }

/-- A record goes into the next entry of its ring, and only the ring advances. -/
theorem postOn_posts {n : Nat} {q : Cq} {s : State} (more : Bool) (c : Completion) (hlook : Tbl.look s.rings.cqs n = some q)
    (herror : q.error = false) (hs : Posting s) :
    (postOn n more c s).rings = { s.rings with cqs := Tbl.put s.rings.cqs n (q.posted more) } ∧
    (postOn n more c s).host.mem =
      Mem.write zeroByte s.host.mem (q.base + q.tail * 32) (leBytes 32 (c.value (sqHeadOf c.sq s) q.phase)) := by
  obtain ⟨hpower, hphase, hio, hlink⟩ := hs
  have hheld : (s.host.pstate == 3 || s.host.psPhase == .exitingPs3 || s.host.stopIo) = false := by
    simp [hpower, hphase, hio]
  unfold postOn
  simp only [hlook, herror, hheld]
  by_cases hdue : (decide (q.agg ≤ q.since + 1) || !more) = true <;>
    simp [hdue, hostWrite_hostMem hlink hio, Cq.posted, herror]

/-- The record of the command in a task register. -/
def Task.record (k : Task) (status result detail : Nat) : Completion :=
  { tag := dTag k.desc, sq := k.sq, status := status, opcode := dOpcode k.desc, kind := 0, result := result, detail := detail }

/-- A command that completes frees its task register and posts its record. -/
theorem complete_posts {tr status result detail : Nat} {k : Task} {q : Sq} {c : Cq} {s : State}
    (htask : Tbl.look s.rings.tasks tr = some k) (hsq : Tbl.look s.rings.sqs k.sq = some q)
    (hcq : Tbl.look s.rings.cqs q.cq = some c) (herror : c.error = false) (hs : Posting s) :
    (complete tr status result detail s).rings =
      { s.rings with tasks := Tbl.del s.rings.tasks tr, cqs := Tbl.put s.rings.cqs q.cq (c.posted false) } ∧
    (complete tr status result detail s).host.mem = Mem.write zeroByte s.host.mem (c.base + c.tail * 32)
      (leBytes 32 ((k.record status result detail).value q.head c.phase)) := by
  have hfreed : ∀ x : State, x.host = s.host → Posting x := fun x hx => by
    obtain ⟨hpower, hphase, hio, hlink⟩ := hs
    constructor <;> simpa [hx]
  unfold complete
  simp only [htask, hsq]
  obtain ⟨hrings, hmem⟩ := postOn_posts (n := q.cq) (q := c) (s := bump 5 (classOf k.sq s) (if status = 0 then 1 else 2) 1
    { s with rings := { s.rings with tasks := Tbl.del s.rings.tasks tr } }) false
    (k.record status result detail) (by simpa using hcq) herror (hfreed _ (by simp))
  refine ⟨hrings.trans (by simp), hmem.trans ?_⟩
  simp [sqHeadOf, Task.record, hsq]

end Sys2Proof.Machine
end

section
set_option Elab.async false
open Sys2Proof Sys2Proof.Machine

/-- Settles O19: the rings and host memory after a completion are written out, and read back by the laws of tables and memories. -/
theorem completionPostsOneRecord : Obligations.CompletionPostsOneRecord := by
  intro tr status result detail k q c s htask hsq hcq herror hpower hphase hio hlink
  obtain ⟨hrings, hmem⟩ := complete_posts (status := status) (result := result) (detail := detail) htask hsq hcq herror
    ⟨hpower, hphase, hio, hlink⟩
  dsimp only
  rw [hrings, hmem]
  refine ⟨Tbl.look_del_self _ _, fun n hn => Tbl.look_del_ne _ hn, rfl, fun n hn => Tbl.look_put_ne _ _ hn,
    ⟨c.posted false, Tbl.look_put_self _ _ _, rfl, rfl, rfl, rfl⟩, ?_, fun a ha => ?_⟩
  · have hread := Mem.read_write zeroByte s.host.mem (c.base + c.tail * 32)
      (leBytes 32 ((k.record status result detail).value q.head c.phase))
    rw [length_leBytes] at hread
    exact hread
  · exact Mem.byte_write_out _ _ _ _ _ (by rwa [length_leBytes])
end

section
set_option Elab.async false
/-! SUPPORT. What a fault does to the owner of the tiles (R163). -/

namespace Sys2Proof.Machine

theorem jobOf_setJob (e : Nat) (j : Job) (s : State) : jobOf e (setJob e j s) = some j := by
  simp [jobOf, setJob]

theorem jobOf_writeSnapshot (e : Nat) (j : Job) (r : StopRec) (s : State) : jobOf e (writeSnapshot j r s) = jobOf e s := by
  simp [jobOf]

/-- A fault that comes after another and does not beat it changes nothing. -/
theorem raiseFault_later {cause tile kind word slot e : Nat} {outside : Bool} {j : Job} {o : StopRec} {s : State}
    (howner : ownerJob s = some (e, j)) (hstop : j.stop = some o)
    (hlater : ¬ (o.cycle = s.tclk ∧ (cause < o.cause ∨ cause = o.cause ∧ tile < o.firstTile))) :
    raiseFault cause tile outside kind word slot s = s := by
  unfold raiseFault
  simp [howner, hstop, hlater]

/-- A fault of a job that no fault has stopped stops it. -/
theorem raiseFault_first {cause tile kind word slot e : Nat} {outside : Bool} {j : Job} {s : State}
    (howner : ownerJob s = some (e, j)) (hstop : j.stop = none) :
    ∃ k r, jobOf e (raiseFault cause tile outside kind word slot s) = some k ∧ k.stop = some r ∧ r.cause = cause ∧
      r.status = causeStatus cause ∧ r.firstTile = tile ∧ r.cycle = s.tclk ∧ r.faultWord = word ∧ r.faultSlot = slot := by
  unfold raiseFault
  simp only [howner, hstop, jobOf_writeSnapshot, jobOf_setJob]
  exact ⟨_, _, rfl, rfl, rfl, rfl, rfl, rfl, rfl, rfl⟩

/-- A fault of the same cycle with a lower cause, or the same cause in a lower tile, takes the place of the first. -/
theorem raiseFault_lower {cause tile kind word slot e : Nat} {outside : Bool} {j : Job} {o : StopRec} {s : State}
    (howner : ownerJob s = some (e, j)) (hstop : j.stop = some o) (hcycle : o.cycle = s.tclk)
    (hlower : cause < o.cause ∨ cause = o.cause ∧ tile < o.firstTile) :
    ∃ k r, jobOf e (raiseFault cause tile outside kind word slot s) = some k ∧ k.stop = some r ∧ r.cause = cause ∧
      r.firstTile = tile := by
  have hwins : (decide (o.cycle = s.tclk) && (decide (cause < o.cause) || (cause == o.cause && decide (tile < o.firstTile)))) =
      true := by simp [hcycle, hlower]
  unfold raiseFault
  simp only [howner, hstop, hwins, if_true, jobOf_writeSnapshot, jobOf_setJob]
  exact ⟨_, _, rfl, rfl, rfl, rfl⟩

end Sys2Proof.Machine
end

section
set_option Elab.async false
open Sys2Proof Sys2Proof.Machine

/-- Settles O20: by whether the owner has been stopped, and by whether the fault beats the one recorded. -/
theorem faultStopsTheOwner : Obligations.FaultStopsTheOwner := by
  refine ⟨?_, ?_, ?_⟩
  · intro cause tile outside kind word slot e j s howner hstop
    exact raiseFault_first howner hstop
  · intro cause tile outside kind word slot e j o s howner hstop hlater
    exact raiseFault_later howner hstop (by omega)
  · intro cause tile outside kind word slot e j o s howner hstop hcycle hlower
    exact raiseFault_lower howner hstop hcycle hlower
end

section
set_option Elab.async false
/-! SUPPORT. Message-signalled interrupts: what pends, what is sent, and what an unmasking sends (R378). -/

namespace Sys2Proof.Machine

theorem mem_pba_sendMsix {v : Nat} {s : State} (hv : v ≠ 0xFFF) (hen : s.host.msixEn = true)
    (hmask : (msixEntry v s).masked = true ∨ s.host.funcMask = true) :
    v ∈ (sendMsix v s).host.pba ∧ (sendMsix v s).host.msgs = s.host.msgs := by
  have hmasked : ((msixEntry v s).masked || s.host.funcMask) = true := by simpa using hmask
  by_cases hmem : v ∈ s.host.pba <;> simp [sendMsix, hv, hen, hmasked, hmem]

/-- A vector that is masked by nothing sends its message while the link can carry it. -/
theorem sendMsix_of_unmasked {v : Nat} {s : State} (hv : v ≠ 0xFFF) (hen : s.host.msixEn = true)
    (hentry : (msixEntry v s).masked = false) (hfunc : s.host.funcMask = false) (hlink : s.host.linkUp = true)
    (hio : s.host.stopIo = false) :
    sendMsix v s = setHost (fun h => { h with msgs := ((msixEntry v s).addr, (msixEntry v s).data) :: h.msgs }) s := by
  simp [sendMsix, hv, hen, hentry, hfunc, hlink, hio, setHost]

@[simp] theorem sendMsix_none (s : State) : sendMsix 0xFFF s = s := by
  simp [sendMsix]

theorem filter_range_eq_singleton {n v : Nat} {p : Nat → Bool} (hv : v < n) (h : ∀ w, p w = true ↔ w = v) :
    (List.range n).filter p = [v] := by
  have hp : p = (· == v) := by
    funext w
    exact Bool.eq_iff_iff.mpr (by simp [h w])
  rw [hp, List.filter_beq, List.count_eq_one_of_mem List.nodup_range (List.mem_range.mpr hv)]
  rfl

/-- When one vector alone pends and nothing masks it, it is sent. -/
theorem flushMsix_single {v : Nat} {s : State} (hv : v < 2048) (hen : s.host.msixEn = true) (hfunc : s.host.funcMask = false)
    (hpba : s.host.pba = [v]) (hentry : (msixEntry v s).masked = false) :
    flushMsix s = sendMsix v (setHost (fun h => { h with pba := h.pba.filter (· != v) }) s) := by
  have hopen : (List.range 2048).filter (fun w => s.host.pba.contains w && !(msixEntry w s).masked) = [v] := by
    refine filter_range_eq_singleton hv fun w => ?_
    simp only [hpba, Bool.and_eq_true, Bool.not_eq_true']
    constructor
    · rintro ⟨hw, -⟩
      simpa using hw
    · rintro rfl
      exact ⟨by simp, hentry⟩
  unfold flushMsix
  rw [if_neg (by simp [hen, hfunc])]
  dsimp only
  rw [hopen]
  rfl

theorem msixEntry_put (v : Nat) (x : MsixEntry) (s : State) :
    msixEntry v (setHost (fun h => { h with msix := Tbl.put h.msix v x }) s) = x := by
  simp [msixEntry, setHost, Tbl.lookD]

/-- Unmasking the one vector that pends sends its message. -/
theorem execMsixUnmask_pending {v : Fin 2048} {s : State} (hworks : regWorks 1 false s = true) (hen : s.host.msixEn = true)
    (hfunc : s.host.funcMask = false) (hlink : s.host.linkUp = true) (hio : s.host.stopIo = false)
    (hpba : s.host.pba = [v.val]) :
    ∃ t, execMsixUnmask v s = .next t ∧ t.host.pba = [] ∧
      t.host.msgs = ((msixEntry v.val s).addr, (msixEntry v.val s).data) :: s.host.msgs := by
  have hv : v.val ≠ 0xFFF := by omega
  refine ⟨_, rfl, ?_⟩
  rw [regWrite_of_works _ hworks, maskVector,
    flushMsix_single v.isLt (by simpa using hen) (by simpa using hfunc) (by simpa using hpba) (by simp [msixEntry_put]),
    sendMsix_of_unmasked hv (by simpa using hen) ?_ (by simpa using hfunc) (by simpa using hlink) (by simpa using hio)]
  · simp [hpba, msixEntry, Tbl.lookD]
  · simp [msixEntry, Tbl.lookD]

end Sys2Proof.Machine
end

section
set_option Elab.async false
open Sys2Proof Sys2Proof.Machine

/-- Settles O23: by whether the vector or the function is masked, and by what an unmasking finds pending. -/
theorem maskedInterruptsPend : Obligations.MaskedInterruptsPend := by
  refine ⟨?_, ?_, sendMsix_none, ?_⟩
  · intro v s hv hen hmask
    exact mem_pba_sendMsix hv hen hmask
  · intro v s hv hen hentry hfunc hlink hio
    rw [sendMsix_of_unmasked hv hen hentry hfunc hlink hio]
    simp
  · intro v s hworks hen hfunc hlink hio hpba
    exact execMsixUnmask_pending hworks hen hfunc hlink hio hpba
end

section
set_option Elab.async false
/-! SUPPORT. What a full reset leaves (R446 to R448, R451): the state it clears, the rails it drops, and the release it starts. -/

namespace Sys2Proof.Machine

/-- The state of a full reset before its rails are dropped and its release starts. -/
def resetCore (source : Nat) (rails : Bool) (s : State) : State :=
  let x := setBoot (fun b => { b with lastSource := source, deferred := deferrals s, railsAfter := rails })
    (takeFree (deferrals s) (clearAll rails s))
  if x.cfl.loss.isEmpty || (deferrals s).contains .configFlash then x else writeLoss false x

theorem fullReset_of_alive (source : Nat) (rails : Bool) {s : State} (h : s.boot.dev ≠ .reset) :
    fullReset source rails s = startRelease (dropRails (resetCore source rails s)) := by
  have hdev : (s.boot.dev == .reset) = false := by simpa using h
  unfold fullReset
  rw [hdev]
  rfl

@[simp] theorem clearAll_boot (rails : Bool) (s : State) : (clearAll rails s).boot = (clearBoot rails s).boot := by
  simp [clearAll, clearBoot]

@[simp] theorem clearAll_power (rails : Bool) (s : State) : (clearAll rails s).power = (clearPower s).power := by
  simp [clearAll, clearPower]

@[simp] theorem clearAll_rings (rails : Bool) (s : State) : (clearAll rails s).rings = Rings.reset := by
  simp [clearAll]

@[simp] theorem clearAll_tensor (rails : Bool) (s : State) : (clearAll rails s).tensor = Tensor.reset := by
  simp [clearAll]

@[simp] theorem resetCore_boot (source : Nat) (rails : Bool) (s : State) : (resetCore source rails s).boot =
    { (clearBoot rails s).boot with lastSource := source, deferred := deferrals s, railsAfter := rails } := by
  unfold resetCore
  dsimp only
  split <;> simp

@[simp] theorem resetCore_power (source : Nat) (rails : Bool) (s : State) :
    (resetCore source rails s).power = (clearPower s).power := by
  unfold resetCore
  dsimp only
  split <;> simp

@[simp] theorem resetCore_rings (source : Nat) (rails : Bool) (s : State) : (resetCore source rails s).rings = Rings.reset := by
  unfold resetCore
  dsimp only
  split <;> simp

@[simp] theorem resetCore_tensor (source : Nat) (rails : Bool) (s : State) :
    (resetCore source rails s).tensor = Tensor.reset := by
  unfold resetCore
  dsimp only
  split <;> simp

/-- Where rails are to be removed, they are once no unit delays the reset and no input loss is being served. -/
theorem dropRails_of_due {s : State} (hafter : s.boot.railsAfter = true) (hdeferred : s.boot.deferred = [])
    (hloss : s.power.inputLoss = false) : dropRails s = setBoot (fun b => { b with railsAfter := false })
      (setPower (fun p => { p with rails := Rails.allOff, pwrGood := false, porAsserted := true }) s) := by
  simp [dropRails, hafter, hdeferred, hloss]

theorem dropRails_of_not_after {s : State} (hafter : s.boot.railsAfter = false) : dropRails s = s := by
  simp [dropRails, hafter]

@[simp] theorem dropRails_dev (s : State) : (dropRails s).boot.dev = s.boot.dev := by
  unfold dropRails
  split <;> rfl

@[simp] theorem dropRails_lastSource (s : State) : (dropRails s).boot.lastSource = s.boot.lastSource := by
  unfold dropRails
  split <;> rfl

@[simp] theorem dropRails_pwrdis (s : State) : (dropRails s).power.pwrdis = s.power.pwrdis := by
  unfold dropRails
  split <;> rfl

@[simp] theorem dropRails_perst (s : State) : (dropRails s).power.perst = s.power.perst := by
  unfold dropRails
  split <;> rfl

@[simp] theorem dropRails_thermTrip (s : State) : (dropRails s).power.thermTrip = s.power.thermTrip := by
  unfold dropRails
  split <;> rfl

@[simp] theorem dropRails_stage (s : State) : (dropRails s).boot.stage = s.boot.stage := by
  unfold dropRails
  split <;> rfl

theorem startRelease_of_not_mayStart {s : State} (h : mayStart s = false) : startRelease s = s := by
  simp [startRelease, h]

theorem startRelease_of_mayStart {s : State} (h : mayStart s = true) (hdev : s.boot.dev = .reset) :
    startRelease s = setBoot (fun b => { b with dev := .bringUp, watchdogAt := s.tclk }) s := by
  simp [startRelease, h, hdev]

/-- While rails are still to be removed, or just were, no release starts. -/
theorem mayStart_dropRails_of_after {s : State} (h : s.boot.railsAfter = true) : mayStart (dropRails s) = false := by
  unfold dropRails
  split
  · simp [mayStart]
  · simp [mayStart, h]

/-- A full reset with rails: the device stays in reset. -/
theorem fullReset_rails (source : Nat) {s : State} (h : s.boot.dev ≠ .reset) :
    fullReset source true s = dropRails (resetCore source true s) := by
  rw [fullReset_of_alive source true h, startRelease_of_not_mayStart (mayStart_dropRails_of_after (by simp))]

/-- A full reset without rails starts the release sequence where nothing holds it back. -/
theorem fullReset_starts (source : Nat) {s : State} (h : s.boot.dev ≠ .reset) (hstart : mayStart s = true) :
    fullReset source false s = setBoot (fun b => { b with dev := .bringUp, watchdogAt := (resetCore source false s).tclk })
      (resetCore source false s) := by
  have hmay : mayStart (resetCore source false s) = true := by
    simp only [mayStart, Bool.and_eq_true, Bool.not_eq_true'] at hstart ⊢
    simp [clearPower, hstart]
  rw [fullReset_of_alive source false h, dropRails_of_not_after (by simp), startRelease_of_mayStart hmay (by simp [clearBoot])]

/-- Any other full reset without rails waits in reset. -/
theorem fullReset_waits (source : Nat) {s : State} (h : s.boot.dev ≠ .reset) (hwait : s.power.perst = true) :
    fullReset source false s = resetCore source false s := by
  have hmay : mayStart (resetCore source false s) = false := by simp [mayStart, clearPower, hwait]
  rw [fullReset_of_alive source false h, dropRails_of_not_after (by simp), startRelease_of_not_mayStart hmay]

/-- The units that delay a reset depend on the two flash memories alone. -/
theorem deferrals_congr {s t : State} (hcfl : t.cfl = s.cfl) (hflash : t.flash = s.flash) : deferrals t = deferrals s := by
  unfold deferrals cflPulse busyChannels
  rw [hcfl, hflash]

@[simp] theorem toggleTrip_inputLoss (s : State) : (toggleTrip s).power.inputLoss = s.power.inputLoss := by
  unfold toggleTrip
  split <;> rfl

@[simp] theorem toggleTrip_pwrdis (s : State) : (toggleTrip s).power.pwrdis = s.power.pwrdis := by
  unfold toggleTrip
  split <;> rfl

end Sys2Proof.Machine
end

section
set_option Elab.async false
/-! SUPPORT. The supply commands where they complete (R12, R14, R16 to R18, R20). -/

namespace Sys2Proof.Machine

theorem execPwrdisAssert_resets {s : State} (h : s.boot.dev ≠ .reset) : ∃ t, execPwrdisAssert s = .next t ∧
    t.power.pwrdis = true ∧ t.boot.dev = .reset ∧ t.boot.lastSource = 1 ∧
    (deferrals s = [] → s.power.inputLoss = false →
      t.power.rails = Rails.allOff ∧ t.power.pwrGood = false ∧ t.power.porAsserted = true) := by
  generalize hx : toggleTrip (setPower (fun p => { p with pwrdis := true }) s) = x
  have hdev : x.boot.dev ≠ .reset := by simpa [← hx] using h
  have hdefer : deferrals x = deferrals s := deferrals_congr (by simp [← hx]) (by simp [← hx])
  have hpwrdis : x.power.pwrdis = true := by simp [← hx]
  have hinput : x.power.inputLoss = s.power.inputLoss := by simp [← hx]
  refine ⟨dropRails (resetCore 1 true x), ?_, ?_, ?_, ?_, fun hnone hloss => ?_⟩
  · rw [← fullReset_rails 1 hdev, ← hx]
    rfl
  · simp [clearPower, hpwrdis]
  · simp [clearBoot]
  · simp
  · rw [dropRails_of_due (by simp) (by simp [hdefer, hnone]) (by simp [clearPower, hinput, hloss])]
    simp

theorem execPwrdisRelease_samples (straps : Straps) {s : State} (h : s.power.pwrdis = true) :
    execPwrdisRelease straps s = .next (setPower (fun p => { p with pwrdis := false, strapPins := straps, straps := straps }) s) := by
  simp [execPwrdisRelease, h]

/-- A seated module in the input range is connected. -/
theorem tryConnect_connected {v : Nat} {s : State} (hseated : s.power.seated = true) (hlow : 38000 ≤ v) (hhigh : v ≤ 62000) :
    (tryConnect v s).power.connected = true ∧ (tryConnect v s).power.seated = s.power.seated ∧
      (tryConnect v s).power.vinMv = s.power.vinMv := by
  cases hconn : s.power.connected <;> simp [tryConnect, hseated, hlow, hhigh, hconn]

/-- An input loss that begins removes the main rails and stops the device. -/
theorem startInputLoss_of_alive {s : State} (hloss : s.power.inputLoss = false) (hdev : s.boot.dev ≠ .reset) :
    (startInputLoss s).power = { s.power with
      inputLoss := true, rails := { s.power.rails with vcore := false, vopt := false, vddm := false }, pwrGood := false } ∧
    (startInputLoss s).mem.stacked = [] ∧ (startInputLoss s).boot.dev = .reset := by
  simp [startInputLoss, hloss, hdev]

@[simp] theorem noteOvervoltage_connected (s : State) : (noteOvervoltage s).power.connected = s.power.connected := by
  unfold noteOvervoltage
  split <;> simp

@[simp] theorem noteOvervoltage_inputLoss (s : State) : (noteOvervoltage s).power.inputLoss = s.power.inputLoss := by
  unfold noteOvervoltage
  split <;> simp

theorem execVin48OvervoltageDisconnect_disconnects {v : Nat} {s : State} (hv : 62000 < v) (hconn : s.power.connected = true)
    (hloss : s.power.inputLoss = false) (hdev : s.boot.dev ≠ .reset) :
    ∃ t, execVin48OvervoltageDisconnect v s = .next t ∧ t.power.connected = false ∧ t.power.inputLoss = true ∧
      t.boot.dev = .reset := by
  have halive : alive (setPower (fun p => { p with vinMv := v, connected := false }) s) = true := by simp [alive, hdev]
  refine ⟨startInputLoss (noteOvervoltage (setPower (fun p => { p with vinMv := v, connected := false }) s)), ?_, ?_⟩
  · simp [execVin48OvervoltageDisconnect, hv, hconn, halive]
  · obtain ⟨hpower, -, hreset⟩ := startInputLoss_of_alive
      (s := noteOvervoltage (setPower (fun p => { p with vinMv := v, connected := false }) s)) (by simpa using hloss)
      (by simpa using hdev)
    simp [hpower, hreset]

@[simp] theorem interruptBank_loss (b : Nat) (s : State) : (interruptBank b s).cfl.loss = s.cfl.loss := by
  unfold interruptBank
  generalize (cflBank b s).run = run
  generalize (cflBank b s).dev = dev
  dsimp only
  split
  · split <;> rfl
  · rfl
  · split <;> rfl
  · split <;> rfl
  · rfl
  · rfl

@[simp] theorem takeCfl_loss (s : State) : (takeCfl s).cfl.loss = s.cfl.loss := by
  change (interruptBank 1 (interruptBank 0 s)).cfl.loss = s.cfl.loss
  rw [interruptBank_loss, interruptBank_loss]

@[simp] theorem clearAll_loss (rails : Bool) (s : State) : (clearAll rails s).cfl.loss = s.cfl.loss := by
  simp [clearAll, clearCfl]

theorem execInputLossRecordProgram_ends {s : State} (hloss : s.power.inputLoss = true) (hdefer : s.boot.deferred = []) :
    ∃ t, execInputLossRecordProgram s = .next t ∧ t.power.inputLoss = false ∧ t.power.porAsserted = true ∧
      t.power.rails = Rails.allOff ∧ t.boot.dev = .reset ∧ t.cfl.loss = [] := by
  unfold execInputLossRecordProgram
  extract_lets served s1 s2 s3 s4 s5
  have hboot2 : s2.boot = s.boot := by
    unfold s2
    split <;> simp [s1, noteLoss]
  have hboot3 : s3.boot = s2.boot := by
    unfold s3
    split <;> simp
  have hloss3 : s3.cfl.loss = [] := by
    unfold s3
    split <;> rfl
  have hdev5 : s5.boot.dev = .reset := by simp [s5, clearBoot]
  have hdefer5 : s5.boot.deferred = [] := by simp [s5, s4, hboot3, hboot2, clearBoot, hdefer]
  have hloss5 : s5.cfl.loss = [] := by simp [s5, s4, hloss3]
  have hinput5 : s5.power.inputLoss = false := by simp [s5, s4, clearPower]
  clear_value s5
  refine ⟨_, by rw [if_neg (by simp [hloss, hdefer])], ?_⟩
  rw [dropRails_of_due (by simp) (by simpa using hdefer5) (by simpa using hinput5)]
  simp [hinput5, hdev5, hloss5]

theorem execPowerOnResetRelease_starts (straps : Straps) {s : State} (hpor : s.power.porAsserted = true)
    (hconn : s.power.connected = true) (hpwrdis : s.power.pwrdis = false) (hperst : s.power.perst = false)
    (htrip : s.power.thermTrip = false) (hloss : s.power.inputLoss = false) (hdefer : s.boot.deferred = [])
    (hdev : s.boot.dev = .reset) :
    ∃ t, execPowerOnResetRelease straps s = .next t ∧ t.power.porAsserted = false ∧ t.power.rails = Rails.allOn ∧
      t.power.pwrGood = true ∧ t.power.straps = straps ∧ t.boot.dev = .bringUp ∧ gNow t = 0 ∧ nowUs t = 0 ∧
      t.fabric.id = straps.slotId.toNat := by
  unfold execPowerOnResetRelease
  extract_lets p s1 s2
  refine ⟨_, by rw [if_neg (by simp [p, hpor, hconn, hpwrdis, htrip, hloss, hdefer])], ?_⟩
  rw [startRelease_of_mayStart (by simp [mayStart, s2, s1, Rails.allOn, hperst, htrip, hloss]) (by simpa [s2, s1] using hdev)]
  simp [s2, s1, gNow, nowUs]

end Sys2Proof.Machine
end

section
set_option Elab.async false
open Sys2Proof Sys2Proof.Machine

/-- Settles O24: each supply command by the effect of the operations it leads to. -/
theorem supplyCommandsComplete : Obligations.SupplyCommandsComplete := by
  refine ⟨?_, ?_, ?_, ?_, ?_, ?_, ?_, ?_, ?_, ?_⟩
  · intro s hdev
    exact execPwrdisAssert_resets hdev
  · intro straps s hpwrdis
    exact ⟨_, execPwrdisRelease_samples straps hpwrdis, rfl, rfl, rfl, rfl⟩
  · intro v s hlow hhigh
    obtain ⟨hconn, hseated, hvin⟩ := tryConnect_connected (v := v)
      (s := setPower (fun p => { p with seated := true, vinMv := v }) s) rfl hlow hhigh
    exact ⟨_, rfl, hseated, hvin, hconn⟩
  · intro v s hseated hlow hhigh
    obtain ⟨hconn, -, hvin⟩ := tryConnect_connected (v := v) (s := setPower (fun p => { p with vinMv := v }) s) hseated hlow hhigh
    exact ⟨_, rfl, hvin, hconn⟩
  · intro s hloss hdev
    obtain ⟨hpower, hmem, hreset⟩ := startInputLoss_of_alive
      (s := setPower (fun p => { p with seated := false, connected := false }) s) hloss hdev
    exact ⟨_, rfl, by simp [hpower], by simp [hpower], by simp [hpower], by simp [hpower], by simp [hpower], by simp [hpower],
      by simp [hpower], hmem, hreset⟩
  · intro v s hv hconn hloss hdev
    exact execVin48OvervoltageDisconnect_disconnects hv hconn hloss hdev
  · intro v s hv hconn hloss hdev
    obtain ⟨hpower, hmem, hreset⟩ := startInputLoss_of_alive
      (s := setPower (fun p => { p with vinMv := v, connected := false }) s) hloss hdev
    refine ⟨startInputLoss (setPower (fun p => { p with vinMv := v, connected := false }) s), ?_, ?_⟩
    · simp [exec, execInputLossDetect, hv, hconn]
    · simp [hpower, hmem, hreset]
  · intro s hloss hdefer
    exact execInputLossRecordProgram_ends hloss hdefer
  · intro straps s hpor hconn hpwrdis hperst htrip hloss hdefer hdev
    exact execPowerOnResetRelease_starts straps hpor hconn hpwrdis hperst htrip hloss hdefer hdev
  · intro s
    exact ⟨_, rfl, rfl⟩
end

section
set_option Elab.async false
/-! SUPPORT. What the operations on tables read back. -/

namespace Sys2Proof.Machine

theorem Tbl.look_eq_none_of_forall_ne {α : Type} {t : Tbl α} {k : Nat} (h : ∀ p ∈ t, p.1 ≠ k) : Tbl.look t k = none := by
  induction t with
  | nil => rfl
  | cons p t ih =>
    obtain ⟨hp, ht⟩ := List.forall_mem_cons.mp h
    obtain ⟨j, v⟩ := p
    rw [Tbl.look, if_neg hp, ih ht]

theorem Tbl.mem_of_look {α : Type} {t : Tbl α} {k : Nat} {v : α} (h : Tbl.look t k = some v) : (k, v) ∈ t := by
  induction t with
  | nil => cases h
  | cons p t ih =>
    obtain ⟨j, w⟩ := p
    rw [Tbl.look] at h
    split at h
    next hjk =>
      cases h
      subst hjk
      exact List.mem_cons_self
    next => exact List.mem_cons_of_mem _ (ih h)

@[simp] theorem Tbl.look_upd_self {α : Type} (t : Tbl α) (k : Nat) (d : α) (f : α → α) :
    Tbl.look (Tbl.upd t k d f) k = some (f (Tbl.lookD t k d)) :=
  Tbl.look_put_self _ _ _

theorem Tbl.look_upd_ne {α : Type} (t : Tbl α) {k j : Nat} (d : α) (f : α → α) (h : j ≠ k) :
    Tbl.look (Tbl.upd t k d f) j = Tbl.look t j :=
  Tbl.look_put_ne _ _ h

@[simp] theorem Tbl.lookD_put_self {α : Type} (t : Tbl α) (k : Nat) (v d : α) : Tbl.lookD (Tbl.put t k v) k d = v := by
  simp [Tbl.lookD]

@[simp] theorem Tbl.lookD_upd_self {α : Type} (t : Tbl α) (k : Nat) (d : α) (f : α → α) :
    Tbl.lookD (Tbl.upd t k d f) k d = f (Tbl.lookD t k d) := by
  simp [Tbl.lookD]

theorem Tbl.lookD_put_ne {α : Type} (t : Tbl α) {k j : Nat} (v d : α) (h : j ≠ k) :
    Tbl.lookD (Tbl.put t k v) j d = Tbl.lookD t j d := by
  simp [Tbl.lookD, Tbl.look_put_ne t v h]

theorem Tbl.lookD_of_look {α : Type} {t : Tbl α} {k : Nat} {v : α} (d : α) (h : Tbl.look t k = some v) : Tbl.lookD t k d = v := by
  simp [Tbl.lookD, h]

theorem Tbl.look_mapVals {α β : Type} (t : Tbl α) (f : Nat → α → β) (k : Nat) :
    Tbl.look (Tbl.mapVals t f) k = (Tbl.look t k).map (f k) := by
  induction t with
  | nil => rfl
  | cons p t ih =>
    obtain ⟨j, w⟩ := p
    change (if j = k then some (f j w) else Tbl.look (Tbl.mapVals t f) k) = (if j = k then some w else Tbl.look t k).map (f k)
    split
    next hjk => rw [hjk, Option.map_some]
    next => exact ih

theorem Tbl.look_map_range {α : Type} (f : Nat → α) {n i : Nat} (h : i < n) :
    Tbl.look ((List.range n).map fun k => (k, f k)) i = some (f i) := by
  induction n with
  | zero => omega
  | succ n ih =>
    rw [List.range_succ, List.map_append, Tbl.look_append]
    by_cases hi : i < n
    · simp [ih hi]
    · obtain rfl : i = n := by omega
      have hnone : Tbl.look ((List.range i).map fun k => (k, f k)) i = none := by
        refine Tbl.look_eq_none_of_forall_ne fun p hp => ?_
        obtain ⟨k, hk, rfl⟩ := List.mem_map.mp hp
        exact (List.mem_range.mp hk).ne
      simp [hnone, Tbl.look]

end Sys2Proof.Machine
end

section
set_option Elab.async false
/-! SUPPORT. The governor, the throttle, the sensors and the tamper cover where their commands complete (R23, R24, R27, R31 to
R33, R36). -/

namespace Sys2Proof.Machine

/-- The supply's undervoltage and overvoltage marks are all that noting the supply writes of the governor. -/
theorem noteSupply_power (v : Nat) (s : State) : ∃ uv ov, (noteSupply v s).power = { s.power with
    undervoltage := decide (36000 ≤ v) && decide (v < 40000), uvLogged := uv, ovLogged := ov } := by
  unfold noteSupply
  extract_lets +onlyGivenNames low high s1 s2
  have hs2 : ∃ uv, s2.power = { s1.power with uvLogged := uv } := by
    unfold s2
    split
    · exact ⟨true, by simp⟩
    · exact ⟨s1.power.uvLogged, rfl⟩
  obtain ⟨uv, huv⟩ := hs2
  have hover : ∃ ov, (noteOvervoltage s2).power = { s2.power with ovLogged := ov } := by
    unfold noteOvervoltage
    split
    · exact ⟨s2.power.ovLogged, rfl⟩
    · exact ⟨true, by simp⟩
  split
  · obtain ⟨ov, hov⟩ := hover
    exact ⟨uv, ov, by rw [hov, huv]; rfl⟩
  · exact ⟨uv, s1.power.ovLogged, by rw [huv]; rfl⟩

theorem execGovernorSample_samples (v i : Nat) {s : State} (h : alive s = true) : ∃ t, execGovernorSample v i s = .next t ∧
    t.power.vinSample = v / 10 % 65536 ∧ t.power.curSample = i / 10 % 65536 ∧ t.power.winSum = s.power.winSum + v * i ∧
    t.power.winCount = s.power.winCount + 1 ∧ t.power.undervoltage = (decide (36000 ≤ v) && decide (v < 40000)) ∧
    t.power.powerReq =
      (if 45000 < i ∧ 4 ≤ s.power.overCurrent then 4
       else if 11 * effectiveLimit s * 1000000 < 10 * (v * i) ∧ s.power.overPrev = true then max 3 s.power.powerReq
       else s.power.powerReq) := by
  unfold execGovernorSample
  rw [h]
  extract_lets +onlyGivenNames uw exceeds fast cur amps sum energy req raised s1 s2
  obtain ⟨uv, ov, hpower⟩ := noteSupply_power v s2
  have hamps : amps = true ↔ 45000 < i ∧ 4 ≤ s.power.overCurrent := by
    simp only [amps, cur, decide_eq_true_eq]
    split <;> omega
  have hfast : fast = true ↔ 11 * effectiveLimit s * 1000000 < 10 * (v * i) ∧ s.power.overPrev = true := by
    simp [fast, exceeds, uw]
  refine ⟨noteSupply v s2, rfl, ?_⟩
  rw [hpower]
  refine ⟨by simp [s2, s1], by simp [s2, s1], by simp [s2, s1, sum, uw], by simp [s2, s1], rfl, ?_⟩
  simp [s2, s1, req, hamps, hfast]

theorem execGovernorWindowEnd_ends {s : State} (h : alive s = true) (hcount : 0 < s.power.winCount) :
    ∃ t, execGovernorWindowEnd s = .next t ∧ t.power.limitInForce = s.power.pwrLimit.toNat % 2048 ∧ t.power.winSum = 0 ∧
    t.power.winCount = 0 ∧
    (effectiveLimit s * 1000000 * s.power.winCount < s.power.winSum → t.power.powerReq = min 4 (s.power.powerReq + 1)) ∧
    (100 * s.power.winSum < 97 * (effectiveLimit s * 1000000) * s.power.winCount → s.power.lowWindows = 9 →
      t.power.powerReq = s.power.powerReq - 1) := by
  unfold execGovernorWindowEnd
  extract_lets +onlyGivenNames p lim n avgW exceeds low count falls req
  have hn : n = s.power.winCount := max_eq_right hcount
  refine ⟨_, by rw [h]; rfl, by simp [bits], by simp, by simp, fun hover => ?_, fun hunder hnine => ?_⟩
  · have hexceeds : exceeds = true := by simpa [exceeds, hn, lim, p] using hover
    simp [req, hexceeds, p]
  · have hexceeds : exceeds = false := by
      have hle : s.power.winSum ≤ effectiveLimit s * 1000000 * s.power.winCount := by
        rw [mul_assoc] at hunder
        omega
      simpa [exceeds, hn, lim, p] using hle
    have hfalls : falls = true := by
      have hlow : low = true := by simpa [low, hn, lim, p] using hunder
      simp [falls, count, hlow, p, hnine]
    simp [req, hexceeds, hfalls, p]

theorem execThrottleStepChange_changes {s : State} (h : alive s = true) (hwanted : wantedStep s ≠ s.power.step) :
    ∃ t, execThrottleStepChange s = .next t ∧ t.power = { s.power with step := wantedStep s } := by
  unfold execThrottleStepChange
  extract_lets +onlyGivenNames w thermal s1 s2
  rw [if_neg (by simp [h, w, hwanted])]
  split
  · exact ⟨_, rfl, by simp [s2, s1, w]⟩
  · exact ⟨_, rfl, by simp [s2, s1, w]⟩

theorem padTo_of_length {α : Type} {n : Nat} (x : α) {l : List α} (h : l.length = n) : padTo n x l = l := by
  simp [padTo, h]

/-- The governor with the warnings and the lasers of the optics as given. -/
def Power.withOptics (p : Power) (warn off : BitVec 16) : Power := { p with opticsWarn := warn, lasersOff := off }

/-- A sample of the optics writes, of the governor, the warnings and the lasers alone. -/
theorem opticsSample_power (n : Nat) (t : Int) (s : State) : ∃ w o, (opticsSample n t s).power = s.power.withOptics w o := by
  unfold opticsSample
  extract_lets +onlyGivenNames warn off set hot s1 s2 s3 q s4 q'
  have hs2 : ∃ w, s2.power = s.power.withOptics w s.power.lasersOff := by
    unfold s2
    split
    · exact ⟨_, by simp only [logEvent_frame]; rfl⟩
    · exact ⟨_, rfl⟩
  obtain ⟨w, hw⟩ := hs2
  have hlasers : ∀ o, { s2.power with lasersOff := o } = s.power.withOptics w o := fun o => by rw [hw]; rfl
  split
  · split
    · exact ⟨w, _, by simp only [portDown_frame]; exact hlasers _⟩
    · exact ⟨w, _, hlasers _⟩
  split
  · exact ⟨w, _, hlasers _⟩
  · exact ⟨w, _, hw⟩

theorem foldl_opticsSample_power (t : List (BitVec 16)) (l : List Nat) (s : State) : ∃ w o,
    (l.foldl (fun x n => opticsSample n (t.getD (88 + n) 0#16).toInt x) s).power = s.power.withOptics w o := by
  induction l generalizing s with
  | nil => exact ⟨_, _, rfl⟩
  | cons n l ih =>
    obtain ⟨w, o, h⟩ := opticsSample_power n (t.getD (88 + n) 0#16).toInt s
    obtain ⟨w', o', h'⟩ := ih (opticsSample n (t.getD (88 + n) 0#16).toInt s)
    exact ⟨w', o', by rw [List.foldl_cons, h', h]; rfl⟩

/-- The governor with 106 readings, and the requests that follow from them. -/
def Power.sampled (r : List (BitVec 16)) (p : Power) : Power :=
  { p with
    temps := (List.range 106).map (fun i => (i, r.getD i 0#16))
    thermDie := thermStep 95 p.thermDie (hottest r 0 63)
    thermMem := thermStep 86 p.thermMem (hottest r 64 71)
    thermFlash := thermStep 70 p.thermFlash (hottest r 72 87) }

/-- The device as a sample of the sensors leaves it before a trip. -/
theorem execSensorSample_reads {r : List (BitVec 16)} {s : State} (hlen : r.length = 106) (halive : alive s = true)
    (htrip : s.power.thermTrip = false) (hloss : s.power.inputLoss = false) : ∃ x w o, execSensorSample r s =
      .next (if tripReached r then thermalTrip x else x) ∧ x.boot = s.boot ∧
    x.power = (s.power.sampled r).withOptics w o := by
  unfold execSensorSample
  rw [padTo_of_length _ hlen]
  extract_lets t old s1 s2 s3
  obtain ⟨w, o, hpower⟩ := foldl_opticsSample_power t (List.range 16) s2
  refine ⟨s3, w, o, ?_, by simp [s3, s2, s1], ?_⟩
  · rw [if_neg (by simp [htrip]), if_neg (by simp [hloss]), if_neg (by simp [halive])]
  · rw [hpower]
    simp only [s2, bump_frame]
    rfl

/-- A trip of a device that runs removes its rails. -/
theorem thermalTrip_trips {s : State} (halive : s.boot.dev ≠ .reset) (htrip : s.power.thermTrip = false)
    (hloss : s.power.inputLoss = false) :
    (thermalTrip s).power.thermTrip = true ∧ (thermalTrip s).boot.dev = .reset ∧ (thermalTrip s).boot.lastSource = 3 := by
  unfold thermalTrip
  extract_lets +onlyGivenNames s1 served p s2
  rw [if_neg (by simp [htrip]), if_neg (by simp [s1, hloss])]
  have hboot : s2.boot = s.boot := by
    unfold s2
    split <;> simp [p, s1]
  have hpower : s2.power = s1.power := by
    unfold s2
    split <;> simp [p]
  rw [fullReset_rails 3 (by rwa [hboot])]
  simp [clearPower, clearBoot, hpower, s1]

theorem execCoolantFault_logs (c : CoolantCause) {s : State} (h : alive s = true) :
    execCoolantFault c s = .next (logEvent .coolantFault
      (match c with | .outletHot => 0 | .reversedFlow => 1 | .excessRise => 2) s) := by
  cases c <;> simp [execCoolantFault, h, detailWords]

theorem execTamperOpen_opens {s : State} (hstandby : standby s = true) (hlow : s.power.tamperLow = false) :
    ∃ t, execTamperOpen s = .next t ∧ t.power = { s.power with tamperLow := true, tamperSticky := true } := by
  refine ⟨_, by simp only [execTamperOpen, hstandby, hlow]; rfl, ?_⟩
  split <;> simp

end Sys2Proof.Machine
end

section
set_option Elab.async false
open Sys2Proof Sys2Proof.Machine

/-- Settles O25: each command by what the operation behind it writes of the supply and governor. -/
theorem governorCommandsComplete : Obligations.GovernorCommandsComplete := by
  refine ⟨?_, ?_, ?_, ?_, ?_, ?_, ?_, ?_, ?_, ?_⟩
  · intro v i s halive
    exact execGovernorSample_samples v i halive
  · intro s halive hcount
    exact execGovernorWindowEnd_ends halive hcount
  · intro s halive hwanted
    exact execThrottleStepChange_changes halive hwanted
  · intro v s hworks hunlocked
    refine ⟨_, rfl, ?_⟩
    rw [regWrite_of_works _ hworks, writePwrLimit_unlocked hunlocked]
    rfl
  · intro v s hworks hunlocked
    refine ⟨_, rfl, ?_⟩
    rw [regWrite_of_works _ hworks, writePwrLimit_unlocked hunlocked]
    exact BitVec.and_or_distrib_right ..
  · intro r s hlen halive htrip hloss hcool
    obtain ⟨x, w, o, hexec, -, hpower⟩ := execSensorSample_reads hlen halive htrip hloss
    rw [hcool] at hexec
    refine ⟨x, hexec, fun i hi => ?_, by rw [hpower]; rfl, by rw [hpower]; rfl, by rw [hpower]; rfl, by rw [hpower]; exact htrip⟩
    rw [hpower]
    exact Tbl.look_map_range (fun i => r.getD i 0#16) hi
  · intro r s hlen halive htrip hloss hhot
    obtain ⟨x, w, o, hexec, hboot, hpower⟩ := execSensorSample_reads hlen halive htrip hloss
    rw [hhot] at hexec
    refine ⟨_, hexec, thermalTrip_trips ?_ ?_ ?_⟩
    · simpa [hboot, alive] using halive
    · rw [hpower]
      exact htrip
    · rw [hpower]
      exact hloss
  · intro c s halive
    exact execCoolantFault_logs c halive
  · intro s hstandby hlow
    exact execTamperOpen_opens hstandby hlow
  · intro s hstandby
    exact ⟨_, if_pos hstandby, rfl⟩
end

section
set_option Elab.async false
/-! SUPPORT. The host-side resets (R454, R378 to R380): rings that were reset stay so while every job of the host ends, and the
link's state stays as it was until the front end is reset. -/

namespace Sys2Proof.Machine

/-- What the loss of the link counts, and whether the link is up. -/
def linkState (s : State) : Bool × Nat := (s.host.linkUp, s.host.linkDowns)

theorem linkState_congr {s t : State} (h : t.host = s.host) : linkState t = linkState s := by rw [linkState, linkState, h]

@[simp] theorem hostWrite_linkState (a : Nat) (bytes : List Byte) (s : State) :
    linkState (hostWrite a bytes s) = linkState s := by
  unfold hostWrite
  split <;> rfl

@[simp] theorem sendMsix_linkState (v : Nat) (s : State) : linkState (sendMsix v s) = linkState s := by
  unfold sendMsix
  dsimp only
  (repeat' split) <;> rfl

@[simp] theorem gbPut_linkState (r : EvtRec) (s : State) : linkState (gbPut r s) = linkState s := by
  unfold gbPut
  dsimp only
  rw [sendMsix_linkState]
  exact hostWrite_linkState _ _ _

@[simp] theorem gbDeliver_linkState (r : EvtRec) (s : State) : linkState (gbDeliver r s) = linkState s := by
  unfold gbDeliver
  (repeat' split)
  · exact gbPut_linkState r s
  all_goals exact linkState_congr (by simp)

@[simp] theorem logEvent_linkState (ev : Ev) (detail : Nat) (s : State) : linkState (logEvent ev detail s) = linkState s := by
  have hmark : linkState (gbMark true s) = linkState s := by
    unfold gbMark
    extract_lets p s1
    have h1 : linkState s1 = linkState s := (gbDeliver_linkState p.1 p.2).trans (linkState_congr (by simp [p]))
    split
    · exact (linkState_congr (by simp)).trans h1
    · rfl
  unfold logEvent
  extract_lets p
  calc linkState (gbCopy ev.copy p.1 (gbDeliver p.1 p.2)) = linkState (gbDeliver p.1 p.2) := linkState_congr (by simp)
    _ = linkState p.2 := gbDeliver_linkState p.1 p.2
    _ = linkState (gbMark true s) := linkState_congr (by simp [p])
    _ = linkState s := hmark

@[simp] theorem saturationEvent_linkState (banks : Tbl QBank) (s : State) :
    linkState (saturationEvent banks s) = linkState s := by
  unfold saturationEvent
  dsimp only
  split
  · rfl
  · split
    · split
      · rfl
      · exact logEvent_linkState _ _ _
    · exact logEvent_linkState _ _ _

@[simp] theorem qstatLatch_linkState (s : State) : linkState (qstatLatch s) = linkState s := by
  unfold qstatLatch
  extract_lets +onlyGivenNames tag banks _ s1 s2
  exact saturationEvent_linkState banks s1

@[simp] theorem windowsEnd_linkState (k : WinEnd) (s : State) : linkState (windowsEnd k s) = linkState s := by
  unfold windowsEnd
  extract_lets s1
  have h1 : linkState s1 = linkState s := by
    unfold s1
    split
    · exact qstatLatch_linkState s
    · rfl
  have hfold : ∀ (bs : List Nat) (x : State),
      (bs.foldl (fun acc b => if k.ends (winMode (winOf b acc).inUse) then bankLatch b acc else acc) x).host = x.host := by
    intro bs
    induction bs with
    | nil => exact fun _ => rfl
    | cons b bs ih =>
      intro x
      rw [List.foldl_cons, ih]
      split
      · rfl
      · rfl
  exact (linkState_congr (hfold _ s1)).trans h1

/-- Nothing of a ring is left, and the link is as it was. -/
def Quiet (l : Bool × Nat) (s : State) : Prop := s.rings = Rings.reset ∧ linkState s = l

theorem Quiet.congr {l : Bool × Nat} {s t : State} (h : Quiet l s) (hrings : t.rings = s.rings) (hlink : linkState t = linkState s) :
    Quiet l t := ⟨hrings.trans h.1, hlink.trans h.2⟩

theorem Quiet.of_same {l : Bool × Nat} {s t : State} (h : Quiet l s) (hrings : t.rings = s.rings) (hhost : t.host = s.host) :
    Quiet l t := h.congr hrings (linkState_congr hhost)

theorem Quiet.complete {l : Bool × Nat} {s : State} (h : Quiet l s) (tr status result detail : Nat) :
    Quiet l (complete tr status result detail s) := by
  have hno : Tbl.look s.rings.tasks tr = none := by rw [h.1]; rfl
  unfold Machine.complete
  rw [hno]
  exact h

theorem Quiet.completeAll {l : Bool × Nat} {s : State} (h : Quiet l s) (trs : List Nat) (status : Nat) :
    Quiet l (completeAll trs status s) := by
  induction trs generalizing s with
  | nil => exact h
  | cons tr rest ih => exact ih (h.complete tr status 0 0)

theorem Quiet.postOn {l : Bool × Nat} {s : State} (h : Quiet l s) (n : Nat) (more : Bool) (c : Completion) :
    Quiet l (postOn n more c s) := by
  have hno : Tbl.look s.rings.cqs n = none := by rw [h.1]; rfl
  unfold Machine.postOn
  rw [hno]
  exact h

theorem Quiet.foldl {l : Bool × Nat} {α : Type} {f : State → α → State} (hf : ∀ s a, Quiet l s → Quiet l (f s a)) (as : List α)
    {s : State} (h : Quiet l s) : Quiet l (as.foldl f s) := by
  induction as generalizing s with
  | nil => exact h
  | cons a as ih => exact ih (hf s a h)

theorem Quiet.finishEmbed {l : Bool × Nat} {s : State} (h : Quiet l s) (tr : Nat) : Quiet l (finishEmbed tr s) := by
  unfold Machine.finishEmbed
  (repeat' split)
  · exact h
  · exact h
  · exact Quiet.complete (h.of_same (by simp) (by simp)) _ _ _ _

theorem Quiet.leaveDoc {l : Bool × Nat} {s : State} (h : Quiet l s) (d : EmbedDoc) (status : Nat) (inserted : Bool)
    (vec sketch : List Byte) : Quiet l (leaveDoc d status inserted vec sketch s) := by
  unfold Machine.leaveDoc
  split
  · exact h
  · extract_lets +onlyGivenNames at_ s1 c1 w w1
    have h1 : Quiet l s1 := h.congr (by simp [s1]) (hostWrite_linkState _ _ s)
    exact Quiet.finishEmbed (h1.of_same (by simp) (by simp)) _

theorem Quiet.abortCmd {l : Bool × Nat} {s : State} (h : Quiet l s) (tr : Nat) : Quiet l (abortCmd tr s) := by
  unfold Machine.abortCmd
  split
  · exact h
  · exact Quiet.foldl (fun _ d hs => hs.leaveDoc d _ _ _ _) _ h

theorem Quiet.finishUnbind {l : Bool × Nat} {s : State} (h : Quiet l s) : Quiet l (finishUnbind s) := by
  unfold Machine.finishUnbind
  (repeat' split)
  · exact h
  · exact h
  · exact Quiet.complete (h.of_same (by simp) (by simp)) _ _ _ _

theorem Quiet.endService {l : Bool × Nat} {s : State} (h : Quiet l s) : Quiet l (endService s) := by
  unfold Machine.endService
  extract_lets +onlyGivenNames s1 s2 _ s3
  have h1 : Quiet l s1 := Quiet.foldl (fun _ p hs => hs.leaveDoc p.2 _ _ _ _) _ h
  have h2 : Quiet l s2 := Quiet.foldl (fun _ tr hs => hs.abortCmd tr) _ h1
  have h3 : Quiet l s3 := h2.of_same (by simp [s3]) (by simp [s3])
  split
  · exact h3.finishUnbind
  · exact h3.of_same (by simp) (by simp)

theorem Quiet.logEvent {l : Bool × Nat} {s : State} (h : Quiet l s) (ev : Ev) (detail : Nat) : Quiet l (logEvent ev detail s) :=
  h.congr (by simp) (by simp)

theorem Quiet.endJob {l : Bool × Nat} {s : State} (h : Quiet l s) (e status cause : Nat) : Quiet l (endJob e status cause s) := by
  unfold Machine.endJob
  split
  · exact h
  · extract_lets +onlyGivenNames own s0 j s1 s2 s3 s4 s5 _ s6 s7 s8 rec_ s9 s10
    have h0 : Quiet l s0 := by
      unfold s0
      split
      · exact h.congr (by simp) ((windowsEnd_linkState _ _).trans (linkState_congr (by simp)))
      · exact h
    have h1 : Quiet l s1 := by
      unfold s1
      split
      · exact h0
      · exact h0.of_same (by simp) (by simp)
    have h2 : Quiet l s2 := h1.of_same (by simp [s2]) (by simp [s2])
    have h4 : Quiet l s4 := (h2.completeAll _ _).completeAll _ _
    have h6 : Quiet l s6 := h4.of_same (by simp [s6, s5]) (by simp [s6, s5])
    have h8 : Quiet l s8 := h6.of_same (by simp only [s8, s7]; split <;> simp) (by simp only [s8, s7]; split <;> simp)
    have h9 : Quiet l s9 := (h8.postOn _ _ _).logEvent _ _
    have h10 : Quiet l s10 := by
      unfold s10
      split
      · exact h9.endService
      · exact h9
    split
    · exact h10.of_same (by simp) (by simp)
    · exact h10

theorem Quiet.failJob {l : Bool × Nat} {s : State} (h : Quiet l s) (e cause tile : Nat) : Quiet l (failJob e cause tile s) := by
  unfold Machine.failJob
  split
  · exact h
  · split
    · exact h.of_same (by simp) (by simp)
    · exact Quiet.endJob (h.of_same (by simp) (by simp)) _ _ _

theorem Quiet.endAllJobs {l : Bool × Nat} {s : State} (h : Quiet l s) : Quiet l (endAllJobs s) := by
  unfold Machine.endAllJobs
  extract_lets others one s1
  have hone : ∀ x e, Quiet l x → Quiet l (one x e) := fun x e hx => (hx.failJob e _ _).endJob e _ _
  have h1 : Quiet l s1 := Quiet.foldl hone _ h
  split
  · exact hone _ _ h1
  · exact h1

theorem hostFrontEnd_linkState (linkStays : Bool) (s : State) :
    linkState (hostFrontEnd linkStays s) = (linkStays && s.host.linkUp, s.host.linkDowns) := by
  cases linkStays <;> rfl

/-- What a host-side reset of a device that is up leaves (R454). -/
theorem hostReset_alive (source : Nat) (linkStays : Bool) {s : State} (h : s.boot.dev ≠ .reset) :
    (hostReset source linkStays s).boot.dev = .bringUp ∧ (hostReset source linkStays s).rings = Rings.reset ∧
    (hostReset source linkStays s).tensor.jobs = [] ∧
    linkState (hostReset source linkStays s) = (linkStays && s.host.linkUp, s.host.linkDowns) ∧
    (s.boot.dev = .ready → s.boot.hostReset = false →
      (hostReset source linkStays s).boot.hostReset = true ∧ (hostReset source linkStays s).boot.lastSource = source) ∧
    (hostReset source linkStays s).boot.holdover = s.boot.holdover ∧
    (hostReset source linkStays s).boot.linkBarred = s.boot.linkBarred := by
  have hdev : (s.boot.dev == .reset) = false := by simpa using h
  have hquiet : Quiet (linkState s) (endAllJobs { s with rings := Rings.reset }) :=
    Quiet.endAllJobs ⟨rfl, rfl⟩
  unfold hostReset
  rw [hdev]
  extract_lets +onlyGivenNames s1 s2 banks t _ _ _ s3 s4 s5
  have h2 : Quiet (linkState s) s2 := hquiet.of_same (by simp [s2, s1]) (by simp [s2, s1])
  have hboot2 : s2.boot = s.boot := by simp [s2, s1]
  clear_value s2
  obtain ⟨hrings, hlink⟩ := h2
  have hboot : s5.boot = { s.boot with blk := none } := by simp [s5, s4, s3, hboot2]
  have hrings5 : s5.rings = Rings.reset := by simpa [s5, s4, s3] using hrings
  have hjobs5 : s5.tensor.jobs = [] := by
    have htensor : s5.tensor = s3.tensor := by simp [s5, s4]
    exact congrArg (·.jobs) htensor
  have hlink5 : linkState s5 = (linkStays && s.host.linkUp, s.host.linkDowns) := by
    have hup : s2.host.linkUp = s.host.linkUp := congrArg Prod.fst hlink
    have hdowns : s2.host.linkDowns = s.host.linkDowns := congrArg Prod.snd hlink
    rw [← hup, ← hdowns]
    exact hostFrontEnd_linkState linkStays s4
  clear_value s5
  rw [if_neg (by simp)]
  split
  case isTrue hbring =>
    rw [hboot] at hbring
    simp only [Bool.and_eq_true, beq_iff_eq] at hbring
    refine ⟨by rw [hboot]; exact hbring.1, hrings5, hjobs5, hlink5, fun hready => ?_, by rw [hboot], by rw [hboot]⟩
    rw [hbring.1] at hready
    cases hready
  case isFalse =>
    refine ⟨rfl, hrings5, hjobs5, hlink5, fun _ hno => ⟨rfl, ?_⟩, congrArg (·.holdover) hboot, congrArg (·.linkBarred) hboot⟩
    change (if s5.boot.hostReset then _ else source) = source
    rw [hboot]
    exact if_neg (by simp [hno])

theorem linkLost_of_up {s : State} (hup : s.host.linkUp = true) : linkLost s =
    hostReset 0xB false { s with host := { s.host with linkDowns := satAdd 32 s.host.linkDowns 1 } } := by
  simp [linkLost, hup]

theorem linkLost_leaves {s : State} (hdev : s.boot.dev ≠ .reset) : (linkLost s).host.linkUp = false ∧
    (linkLost s).boot.holdover = s.boot.holdover ∧ (linkLost s).boot.linkBarred = s.boot.linkBarred := by
  cases hup : s.host.linkUp
  · simp [linkLost, hup]
  · rw [linkLost_of_up hup]
    obtain ⟨-, -, -, hlink, -, hkept⟩ :=
      hostReset_alive 0xB false (s := { s with host := { s.host with linkDowns := satAdd 32 s.host.linkDowns 1 } }) hdev
    exact ⟨congrArg Prod.fst hlink, hkept⟩

/-- What a full reset that starts its release at once leaves. -/
theorem fullReset_started (source : Nat) {s : State} (hdev : s.boot.dev ≠ .reset) (hstart : mayStart s = true) :
    (fullReset source false s).boot.dev = .bringUp ∧ (fullReset source false s).boot.stage = 0 ∧
    (fullReset source false s).boot.lastSource = source ∧ (fullReset source false s).boot.stepFailed = false ∧
    (fullReset source false s).rings = Rings.reset ∧ (fullReset source false s).tensor = Tensor.reset := by
  rw [fullReset_starts source hdev hstart]
  refine ⟨rfl, ?_, ?_, ?_, ?_, ?_⟩ <;> simp [clearBoot, Boot.reset]

end Sys2Proof.Machine
end

section
set_option Elab.async false
open Sys2Proof Sys2Proof.Machine

/-- Settles O26: full resets start their release where nothing holds it back, host-side resets leave the rings reset and no job. -/
theorem resetCommandsComplete : Obligations.ResetCommandsComplete := by
  refine ⟨?_, ?_, ?_, ?_, ?_, ?_, ?_, ?_, ?_, ?_, ?_, ?_, ?_⟩
  · intro s hdev
    refine ⟨_, rfl, ?_⟩
    rw [fullReset_waits 4 (by simpa using hdev) (by rfl)]
    refine ⟨?_, ?_, ?_, ?_⟩ <;> simp [clearBoot, Boot.reset, clearPower]
  · intro s hdev hvaon hpor htrip hloss hafter
    refine ⟨_, rfl, ?_⟩
    rw [startRelease_of_mayStart (s := setPower (fun p => { p with perst := false }) s)
      (by simp [mayStart, hvaon, hpor, htrip, hloss, hafter]) hdev]
    exact ⟨rfl, rfl⟩
  · intro s hdev hworks hstart
    obtain ⟨hbring, hstage, hsource, -, hrings, htensor⟩ := fullReset_started 6 hdev hstart
    refine ⟨_, congrArg Host.Outcome.next ?_, hbring, hstage, hsource, hrings, htensor⟩
    exact (if_pos (by decide)).trans (regWrite_of_works _ hworks)
  · intro s hdev hstart
    obtain ⟨hbring, hstage, hsource, -⟩ := fullReset_started 5 hdev hstart
    exact ⟨_, if_pos (by simp [alive, hdev]), hbring, hstage, hsource⟩
  · intro s hdev
    exact ⟨_, if_pos (by simp [alive, hdev]), rfl⟩
  · intro s hdev hfailed hstart
    obtain ⟨hbring, hstage, hsource, hclear, -⟩ := fullReset_started 8 hdev hstart
    exact ⟨_, if_pos (by simp [alive, hdev, hfailed]), hbring, hstage, hsource, hclear⟩
  · intro s hbringUp hhost himage hstart
    obtain ⟨hbring, hstage, hsource, -⟩ := fullReset_started 7 (s := s) (by rw [hbringUp]; nofun) hstart
    exact ⟨_, if_pos (by simp [hbringUp, hhost, himage]), hbring, hstage, hsource⟩
  · intro s hbringUp hmode hres
    exact ⟨_, if_pos (by simp [hbringUp, hmode, hres]), by simp⟩
  · intro s hdev hmode hres hhold
    refine ⟨_, if_pos (by simp [alive, hdev, hmode, hres, hhold]), ?_⟩
    obtain ⟨hlink, hover, hbarred⟩ := linkLost_leaves (s := logEvent .clkRefLost 0
      (setBoot (fun b => { b with holdover := true, linkBarred := true }) s)) (by simpa using hdev)
    exact ⟨hover.trans (by simp), hbarred.trans (by simp), hlink⟩
  · intro s hdev hup
    obtain ⟨hbring, hrings, hjobs, hlink, hsource, -⟩ := hostReset_alive 0xA false hdev
    exact ⟨_, if_pos hup, hbring, hrings, hjobs, congrArg Prod.fst hlink, hsource⟩
  · intro s hdev hup
    obtain ⟨hbring, hrings, hjobs, hlink, hsource, -⟩ :=
      hostReset_alive 0xB false (s := { s with host := { s.host with linkDowns := satAdd 32 s.host.linkDowns 1 } }) hdev
    exact ⟨_, congrArg Host.Outcome.next (linkLost_of_up hup), hbring, hrings, hjobs, congrArg Prod.fst hlink,
      congrArg Prod.snd hlink, hsource⟩
  · intro s hdev hup
    obtain ⟨hbring, hrings, hjobs, hlink, hsource, -⟩ := hostReset_alive 0xC true hdev
    exact ⟨_, if_pos hup, hbring, hrings, hjobs, (congrArg Prod.fst hlink).trans hup, hsource⟩
  · intro s hhost hsweep
    exact ⟨_, if_neg (by simp [hhost, hsweep]), by simp, by simp⟩

end

section
set_option Elab.async false
/-! SUPPORT. Delayed units, per-block resets and the release sequence (R451 to R453, R455 to R459). -/

namespace Sys2Proof.Machine

@[simp] theorem dropRails_deferred (s : State) : (dropRails s).boot.deferred = s.boot.deferred := by
  unfold dropRails
  split <;> rfl

theorem notMem_deferred_takeUnit (u : PulseUnit) (s : State) : u ∉ (takeUnit u s).boot.deferred := by
  unfold takeUnit
  extract_lets s1
  simp

theorem sbPulse_takeChannel {c n : Nat} {b : Superblock} {s : State} (h : (n, b) ∈ (takeChannel c s).flash.sbs)
    (hgroup : sbGroup n = c / 8) : sbPulse n b = false := by
  obtain ⟨⟨m, b0⟩, -, heq⟩ := List.mem_map.1 h
  obtain ⟨rfl, rfl⟩ := Prod.mk.inj heq
  simp only [hgroup, beq_self_eq_true, Bool.true_and]
  split
  case isTrue => simp [sbPulse]
  case isFalse hidle => simpa using hidle

theorem busyChannels_takeChannel (c : Fin 64) (s : State) : (busyChannels (takeChannel c.val s)).contains c = false := by
  have hidle : c ∉ busyChannels (takeChannel c.val s) := by
    intro hmem
    obtain ⟨-, hany⟩ := List.mem_filter.1 hmem
    obtain ⟨⟨n, b⟩, hsb, hpulse⟩ := List.any_eq_true.1 hany
    simp only [Bool.and_eq_true, beq_iff_eq] at hpulse
    rw [sbPulse_takeChannel hsb hpulse.2] at hpulse
    exact absurd hpulse.1 (by simp)
  simpa using hidle

theorem busyChannels_congr {s t : State} (h : t.flash = s.flash) : busyChannels t = busyChannels s := by
  unfold busyChannels
  rw [h]

/-- A per-block reset of a device that is ready, with no other in progress, starts and does its block's work. -/
theorem blockReset_starts (kind index : Nat) (byHost waiting : Bool) (f : State → State) {s : State} (hready : s.boot.dev = .ready)
    (hnone : s.boot.blk = none) (hd3 : s.host.d3hot = false) : ∃ x, blockReset kind index byHost waiting f s = f x ∧
      x.boot.blk = some { kind := kind, index := index, byHost := byHost, waiting := waiting } := by
  have hworks : regWorks 1 true s = true := by simp [regWorks, hready, hd3]
  unfold blockReset
  rw [if_neg (by simp [hworks])]
  extract_lets s1 b s2
  have hboot : s1.boot.blk = none ∧ s1.boot.dev = .ready := by
    unfold s1
    split
    · exact ⟨hnone, hready⟩
    · exact ⟨hnone, hready⟩
  rw [if_neg (by simp [hboot, blockReleased])]
  exact ⟨_, rfl, by simp [s2, b]⟩

theorem resetTile_ready (t : Nat) (byHost : Bool) {s : State} (hready : s.boot.dev = .ready) (hnone : s.boot.blk = none)
    (hd3 : s.host.d3hot = false) :
    (resetTile t byHost s).boot.blk = some { kind := 1, index := t, byHost := byHost, waiting := false } ∧
    Tbl.look (resetTile t byHost s).tensor.tiles t = none := by
  obtain ⟨x, hreset, hblk⟩ :=
    blockReset_starts 1 t byHost false (fun x => clearTile t (raiseFault causeBlockReset t true 0 0 7 x)) hready hnone hd3
  unfold resetTile
  rw [hreset]
  exact ⟨by simpa using hblk, Tbl.look_del_self _ _⟩

theorem failChannel_boot (mine : Nat → Bool) (s : State) : (failChannel mine s).boot = s.boot := by
  unfold failChannel
  extract_lets hit
  generalize hit = hit
  induction hit generalizing s with
  | nil => rfl
  | cons p rest ih =>
    rw [List.foldl_cons, ih]
    split
    · exact (cellarMod_frame ..).2.2.2.2.2.1
    · simp

theorem abortWalkers_boot (g : Nat) (s : State) : (abortWalkers g s).boot = s.boot := by
  unfold abortWalkers
  generalize s.ralid.queries.filter _ = qs
  induction qs generalizing s with
  | nil => rfl
  | cons p rest ih =>
    rw [List.foldl_cons, ih]
    split <;> simp

theorem portOf_setPort_ne {m n : Nat} (h : n ≠ m) (q : Port) (s : State) : portOf n (setPort m q s) = portOf n s :=
  Tbl.lookD_put_ne _ _ _ h

theorem state_portOf_modPort {f : Port → Port} (hf : ∀ q, (f q).state = q.state) (m n : Nat) (s : State) :
    (portOf n (modPort m f s)).state = (portOf n s).state := by
  unfold modPort
  by_cases h : n = m
  · subst h
    rw [portOf_setPort_self, hf]
  · rw [portOf_setPort_ne h]

theorem state_setTx (vc : Nat) (c : Port → TxChannel) (q : Port) : (q.setTx vc (c q)).state = q.state := by
  unfold Port.setTx
  (repeat' split) <;> rfl

theorem state_portOf_sendParcel (p : Parcel) (n : Nat) (s : State) :
    (portOf n (sendParcel p s)).state = (portOf n s).state := by
  unfold sendParcel
  split
  · exact state_portOf_modPort (state_setTx _ _) _ _ _
  · split
    · exact state_portOf_modPort (by exact fun _ => rfl) _ _ _
    · rfl

theorem state_portOf_requeue (p : Parcel) (n : Nat) (s : State) : (portOf n (requeue s p)).state = (portOf n s).state := by
  unfold requeue
  split
  · exact state_portOf_modPort (state_setTx _ _) _ _ _
  · split
    · rfl
    · split <;> exact state_portOf_sendParcel _ _ _

/-- A port that went down trains again, waits for its laser, or is disabled. -/
theorem state_portDown (n : Nat) (laser : Bool) (s : State) : (portOf n (portDown n laser s)).state =
    if !(portOf n s).enable then 0 else if laser then 6 else 1 := by
  have hqueued : ∀ (ps : List Parcel) (x : State), (portOf n (ps.foldl requeue x)).state = (portOf n x).state := by
    intro ps
    induction ps with
    | nil => exact fun _ => rfl
    | cons p ps ih =>
      intro x
      rw [List.foldl_cons, ih, state_portOf_requeue]
  unfold portDown
  extract_lets q queued q1
  rw [hqueued]
  have hfabric : (logEvent .kybLinkDown (detailWords [n]) (setPort n q1 s)).fabric = (setPort n q1 s).fabric := by simp
  unfold portOf
  rw [hfabric]
  exact congrArg Port.state (portOf_setPort_self n q1 s)

theorem portLinked_resetPort (p : Nat) (byHost : Bool) {s : State} (hready : s.boot.dev = .ready) (hnone : s.boot.blk = none)
    (hd3 : s.host.d3hot = false) :
    (resetPort p byHost s).boot.blk = some { kind := 4, index := p, byHost := byHost, waiting := false } ∧
    portLinked (portOf p (resetPort p byHost s)) = false := by
  unfold resetPort
  extract_lets +onlyGivenNames _ down
  obtain ⟨x, hreset, hblk⟩ := blockReset_starts 4 p byHost false down hready hnone hd3
  rw [hreset]
  unfold down
  dsimp only
  split
  case isTrue =>
    refine ⟨by simpa using hblk, ?_⟩
    simp only [portLinked, state_portDown]
    (repeat' split) <;> rfl
  case isFalse =>
    refine ⟨by simpa using hblk, ?_⟩
    rw [portOf_setPort_self]
    simp only [portLinked]
    (repeat' split) <;> rfl

/-- A step of the release sequence whose work is done, outside steps 2, 3 and 8 (R455). -/
theorem execReleaseStep_advances (ms : Nat) (v w : ImageVerdict) {s : State} (hdev : s.boot.dev = .bringUp)
    (hhost : s.boot.hostReset = false) (hfailed : s.boot.stepFailed = false) (hstuck : s.boot.stuckInStep1 = false)
    (himage : s.boot.waitHostImage = false) (hlt : s.boot.stage < 8) (h1 : s.boot.stage ≠ 1) (h2 : s.boot.stage ≠ 2)
    (h7 : s.boot.stage ≠ 7) (hheld : stepHeld (s.boot.stage + 1) s = false) :
    ∃ t, execReleaseStep .done ms v w s = .next t ∧ t.boot.stage = s.boot.stage + 1 ∧ t.boot.dev = .bringUp ∧
      t.boot.bringupMs = s.boot.bringupMs + ms := by
  have hn : ¬ 8 < s.boot.stage + 1 := by omega
  unfold execReleaseStep
  extract_lets +onlyGivenNames b n
  rw [if_neg (by simp [b, n, hdev, hhost, hfailed, hstuck, himage, hheld, hn])]
  extract_lets +onlyGivenNames s1 lantern
  have hcases : n = 1 ∨ n = 4 ∨ n = 5 ∨ n = 6 ∨ n = 7 := by
    change s.boot.stage + 1 = 1 ∨ s.boot.stage + 1 = 4 ∨ s.boot.stage + 1 = 5 ∨ s.boot.stage + 1 = 6 ∨ s.boot.stage + 1 = 7
    omega
  have hstage : s.boot.stage + 1 = n := rfl
  rw [hstage]
  clear_value n
  rcases hcases with rfl | rfl | rfl | rfl | rfl
  · exact ⟨_, rfl, by simp, by simp [s1, hdev], by simp [s1]⟩
  · exact ⟨_, rfl, rfl, hdev, rfl⟩
  · refine ⟨stepFive s1, rfl, ?_⟩
    unfold stepFive
    extract_lets +onlyGivenNames staged s2
    split
    · exact ⟨rfl, hdev, rfl⟩
    · simp [s2, s1, hdev]
  · exact ⟨_, rfl, rfl, hdev, rfl⟩
  · exact ⟨_, rfl, rfl, hdev, rfl⟩

theorem enterReady_dev (s : State) : (enterReady s).boot.dev = .ready ∧ (enterReady s).boot.stage = 9 := by
  unfold enterReady
  extract_lets +onlyGivenNames s1 s2 _ s3
  have hboot : s2.boot = s1.boot := by
    unfold s2
    split <;> simp
  have hready : s3.boot = s1.boot := hboot
  simp only [logEvent_frame, hready]
  exact ⟨rfl, rfl⟩

theorem stepEight_recovered (bad : Option Nat) {s : State} (h : s.boot.recoveryDone = true) :
    (stepEight bad s).boot.dev = .ready ∧ (stepEight bad s).boot.stage = 9 := by
  unfold stepEight
  extract_lets train s1
  have hboot : ∀ (ns : List Nat) (x : State), (ns.foldl train x).boot = x.boot := by
    intro ns
    induction ns with
    | nil => exact fun _ => rfl
    | cons n ns ih =>
      intro x
      rw [List.foldl_cons, ih]
      unfold train
      dsimp only
      split <;> simp
  have hdone : s1.boot.recoveryDone = true := by
    unfold s1
    rw [hboot]
    exact h
  rw [if_pos hdone]
  exact enterReady_dev s1

theorem enterReady_recoveryDone (s : State) : (enterReady s).boot.recoveryDone = s.boot.recoveryDone := by
  unfold enterReady
  extract_lets +onlyGivenNames s1 s2 _ s3
  have hboot : s2.boot = s1.boot := by
    unfold s2
    split <;> simp
  have hready : s3.boot = s1.boot := hboot
  simp only [logEvent_frame, hready]
  rfl

/-- The first transfer of a host image of 16,384 bytes is kept, with its total (R535). -/
theorem execImageTransfer_first {m : List Byte} (v : ImageVerdict) {s : State} (hserved : doeServed s = true)
    (hwait : s.boot.waitHostImage = true) (hlen : m.length = 12 + 8192) (hhead : m.take 4 = [0x10#8, 0xEF#8, 0#8, 0#8])
    (hoff : headerField m 4 4 = 0) (htotal : headerField m 8 4 = 16384) :
    ∃ t, execImageTransfer m v s = .next t ∧ t.boot.hostImage = m.drop 12 ∧ t.boot.hostImageTotal = 16384 := by
  have hm : m = [0x10#8, 0xEF#8, 0#8, 0#8] ++ m.drop 4 := by rw [← hhead, List.take_append_drop]
  have hbyte : ∀ i < 4, m.getD i 0#8 = [0x10#8, 0xEF#8, 0#8, 0#8].getD i 0#8 := by
    intro i hi
    conv_lhs => rw [hm]
    rw [List.getD_append _ _ _ _ hi]
  have hdata : (m.drop 12).length = 8192 := by simp [hlen]
  unfold execImageTransfer
  extract_lets off total data
  have hoff0 : off = 0 := hoff
  have htotal0 : total = 16384 := htotal
  have hdata0 : data.length = 8192 := hdata
  unfold mgmtRequest
  extract_lets b
  have hb : b 0 = 0x10 ∧ b 1 = 0xEF ∧ b 2 = 0 ∧ b 3 = 0 := by
    unfold b
    rw [hbyte 0 (by decide), hbyte 1 (by decide), hbyte 2 (by decide), hbyte 3 (by decide)]
    decide
  obtain ⟨hb0, hb1, hb2, hb3⟩ := hb
  rw [if_neg (by simp [hserved]), if_neg (by simp [hb0, hb1, isCompl]), if_neg (by simp [hb0, hb2, hb3])]
  clear_value off total b
  subst hoff0 htotal0
  dsimp only
  rw [if_neg (by simp [hwait, hdata0]), if_pos (by simp [hdata0])]
  exact ⟨_, rfl, by simp [data], by simp⟩

end Sys2Proof.Machine
end

section
set_option Elab.async false
open Sys2Proof Sys2Proof.Machine

/-- Settles O27: units are taken, blocks reset, and the release sequence goes on step by step. -/
theorem bringUpCommandsComplete : Obligations.BringUpCommandsComplete := by
  refine ⟨?_, ?_, ?_, ?_, ?_, ?_, ?_, ?_, ?_, ?_, ?_, ?_, ?_, ?_⟩
  · intro u s hmem hquiet
    exact ⟨_, if_pos (by simp [hmem, hquiet]), notMem_deferred_takeUnit u s⟩
  · intro c s hmem
    refine ⟨_, if_pos (by simpa using hmem), notMem_deferred_takeUnit _ s, ?_⟩
    rw [busyChannels_congr (t := takeUnit (.channel c) s) (s := takeChannel c.val s) (by simp [takeUnit])]
    exact busyChannels_takeChannel c s
  · intro tile byHost s hready hnone hd3
    exact ⟨_, rfl, resetTile_ready tile.val byHost hready hnone hd3⟩
  · intro g byHost s hready hnone hd3
    obtain ⟨x, hreset, hblk⟩ := blockReset_starts 2 g.val byHost false (abortWalkers g.val) hready hnone hd3
    exact ⟨_, congrArg Host.Outcome.next hreset, (congrArg Boot.blk (abortWalkers_boot _ _)).trans hblk⟩
  · intro c byHost s hready hnone hd3
    obtain ⟨x, hreset, hblk⟩ := blockReset_starts 3 c.val byHost ((busyChannels s).any (fun k => k.val == c.val))
      (failChannel (· == c.val)) hready hnone hd3
    exact ⟨_, congrArg Host.Outcome.next hreset, (congrArg Boot.blk (failChannel_boot _ _)).trans hblk⟩
  · intro p byHost s hready hnone hd3
    exact ⟨_, rfl, portLinked_resetPort p.val byHost hready hnone hd3⟩
  · intro g byHost s hready hnone hd3
    obtain ⟨x, hreset, hblk⟩ := blockReset_starts 5 g.val byHost false (failChannel (fun c => c / 8 == g.val)) hready hnone hd3
    exact ⟨_, congrArg Host.Outcome.next hreset, (congrArg Boot.blk (failChannel_boot _ _)).trans hblk⟩
  · intro b s hblk hwait
    refine ⟨setBoot (fun b => { b with blk := none }) s, ?_, rfl⟩
    simp [exec, execBlockResetEnd, hblk, hwait]
  · intro b s hblk hwait hdev hstart
    obtain ⟨hbring, hstage, hsource, -⟩ := fullReset_started 8 (s := setBoot (fun b => { b with cause := 6 }) s) hdev hstart
    refine ⟨_, ?_, hsource, hbring, hstage⟩
    simp [exec, execBlockResetEnd, hblk, hwait]
  · intro ms v w s hdev hhost hfailed hstuck himage hlt h1 h2 h7 hheld
    exact execReleaseStep_advances ms v w hdev hhost hfailed hstuck himage hlt h1 h2 h7 hheld
  · intro ms v w s hdev hhost hfailed hstuck himage hstage hdone
    refine ⟨stepEight none (setBoot (fun b => { b with bringupMs := b.bringupMs + ms }) s), ?_, stepEight_recovered none hdone⟩
    simp [exec, execReleaseStep, hdev, hhost, hfailed, hstuck, himage, hstage, stepHeld]
  · intro lost s hdev hrun hdone hfailed
    refine ⟨_, (if_neg (by simp [hdev, hrun, hdone, hfailed])).trans (if_neg (by simp)), ?_⟩
    split
    · exact ⟨(enterReady_recoveryDone _).trans rfl, (enterReady_dev _).1⟩
    · exact ⟨rfl, by simp [hdev]⟩
  · intro v s hready hd3 hserves htop hbit
    have hkey : bits v.toNat 31 24 = 0x3E := by
      unfold bits
      omega
    have hgo : bit v.toNat 0 = true := by
      rw [BitVec.getLsbD, Nat.testBit] at hbit
      simpa [bit] using hbit
    refine ⟨_, congrArg Host.Outcome.next (if_pos (by simp [hkey, hgo, hready, hserves, hd3])), ?_⟩
    rw [(counterWrite_frame ..).2.2.2.2.1]
    rfl
  · intro m v s hserved hwait hlen hhead hoff htotal
    exact execImageTransfer_first v hserved hwait hlen hhead hoff htotal

end

section
set_option Elab.async false
/-! SUPPORT. Tiles under the operations on the state: what each leaves of a tile (R41, R145, R155). -/

namespace Sys2Proof.Machine

theorem tileOf_congr {s t : State} (h : t.tensor.tiles = s.tensor.tiles) (n : Nat) : tileOf n t = tileOf n s := by
  unfold tileOf
  rw [h]

@[simp] theorem tileOf_setTile (n : Nat) (x : Tile) (s : State) : tileOf n (setTile n x s) = x := tileOf_setTile_self n x s

@[simp] theorem tileOf_modTile (n : Nat) (f : Tile → Tile) (s : State) : tileOf n (modTile n f s) = f (tileOf n s) :=
  tileOf_setTile_self n _ s

@[simp] theorem tileOf_bump (n a b c d : Nat) (s : State) : tileOf n (bump a b c d s) = tileOf n s :=
  tileOf_congr (by simp) n

@[simp] theorem tileOf_modBank (n t : Nat) (f : QBank → QBank) (s : State) : tileOf n (modBank t f s) = tileOf n s := by
  unfold modBank
  split <;> rfl

@[simp] theorem tiles_setJob (e : Nat) (j : Job) (s : State) : (setJob e j s).tensor.tiles = s.tensor.tiles := rfl

@[simp] theorem tiles_raiseFault (cause tile : Nat) (outside : Bool) (kind word slot : Nat) (s : State) :
    (raiseFault cause tile outside kind word slot s).tensor.tiles = s.tensor.tiles := by
  unfold raiseFault
  split
  · rfl
  · extract_lets now exp r r'
    clear_value r'
    cases r' <;> simp

@[simp] theorem tileOf_raiseFault (n cause tile : Nat) (outside : Bool) (kind word slot : Nat) (s : State) :
    tileOf n (raiseFault cause tile outside kind word slot s) = tileOf n s :=
  tileOf_congr (by simp) n

/-- Raising signals adds increments to a tile, and nothing else. -/
theorem foldl_inc (sigs : List (Nat × Nat)) (x : Tile) :
    ∃ i, sigs.foldl (fun y p => y.inc p.1 p.2) x = { x with incs := i } := by
  induction sigs generalizing x with
  | nil => exact ⟨x.incs, rfl⟩
  | cons p ps ih => exact ih (x.inc p.1 p.2)

theorem tileOf_raiseSigs (t : Nat) (sigs : List (Nat × Nat)) (s : State) :
    ∃ i, tileOf t (raiseSigs t sigs s) = { tileOf t s with incs := i } := by
  unfold raiseSigs
  split
  · exact ⟨(tileOf t s).incs, rfl⟩
  · obtain ⟨i, hi⟩ := foldl_inc sigs (tileOf t s)
    exact ⟨i, by rw [tileOf_modTile, hi]⟩

/-- An entry that completes raises signals and leaves its tracker, and changes nothing else of its tile. -/
theorem tileOf_completeEntry (t : Nat) (q : QEntry) (s : State) :
    ∃ i k, tileOf t (completeEntry t q s) = { tileOf t s with incs := i, trackers := k } := by
  unfold completeEntry
  extract_lets s1
  obtain ⟨i, hi⟩ := tileOf_raiseSigs t ((sSig q.slot).toList.map (fun f => (f, 1))) s
  have h1 : tileOf t s1 = { tileOf t s with incs := i } := hi
  clear_value s1
  split
  · exact ⟨i, _, h1⟩
  · split
    · exact ⟨i, _, h1⟩
    · split
      · obtain ⟨i2, hi2⟩ := tileOf_raiseSigs t (hSigs _) (modTile t (fun x => { x with trackers := Tbl.del x.trackers _ }) s1)
        exact ⟨i2, _, by rw [hi2, tileOf_modTile, h1]⟩
      · exact ⟨i, _, by rw [tileOf_modTile, h1]⟩

theorem mem_replaceFirst {α : Type} {p : α → Bool} {xs : List α} {x : α} (f : α → α) (h : xs.find? p = some x) :
    f x ∈ replaceFirst p f xs := by
  induction xs with
  | nil => cases h
  | cons y ys ih =>
    rw [List.find?_cons] at h
    unfold replaceFirst
    cases hy : p y with
    | true =>
      rw [hy] at h
      cases h
      simp
    | false =>
      rw [hy] at h
      simp [ih h]

end Sys2Proof.Machine
end

section
set_option Elab.async false
/-! SUPPORT. The stages of a grid instruction (R79 to R94). -/

namespace Sys2Proof.Machine

/-- Rows of the epilogue are written to tile memory, and to no other part of the tile. -/
theorem writeOutBlock_tile (p : BitVec 512) (i b : Nat) (vs : List Nat) (stat : Bool) (x : Tile) (q : QBank) :
    ∃ m, (writeOutBlock p i b vs stat x q).1 = { x with mem := m } := by
  unfold writeOutBlock
  extract_lets of bi at_ supplied o x1 x2 x3 rs0 scs rs1 rs2
  split
  · by_cases hrule : (prScaleRule p != 2 || o.scale == 255) = true <;> by_cases hmxe : prOutMxe p = true <;>
      exact ⟨_, by simp only [x3, x2, hrule, hmxe, if_true]; rfl⟩
  · (repeat' split) <;> exact ⟨_, rfl⟩

theorem writeOutRow_tile (p : BitVec 512) (i : Nat) (stat : Bool) (k b : Nat) (vs : List Nat) (x : Tile) (q : QBank) :
    ∃ m, (writeOutRow p i stat k b vs x q).1 = { x with mem := m } := by
  induction k generalizing b vs x q with
  | zero => exact ⟨x.mem, rfl⟩
  | succ k ih =>
    unfold writeOutRow
    split
    · exact ⟨x.mem, rfl⟩
    · obtain ⟨m1, h1⟩ := writeOutBlock_tile p i b (vs.take 32) stat x q
      obtain ⟨m2, h2⟩ := ih (b + 1) (vs.drop 32) (writeOutBlock p i b (vs.take 32) stat x q).1
        (writeOutBlock p i b (vs.take 32) stat x q).2
      exact ⟨m2, by rw [h2, h1]⟩

/-- The tile whose next row of a grid instruction has entered the epilogue. -/
def Tile.enterRow (x : Tile) : Tile :=
  { x with grids := replaceFirst (fun g => decide (g.entered < g.rows)) (fun g => { g with entered := g.entered + 1 }) x.grids }

/-- A row entering the epilogue is counted, and its flags and its bytes are the only other changes of the tile (R89, R95). -/
theorem execEpilogueRowEnter_enters {tile : Fin 128} {g : GridJob} {s : State} (hdrain : draining s = true)
    (hfind : (tileOf tile.val s).grids.find? (fun h => decide (h.entered < h.rows)) = some g) (hdeliver : g.entered < g.delivered)
    (hcorr : (gAMxe g.entry.slot || gBMxe g.entry.slot) = true → g.corr = .ended) :
    ∃ t, execEpilogueRowEnter tile s = .next t ∧ { g with entered := g.entered + 1 } ∈ (tileOf tile.val t).grids ∧
      (gValidRows g.entry.slot ≤ g.entered → (tileOf tile.val t).mem = (tileOf tile.val s).mem) ∧
      (g.entered < gValidRows g.entry.slot →
        (tileOf tile.val t).ieee = (tileOf tile.val s).ieee ||| BitVec.ofNat 5 (stageRow (tileOf tile.val s) g g.entered).2) := by
  have hmem := mem_replaceFirst (fun h => { h with entered := h.entered + 1 }) hfind
  have hready : ¬ ((g.delivered ≤ g.entered || (gAMxe g.entry.slot || gBMxe g.entry.slot) && g.corr != .ended) = true) := by
    simp only [Bool.or_eq_true, Bool.and_eq_true, decide_eq_true_eq, bne_iff_ne, not_or, not_and, not_not] at hcorr ⊢
    exact ⟨by omega, hcorr⟩
  unfold execEpilogueRowEnter
  dsimp only
  rw [if_neg (by simp [hdrain]), hfind]
  dsimp only
  rw [if_neg hready]
  split
  case isTrue hvalid =>
    exact ⟨_, rfl, by rw [tileOf_setTile]; exact hmem, fun _ => by rw [tileOf_setTile], fun hlt => absurd hlt (by omega)⟩
  case isFalse hvalid =>
    obtain ⟨m, hm⟩ := writeOutRow_tile g.param g.entered (prStats g.param) 4 0 (stageRow (tileOf tile.val s) g g.entered).1
      (tileOf tile.val s).enterRow (bankOf tile.val s)
    unfold Tile.enterRow at hm
    refine ⟨_, rfl, ?_, fun hge => absurd hge hvalid, fun _ => ?_⟩
    · simp only [tileOf_modBank, tileOf_setTile, Tile.raiseIeee, tileWrite, hm]
      exact hmem
    · simp only [tileOf_modBank, tileOf_setTile, Tile.raiseIeee, tileWrite, hm]

/-- The job that a grid instruction becomes when it is taken with its parameter record. -/
def takenGrid (x : Tile) (q : QEntry) : GridJob :=
  { entry := q, buf := x.gridCount % 2, param := BitVec.ofNat 512 (leNat (tileRead x (gParam q.slot * 64) 64)), streaming := false
    acc := [], rows := gRows q.slot, delivered := 0, corr := .absent, cvals := [], cflags := 0, entered := 0 }

theorem execGrid_takes {tile : Fin 128} {q : QEntry} {s : State} (hdrain : draining s = true)
    (harr : (tileOf tile.val s).arr = some q) (hnull : q.null = false) (hop : sOp q.slot = 1)
    (hstream : (tileOf tile.val s).grids.all (fun g => g.streaming) = true)
    (hparam : gridParamOk q.slot (BitVec.ofNat 512 (leNat (tileRead (tileOf tile.val s) (gParam q.slot * 64) 64))) = true) :
    execGrid tile s = .next (setTile tile.val { tileOf tile.val s with
      arr := none, grids := (tileOf tile.val s).grids ++ [takenGrid (tileOf tile.val s) q]
      gridCount := (tileOf tile.val s).gridCount + 1 } s) := by
  have hany : ((tileOf tile.val s).grids.any fun g => !g.streaming) = false := by simpa using hstream
  unfold execGrid
  dsimp only
  rw [if_neg (by simp [hdrain]), harr]
  dsimp only
  rw [if_neg (by simp [hnull, hop, hany]), if_neg (by simp [hparam])]
  rfl

/-- A streamed job takes the place of the one that did not stream yet, so that all of the tile's jobs stream. -/
theorem execGridStreamStart_streams {tile : Fin 128} {g : GridJob} {s : State} (hdrain : draining s = true)
    (hfind : (tileOf tile.val s).grids.find? (fun h => !h.streaming) = some g) :
    ∃ t, execGridStreamStart tile s = .next t ∧ (streamGrid (tileOf tile.val s) g).1 ∈ (tileOf tile.val t).grids ∧
      (∀ h ∈ (tileOf tile.val t).grids, h.streaming = true) ∧ (tileOf tile.val t).mem = (tileOf tile.val s).mem := by
  have hg : g ∈ (tileOf tile.val s).grids := List.mem_of_find?_eq_some hfind
  have hidle : g.streaming = false := by simpa using List.find?_some hfind
  unfold execGridStreamStart
  dsimp only
  rw [if_neg (by simp [hdrain]), hfind]
  dsimp only
  refine ⟨_, rfl, ?_⟩
  have htile : ∀ (c : Bool) (f : QBank → QBank) (x : Tile) (a b : Nat),
      tileOf tile.val (if c then modBank tile.val f (bump 0 tile.val 8 a (bump 0 tile.val 4 b (setTile tile.val x s)))
        else bump 0 tile.val 8 a (bump 0 tile.val 4 b (setTile tile.val x s))) = x := by
    intro c f x a b
    cases c <;> simp
  rw [htile]
  refine ⟨List.mem_map.2 ⟨g, hg, by simp [hidle]⟩, fun h hh => ?_, rfl⟩
  obtain ⟨h0, -, rfl⟩ := List.mem_map.1 hh
  split
  case isTrue hstream => exact hstream
  case isFalse => rfl

/-- The job to which the next row of a grid instruction was delivered: its correction falls due with the last row (R85). -/
def GridJob.fed (g : GridJob) : GridJob :=
  { g with
    delivered := g.delivered + 1
    corr := if (gAMxe g.entry.slot || gBMxe g.entry.slot) && g.delivered + 1 == g.rows then .due else g.corr }

theorem execGridRowDeliver_delivers {tile : Fin 128} {g : GridJob} {s : State} (hdrain : draining s = true)
    (hfind : (tileOf tile.val s).grids.find? (fun h => h.streaming && decide (h.delivered < h.rows)) = some g)
    (hfree : bufferFree g (tileOf tile.val s).grids = true) :
    ∃ t, execGridRowDeliver tile s = .next t ∧ g.fed ∈ (tileOf tile.val t).grids ∧
      (tileOf tile.val t).mem = (tileOf tile.val s).mem := by
  unfold execGridRowDeliver
  dsimp only
  rw [if_neg (by simp [hdrain]), hfind]
  dsimp only
  rw [if_neg (by simp [hfree])]
  refine ⟨_, rfl, ?_⟩
  rw [tileOf_setTile]
  exact ⟨mem_replaceFirst (fun _ => g.fed) hfind, rfl⟩

theorem execCorrectionPassEnd_ends {tile : Fin 128} {g : GridJob} {s : State} (hdrain : draining s = true)
    (hfind : (tileOf tile.val s).grids.find? (fun h => h.corr == .running) = some g) :
    ∃ t, execCorrectionPassEnd tile s = .next t ∧ { g with corr := .ended } ∈ (tileOf tile.val t).grids ∧
      (tileOf tile.val t).ieee = (tileOf tile.val s).ieee ||| BitVec.ofNat 5 g.cflags ∧
      (tileOf tile.val t).mem = (tileOf tile.val s).mem := by
  unfold execCorrectionPassEnd
  dsimp only
  rw [if_neg (by simp [hdrain]), hfind]
  dsimp only
  refine ⟨_, rfl, ?_⟩
  rw [tileOf_bump, tileOf_setTile]
  exact ⟨mem_replaceFirst (fun h => { h with corr := .ended }) hfind, rfl, rfl⟩

theorem execGridComplete_completes {tile : Fin 128} {g : GridJob} {rest : List GridJob} {s : State} (hdrain : draining s = true)
    (hgrids : (tileOf tile.val s).grids = g :: rest) (hentered : g.entered = g.rows) :
    ∃ t, execGridComplete tile s = .next t ∧ (tileOf tile.val t).grids = rest ∧
      (tileOf tile.val t).mem = (tileOf tile.val s).mem := by
  unfold execGridComplete
  dsimp only
  rw [if_neg (by simp [hdrain]), hgrids]
  dsimp only
  rw [if_pos hentered]
  obtain ⟨i, k, htile⟩ :=
    tileOf_completeEntry tile.val g.entry (setTile tile.val { tileOf tile.val s with grids := rest } s)
  refine ⟨_, rfl, ?_⟩
  rw [htile, tileOf_setTile]
  exact ⟨rfl, rfl⟩

end Sys2Proof.Machine
end

section
set_option Elab.async false
open Sys2Proof Sys2Proof.Machine

/-- Settles O28: each stage of a grid instruction takes the first job that is at it, and writes tile memory in the epilogue only. -/
theorem gridCommandsComplete : Obligations.GridCommandsComplete := by
  refine ⟨?_, ?_, ?_, ?_, ?_, ?_, ?_⟩
  · intro tile q s hdrain harr hnull hop hstream hparam
    refine ⟨_, takenGrid (tileOf tile.val s) q, execGrid_takes hdrain harr hnull hop hstream hparam, ?_⟩
    rw [tileOf_setTile]
    exact ⟨rfl, rfl, rfl, rfl, rfl, rfl, rfl, rfl, rfl, rfl⟩
  · intro tile g s hdrain hfind
    exact execGridStreamStart_streams hdrain hfind
  · intro tile g s hdrain hfind hfree
    obtain ⟨t, hexec, hfed, hmem⟩ := execGridRowDeliver_delivers hdrain hfind hfree
    exact ⟨t, g.fed, hexec, hfed, rfl, rfl, rfl, rfl, hmem⟩
  · intro tile g s hdrain hrun hfind
    refine ⟨_, if_neg (by simp [hdrain, hrun]), ?_⟩
    rw [tileOf_setTile]
    exact ⟨mem_replaceFirst (fun g => { g with corr := .running }) hfind, rfl⟩
  · intro tile g s hdrain hfind
    exact execCorrectionPassEnd_ends hdrain hfind
  · intro tile g s hdrain hfind hdeliver hcorr
    exact execEpilogueRowEnter_enters hdrain hfind hdeliver hcorr
  · intro tile g rest s hdrain hgrids hentered
    exact execGridComplete_completes hdrain hgrids hentered

end

section
set_option Elab.async false
/-! SUPPORT. Values in tile memory: what a read gives after a write, and the vector operations that write their results one after
another (R99, R137). -/

namespace Sys2Proof.Machine

theorem leNat_leBytes (n v : Nat) : leNat (leBytes n v) = v % 256 ^ n := by
  induction n generalizing v with
  | zero => simp [leBytes, leNat, Nat.mod_one]
  | succ n ih =>
    rw [leBytes, leNat, ih, BitVec.toNat_ofNat, show 256 ^ (n + 1) = 256 * 256 ^ n from Nat.pow_succ']
    exact Nat.mod_mul.symm

theorem leNat_lt (bs : List Byte) : leNat bs < 256 ^ bs.length := by
  induction bs with
  | nil => simp [leNat]
  | cons b bs ih =>
    have hb := b.isLt
    rw [leNat, List.length_cons, Nat.pow_succ']
    omega

@[simp] theorem length_tileRead (x : Tile) (a n : Nat) : (tileRead x a n).length = n := by
  simp [tileRead, Mem.read]

@[simp] theorem length_readVals (x : Tile) (a w n : Nat) : (readVals x a w n).length = n := by
  simp [readVals]

theorem lt_of_mem_readVals {x : Tile} {a w n v : Nat} (h : v ∈ readVals x a w n) : v < 256 ^ w := by
  obtain ⟨i, -, rfl⟩ := List.mem_map.1 h
  simpa using leNat_lt (tileRead x (a + w * i) w)

/-- A read inside of what was written gives that part of it. -/
theorem Mem.read_write_part (d : Nat → Byte) (m : Mem) (a k n : Nat) (bs : List Byte) (h : k + n ≤ bs.length) :
    Mem.read d (Mem.write d m a bs) (a + k) n = (bs.drop k).take n := by
  apply List.ext_getElem
  · simp [Mem.read]
    omega
  · intro i h1 h2
    have hi : i < n := by simpa [Mem.read] using h1
    have hbyte := Mem.byte_write_in d m a (k + i) bs (by omega)
    simpa [Mem.read, Nat.add_assoc] using hbyte

/-- A read beside what was written gives what was there. -/
theorem Mem.read_write_out (d : Nat → Byte) (m : Mem) (a b n : Nat) (bs : List Byte)
    (h : ∀ i < n, b + i < a ∨ a + bs.length ≤ b + i) : Mem.read d (Mem.write d m a bs) b n = Mem.read d m b n := by
  unfold Mem.read
  refine List.map_congr_left fun i hi => ?_
  exact Mem.byte_write_out d m a (b + i) bs (h i (List.mem_range.1 hi))

theorem length_flatMap_leBytes (w : Nat) (vs : List Nat) : (vs.flatMap (leBytes w)).length = vs.length * w := by
  induction vs with
  | nil => simp
  | cons v vs ih =>
    rw [List.flatMap_cons, List.length_append, length_leBytes, ih, List.length_cons]
    ring

theorem take_drop_flatMap_leBytes (w : Nat) (vs : List Nat) (i : Nat) (h : i < vs.length) :
    ((vs.flatMap (leBytes w)).drop (w * i)).take w = leBytes w vs[i] := by
  induction vs generalizing i with
  | nil => simp at h
  | cons v vs ih =>
    rw [List.flatMap_cons]
    cases i with
    | zero => simp
    | succ i =>
      have hlen : w * (i + 1) = (leBytes w v).length + w * i := by rw [length_leBytes]; ring
      rw [hlen, List.drop_length_add_append]
      simpa using ih i (by simpa using h)

theorem readVals_tileWrite (x : Tile) (a w : Nat) (vs : List Nat) :
    readVals (tileWrite x a (vs.flatMap (leBytes w))) a w vs.length = vs.map (fun v => v % 256 ^ w) := by
  apply List.ext_getElem
  · simp
  · intro i h1 h2
    have hi : i < vs.length := by simpa using h1
    have hle : w * i + w ≤ (vs.flatMap (leBytes w)).length := by
      rw [length_flatMap_leBytes, Nat.mul_comm vs.length, ← Nat.mul_succ]
      exact Nat.mul_le_mul_left w hi
    simp only [readVals, List.getElem_map, List.getElem_range, tileRead, tileWrite]
    rw [Mem.read_write_part _ _ _ _ _ _ hle, take_drop_flatMap_leBytes w vs i hi, leNat_leBytes]

theorem readVals_tileWrite_out (x : Tile) (a b w n : Nat) (bs : List Byte)
    (h : ∀ i < n * w, b + i < a ∨ a + bs.length ≤ b + i) : readVals (tileWrite x a bs) b w n = readVals x b w n := by
  unfold readVals
  refine List.map_congr_left fun i hi => ?_
  have hin : i < n := List.mem_range.1 hi
  refine congrArg leNat (Mem.read_write_out _ _ _ _ _ _ fun k hk => ?_)
  have hlt : w * i + k < n * w := by
    calc w * i + k < w * (i + 1) := by rw [Nat.mul_succ]; omega
      _ ≤ w * n := Nat.mul_le_mul_left w hin
      _ = n * w := Nat.mul_comm w n
  have := h (w * i + k) hlt
  omega

theorem pow_256_elemBits {fmt : Nat} (h : elemBits fmt % 8 = 0) : 256 ^ (elemBits fmt / 8) = 2 ^ elemBits fmt := by
  rw [show 256 = 2 ^ 8 from rfl, ← Nat.pow_mul, Nat.mul_div_cancel' (Nat.dvd_of_mod_eq_zero h)]

/-- Elements of whole bytes are stored one after another. -/
theorem storeElems_of_bytes (x : Tile) {fmt : Nat} (unit_ : Nat) (vs : List Nat) (h : elemBits fmt % 8 = 0) :
    storeElems x fmt unit_ vs = tileWrite x (unit_ * 64) (vs.flatMap (leBytes (elemBits fmt / 8))) := by
  simp [storeElems, packElems, h]

theorem readElems_of_bytes (x : Tile) {fmt : Nat} (unit_ n : Nat) (h : elemBits fmt % 8 = 0) :
    readElems x fmt unit_ n = readVals x (unit_ * 64) (elemBits fmt / 8) n := by
  simp [readElems, h]

theorem readElems_storeElems (x : Tile) {fmt : Nat} (unit_ : Nat) (vs : List Nat) (h : elemBits fmt % 8 = 0) :
    readElems (storeElems x fmt unit_ vs) fmt unit_ vs.length = vs.map (fun v => v % 2 ^ elemBits fmt) := by
  rw [readElems_of_bytes _ _ _ h, storeElems_of_bytes _ _ _ h, readVals_tileWrite, pow_256_elemBits h]

theorem byte_storeElems_out (x : Tile) {fmt : Nat} (unit_ : Nat) (vs : List Nat) (h : elemBits fmt % 8 = 0) {a : Nat}
    (ha : a < unit_ * 64 ∨ unit_ * 64 + vs.length * (elemBits fmt / 8) ≤ a) :
    Mem.byte zeroByte (storeElems x fmt unit_ vs).mem a = Mem.byte zeroByte x.mem a := by
  rw [storeElems_of_bytes _ _ _ h]
  exact Mem.byte_write_out _ _ _ _ _ (by rw [length_flatMap_leBytes]; exact ha)

/-- What the started vector operation of a tile leaves when it runs. -/
def ranVec (t : Nat) (q : QEntry) (r : VecResult) (s : State) : State :=
  modBank t (fun _ => r.bank) (setTile t { r.tile.raiseIeee r.flags with vec := some { q with done := true } } s)

theorem runVec_of_started {t op : Nat} {f : Rm → BitVec 128 → Tile → QBank → VecResult} {s : State} {q : QEntry} {e : Nat}
    {j : Job} (hstart : startedVec t op s = some q) (howner : ownerJob s = some (e, j)) : runVec t op f s =
      .next (ranVec t q (f (rmOf (vRnd q.slot) (jRndDefault j.desc)) q.slot (tileOf t s) (bankOf t s)) s) := by
  unfold runVec
  rw [hstart, howner]
  rfl

@[simp] theorem tileOf_ranVec (t : Nat) (q : QEntry) (r : VecResult) (s : State) :
    tileOf t (ranVec t q r s) = { r.tile.raiseIeee r.flags with vec := some { q with done := true } } := by
  simp [ranVec]

theorem tileOf_ranVec_ne {n t : Nat} (h : n ≠ t) (q : QEntry) (r : VecResult) (s : State) :
    tileOf n (ranVec t q r s) = tileOf n s := by
  unfold ranVec
  rw [tileOf_modBank, tileOf_setTile_ne _ _ h]

/-- An operation that stores its results in the format `fmt` writes what `VecWrites` says. -/
theorem vecWrites_of_stores {c : Fin 128 → Instr} {op : Nat} {fmt : BitVec 128 → Nat}
    {rs : Rm → BitVec 128 → Tile → List (Nat × Exc)} {f : Rm → BitVec 128 → Tile → QBank → VecResult}
    (hexec : ∀ tile s, exec (c tile) s = runVec tile.val op f s)
    (htile : ∀ rm sl x q, (f rm sl x q).tile = storeElems x (fmt sl) (vDst sl) ((rs rm sl x).map (·.1)))
    (hflags : ∀ rm sl x q, (f rm sl x q).flags = flagsOf (rs rm sl x)) : VecWrites c op fmt rs := by
  intro tile q e j s hstart howner hbytes
  refine ⟨_, (hexec tile s).trans (runVec_of_started hstart howner), ?_⟩
  dsimp only
  rw [tileOf_ranVec, htile, hflags]
  generalize hr : rs (rmOf (vRnd q.slot) (jRndDefault j.desc)) q.slot (tileOf tile.val s) = r
  have hread := readElems_storeElems (tileOf tile.val s) (vDst q.slot) (r.map (·.1)) hbytes
  rw [List.length_map, List.map_map] at hread
  refine ⟨rfl, hread, rfl, rfl, fun n hn => tileOf_ranVec_ne hn _ _ _, fun a ha => ?_⟩
  exact byte_storeElems_out (tileOf tile.val s) (vDst q.slot) (r.map (·.1)) hbytes (by simpa using ha)

theorem vecWrites_unary {c : Fin 128 → Instr} {op : Nat} {g : Rm → BitVec 128 → Nat → Nat × Exc}
    (hexec : ∀ tile s, exec (c tile) s = runVec tile.val op (fun rm sl => mapUnary (g rm sl) sl) s) :
    VecWrites c op vFmtD (fun rm sl x => (vecA sl x).map (g rm sl)) :=
  vecWrites_of_stores hexec (fun _ _ _ _ => rfl) (fun _ _ _ _ => rfl)

theorem vecWrites_binary {c : Fin 128 → Instr} {op : Nat} {g : Rm → BitVec 128 → Nat → Nat → Nat × Exc}
    (hexec : ∀ tile s, exec (c tile) s = runVec tile.val op (fun rm sl => mapBinary (g rm sl) sl) s) :
    VecWrites c op vFmtD (fun rm sl x => List.zipWith (g rm sl) (vecA sl x) (vecB sl x)) :=
  vecWrites_of_stores hexec (fun _ _ _ _ => rfl) (fun _ _ _ _ => rfl)

theorem vecWrites_ternary {c : Fin 128 → Instr} {op : Nat} {g : Rm → BitVec 128 → Nat → Nat → Nat → Nat × Exc}
    (hexec : ∀ tile s, exec (c tile) s = runVec tile.val op (fun rm sl => mapTernary (g rm sl) sl) s) :
    VecWrites c op vFmtD (fun rm sl x =>
      List.zipWith (fun p w => g rm sl p.1 p.2 w) (List.zip (vecA sl x) (vecB sl x)) (vecC sl x)) :=
  vecWrites_of_stores hexec (fun _ _ _ _ => rfl) (fun _ _ _ _ => rfl)

theorem flagsOf_singleton (r : Nat × Exc) : flagsOf [r] = r.2 := Nat.zero_or r.2

/-- A reduction writes its one value. -/
theorem vecWrites_one {c : Fin 128 → Instr} {op : Nat} {fmt : BitVec 128 → Nat} {g : Rm → BitVec 128 → Tile → Nat × Exc}
    (hexec : ∀ tile s, exec (c tile) s = runVec tile.val op (fun rm sl x q => storeOne (fmt sl) sl (g rm sl x) x q) s) :
    VecWrites c op fmt (fun rm sl x => [g rm sl x]) :=
  vecWrites_of_stores hexec (fun _ _ _ _ => rfl) (fun _ _ _ _ => (flagsOf_singleton _).symm)

theorem flagsOf_of_noFlags {rs : List (Nat × Exc)} (h : ∀ r ∈ rs, r.2 = 0) : flagsOf rs = 0 := by
  unfold flagsOf
  induction rs with
  | nil => rfl
  | cons r rs ih =>
    rw [List.foldl_cons, h r (by simp)]
    exact ih fun r hr => h r (by simp [hr])

/-- Selected elements, which raise no flag. -/
def selected (m : Nat) (p : Nat × Nat) : Nat × Exc := (if m = 1 then p.1 else p.2, 0)

theorem flagsOf_selected (ms : List Nat) (ps : List (Nat × Nat)) : flagsOf (List.zipWith selected ms ps) = 0 := by
  refine flagsOf_of_noFlags fun r hr => ?_
  rw [← List.map_uncurry_zip_eq_zipWith] at hr
  obtain ⟨p, -, rfl⟩ := List.mem_map.1 hr
  rfl

/-- The selection of VEC_SEL, as its command runs it. -/
def selVec (sl : BitVec 128) (x : Tile) (q : QBank) : VecResult :=
  { tile := storeElems x (vFmtD sl) (vDst sl) (List.zipWith (fun m p => if m = 1 then p.1 else p.2)
      (readVals x (vSrc3 sl * 64) 1 (vN sl)) (List.zip (vecA sl x) (vecB sl x))), flags := 0, bank := q }

theorem vecWrites_sel : VecWrites .vecSel 0x0C vFmtD (fun _ sl x =>
    List.zipWith selected (readVals x (vSrc3 sl * 64) 1 (vN sl)) (List.zip (vecA sl x) (vecB sl x))) := by
  refine vecWrites_of_stores (f := fun _ => selVec) (fun _ _ => rfl) (fun _ sl x _ => ?_) (fun _ _ _ _ => (flagsOf_selected _ _).symm)
  exact congrArg (storeElems x (vFmtD sl) (vDst sl)) (by rw [List.map_zipWith]; rfl)

/-- The scaling of VEC_SCALEB, as its command runs it. -/
def scalebVec (rm : Rm) (sl : BitVec 128) (x : Tile) (q : QBank) : VecResult :=
  storeResults x q (vFmtD sl) (vDst sl) (List.zipWith (fun a n => (fmtOf (vFmtA sl)).scaleb rm a (sext 32 n))
    (vecA sl x) (readElems x 10 (vSrc2 sl) (vN sl)))

end Sys2Proof.Machine
end

section
set_option Elab.async false
open Sys2Proof Sys2Proof.Machine

/-- Settles O29: each operation stores the results of its element-wise function. -/
theorem vectorArithmeticCompletes : Obligations.VectorArithmeticCompletes := by
  refine ⟨?_, ?_, ?_, ?_, ?_, ?_, ?_, ?_, ?_, ?_, ?_, ?_, ?_, ?_, ?_, ?_⟩
  · exact vecWrites_binary fun _ _ => rfl
  · exact vecWrites_binary fun _ _ => rfl
  · exact vecWrites_binary fun _ _ => rfl
  · exact vecWrites_ternary fun _ _ => rfl
  · exact vecWrites_binary fun _ _ => rfl
  · exact vecWrites_unary fun _ _ => rfl
  · exact vecWrites_binary fun _ _ => rfl
  · exact vecWrites_binary fun _ _ => rfl
  · exact vecWrites_binary fun _ _ => rfl
  · exact vecWrites_binary fun _ _ => rfl
  · exact vecWrites_sel
  · exact vecWrites_unary fun _ _ => rfl
  · exact vecWrites_unary fun _ _ => rfl
  · exact vecWrites_binary fun _ _ => rfl
  · exact vecWrites_unary fun _ _ => rfl
  · exact vecWrites_of_stores (f := scalebVec) (fun _ _ => rfl) (fun _ _ _ _ => rfl) (fun _ _ _ _ => rfl)

/-- Settles O30: each operation stores the transcendental values of its elements. -/
theorem vectorTranscendentalsComplete : Obligations.VectorTranscendentalsComplete := by
  refine ⟨?_, ?_, ?_, ?_, ?_, ?_, ?_, ?_⟩
  · exact vecWrites_unary fun _ _ => rfl
  · exact vecWrites_unary fun _ _ => rfl
  · exact vecWrites_unary fun _ _ => rfl
  · exact vecWrites_unary fun _ _ => rfl
  · exact vecWrites_unary fun _ _ => rfl
  · exact vecWrites_unary fun _ _ => rfl
  · exact vecWrites_unary fun _ _ => rfl
  · exact vecWrites_unary fun _ _ => rfl

end

section
set_option Elab.async false
/-! SUPPORT. The integer operations on 32-bit patterns (R99). -/

namespace Sys2Proof.Machine

/-- Its value on patterns below 2^32 is that of `f` on words. -/
def OnWords (g : Nat → Nat → Nat) (f : W32 → W32 → W32) : Prop :=
  ∀ a b, a < 2 ^ 32 → b < 2 ^ 32 → g a b % 2 ^ 32 = (f (BitVec.ofNat 32 a) (BitVec.ofNat 32 b)).toNat

theorem onWords_add : OnWords (fun a b => a + b) (fun a b => a + b) := by
  intro a b ha hb
  simp [BitVec.toNat_add]

theorem onWords_sub : OnWords (fun a b => a + (2 ^ 32 - b)) (fun a b => a - b) := by
  intro a b ha hb
  rw [BitVec.toNat_sub, BitVec.toNat_ofNat, BitVec.toNat_ofNat, Nat.mod_eq_of_lt ha, Nat.mod_eq_of_lt hb, Nat.add_comm]

theorem onWords_mul : OnWords (fun a b => a * b) (fun a b => a * b) := by
  intro a b ha hb
  simp [BitVec.toNat_mul]

theorem onWords_and : OnWords (fun a b => a &&& b) (fun a b => a &&& b) := by
  intro a b ha hb
  rw [BitVec.toNat_and, BitVec.toNat_ofNat, BitVec.toNat_ofNat, Nat.mod_eq_of_lt ha, Nat.mod_eq_of_lt hb]
  exact Nat.mod_eq_of_lt (Nat.and_lt_two_pow _ hb)

theorem onWords_or : OnWords (fun a b => a ||| b) (fun a b => a ||| b) := by
  intro a b ha hb
  rw [BitVec.toNat_or, BitVec.toNat_ofNat, BitVec.toNat_ofNat, Nat.mod_eq_of_lt ha, Nat.mod_eq_of_lt hb]
  exact Nat.mod_eq_of_lt (Nat.or_lt_two_pow ha hb)

theorem onWords_xor : OnWords (fun a b => a ^^^ b) (fun a b => a ^^^ b) := by
  intro a b ha hb
  rw [BitVec.toNat_xor, BitVec.toNat_ofNat, BitVec.toNat_ofNat, Nat.mod_eq_of_lt ha, Nat.mod_eq_of_lt hb]
  exact Nat.mod_eq_of_lt (Nat.xor_lt_two_pow ha hb)

theorem onWords_shl : OnWords (fun a b => a * 2 ^ (b % 32)) (fun a b => a <<< (b.toNat % 32)) := by
  intro a b ha hb
  simp [BitVec.toNat_shiftLeft, Nat.shiftLeft_eq]

theorem sext_eq_toInt {v : Nat} (h : v < 2 ^ 32) : sext 32 v = (BitVec.ofNat 32 v).toInt := by
  rw [BitVec.toInt_eq_toNat_cond, BitVec.toNat_ofNat, Nat.mod_eq_of_lt h, sext]
  split <;> split <;> omega

theorem onWords_shr :
    OnWords (fun a b => (sext 32 a / 2 ^ (b % 32) % 2 ^ 32).toNat) (fun a b => a.sshiftRight (b.toNat % 32)) := by
  intro a b ha hb
  have hword : ∀ x : W32, x.toNat = (x.toInt % 2 ^ 32).toNat := by
    intro x
    have hx := x.isLt
    rw [BitVec.toInt_eq_toNat_cond]
    split <;> omega
  dsimp only
  rw [hword, BitVec.toInt_sshiftRight, BitVec.toNat_ofNat, Nat.mod_eq_of_lt hb, sext_eq_toInt ha, Int.shiftRight_eq_div_pow]
  push_cast
  generalize (BitVec.ofNat 32 a).toInt / 2 ^ (b % 32) = y
  omega

/-- A started integer operation writes the values of its word function, raises no flag and writes nothing else. -/
theorem runVec_mapInt {g : Nat → Nat → Nat} {f : W32 → W32 → W32} (hg : OnWords g f) {op : Nat} {c : Fin 128 → Instr}
    (hexec : ∀ tile s, exec (c tile) s = runVec tile.val op (fun _ => mapInt g) s) {tile : Fin 128} {q : QEntry} {e : Nat} {j : Job}
    {s : State} (hstart : startedVec tile.val op s = some q) (howner : ownerJob s = some (e, j)) (ha : vFmtA q.slot = 10)
    (hd : vFmtD q.slot = 10) : ∃ t, exec (c tile) s = .next t ∧
      (tileOf tile.val t).vec = some { q with done := true } ∧ (tileOf tile.val t).ieee = (tileOf tile.val s).ieee ∧
      readElems (tileOf tile.val t) 10 (vDst q.slot) (vN q.slot)
        = List.zipWith (fun a b => (f (BitVec.ofNat 32 a) (BitVec.ofNat 32 b)).toNat)
            (vecA q.slot (tileOf tile.val s)) (vecB q.slot (tileOf tile.val s)) ∧
      ∀ a, (a < vDst q.slot * 64 ∨ vDst q.slot * 64 + vN q.slot * 4 ≤ a) →
        Mem.byte zeroByte (tileOf tile.val t).mem a = Mem.byte zeroByte (tileOf tile.val s).mem a := by
  obtain ⟨t, ht, hvec, hread, hieee, -, -, hout⟩ := vecWrites_binary (g := fun _ _ a b => (g a b % 2 ^ 32, 0)) hexec tile q e j s
    hstart howner (by rw [hd]; rfl)
  rw [hd] at hread hout
  have hbytes : elemBits (vFmtA q.slot) % 8 = 0 := by rw [ha]; rfl
  have hlen : ∀ unit_, (readElems (tileOf tile.val s) (vFmtA q.slot) unit_ (vN q.slot)).length = vN q.slot := by
    intro unit_
    rw [readElems_of_bytes _ _ _ hbytes, length_readVals]
  have hlt : ∀ unit_, ∀ v ∈ readElems (tileOf tile.val s) (vFmtA q.slot) unit_ (vN q.slot), v < 2 ^ 32 := by
    intro unit_ v hv
    rw [readElems_of_bytes _ _ _ hbytes, ha] at hv
    exact lt_of_mem_readVals hv
  have hn : (List.zipWith (fun a b => (g a b % 2 ^ 32, (0 : Exc))) (vecA q.slot (tileOf tile.val s))
      (vecB q.slot (tileOf tile.val s))).length = vN q.slot := by
    rw [List.length_zipWith, vecA, vecB, hlen, hlen, Nat.min_self]
  rw [hn] at hread hout
  refine ⟨t, ht, hvec, ?_, hread.trans ?_, hout⟩
  · rw [hieee, flagsOf_of_noFlags]
    · exact BitVec.or_zero
    · intro r hr
      dsimp only at hr
      rw [← List.map_uncurry_zip_eq_zipWith] at hr
      obtain ⟨p, -, rfl⟩ := List.mem_map.1 hr
      rfl
  · apply List.ext_getElem
    · simp
    · intro i h1 h2
      simp only [List.getElem_map, List.getElem_zipWith]
      exact (Nat.mod_mod _ _).trans (hg _ _ (hlt _ _ (List.getElem_mem _)) (hlt _ _ (List.getElem_mem _)))

end Sys2Proof.Machine
end

section
set_option Elab.async false
open Sys2Proof Sys2Proof.Machine

/-- Settles O31: each integer operation stores the values of its word function. -/
theorem vectorIntegersComplete : Obligations.VectorIntegersComplete := by
  intro c op f hmem tile q e j s hstart howner ha hd
  simp only [List.mem_cons, List.not_mem_nil, or_false, Prod.mk.injEq] at hmem
  rcases hmem with ⟨rfl, rfl, rfl⟩ | ⟨rfl, rfl, rfl⟩ | ⟨rfl, rfl, rfl⟩ | ⟨rfl, rfl, rfl⟩ | ⟨rfl, rfl, rfl⟩ | ⟨rfl, rfl, rfl⟩ |
    ⟨rfl, rfl, rfl⟩ | ⟨rfl, rfl, rfl⟩
  · exact runVec_mapInt onWords_add (fun _ _ => rfl) hstart howner ha hd
  · exact runVec_mapInt onWords_sub (fun _ _ => rfl) hstart howner ha hd
  · exact runVec_mapInt onWords_mul (fun _ _ => rfl) hstart howner ha hd
  · exact runVec_mapInt onWords_and (fun _ _ => rfl) hstart howner ha hd
  · exact runVec_mapInt onWords_or (fun _ _ => rfl) hstart howner ha hd
  · exact runVec_mapInt onWords_xor (fun _ _ => rfl) hstart howner ha hd
  · exact runVec_mapInt onWords_shl (fun _ _ => rfl) hstart howner ha hd
  · exact runVec_mapInt onWords_shr (fun _ _ => rfl) hstart howner ha hd

end

section
set_option Elab.async false
/-! SUPPORT. Comparisons, reductions, conversions, splits and sign packing (R62, R99 to R101, R137). -/

namespace Sys2Proof.Machine

theorem draining_congr {s t : State} (h : t.tensor = s.tensor) : draining t = draining s := by
  unfold draining ownerJob jobOf
  rw [h]

theorem startedVec_congr {s t : State} (h : t.tensor = s.tensor) (n op : Nat) : startedVec n op t = startedVec n op s := by
  unfold startedVec
  rw [draining_congr h, tileOf_congr (congrArg Tensor.tiles h) n]

theorem ownerJob_congr {s t : State} (h : t.tensor = s.tensor) : ownerJob t = ownerJob s := by
  unfold ownerJob jobOf
  rw [h]

theorem bankOf_congr {s t : State} (h : t.tensor = s.tensor) (n : Nat) : bankOf n t = bankOf n s := by
  unfold bankOf
  rw [h]

/-- One byte for each value below 256. -/
theorem readVals_bytes (x : Tile) (a : Nat) (vs : List Nat) :
    readVals (tileWrite x a (vs.map (BitVec.ofNat 8))) a 1 vs.length = vs.map (fun v => v % 256) := by
  have hbytes : vs.map (BitVec.ofNat 8) = vs.flatMap (leBytes 1) := by
    induction vs with
    | nil => rfl
    | cons v vs ih => rw [List.map_cons, List.flatMap_cons, ih]; rfl
  rw [hbytes, readVals_tileWrite, Nat.pow_one]

theorem readVals_congr {x y : Tile} (h : x.mem = y.mem) (a w n : Nat) : readVals x a w n = readVals y a w n := by
  unfold readVals tileRead
  rw [h]

theorem readVals_ranVec (t : Nat) (e : QEntry) (r : VecResult) (s : State) (a w n : Nat) :
    readVals (tileOf t (ranVec t e r s)) a w n = readVals r.tile a w n :=
  readVals_congr (by rw [tileOf_ranVec]; rfl) a w n

theorem vec_ranVec (t : Nat) (e : QEntry) (r : VecResult) (s : State) :
    (tileOf t (ranVec t e r s)).vec = some { e with done := true } := by
  rw [tileOf_ranVec]

theorem length_zipWith_vec (f : Nat → Nat → Nat) {sl : BitVec 128} (x : Tile) (h : elemBits (vFmtA sl) % 8 = 0) :
    (List.zipWith f (vecA sl x) (vecB sl x)).length = vN sl := by
  rw [List.length_zipWith, vecA, vecB, readElems_of_bytes _ _ _ h, readElems_of_bytes _ _ _ h, length_readVals, length_readVals,
    Nat.min_self]

/-- A mark of one element of a comparison is 1 or 0. -/
theorem b2n_lt (b : Bool) : b2n b < 256 := by
  cases b <;> decide

/-- VEC_CMP as its command runs it. -/
def cmpVec (sl : BitVec 128) (x : Tile) (q : QBank) : VecResult :=
  { tile := tileWrite x (vDst sl * 64) ((List.zipWith (fun a b =>
      (b2n ((fmtOf (vFmtA sl)).cmp (vSub sl % 16) (bit (vSub sl) 4) a b).1,
        ((fmtOf (vFmtA sl)).cmp (vSub sl % 16) (bit (vSub sl) 4) a b).2))
      (vecA sl x) (vecB sl x)).map (fun r => BitVec.ofNat 8 r.1))
    flags := flagsOf (List.zipWith (fun a b =>
      (b2n ((fmtOf (vFmtA sl)).cmp (vSub sl % 16) (bit (vSub sl) 4) a b).1,
        ((fmtOf (vFmtA sl)).cmp (vSub sl % 16) (bit (vSub sl) 4) a b).2)) (vecA sl x) (vecB sl x))
    bank := q }

theorem readVals_cmpVec {sl : BitVec 128} (x : Tile) (q : QBank) (h : elemBits (vFmtA sl) % 8 = 0) :
    readVals (cmpVec sl x q).tile (vDst sl * 64) 1 (vN sl) = List.zipWith (fun a b =>
      b2n ((fmtOf (vFmtA sl)).cmp (vSub sl % 16) (bit (vSub sl) 4) a b).1) (vecA sl x) (vecB sl x) := by
  unfold cmpVec
  generalize hm : List.zipWith (fun a b => b2n ((fmtOf (vFmtA sl)).cmp (vSub sl % 16) (bit (vSub sl) 4) a b).1)
    (vecA sl x) (vecB sl x) = marks
  have hlen : marks.length = vN sl := by rw [← hm, length_zipWith_vec _ x h]
  have hsmall : marks.map (fun v => v % 256) = marks := by
    refine List.map_congr_left (g := id) (fun v hv => ?_) |>.trans (List.map_id _)
    rw [← hm, ← List.map_uncurry_zip_eq_zipWith] at hv
    obtain ⟨p, -, rfl⟩ := List.mem_map.1 hv
    exact Nat.mod_eq_of_lt (b2n_lt _)
  have hread := readVals_bytes x (vDst sl * 64) marks
  rw [hlen, hsmall] at hread
  rw [← hread, ← hm]
  dsimp only
  rw [List.map_zipWith, List.map_zipWith]

theorem execVecCmp_compares {tile : Fin 128} {q : QEntry} {e : Nat} {j : Job} {s : State}
    (hstart : startedVec tile.val 0x0B s = some q) (howner : ownerJob s = some (e, j)) (hbytes : elemBits (vFmtA q.slot) % 8 = 0) :
    ∃ t, execVecCmp tile s = .next t ∧ (tileOf tile.val t).vec = some { q with done := true } ∧
      readVals (tileOf tile.val t) (vDst q.slot * 64) 1 (vN q.slot)
        = List.zipWith (fun a b => b2n ((fmtOf (vFmtA q.slot)).cmp (vSub q.slot % 16) (bit (vSub q.slot) 4) a b).1)
            (vecA q.slot (tileOf tile.val s)) (vecB q.slot (tileOf tile.val s)) := by
  refine ⟨_, runVec_of_started (f := fun _ => cmpVec) hstart howner, ?_⟩
  exact ⟨vec_ranVec _ _ _ _, (readVals_ranVec _ _ _ _ _ _ _).trans (readVals_cmpVec _ _ hbytes)⟩

/-- Values stored as BF16 patterns at a unit. -/
theorem readVals_storeBf16 (x : Tile) (unit_ : Nat) (src : List Nat) (f : Nat → Nat) :
    readVals (storeElems x 0 unit_ (src.map f)) (unit_ * 64) 2 src.length = src.map (fun v => f v % 65536) := by
  have hread := readVals_tileWrite x (unit_ * 64) 2 (src.map f)
  rw [List.length_map, List.map_map] at hread
  exact hread

theorem readVals_storeBf16_out (x : Tile) (unit_ b : Nat) (src : List Nat) (f : Nat → Nat)
    (h : ∀ i < src.length * 2, ∀ k < src.length * 2, b + i ≠ unit_ * 64 + k) :
    readVals (storeElems x 0 unit_ (src.map f)) b 2 src.length = readVals x b 2 src.length := by
  refine readVals_tileWrite_out x (unit_ * 64) b 2 src.length ((src.map f).flatMap (leBytes 2)) fun i hi => ?_
  rw [length_flatMap_leBytes, List.length_map]
  by_contra hin
  exact h i hi (b + i - unit_ * 64) (by omega) (by omega)

/-- The FP32 source of a split. -/
def splitSrc (sl : BitVec 128) (x : Tile) : List Nat := readVals x (vSrc1 sl * 64) 4 (vN sl)

theorem readElems_eq_splitSrc (sl : BitVec 128) (x : Tile) : readElems x 8 (vSrc1 sl) (vN sl) = splitSrc sl x :=
  readElems_of_bytes x _ _ rfl

@[simp] theorem length_splitSrc (sl : BitVec 128) (x : Tile) : (splitSrc sl x).length = vN sl := length_readVals _ _ _ _

/-- The tile that a split into two pieces leaves, and the one that a split into three leaves. -/
def split2Tile (sl : BitVec 128) (x : Tile) : Tile :=
  storeElems (storeElems x 0 (vDst sl) ((splitSrc sl x).map fun v => (split3 v).1)) 0 (vSrc2 sl)
    ((splitSrc sl x).map fun v => (split3 v).2.1)

def split3Tile (sl : BitVec 128) (x : Tile) : Tile :=
  storeElems (split2Tile sl x) 0 (vSrc3 sl) ((splitSrc sl x).map fun v => (split3 v).2.2)

theorem execVecSplit2_eq (tile : Fin 128) (s : State) : execVecSplit2 tile s = runVec tile.val 0x13 (fun _ sl x q =>
    { tile := split2Tile sl x, flags := (splitSrc sl x).foldl (fun e v => Exc.or e (splitFlags v)) 0, bank := q }) s := by
  unfold execVecSplit2 split2Tile
  simp only [readElems_eq_splitSrc]

theorem execVecSplit3_eq (tile : Fin 128) (s : State) : execVecSplit3 tile s = runVec tile.val 0x14 (fun _ sl x q =>
    { tile := split3Tile sl x, flags := (splitSrc sl x).foldl (fun e v => Exc.or e (splitFlags v)) 0, bank := q }) s := by
  unfold execVecSplit3 split3Tile split2Tile
  simp only [readElems_eq_splitSrc]

theorem readVals_split2Tile_hi {sl : BitVec 128} (x : Tile)
    (hapart : ∀ i < vN sl * 2, ∀ k < vN sl * 2, vDst sl * 64 + i ≠ vSrc2 sl * 64 + k) :
    readVals (split2Tile sl x) (vDst sl * 64) 2 (vN sl) = (splitSrc sl x).map (fun v => (split3 v).1 % 65536) := by
  have hread := readVals_storeBf16 x (vDst sl) (splitSrc sl x) (fun v => (split3 v).1)
  have hout := readVals_storeBf16_out (storeElems x 0 (vDst sl) ((splitSrc sl x).map fun v => (split3 v).1)) (vSrc2 sl)
    (vDst sl * 64) (splitSrc sl x) (fun v => (split3 v).2.1)
  rw [length_splitSrc] at hread hout
  exact (hout hapart).trans hread

theorem readVals_split2Tile_lo (sl : BitVec 128) (x : Tile) :
    readVals (split2Tile sl x) (vSrc2 sl * 64) 2 (vN sl) = (splitSrc sl x).map (fun v => (split3 v).2.1 % 65536) := by
  have hread := readVals_storeBf16 (storeElems x 0 (vDst sl) ((splitSrc sl x).map fun v => (split3 v).1)) (vSrc2 sl)
    (splitSrc sl x) (fun v => (split3 v).2.1)
  rw [length_splitSrc] at hread
  exact hread

theorem readVals_split3Tile (sl : BitVec 128) (x : Tile) :
    readVals (split3Tile sl x) (vSrc3 sl * 64) 2 (vN sl) = (splitSrc sl x).map (fun v => (split3 v).2.2 % 65536) := by
  have hread := readVals_storeBf16 (split2Tile sl x) (vSrc3 sl) (splitSrc sl x) (fun v => (split3 v).2.2)
  rw [length_splitSrc] at hread
  exact hread

/-- The chunk of eight that starts at a multiple of eight. -/
theorem chunksOf_getElem? {α : Type} {n : Nat} (hn : 0 < n) (xs : List α) (k i : Nat) (hk : xs.length ≤ k)
    (hi : n * i < xs.length) : (chunksOf n k xs)[i]? = some ((xs.drop (n * i)).take n) := by
  induction i generalizing xs k with
  | zero =>
    cases k with
    | zero => omega
    | succ k =>
      have hne : xs.isEmpty = false := by
        cases xs
        · simp at hi
        · rfl
      simp [chunksOf, hne]
  | succ i ih =>
    cases k with
    | zero => omega
    | succ k =>
      have hne : xs.isEmpty = false := by
        cases xs
        · simp at hi
        · rfl
      have hstep : n * (i + 1) = n + n * i := by ring
      simp only [chunksOf, hne, Bool.false_eq_true, if_false, List.getElem?_cons_succ]
      rw [ih (xs.drop n) k (by simp; omega) (by simp; omega), List.drop_drop, hstep]

theorem byte_packBits (bs : List Bool) (i : Nat) (h8 : i % 8 = 0) (hi : i + 8 ≤ bs.length) :
    (packBits bs)[i / 8]? = some (BitVec.ofNat 8 (((List.range 8).map (fun k => b2n (bs.getD (i + k) false) * 2 ^ k)).sum)) := by
  have hmul : 8 * (i / 8) = i := by omega
  have hchunk := chunksOf_getElem? (n := 8) (by decide) bs bs.length (i / 8) (le_refl _) (by omega)
  rw [hmul] at hchunk
  unfold packBits
  rw [List.getElem?_map, hchunk]
  have htake : (bs.drop i).take 8 = (List.range 8).map (fun k => bs.getD (i + k) false) := by
    apply List.ext_getElem
    · simp
      omega
    · intro k h1 h2
      have hk : k < 8 := by simpa using h2
      simp [List.getD, List.getElem?_eq_getElem (show i + k < bs.length by omega)]
  rw [htake]
  simp [List.range_succ]
  congr 1
  ring

/-- VEC_SIGNPACK as its command runs it. -/
def signpackVec (sl : BitVec 128) (x : Tile) (q : QBank) : VecResult :=
  { tile := tileWrite x (vDst sl * 64) (packBits ((splitSrc sl x).map (fun a => (f32.cmp 2 false a 0).1)))
    flags := ((splitSrc sl x).map (fun a => f32.cmp 2 false a 0)).foldl (fun e r => Exc.or e r.2) 0, bank := q }

theorem execVecSignpack_eq (tile : Fin 128) (s : State) :
    execVecSignpack tile s = runVec tile.val 0x24 (fun _ => signpackVec) s := by
  unfold execVecSignpack signpackVec
  simp only [readElems_eq_splitSrc, List.map_map]
  rfl

theorem byte_signpackVec (sl : BitVec 128) (x : Tile) (q : QBank) (i : Nat) (h8 : i % 8 = 0) (hi : i + 8 ≤ vN sl) :
    Mem.byte zeroByte (signpackVec sl x q).tile.mem (vDst sl * 64 + i / 8) = BitVec.ofNat 8 (((List.range 8).map (fun k =>
      b2n (f32.cmp 2 false ((splitSrc sl x).getD (i + k) 0) 0).1 * 2 ^ k)).sum) := by
  have hbyte := byte_packBits ((splitSrc sl x).map (fun a => (f32.cmp 2 false a 0).1)) i h8 (by simpa using hi)
  obtain ⟨hlt, hget⟩ := List.getElem?_eq_some_iff.1 hbyte
  refine (Mem.byte_write_in zeroByte x.mem (vDst sl * 64) (i / 8) _ hlt).trans (hget.trans ?_)
  refine congrArg (fun l : List Nat => BitVec.ofNat 8 l.sum) (List.map_congr_left fun k hk => ?_)
  have hk8 : k < 8 := List.mem_range.1 hk
  have hin : i + k < (splitSrc sl x).length := by
    rw [length_splitSrc]
    omega
  simp [List.getD, List.getElem?_eq_getElem hin]

theorem execVecOpComplete_completes {tile : Fin 128} {q : QEntry} {s : State} (hdrain : draining s = true)
    (hvec : (tileOf tile.val s).vec = some q) (hdone : q.done = true) : ∃ t, execVecOpComplete tile s = .next t ∧
      (tileOf tile.val t).vec = none ∧ (tileOf tile.val t).mem = (tileOf tile.val s).mem := by
  have hfinish : finishTaken tile.val .vec (fun q => q.done) s =
      completeEntry tile.val q (setTile tile.val { tileOf tile.val s with vec := none } s) := by
    simp [finishTaken, hvec, hdone]
  obtain ⟨i, k, htile⟩ := tileOf_completeEntry tile.val q (setTile tile.val { tileOf tile.val s with vec := none } s)
  refine ⟨_, if_neg (by simp [hdrain]), ?_⟩
  rw [hfinish, htile, tileOf_setTile]
  exact ⟨rfl, rfl⟩

/-- Writes that follow one another reach tile memory only. -/
theorem foldl_tile {α : Type} {f : Tile → α → Tile} (hf : ∀ x a, ∃ m, f x a = { x with mem := m }) (as : List α) (x : Tile) :
    ∃ m, as.foldl f x = { x with mem := m } := by
  induction as generalizing x with
  | nil => exact ⟨x.mem, rfl⟩
  | cons a as ih =>
    obtain ⟨m1, h1⟩ := hf x a
    obtain ⟨m2, h2⟩ := ih (f x a)
    exact ⟨m2, by rw [List.foldl_cons, h2, h1]⟩

theorem cvtIntoMx_tile (sl : BitVec 128) (x : Tile) (q : QBank) : ∃ m, (cvtIntoMx sl x q).tile = { x with mem := m } := by
  unfold cvtIntoMx
  extract_lets fmt mxe rule src blocks y
  refine foldl_tile (fun acc p => ?_) blocks x
  extract_lets o y1 y2
  by_cases hscale : (rule != 2 || o.scale == 255) = true <;> by_cases hmxe : mxe = true <;>
    exact ⟨_, by simp only [y2, hscale, hmxe, if_true]; rfl⟩

/-- A conversion writes tile memory and nothing else of the tile. -/
theorem cvtAny_tile (rm : Rm) (sl : BitVec 128) (x : Tile) (q : QBank) : ∃ m, (cvtAny rm sl x q).tile = { x with mem := m } := by
  unfold cvtAny
  extract_lets a d src r
  split
  · exact cvtIntoMx_tile sl x q
  · (repeat' split) <;> exact ⟨_, rfl⟩

/-- VEC_CVT runs its conversion; what it counts first changes nothing of the tile. -/
theorem execVecCvt_converts {tile : Fin 128} {q : QEntry} {e : Nat} {j : Job} {s : State}
    (hstart : startedVec tile.val 0x12 s = some q) (howner : ownerJob s = some (e, j)) :
    ∃ x, execVecCvt tile s = .next (ranVec tile.val q
      (cvtAny (rmOf (vRnd q.slot) (jRndDefault j.desc)) q.slot (tileOf tile.val s) (bankOf tile.val s)) x) := by
  unfold execVecCvt
  rw [hstart]
  generalize hx : bump 0 tile.val 8 (cvtOverflows q.slot (tileOf tile.val s)) s = x
  have htensor : x.tensor = s.tensor := by rw [← hx]; simp
  refine ⟨x, ?_⟩
  dsimp only
  rw [hx, runVec_of_started ((startedVec_congr htensor _ _).trans hstart) ((ownerJob_congr htensor).trans howner),
    tileOf_congr (congrArg Tensor.tiles htensor), bankOf_congr htensor]

end Sys2Proof.Machine
end

section
set_option Elab.async false
open Sys2Proof Sys2Proof.Machine

/-- Settles O32: each operation stores its marks, its value, its pieces or its bits. -/
theorem vectorReductionsAndConversionsComplete : Obligations.VectorReductionsAndConversionsComplete := by
  refine ⟨?_, ?_, ?_, ?_, ?_, ?_, ?_, ?_, ?_, ?_⟩
  · intro tile q e j s hstart howner hbytes
    exact execVecCmp_compares hstart howner hbytes
  · exact vecWrites_one fun _ _ => rfl
  · exact vecWrites_one fun _ _ => rfl
  · exact vecWrites_one fun _ _ => rfl
  · exact vecWrites_one fun _ _ => rfl
  · intro tile q e j s hstart howner
    obtain ⟨x, hexec⟩ := execVecCvt_converts hstart howner
    refine ⟨_, hexec, ?_⟩
    rw [tileOf_ranVec]
    obtain ⟨m, hm⟩ := cvtAny_tile (rmOf (vRnd q.slot) (jRndDefault j.desc)) q.slot (tileOf tile.val s) (bankOf tile.val s)
    refine ⟨rfl, rfl, ?_⟩
    simp only [Tile.raiseIeee, hm]
  · intro tile q e j s hstart howner hapart
    refine ⟨_, (execVecSplit2_eq tile s).trans (runVec_of_started hstart howner), ?_⟩
    exact ⟨vec_ranVec _ _ _ _, (readVals_ranVec _ _ _ _ _ _ _).trans (readVals_split2Tile_hi _ hapart),
      (readVals_ranVec _ _ _ _ _ _ _).trans (readVals_split2Tile_lo _ _)⟩
  · intro tile q e j s hstart howner
    refine ⟨_, (execVecSplit3_eq tile s).trans (runVec_of_started hstart howner), ?_⟩
    exact ⟨vec_ranVec _ _ _ _, (readVals_ranVec _ _ _ _ _ _ _).trans (readVals_split3Tile _ _)⟩
  · intro tile q e j s hstart howner
    refine ⟨_, (execVecSignpack_eq tile s).trans (runVec_of_started hstart howner), ?_⟩
    rw [tileOf_ranVec]
    exact ⟨rfl, fun i _ h8 hi => byte_signpackVec q.slot (tileOf tile.val s) (bankOf tile.val s) i h8 hi⟩
  · intro tile q s hdrain hvec hdone
    exact execVecOpComplete_completes hdrain hvec hdone

end

section
set_option Elab.async false
/-! SUPPORT. SYNC and LOOP slots, and going on with the present word (R142 to R149). -/

namespace Sys2Proof.Machine

/-- The registers, flags and memory of a tile, which going on with a word does not change. -/
structure Tile.SameData (x y : Tile) : Prop where
  ctrs : y.ctrs = x.ctrs
  cmps : y.cmps = x.cmps
  flags : y.flags = x.flags
  mem : y.mem = x.mem

theorem pruneBuf_eq (x : Tile) : ∃ b, pruneBuf x = { x with buf := b } := ⟨_, rfl⟩

theorem refetchLong_eq (x : Tile) (rp : Nat) : ∃ b, refetchLong x rp = { x with buf := b } := by
  unfold refetchLong
  split
  · exact ⟨[], rfl⟩
  · exact ⟨x.buf, rfl⟩

/-- A finished word: the read pointer and the loops have moved. -/
theorem advanceWord_eq (x : Tile) (w : CurWord) : ∃ b, advanceWord x w = { x with
    loops := (iterateLoops x.loops (w.skipTo.getD (w.addr + 8 * w.units))).1
    rp := (iterateLoops x.loops (w.skipTo.getD (w.addr + 8 * w.units))).2, cur := none, wpPassed := false, buf := b } := by
  unfold advanceWord
  extract_lets rp p
  obtain ⟨b1, h1⟩ := refetchLong_eq { x with loops := p.1, rp := p.2, cur := none, wpPassed := false } rp
  obtain ⟨b2, h2⟩ := pruneBuf_eq { x with loops := p.1, rp := p.2, cur := none, wpPassed := false, buf := b1 }
  exact ⟨b2, by rw [h1, h2]⟩

theorem continueWord_sameData (t : Nat) (s : State) : (tileOf t s).SameData (tileOf t (continueWord t s)) := by
  unfold continueWord
  extract_lets x
  split
  · exact ⟨rfl, rfl, rfl, rfl⟩
  next w _ =>
    split
    · exact ⟨rfl, rfl, rfl, rfl⟩
    · split
      · rw [tileOf_setTile]
        exact ⟨rfl, rfl, rfl, rfl⟩
      · extract_lets s1
        have h1 : ∃ i, tileOf t s1 = { x with incs := i } := by
          unfold s1
          split
          · exact tileOf_raiseSigs t _ s
          · exact ⟨x.incs, rfl⟩
        obtain ⟨i, hi⟩ := h1
        obtain ⟨b, hb⟩ := advanceWord_eq { x with incs := i } w
        rw [tileOf_modTile, hi, hb]
        exact ⟨rfl, rfl, rfl, rfl⟩

/-- A SYNC slot that takes effect at once leaves the registers as `f` gives them. -/
theorem runSync_sameData (t : Nat) (sl : BitVec 128) (f : Tile → Tile) (s : State) :
    (f (clearSync (tileOf t s))).SameData (tileOf t (runSync t sl f s)) := by
  unfold runSync
  obtain ⟨i, hi⟩ := tileOf_raiseSigs t ((sSig sl).toList.map (fun g => (g, 1))) (modTile t (fun x => f (clearSync x)) s)
  rw [tileOf_modTile] at hi
  obtain ⟨hctrs, hcmps, hflags, hmem⟩ := continueWord_sameData t
    (raiseSigs t ((sSig sl).toList.map (fun g => (g, 1))) (modTile t (fun x => f (clearSync x)) s))
  rw [hi] at hctrs hcmps hflags hmem
  exact ⟨hctrs, hcmps, hflags, hmem⟩

theorem execSetctr_of_pending {tile : Fin 128} {sl : BitVec 128} {s : State} (h : pendingSync tile.val 1 s = some sl) :
    ∃ t, execSetctr tile s = .next t ∧ Tbl.look (tileOf tile.val t).ctrs (sBits sl 103 101) = some (sBits sl 100 85) := by
  unfold execSetctr
  rw [h]
  refine ⟨_, rfl, ?_⟩
  rw [(runSync_sameData _ _ _ _).ctrs]
  exact Tbl.look_put_self _ _ _

theorem execAddctr_of_pending {tile : Fin 128} {sl : BitVec 128} {s : State} (h : pendingSync tile.val 2 s = some sl) :
    ∃ t, execAddctr tile s = .next t ∧ Tbl.look (tileOf tile.val t).ctrs (sBits sl 103 101)
      = some ((Tbl.lookD (tileOf tile.val s).ctrs (sBits sl 103 101) 0 + sBits sl 100 85) % 65536) := by
  unfold execAddctr
  rw [h]
  refine ⟨_, rfl, ?_⟩
  rw [(runSync_sameData _ _ _ _).ctrs]
  exact Tbl.look_upd_self (tileOf tile.val s).ctrs _ _ (fun v => (v + sBits sl 100 85) % 2 ^ 16)

theorem execCmpset_of_pending {tile : Fin 128} {sl : BitVec 128} {s : State} (h : pendingSync tile.val 3 s = some sl) :
    ∃ t, execCmpset tile s = .next t ∧ Tbl.look (tileOf tile.val t).cmps (sBits sl 103 101)
      = some { ctr := sBits sl 100 98, src := bit sl.toNat 97, rel := sBits sl 96 95, const := sBits sl 94 79 } := by
  unfold execCmpset
  rw [h]
  refine ⟨_, rfl, ?_⟩
  rw [(runSync_sameData _ _ _ _).cmps]
  exact Tbl.look_put_self _ _ _

theorem execFlaginit_of_pending {tile : Fin 128} {sl : BitVec 128} {s : State} (h : pendingSync tile.val 8 s = some sl) :
    ∃ t, execFlaginit tile s = .next t ∧ (tileOf tile.val t).flag (sBits sl 103 98) = sBits sl 97 90 := by
  unfold execFlaginit
  rw [h]
  refine ⟨_, rfl, ?_⟩
  unfold Tile.flag
  rw [(runSync_sameData _ _ _ _).flags]
  exact Tbl.lookD_put_self _ _ _ _

/-- A SYNC slot that drains holds the dispatcher, on a tile that `f` gives. -/
theorem runDrain_holds (t : Nat) (sl : BitVec 128) (k : DrainKind) (f : Tile → Tile) (s : State) :
    (tileOf t (runDrain t sl k f s)).hold = .drain k ∧
    (tileOf t (runDrain t sl k f s)).left = (f (clearSync (tileOf t s))).left ∧
    (tileOf t (runDrain t sl k f s)).nextPhase = (f (clearSync (tileOf t s))).nextPhase := by
  unfold runDrain
  rw [tileOf_modTile]
  exact ⟨rfl, rfl, rfl⟩

theorem execFence_of_pending {tile : Fin 128} {sl : BitVec 128} {s : State} (h : pendingSync tile.val 4 s = some sl) :
    execFence tile s = .next (runDrain tile.val sl .fence id s) := by
  unfold execFence
  rw [h]

theorem execStepSlot_of_pending {tile : Fin 128} {sl : BitVec 128} {s : State} (h : pendingSync tile.val 5 s = some sl) :
    execStepSlot tile s = .next (runDrain tile.val sl .step id s) := by
  unfold execStepSlot
  rw [h]

theorem execPhaseSlot_of_pending {tile : Fin 128} {sl : BitVec 128} {s : State} (h : pendingSync tile.val 6 s = some sl) :
    execPhaseSlot tile s =
      .next (runDrain tile.val sl .phase (fun x => { x with left := true, nextPhase := some (sBits sl 103 96) }) s) := by
  unfold execPhaseSlot
  rw [h]

theorem execEndSlot_of_pending {tile : Fin 128} {sl : BitVec 128} {s : State} (h : pendingSync tile.val 7 s = some sl) :
    execEndSlot tile s = .next (runDrain tile.val sl .ending (fun x => { x with left := true, nextPhase := none }) s) := by
  unfold execEndSlot
  rw [h]

/-- At a read pointer that is not a body end, the loops stay. -/
theorem iterateLoops_cons {l : LoopState} {rest : List LoopState} {rp : Nat} (h : rp ≠ l.stop) :
    iterateLoops (l :: rest) rp = (l :: rest, rp) := by
  simp [iterateLoops, h]

/-- Going on with a word whose end is not the body end of the innermost loop leaves that loop. -/
theorem continueWord_loop {t : Nat} {s : State} {w : CurWord} {l : LoopState} {rest : List LoopState}
    (hcur : (tileOf t s).cur = some w) (hloops : (tileOf t s).loops = l :: rest) (hskip : w.skipTo = none)
    (hstop : w.addr + 8 * w.units ≠ l.stop) : (tileOf t (continueWord t s)).loops = l :: rest := by
  unfold continueWord
  extract_lets x
  have hx : x.cur = some w := hcur
  rw [hx]
  dsimp only
  split
  · exact hloops
  · split
    · rw [tileOf_setTile]
      exact hloops
    · have h1 : ∀ c : Bool, ∃ i, tileOf t (if c then raiseSigs t (hSigs w.hdr) s else s) = { x with incs := i } := by
        intro c
        cases c
        · exact ⟨x.incs, rfl⟩
        · exact tileOf_raiseSigs t _ s
      obtain ⟨i, hi⟩ := h1 (!w.hasEngine && w.waited)
      obtain ⟨b, hb⟩ := advanceWord_eq { x with incs := i } w
      rw [tileOf_modTile, hi, hb]
      change (iterateLoops x.loops _).1 = _
      rw [hskip, show x.loops = l :: rest from hloops]
      exact congrArg Prod.fst (iterateLoops_cons hstop)

theorem execLoopBegin_begins {tile : Fin 128} {w : CurWord} {sl : BitVec 128} {s : State} (hrun : running s = true)
    (hhold : (tileOf tile.val s).hold = .none) (hcur : (tileOf tile.val s).cur = some w) (hloop : w.loop = some sl)
    (hsync : w.sync = none) (hskip : w.skipTo = none) (hpred : predRuns (tileOf tile.val s) sl = some true) (hbody : 0 < lBody sl)
    (hcount : (if lSrc sl then lCount sl else Tbl.lookD (tileOf tile.val s).ctrs (lCtr sl) 0) ≠ 0) :
    ∃ t, execLoopBegin tile s = .next t ∧ (tileOf tile.val t).loops.head? =
      some (loopOf sl (if lSrc sl then lCount sl else Tbl.lookD (tileOf tile.val s).ctrs (lCtr sl) 0) (w.addr + 8 * w.units)) := by
  unfold execLoopBegin
  extract_lets t x
  rw [if_neg (by simp [hrun, x, t, hhold]), show x.cur = some w from hcur]
  dsimp -zeta only
  rw [hloop]
  dsimp -zeta only
  have hruns : predRuns x sl = some true := hpred
  rw [if_neg (by simp [hsync]), if_neg (by simp [hruns])]
  extract_lets +onlyGivenNames runs start ctrs count x1 s1
  have hn : count = if lSrc sl then lCount sl else Tbl.lookD (tileOf tile.val s).ctrs (lCtr sl) 0 := by
    unfold count ctrs runs
    rw [hruns]
    cases lSrc sl
    · rfl
    · exact Tbl.lookD_put_self _ _ _ _
  rw [← hn] at hcount ⊢
  have hx1 : x1 = { x with ctrs := ctrs, cur := some { w with loop := none }, loops := loopOf sl count start :: x.loops } :=
    if_neg hcount
  obtain ⟨i, hi⟩ := tileOf_raiseSigs t ((sSig sl).toList.map (fun g => (g, 1))) (setTile t x1 s)
  rw [tileOf_setTile] at hi
  refine ⟨_, rfl, ?_⟩
  have hends : w.addr + 8 * w.units ≠ (loopOf sl count start).stop := by
    change start ≠ start + 8 * lBody sl
    omega
  have hloops := continueWord_loop (t := t) (s := s1) (w := { w with loop := none }) (l := loopOf sl count start)
    (rest := x.loops) ((congrArg Tile.cur hi).trans (congrArg Tile.cur hx1))
    ((congrArg Tile.loops hi).trans (congrArg Tile.loops hx1)) hskip hends
  exact congrArg List.head? hloops

end Sys2Proof.Machine
end

section
set_option Elab.async false
open Sys2Proof Sys2Proof.Machine

/-- Settles O34: SYNC slots write their register or start their drain, and a BEGIN makes its loop the innermost. -/
theorem syncSlotsComplete : Obligations.SyncSlotsComplete := by
  refine ⟨?_, ?_, ?_, ?_, ?_, ?_, ?_, ?_, ?_⟩
  · intro tile sl s h
    exact execSetctr_of_pending h
  · intro tile sl s h
    exact execAddctr_of_pending h
  · intro tile sl s h
    exact execCmpset_of_pending h
  · intro tile sl s h
    obtain ⟨hhold, hleft, -⟩ := runDrain_holds tile.val sl .fence id s
    exact ⟨_, execFence_of_pending h, hhold, hleft⟩
  · intro tile sl s h
    obtain ⟨hhold, hleft, -⟩ := runDrain_holds tile.val sl .step id s
    exact ⟨_, execStepSlot_of_pending h, hhold, hleft⟩
  · intro tile sl s h
    exact ⟨_, execPhaseSlot_of_pending h, runDrain_holds tile.val sl .phase _ s⟩
  · intro tile sl s h
    exact ⟨_, execEndSlot_of_pending h, runDrain_holds tile.val sl .ending _ s⟩
  · intro tile sl s h
    exact execFlaginit_of_pending h
  · intro tile w sl s hrun hhold hcur hloop hsync hskip hpred hbody hcount
    exact execLoopBegin_begins hrun hhold hcur hloop hsync hskip hpred hbody hcount

end

section
set_option Elab.async false
/-! SUPPORT. Fetching, dispatch and the starts of queue entries (R128, R129, R152 to R159, R162). -/

namespace Sys2Proof.Machine

theorem checking_of_running {s : State} (h : running s = true) : checking s = true := by
  unfold running at h
  unfold checking
  cases howner : ownerJob s with
  | none => simp [howner] at h
  | some p =>
    simp only [howner, Bool.and_eq_true, Option.isNone_iff_eq_none] at h
    obtain ⟨⟨hstate, hstop⟩, hheld⟩ := h
    simp [hstate, hstop, hheld]

theorem running_job {s : State} {e : Nat} {j : Job} (howner : ownerJob s = some (e, j)) (h : running s = true) :
    j.state = .running ∧ j.stop = none := by
  simp only [running, howner, Bool.and_eq_true, Option.isNone_iff_eq_none, beq_iff_eq] at h
  exact h.1

theorem draining_of_running {s : State} (h : running s = true) : draining s = true := by
  unfold draining
  cases howner : ownerJob s with
  | none => simp [running, howner] at h
  | some p => simp [(running_job howner h).1]

theorem stopped_of_running {s : State} (h : running s = true) : stopped s = false := by
  unfold stopped
  cases howner : ownerJob s with
  | none => simp [running, howner] at h
  | some p => simp [(running_job howner h).2]

theorem tileOf_hostClear (n : Nat) (w : Bool) (spans : List (Nat × Nat)) (s : State) :
    tileOf n (hostClear w spans s).2 = tileOf n s := rfl

theorem tileOf_readStacked (n a k : Nat) (s : State) : tileOf n (readStacked a k s).2 = tileOf n s :=
  tileOf_congr (by simp) n

/-- A unit that stands in the fetch buffer stays there while units above it are fetched. -/
theorem look_buf_fetchUnits {t k a b : Nat} {v : W64} {s : State} (hlt : b < a) (hbuf : Tbl.look (tileOf t s).buf b = some v) :
    Tbl.look (tileOf t (fetchUnits t k a s)).buf b = some v := by
  induction k generalizing a s with
  | zero => exact hbuf
  | succ k ih =>
    unfold fetchUnits
    dsimp only
    split
    · exact hbuf
    split
    · exact hbuf
    split
    · rw [tileOf_raiseFault]
      exact hbuf
    split
    · exact hbuf
    have hread := tileOf_readStacked t a 8 s
    split
    next heq =>
      rw [heq] at hread
      rw [tileOf_raiseFault, hread]
      exact hbuf
    next bytes s1 heq =>
      rw [heq] at hread
      refine ih (by omega) ?_
      rw [tileOf_modTile, hread]
      exact (Tbl.look_put_ne _ _ (by omega)).trans hbuf

/-- The unit first missing enters the buffer when it can be read. -/
theorem execItineraryFetchReturn_fetches {tile : Fin 128} {n a : Nat} {b : List Byte} {s s1 : State} (hrun : running s = true)
    (hleft : (tileOf tile.val s).left = false) (hroom : (tileOf tile.val s).buf.length < Config.fetchUnits)
    (ha : firstMissing (tileOf tile.val s) (tileOf tile.val s).rp Config.fetchUnits = a)
    (hrange : a + 8 ≤ (tileOf tile.val s).rangeHi) (hsigned : fetchSigned a s = true) (hclear : (hostClear false [(a, 8)] s).1 = true)
    (hread : readStacked a 8 s = (.ok b, s1)) : ∃ t, execItineraryFetchReturn tile (n + 1) s = .next t ∧
      Tbl.look (tileOf tile.val t).buf a = some (BitVec.ofNat 64 (leNat b)) := by
  have htile := tileOf_readStacked tile.val a 8 s
  rw [hread] at htile
  unfold execItineraryFetchReturn
  dsimp only
  rw [if_neg (by simp [hrun]), if_neg (by simp [hleft]), ha, if_neg (by omega)]
  refine ⟨_, rfl, ?_⟩
  unfold fetchUnits
  dsimp only
  rw [if_neg (by omega), if_neg (by omega), if_neg (by simp [hsigned]), if_neg (by simp [hclear]), hread]
  refine look_buf_fetchUnits (by omega) ?_
  rw [tileOf_modTile]
  exact Tbl.look_put_self _ _ _

/-- A queue holds an entry of the word at `a` with header `h`. -/
def Tile.Queued (x : Tile) (eng : Engine) (a : Nat) (h : W64) : Prop := ∃ q ∈ x.queue eng, q.word = a ∧ q.hdr = h

theorem queue_setQueue_self (x : Tile) (eng : Engine) (q : List QEntry) : (x.setQueue eng q).queue eng = q := by
  cases eng <;> rfl

theorem queue_setQueue_ne (x : Tile) {eng other : Engine} (h : other ≠ eng) (q : List QEntry) :
    (x.setQueue eng q).queue other = x.queue other := by
  cases eng <;> cases other <;> simp [Tile.setQueue, Tile.queue] at h ⊢

theorem Tile.Queued.noteHeads {x : Tile} {eng : Engine} {a : Nat} {h : W64} (hq : x.Queued eng a h) (now : Nat) :
    (x.noteHeads now).Queued eng a h := by
  unfold Tile.noteHeads
  generalize engines = es
  induction es generalizing x with
  | nil => exact hq
  | cons e es ih =>
    refine ih ?_
    dsimp only
    split
    next head rest hqueue =>
      split
      · by_cases he : eng = e
        · subst he
          obtain ⟨q, hmem, hword, hhdr⟩ := hq
          unfold Tile.Queued
          rw [queue_setQueue_self]
          rw [hqueue] at hmem
          rcases List.mem_cons.1 hmem with rfl | hrest
          · exact ⟨_, List.mem_cons_self, hword, hhdr⟩
          · exact ⟨q, List.mem_cons_of_mem _ hrest, hword, hhdr⟩
        · unfold Tile.Queued
          rw [queue_setQueue_ne _ he]
          exact hq
      · exact hq
    · exact hq

theorem Tile.Queued.append {x : Tile} {eng : Engine} {a : Nat} {h : W64} (hq : x.Queued eng a h) (e : Engine) (q : QEntry) :
    (x.setQueue e (x.queue e ++ [q])).Queued eng a h := by
  unfold Tile.Queued
  by_cases he : eng = e
  · subst he
    obtain ⟨r, hmem, hr⟩ := hq
    rw [queue_setQueue_self]
    exact ⟨r, List.mem_append_left _ hmem, hr⟩
  · rw [queue_setQueue_ne _ he]
    exact hq

theorem queued_append_self (x : Tile) (e : Engine) (q : QEntry) : (x.setQueue e (x.queue e ++ [q])).Queued e q.word q.hdr := by
  unfold Tile.Queued
  rw [queue_setQueue_self]
  exact ⟨q, List.mem_append_right _ List.mem_cons_self, rfl, rfl⟩

/-- The entry of an engine slot is appended, with the note of the last grid instruction that it may leave. -/
theorem enqueue_cons (h : W64) (addr : Nat) (tracker : Option Nat) (x0 x : Tile) (p : Nat × BitVec 128)
    (rest : List (Nat × BitVec 128)) (hp : p.1 < 4) : ∃ g, enqueue h addr tracker x0 (p :: rest) x = enqueue h addr tracker x0 rest
      { x.setQueue (engineAt p.1) (x.queue (engineAt p.1) ++ [entryOf x0 (engineAt p.1) p.2 addr h tracker]) with lastGrid := g } := by
  obtain ⟨n, slot⟩ := p
  have hn : n < 4 := hp
  simp only [enqueue, hn, if_true]
  split
  · exact ⟨_, rfl⟩
  · exact ⟨(x.setQueue (engineAt n) (x.queue (engineAt n) ++ [entryOf x0 (engineAt n) slot addr h tracker])).lastGrid, rfl⟩

theorem Tile.Queued.enqueue {x : Tile} {eng : Engine} {a : Nat} {h : W64} (hq : x.Queued eng a h) (h0 : W64) (addr : Nat)
    (tracker : Option Nat) (x0 : Tile) (slots : List (Nat × BitVec 128)) (hall : ∀ p ∈ slots, p.1 < 4) :
    (enqueue h0 addr tracker x0 slots x).Queued eng a h := by
  induction slots generalizing x with
  | nil => exact hq
  | cons p rest ih =>
    obtain ⟨g, hg⟩ := enqueue_cons h0 addr tracker x0 x p rest (hall p (by simp))
    rw [hg]
    have happ := hq.append (engineAt p.1) (entryOf x0 (engineAt p.1) p.2 addr h0 tracker)
    exact ih (x := { x.setQueue (engineAt p.1) _ with lastGrid := g }) (by cases eng <;> exact happ) fun r hr => hall r (by simp [hr])

/-- Every engine slot of a word has an entry in its queue afterwards. -/
theorem queued_enqueue (h : W64) (addr : Nat) (tracker : Option Nat) (x0 : Tile) (slots : List (Nat × BitVec 128)) (x : Tile)
    (hall : ∀ p ∈ slots, p.1 < 4) : ∀ p ∈ slots, (enqueue h addr tracker x0 slots x).Queued (engineAt p.1) addr h := by
  induction slots generalizing x with
  | nil => simp
  | cons p rest ih =>
    intro r hr
    obtain ⟨g, hg⟩ := enqueue_cons h addr tracker x0 x p rest (hall p (by simp))
    rw [hg]
    rcases List.mem_cons.1 hr with rfl | hr
    · have hself := queued_append_self x (engineAt r.1) (entryOf x0 (engineAt r.1) r.2 addr h tracker)
      refine Tile.Queued.enqueue ?_ h addr tracker x0 rest fun p hp => hall p (by simp [hp])
      generalize engineAt r.1 = eng at hself ⊢
      cases eng <;> exact hself
    · exact ih _ (fun p hp => hall p (by simp [hp])) r hr

/-- Going on with a word leaves the queues, and a tile that holds nothing holds nothing or waits on a header. -/
theorem queued_continueWord {t : Nat} {s : State} {eng : Engine} {a : Nat} {h : W64} (hq : (tileOf t s).Queued eng a h) :
    (tileOf t (continueWord t s)).Queued eng a h := by
  unfold continueWord
  extract_lets x
  split
  · exact hq
  next w _ =>
    split
    · exact hq
    · split
      · rw [tileOf_setTile]
        cases eng <;> exact hq
      · have h1 : ∀ c : Bool, ∃ i, tileOf t (if c then raiseSigs t (hSigs w.hdr) s else s) = { x with incs := i } := by
          intro c
          cases c
          · exact ⟨x.incs, rfl⟩
          · exact tileOf_raiseSigs t _ s
        obtain ⟨i, hi⟩ := h1 (!w.hasEngine && w.waited)
        obtain ⟨b, hb⟩ := advanceWord_eq { x with incs := i } w
        rw [tileOf_modTile, hi, hb]
        cases eng <;> exact hq

theorem queued_raiseSigs {t : Nat} {s : State} {eng : Engine} {a : Nat} {h : W64} (hq : (tileOf t s).Queued eng a h)
    (sigs : List (Nat × Nat)) : (tileOf t (raiseSigs t sigs s)).Queued eng a h := by
  obtain ⟨i, hi⟩ := tileOf_raiseSigs t sigs s
  rw [hi]
  cases eng <;> exact hq

theorem queued_dispatchWord {t : Nat} {h : W64} {slots : List (Nat × BitVec 128)} {s : State}
    (hroom : ∀ p ∈ slots, p.1 < 4 → ((tileOf t s).queue (engineAt p.1)).length < Config.queueDepth)
    (hfree : Tbl.freeKey (tileOf t s).trackers 0 Config.trackers ≠ none) : ∀ p ∈ slots, p.1 < 4 →
      (tileOf t (dispatchWord t h slots s)).Queued (engineAt p.1) (tileOf t s).rp h := by
  intro p hp hp4
  unfold dispatchWord
  extract_lets x engs hasEngine needs tracker x1 x2 sync loop syncOff cur x3 s1 s2 s3
  have hall : ∀ r ∈ engs, r.1 < 4 := fun r hr => by simpa using (List.mem_filter.1 hr).2
  have hengs : p ∈ engs := List.mem_filter.2 ⟨hp, by simpa using hp4⟩
  have hfull : (engs.any fun p => decide (Config.queueDepth ≤ (x.queue (engineAt p.1)).length)) = false := by
    rw [List.any_eq_false]
    intro r hr
    have := hroom r (List.mem_filter.1 hr).1 (hall r hr)
    simpa using this
  have htracker : (needs && tracker.isNone) = false := by
    unfold tracker
    cases needs
    · rfl
    · simpa [Option.isSome_iff_ne_none] using hfree
  rw [if_neg (by rw [hfull, htracker]; simp)]
  have h1 : x1.Queued (engineAt p.1) x.rp h := queued_enqueue h x.rp tracker x engs x hall p hengs
  have h2 : x2.Queued (engineAt p.1) x.rp h := by
    unfold x2
    clear_value x1
    generalize engineAt p.1 = eng at h1 ⊢
    cases tracker <;> cases eng <;> exact h1
  have h3 : x3.Queued (engineAt p.1) x.rp h := by
    refine Tile.Queued.noteHeads ?_ _
    clear_value x2
    generalize engineAt p.1 = eng at h2 ⊢
    cases eng <;> exact h2
  have hs1 : (tileOf t s1).Queued (engineAt p.1) x.rp h := by
    unfold s1
    rw [tileOf_setTile]
    exact h3
  have hs2 : (tileOf t s2).Queued (engineAt p.1) x.rp h := by
    unfold s2
    split
    · exact queued_raiseSigs hs1 _
    · exact hs1
  have hs3 : (tileOf t s3).Queued (engineAt p.1) x.rp h := by
    unfold s3
    split
    · exact queued_raiseSigs hs2 _
    · exact hs2
  exact queued_continueWord hs3

section
set_option Elab.async false
variable {tile : Fin 128} {e : Nat} {j : Job} {h : W64} {us : List W64} {s : State} (howner : ownerJob s = some (e, j))
  (hrun : running s = true) (hcur : (tileOf tile.val s).cur = none) (hhold : (tileOf tile.val s).hold = .none)
  (hleft : (tileOf tile.val s).left = false) (hbuf : Tbl.look (tileOf tile.val s).buf (tileOf tile.val s).rp = some h)
  (hcompl : isCompl 6 (hMask h) (hMaskN h) = true) (hfetch : fetchWord (tileOf tile.val s) h = some us)
  (hcause : lowestCause (wordCauses tile.val (tileOf tile.val s) j h (wordSlots h us) s) = none)
include howner hrun hcur hhold hleft hbuf hcompl hfetch hcause

/-- A word that passes its checks first drains the tile for a Waypoint that was not passed, and is dispatched else. -/
theorem execWordDispatch_checked : execWordDispatch tile s =
    if hWaypoint h && !(tileOf tile.val s).wpPassed then
      .next (setTile tile.val { tileOf tile.val s with
        hold := .drain (.waypoint (hLr h)), holdWord := (tileOf tile.val s).rp, holdOp := 0, holdSig := none
        holdFrom := s.tensor.delivered } s)
    else .next (dispatchWord tile.val h (wordSlots h us) s) := by
  unfold execWordDispatch
  rw [howner]
  dsimp only
  rw [if_neg (by simp [checking_of_running hrun, hcur, hhold, hleft]), hbuf]
  dsimp only
  rw [if_neg (by simp [hcompl]), hfetch]
  dsimp only
  rw [hcause]
  dsimp only
  rw [if_neg (by simp [hrun])]

end

theorem hold_continueWord {t : Nat} {s : State} {w : CurWord} (hcur : (tileOf t s).cur = some w) (hwaited : w.waited = true)
    (hhold : (tileOf t s).hold = .none) : (tileOf t (continueWord t s)).hold = .none := by
  unfold continueWord
  extract_lets x
  have hx : x.cur = some w := hcur
  rw [hx]
  dsimp only
  split
  · exact hhold
  · rw [if_neg (by simp [hwaited])]
    have h1 : ∀ c : Bool, ∃ i, tileOf t (if c then raiseSigs t (hSigs w.hdr) s else s) = { x with incs := i } := by
      intro c
      cases c
      · exact ⟨x.incs, rfl⟩
      · exact tileOf_raiseSigs t _ s
    obtain ⟨i, hi⟩ := h1 (!w.hasEngine && w.waited)
    obtain ⟨b, hb⟩ := advanceWord_eq { x with incs := i } w
    rw [tileOf_modTile, hi, hb]
    exact hhold

theorem execDispatcherUnblock_unblocks {tile : Fin 128} {x : Tile} {w : CurWord} {s : State} (hrun : running s = true)
    (hx : x = (tileOf tile.val s).examineTo .pout) (hhold : x.hold = .headerWait) (hcur : x.cur = some w)
    (hsat : x.satisfied x.holdHdr = true) : ∃ t, execDispatcherUnblock tile s = .next t ∧
      (tileOf tile.val t).hold = .none ∧ (tileOf tile.val t).flags = (x.consume x.holdHdr).flags := by
  unfold execDispatcherUnblock
  dsimp only
  rw [if_neg (by simp [hrun]), ← hx, hhold, hcur]
  dsimp only
  rw [if_pos hsat]
  refine ⟨_, rfl, ?_, ?_⟩
  · exact hold_continueWord (by rw [tileOf_setTile]) rfl (by rw [tileOf_setTile])
  · rw [(continueWord_sameData _ _).flags, tileOf_setTile]

theorem execEngineEntryStart_starts {tile : Fin 128} {eng : Engine} {e : Nat} {j : Job} {x : Tile} {q : QEntry}
    {rest : List QEntry} {s : State} (howner : ownerJob s = some (e, j)) (hrun : running s = true)
    (hx : x = (tileOf tile.val s).examineTo eng) (hqueue : x.queue eng = q :: rest) (hresolved : q.resolved = true)
    (htake : canTake x eng q = true)
    (hallowed : ∀ wr rows n, entryAccess eng q = some (wr, rows, n) → transferAllowed j wr rows n (setTile tile.val x s) = true) :
    ∃ t, execEngineEntryStart tile eng s = .next t ∧ tileOf tile.val t = takeHead x eng q s.tensor.delivered := by
  unfold execEngineEntryStart
  rw [howner]
  dsimp only
  rw [if_neg (by simp [checking_of_running hrun]), if_pos hrun, ← hx, hqueue]
  dsimp only
  rw [if_neg (by simp [hresolved, htake])]
  refine ⟨setTile tile.val (takeHead x eng q s.tensor.delivered) (setTile tile.val x s), ?_, tileOf_setTile _ _ _⟩
  cases haccess : entryAccess eng q with
  | none => simp [hrun]
  | some p =>
    obtain ⟨wr, rows, n⟩ := p
    simp [hrun, hallowed wr rows n haccess]

/-- The first entry that has started on an engine. -/
def Tile.firstTaken (x : Tile) : Engine → Option QEntry
  | .arr => x.arr
  | .vec => x.vec
  | .pin => x.pin.head?
  | .pout => x.pout.head?

/-- The entries of an engine once its first one has completed. -/
def Tile.Freed (x y : Tile) : Engine → Prop
  | .arr => y.arr = none
  | .vec => y.vec = none
  | .pin => y.pin = x.pin.tail
  | .pout => y.pout = x.pout.tail

theorem finishTaken_frees {t : Nat} {eng : Engine} {p : QEntry → Bool} {q : QEntry} {s : State}
    (htaken : (tileOf t s).firstTaken eng = some q) (hp : p q = true) :
    (tileOf t s).Freed (tileOf t (finishTaken t eng p s)) eng := by
  have hdone : ∀ x, ∃ i k, tileOf t (completeEntry t q (setTile t x s)) = { x with incs := i, trackers := k } := by
    intro x
    obtain ⟨i, k, hi⟩ := tileOf_completeEntry t q (setTile t x s)
    rw [tileOf_setTile] at hi
    exact ⟨i, k, hi⟩
  unfold finishTaken
  cases eng with
  | arr =>
    obtain ⟨i, k, hi⟩ := hdone { tileOf t s with arr := none }
    simp only [Tile.firstTaken] at htaken
    simp only [htaken, hp, if_true, hi, Tile.Freed]
  | vec =>
    obtain ⟨i, k, hi⟩ := hdone { tileOf t s with vec := none }
    simp only [Tile.firstTaken] at htaken
    simp only [htaken, hp, if_true, hi, Tile.Freed]
  | pin =>
    obtain ⟨rest, hrest⟩ := List.head?_eq_some_iff.1 htaken
    obtain ⟨i, k, hi⟩ := hdone { tileOf t s with pin := rest }
    simp only [hrest, hp, if_true, hi, Tile.Freed, List.tail_cons]
  | pout =>
    obtain ⟨rest, hrest⟩ := List.head?_eq_some_iff.1 htaken
    obtain ⟨i, k, hi⟩ := hdone { tileOf t s with pout := rest }
    simp only [hrest, hp, if_true, hi, Tile.Freed, List.tail_cons]

theorem raiseFault_first_kind {cause tile kind word slot e : Nat} {outside : Bool} {j : Job} {s : State}
    (howner : ownerJob s = some (e, j)) (hstop : j.stop = none) :
    ∃ k r, jobOf e (raiseFault cause tile outside kind word slot s) = some k ∧ k.stop = some r ∧ r.cause = cause ∧
      r.status = causeStatus cause ∧ r.firstTile = tile ∧ r.firstKind = kind := by
  unfold raiseFault
  simp only [howner, hstop, jobOf_writeSnapshot, jobOf_setJob]
  exact ⟨_, _, rfl, rfl, rfl, rfl, rfl, rfl⟩

theorem execWaitTimeout_faults {tile : Fin 128} {who : WaitEntity} {e : Nat} {j : Job} {since kind w : Nat} {s : State}
    (howner : ownerJob s = some (e, j)) (hrun : running s = true)
    (hwait : waitSince ((tileOf tile.val s).examineTo .pout) who = some (since, kind, w))
    (hlate : waitLimit j < waited since s.tensor.delivered)
    (hblocked : who = .dispatcher →
      ((tileOf tile.val s).examineTo .pout).satisfied ((tileOf tile.val s).examineTo .pout).holdHdr = false) :
    execWaitTimeout tile who s = .next (raiseFault causeWaitTimeout tile.val false kind 0 7 s) := by
  have hnot : (who == .dispatcher &&
      ((tileOf tile.val s).examineTo .pout).satisfied ((tileOf tile.val s).examineTo .pout).holdHdr) = false := by
    by_cases hwho : who = .dispatcher
    · rw [hblocked hwho, Bool.and_false]
    · simp [hwho]
  unfold execWaitTimeout
  rw [howner]
  dsimp only
  rw [if_neg (by simp [draining_of_running hrun]), if_neg (by simp [stopped_of_running hrun]), hwait]
  dsimp only
  rw [if_pos (by simp only [hnot, hlate]; rfl)]

end Sys2Proof.Machine
end

section
set_option Elab.async false
open Sys2Proof Sys2Proof.Machine

/-- Settles O33: units are fetched, words dispatched and heads started where their occasion is there. -/
theorem dispatchCommandsComplete : Obligations.DispatchCommandsComplete := by
  refine ⟨?_, ?_, ?_, ?_, ?_, ?_, ?_, ?_⟩
  · intro tile n b s s1 hrun hleft hroom hrange hsigned hclear hread
    exact execItineraryFetchReturn_fetches hrun hleft hroom rfl hrange hsigned hclear hread
  · intro tile e j h us s howner hrun hcur hhold hleft hbuf hcompl hfetch hcause hway hroom hfree
    refine ⟨_, (execWordDispatch_checked howner hrun hcur hhold hleft hbuf hcompl hfetch hcause).trans (if_neg ?_),
      queued_dispatchWord hroom hfree⟩
    simpa using hway
  · intro tile e j h us s howner hrun hcur hhold hleft hbuf hcompl hfetch hcause hway hpassed
    refine ⟨_, (execWordDispatch_checked howner hrun hcur hhold hleft hbuf hcompl hfetch hcause).trans (if_pos ?_), ?_⟩
    · simp [hway, hpassed]
    · rw [tileOf_setTile]
      exact ⟨rfl, rfl⟩
  · intro tile x w s hrun hx hhold hcur hsat
    exact execDispatcherUnblock_unblocks hrun hx hhold hcur hsat
  · intro tile eng e j x q rest s howner hrun hx hqueue hresolved htake hallowed
    exact execEngineEntryStart_starts howner hrun hx hqueue hresolved htake hallowed
  · intro tile eng q s hdrain hnull htaken
    have hfreed := finishTaken_frees (t := tile.val) (eng := eng) (p := fun q => q.null) (q := q) (s := s)
      (by cases eng <;> exact htaken) hnull
    exact ⟨_, if_neg (by simp [hdrain]), by cases eng <;> exact hfreed⟩
  · intro tile eng q s hdrain hnull hop htaken
    have hfreed := finishTaken_frees (t := tile.val) (eng := eng) (p := fun q => !q.null && sOp q.slot == 0) (q := q) (s := s)
      (by cases eng <;> exact htaken) (by simp [hnull, hop])
    exact ⟨_, if_neg (by simp [hdrain]), by cases eng <;> exact hfreed⟩
  · intro tile who e j since kind w s howner hrun hwait hlate hblocked
    obtain ⟨k, r, hjob, hstop, hcause, hstatus, htile, hkind⟩ := raiseFault_first_kind (cause := causeWaitTimeout)
      (tile := tile.val) (kind := kind) (word := 0) (slot := 7) (outside := false) howner (running_job howner hrun).2
    exact ⟨_, k, r, execWaitTimeout_faults howner hrun hwait hlate hblocked, hjob, hstop, hcause, hstatus, htile, hkind⟩

end

section
set_option Elab.async false
/-! SUPPORT. Rows of external memory, and the transfers of the Porters (R169, R171, R172, R175, R177). -/

namespace Sys2Proof.Machine

@[simp] theorem tensor_readExt (a n : Nat) (s : State) : (readExt a n s).2.tensor = s.tensor := by
  unfold readExt
  split <;> simp

@[simp] theorem tensor_readRows (rows : List Nat) (n : Nat) (s : State) : (readRows rows n s).2.tensor = s.tensor := by
  induction rows generalizing s with
  | nil => rfl
  | cons a rest ih =>
    have hread := tensor_readExt a n s
    unfold readRows
    split
    next heq => rw [heq] at hread; exact hread
    next s1 heq =>
      rw [heq] at hread
      have hrest := ih s1
      split
      next heq2 => rw [heq2] at hrest; exact hrest.trans hread
      next heq2 => rw [heq2] at hrest; exact hrest.trans hread

theorem aligned_of_touched {a n w : Nat} {s : State} (ha : a % 8 = 0) (hn : n % 8 = 0) (hw : w ∈ touchedWords a n s) :
    a ≤ w * 8 ∧ w * 8 + 8 ≤ a + n := by
  have hhit : a < w * 8 + 8 ∧ w * 8 < a + n := by
    unfold touchedWords at hw
    rcases List.mem_append.1 hw with hw | hw
    · simpa using (List.mem_filter.1 hw).2
    · have := (List.mem_filter.1 hw).2
      simp only [Bool.and_eq_true, decide_eq_true_eq] at this
      exact this.1
  omega

theorem foldl_eq_of_kept {α β : Type} {f : β → α → β} {as : List α} (h : ∀ a ∈ as, ∀ b, f b a = b) (b : β) : as.foldl f b = b := by
  induction as with
  | nil => rfl
  | cons a as ih => rw [List.foldl_cons, h a (by simp), ih fun a' ha' => h a' (by simp [ha'])]

/-- A write of whole words leaves just its bytes in stacked memory (R495). -/
theorem putStacked_aligned {a : Nat} {bytes : List Byte} {s : State} (ha : a % 8 = 0) (hn : bytes.length % 8 = 0) :
    (putStacked a bytes s).mem.stacked = Mem.write zeroByte s.mem.stacked a bytes ∧
    (putStacked a bytes s).mem.shared = s.mem.shared := by
  unfold putStacked writeStacked
  extract_lets n first last partial_ bad badFirst badLast kept data stacked0 werr
  have hfirst : badFirst = false := by
    unfold badFirst
    by_cases h0 : n = 0
    · simp [h0]
    · have : partial_ first = false := by
        simp only [partial_, first, Bool.or_eq_false_iff, decide_eq_false_iff_not]
        omega
      simp [this]
  have hlast : badLast = false := by
    unfold badLast
    by_cases h0 : n = 0
    · simp [h0]
    · have : partial_ last = false := by
        simp only [partial_, last, Bool.or_eq_false_iff, decide_eq_false_iff_not]
        omega
      simp [this]
  have hdata : data = bytes := by
    unfold data
    rw [hfirst, hlast]
    rfl
  have hstacked : stacked0 = s.mem.stacked := by
    refine foldl_eq_of_kept (fun p hp m => ?_) _
    obtain ⟨w, hw, hcorr⟩ := List.mem_filterMap.1 hp
    have hpw : p.1 = w := by
      split at hcorr
      · obtain rfl := Option.some.inj hcorr
        rfl
      · cases hcorr
    obtain ⟨hlo, hhi⟩ := aligned_of_touched ha hn hw
    refine if_neg ?_
    simp only [partial_, hpw, Bool.or_eq_true, decide_eq_true_eq]
    omega
  exact ⟨by rw [hdata, hstacked], rfl⟩

/-- Bytes of external memory that neither part changed. -/
def SameAt (s t : State) (x : Nat) : Prop :=
  Mem.byte zeroByte t.mem.stacked x = Mem.byte zeroByte s.mem.stacked x ∧
  Mem.byte zeroByte t.mem.shared x = Mem.byte zeroByte s.mem.shared x

theorem extRead_congr {s t : State} {a n : Nat} (h : ∀ i < n, SameAt s t (a + i)) : extRead a n t = extRead a n s := by
  unfold extRead Mem.read
  split
  · exact List.map_congr_left fun i hi => (h i (List.mem_range.1 hi)).2
  · exact List.map_congr_left fun i hi => (h i (List.mem_range.1 hi)).1

section
set_option Elab.async false
variable {a : Nat} {bytes : List Byte} (ha : a % 8 = 0) (hn : bytes.length % 8 = 0) (s : State)
include ha hn

theorem sameAt_writeExt {x : Nat} (hx : x < a ∨ a + bytes.length ≤ x) : SameAt s (writeExt a bytes s) x := by
  unfold writeExt
  split
  · exact ⟨rfl, Mem.byte_write_out _ _ _ _ _ hx⟩
  · obtain ⟨hstacked, hshared⟩ := putStacked_aligned (s := s) ha hn
    unfold SameAt
    rw [hstacked, hshared]
    exact ⟨Mem.byte_write_out _ _ _ _ _ hx, rfl⟩

theorem extRead_writeExt : extRead a bytes.length (writeExt a bytes s) = bytes := by
  unfold extRead writeExt
  split
  · exact Mem.read_write _ _ _ _
  · rw [(putStacked_aligned ha hn).1]
    exact Mem.read_write _ _ _ _

end

section
set_option Elab.async false
variable {n : Nat} (hn : n % 8 = 0)
include hn

theorem sameAt_writeRows {rows : List Nat} {bytes : List Byte} (hrows : ∀ r ∈ rows, r % 8 = 0)
    (hlen : bytes.length = rows.length * n) (s : State) {x : Nat} (hx : ∀ r ∈ rows, x < r ∨ r + n ≤ x) :
    SameAt s (writeRows rows n bytes s) x := by
  induction rows generalizing bytes s with
  | nil => exact ⟨rfl, rfl⟩
  | cons r rest ih =>
    have hle : n ≤ bytes.length := by
      rw [hlen, List.length_cons, Nat.succ_mul]
      omega
    have htake : (bytes.take n).length = n := by simpa using hle
    have hdrop : (bytes.drop n).length = rest.length * n := by
      rw [List.length_drop, hlen, List.length_cons, Nat.succ_mul, Nat.add_sub_cancel]
    obtain ⟨hs1, hs2⟩ := sameAt_writeExt (hrows r (by simp)) (by rw [htake]; exact hn) s (x := x)
      (by rw [htake]; exact hx r (by simp))
    obtain ⟨ht1, ht2⟩ := ih (fun q hq => hrows q (by simp [hq])) hdrop (writeExt r (bytes.take n) s) fun q hq => hx q (by simp [hq])
    exact ⟨ht1.trans hs1, ht2.trans hs2⟩

/-- A row reads back what it was given when every later row lies beyond it. -/
theorem extRead_writeRows {rows : List Nat} {bytes : List Byte} (hrows : ∀ r ∈ rows, r % 8 = 0)
    (hlen : bytes.length = rows.length * n) (s : State) {k : Nat} (hk : k < rows.length)
    (hlater : ∀ m (hm : m < rows.length), k < m → rows[k] + n ≤ rows[m]) :
    extRead rows[k] n (writeRows rows n bytes s) = (bytes.drop (k * n)).take n := by
  induction rows generalizing bytes s k with
  | nil => simp at hk
  | cons r rest ih =>
    have hle : n ≤ bytes.length := by
      rw [hlen, List.length_cons, Nat.succ_mul]
      omega
    have htake : (bytes.take n).length = n := by simpa using hle
    have hdrop : (bytes.drop n).length = rest.length * n := by
      rw [List.length_drop, hlen, List.length_cons, Nat.succ_mul, Nat.add_sub_cancel]
    have hrest : ∀ q ∈ rest, q % 8 = 0 := fun q hq => hrows q (by simp [hq])
    unfold writeRows
    cases k with
    | zero =>
      have hread := extRead_writeExt (hrows r (by simp)) (bytes := bytes.take n) (by rw [htake]; exact hn) s
      rw [htake] at hread
      rw [List.getElem_cons_zero, Nat.zero_mul, List.drop_zero]
      refine (extRead_congr fun i hi => sameAt_writeRows hn hrest hdrop _ fun q hq => ?_).trans hread
      obtain ⟨m, hm, rfl⟩ := List.getElem_of_mem hq
      have := hlater (m + 1) (by simpa using hm) (by omega)
      simp only [List.getElem_cons_zero, List.getElem_cons_succ] at this
      omega
    | succ k =>
      have hk' : k < rest.length := by simpa using hk
      have hstep : (k + 1) * n = n + k * n := by ring
      rw [List.getElem_cons_succ, hstep, ← List.drop_drop]
      refine ih hrest hdrop _ hk' fun m hm hlt => ?_
      have := hlater (m + 1) (by simpa using hm) (by omega)
      simpa using this

end

theorem read_slice (m : Mem) (a k n total : Nat) (h : k + n ≤ total) :
    ((Mem.read zeroByte m a total).drop k).take n = Mem.read zeroByte m (a + k) n := by
  apply List.ext_getElem
  · simp [Mem.read]
    omega
  · intro i h1 h2
    simp [Mem.read, Nat.add_assoc]

theorem mem_of_startedEntry {t op : Nat} {inbound : Bool} {q : QEntry} {s : State} (h : startedEntry t inbound op s = some q) :
    q ∈ (tileOf t s).porter inbound := by
  unfold startedEntry at h
  split at h
  · cases h
  · exact List.mem_of_find?_eq_some h

@[simp] theorem mem_tileOf_modEntry (n t id : Nat) (inbound : Bool) (f : QEntry → QEntry) (s : State) :
    (tileOf n (modEntry t inbound id f s)).mem = (tileOf n s).mem := by
  unfold modEntry
  by_cases hn : n = t
  · subst hn
    rw [tileOf_modTile]
    split <;> rfl
  · unfold modTile
    rw [tileOf_setTile_ne _ _ hn]

/-- The entry named `id` of a Porter is changed by `f`. -/
theorem mem_porter_modEntry {t : Nat} {inbound : Bool} {q : QEntry} (f : QEntry → QEntry) {s : State}
    (h : q ∈ (tileOf t s).porter inbound) : f q ∈ (tileOf t (modEntry t inbound q.id f s)).porter inbound := by
  unfold modEntry
  rw [tileOf_modTile]
  cases inbound
  · exact List.mem_map.2 ⟨q, h, if_pos rfl⟩
  · exact List.mem_map.2 ⟨q, h, if_pos rfl⟩

theorem tileRead_tileWrite (x : Tile) (a : Nat) (bytes : List Byte) : tileRead (tileWrite x a bytes) a bytes.length = bytes :=
  Mem.read_write _ _ _ _

theorem tileRead_congr {x y : Tile} (h : x.mem = y.mem) (a n : Nat) : tileRead x a n = tileRead y a n := by
  unfold tileRead
  rw [h]

theorem execLoad_loads {tile : Fin 128} {q : QEntry} {bytes : List Byte} {s s1 : State}
    (hstart : startedEntry tile.val true 1 s = some q)
    (hclear : (hostClear false ((pRowAddrs q.slot).map (fun a => (a, pLen q.slot * 64))) s).1 = true)
    (hread : readRows (pRowAddrs q.slot) (pLen q.slot * 64) s = (.ok bytes, s1)) : ∃ t, execLoad tile s = .next t ∧
      tileRead (tileOf tile.val t) (pTile q.slot * 64) bytes.length = bytes ∧
      (∀ a, (a < pTile q.slot * 64 ∨ pTile q.slot * 64 + bytes.length ≤ a) →
        Mem.byte zeroByte (tileOf tile.val t).mem a = Mem.byte zeroByte (tileOf tile.val s).mem a) ∧
      (∃ r ∈ (tileOf tile.val t).pin, r.id = q.id ∧ r.done = true) ∧ t.mem = s1.mem := by
  have htensor := tensor_readRows (pRowAddrs q.slot) (pLen q.slot * 64) s
  rw [hread] at htensor
  have htile : tileOf tile.val s1 = tileOf tile.val s := tileOf_congr (congrArg Tensor.tiles htensor) _
  unfold execLoad
  dsimp only
  rw [hstart]
  dsimp only
  rw [if_neg (by simp [hclear]), hread]
  refine ⟨_, rfl, ?_, fun a ha => ?_, ⟨setDone q, ?_, rfl, rfl⟩, rfl⟩
  · refine (tileRead_congr (y := tileWrite (tileOf tile.val s1) (pTile q.slot * 64) bytes) ?_ _ _).trans (tileRead_tileWrite _ _ _)
    rw [mem_tileOf_modEntry, tileOf_modTile]
  · rw [mem_tileOf_modEntry, tileOf_modTile, htile]
    exact Mem.byte_write_out _ _ _ _ _ ha
  · refine mem_porter_modEntry (inbound := true) setDone ?_
    rw [tileOf_modTile, htile]
    exact mem_of_startedEntry hstart

theorem getElem_pRowAddrs (sl : BitVec 128) {k : Nat} (h : k < (pRowAddrs sl).length) :
    (pRowAddrs sl)[k] = (pExt sl + k * pPitch sl) * 64 := by
  simp [pRowAddrs]

theorem execStore_stores {tile : Fin 128} {q : QEntry} {s : State} (hstart : startedEntry tile.val false 1 s = some q)
    (hclear : (hostClear true ((pRowAddrs q.slot).map (fun a => (a, pLen q.slot * 64))) s).1 = true) :
    ∃ t, execStore tile s = .next t ∧ (tileOf tile.val t).mem = (tileOf tile.val s).mem ∧
      (∃ r ∈ (tileOf tile.val t).pout, r.id = q.id ∧ r.done = true) ∧
      (∀ a, (∀ r ∈ pRowAddrs q.slot, a < r ∨ r + pLen q.slot * 64 ≤ a) →
        Mem.byte zeroByte t.mem.stacked a = Mem.byte zeroByte s.mem.stacked a ∧
        Mem.byte zeroByte t.mem.shared a = Mem.byte zeroByte s.mem.shared a) ∧
      (∀ k, k < pRows q.slot → (∀ m, k < m → m < pRows q.slot → pLen q.slot ≤ (m - k) * pPitch q.slot) →
        extRead ((pExt q.slot + k * pPitch q.slot) * 64) (pLen q.slot * 64) t
          = tileRead (tileOf tile.val s) (pTile q.slot * 64 + k * (pLen q.slot * 64)) (pLen q.slot * 64)) := by
  generalize hbytes : tileRead (tileOf tile.val s) (pTile q.slot * 64) (pBytes q.slot) = bytes
  have hrowsLen : (pRowAddrs q.slot).length = pRows q.slot := by simp [pRowAddrs]
  have hlen : bytes.length = (pRowAddrs q.slot).length * (pLen q.slot * 64) := by
    rw [← hbytes, length_tileRead, hrowsLen, pBytes]
    ring
  have hn : pLen q.slot * 64 % 8 = 0 := by omega
  have hrows : ∀ r ∈ pRowAddrs q.slot, r % 8 = 0 := by
    intro r hr
    obtain ⟨k, -, rfl⟩ := List.mem_map.1 hr
    omega
  have htile : tileOf tile.val (writeRows (pRowAddrs q.slot) (pLen q.slot * 64) bytes s) = tileOf tile.val s :=
    tileOf_congr (by simp) _
  unfold execStore
  dsimp only
  rw [hstart]
  dsimp only
  rw [if_neg (by simp [hclear]), hbytes]
  refine ⟨_, rfl, ?_, ⟨setDone q, ?_, rfl, rfl⟩, fun a ha => sameAt_writeRows hn hrows hlen s ha, fun k hk hlater => ?_⟩
  · rw [mem_tileOf_modEntry, htile]
  · refine mem_porter_modEntry (inbound := false) setDone ?_
    rw [htile]
    exact mem_of_startedEntry hstart
  · have hk' : k < (pRowAddrs q.slot).length := by omega
    have hread := extRead_writeRows hn hrows hlen s hk' fun m hm hlt => by
      rw [getElem_pRowAddrs, getElem_pRowAddrs]
      have hpitch := hlater m hlt (by omega)
      have hm' : m * pPitch q.slot = k * pPitch q.slot + (m - k) * pPitch q.slot := by
        rw [← Nat.add_mul, Nat.add_sub_cancel' hlt.le]
      omega
    rw [getElem_pRowAddrs] at hread
    refine Eq.trans (b := extRead ((pExt q.slot + k * pPitch q.slot) * 64) (pLen q.slot * 64)
      (writeRows (pRowAddrs q.slot) (pLen q.slot * 64) bytes s)) rfl (hread.trans ?_)
    rw [← hbytes]
    refine read_slice _ _ _ _ _ ?_
    calc k * (pLen q.slot * 64) + pLen q.slot * 64 = (k + 1) * (pLen q.slot * 64) := by ring
      _ ≤ pRows q.slot * (pLen q.slot * 64) := Nat.mul_le_mul_right _ hk
      _ = pBytes q.slot := by rw [pBytes]; ring

theorem joinGroup_joins {t op : Nat} {q : QEntry} {s : State} (hstart : startedEntry t true op s = some q) :
    (∃ r ∈ (tileOf t (joinGroup t op s)).pin, r.id = q.id ∧ r.next = 1) ∧
    (tileOf t (joinGroup t op s)).mem = (tileOf t s).mem := by
  unfold joinGroup
  rw [hstart]
  exact ⟨⟨{ q with next := 1 }, mem_porter_modEntry (inbound := true) (fun r => { r with next := 1 }) (mem_of_startedEntry hstart),
    rfl, rfl⟩, mem_tileOf_modEntry _ _ _ _ _ _⟩

/-- The delivery of a Caravan starts for one participant: it waits no longer. -/
def caravanStarts (g op t : Nat) (acc : State) : State :=
  match groupEntry t op g acc with
  | some q => modEntry t true q.id (fun r => { r with waitFrom := none }) acc
  | none => acc

theorem execCaravanDeliveryStart_starts {g : Fin 256} {c : Caravan} {l : QEntry} {s : State}
    (hcaravan : Tbl.look s.tensor.caravans g.val = some c) (hleader : groupEntry c.leader 2 g.val s = some l)
    (hrun : running s = true) (hidle : c.running = false) (hjoined : l.next = 1)
    (hmembers : ∀ m ∈ groupMembers c, ∃ q, groupEntry m 3 g.val s = some q ∧ q.next = 1 ∧ pLen q.slot = pLen l.slot ∧
      pRows q.slot = pRows l.slot) : ∃ t, execCaravanDeliveryStart g s = .next t ∧
      Tbl.look t.tensor.caravans g.val = some { c with running := true } ∧ t.mem = s.mem := by
  have hstart : ∀ op t acc, (caravanStarts g.val op t acc).mem = acc.mem := by
    intro op t acc
    unfold caravanStarts
    split <;> rfl
  have hfold : ∀ (ts : List Nat) (acc : State), (ts.foldl (fun acc t => caravanStarts g.val 3 t acc) acc).mem = acc.mem := by
    intro ts
    induction ts with
    | nil => exact fun _ => rfl
    | cons t ts ih =>
      intro acc
      rw [List.foldl_cons, ih, hstart]
  unfold execCaravanDeliveryStart
  dsimp only
  rw [hcaravan]
  dsimp only
  rw [hleader]
  dsimp only
  refine ⟨_, (if_neg ?_).trans (if_neg ?_), Tbl.look_put_self _ _ _, (hfold (groupMembers c) _).trans rfl⟩
  · simp only [hrun, hidle, hjoined, Bool.not_true, Bool.false_or, bne_self_eq_false, Bool.not_eq_true', Bool.not_eq_false,
      List.all_eq_true]
    intro m hm
    obtain ⟨q, hq, hnext, -⟩ := hmembers m hm
    simp [hq, hnext]
  · simp only [Bool.not_eq_true', List.isEmpty_eq_false_iff, ne_eq, not_not, List.filter_eq_nil_iff]
    intro m hm
    obtain ⟨q, hq, -, hlen, hrows⟩ := hmembers m hm
    simp [hq, hlen, hrows]

/-- The delivery to one participant of a Caravan: its entry is done and its tile holds the bytes. -/
def deliverOne (g : Nat) (bytes : List Byte) (acc : State) (p : Nat × Nat) : State :=
  match groupEntry p.1 p.2 g acc with
  | some q => modEntry p.1 true q.id setDone (modTile p.1 (fun x => tileWrite x (pTile q.slot * 64) bytes) acc)
  | none => acc

theorem caravans_deliverOne (g : Nat) (bytes : List Byte) (acc : State) (p : Nat × Nat) :
    (deliverOne g bytes acc p).tensor.caravans = acc.tensor.caravans := by
  unfold deliverOne
  split <;> rfl

theorem tileOf_deliverOne_ne (g : Nat) (bytes : List Byte) (acc : State) {p : Nat × Nat} {t : Nat} (h : t ≠ p.1) :
    tileOf t (deliverOne g bytes acc p) = tileOf t acc := by
  unfold deliverOne
  split
  · unfold modEntry modTile
    rw [tileOf_setTile_ne _ _ h, tileOf_setTile_ne _ _ h]
  · rfl

theorem tileRead_deliverOne {g t op : Nat} {bytes : List Byte} {acc : State} {q : QEntry} (h : groupEntry t op g acc = some q) :
    tileRead (tileOf t (deliverOne g bytes acc (t, op))) (pTile q.slot * 64) bytes.length = bytes := by
  unfold deliverOne
  rw [h]
  refine (tileRead_congr (y := tileWrite (tileOf t acc) (pTile q.slot * 64) bytes) ?_ _ _).trans (tileRead_tileWrite _ _ _)
  rw [mem_tileOf_modEntry, tileOf_modTile]

theorem groupEntry_congr {s t : State} {n : Nat} (h : tileOf n t = tileOf n s) (op g : Nat) :
    groupEntry n op g t = groupEntry n op g s := by
  unfold groupEntry
  rw [h]

theorem caravans_delivered (g : Nat) (bytes : List Byte) (ps : List (Nat × Nat)) (s : State) :
    (ps.foldl (deliverOne g bytes) s).tensor.caravans = s.tensor.caravans := by
  induction ps generalizing s with
  | nil => rfl
  | cons p ps ih => rw [List.foldl_cons, ih, caravans_deliverOne]

theorem tileOf_delivered_ne {g t : Nat} {bytes : List Byte} {ps : List (Nat × Nat)} (h : ∀ p ∈ ps, t ≠ p.1) (s : State) :
    tileOf t (ps.foldl (deliverOne g bytes) s) = tileOf t s := by
  induction ps generalizing s with
  | nil => rfl
  | cons p ps ih =>
    rw [List.foldl_cons, ih fun r hr => h r (by simp [hr]), tileOf_deliverOne_ne _ _ _ (h p (by simp))]

/-- Participants on different tiles all hold the bytes after the delivery. -/
theorem tileRead_delivered {g t op : Nat} {bytes : List Byte} {ps : List (Nat × Nat)} (hnodup : (ps.map (·.1)).Nodup)
    (hmem : (t, op) ∈ ps) {s : State} {q : QEntry} (hentry : groupEntry t op g s = some q) :
    tileRead (tileOf t (ps.foldl (deliverOne g bytes) s)) (pTile q.slot * 64) bytes.length = bytes := by
  induction ps generalizing s with
  | nil => cases hmem
  | cons p ps ih =>
    rw [List.map_cons, List.nodup_cons] at hnodup
    rw [List.foldl_cons]
    rcases List.mem_cons.1 hmem with rfl | hmem
    · rw [tileOf_delivered_ne fun r hr heq => hnodup.1 (List.mem_map.2 ⟨r, hr, heq.symm⟩)]
      exact tileRead_deliverOne hentry
    · have hne : t ≠ p.1 := by
        rintro rfl
        exact hnodup.1 (List.mem_map_of_mem (f := (·.1)) hmem)
      exact ih hnodup.2 hmem ((groupEntry_congr (tileOf_deliverOne_ne _ _ _ hne) _ _).trans hentry)

theorem nodup_participants (c : Caravan) :
    (((c.leader, 2) :: (groupMembers c).map (fun t => (t, 3))).map (·.1)).Nodup := by
  rw [List.map_cons, List.map_map, List.nodup_cons]
  refine ⟨?_, ?_⟩
  · simp [groupMembers]
  · rw [show ((fun p : Nat × Nat => p.1) ∘ fun t => (t, 3)) = id from rfl, List.map_id]
    exact List.nodup_range.filter _

theorem execCaravanDeliveryComplete_delivers {g : Fin 256} {c : Caravan} {l : QEntry} {bytes : List Byte} {s s1 : State}
    (hcaravan : Tbl.look s.tensor.caravans g.val = some c) (hleader : groupEntry c.leader 2 g.val s = some l)
    (hdrain : draining s = true) (hrun : c.running = true)
    (hclear : (hostClear false ((pRowAddrs l.slot).map (fun a => (a, pLen l.slot * 64))) s).1 = true)
    (hread : readRows (pRowAddrs l.slot) (pLen l.slot * 64)
      { s with tensor := { s.tensor with caravans := Tbl.put s.tensor.caravans g.val { c with running := false } } }
      = (.ok bytes, s1)) : ∃ t, execCaravanDeliveryComplete g s = .next t ∧
      Tbl.look t.tensor.caravans g.val = some { c with running := false } ∧
      tileRead (tileOf c.leader t) (pTile l.slot * 64) bytes.length = bytes ∧
      (∀ m ∈ groupMembers c, ∀ q, groupEntry m 3 g.val s = some q →
        tileRead (tileOf m t) (pTile q.slot * 64) bytes.length = bytes) := by
  have htensor := tensor_readRows (pRowAddrs l.slot) (pLen l.slot * 64)
    { s with tensor := { s.tensor with caravans := Tbl.put s.tensor.caravans g.val { c with running := false } } }
  rw [hread] at htensor
  have htile : ∀ n, tileOf n s1 = tileOf n s := fun n => tileOf_congr (congrArg Tensor.tiles htensor) n
  have hexec : execCaravanDeliveryComplete g s =
      .next (((c.leader, 2) :: (groupMembers c).map (fun t => (t, 3))).foldl (deliverOne g.val bytes) s1) := by
    unfold execCaravanDeliveryComplete
    dsimp only
    rw [hcaravan]
    dsimp only
    rw [hleader]
    dsimp only
    rw [if_neg (by simp [hrun, hdrain]), if_neg (by simp [hclear]), hread]
    rfl
  refine ⟨_, hexec, ?_, ?_, fun m hm q hq => ?_⟩
  · rw [caravans_delivered, htensor]
    exact Tbl.look_put_self _ _ _
  · exact tileRead_delivered (nodup_participants c) (by simp) ((groupEntry_congr (htile _) _ _).trans hleader)
  · exact tileRead_delivered (nodup_participants c) (by simp [hm]) ((groupEntry_congr (htile _) _ _).trans hq)

end Sys2Proof.Machine
end

section
set_option Elab.async false
open Sys2Proof Sys2Proof.Machine

/-- Settles O35: transfers move the bytes of their rows, and a Caravan's delivery gives all of its tiles the same bytes. -/
theorem porterTransfersComplete : Obligations.PorterTransfersComplete := by
  refine ⟨?_, ?_, ?_, ?_, ?_, ?_⟩
  · intro tile q bytes s s1 hstart hclear hread
    exact execLoad_loads hstart hclear hread
  · intro tile q s hstart hclear
    exact execStore_stores hstart hclear
  · intro tile q s hstart
    exact ⟨_, rfl, joinGroup_joins hstart⟩
  · intro tile q s hstart
    exact ⟨_, rfl, joinGroup_joins hstart⟩
  · intro g c l s hcaravan hleader hrun hidle hjoined hmembers
    exact execCaravanDeliveryStart_starts hcaravan hleader hrun hidle hjoined hmembers
  · intro g c l bytes s s1 hcaravan hleader hdrain hrun hclear hread
    exact execCaravanDeliveryComplete_delivers hcaravan hleader hdrain hrun hclear hread

end

section
set_option Elab.async false
/-! SUPPORT. Drains, step barriers and step sets (R144, R158, R190 to R193). -/

namespace Sys2Proof.Machine

/-- The state `t` differs from `s` in its tiles only. -/
def OnlyTiles (s t : State) : Prop := ∃ T, t = { s with tensor := { s.tensor with tiles := T } }

theorem OnlyTiles.refl (s : State) : OnlyTiles s s := ⟨s.tensor.tiles, rfl⟩

theorem OnlyTiles.trans {s t u : State} (h : OnlyTiles s t) (h2 : OnlyTiles t u) : OnlyTiles s u := by
  obtain ⟨T, rfl⟩ := h
  obtain ⟨T2, rfl⟩ := h2
  exact ⟨T2, rfl⟩

theorem onlyTiles_setTile (t : Nat) (x : Tile) (s : State) : OnlyTiles s (setTile t x s) := ⟨_, rfl⟩

theorem onlyTiles_raiseSigs (t : Nat) (sigs : List (Nat × Nat)) (s : State) : OnlyTiles s (raiseSigs t sigs s) := by
  unfold raiseSigs
  split
  · exact OnlyTiles.refl s
  · exact onlyTiles_setTile _ _ _

theorem onlyTiles_continueWord (t : Nat) (s : State) : OnlyTiles s (continueWord t s) := by
  unfold continueWord
  extract_lets x
  split
  · exact OnlyTiles.refl s
  · split
    · exact OnlyTiles.refl s
    · split
      · exact onlyTiles_setTile _ _ _
      · refine OnlyTiles.trans ?_ (onlyTiles_setTile _ _ _)
        split
        · exact onlyTiles_raiseSigs _ _ _
        · exact OnlyTiles.refl s

theorem OnlyTiles.foldl {α : Type} {f : State → α → State} (hf : ∀ s a, OnlyTiles s (f s a)) (as : List α) (s : State) :
    OnlyTiles s (as.foldl f s) := by
  induction as generalizing s with
  | nil => exact OnlyTiles.refl s
  | cons a as ih => exact (hf s a).trans (ih (f s a))

/-- While a tile that is still in the phase waits at the step barrier, the barriers change no tile. -/
theorem tileOf_checkBarriers_step {t : Nat} {s : State} (ht : t < Config.tiles) (hleft : (tileOf t s).left = false)
    (hhold : (tileOf t s).hold = .barrierStep) (n : Nat) : tileOf n (checkBarriers s) = tileOf n s := by
  unfold checkBarriers
  split
  · rfl
  · extract_lets tiles inPhase
    have hmem : (t, tileOf t s) ∈ inPhase :=
      List.mem_filter.2 ⟨List.mem_map.2 ⟨t, List.mem_range.2 ht, rfl⟩, by simp [hleft]⟩
    have hstep : barrierOf (tileOf t s) = some 0 := by simp [barrierOf, hhold]
    clear_value inPhase
    cases inPhase with
    | nil => cases hmem
    | cons p ps =>
      rw [if_neg (by simp)]
      split
      · rfl
      · dsimp only
        split
        · rw [tileOf_raiseFault]
        case isFalse hsame =>
          have hp : barrierOf p.2 = some 0 := by
            rcases List.mem_cons.1 hmem with heq | hmem
            · rw [← heq]
              exact hstep
            · have hall : ∀ q ∈ ps, barrierOf q.2 = barrierOf p.2 := by simpa using hsame
              rw [← hall _ hmem]
              exact hstep
          rw [hp]

theorem execTileDrainComplete_drained {tile : Fin 128} {s : State} (hrun : running s = true)
    (hdrained : (tileOf tile.val s).drained = true) : execTileDrainComplete tile s = match (tileOf tile.val s).hold with
      | .drain .fence => .next (continueWord tile.val (raiseSigs tile.val
          ((tileOf tile.val s).holdSig.toList.map (fun g => (g, 1))) (setTile tile.val { tileOf tile.val s with hold := .none } s)))
      | .drain .step => .next (checkBarriers (setTile tile.val { tileOf tile.val s with hold := .barrierStep } s))
      | .drain .phase => .next (checkBarriers (raiseSigs tile.val ((tileOf tile.val s).holdSig.toList.map (fun g => (g, 1)))
          (setTile tile.val { tileOf tile.val s with hold := .ended, cur := none } s)))
      | .drain .ending => .next (checkBarriers (raiseSigs tile.val ((tileOf tile.val s).holdSig.toList.map (fun g => (g, 1)))
          (setTile tile.val { tileOf tile.val s with hold := .ended, cur := none } s)))
      | .drain (.waypoint lr) => .next (checkBarriers (setTile tile.val { tileOf tile.val s with hold := .barrierWaypoint lr } s))
      | _ => .next s :=
  if_neg (by simp [hrun, hdrained])

theorem sweepClear_startSweep (set : List Region) {s : State} (hsnoop : s.host.snoop = [])
    (hflight : ∀ b ∈ s.host.biOut, b.sweep = false) : sweepClear (startSweep set s) = true := by
  simp only [sweepClear, startSweep, issueSweep, hsnoop]
  simpa using hflight

/-- A boundary whose set is there advances the region-mode table and leaves the memories. -/
theorem finishBoundary_advances {s : State}
    (hnext : s.tensor.region.left = 1 → s.tensor.region.next ≠ .bad ∧ s.tensor.region.next ≠ .lost) :
    (finishBoundary s).tensor.region = advanceRegion s.tensor.region ∧ (finishBoundary s).mem = s.mem := by
  unfold finishBoundary
  extract_lets +onlyGivenNames r
  have hbad : ¬ ((r.left = 1 && r.next == .bad) = true) := by
    intro h
    simp only [Bool.and_eq_true, decide_eq_true_eq, beq_iff_eq] at h
    exact (hnext h.1).1 h.2
  have hlost : ¬ ((r.left = 1 && r.next == .lost) = true) := by
    intro h
    simp only [Bool.and_eq_true, decide_eq_true_eq, beq_iff_eq] at h
    exact (hnext h.1).2 h.2
  rw [if_neg hbad, if_neg hlost]
  extract_lets +onlyGivenNames s1 _ _ s2
  have hmem : s2.mem = s.mem := (windowsEnd_frame ..).2.2.2.2.2.2.2.1
  have honly : ∀ u, OnlyTiles s2 u → u.tensor.region = advanceRegion s.tensor.region ∧ u.mem = s.mem := by
    rintro u ⟨T, rfl⟩
    exact ⟨rfl, hmem⟩
  refine honly _ (OnlyTiles.foldl (fun acc t => ?_) _ s2)
  dsimp only
  split
  · exact ((onlyTiles_setTile _ _ _).trans (onlyTiles_raiseSigs _ _ _)).trans (onlyTiles_continueWord _ _)
  · exact OnlyTiles.refl acc

theorem execStepBarrierEnd_advances {set : List Region} {s : State} (hrun : running s = true) (hall : allAtStep s = true)
    (hwaits : s.tensor.region.waits = false) (hset : incomingSet s = some set) (hsnoop : s.host.snoop = [])
    (hflight : ∀ b ∈ s.host.biOut, b.sweep = false)
    (hnext : s.tensor.region.left = 1 → s.tensor.region.next ≠ .bad ∧ s.tensor.region.next ≠ .lost) :
    ∃ t, execStepBarrierEnd s = .next t ∧ t.tensor.region = advanceRegion s.tensor.region ∧ t.mem = s.mem := by
  unfold execStepBarrierEnd boundaryDue
  rw [if_pos (by simp [hrun, hall, hwaits]), hset]
  dsimp only
  rw [if_pos (sweepClear_startSweep set hsnoop hflight)]
  have htensor : (startSweep set s).tensor = s.tensor := by simp
  have hmem : (startSweep set s).mem = s.mem := by simp
  obtain ⟨hregion, hkept⟩ := finishBoundary_advances (s := startSweep set s) (by rw [htensor]; exact hnext)
  exact ⟨_, rfl, by rw [hregion, htensor], hkept.trans hmem⟩

theorem execStepSetLoadComplete_loads {e : Nat} {j : Job} {s : State} (howner : ownerJob s = some (e, j))
    (hrun : running s = true) (hloading : s.tensor.region.next = .loading) (hleft : s.tensor.region.left ≠ 0)
    (hwaits : s.tensor.region.waits = false) : ∃ t, execStepSetLoadComplete s = .next t ∧
      t.tensor.region = { s.tensor.region with
        next := nextOf (readSetNo j (s.tensor.region.idx + 1) s).1 (s.tensor.region.idx + 1) } := by
  unfold execStepSetLoadComplete
  rw [howner]
  dsimp only
  rw [if_neg (by simp [hrun, hloading, hleft]), hwaits]
  exact ⟨_, rfl, rfl⟩

end Sys2Proof.Machine
end

section
set_option Elab.async false
open Sys2Proof Sys2Proof.Machine

/-- Settles O37: a drained tile goes on by what it drained for, and a boundary advances its table. -/
theorem barrierCommandsComplete : Obligations.BarrierCommandsComplete := by
  refine ⟨?_, ?_, ?_, ?_, ?_, ?_⟩
  · intro tile s hrun hdrained hhold
    exact (execTileDrainComplete_drained hrun hdrained).trans (by rw [hhold])
  · intro tile s hrun hdrained hleft hhold
    refine ⟨_, (execTileDrainComplete_drained hrun hdrained).trans (by rw [hhold]), ?_⟩
    rw [tileOf_checkBarriers_step (t := tile.val) tile.isLt (by rw [tileOf_setTile]; exact hleft) (by rw [tileOf_setTile]),
      tileOf_setTile]
  · intro tile lr s hrun hdrained hhold
    exact (execTileDrainComplete_drained hrun hdrained).trans (by rw [hhold])
  · intro tile k s hrun hdrained hk hhold
    refine (execTileDrainComplete_drained hrun hdrained).trans ?_
    rcases hk with rfl | rfl
    · rw [hhold]
    · rw [hhold]
  · intro set s hrun hall hwaits hset hsnoop hflight hnext
    exact execStepBarrierEnd_advances hrun hall hwaits hset hsnoop hflight hnext
  · intro e j s howner hrun hloading hleft hwaits
    exact execStepSetLoadComplete_loads howner hrun hloading hleft hwaits

end

section
set_option Elab.async false
/-! SUPPORT. What a completion leaves of the task registers, and what scheduling leaves of the jobs. -/

namespace Sys2Proof.Machine

@[simp] theorem tasks_postOn (n : Nat) (more : Bool) (c : Completion) (s : State) :
    (postOn n more c s).rings.tasks = s.rings.tasks := by
  unfold postOn
  split
  · rfl
  · split
    · rfl
    · split
      · rfl
      · dsimp only
        split <;> simp

/-- A completion frees the command's task register. -/
@[simp] theorem look_tasks_complete (tr status result detail : Nat) (s : State) :
    Tbl.look (complete tr status result detail s).rings.tasks tr = none := by
  unfold complete
  split
  · assumption
  · dsimp only
    split <;> simp

theorem look_tasks_complete_ne {tr m : Nat} (status result detail : Nat) (s : State) (h : m ≠ tr) :
    Tbl.look (complete tr status result detail s).rings.tasks m = Tbl.look s.rings.tasks m := by
  unfold complete
  split
  · rfl
  · dsimp only
    split <;> simp [Tbl.look_del_ne _ h]

theorem jobOf_congr {s t : State} (h : t.tensor = s.tensor) (e : Nat) : jobOf e t = jobOf e s := by rw [jobOf, jobOf, h]

@[simp] theorem jobOf_complete (e tr status result detail : Nat) (s : State) :
    jobOf e (complete tr status result detail s) = jobOf e s := jobOf_congr (by simp) e

theorem jobOf_modJob_self (e : Nat) (f : Job → Job) (s : State) : jobOf e (modJob e f s) = (jobOf e s).map f :=
  Tbl.look_adjust_self _ _ _

theorem jobOf_modJob_ne {e n : Nat} (f : Job → Job) (s : State) (h : n ≠ e) : jobOf n (modJob e f s) = jobOf n s :=
  Tbl.look_adjust_ne _ _ h

theorem jobs_saturationEvent (banks : Tbl QBank) (s : State) : (saturationEvent banks s).tensor.jobs = s.tensor.jobs := by
  unfold saturationEvent
  extract_lets
  split
  · rfl
  · split
    · rfl
    · simp only [logEvent_frame]
      rfl

theorem jobs_windowsEnd (k : WinEnd) (s : State) : (windowsEnd k s).tensor.jobs = s.tensor.jobs := by
  have hlatch : (qstatLatch s).tensor.jobs = s.tensor.jobs := by
    unfold qstatLatch
    exact jobs_saturationEvent _ _
  have hstep : ∀ (bs : List Nat) (u : State), (bs.foldl (fun acc b =>
      if k.ends (winMode (winOf b acc).inUse) then bankLatch b acc else acc) u).tensor = u.tensor := by
    intro bs
    induction bs with
    | nil => exact fun u => rfl
    | cons b bs ih =>
      intro u
      rw [List.foldl_cons, ih]
      split <;> rfl
  unfold windowsEnd
  dsimp only
  rw [hstep]
  split
  · exact hlatch
  · rfl

/-- What scheduling keeps of a job: all but its place (state, slice, leave, mapping and Waypoint). -/
structure Job.Kept (j k : Job) : Prop where
  desc : k.desc = j.desc
  tag : k.tag = j.tag
  cmdTag : k.cmdTag = j.cmdTag
  work : k.workPending = j.workPending
  urgent : k.urgent = j.urgent
  suspend : k.suspendPending = j.suspendPending
  active : j.state ≠ .suspended → k.state ≠ .suspended

/-- Every job of `s` is a job of `t`, kept but for its place. -/
def JobsKept (s t : State) : Prop := ∀ e, Option.Rel Job.Kept (jobOf e s) (jobOf e t)

theorem Job.Kept.refl (j : Job) : j.Kept j := ⟨rfl, rfl, rfl, rfl, rfl, rfl, id⟩

theorem Job.Kept.trans {i j k : Job} (h : i.Kept j) (h2 : j.Kept k) : i.Kept k where
  desc := h2.desc.trans h.desc
  tag := h2.tag.trans h.tag
  cmdTag := h2.cmdTag.trans h.cmdTag
  work := h2.work.trans h.work
  urgent := h2.urgent.trans h.urgent
  suspend := h2.suspend.trans h.suspend
  active := h2.active ∘ h.active

theorem JobsKept.of_jobs {s t : State} (h : t.tensor.jobs = s.tensor.jobs) : JobsKept s t := fun e => by
  rw [jobOf, jobOf, h]
  cases Tbl.look s.tensor.jobs e with
  | none => exact .none
  | some j => exact .some (.refl j)

theorem JobsKept.some {s t : State} {e : Nat} {j : Job} (h : JobsKept s t) (hj : jobOf e s = some j) :
    ∃ k, jobOf e t = some k ∧ j.Kept k := by
  have hrel := h e
  rw [hj] at hrel
  cases hk : jobOf e t with
  | none => rw [hk] at hrel; cases hrel
  | some k => rw [hk] at hrel; cases hrel with | some h2 => exact ⟨k, rfl, h2⟩

theorem jobsKept_modJob {e : Nat} {f : Job → Job} {s : State} (hf : ∀ j : Job, j.Kept (f j)) : JobsKept
    s (modJob e f s) := fun n => by
  by_cases h : n = e
  · subst h
    rw [jobOf_modJob_self]
    cases jobOf n s with
    | none => exact .none
    | some j => exact .some (hf j)
  · rw [jobOf_modJob_ne _ _ h]
    exact JobsKept.of_jobs rfl n

theorem JobsKept.trans_jobs {s t u : State} (h2 : JobsKept t u) (h : t.tensor.jobs = s.tensor.jobs) : JobsKept s u := fun e => by
  have := h2 e
  rwa [jobOf, h] at this

theorem jobsKept_leaveWaypoint (e : Nat) (k : LeaveKind) (next : Option Nat) (s : State) : JobsKept
    s (leaveWaypoint e k next s) := by
  unfold leaveWaypoint
  refine JobsKept.trans_jobs (t := windowsEnd .switch s) ?_ (jobs_windowsEnd .switch s)
  exact jobsKept_modJob fun _ => ⟨rfl, rfl, rfl, rfl, rfl, rfl, fun _ => nofun⟩

theorem jobsKept_startSwitch (e : Nat) (s : State) : JobsKept s (startSwitch e s) :=
  jobsKept_modJob fun _ => ⟨rfl, rfl, rfl, rfl, rfl, rfl, fun _ => nofun⟩

theorem jobsKept_pickOwner (s : State) : JobsKept s (pickOwner s) := by
  unfold pickOwner
  split
  · exact .of_jobs rfl
  · extract_lets
    split
    · exact jobsKept_startSwitch _ _
    · exact .of_jobs rfl

theorem jobsKept_schedule (s : State) : JobsKept s (schedule s) := by
  unfold schedule
  split
  · exact jobsKept_pickOwner s
  · split
    · split
      · split
        · exact jobsKept_leaveWaypoint _ _ _ _ |>.trans_jobs rfl
        · exact .of_jobs rfl
      · exact .of_jobs rfl
    · exact .of_jobs rfl

theorem jobOf_becomeEligible_self (e : Nat) (st : JobState) (s : State) :
    jobOf e (becomeEligible e st s) = (jobOf e s).map (fun j => { j with state := st, waitOrder := s.tensor.orderNext }) := by
  unfold becomeEligible
  dsimp only
  exact (jobOf_congr (by simp) e).trans
    (jobOf_modJob_self e (fun j => { j with state := st, waitOrder := (nextOrder s).1 }) (nextOrder s).2)

theorem Tbl.look_of_mem {α : Type} {t : Tbl α} {p : Nat × α} (h : p ∈ t) : ∃ v, Tbl.look t p.1 = some v := by
  induction t with
  | nil => cases h
  | cons q t ih =>
    unfold Tbl.look
    rcases List.mem_cons.mp h with rfl | ht
    · exact ⟨_, if_pos rfl⟩
    · split
      · exact ⟨_, rfl⟩
      · exact ih ht

/-- A job that a search by tag finds stands at its entry. -/
theorem jobOf_of_findJob {tag e : Nat} {j : Job} {s : State} (h : findJob tag s = some (e, j)) : ∃ j', jobOf e s = some j' :=
  Tbl.look_of_mem (List.mem_of_find?_eq_some h)

theorem jobOf_of_ownerJob {e : Nat} {j : Job} {s : State} (h : ownerJob s = some (e, j)) :
    s.tensor.owner = some e ∧ jobOf e s = some j := by
  unfold ownerJob at h
  split at h
  · rename_i o ho
    obtain ⟨k, hk, heq⟩ := Option.map_eq_some_iff.mp h
    cases heq
    exact ⟨ho, hk⟩
  · cases h

theorem jobOf_remember (e : Nat) (r : Ended) (s : State) : jobOf e (remember r s) = jobOf e s := by
  simp only [jobOf, remember]

/-- Whatever else it does, an end removes its job. -/
theorem jobOf_endJob (e status cause : Nat) (s : State) : jobOf e (endJob e status cause s) = none := by
  have hpick : ∀ u : State, jobOf e u = none → jobOf e (pickOwner u) = none := fun u hu => by
    have h := jobsKept_pickOwner u e
    rw [hu] at h
    cases hk : jobOf e (pickOwner u) with
    | none => rfl
    | some k => rw [hk] at h; cases h
  unfold endJob
  split
  · assumption
  · extract_lets +onlyGivenNames own s0 j s1 s2 s3 s4 s5 _ s6 s7 s8 rec_ s9 s10
    have h6 : jobOf e s6 = none := Tbl.look_del_self _ _
    have h7 : jobOf e s7 = none := by
      unfold s7
      split
      · exact h6
      · exact h6
    have h9 : jobOf e s9 = none := (jobOf_congr (t := s9) (s := s8) (by simp only [s9, logEvent_frame, postOn_frame]) e).trans
      ((jobOf_remember e _ s7).trans h7)
    have h10 : jobOf e s10 = none := by
      unfold s10
      split
      · exact (jobOf_congr (by simp) e).trans h9
      · exact h9
    split
    · exact hpick _ h10
    · exact h10

theorem withJob_of_findJob {tr e : Nat} {task : Task} {j : Job} {s : State} (f : Nat → Job → State)
    (h : findJob (cmdJobTag task) s = some (e, j)) : withJob tr task f s = f e j := by
  simp only [withJob, h]

theorem admitJob_admits {tr hv e : Nat} {task : Task} {d : BitVec 1024} {signed : List (Nat × Nat × Nat)} {s s2 : State}
    (h : admitJob tr task d hv signed s = .ok (e, s2)) : ∃ j, jobOf e s2 = some j ∧ j.desc = d ∧ j.tag = jTag d ∧
      j.cmdTag = dTag task.desc ∧ Tbl.look s2.rings.tasks tr = none := by
  unfold admitJob at h
  extract_lets +onlyGivenNames entry window cq o _ j0 saved j _ _ s1 at h
  split at h
  · cases h
  · split at h
    · cases h
    · clear_value entry
      cases entry with
      | none => cases h
      | some n =>
        obtain ⟨rfl, rfl⟩ := Prod.mk.inj (Except.ok.inj h)
        have hj : j.desc = d ∧ j.tag = jTag d ∧ j.cmdTag = dTag task.desc := by
          unfold j
          split
          · exact ⟨rfl, rfl, rfl⟩
          · split <;> exact ⟨rfl, rfl, rfl⟩
        obtain ⟨hdesc, htag, hcmd⟩ := hj
        have hset := (jobOf_becomeEligible_self n j.state (setJob n j s1)).trans (congrArg (Option.map _) (jobOf_setJob n j s1))
        exact ⟨_, (jobOf_complete _ _ _ _ _ _).trans hset, hdesc, htag, hcmd, look_tasks_complete _ _ _ _ _⟩

theorem raiseFault_stops (cause tile kind word slot : Nat) (outside : Bool) {e : Nat} {j : Job} {s : State}
    (howner : ownerJob s = some (e, j)) : ∃ k, jobOf e (raiseFault cause tile outside kind word slot s) = some k ∧
      k.stop.isSome = true ∧ k.abortTrs = j.abortTrs := by
  simp only [raiseFault, howner]
  cases hstop : j.stop with
  | none => exact ⟨_, (jobOf_writeSnapshot _ _ _ _).trans (jobOf_setJob _ _ _), rfl, rfl⟩
  | some o =>
    dsimp only
    split
    · rename_i heq
      exact ⟨j, (jobOf_of_ownerJob howner).2, by simp [hstop], rfl⟩
    · exact ⟨_, (jobOf_writeSnapshot _ _ _ _).trans (jobOf_setJob _ _ _), rfl, rfl⟩

theorem ownerJob_of_jobOf {e : Nat} {j : Job} {s : State} (howner : s.tensor.owner = some e) (hj : jobOf e s = some j) :
    ownerJob s = some (e, j) := by
  simp [ownerJob, howner, hj]

theorem execJobAbort_stops {tr e : Nat} {task : Task} {j : Job} {s : State} (hready : readyTask tr 0x51 s = some task)
    (hfind : findJob (cmdJobTag task) s = some (e, j)) (howner : ownerJob s = some (e, j)) (hrun : j.state = .running) :
    ∃ t k, execJobAbort tr s = .next t ∧ jobOf e t = some k ∧ k.stop.isSome = true ∧ tr ∈ k.abortTrs := by
  unfold execJobAbort
  simp only [hready, withJob_of_findJob _ hfind, hrun]
  obtain ⟨ho, hj⟩ := jobOf_of_ownerJob howner
  have hj1 := (jobOf_modJob_self e (fun k => { k with abortTrs := k.abortTrs ++ [tr] }) (setPhase tr .running s)).trans
    (congrArg (Option.map _) (hj : jobOf e (setPhase tr .running s) = some j))
  have ho1 : (modJob e (fun k => { k with abortTrs := k.abortTrs ++ [tr] }) (setPhase tr .running s)).tensor.owner = some e := ho
  obtain ⟨k, hk, hstop, htrs⟩ := raiseFault_stops causeAbort 0 0 0 7 true (ownerJob_of_jobOf ho1 hj1)
  exact ⟨_, k, rfl, hk, hstop, by simp [htrs]⟩

theorem execJobAbort_ends {tr e : Nat} {task : Task} {j : Job} {s : State} (hready : readyTask tr 0x51 s = some task)
    (hfind : findJob (cmdJobTag task) s = some (e, j)) (hrun : j.state ≠ .running) (hsave : j.state ≠ .saving)
    (hrestore : j.state ≠ .restoring) : ∃ t, execJobAbort tr s = .next t ∧ jobOf e t = none := by
  unfold execJobAbort
  simp only [hready, withJob_of_findJob _ hfind]
  exact ⟨_, rfl, jobOf_endJob _ _ _ _⟩

theorem JobsKept.trans {s t u : State} (h : JobsKept s t) (h2 : JobsKept t u) : JobsKept s u := fun e => by
  have hst := h e
  have htu := h2 e
  revert hst htu
  generalize jobOf e s = a, jobOf e t = b, jobOf e u = c
  intro hst htu
  cases hst with
  | none => cases htu; exact .none
  | some h1 => cases htu with | some h2 => exact .some (h1.trans h2)

theorem jobsKept_becomeEligible (e : Nat) {st : JobState} (hst : st ≠ .suspended) (s : State) :
    JobsKept s (becomeEligible e st s) := by
  unfold becomeEligible
  refine JobsKept.trans (t := modJob e (fun j => { j with state := st, waitOrder := (nextOrder s).1 }) (nextOrder s).2) ?_
    (.of_jobs (by simp))
  exact JobsKept.trans_jobs (t := (nextOrder s).2) (jobsKept_modJob fun j => ⟨rfl, rfl, rfl, rfl, rfl, rfl, fun _ => hst⟩) rfl

theorem jobsKept_wake (e : Nat) (s : State) : JobsKept s (wake e s) := by
  unfold wake
  split
  · split
    · exact (jobsKept_becomeEligible e (by split <;> nofun) s).trans (jobsKept_schedule _)
    · exact .of_jobs rfl
  · exact .of_jobs rfl

theorem execJobKick_wakes {tr e : Nat} {task : Task} {j : Job} {s : State} (hready : readyTask tr 0x52 s = some task)
    (hfind : findJob (cmdJobTag task) s = some (e, j)) : ∃ t k, execJobKick tr s = .next t ∧ jobOf e t = some k ∧
      k.workPending = true ∧ Tbl.look t.rings.tasks tr = none := by
  obtain ⟨j', hj'⟩ := jobOf_of_findJob hfind
  unfold execJobKick
  simp only [hready, withJob_of_findJob _ hfind]
  have hj1 : jobOf e (modJob e (fun k => { k with workPending := true }) (complete tr 0 0 0 s)) = _ :=
    (jobOf_modJob_self e _ _).trans (congrArg (Option.map _) ((jobOf_complete _ _ _ _ _ _).trans hj'))
  obtain ⟨k, hk, hkept⟩ := (jobsKept_wake _ _).some hj1
  refine ⟨_, k, rfl, hk, hkept.work, ?_⟩
  unfold setWork
  rw [(wake_frame _ _).2.2.2.2.2.2.1]
  exact look_tasks_complete _ _ _ _ _

theorem logEvent_tensor (ev : Ev) (detail : Nat) (s : State) : (logEvent ev detail s).tensor = s.tensor := by
  simp only [logEvent_frame]

theorem jobsKept_requestLeave (e : Nat) (k : LeaveKind) (s : State) : JobsKept s (requestLeave e k s) := by
  unfold requestLeave
  dsimp only
  split
  · exact (jobsKept_leaveWaypoint _ _ _ _).trans_jobs rfl
  · exact .of_jobs rfl

theorem execJobSuspend_suspends {tr e : Nat} {task : Task} {j : Job} {s : State} (hready : readyTask tr 0x53 s = some task)
    (hfind : findJob (cmdJobTag task) s = some (e, j)) (hstate : j.state ≠ .suspended) :
    ∃ t k, execJobSuspend tr s = .next t ∧ jobOf e t = some k ∧ (k.state = .suspended ∨ k.suspendPending = true) := by
  obtain ⟨j', hj'⟩ := jobOf_of_findJob hfind
  have hpend := (jobOf_modJob_self e (fun k => { k with suspendPending := true, suspendTrs := k.suspendTrs ++ [tr] })
    (setPhase tr .running s)).trans (congrArg (Option.map _) hj')
  have hstop := (jobOf_modJob_self e (fun k => { k with state := .suspended }) s).trans (congrArg (Option.map _) hj')
  unfold execJobSuspend
  simp only [hready, withJob_of_findJob _ hfind]
  cases hs : j.state with
  | suspended => exact absurd hs hstate
  | running =>
    obtain ⟨k, hk, hkept⟩ := (jobsKept_requestLeave e .suspend _).some hpend
    exact ⟨_, k, rfl, hk, .inr hkept.suspend⟩
  | saving => exact ⟨_, _, rfl, hpend, .inr rfl⟩
  | restoring => exact ⟨_, _, rfl, hpend, .inr rfl⟩
  | exchanging => exact ⟨_, _, rfl, hpend, .inr rfl⟩
  | ready => exact ⟨_, _, rfl, (jobOf_complete _ _ _ _ _ _).trans hstop, .inl rfl⟩
  | waiting => exact ⟨_, _, rfl, (jobOf_complete _ _ _ _ _ _).trans hstop, .inl rfl⟩
  | parked => exact ⟨_, _, rfl, (jobOf_complete _ _ _ _ _ _).trans hstop, .inl rfl⟩
  | idle => exact ⟨_, _, rfl, (jobOf_complete _ _ _ _ _ _).trans hstop, .inl rfl⟩

theorem execJobResume_resumes {tr e : Nat} {task : Task} {j : Job} {s : State} (hready : readyTask tr 0x54 s = some task)
    (hfind : findJob (cmdJobTag task) s = some (e, j)) (hstate : j.state = .suspended) :
    ∃ t k, execJobResume tr s = .next t ∧ jobOf e t = some k ∧ k.state ≠ .suspended ∧ Tbl.look t.rings.tasks tr = none := by
  obtain ⟨j', hj'⟩ := jobOf_of_findJob hfind
  unfold execJobResume
  simp only [hready, withJob_of_findJob _ hfind, hstate, bne_self_eq_false, Bool.false_eq_true, if_false]
  generalize hst : (if (!j.hasWp) = true then JobState.ready else if j.mapped = true then .parked else .waiting) = st
  have hne : st ≠ .suspended := by
    subst hst
    split
    · nofun
    · split <;> nofun
  have hj1 := (jobOf_becomeEligible_self e st (complete tr 0 0 0 s)).trans
    (congrArg (Option.map _) ((jobOf_complete _ _ _ _ _ _).trans hj'))
  obtain ⟨k, hk, hkept⟩ := (jobsKept_schedule _).some hj1
  refine ⟨_, k, rfl, hk, hkept.active hne, ?_⟩
  rw [(congrArg Rings.tasks (by simp) : _ = (complete tr 0 0 0 s).rings.tasks)]
  exact look_tasks_complete _ _ _ _ _

/-- While a job that runs owns the complex, scheduling starts no switch: it only asks the owner to leave. -/
theorem schedule_owned {e : Nat} {j : Job} {s : State} (howner : s.tensor.owner = some e) (hj : jobOf e s = some j) :
    (∃ k, jobOf e (schedule s) = some k ∧ k.sliceOver = j.sliceOver ∧ k.urgent = j.urgent) ∧
    (s.tensor.heldByStep4 = false → s.tensor.request = true → (schedule s).tensor.request = true) := by
  have hleave : ∀ (k : LeaveKind) (n : Option Nat) (u : State), jobOf e u = some j →
      ∃ i, jobOf e (leaveWaypoint e k n u) = some i ∧ i.sliceOver = j.sliceOver ∧ i.urgent = j.urgent := fun k n u hu => by
    have hu1 : jobOf e (windowsEnd .switch u) = some j := by rw [jobOf, jobs_windowsEnd]; exact hu
    exact ⟨_, (jobOf_modJob_self _ _ _).trans (congrArg (Option.map _) hu1), rfl, rfl⟩
  unfold schedule
  simp only [howner, hj]
  cases bestEligible s with
  | none => exact ⟨⟨j, hj, rfl, rfl⟩, fun _ h => h⟩
  | some p =>
    dsimp only
    split
    · cases hheld : s.tensor.heldByStep4 with
      | true => exact ⟨hleave _ _ _ hj, nofun⟩
      | false => exact ⟨⟨j, hj, rfl, rfl⟩, fun _ _ => rfl⟩
    · exact ⟨⟨j, hj, rfl, rfl⟩, fun _ h => h⟩

theorem execSliceExpiry_marks {e : Nat} {j : Job} {s : State} (howner : ownerJob s = some (e, j)) (hrun : j.state = .running)
    (hclass : jClass j.desc = 2) :
    ∃ t k, execSliceExpiry s = .next t ∧ jobOf e t = some k ∧ k.sliceOver = true := by
  obtain ⟨ho, hj⟩ := jobOf_of_ownerJob howner
  have hj1 := (jobOf_modJob_self e (fun k => { k with sliceOver := true }) s).trans (congrArg (Option.map _) hj)
  unfold execSliceExpiry
  simp only [howner, hrun, hclass, beq_self_eq_true, Bool.and_self, if_true]
  obtain ⟨⟨k, hk, hover, -⟩, -⟩ := schedule_owned (s := modJob e _ s) ho hj1
  exact ⟨_, k, rfl, hk, hover⟩

/-- A job that has starved for its time becomes urgent. -/
def Job.promoted (order : Nat) (j : Job) : Job :=
  { j with urgent := true, urgentOrder := order, promotions := satAdd 32 j.promotions 1 }

theorem execStarvationPromotion_promotes {tag : W32} {e : Nat} {j : Job} {s : State} (hfind : findJob tag.toNat s = some (e, j))
    (hel : eligible j = true) (hclass : jClass j.desc = 2) (hurgent : j.urgent = false) :
    ∃ t k, execStarvationPromotion tag s = .next t ∧ jobOf e t = some k ∧ k.urgent = true := by
  obtain ⟨j', hj'⟩ := jobOf_of_findJob hfind
  have hj1 := (jobOf_modJob_self e (Job.promoted (nextOrder s).1) (nextOrder s).2).trans (congrArg (Option.map _) hj')
  obtain ⟨k, hk, hkept⟩ := (JobsKept.of_jobs (congrArg Tensor.jobs (logEvent_tensor .jobPromoted 0 _))).some hj1
  obtain ⟨i, hi, hi2⟩ := (jobsKept_schedule _).some hk
  refine ⟨_, i, ?_, hi, hi2.urgent.trans hkept.urgent⟩
  simp only [execStarvationPromotion, hfind, hel, hclass, hurgent, beq_self_eq_true, Bool.not_false, Bool.and_self, if_true]
  rfl

theorem execUrgentQuantumEnd_ends {e : Nat} {j : Job} {s : State} (howner : ownerJob s = some (e, j)) (hrun : j.state = .running)
    (hurgent : j.urgent = true) : ∃ t k, execUrgentQuantumEnd s = .next t ∧ jobOf e t = some k ∧ k.urgent = false ∧
      (s.tensor.heldByStep4 = false → t.tensor.request = true) := by
  obtain ⟨ho, hj⟩ := jobOf_of_ownerJob howner
  have hj1 := (jobOf_modJob_self e (fun k => { k with urgent := false }) s).trans (congrArg (Option.map _) hj)
  have hgo : ∀ u : State, u.tensor.owner = some e → jobOf e u = some { j with urgent := false } → u.tensor.request = true →
      u.tensor.heldByStep4 = s.tensor.heldByStep4 → ∃ t k, Host.Outcome.next (schedule u) =
        (Host.Outcome.next t : Host.Outcome State Fault Refusal) ∧ jobOf e t = some k ∧ k.urgent = false ∧
        (s.tensor.heldByStep4 = false → t.tensor.request = true) := fun u hu huj hureq hheld => by
    obtain ⟨⟨k, hk, -, hkurgent⟩, hreq⟩ := schedule_owned hu huj
    exact ⟨_, k, rfl, hk, hkurgent, fun h => hreq (hheld.trans h) hureq⟩
  unfold execUrgentQuantumEnd
  simp only [howner, hrun, hurgent, beq_self_eq_true, Bool.and_self, if_true]
  exact hgo _ ho hj1 rfl rfl

theorem execPreemptLate_counts {e : Nat} {j : Job} {s : State} (howner : ownerJob s = some (e, j)) (hrun : j.state = .running)
    (hreq : s.tensor.request = true) (hlate : s.tensor.late = false) : ∃ t k, execPreemptLate s = .next t ∧
      t.tensor.late = true ∧ jobOf e t = some k ∧ k.lateCount = satAdd 32 j.lateCount 1 := by
  obtain ⟨-, hj⟩ := jobOf_of_ownerJob howner
  have hj1 := (jobOf_modJob_self e (fun k => { k with lateCount := satAdd 32 k.lateCount 1 }) s).trans (congrArg (Option.map _) hj)
  unfold execPreemptLate
  simp only [howner, hrun, hreq, hlate, beq_self_eq_true, Bool.not_false, Bool.and_self, if_true]
  exact ⟨_, _, rfl, by simp only [logEvent_frame], (jobOf_congr (logEvent_tensor _ _ _) e).trans hj1, rfl⟩

end Sys2Proof.Machine
end

section
set_option Elab.async false
open Sys2Proof Sys2Proof.Machine

/-- Settles O38: each JOB command and timer by the job it names; what scheduling does after it keeps what it set. -/
theorem jobCommandsComplete : Obligations.JobCommandsComplete := by
  unfold Obligations.JobCommandsComplete
  refine ⟨?submit, ?stop, ?finish, ?kick, ?suspend, ?resume, ?query, ?slice, ?starve, ?urgent, ?late⟩
  case submit =>
    intro tr lib task d hv signed e s s1 s2 hready hcheck hadmit
    obtain ⟨j, hj, hdesc, htag, hcmd, htask⟩ := admitJob_admits hadmit
    obtain ⟨k, hk, hkept⟩ := (jobsKept_schedule s2).some hj
    refine ⟨schedule s2, k, ?_, hk, hkept.desc.trans hdesc, hkept.tag.trans htag, hkept.cmdTag.trans hcmd, by simpa using htask⟩
    show execJobSubmit tr lib s = _
    simp only [execJobSubmit, hready, hcheck, hadmit]
  case stop => exact fun tr task e j s hready hfind howner hrun => execJobAbort_stops hready hfind howner hrun
  case finish => exact fun tr task e j s hready hfind hrun hsave hrestore => execJobAbort_ends hready hfind hrun hsave hrestore
  case kick => exact fun tr task e j s hready hfind => execJobKick_wakes hready hfind
  case suspend => exact fun tr task e j s hready hfind hstate => execJobSuspend_suspends hready hfind hstate
  case resume => exact fun tr task e j s hready hfind hstate => execJobResume_resumes hready hfind hstate
  case query =>
    intro tr task e j s hready hfind
    show execJobQuery tr s = _
    simp only [execJobQuery, hready, hfind]
  case slice => exact fun e j s howner hrun hclass => execSliceExpiry_marks howner hrun hclass
  case starve => exact fun tag e j s hfind hel hclass hurgent => execStarvationPromotion_promotes hfind hel hclass hurgent
  case urgent => exact fun e j s howner hrun hurgent => execUrgentQuantumEnd_ends howner hrun hurgent
  case late => exact fun e j s howner hrun hreq hlate => execPreemptLate_counts howner hrun hreq hlate

end

section
set_option Elab.async false
/-! SUPPORT. Fuse writes, their authorisation, and the debug connector (R506 to R515). -/

namespace Sys2Proof.Machine

@[simp] theorem burn_sec (tr : Nat) (w : FuseWrite) (s : State) :
    (burn tr w s).sec = { s.sec with fuse := some { tr := tr, write := w, words := w.words } } := rfl

/-- The security part once the nonce is spent. -/
def Sec.spent (x : Sec) : Sec := { x with nonce := none }

theorem authorised_of_accepted {tr op : Nat} {a : AuthInput} {s : State} (f : State → State) (h : authAccepted op a s = true) :
    authorised tr op a f s = f (setSec Sec.spent s) := by
  simp only [authorised, checkAuth, h, if_true]
  rfl

theorem fuseCommand_runs {tr op : Nat} {lockedOnly : Bool} {task : Task} {s : State} (f : State → State)
    (hready : readyTask tr op s = some task) (hfuse : s.sec.fuse = none) (hlock : lockedOnly = true → s.sec.debugUnlocked = false) :
    fuseCommand tr op lockedOnly f s = f s := by
  have hopen : (lockedOnly && s.sec.debugUnlocked) = false := by
    cases lockedOnly with
    | false => rfl
    | true => exact hlock rfl
  simp [fuseCommand, hready, hfuse, hopen]

theorem keySlotOf_spent (k : Nat) (s : State) : keySlotOf k (setSec Sec.spent s) = keySlotOf k s := rfl

@[simp] theorem usableSlots_spent (s : State) : usableSlots (setSec Sec.spent s) = usableSlots s := rfl

@[simp] theorem blankSlot_spent (s : State) : blankSlot (setSec Sec.spent s) = blankSlot s := rfl

@[simp] theorem keySlotOf_putSlot (k : Nat) (x : KeySlot) (s : State) : keySlotOf k (putSlot k x s) = x := by
  simp [keySlotOf, putSlot]

theorem keySlotOf_congr {s t : State} (k : Nat) (h : t.sec = s.sec) : keySlotOf k t = keySlotOf k s := by
  rw [keySlotOf, keySlotOf, h]

theorem keySlotOf_complete (k tr status result detail : Nat) (s : State) :
    keySlotOf k (complete tr status result detail s) = keySlotOf k s := keySlotOf_congr k (by simp)

theorem keySlotOf_logEvent (k : Nat) (ev : Ev) (detail : Nat) (s : State) :
    keySlotOf k (logEvent ev detail s) = keySlotOf k s := keySlotOf_congr k (by simp)

theorem execSecEnroll_starts {tr k : Nat} {task : Task} {digest : BitVec 512} {auth : AuthInput} {s : State}
    (hready : readyTask tr 0x18 s = some task) (hfuse : s.sec.fuse = none) (hlock : s.sec.debugUnlocked = false)
    (hblank : blankSlot s = some k) (hauth : usableSlots s = [] ∨ authAccepted 0x18 auth s = true) :
    ∃ t, execSecEnroll tr digest auth s = .next t ∧ t.sec.fuse = some { tr := tr, write := .enroll k digest, words := 9 } ∧
      t.sec.slots = s.sec.slots ∧ (usableSlots s ≠ [] → t.sec.nonce = none) := by
  unfold execSecEnroll
  rw [fuseCommand_runs _ hready hfuse fun _ => hlock]
  by_cases hempty : usableSlots s = []
  · refine ⟨_, rfl, ?_⟩
    simp only [hempty, List.isEmpty_nil, if_true, enrolInto, hblank]
    exact ⟨rfl, rfl, fun h => absurd rfl h⟩
  · refine ⟨_, rfl, ?_⟩
    rw [if_neg (by simpa using hempty), authorised_of_accepted _ (hauth.resolve_left hempty)]
    simp only [enrolInto, blankSlot_spent, hblank]
    exact ⟨rfl, rfl, fun _ => rfl⟩

theorem execSecRevoke_starts {tr k : Nat} {task : Task} {auth : AuthInput} {s : State}
    (hready : readyTask tr 0x19 s = some task) (hfuse : s.sec.fuse = none) (hlock : s.sec.debugUnlocked = false)
    (hauth : authAccepted 0x19 auth s = true) (hk : k = authField auth 16 1) (hk4 : k < 4) (hlast : usableSlots s ≠ [k]) :
    ∃ t, execSecRevoke tr auth s = .next t ∧ t.sec.fuse = some { tr := tr, write := .revoke k, words := 1 } ∧
      t.sec.nonce = none := by
  unfold execSecRevoke
  dsimp only
  rw [fuseCommand_runs _ hready hfuse fun _ => hlock, authorised_of_accepted _ hauth, ← hk, if_neg (by omega),
    if_neg (by simpa using hlast)]
  exact ⟨_, rfl, rfl, rfl⟩

theorem execSecSetPolicy_starts {tr : Nat} {task : Task} {auth : AuthInput} {s : State}
    (hready : readyTask tr 0x1A s = some task) (hfuse : s.sec.fuse = none) (hlock : s.sec.debugUnlocked = false)
    (hauth : authAccepted 0x1A auth s = true) : ∃ t, execSecSetPolicy tr auth s = .next t ∧ t.sec.nonce = none ∧
      t.sec.fuse = some { tr := tr, write := .policy (bit (authOperand auth) 0) (bit (authOperand auth) 1), words := 1 } := by
  unfold execSecSetPolicy
  dsimp only
  rw [fuseCommand_runs _ hready hfuse fun _ => hlock, authorised_of_accepted _ hauth]
  exact ⟨_, rfl, rfl, rfl⟩

theorem execSecAdvanceSvn_starts {tr n : Nat} {task : Task} {auth : AuthInput} {s : State}
    (hready : readyTask tr 0x1B s = some task) (hfuse : s.sec.fuse = none) (hauth : authAccepted 0x1B auth s = true)
    (hn : n = authOperand auth % 128) (h1 : 1 ≤ n) (h64 : n ≤ 64) (hmin : s.sec.svnMin ≤ n) (h0 : n ≤ imageSvn 0 s)
    (himg : n ≤ imageSvn 1 s) : ∃ t, execSecAdvanceSvn tr auth s = .next t ∧ t.sec.nonce = none ∧
      t.sec.fuse = some { tr := tr, write := .svn n, words := 1 } ∧ t.sec.svnMin = s.sec.svnMin := by
  have himage : ∀ b, imageSvn b (setSec Sec.spent s) = imageSvn b s := fun _ => rfl
  have hsvn : (setSec Sec.spent s).sec.svnMin = s.sec.svnMin := rfl
  unfold execSecAdvanceSvn
  dsimp only
  rw [fuseCommand_runs (lockedOnly := false) _ hready hfuse nofun, authorised_of_accepted _ hauth, ← hn, himage, himage, hsvn,
    if_neg (by simp; omega), if_neg (by simp; omega)]
  exact ⟨_, rfl, rfl, rfl, rfl⟩

theorem execSecChallenge_gives {tr : Nat} {task : Task} {s : State} (hready : readyTask tr 0x1C s = some task)
    (hfails : s.sec.authFails < 8) : ∃ t nonce, execSecChallenge tr s = .next t ∧ t.sec.nonce = some nonce ∧
      t.sec.nonceAt = s.tclk ∧ Tbl.look t.rings.tasks tr = none := by
  unfold execSecChallenge
  simp only [hready]
  rw [if_neg (by omega)]
  refine ⟨_, (drawFree s).1, rfl, ?_, ?_, look_tasks_complete _ _ _ _ _⟩
  · simp
  · simp

theorem execSecDebugUnlock_opens {tr : Nat} {task : Task} {auth : AuthInput} {s : State}
    (hready : readyTask tr 0x1D s = some task) (hdis : s.sec.debugDisable = false) (hauth : authAccepted 0x1D auth s = true) :
    ∃ t, execSecDebugUnlock tr auth s = .next t ∧ t.sec.debugUnlocked = true ∧ t.sec.unlockClass = authField auth 9 1 ∧
      t.power.tamperSticky = false ∧ Tbl.look t.rings.tasks tr = none := by
  unfold execSecDebugUnlock
  simp only [hready, hdis, Bool.false_eq_true, if_false, authorised_of_accepted _ hauth]
  exact ⟨_, rfl, by simp, by simp, by simp, look_tasks_complete _ _ _ _ _⟩

theorem execFuseWriteComplete_word {f : FuseOp} {k : Nat} {d : BitVec 512} {s : State} (hfuse : s.sec.fuse = some f)
    (hw : f.write = .enroll k d) (hmore : 1 < f.words) : ∃ t, execFuseWriteComplete s = .next t ∧
      t.sec.fuse = some { f with words := f.words - 1 } ∧ (keySlotOf k t).valid = false ∧
      (keySlotOf k t).digest = BitVec.ofNat 512 (d.toNat % 2 ^ (64 * (10 - f.words))) := by
  unfold execFuseWriteComplete
  simp only [hfuse, hmore, if_true, hw]
  exact ⟨_, rfl, rfl, by simp [burnDigest], by simp [burnDigest]⟩

theorem execFuseWriteComplete_enroll {f : FuseOp} {k : Nat} {d : BitVec 512} {s : State} (hfuse : s.sec.fuse = some f)
    (hw : f.write = .enroll k d) (hlast : f.words = 1) : ∃ t, execFuseWriteComplete s = .next t ∧ t.sec.fuse = none ∧
      keySlotOf k t = { valid := true, revoked := false, spent := false, digest := d } ∧
      Tbl.look t.rings.tasks f.tr = none := by
  unfold execFuseWriteComplete
  simp only [hfuse, hlast, lt_irrefl, if_false, hw]
  refine ⟨_, rfl, by simp [putSlot], ?_, look_tasks_complete _ _ _ _ _⟩
  rw [keySlotOf_complete, keySlotOf_logEvent, keySlotOf_putSlot]
  rfl

theorem execFuseWriteComplete_revoke {f : FuseOp} {k : Nat} {s : State} (hfuse : s.sec.fuse = some f)
    (hw : f.write = .revoke k) (hlast : f.words = 1) : ∃ t, execFuseWriteComplete s = .next t ∧ t.sec.fuse = none ∧
      keySlotOf k t = { keySlotOf k s with revoked := true } ∧ Tbl.look t.rings.tasks f.tr = none := by
  unfold execFuseWriteComplete
  simp only [hfuse, hlast, lt_irrefl, if_false, hw]
  refine ⟨_, rfl, by simp [putSlot], ?_, look_tasks_complete _ _ _ _ _⟩
  rw [keySlotOf_complete, keySlotOf_logEvent, keySlotOf_putSlot]
  rfl

theorem execFuseWriteComplete_policy {f : FuseOp} {a b : Bool} {s : State} (hfuse : s.sec.fuse = some f)
    (hw : f.write = .policy a b) (hlast : f.words = 1) : ∃ t, execFuseWriteComplete s = .next t ∧ t.sec.fuse = none ∧
      t.sec.requireSigned = (s.sec.requireSigned || a) ∧ t.sec.debugDisable = (s.sec.debugDisable || b) ∧
      Tbl.look t.rings.tasks f.tr = none := by
  unfold execFuseWriteComplete
  simp only [hfuse, hlast, lt_irrefl, if_false, hw]
  exact ⟨_, rfl, by simp, by simp, by simp, look_tasks_complete _ _ _ _ _⟩

theorem execFuseWriteComplete_svn {f : FuseOp} {n : Nat} {s : State} (hfuse : s.sec.fuse = some f) (hw : f.write = .svn n)
    (hlast : f.words = 1) : ∃ t, execFuseWriteComplete s = .next t ∧ t.sec.fuse = none ∧ t.sec.svnMin = max s.sec.svnMin n ∧
      Tbl.look t.rings.tasks f.tr = none := by
  unfold execFuseWriteComplete
  simp only [hfuse, hlast, lt_irrefl, if_false, hw]
  exact ⟨_, rfl, by simp, by simp, look_tasks_complete _ _ _ _ _⟩

end Sys2Proof.Machine
end

section
set_option Elab.async false
open Sys2Proof Sys2Proof.Machine

/-- Settles O58: each fuse command past its authorisation, and each write of the fuses by its kind. -/
theorem securityCommandsComplete : Obligations.SecurityCommandsComplete := by
  unfold Obligations.SecurityCommandsComplete
  refine ⟨?enroll, ?revoke, ?policy, ?svn, ?challenge, ?unlock, ?word, ?enrolled, ?revoked, ?policySet, ?svnSet⟩
  case enroll => exact fun tr task digest auth k s hr hf hl hb ha => execSecEnroll_starts hr hf hl hb ha
  case revoke => exact fun tr task auth k s hr hf hl ha hk h4 hlast => execSecRevoke_starts hr hf hl ha hk h4 hlast
  case policy => exact fun tr task auth s hr hf hl ha => execSecSetPolicy_starts hr hf hl ha
  case svn => exact fun tr task auth n s hr hf ha hn h1 h64 hmin h0 hi => execSecAdvanceSvn_starts hr hf ha hn h1 h64 hmin h0 hi
  case challenge => exact fun tr task s hr hfails => execSecChallenge_gives hr hfails
  case unlock => exact fun tr task auth s hr hd ha => execSecDebugUnlock_opens hr hd ha
  case word => exact fun f k d s hf hw hmore => execFuseWriteComplete_word hf hw hmore
  case enrolled => exact fun f k d s hf hw hlast => execFuseWriteComplete_enroll hf hw hlast
  case revoked => exact fun f k s hf hw hlast => execFuseWriteComplete_revoke hf hw hlast
  case policySet => exact fun f a b s hf hw hlast => execFuseWriteComplete_policy hf hw hlast
  case svnSet => exact fun f n s hf hw hlast => execFuseWriteComplete_svn hf hw hlast

end

section
set_option Elab.async false
/-! SUPPORT. SPDM over DOE instance 0 (R516 to R518): what an answer leaves. -/

namespace Sys2Proof.Machine

/-- `t` is `s` after the answer `bytes` to a request was given for the message `msg`. -/
structure SpdmSent (msg bytes : List Byte) (s t : State) : Prop where
  doe : t.host.doe0 = some bytes
  answer : t.host.answer = .data bytes
  version : t.sec.spdm.version = s.sec.spdm.version
  caps : t.sec.spdm.caps = s.sec.spdm.caps
  algs : t.sec.spdm.algs = s.sec.spdm.algs
  session : t.sec.spdm.session = s.sec.spdm.session
  transcript : t.sec.spdm.transcript = s.sec.spdm.transcript ++ msg
  whole : msg.length ≤ 4096 → bytes = msg
  chunked : 4096 < msg.length → t.sec.spdm.chunks = msg ∧ t.sec.spdm.chunkSeq = 0

theorem spdmSend_sends (msg : List Byte) (s : State) : ∃ bytes, SpdmSent msg bytes s (spdmSend msg s) := by
  unfold spdmSend
  by_cases hlen : msg.length ≤ 4096
  · simp only [hlen, if_true]
    exact ⟨msg, rfl, rfl, rfl, rfl, rfl, rfl, rfl, fun _ => rfl, fun h => absurd hlen (by omega)⟩
  · simp only [hlen, if_false]
    exact ⟨_, rfl, rfl, rfl, rfl, rfl, rfl, rfl, fun h => absurd h hlen, fun _ => ⟨rfl, rfl⟩⟩

/-- A signed answer adds its body and its signature to the transcript. -/
theorem spdmSigned_sends (code : Nat) (fields : List Byte) (s : State) :
    ∃ msg bytes, SpdmSent msg bytes s (spdmSigned code fields s) := by
  unfold spdmSigned
  exact ⟨_, spdmSend_sends _ s⟩

theorem spdmAfter_runs {s : State} (f : State → State) (hserved : doeServed s = true) (halgs : s.sec.spdm.algs = true) :
    spdmAfter f s = f s := by
  simp [spdmAfter, hserved, halgs]

theorem execSpdmGetVersion_answers {s : State} (hserved : doeServed s = true) : ∃ t bytes, execSpdmGetVersion s = .next t ∧
    t.host.doe0 = some bytes ∧ t.host.answer = .data bytes ∧ t.sec.spdm.version = true ∧ t.sec.spdm.caps = false ∧
    t.sec.spdm.algs = false ∧ t.sec.spdm.session = false := by
  simp only [execSpdmGetVersion, hserved, Bool.not_true, Bool.false_eq_true, if_false]
  obtain ⟨bytes, h⟩ := spdmSend_sends (Config.spdmBody 0x04 [0x13#8]) (setSpdm (fun _ => { Spdm.reset with version := true }) s)
  exact ⟨_, bytes, rfl, h.doe, h.answer, h.version, h.caps, h.algs, h.session⟩

theorem execSpdmGetCapabilities_answers {s : State} (hserved : doeServed s = true) (hversion : s.sec.spdm.version = true) :
    ∃ t bytes, execSpdmGetCapabilities s = .next t ∧ t.host.doe0 = some bytes ∧ t.host.answer = .data bytes ∧
      t.sec.spdm.caps = true := by
  simp only [execSpdmGetCapabilities, hserved, hversion, Bool.not_true, Bool.false_eq_true, if_false]
  obtain ⟨bytes, h⟩ := spdmSend_sends (Config.spdmBody 0x61 (leBytes 4 65536 ++ leBytes 4 4096))
    (setSpdm (fun p => { p with caps := true }) s)
  exact ⟨_, bytes, rfl, h.doe, h.answer, h.caps⟩

theorem execSpdmNegotiateAlgorithms_answers (request : List Byte) {s : State} (hserved : doeServed s = true)
    (hcaps : s.sec.spdm.caps = true) : ∃ t bytes, execSpdmNegotiateAlgorithms request s = .next t ∧ t.host.doe0 = some bytes ∧
      t.host.answer = .data bytes ∧ (t.sec.spdm.algs = true ↔
        s.sec.spdm.algs = true ∨ (List.range 7).any (fun r => Config.spdmOffers r request) = true) := by
  simp only [execSpdmNegotiateAlgorithms, hserved, hcaps, Bool.not_true, Bool.false_eq_true, if_false]
  cases hoffer : (List.range 7).any (fun r => Config.spdmOffers r request) with
  | false =>
    have hnil : (List.range 7).filter (fun r => Config.spdmOffers r request) = [] :=
      List.filter_eq_nil_iff.mpr (List.any_eq_false.mp hoffer)
    simp only [hnil, List.isEmpty_nil, if_true]
    exact ⟨_, _, rfl, rfl, rfl, by simp [spdmError, doeAnswer]⟩
  | true =>
    obtain ⟨r, hr, hoffers⟩ := List.any_eq_true.mp hoffer
    rw [if_neg (by simpa using ⟨r, by simpa using hr, hoffers⟩)]
    obtain ⟨bytes, h⟩ := spdmSend_sends
      (Config.spdmBody 0x63 (((List.range 7).filter (fun r => Config.spdmOffers r request)).map (BitVec.ofNat 8)))
      (setSpdm (fun p => { p with algs := true }) (spdmTake request s))
    exact ⟨_, bytes, rfl, h.doe, h.answer, iff_of_true h.algs (.inr rfl)⟩

theorem execSpdmGetCertificate_answers (offset len : Nat) {msg : List Byte} {s : State} (hserved : doeServed s = true)
    (halgs : s.sec.spdm.algs = true)
    (hmsg : msg = Config.spdmBody 0x02 (leBytes 2 ((Config.certificateChain s.sec.measurement).length - offset))
      ++ ((Config.certificateChain s.sec.measurement).drop offset).take len) :
    ∃ t bytes, execSpdmGetCertificate 0#8 offset len s = .next t ∧ t.host.doe0 = some bytes ∧ t.host.answer = .data bytes ∧
      t.sec.spdm.transcript = s.sec.spdm.transcript ++ msg ∧ (msg.length ≤ 4096 → bytes = msg) ∧
      (4096 < msg.length → t.sec.spdm.chunks = msg ∧ t.sec.spdm.chunkSeq = 0) := by
  simp only [execSpdmGetCertificate, spdmAfter_runs _ hserved halgs, bne_self_eq_false, Bool.false_eq_true, if_false, ← hmsg]
  obtain ⟨bytes, h⟩ := spdmSend_sends msg s
  exact ⟨_, bytes, rfl, h.doe, h.answer, h.transcript, h.whole, h.chunked⟩

/-- A signed answer to a request that was taken into the transcript keeps the request in it. -/
theorem spdmSigned_take (code : Nat) (fields request : List Byte) {s u : State} (f : Spdm → Spdm)
    (hu : u = setSpdm f (spdmTake request s)) (hf : (f (spdmTake request s).sec.spdm).transcript = (spdmTake request s).sec.spdm.transcript) :
    ∃ bytes, (spdmSigned code fields u).host.doe0 = some bytes ∧ (spdmSigned code fields u).host.answer = .data bytes ∧
      (spdmSigned code fields u).sec.spdm.session = (f (spdmTake request s).sec.spdm).session ∧
      (s.sec.spdm.transcript ++ request) <+: (spdmSigned code fields u).sec.spdm.transcript := by
  subst hu
  obtain ⟨msg, bytes, h⟩ := spdmSigned_sends code fields (setSpdm f (spdmTake request s))
  exact ⟨bytes, h.doe, h.answer, h.session, msg, by rw [h.transcript]; exact congrArg (· ++ msg) hf.symm⟩

theorem execSpdmChallenge_answers (request : List Byte) {s : State} (hserved : doeServed s = true)
    (halgs : s.sec.spdm.algs = true) : ∃ t bytes, execSpdmChallenge request s = .next t ∧ t.host.doe0 = some bytes ∧
      t.host.answer = .data bytes ∧ t.sec.spdm.session = s.sec.spdm.session ∧
      (s.sec.spdm.transcript ++ request) <+: t.sec.spdm.transcript := by
  simp only [execSpdmChallenge, spdmAfter_runs _ hserved halgs]
  obtain ⟨bytes, hdoe, hans, hsession, htr⟩ :=
    spdmSigned_take 0x03 (leBytes 64 (drawFree s).1.toNat) request (s := (drawFree s).2) id rfl rfl
  exact ⟨_, bytes, rfl, hdoe, hans, hsession, htr⟩

theorem execSpdmGetMeasurements_answers (index : Byte) (raw : Bool) (request : List Byte) {s : State} (hserved : doeServed s = true)
    (halgs : s.sec.spdm.algs = true) (hindex : index.toNat ≤ 6 ∨ index = 0xFF#8) :
    ∃ t bytes, execSpdmGetMeasurements index raw request s = .next t ∧ t.host.doe0 = some bytes ∧
      t.host.answer = .data bytes ∧ (s.sec.spdm.transcript ++ request) <+: t.sec.spdm.transcript := by
  have hok : (decide (6 < index.toNat) && index.toNat != 0xFF) = false := by
    rcases hindex with h | rfl
    · simp [h]
    · rfl
  simp only [execSpdmGetMeasurements, spdmAfter_runs _ hserved halgs, hok, Bool.false_eq_true, if_false]
  obtain ⟨bytes, hdoe, hans, -, htr⟩ := spdmSigned_take 0x60 _ request (s := s) id rfl rfl
  exact ⟨_, bytes, rfl, hdoe, hans, htr⟩

theorem execSpdmKeyExchange_answers (request : List Byte) {s : State} (hserved : doeServed s = true)
    (halgs : s.sec.spdm.algs = true) : ∃ t bytes, execSpdmKeyExchange request s = .next t ∧ t.host.doe0 = some bytes ∧
      t.host.answer = .data bytes ∧ t.sec.spdm.session = true := by
  simp only [execSpdmKeyExchange, spdmAfter_runs _ hserved halgs]
  obtain ⟨bytes, hdoe, hans, hsession, -⟩ := spdmSigned_take 0x64 (leBytes 64 (drawFree s).1.toNat) request (s := (drawFree s).2)
    (fun p => { p with session := true }) rfl rfl
  exact ⟨_, bytes, rfl, hdoe, hans, hsession⟩

theorem execSpdmChunkGet_answers (handle : Byte) {seq : BitVec 16} {s : State} (hserved : doeServed s = true)
    (halgs : s.sec.spdm.algs = true) (hchunks : s.sec.spdm.chunks ≠ []) (hseq : s.sec.spdm.chunkSeq = seq.toNat) :
    ∃ t bytes, execSpdmChunkGet handle seq s = .next t ∧ t.host.doe0 = some bytes ∧
      s.sec.spdm.chunks.take chunkBytes <:+ bytes ∧ t.sec.spdm.chunks = s.sec.spdm.chunks.drop chunkBytes ∧
      t.sec.spdm.chunkSeq = seq.toNat + 1 := by
  simp only [execSpdmChunkGet, spdmAfter_runs _ hserved halgs]
  rw [if_neg (by simp [hchunks, hseq])]
  exact ⟨_, _, rfl, rfl, List.suffix_append _ _, rfl, congrArg (· + 1) hseq⟩

end Sys2Proof.Machine
end

section
set_option Elab.async false
open Sys2Proof Sys2Proof.Machine

/-- Settles O59: each request is served, and what is sent for it leaves the rest of the session as it was. -/
theorem attestationCommandsComplete : Obligations.AttestationCommandsComplete := by
  unfold Obligations.AttestationCommandsComplete
  refine ⟨?version, ?caps, ?algs, ?cert, ?challenge, ?measure, ?exchange, ?update, ?heartbeat, ?chunk⟩
  case version => exact fun s h => execSpdmGetVersion_answers h
  case caps => exact fun s h hv => execSpdmGetCapabilities_answers h hv
  case algs => exact fun request s h hc => execSpdmNegotiateAlgorithms_answers request h hc
  case cert => exact fun offset len msg s h ha hmsg => execSpdmGetCertificate_answers offset len h ha hmsg
  case challenge => exact fun request s h ha => execSpdmChallenge_answers request h ha
  case measure => exact fun index raw request s h ha hi => execSpdmGetMeasurements_answers index raw request h ha hi
  case exchange => exact fun request s h ha => execSpdmKeyExchange_answers request h ha
  case update =>
    intro request s h ha hs
    show execSpdmKeyUpdate request s = _
    simp only [execSpdmKeyUpdate, spdmAfter_runs _ h ha, hs, if_true]
  case heartbeat =>
    intro s h ha hs
    show execSpdmHeartbeat s = _
    simp only [execSpdmHeartbeat, spdmAfter_runs _ h ha, hs, if_true]
  case chunk => exact fun handle seq s h ha hc hs => execSpdmChunkGet_answers handle h ha hc hs

end

section
set_option Elab.async false
/-! SUPPORT. The Guest Book ring, the statistics windows and the management queries (R121 to R124, R526 to R535). -/

namespace Sys2Proof.Machine

/-- What an event that is logged keeps of the Guest Book ring: all that the host sets. -/
structure Evt.SameRing (x y : Evt) : Prop where
  running : y.running = x.running
  head : y.head = x.head
  headErr : y.headErr = x.headErr

theorem Evt.SameRing.trans {x y z : Evt} (h : x.SameRing y) (h2 : y.SameRing z) : x.SameRing z :=
  ⟨h2.running.trans h.running, h2.head.trans h.head, h2.headErr.trans h.headErr⟩

theorem sameRing_gbPut (r : EvtRec) (s : State) : s.evt.SameRing (gbPut r s).evt := by
  constructor <;> simp [gbPut]

theorem sameRing_gbDeliver (r : EvtRec) (s : State) : s.evt.SameRing (gbDeliver r s).evt := by
  unfold gbDeliver
  split
  · split
    · exact sameRing_gbPut r s
    · exact ⟨rfl, rfl, rfl⟩
  · split
    · exact ⟨rfl, rfl, rfl⟩
    · exact ⟨rfl, rfl, rfl⟩

theorem sameRing_gbCopy (c : CopyClass) (r : EvtRec) (s : State) : s.evt.SameRing (gbCopy c r s).evt := by
  unfold gbCopy
  split
  · exact ⟨rfl, rfl, rfl⟩
  · cases c with
    | never => exact ⟨rfl, rfl, rfl⟩
    | always => exact ⟨rfl, rfl, rfl⟩
    | budget => dsimp only; split <;> exact ⟨rfl, rfl, rfl⟩

theorem sameRing_gbMark (s : State) : s.evt.SameRing (gbMark true s).evt := by
  have hnumber : s.evt.SameRing (gbNumber Ev.gbSeqMark.code s.evt.nextSeq s).2.evt := ⟨rfl, rfl, rfl⟩
  unfold gbMark
  split
  · dsimp only
    rw [if_pos rfl]
    exact (hnumber.trans (sameRing_gbDeliver _ _)).trans (sameRing_gbCopy _ _ _)
  · exact ⟨rfl, rfl, rfl⟩

theorem sameRing_logEvent (ev : Ev) (detail : Nat) (s : State) : s.evt.SameRing (logEvent ev detail s).evt := by
  have hnumber : (gbMark true s).evt.SameRing (gbNumber ev.code detail (gbMark true s)).2.evt := ⟨rfl, rfl, rfl⟩
  exact (((sameRing_gbMark s).trans hnumber).trans (sameRing_gbDeliver _ _)).trans (sameRing_gbCopy _ _ _)

theorem sameRing_gbReportLost (s : State) : s.evt.SameRing (gbReportLost s).evt := by
  unfold gbReportLost
  split
  · dsimp only
    exact Evt.SameRing.trans (x := s.evt) (y := { s.evt with lostPending := 0 }) ⟨rfl, rfl, rfl⟩
      (sameRing_logEvent _ _ { s with evt := { s.evt with lostPending := 0 } })
  · exact ⟨rfl, rfl, rfl⟩

theorem gbReportLost_of_none {s : State} (h : s.evt.lostPending = 0) : gbReportLost s = s := by
  simp [gbReportLost, h]

/-- The enable bit is the one bit that a start adds to the value written. -/
theorem start_value (value : W32) : bit (value ||| 0x80000000#32).toNat 31 = true ∧
    bits (value ||| 0x80000000#32).toNat 15 0 = bits value.toNat 15 0 ∧
    bits (value ||| 0x80000000#32).toNat 27 16 = bits value.toNat 27 16 := by
  rw [BitVec.toNat_or, bits_or, bits_or, bit_eq_testBit, Nat.testBit_or]
  refine ⟨?_, ?_, ?_⟩
  · simp [Nat.testBit]
  · exact Nat.or_zero _
  · exact Nat.or_zero _

theorem stop_value (value : W32) : bit (value &&& 0x7FFFFFFF#32).toNat 31 = false := by
  rw [BitVec.toNat_and, bit_eq_testBit, Nat.testBit_and]
  simp [Nat.testBit]

theorem execGbRingStart_starts {value : W32} {s : State} (hworks : regWorks 1 true s = true) (hrun : s.evt.running = false)
    (hdepth : 63 ≤ bits value.toNat 15 0) (hvec : bits value.toNat 27 16 ≤ 2047 ∨ bits value.toNat 27 16 = 0xFFF)
    (hbase : s.evt.base % 4096 = 0) (hbuf : s.evt.buffer = []) (hlost : s.evt.lostPending = 0) :
    ∃ t, execGbRingStart value s = .next t ∧ t.evt.running = true ∧ t.evt.enable = true ∧
      t.evt.depthM1 = bits value.toNat 15 0 ∧ t.evt.vector = bits value.toNat 27 16 ∧ t.evt.head = 0 ∧ t.evt.tail = 0 ∧
      t.evt.phase = true := by
  obtain ⟨hbit, hd, hv⟩ := start_value value
  unfold execGbRingStart
  rw [regWrite_of_works _ hworks]
  unfold writeGbCtrl
  simp only [hbit, hd, hv, hrun, Bool.not_true, Bool.false_eq_true, if_false]
  rw [if_pos (by simpa [hdepth, hbase] using hvec)]
  simp only [hbuf, gbFlush]
  rw [gbReportLost_of_none (by exact hlost)]
  exact ⟨_, rfl, rfl, rfl, rfl, rfl, rfl, rfl, rfl⟩

theorem execGbRingStart_refuses {value : W32} {s : State} (hworks : regWorks 1 true s = true) (hrun : s.evt.running = false)
    (hbad : bits value.toNat 15 0 < 63 ∨ 2047 < bits value.toNat 27 16 ∧ bits value.toNat 27 16 ≠ 0xFFF) :
    ∃ t, execGbRingStart value s = .next t ∧ t.evt.running = false ∧ t.evt.refused = true := by
  obtain ⟨hbit, hd, hv⟩ := start_value value
  unfold execGbRingStart
  rw [regWrite_of_works _ hworks]
  unfold writeGbCtrl
  simp only [hbit, hd, hv, hrun, Bool.not_true, Bool.false_eq_true, if_false]
  rw [if_neg (by rcases hbad with h | ⟨h1, h2⟩ <;> simp [*])]
  exact ⟨_, rfl, rfl, rfl⟩

theorem execGbRingStop_stops (value : W32) {s : State} (hworks : regWorks 1 true s = true) :
    ∃ t, execGbRingStop value s = .next t ∧ t.evt.running = false ∧ t.evt.enable = false := by
  unfold execGbRingStop
  rw [regWrite_of_works _ hworks]
  unfold writeGbCtrl
  simp only [stop_value, Bool.not_false, if_true]
  refine ⟨_, rfl, rfl, ?_⟩
  split <;> rfl

theorem execGbHeadWrite_moves {value : W32} {h : Nat} {s : State} (hworks : regWorks 1 true s = true) (hrun : s.evt.running = true)
    (hh : h = bits value.toNat 15 0) (hle : h ≤ s.evt.depthM1)
    (hroom : (h + (s.evt.depthM1 + 1) - s.evt.head) % (s.evt.depthM1 + 1) ≤ gbUnreleased s.evt) :
    ∃ t, execGbHeadWrite value s = .next t ∧ t.evt.head = h ∧ t.evt.headErr = s.evt.headErr := by
  unfold execGbHeadWrite
  rw [regWrite_of_works _ hworks]
  unfold writeGbHead
  dsimp only
  rw [← hh, if_neg (by simp [hrun]), if_neg (by simp; omega)]
  obtain ⟨-, hhead, herr⟩ := sameRing_gbReportLost { s with evt := { s.evt with head := h } }
  refine ⟨_, rfl, ?_, ?_⟩
  · exact hhead
  · exact herr

theorem execGbHeadWrite_errs {value : W32} {h : Nat} {s : State} (hworks : regWorks 1 true s = true) (hrun : s.evt.running = true)
    (hh : h = bits value.toNat 15 0)
    (hbad : s.evt.depthM1 < h ∨ gbUnreleased s.evt < (h + (s.evt.depthM1 + 1) - s.evt.head) % (s.evt.depthM1 + 1)) :
    ∃ t, execGbHeadWrite value s = .next t ∧ t.evt = { s.evt with headErr := true } := by
  unfold execGbHeadWrite
  rw [regWrite_of_works _ hworks]
  unfold writeGbHead
  simp only [hrun, ← hh, Bool.not_true, Bool.false_eq_true, if_false]
  rw [if_pos (by simp; omega)]
  exact ⟨_, rfl, rfl⟩

/-- What a latch of the tile statistics leaves besides the state of its saturation event. -/
theorem qstatLatch_latches (s : State) : (qstatLatch s).tensor.qbanks = [] ∧ (qstatLatch s).tensor.qctrl = s.tensor.qctrl ∧
    (qstatLatch s).tensor.qctrlInUse = s.tensor.qctrl ∧ (qstatLatch s).tensor.qseq = (s.tensor.qseq + 1) % 2 ^ 32 ∧
    (qstatLatch s).tensor.qshadows =
      (List.range Config.tiles).map (fun t => (t, (Tbl.lookD s.tensor.qbanks t QBank.zero, ownerTag s))) := by
  have hsat : ∀ (banks : Tbl QBank) (u : State), ∃ l n, (saturationEvent banks u).tensor =
      { u.tensor with qsatLast := l, qsatSuppressed := n } := fun banks u => by
    unfold saturationEvent
    extract_lets
    split
    · exact ⟨_, _, rfl⟩
    · split
      · exact ⟨_, _, rfl⟩
      · exact ⟨_, _, logEvent_tensor _ _ _⟩
  unfold qstatLatch
  dsimp only
  obtain ⟨l, n, h⟩ := hsat s.tensor.qbanks { s with tensor := { s.tensor with
    qshadows := (List.range Config.tiles).map (fun t => (t, (Tbl.lookD s.tensor.qbanks t QBank.zero, ownerTag s)))
    qbanks := []
    qseq := (s.tensor.qseq + 1) % 2 ^ 32 } }
  rw [h]
  exact ⟨rfl, rfl, rfl, rfl, rfl⟩

theorem look_tabulate {α : Type} (f : Nat → α) {n k : Nat} (h : k < n) :
    Tbl.look ((List.range n).map (fun i => (i, f i))) k = some (f k) := by
  induction n with
  | zero => exact absurd h (by omega)
  | succ n ih =>
    rw [List.range_succ, List.map_append, Tbl.look_append]
    by_cases hk : k < n
    · rw [ih hk]
      rfl
    · have hn : k = n := by omega
      rw [Tbl.look_eq_none_of_forall_ne fun p hp => ?_]
      · simp [Tbl.look, hn]
      · obtain ⟨i, hi, rfl⟩ := List.mem_map.mp hp
        have := List.mem_range.mp hi
        dsimp only
        omega

theorem bank_of_ctrKey {bank inst k : Nat} (hinst : inst < 128) (hk : k < 32) : ctrKey bank inst k / 65536 = bank := by
  unfold ctrKey
  omega

/-- What a window's end leaves of its bank. -/
theorem bankLatch_latches (bank : Nat) (s : State) :
    winOf bank (bankLatch bank s) =
      { winOf bank s with inUse := (winOf bank s).reg, seq := ((winOf bank s).seq + 1) % 2 ^ 32 } ∧
    ∀ inst < 128, ∀ k < 32, Tbl.lookD (bankLatch bank s).evt.shadows (ctrKey bank inst k) 0
        = Tbl.lookD s.evt.counters (ctrKey bank inst k) 0 ∧
      Tbl.look (bankLatch bank s).evt.counters (ctrKey bank inst k) = none := by
  refine ⟨by simp [winOf, bankLatch], fun inst hinst k hk => ?_⟩
  have hkey := bank_of_ctrKey (bank := bank) hinst hk
  unfold bankLatch
  dsimp only
  constructor
  · simp only [Tbl.lookD, Tbl.look_append]
    rw [Tbl.look_filter s.evt.shadows (fun i => decide (i / 2 ^ 16 < bank)),
      Tbl.look_filter s.evt.counters (fun i => i / 2 ^ 16 == bank),
      Tbl.look_filter s.evt.shadows (fun i => decide (bank < i / 2 ^ 16))]
    simp [hkey]
  · rw [Tbl.look_filter s.evt.counters (fun i => !(i / 2 ^ 16 == bank))]
    simp [hkey]

theorem mgmtRequest_runs {type : Nat} {req : List Byte} {a b : Byte} {s : State} (f : State → State)
    (hserved : doeServed s = true) (hhead : req.take 4 = [a, b, 0#8, 0#8]) (ha : a.toNat = type)
    (hcompl : isCompl 8 a.toNat b.toNat = true) : mgmtRequest type req f s = f s := by
  have hreq : req = [a, b, 0#8, 0#8] ++ req.drop 4 := by rw [← hhead, List.take_append_drop]
  rw [hreq]
  simp [mgmtRequest, hserved, ha ▸ hcompl, ha]

theorem execQstatCtrlWrite_latches (value : W32) {s : State} (hworks : regWorks 7 false s = true) :
    ∃ t, execQstatCtrlWrite value s = .next t ∧ t.tensor.qctrl = value ∧ t.tensor.qctrlInUse = value ∧ t.tensor.qbanks = [] ∧
      t.tensor.qseq = (s.tensor.qseq + 1) % 2 ^ 32 ∧
      ∀ n < 128, Tbl.look t.tensor.qshadows n = some (Tbl.lookD s.tensor.qbanks n QBank.zero, ownerTag s) := by
  unfold execQstatCtrlWrite
  rw [regWrite_of_works _ hworks]
  obtain ⟨hbanks, hctrl, huse, hseq, hshadows⟩ := qstatLatch_latches { s with tensor := { s.tensor with qctrl := value } }
  refine ⟨_, rfl, hctrl, huse, hbanks, hseq, fun n hn => ?_⟩
  exact (congrArg (Tbl.look · n) hshadows).trans (look_tabulate _ hn)

theorem execQstatWindowLatch_latches {s : State} (hmode : winMode s.tensor.qctrlInUse = 1) :
    ∃ t, execQstatWindowLatch s = .next t ∧ t.tensor.qbanks = [] ∧ t.tensor.qctrlInUse = s.tensor.qctrl ∧
      t.tensor.qseq = (s.tensor.qseq + 1) % 2 ^ 32 ∧
      ∀ n < 128, Tbl.look t.tensor.qshadows n = some (Tbl.lookD s.tensor.qbanks n QBank.zero, ownerTag s) := by
  obtain ⟨hbanks, -, huse, hseq, hshadows⟩ := qstatLatch_latches s
  refine ⟨_, if_pos hmode, hbanks, huse, hseq, fun n hn => ?_⟩
  exact (congrArg (Tbl.look · n) hshadows).trans (look_tabulate _ hn)

theorem execEvtWinCtrlWrite_latches (bank : Fin 7) (value : W32) {s : State} (hworks : regWorks 1 true s = true) :
    ∃ t, execEvtWinCtrlWrite bank value s = .next t ∧ (winOf bank.val t).inUse = value &&& 0xFF000000#32 ∧
      (winOf bank.val t).reg = value &&& 0xFF000000#32 ∧ (winOf bank.val t).seq = ((winOf bank.val s).seq + 1) % 2 ^ 32 ∧
      ∀ inst < 128, ∀ k < 32, Tbl.lookD t.evt.shadows (ctrKey bank.val inst k) 0
          = Tbl.lookD s.evt.counters (ctrKey bank.val inst k) 0 ∧
        Tbl.look t.evt.counters (ctrKey bank.val inst k) = none := by
  unfold execEvtWinCtrlWrite
  rw [regWrite_of_works _ hworks]
  unfold writeWinCtrl
  dsimp only
  generalize hu : ({ s with evt := { s.evt with
    wins := Tbl.put s.evt.wins bank.val { winOf bank.val s with reg := value &&& 0xFF000000#32 } } } : State) = u
  have hwin : winOf bank.val u = { winOf bank.val s with reg := value &&& 0xFF000000#32 } := by
    subst hu
    exact Tbl.lookD_put_self _ _ _ _
  have hctrs : u.evt.counters = s.evt.counters := by rw [← hu]
  obtain ⟨hend, hctr⟩ := bankLatch_latches bank.val u
  rw [hwin] at hend
  rw [hctrs] at hctr
  exact ⟨_, rfl, by rw [hend], by rw [hend], by rw [hend], hctr⟩

theorem execStatsWindowEnd_latches (bank : Fin 7) {s : State} (hmode : winMode (winOf bank.val s).inUse = 1) :
    ∃ t, execStatsWindowEnd bank s = .next t ∧ (winOf bank.val t).inUse = (winOf bank.val s).reg ∧
      (winOf bank.val t).seq = ((winOf bank.val s).seq + 1) % 2 ^ 32 ∧
      ∀ inst < 128, ∀ k < 32, Tbl.lookD t.evt.shadows (ctrKey bank.val inst k) 0
          = Tbl.lookD s.evt.counters (ctrKey bank.val inst k) 0 ∧
        Tbl.look t.evt.counters (ctrKey bank.val inst k) = none := by
  obtain ⟨hend, hctr⟩ := bankLatch_latches bank.val s
  exact ⟨_, if_pos hmode, by rw [hend], by rw [hend], hctr⟩

theorem execGbRead_answers {request : List Byte} {first count : Nat} {s : State} (hserved : doeServed s = true)
    (hhead : request.take 4 = [0x01#8, 0xFE#8, 0x00#8, 0x00#8]) (hfirst : first = leNat ((request.drop 4).take 4))
    (hcount : count = leNat ((request.drop 8).take 2)) (h1 : 1 ≤ count) (h2000 : count ≤ 2000) :
    ∃ t, execGbRead request s = .next t ∧ t.host.doe1 = some ((((copyAll s.cfl).filter
      (fun v => !seqNewer first (recSeq v))).take count).flatMap (leBytes 32)) := by
  unfold execGbRead
  dsimp only
  rw [mgmtRequest_runs _ hserved hhead (by decide) (by decide), ← hcount, ← hfirst, if_neg (by simp; omega)]
  exact ⟨_, rfl, rfl⟩

theorem execTelemetryRead_answers {request : List Byte} {s : State} (hserved : doeServed s = true)
    (hhead : request.take 4 = [0x02#8, 0xFD#8, 0x00#8, 0x00#8]) :
    ∃ t, execTelemetryRead request s = .next t ∧ t.host.doe1 = some ((List.range 106).flatMap (fun i => leBytes 4 (evtTemp i s))
      ++ leBytes 8 (evtInput s) ++ leBytes 4 (throttleStatus s)) ∧ t.power = s.power := by
  unfold execTelemetryRead
  rw [mgmtRequest_runs _ hserved hhead (by decide) (by decide)]
  exact ⟨_, rfl, rfl, rfl⟩

theorem execCounterRead_answers {request : List Byte} {bank inst : Nat} {s : State} (hserved : doeServed s = true)
    (hhead : request.take 4 = [0x03#8, 0xFC#8, 0x00#8, 0x00#8]) (hbank : bank = (request.getD 4 0#8).toNat)
    (hinst : inst = (request.getD 5 0#8).toNat) (hlt : inst < bankInstances bank) :
    ∃ t, execCounterRead request s = .next t ∧ t.host.doe1 = some (leBytes 4 (winOf bank s).seq
      ++ (List.range 32).flatMap (fun k => leBytes 8 (shadowWord bank inst k s))) ∧ t.evt = s.evt := by
  unfold execCounterRead
  dsimp only
  rw [mgmtRequest_runs _ hserved hhead (by decide) (by decide), ← hbank, ← hinst, if_neg (by omega)]
  exact ⟨_, rfl, rfl, rfl⟩

end Sys2Proof.Machine
end

section
set_option Elab.async false
open Sys2Proof Sys2Proof.Machine

/-- Settles O60: each register and query by its own branch; the windows by what a latch leaves. -/
theorem eventCommandsComplete : Obligations.EventCommandsComplete := by
  unfold Obligations.EventCommandsComplete
  refine ⟨?start, ?refused, ?stop, ?head, ?headErr, ?tick, ?qctrl, ?qlatch, ?winCtrl, ?winEnd, ?sel, ?gbRead, ?telemetry, ?counter⟩
  case start => exact fun value s hw hr hd hv hb hbuf hl => execGbRingStart_starts hw hr hd hv hb hbuf hl
  case refused => exact fun value s hw hr hbad => execGbRingStart_refuses hw hr hbad
  case stop => exact fun value s hw => execGbRingStop_stops value hw
  case head => exact fun value h s hw hr hh hle hroom => execGbHeadWrite_moves hw hr hh hle hroom
  case headErr => exact fun value h s hw hr hh hbad => execGbHeadWrite_errs hw hr hh hbad
  case tick => exact fun s => ⟨_, rfl, rfl⟩
  case qctrl => exact fun value s hw => execQstatCtrlWrite_latches value hw
  case qlatch => exact fun s hmode => execQstatWindowLatch_latches hmode
  case winCtrl => exact fun bank value s hw => execEvtWinCtrlWrite_latches bank value hw
  case winEnd => exact fun bank s hmode => execStatsWindowEnd_latches bank hmode
  case sel => exact fun value s hw => ⟨_, congrArg Host.Outcome.next (regWrite_of_works (writeCtrSel value) hw), rfl⟩
  case gbRead => exact fun request first count s hs hh hf hc h1 h2 => execGbRead_answers hs hh hf hc h1 h2
  case telemetry => exact fun request s hs hh => execTelemetryRead_answers hs hh
  case counter => exact fun request bank inst s hs hh hb hi hlt => execCounterRead_answers hs hh hb hi hlt

end

section
set_option Elab.async false
/-! SUPPORT. Fabric ports: what queueing a parcel leaves of a port, and the lanes that a training chooses (R301 to R305). -/

namespace Sys2Proof.Machine

theorem portOf_congr {s t : State} (h : t.fabric = s.fabric) (n : Nat) : portOf n t = portOf n s := by rw [portOf, portOf, h]

@[simp] theorem portOf_logEvent (n : Nat) (ev : Ev) (detail : Nat) (s : State) :
    portOf n (logEvent ev detail s) = portOf n s := portOf_congr (by simp only [logEvent_frame]) n

/-- The port `r` is `q` but for what waits to be sent on it or was delivered to it. -/
def Port.SameLine (q r : Port) : Prop := ∃ a b c i, r = { q with txReq := a, txRsp := b, txRed := c, inbox := i }

theorem Port.SameLine.refl (q : Port) : q.SameLine q := ⟨_, _, _, _, rfl⟩

theorem Port.SameLine.trans {p q r : Port} (h : p.SameLine q) (h2 : q.SameLine r) : p.SameLine r := by
  obtain ⟨_, _, _, _, rfl⟩ := h
  obtain ⟨_, _, _, _, rfl⟩ := h2
  exact ⟨_, _, _, _, rfl⟩

theorem sameLine_setTx (vc : Nat) (c : TxChannel) (q : Port) : q.SameLine (q.setTx vc c) := by
  unfold Port.setTx
  (repeat' split) <;> exact ⟨_, _, _, _, rfl⟩

theorem sameLine_modPort {f : Port → Port} (hf : ∀ q : Port, q.SameLine (f q)) (m n : Nat) (s : State) :
    (portOf n s).SameLine (portOf n (modPort m f s)) := by
  unfold modPort
  by_cases h : n = m
  · subst h
    rw [portOf_setPort_self]
    exact hf _
  · rw [portOf_setPort_ne h]
    exact .refl _

theorem sameLine_queueAt (m : Nat) (p : Parcel) (n : Nat) (s : State) : (portOf n s).SameLine (portOf n (queueAt m p s)) :=
  sameLine_modPort (fun _ => sameLine_setTx _ _ _) _ _ _

theorem sameLine_sendParcel (p : Parcel) (n : Nat) (s : State) : (portOf n s).SameLine (portOf n (sendParcel p s)) := by
  unfold sendParcel
  split
  · exact sameLine_queueAt _ _ _ _
  · split
    · exact sameLine_modPort (fun _ => ⟨_, _, _, _, rfl⟩) _ _ _
    · exact .refl _

theorem sameLine_requeue (p : Parcel) (n : Nat) (s : State) : (portOf n s).SameLine (portOf n (requeue s p)) := by
  unfold requeue
  split
  · exact sameLine_queueAt _ _ _ _
  · split
    · exact .refl _
    · split <;> exact sameLine_sendParcel _ _ _

/-- The line of a port that has gone down. -/
structure Port.Down (q : Port) : Prop where
  quads : q.quads = 0
  replay : q.replay = []
  txSeq : q.txSeq = 0
  rxSeq : q.rxSeq = 0

theorem portDown_down (n : Nat) (laser : Bool) (s : State) : (portOf n (portDown n laser s)).Down ∧
    (portOf n (portDown n laser s)).enable = (portOf n s).enable := by
  have hqueued : ∀ (ps : List Parcel) (x : State), (portOf n x).SameLine (portOf n (ps.foldl requeue x)) := by
    intro ps
    induction ps with
    | nil => exact fun _ => .refl _
    | cons p ps ih => exact fun x => (sameLine_requeue p n x).trans (ih _)
  unfold portDown
  extract_lets q queued q1
  obtain ⟨a, b, c, i, h⟩ := hqueued queued (logEvent .kybLinkDown (detailWords [n]) (setPort n q1 s))
  rw [h, portOf_logEvent, portOf_setPort_self]
  exact ⟨⟨rfl, rfl, rfl, rfl⟩, rfl⟩

/-- The quads of a lane set are its members. -/
theorem bit_quads {set : List Nat} (h : set.Sublist (List.range 4)) :
    ∀ i < 4, bit (set.foldl (fun m i => m + 2 ^ i) 0) i = decide (i ∈ set) :=
  (by decide : ∀ l ∈ (List.range 4).sublists, ∀ i < 4, bit (l.foldl (fun m i => m + 2 ^ i) 0) i = decide (i ∈ l)) set
    (List.mem_sublists.mpr h)

theorem laneSet_sublist (mine peer cap : Nat) : (laneSet mine peer cap).Sublist (List.range 4) :=
  (List.take_sublist _ _).trans List.filter_sublist

theorem portOf_trainFail (n : Nat) (s : State) : portOf n (trainFail n s) =
    { portOf n s with state := 6, attempts := satAdd 8 (portOf n s).attempts 1, failLogged := true } := by
  unfold trainFail
  extract_lets q s1
  have hs1 : portOf n s1 = _ := portOf_setPort_self _ _ _
  split
  · exact hs1
  · exact (portOf_logEvent _ _ _ _).trans hs1

theorem execPortEnable_enables {n : Fin 16} {s : State} (hworks : regWorks 8 false s = true) (hrel : fabricReleased s = true)
    (hstate : (portOf n.val s).state = 0) : ∃ t, execPortEnable n s = .next t ∧
      portOf n.val t = { portOf n.val s with enable := true, state := 1, failLogged := false } := by
  unfold execPortEnable
  rw [regWrite_of_works _ hworks]
  unfold enablePort
  dsimp only
  rw [if_neg (by simp [hstate]), hrel]
  exact ⟨_, rfl, portOf_setPort_self _ _ _⟩

theorem execPortDisable_idle {n : Fin 16} {s : State} (hworks : regWorks 8 false s = true)
    (hlink : portLinked (portOf n.val s) = false) : ∃ t, execPortDisable n s = .next t ∧
      portOf n.val t = { portOf n.val s with enable := false, state := 0, laserWait := false } := by
  unfold execPortDisable
  rw [regWrite_of_works _ hworks]
  unfold disablePort
  dsimp only
  rw [if_neg (by simp [hlink])]
  exact ⟨_, rfl, portOf_setPort_self _ _ _⟩

theorem execPortDisable_linked {n : Fin 16} {s : State} (hworks : regWorks 8 false s = true)
    (hlink : portLinked (portOf n.val s) = true) : ∃ t, execPortDisable n s = .next t ∧ (portOf n.val t).state = 0 ∧
      (portOf n.val t).enable = false ∧ (portOf n.val t).replay = [] := by
  unfold execPortDisable
  rw [regWrite_of_works _ hworks]
  unfold disablePort
  dsimp only
  rw [if_pos hlink]
  obtain ⟨hdown, henable⟩ := portDown_down n.val false (setPort n.val { portOf n.val s with enable := false } s)
  rw [portOf_setPort_self] at henable
  refine ⟨_, rfl, ?_, henable, hdown.replay⟩
  rw [state_portDown, portOf_setPort_self]
  rfl

theorem execPortRetrain_retrains {n : Fin 16} {s : State} (hworks : regWorks 8 false s = true) (hrel : fabricReleased s = true)
    (henable : (portOf n.val s).enable = true) (hwait : (portOf n.val s).laserWait = false) :
    ∃ t, execPortRetrain n s = .next t ∧ portOf n.val t = { portOf n.val s with state := 1, lanes := 3, quads := 0 } := by
  unfold execPortRetrain
  rw [regWrite_of_works _ hworks]
  unfold retrainPort
  dsimp only
  rw [if_neg (by simp [hrel, henable, hwait])]
  exact ⟨_, rfl, portOf_setPort_self _ _ _⟩

theorem execLinkExchangeComplete_up {n : Fin 16} {p : PeerInfo} {set : List Nat} {s : State} (hstate : (portOf n.val s).state = 4)
    (hdev : p.dev.toNat ≠ s.fabric.id)
    (hset : set = laneSet (portOf n.val s).healthy p.quads.toNat (min (laneCap (portOf n.val s).maxLanes) (laneCap p.maxLanes.toNat)))
    (hlen : 2 ≤ set.length) : ∃ t, execLinkExchangeComplete n p s = .next t ∧ (portOf n.val t).state = 5 ∧
      (portOf n.val t).lanes = lanesCode set.length ∧ (∀ i < 4, bit (portOf n.val t).quads i = decide (i ∈ set)) ∧
      (portOf n.val t).peerValid = true ∧ (portOf n.val t).peerDev = p.dev.toNat ∧ (portOf n.val t).peerPort = p.port.toNat ∧
      (portOf n.val t).attempts = 0 := by
  unfold execLinkExchangeComplete
  dsimp only
  rw [if_neg (by simp [hstate]), if_neg hdev, ← hset, if_neg (by omega)]
  refine ⟨_, rfl, ?_⟩
  rw [portOf_logEvent, portOf_setPort_self]
  exact ⟨rfl, rfl, bit_quads (hset ▸ laneSet_sublist _ _ _), rfl, rfl, rfl, rfl⟩

theorem execLinkExchangeComplete_fails {n : Fin 16} {p : PeerInfo} {s : State} (hstate : (portOf n.val s).state = 4)
    (hbad : p.dev.toNat = s.fabric.id ∨ (laneSet (portOf n.val s).healthy p.quads.toNat
      (min (laneCap (portOf n.val s).maxLanes) (laneCap p.maxLanes.toNat))).length < 2) :
    ∃ t, execLinkExchangeComplete n p s = .next t ∧ (portOf n.val t).state = 6 ∧
      (portOf n.val t).attempts = satAdd 8 (portOf n.val s).attempts 1 := by
  unfold execLinkExchangeComplete
  dsimp only
  rw [if_neg (by simp [hstate])]
  by_cases hdev : p.dev.toNat = s.fabric.id
  · rw [if_pos hdev]
    refine ⟨_, rfl, ?_⟩
    rw [portOf_logEvent, portOf_setPort_self]
    exact ⟨rfl, rfl⟩
  · rw [if_neg hdev, if_pos (hbad.resolve_left hdev)]
    refine ⟨_, rfl, ?_⟩
    rw [portOf_trainFail, portOf_setPort_self]
    exact ⟨rfl, rfl⟩

theorem execQuadFail_up {n : Fin 16} {k : Fin 4} {s : State} (hstate : (portOf n.val s).state = 5)
    (hbit : bit (portOf n.val s).quads k.val = true) : ∃ t, execQuadFail n k s = .next t ∧
      portOf n.val t = { portOf n.val s with state := 7, healthy := (portOf n.val s).quads - 2 ^ k.val } := by
  unfold execQuadFail
  dsimp only
  rw [if_neg (by simp [portLinked, hstate, hbit]), if_neg (by omega : ¬ (portOf n.val s).state = 7), if_pos hbit]
  exact ⟨_, rfl, portOf_setPort_self _ _ _⟩

theorem execQuadFail_retraining {n : Fin 16} {k : Fin 4} {s : State} (hstate : (portOf n.val s).state = 7)
    (hbit : bit (portOf n.val s).quads k.val = true) : ∃ t, execQuadFail n k s = .next t ∧ (portOf n.val t).state = 7 ∧
      (bit (portOf n.val s).healthy k.val = true → (portOf n.val t).healthy = (portOf n.val s).healthy - 2 ^ k.val) := by
  unfold execQuadFail
  dsimp only
  rw [if_neg (by simp [portLinked, hstate, hbit]), if_pos hstate]
  refine ⟨_, rfl, ?_⟩
  rw [portOf_setPort_self]
  exact ⟨rfl, fun h => if_pos h⟩

theorem execFastRetrainComplete_lost {n : Fin 16} {s : State} (hstate : (portOf n.val s).state = 7) :
    ∃ t, execFastRetrainComplete n none s = .next t ∧
      (portOf n.val t).state = (if (portOf n.val s).enable then 1 else 0) ∧ (portOf n.val t).quads = 0 := by
  unfold execFastRetrainComplete
  dsimp only
  rw [if_neg (by simp [hstate])]
  refine ⟨_, rfl, ?_, (portDown_down _ _ _).1.quads⟩
  rw [state_portDown]
  cases (portOf n.val s).enable <;> rfl

theorem execFastRetrainComplete_up {n : Fin 16} {p : PeerInfo} {mine : Nat} {set : List Nat} {s : State}
    (hstate : (portOf n.val s).state = 7)
    (hmine : mine = (List.range 4).foldl (fun m i => if bit (portOf n.val s).quads i && bit (portOf n.val s).healthy i then m + 2 ^ i else m) 0)
    (hset : set = laneSet mine p.quads.toNat (min (laneCap (portOf n.val s).maxLanes) (laneCap p.maxLanes.toNat)))
    (hlen : 2 ≤ set.length) : ∃ t, execFastRetrainComplete n (some p) s = .next t ∧ (portOf n.val t).state = 5 ∧
      (portOf n.val t).lanes = lanesCode set.length ∧ (∀ i < 4, bit (portOf n.val t).quads i = decide (i ∈ set)) ∧
      (portOf n.val t).replay = (portOf n.val s).replay := by
  unfold execFastRetrainComplete
  dsimp only
  rw [if_neg (by simp [hstate]), ← hmine, ← hset, if_neg (by omega)]
  refine ⟨_, rfl, ?_⟩
  rw [apply_ite (portOf n.val), portOf_logEvent, ite_self, portOf_setPort_self]
  exact ⟨rfl, rfl, bit_quads (hset ▸ laneSet_sublist _ _ _), rfl⟩

theorem execPeerTransmitStop_down {n : Fin 16} {s : State} (hlink : portLinked (portOf n.val s) = true) :
    ∃ t, execPeerTransmitStop n s = .next t ∧ (portOf n.val t).state = (if (portOf n.val s).enable then 1 else 0) ∧
      (portOf n.val t).replay = [] ∧ (portOf n.val t).txSeq = 0 ∧ (portOf n.val t).rxSeq = 0 := by
  obtain ⟨⟨-, hreplay, htx, hrx⟩, -⟩ := portDown_down n.val false s
  refine ⟨_, if_pos hlink, ?_, hreplay, htx, hrx⟩
  rw [state_portDown]
  cases (portOf n.val s).enable <;> rfl

end Sys2Proof.Machine
end

section
set_option Elab.async false
open Sys2Proof Sys2Proof.Machine

/-- Settles O44: each command in the port's state that it is for, and what going down leaves of a port. -/
theorem portCommandsComplete : Obligations.PortCommandsComplete := by
  unfold Obligations.PortCommandsComplete
  refine ⟨?enable, ?disable, ?disableLinked, ?retrain, ?signal, ?equalise, ?align, ?up, ?fails, ?timeout, ?retry, ?quad,
    ?quadAgain, ?lost, ?fast, ?stop⟩
  case enable => exact fun n s hw hr hs => execPortEnable_enables hw hr hs
  case disable => exact fun n s hw hl => execPortDisable_idle hw hl
  case disableLinked => exact fun n s hw hl => execPortDisable_linked hw hl
  case retrain => exact fun n s hw hr he hl => execPortRetrain_retrains hw hr he hl
  case signal => exact fun n s hs => ⟨_, if_pos hs, portOf_setPort_self _ _ _⟩
  case equalise => exact fun n s hs => ⟨_, if_pos hs, portOf_setPort_self _ _ _⟩
  case align => exact fun n h s hs => ⟨_, if_pos hs, portOf_setPort_self _ _ _⟩
  case up => exact fun n p set s hs hd hset hl => execLinkExchangeComplete_up hs hd hset hl
  case fails => exact fun n p s hs hbad => execLinkExchangeComplete_fails hs hbad
  case timeout => exact fun n s h1 h4 => ⟨_, if_pos (by simp [h1, h4]), portOf_trainFail _ _⟩
  case retry => exact fun n s h6 he hl => ⟨_, if_pos (by simp [h6, he, hl]), portOf_setPort_self _ _ _⟩
  case quad => exact fun n k s hs hb => execQuadFail_up hs hb
  case quadAgain => exact fun n k s hs hb => execQuadFail_retraining hs hb
  case lost => exact fun n s hs => execFastRetrainComplete_lost hs
  case fast => exact fun n p mine set s hs hmine hset hl => execFastRetrainComplete_up hs hmine hset hl
  case stop => exact fun n s hl => execPeerTransmitStop_down hl

end

section
set_option Elab.async false
/-! SUPPORT. What a write to host memory or an interrupt leaves of the host side (R366 to R378). -/

namespace Sys2Proof.Machine

/-- The host side `y` is `x` but for host memory and the interrupts that pend or were sent. -/
def HostSide.SameButMail (x y : HostSide) : Prop := ∃ m p g, y = { x with mem := m, pba := p, msgs := g }

theorem HostSide.SameButMail.refl (x : HostSide) : x.SameButMail x := ⟨_, _, _, rfl⟩

theorem HostSide.SameButMail.trans {x y z : HostSide} (h : x.SameButMail y) (h2 : y.SameButMail z) : x.SameButMail z := by
  obtain ⟨_, _, _, rfl⟩ := h
  obtain ⟨_, _, _, rfl⟩ := h2
  exact ⟨_, _, _, rfl⟩

theorem HostSide.SameButMail.of_eq {x y : HostSide} (h : y = x) : x.SameButMail y := h ▸ .refl x

theorem sameButMail_hostWrite (a : Nat) (bytes : List Byte) (s : State) : s.host.SameButMail (hostWrite a bytes s).host := by
  unfold hostWrite
  split <;> exact ⟨_, _, _, rfl⟩

theorem sameButMail_sendMsix (v : Nat) (s : State) : s.host.SameButMail (sendMsix v s).host := by
  unfold sendMsix
  dsimp only
  (repeat' split) <;> exact ⟨_, _, _, rfl⟩

theorem sameButMail_gbPut (r : EvtRec) (s : State) : s.host.SameButMail (gbPut r s).host := by
  unfold gbPut
  dsimp only
  exact HostSide.SameButMail.trans (sameButMail_hostWrite _ _ _) (sameButMail_sendMsix _ _)

theorem sameButMail_gbDeliver (r : EvtRec) (s : State) : s.host.SameButMail (gbDeliver r s).host := by
  unfold gbDeliver
  (repeat' split)
  · exact sameButMail_gbPut r s
  all_goals exact .of_eq (by simp)

theorem sameButMail_logEvent (ev : Ev) (detail : Nat) (s : State) : s.host.SameButMail (logEvent ev detail s).host := by
  have hmark : s.host.SameButMail (gbMark true s).host := by
    unfold gbMark
    extract_lets p s1
    have h1 : s.host.SameButMail s1.host := HostSide.SameButMail.trans (y := p.2.host) (.of_eq (by simp [p])) (sameButMail_gbDeliver _ _)
    split
    · exact h1.trans (.of_eq (by simp))
    · exact .refl _
  unfold logEvent
  extract_lets p
  exact (hmark.trans (.of_eq (by simp [p]))).trans ((sameButMail_gbDeliver p.1 p.2).trans (.of_eq (by simp)))

/-- A flush of the pending vectors changes what pends and what was sent, and nothing else of the host side. -/
theorem sameButMail_flushMsix (s : State) : s.host.SameButMail (flushMsix s).host := by
  have hfold : ∀ (vs : List Nat) (u : State), u.host.SameButMail (vs.foldl (fun acc v => sendMsix v
      (setHost (fun h => { h with pba := h.pba.filter (· != v) }) acc)) u).host := by
    intro vs
    induction vs with
    | nil => exact fun u => .refl _
    | cons v vs ih =>
      refine fun u => HostSide.SameButMail.trans ?_ (ih _)
      exact HostSide.SameButMail.trans (y := (setHost (fun h => { h with pba := h.pba.filter (· != v) }) u).host) ⟨_, _, _, rfl⟩
        (sameButMail_sendMsix _ _)
  unfold flushMsix
  split
  · exact .refl _
  · exact hfold _ _

theorem sendMsix_of_open {v : Nat} {s : State} (hentry : (msixEntry v s).masked = false) (hfunc : s.host.funcMask = false) :
    ∃ g, sendMsix v s = setHost (fun h => { h with msgs := g }) s := by
  unfold sendMsix
  split
  · exact ⟨_, rfl⟩
  · dsimp only
    rw [if_neg (by simp [hentry, hfunc])]
    split <;> exact ⟨_, rfl⟩

/-- After a flush no vector pends that nothing masks. -/
theorem notMem_pba_flushMsix {v : Nat} {s : State} (hv : v < 2048) (hen : s.host.msixEn = true) (hfunc : s.host.funcMask = false)
    (hentry : (msixEntry v s).masked = false) : v ∉ (flushMsix s).host.pba := by
  have hfold : ∀ (vs : List Nat) (u : State), u.host.funcMask = false → (∀ w ∈ vs, (msixEntry w u).masked = false) →
      ∀ w ∈ (vs.foldl (fun acc v => sendMsix v (setHost (fun h => { h with pba := h.pba.filter (· != v) }) acc)) u).host.pba,
        w ∈ u.host.pba ∧ w ∉ vs := by
    intro vs
    induction vs with
    | nil => exact fun u _ _ w hw => ⟨hw, List.not_mem_nil⟩
    | cons x xs ih =>
      intro u hmask hopen w hw
      rw [List.foldl_cons] at hw
      obtain ⟨g, hg⟩ := sendMsix_of_open (v := x) (s := setHost (fun h => { h with pba := h.pba.filter (· != x) }) u)
        (hopen x List.mem_cons_self) hmask
      rw [hg] at hw
      obtain ⟨hmem, hnot⟩ := ih (setHost (fun h => { h with msgs := g }) (setHost (fun h => { h with pba := h.pba.filter (· != x) }) u))
        hmask (fun y hy => hopen y (List.mem_cons_of_mem _ hy)) w hw
      have hkept : w ∈ u.host.pba.filter (· != x) := hmem
      rw [List.mem_filter, bne_iff_ne] at hkept
      exact ⟨hkept.1, List.not_mem_cons_of_ne_of_not_mem hkept.2 hnot⟩
  intro hmem
  unfold flushMsix at hmem
  rw [if_neg (by simp [hen, hfunc])] at hmem
  dsimp only at hmem
  generalize hvs : (List.range 2048).filter (fun v => s.host.pba.contains v && !(msixEntry v s).masked) = vs at hmem
  have hin : ∀ w, w ∈ vs ↔ w < 2048 ∧ w ∈ s.host.pba ∧ (msixEntry w s).masked = false := fun w => by
    rw [← hvs, List.mem_filter, List.mem_range]
    simp
  obtain ⟨hpba, hnot⟩ := hfold vs s hfunc (fun w hw => ((hin w).mp hw).2.2) v hmem
  exact hnot ((hin v).mpr ⟨hv, hpba, hentry⟩)

/-! The link, configuration space and Cache_Enable (R366 to R369, R372, R380). -/

theorem execLinkUp_up {rate width : BitVec 2} (cxl lat : Bool) {s : State} (halive : alive s = true) (hdown : s.host.linkUp = false)
    (hbar : s.boot.linkBarred = false) (hrate : rate ≠ 0#2) (h0 : width ≠ 0#2) (h3 : width ≠ 3#2) :
    ∃ t, execLinkUp rate width cxl lat s = .next t ∧ t.host.linkUp = true ∧ t.host.rate = rate.toNat ∧
      t.host.width = width.toNat ∧ t.host.cxl = cxl ∧ t.host.latOpt = lat := by
  unfold execLinkUp
  rw [if_neg (by simp [halive, hdown, hbar, hrate, h0, h3])]
  extract_lets s1 s2 s3
  have h2 : s1.host.SameButMail s2.host := sameButMail_logEvent _ _ _
  have h3 : s1.host.SameButMail s3.host := by
    unfold s3
    split
    · exact h2
    · exact h2.trans (sameButMail_logEvent _ _ _)
  have h4 : s1.host.SameButMail (if cxl = true then s3 else logEvent .hostLinkNoCxl 0 s3).host := by
    split
    · exact h3
    · exact h3.trans (sameButMail_logEvent _ _ _)
  obtain ⟨m, p, g, h⟩ := h4
  exact ⟨_, rfl, congrArg HostSide.linkUp h, congrArg HostSide.rate h, congrArg HostSide.width h, congrArg HostSide.cxl h,
    congrArg HostSide.latOpt h⟩

theorem execConfigRequest_retried (req : ConfigReq) {s : State} (halive : alive s = true) (hup : s.host.linkUp = true)
    (hio : s.host.stopIo = false) (hrel : released 1 s = false) :
    execConfigRequest req s = .next (setHost (fun h => { h with answer := .retryStatus }) s) := by
  simp [execConfigRequest, halive, hup, hio, hrel]

/-- What a configuration request does once it is accepted (R369). -/
def configPerformed (s : State) : ConfigReq → State
  | .memEnable on => setHost (fun h => { h with memEn := on }) s
  | .biEnable on => setHost (fun h => { h with biEn := on }) s
  | .msixEnable on => flushMsix (setHost (fun h => { h with msixEn := on }) s)
  | .functionMask on => flushMsix (setHost (fun h => { h with funcMask := on }) s)
  | .other => s

theorem execConfigRequest_performed (req : ConfigReq) {s : State} (halive : alive s = true) (hup : s.host.linkUp = true)
    (hio : s.host.stopIo = false) (hrel : released 1 s = true) :
    execConfigRequest req s = .next (configPerformed (setHost (fun h => { h with answer := .accepted }) s) req) := by
  unfold execConfigRequest
  rw [if_neg (by simp [halive, hup, hio]), if_neg (by simp [hrel])]
  cases req <;> rfl

theorem execCacheEnableSet_reads {s : State} (halive : alive s = true) (hrel : released 1 s = true) (hup : s.host.linkUp = true)
    (hcxl : s.host.cxl = true) (hoff : s.host.cacheEn = false) : ∃ t, execCacheEnableSet s = .next t ∧ t.host.cacheEn = true ∧
      t.host.lines = s.host.lines ∧
      (s.host.stopMem = false → s.host.d3hot = false → ∀ l ∈ neededLines s, l ∈ t.host.reading) := by
  unfold execCacheEnableSet
  rw [if_neg (by simp [halive, hrel, hup, hcxl, hoff])]
  unfold readAllLines readLines
  refine ⟨_, rfl, ?_, ?_, fun hmem hd3 l hl => ?_⟩
  · split <;> rfl
  · split <;> rfl
  · rw [if_pos (by simp [cacheUsable, hup, hcxl, hmem, hd3])]
    by_cases hold : l ∈ s.host.reading
    · exact List.mem_append_left _ hold
    · exact List.mem_append_right _ (List.mem_filter.mpr ⟨hl, by simpa using hold⟩)

theorem execCacheEnableClear_stops {s : State} (halive : alive s = true) (hup : s.host.linkUp = true) (hon : s.host.cacheEn = true) :
    ∃ t, execCacheEnableClear s = .next t ∧ t.host.cacheEn = false ∧ t.host.lines = [] ∧ t.host.reading = [] ∧
      t.rings = s.rings := by
  unfold execCacheEnableClear
  rw [if_neg (by simp [halive, hup, hon])]
  extract_lets s1
  have hmail : s1.host.SameButMail (if (s.rings.sqs.isEmpty && s.rings.cqs.isEmpty) = true then s1
      else logEvent .hostAccessError 0 s1).host := by
    split
    · exact .refl _
    · exact sameButMail_logEvent _ _ _
  obtain ⟨m, p, g, h⟩ := hmail
  refine ⟨_, rfl, congrArg HostSide.cacheEn h, congrArg HostSide.lines h, congrArg HostSide.reading h, ?_⟩
  split
  · rfl
  · simp only [logEvent_frame]
    rfl

end Sys2Proof.Machine
end

section
set_option Elab.async false
open Sys2Proof Sys2Proof.Machine

/-- Settles O49: each command of the link in the state it is for; a configuration request by whether its step is complete. -/
theorem linkCommandsComplete : Obligations.LinkCommandsComplete := by
  unfold Obligations.LinkCommandsComplete
  refine ⟨?up, ?width, ?retry, ?mem, ?bi, ?msix, ?mask, ?set, ?clear⟩
  case up => exact fun rate width cxl lat s ha hd hb hr h0 h3 => execLinkUp_up cxl lat ha hd hb hr h0 h3
  case width => exact fun width s hup hw => ⟨_, if_pos (by simp [hup, hw]), rfl⟩
  case retry => exact fun req s ha hup hio hrel => ⟨_, execConfigRequest_retried req ha hup hio hrel, rfl⟩
  case mem => exact fun on s ha hup hio hrel => ⟨_, execConfigRequest_performed (.memEnable on) ha hup hio hrel, rfl⟩
  case bi => exact fun on s ha hup hio hrel => ⟨_, execConfigRequest_performed (.biEnable on) ha hup hio hrel, rfl⟩
  case msix =>
    intro on s ha hup hio hrel
    obtain ⟨m, p, g, h⟩ := sameButMail_flushMsix (setHost (fun h => { h with answer := .accepted, msixEn := on }) s)
    exact ⟨_, execConfigRequest_performed (.msixEnable on) ha hup hio hrel, congrArg HostSide.msixEn h, congrArg HostSide.answer h⟩
  case mask =>
    intro on s ha hup hio hrel
    obtain ⟨m, p, g, h⟩ := sameButMail_flushMsix (setHost (fun h => { h with answer := .accepted, funcMask := on }) s)
    exact ⟨_, execConfigRequest_performed (.functionMask on) ha hup hio hrel, congrArg HostSide.funcMask h, congrArg HostSide.answer h⟩
  case set => exact fun s ha hrel hup hc hoff => execCacheEnableSet_reads ha hrel hup hc hoff
  case clear => exact fun s ha hup hon => execCacheEnableClear_stops ha hup hon

end

section
set_option Elab.async false
/-! SUPPORT. Link encryption, the mailboxes, and the registers of BAR0 (R373 to R378, R387 to R390). -/

namespace Sys2Proof.Machine

theorem execIdeIntegrityFail_mem {s : State} (hup : s.host.linkUp = true) (hide : s.host.ideMem = true) :
    ∃ t, execIdeIntegrityFail .cacheMem s = .next t ∧ t.host.ideMem = false ∧ t.host.stopMem = true ∧
      t.host.stopIo = s.host.stopIo := by
  unfold execIdeIntegrityFail
  dsimp only
  rw [if_neg (by simp [hup, hide])]
  obtain ⟨m, p, g, h⟩ := sameButMail_logEvent .hostIdeFail 0 (setHost (fun h => { h with ideMem := false, stopMem := true }) s)
  exact ⟨_, rfl, congrArg HostSide.ideMem h, congrArg HostSide.stopMem h, (congrArg HostSide.stopIo h).trans rfl⟩

theorem execIdeIntegrityFail_io {s : State} (hup : s.host.linkUp = true) (hide : s.host.ideIo = true) :
    ∃ t, execIdeIntegrityFail .io s = .next t ∧ t.host.ideIo = false ∧ t.host.stopIo = true ∧
      t.host.stopMem = s.host.stopMem := by
  unfold execIdeIntegrityFail
  dsimp only
  rw [if_neg (by simp [hup, hide])]
  obtain ⟨m, p, g, h⟩ := sameButMail_logEvent .hostIdeFail 0 (setHost (fun h => { h with ideIo := false, stopIo := true }) s)
  exact ⟨_, rfl, congrArg HostSide.ideIo h, congrArg HostSide.stopIo h, (congrArg HostSide.stopMem h).trans rfl⟩

theorem execIdeKeyProgram_mem {s : State} (hserved : doeServed s = true) (hsession : s.sec.spdm.session = true)
    (hstop : s.host.stopMem = false) (hcxl : s.host.cxl = true) :
    execIdeKeyProgram .cacheMem s = .next (setHost (fun h => { h with ideMem := true }) s) := by
  unfold execIdeKeyProgram
  rw [if_neg (by simp [hserved, hsession])]
  dsimp only
  rw [if_neg (by simp [hstop, hcxl])]

theorem execIdeKeyProgram_io {s : State} (hserved : doeServed s = true) (hsession : s.sec.spdm.session = true) :
    execIdeKeyProgram .io s = .next (setHost (fun h => { h with ideIo := true }) s) := by
  unfold execIdeKeyProgram
  rw [if_neg (by simp [hserved, hsession])]

theorem doeAnswer_answers (inst : Nat) (bytes : List Byte) (s : State) : (doeAnswer inst bytes s).host.answer = .data bytes ∧
    (inst = 0 → (doeAnswer inst bytes s).host.doe0 = some bytes) ∧
    (inst ≠ 0 → (doeAnswer inst bytes s).host.doe1 = some bytes) := by
  by_cases h : inst = 0 <;> simp [doeAnswer, h]

theorem execDoeDiscovery_answers (inst : Fin 2) (index : Byte) {s : State} (hserved : doeServed s = true) :
    ∃ t bytes, execDoeDiscovery inst index s = .next t ∧ t.host.answer = .data bytes ∧ bytes.length = 4 ∧
      (inst = 0 → t.host.doe0 = some bytes) ∧ (inst = 1 → t.host.doe1 = some bytes) := by
  unfold execDoeDiscovery
  rw [if_neg (by simp [hserved])]
  obtain ⟨hans, h0, h1⟩ := doeAnswer_answers inst.val (leBytes 4 _) s
  exact ⟨_, _, rfl, hans, length_leBytes _ _, fun h => h0 (congrArg Fin.val h),
    fun h => h1 (by rw [h]; exact Nat.one_ne_zero)⟩

theorem execDoeAbort_zero {s : State} (hserved : doeServed s = true) :
    execDoeAbort 0 s = .next (setHost (fun h => { h with doe0 := none }) s) := by
  unfold execDoeAbort
  rw [if_neg (by simp [hserved])]
  rfl

theorem execDoeAbort_one {s : State} (hserved : doeServed s = true) :
    execDoeAbort 1 s = .next (setHost (fun h => { h with doe1 := none }) s) := by
  unfold execDoeAbort
  rw [if_neg (by simp [hserved])]
  rfl

theorem execMsixUnmask_unmasks {v : Fin 2048} {s : State} (hworks : regWorks 1 false s = true) :
    ∃ t, execMsixUnmask v s = .next t ∧ (msixEntry v.val t).masked = false ∧
      (s.host.msixEn = true → s.host.funcMask = false → v.val ∉ t.host.pba) := by
  unfold execMsixUnmask
  rw [regWrite_of_works _ hworks]
  unfold maskVector
  generalize hu : setHost (fun h => { h with msix := Tbl.put h.msix v.val { msixEntry v.val s with masked := false } }) s = u
  have hentry : (msixEntry v.val u).masked = false := by
    subst hu
    exact congrArg MsixEntry.masked (msixEntry_put v.val { msixEntry v.val s with masked := false } s)
  have hen : u.host.msixEn = s.host.msixEn := by rw [← hu]; rfl
  have hfunc : u.host.funcMask = s.host.funcMask := by rw [← hu]; rfl
  obtain ⟨m, p, g, h⟩ := sameButMail_flushMsix u
  refine ⟨_, rfl, ?_, fun he hf => notMem_pba_flushMsix v.isLt (hen.trans he) (hfunc.trans hf) hentry⟩
  rw [msixEntry, h]
  exact hentry

theorem execBar0AccessError_marks (write : Bool) {s : State} (halive : alive s = true) (hup : s.host.linkUp = true)
    (hio : s.host.stopIo = false) (hd3 : s.host.d3hot = false) : execBar0AccessError write s = .next (accessError write s) := by
  unfold execBar0AccessError
  rw [if_neg (by simp [halive, hup, hio]), if_neg (by simp [hd3])]

theorem execRegisterWrite_unaligned {offset : BitVec 23} {wide : Bool} (value : W64) {s : State} (hbar : barServed s = true)
    (hoff : offset.toNat % (if wide then 8 else 4) ≠ 0) :
    execRegisterWrite offset wide value s = .next (accessError true s) := by
  unfold execRegisterWrite
  dsimp only
  rw [if_neg (by simp [hbar]), if_pos (by simpa using hoff)]

theorem execRegisterWrite_wide {offset : BitVec 23} (value : W64) {s : State} (hbar : barServed s = true)
    (hoff : offset.toNat % 8 = 0) : execRegisterWrite offset true value s = .next (store8 offset.toNat value s) := by
  unfold execRegisterWrite
  dsimp only
  rw [if_neg (by simp [hbar]), if_neg (by simp [hoff]), if_pos rfl]

theorem execRegisterWrite_narrow {offset : BitVec 23} (value : W64) {s : State} (hbar : barServed s = true)
    (hoff : offset.toNat % 4 = 0) :
    execRegisterWrite offset false value s = .next (store4 offset.toNat (value.extractLsb' 0 32) s) := by
  unfold execRegisterWrite
  dsimp only
  rw [if_neg (by simp [hbar]), if_neg (by simp [hoff]), if_neg Bool.false_ne_true]

theorem toNat_low (value : W64) : (value.extractLsb' 0 32).toNat = value.toNat % 2 ^ 32 := by
  simp [BitVec.extractLsb'_toNat]

/-- The lower half of a 64-bit register waits for its upper half (R390). -/
theorem store4_lower {off : Nat} (v : W32) (s : State) (h64 : is64 off = true) (hoff : off % 8 = 0) :
    store4 off v s = setHost (fun h => { h with staged := Tbl.put h.staged off v.toNat }) s := by
  have hbase : off / 8 * 8 = off := by omega
  unfold store4
  dsimp only
  rw [hbase, if_neg (by simp [h64]), if_pos rfl]

/-- The upper half writes the register with the lower half that waits (R390). -/
theorem store4_upper {off lo : Nat} (v : W32) (s : State) (h64 : is64 (off - 4) = true) (hoff : off % 8 = 4)
    (hlo : Tbl.look s.host.staged (off - 4) = some lo) : store4 off v s =
      write64 (off - 4) (BitVec.ofNat 64 (v.toNat * 2 ^ 32 + lo))
        (setHost (fun h => { h with staged := Tbl.del h.staged (off - 4) }) s) := by
  have hbase : off / 8 * 8 = off - 4 := by omega
  unfold store4
  dsimp only
  rw [hbase, if_neg (by simp [h64]), if_neg (by omega)]
  simp only [hlo]

end Sys2Proof.Machine
end

section
set_option Elab.async false
open Sys2Proof Sys2Proof.Machine

/-- Settles O51: each mailbox and register by its own branch; a store of a word by the register's width and half. -/
theorem hostRegisterCommandsComplete : Obligations.HostRegisterCommandsComplete := by
  unfold Obligations.HostRegisterCommandsComplete
  refine ⟨?failMem, ?failIo, ?keyMem, ?keyIo, ?discovery, ?cdat, ?abort0, ?abort1, ?unmask, ?errWrite, ?errRead, ?unaligned,
    ?wide64, ?wide32, ?narrow32, ?lower, ?upper⟩
  case failMem => exact fun s hup h => execIdeIntegrityFail_mem hup h
  case failIo => exact fun s hup h => execIdeIntegrityFail_io hup h
  case keyMem => exact fun s hd hs hm hc => ⟨_, execIdeKeyProgram_mem hd hs hm hc, rfl⟩
  case keyIo => exact fun s hd hs => ⟨_, execIdeKeyProgram_io hd hs, rfl⟩
  case discovery => exact fun inst index s hd => execDoeDiscovery_answers inst index hd
  case cdat => exact fun s hd => ⟨_, if_pos hd, rfl, rfl⟩
  case abort0 => exact fun s hd => ⟨_, execDoeAbort_zero hd, rfl⟩
  case abort1 => exact fun s hd => ⟨_, execDoeAbort_one hd, rfl⟩
  case unmask => exact fun v s hw => execMsixUnmask_unmasks hw
  case errWrite => exact fun s ha hup hio hd3 => ⟨_, execBar0AccessError_marks true ha hup hio hd3, rfl⟩
  case errRead => exact fun s ha hup hio hd3 => ⟨_, execBar0AccessError_marks false ha hup hio hd3, rfl⟩
  case unaligned => exact fun offset wide value s hb ho => ⟨_, execRegisterWrite_unaligned value hb ho, rfl⟩
  case wide64 =>
    intro offset value s hb h64 ho
    exact (execRegisterWrite_wide value hb ho).trans (congrArg Host.Outcome.next (if_pos h64))
  case wide32 =>
    intro offset value s hb h64 ho
    exact (execRegisterWrite_wide value hb ho).trans (congrArg Host.Outcome.next (if_neg (by simp [h64])))
  case narrow32 =>
    intro offset value s hb h64 ho
    exact (execRegisterWrite_narrow value hb ho).trans (congrArg Host.Outcome.next (if_pos (by simp [h64])))
  case lower =>
    intro offset value s hb h64 ho
    refine ⟨_, execRegisterWrite_narrow value hb (by omega), ?_⟩
    rw [store4_lower _ _ h64 ho, toNat_low]
    exact Tbl.look_put_self _ _ _
  case upper =>
    intro offset value lo s hb h64 ho hlo
    refine (execRegisterWrite_narrow value hb (by omega)).trans (congrArg Host.Outcome.next ?_)
    rw [store4_upper _ _ h64 ho hlo, toNat_low]

end

section
set_option Elab.async false
/-! SUPPORT. The staging window of CXL.mem (R381 to R386). -/

namespace Sys2Proof.Machine

/-- Reading stacked memory depends on it and on its stuck cells only. -/
theorem readStacked_congr {a n : Nat} {s t : State} (hmem : t.mem = s.mem) (hecc : t.ecc = s.ecc) :
    (readStacked a n t).1 = (readStacked a n s).1 := by
  have hraw : ∀ w, rawWord w t = rawWord w s := fun w => by simp only [rawWord, hmem, hecc]
  have hbad : firstBad a n t = firstBad a n s := by simp only [firstBad, touchedWords, hmem, hecc, hraw]
  have hwords : correctedWords a n t = correctedWords a n s := by simp only [correctedWords, touchedWords, hmem, hecc, hraw]
  have hbytes : stackedBytes a n t = stackedBytes a n s := by simp only [stackedBytes, hwords, hmem]
  unfold readStacked
  dsimp only
  rw [hbad, hbytes]
  split <;> rfl

theorem readStacked_ok_host {a n : Nat} {bytes : List Byte} {s : State} (h : (readStacked a n s).1 = .ok bytes) :
    (readStacked a n s).2.host = s.host := by
  cases hbad : firstBad a n s with
  | none => rw [readStacked_of_firstBad_none hbad]; simp
  | some p => rw [readStacked_of_firstBad_some hbad] at h; cases h

theorem answerLine_answers {line : Nat} {bytes : List Byte} {s : State}
    (h : (readStacked (windowBase s + 64 * line) 64 s).1 = .ok bytes) :
    (answerLine line s).host = { s.host with answer := .data bytes } := by
  have hhost := readStacked_ok_host h
  unfold answerLine
  generalize readStacked (windowBase s + 64 * line) 64 s = r at h hhost
  obtain ⟨res, s1⟩ := r
  cases h
  exact congrArg (fun x : HostSide => { x with answer := Answer.data bytes }) hhost

theorem windowBase_congr {s t : State} (hmem : t.mem = s.mem) : windowBase t = windowBase s := by
  unfold windowBase jobArea area
  rw [hmem]

theorem execHdmHostRead_uncached {addr : BitVec 34} {bytes : List Byte} {s : State} (hserved : hdmServed s = true)
    (hd3 : s.host.d3hot = false) (hready : s.boot.dev = .ready)
    (hstep : stepEntry ((windowBase s + 64 * (addr.toNat / 64)) / 4096) s = none)
    (hread : (readStacked (windowBase s + 64 * (addr.toNat / 64)) 64 s).1 = .ok bytes) :
    ∃ t, execHdmHostRead addr .uncached s = .next t ∧ t.host = { s.host with answer := .data bytes } := by
  unfold execHdmHostRead
  rw [if_neg (by simp [hserved]), if_neg (by simp [hd3]), if_neg (by simp [hready])]
  dsimp only
  rw [hstep]
  exact ⟨_, rfl, answerLine_answers hread⟩

/-- The snoop filter takes a line it has room for, or the line it has already. -/
theorem recordLine_records (line : Nat) (exclusive : Bool) {s : State} (hroom : s.host.snoop.length < Config.snoopEntries) :
    ∃ l, recordLine line exclusive s = some (setHost (fun h => { h with snoop := l }) s) ∧
      ∃ x ∈ l, x.line = line ∧ (exclusive = true → x.exclusive = true) := by
  unfold recordLine
  by_cases hany : s.host.snoop.any (fun x => x.line == line) = true
  · rw [if_pos hany]
    obtain ⟨x, hx, hline⟩ := List.any_eq_true.mp hany
    have heq : x.line = line := by simpa using hline
    exact ⟨_, rfl, _, List.mem_map_of_mem hx, by simp [heq], fun h => by simp [heq, h]⟩
  · rw [if_neg hany, if_pos hroom]
    exact ⟨_, rfl, { line := line, exclusive := exclusive }, by simp, rfl, id⟩

theorem execHdmHostRead_cached {addr : BitVec 34} {intent : HdmIntent} {bytes : List Byte} {s : State}
    (hintent : intent ≠ HdmIntent.uncached) (hserved : hdmServed s = true) (hd3 : s.host.d3hot = false)
    (hready : s.boot.dev = .ready) (hstep : stepEntry ((windowBase s + 64 * (addr.toNat / 64)) / 4096) s = none)
    (hroom : s.host.snoop.length < Config.snoopEntries)
    (hread : (readStacked (windowBase s + 64 * (addr.toNat / 64)) 64 s).1 = .ok bytes) :
    ∃ t, execHdmHostRead addr intent s = .next t ∧ t.host.answer = .data bytes ∧
      ∃ x ∈ t.host.snoop, x.line = addr.toNat / 64 ∧ (intent = .exclusive → x.exclusive = true) := by
  obtain ⟨l, hrecord, x, hx, hline, hex⟩ := recordLine_records (addr.toNat / 64) (intent == .exclusive) hroom
  unfold execHdmHostRead
  rw [if_neg (by simp [hserved]), if_neg (by simp [hd3]), if_neg (by simp [hready])]
  dsimp only
  rw [hstep]
  dsimp only
  rw [if_neg (by simpa using hintent), hrecord]
  generalize hu : setHost (fun h => { h with snoop := l }) s = u
  have hmem : u.mem = s.mem := by rw [← hu]; rfl
  have hecc : u.ecc = s.ecc := by rw [← hu]; rfl
  have hsnoop : u.host.snoop = l := by rw [← hu]; rfl
  have hans := answerLine_answers (s := u)
    ((congrArg (fun a => (readStacked (a + 64 * (addr.toNat / 64)) 64 u).1) (windowBase_congr hmem)).trans
      ((readStacked_congr hmem hecc).trans hread))
  refine ⟨_, rfl, congrArg HostSide.answer hans, x, ?_, hline, fun h => hex (by simp [h])⟩
  rw [congrArg HostSide.snoop hans]
  exact hsnoop ▸ hx

theorem execHdmHostWrite_stores {addr : BitVec 34} {bytes data : List Byte} {poison : Bool} {a : Nat} {s : State}
    (hserved : hdmServed s = true) (hd3 : s.host.d3hot = false) (hready : s.boot.dev = .ready)
    (ha : a = windowBase s + addr.toNat) (hdata : data = bytes.take (64 - addr.toNat % 64)) (ha8 : a % 8 = 0)
    (hlen : data.length % 8 = 0) (hstep : stepEntry (a / 4096) s = none) (hsigned : signedHit a data.length s = none) :
    ∃ t, execHdmHostWrite addr bytes poison s = .next t ∧ t.mem.stacked = Mem.write zeroByte s.mem.stacked a data ∧
      (poison = true → t.host.poisoned = true) := by
  obtain ⟨hstacked, -⟩ := putStacked_aligned (s := s) ha8 hlen
  unfold execHdmHostWrite
  rw [if_neg (by simp [hserved]), if_neg (by simp [hd3]), if_neg (by simp [hready])]
  dsimp only
  rw [← ha, ← hdata, hstep]
  dsimp only
  unfold hostStore
  rw [hsigned]
  dsimp only
  cases poison with
  | false => exact ⟨_, rfl, hstacked, nofun⟩
  | true => exact ⟨_, rfl, hstacked, fun _ => rfl⟩

theorem execHdmHostWrite_signed {addr : BitVec 34} {bytes : List Byte} {poison : Bool} {e : Nat} {j : Job} {s : State}
    (hserved : hdmServed s = true) (hd3 : s.host.d3hot = false) (hready : s.boot.dev = .ready)
    (hsigned : signedHit (windowBase s + addr.toNat) (bytes.take (64 - addr.toNat % 64)).length s = some (e, j)) :
    ∃ t, execHdmHostWrite addr bytes poison s = .next t ∧ t.mem.stacked = s.mem.stacked ∧
      t.host.conflicts = satAdd 24 s.host.conflicts 1 := by
  have hstore : (hostStore (windowBase s + addr.toNat) (bytes.take (64 - addr.toNat % 64)) poison s).mem.stacked = s.mem.stacked ∧
      (hostStore (windowBase s + addr.toNat) (bytes.take (64 - addr.toNat % 64)) poison s).host.conflicts
        = satAdd 24 s.host.conflicts 1 := by
    unfold hostStore
    rw [hsigned]
    dsimp only
    split
    · exact ⟨rfl, rfl⟩
    · obtain ⟨m, p, g, h⟩ := sameButMail_logEvent .secSignedWrite 0 (modJob e (fun k => { k with signedLogged := true })
        (setHost (fun h => { h with conflicts := satAdd 24 h.conflicts 1 }) s))
      refine ⟨?_, (congrArg HostSide.conflicts h).trans rfl⟩
      simp only [logEvent_frame]
      rfl
  unfold execHdmHostWrite
  rw [if_neg (by simp [hserved]), if_neg (by simp [hd3]), if_neg (by simp [hready])]
  dsimp only
  refine ⟨_, rfl, ?_⟩
  cases stepEntry ((windowBase s + addr.toNat) / 4096) s with
  | none => exact hstore
  | some p =>
    dsimp only
    rw [if_pos (by rw [hsigned]; rfl)]
    exact hstore

theorem execBisnpResponse_answers {line : BitVec 28} {b : BiSnoop} {s : State}
    (hfind : s.host.biOut.find? (fun x => x.line == line.toNat) = some b) (hup : s.host.linkUp = true)
    (hstop : s.host.stopMem = false) (hsweep : s.host.sweep = []) (hwait : s.host.waiting = none)
    (hregion : s.tensor.region.waits = false) :
    ∃ t, execBisnpResponse line [] s = .next t ∧ (∀ x ∈ t.host.biOut, x.line ≠ line.toNat) ∧
      (b.inv = true → ∀ x ∈ t.host.snoop, x.line ≠ line.toNat) ∧
      (b.inv = false → ∀ x ∈ t.host.snoop, x.line = line.toNat → x.exclusive = false) := by
  have hgo : ∀ u : State, u.host.waiting = none → u.host.sweep = [] → u.tensor.region.waits = false →
      (boundaryResume (issueSweep (resumeWaiting u))).host.biOut = u.host.biOut ∧
      (boundaryResume (issueSweep (resumeWaiting u))).host.snoop = u.host.snoop := fun u huw hus hur => by
    have hres : resumeWaiting u = u := by simp [resumeWaiting, huw]
    have hbound : boundaryResume (issueSweep u) = issueSweep u := if_neg (by simp [issueSweep, hur])
    rw [hres, hbound]
    simp [issueSweep, hus]
  unfold execBisnpResponse
  dsimp only
  rw [hfind]
  dsimp only
  rw [if_neg (by simp [hup, hstop]), if_pos (by simp)]
  obtain ⟨hbi, hsnoop⟩ := hgo (setHost (fun h => { h with
    biOut := h.biOut.filter (fun x => x.line != line.toNat)
    snoop := if b.inv then h.snoop.filter (fun x => x.line != line.toNat)
             else h.snoop.map (fun x => if x.line = line.toNat then { x with exclusive := false } else x) }) s) hwait hsweep hregion
  refine ⟨_, rfl, fun x hx => ?_, fun hinv x hx => ?_, fun hinv x hx heq => ?_⟩
  · rw [hbi] at hx
    exact bne_iff_ne.mp (List.mem_filter.mp hx).2
  · rw [hsnoop, setHost, hinv] at hx
    exact bne_iff_ne.mp (List.mem_filter.mp hx).2
  · rw [hsnoop, setHost, hinv] at hx
    obtain ⟨y, -, rfl⟩ := List.mem_map.mp hx
    split
    · rfl
    · rename_i hne
      rw [if_neg hne] at heq
      exact absurd heq hne

end Sys2Proof.Machine
end

section
set_option Elab.async false
open Sys2Proof Sys2Proof.Machine

/-- Settles O50: each access of the window past its checks; a read by what the snoop filter records of it. -/
theorem windowCommandsComplete : Obligations.WindowCommandsComplete := by
  unfold Obligations.WindowCommandsComplete
  refine ⟨?commit, ?refused, ?uncached, ?cached, ?write, ?signed, ?response⟩
  case commit =>
    intro base s hb hr hm hbi hc
    refine ⟨_, (if_neg (by simp [hb])).trans (if_pos (by simp [hr, hm, hbi, hc])), rfl⟩
  case refused =>
    intro base s hb hbad
    refine ⟨_, (if_neg (by simp [hb])).trans (if_neg ?_), rfl⟩
    rcases hbad with h | h | h | h <;> simp [h]
  case uncached => exact fun addr bytes s hs hd hr hstep hread => execHdmHostRead_uncached hs hd hr hstep hread
  case cached => exact fun addr intent bytes s hi hs hd hr hstep hroom hread => execHdmHostRead_cached hi hs hd hr hstep hroom hread
  case write =>
    exact fun addr bytes poison data a s hs hd hr ha hdata h8 hl hstep hsig =>
      execHdmHostWrite_stores hs hd hr ha hdata h8 hl hstep hsig
  case signed => exact fun addr bytes poison e j s hs hd hr hsig => execHdmHostWrite_signed hs hd hr hsig
  case response => exact fun line b s hf hup hst hsw hw hreg => execBisnpResponse_answers hf hup hst hsw hw hreg

end

section
set_option Elab.async false
/-! SUPPORT. Power states and D3hot (R373, R417 to R420): what completions and scheduling leave of the power state. -/

namespace Sys2Proof.Machine

/-- From `s` to `t` host memory and interrupts may change, and task registers come and go; the power state does not. -/
structure KeepsPower (s t : State) : Prop where
  host : s.host.SameButMail t.host
  power : t.power = s.power
  waiting : t.rings.powerWait = s.rings.powerWait

theorem KeepsPower.refl (s : State) : KeepsPower s s := ⟨.refl _, rfl, rfl⟩

theorem KeepsPower.trans {s t u : State} (h : KeepsPower s t) (h2 : KeepsPower t u) : KeepsPower s u :=
  ⟨h.host.trans h2.host, h2.power.trans h.power, h2.waiting.trans h.waiting⟩

theorem KeepsPower.after {s t u : State} (h : KeepsPower t u) (hhost : t.host = s.host) (hpower : t.power = s.power)
    (hrings : t.rings.powerWait = s.rings.powerWait) : KeepsPower s u :=
  KeepsPower.trans ⟨.of_eq hhost, hpower, hrings⟩ h

theorem KeepsPower.foldl {α : Type} {f : State → α → State} (hf : ∀ s a, KeepsPower s (f s a)) (as : List α) (s : State) :
    KeepsPower s (as.foldl f s) := by
  induction as generalizing s with
  | nil => exact .refl s
  | cons a as ih => exact (hf s a).trans (ih _)

theorem keepsPower_logEvent (ev : Ev) (detail : Nat) (s : State) : KeepsPower s (logEvent ev detail s) :=
  ⟨sameButMail_logEvent _ _ _, by simp only [logEvent_frame], by simp only [logEvent_frame]⟩

theorem keepsPower_postOn (n : Nat) (more : Bool) (c : Completion) (s : State) : KeepsPower s (postOn n more c s) := by
  refine ⟨?_, by simp, ?_⟩
  · unfold postOn
    split
    · exact .refl _
    · split
      · exact .refl _
      · split
        · exact .refl _
        · dsimp only
          split
          · exact HostSide.SameButMail.trans (sameButMail_hostWrite _ _ _) (sameButMail_sendMsix _ _)
          · exact sameButMail_hostWrite _ _ _
  · unfold postOn
    split
    · rfl
    · split
      · rfl
      · split
        · rfl
        · dsimp only
          split <;> simp

theorem keepsPower_complete (tr status result detail : Nat) (s : State) : KeepsPower s (complete tr status result detail s) := by
  unfold complete
  split
  · exact .refl s
  · dsimp only
    split
    · exact (keepsPower_postOn _ _ _ _).after (by simp) (by simp) (by simp)
    · exact ⟨.of_eq (by simp), by simp, by simp⟩

theorem keepsPower_setPhase (tr : Nat) (p : TaskPhase) (s : State) : KeepsPower s (setPhase tr p s) := ⟨.refl _, rfl, rfl⟩

theorem keepsPower_placeTask (tr status : Nat) (s : State) : KeepsPower s (placeTask tr status s) := by
  unfold placeTask
  split
  · exact .refl s
  · split
    · exact keepsPower_complete _ _ _ _ _
    · exact keepsPower_setPhase _ _ _

theorem keepsPower_releaseDelayed (s : State) : KeepsPower s (releaseDelayed s) := by
  unfold releaseDelayed
  refine KeepsPower.foldl (fun u p => ?_) _ _
  split
  · exact keepsPower_placeTask _ _ _
  · exact .refl u

theorem keepsPower_postAll (rs : List (Nat × Completion)) (s : State) : KeepsPower s (postAll rs s) := by
  induction rs generalizing s with
  | nil => exact .refl s
  | cons r rs ih => exact (keepsPower_postOn _ _ _ _).trans (ih _)

theorem keepsPower_finishPower (s : State) : KeepsPower s (finishPower s) := by
  unfold finishPower
  split
  · exact (keepsPower_complete _ _ _ _ _).after rfl rfl rfl
  · exact .refl s

theorem keepsPower_qstatLatch (s : State) : KeepsPower s (qstatLatch s) := by
  have hsat : ∀ (banks : Tbl QBank) (u : State), KeepsPower u (saturationEvent banks u) := fun banks u => by
    unfold saturationEvent
    extract_lets
    split
    · exact .refl u
    · split
      · exact KeepsPower.after (.refl _) rfl rfl rfl
      · exact (keepsPower_logEvent _ _ _).after rfl rfl rfl
  unfold qstatLatch
  extract_lets tag banks _ s1 s2
  have h2 : KeepsPower s s2 := (hsat _ _).after rfl rfl rfl
  exact h2.trans ⟨.refl _, rfl, rfl⟩

theorem keepsPower_windowsEnd (k : WinEnd) (s : State) : KeepsPower s (windowsEnd k s) := by
  unfold windowsEnd
  extract_lets s1
  have h1 : KeepsPower s s1 := by
    unfold s1
    split
    · exact keepsPower_qstatLatch s
    · exact .refl s
  refine h1.trans (KeepsPower.foldl (fun u b => ?_) _ _)
  split
  · exact ⟨.refl _, rfl, rfl⟩
  · exact .refl u

theorem keepsPower_leaveWaypoint (e : Nat) (k : LeaveKind) (next : Option Nat) (s : State) :
    KeepsPower s (leaveWaypoint e k next s) :=
  (keepsPower_windowsEnd .switch s).trans ⟨.refl _, rfl, rfl⟩

theorem keepsPower_schedule (s : State) : KeepsPower s (schedule s) := by
  unfold schedule
  split
  · exact ⟨.of_eq (by simp), by simp, by simp⟩
  · split
    · split
      · dsimp only
        split
        · exact (keepsPower_leaveWaypoint _ _ _ _).after rfl rfl rfl
        · exact ⟨.refl _, rfl, rfl⟩
      · exact .refl s
    · exact .refl s

/-- With no SET_POWER waiting, handling those that wait changes nothing. -/
theorem retryPower_of_none {s : State} (h : s.rings.powerWait = []) : retryPower s = s := by
  have hsame : setRings (fun r => { r with powerWait := [] }) s = s := by
    rw [setRings, ← h]
  rw [retryPower, h, hsame, List.foldl_nil]

theorem readyTask_look {tr op : Nat} {task : Task} {s : State} (h : readyTask tr op s = some task) :
    Tbl.look s.rings.tasks tr = some task := by
  unfold readyTask at h
  split at h
  · split at h
    · rw [← h]
      assumption
    · cases h
  · cases h

/-- The phase may be set before or after what keeps the power state. -/
theorem KeepsPower.setPhase {s t : State} (h : KeepsPower s t) (p : PsPhase) :
    KeepsPower (setHost (fun x => { x with psPhase := p }) s) (setHost (fun x => { x with psPhase := p }) t) := by
  obtain ⟨⟨m, b, g, hhost⟩, hpower, hwait⟩ := h
  exact ⟨⟨m, b, g, congrArg (fun x : HostSide => { x with psPhase := p }) hhost⟩, hpower, hwait⟩

theorem keepsPower_reachPower (p : Nat) (s : State) : KeepsPower (setHost (fun h => { h with pstate := p }) s) (reachPower p s) :=
  keepsPower_logEvent _ _ _

theorem restPhase_congr {s t : State} (h : t.host.d3hot = s.host.d3hot) : restPhase t = restPhase s := by
  rw [restPhase, restPhase, h]

theorem KeepsPower.d3hot {s t : State} (h : KeepsPower s t) : t.host.d3hot = s.host.d3hot := by
  obtain ⟨m, b, g, hhost⟩ := h.host
  rw [hhost]

theorem KeepsPower.pstate {s t : State} (h : KeepsPower s t) : t.host.pstate = s.host.pstate := by
  obtain ⟨m, b, g, hhost⟩ := h.host
  rw [hhost]

theorem KeepsPower.psPhase {s t : State} (h : KeepsPower s t) : t.host.psPhase = s.host.psPhase := by
  obtain ⟨m, b, g, hhost⟩ := h.host
  rw [hhost]

/-- PS0 is reached, with no SET_POWER waiting: the phase is the one at rest. -/
theorem reachPs0_reaches {s : State} (hwait : s.rings.powerWait = []) :
    (reachPs0 s).host.pstate = 0 ∧ (reachPs0 s).host.psPhase = restPhase s ∧ (reachPs0 s).power = s.power := by
  unfold reachPs0
  extract_lets s1 s2
  have h1 : KeepsPower (setHost (fun h => { h with pstate := 0 }) s) s1 := keepsPower_reachPower 0 s
  have h3 := (h1.setPhase (restPhase s1)).trans ((keepsPower_finishPower _).trans (keepsPower_releaseDelayed s2))
  rw [retryPower_of_none (h3.waiting.trans hwait)]
  have h4 := h3.trans (keepsPower_schedule _)
  exact ⟨h4.pstate, h4.psPhase.trans (restPhase_congr h1.d3hot), h4.power⟩

theorem handlePower_same {tr : Nat} {task : Task} {s : State} (htask : Tbl.look s.rings.tasks tr = some task)
    (hphase : s.host.psPhase = .steady) (htarget : dParam task.desc 321 320 = s.host.pstate)
    (hfree : s.host.pstate = 0 ∨ jobsBusy s = false ∧ (s.host.pstate = 2 → ralidActive s = false)) :
    handlePower tr s = complete tr 0 0 0 s := by
  have hok : (dParam task.desc 321 320 != 0 && (jobsBusy s || (dParam task.desc 321 320 == 2 && ralidActive s))) = false := by
    rw [htarget]
    rcases hfree with h | ⟨h, h2⟩
    · simp [h]
    · by_cases hp : s.host.pstate = 2 <;> simp [h, hp, h2]
  unfold handlePower
  rw [htask]
  dsimp only
  rw [if_neg (by simp [hphase]), if_neg (by simp [hok]), if_pos htarget]

theorem handlePower_starts {tr target : Nat} {task : Task} {s : State} (htask : Tbl.look s.rings.tasks tr = some task)
    (hphase : s.host.psPhase = .steady) (htarget : target = dParam task.desc 321 320)
    (hfree : target = 0 ∨ jobsBusy s = false ∧ (target = 2 → ralidActive s = false)) (hne : target ≠ s.host.pstate) :
    handlePower tr s = setRings (fun r => { r with powerTr := some tr }) (setHost (fun h => { h with
      psPhase := if s.host.pstate = 0 then .entering target false else .exiting target }) (setPhase tr .running s)) := by
  have hok : (target != 0 && (jobsBusy s || (target == 2 && ralidActive s))) = false := by
    rcases hfree with h | ⟨h, h2⟩
    · simp [h]
    · by_cases hp : target = 2 <;> simp [h, hp, h2]
  unfold handlePower
  rw [htask]
  dsimp only
  rw [if_neg (by simp [hphase]), ← htarget, if_neg (by simp [hok]), if_neg hne]
  split <;> rfl

theorem execSetPower_of_ready {tr : Nat} {task : Task} {s : State} (hready : readyTask tr 0x06 s = some task) :
    execSetPower tr s = .next (handlePower tr s) := by
  simp only [execSetPower, hready]

theorem execPowerStateEntryComplete_woken {p : Nat} {s : State} (hphase : s.host.psPhase = .entering p true) :
    ∃ t, execPowerStateEntryComplete s = .next t ∧ t.host.pstate = p ∧ t.host.psPhase = .exiting 0 := by
  simp only [execPowerStateEntryComplete, hphase, if_true]
  exact ⟨_, rfl, ((keepsPower_reachPower p s).trans (keepsPower_finishPower _)).pstate, rfl⟩

theorem execPowerStateEntryComplete_rests {p : Nat} {s : State} (hphase : s.host.psPhase = .entering p false)
    (hwait : s.rings.powerWait = []) : ∃ t, execPowerStateEntryComplete s = .next t ∧ t.host.pstate = p ∧
      t.host.psPhase = (if s.host.d3hot then .d3Stopping else .steady) := by
  simp only [execPowerStateEntryComplete, hphase, Bool.false_eq_true, if_false]
  have h := (keepsPower_reachPower p s).trans (keepsPower_finishPower _)
  rw [retryPower_of_none (by exact h.waiting.trans hwait)]
  exact ⟨_, rfl, h.pstate, restPhase_congr h.d3hot⟩

theorem execPowerStateExitComplete_rests {s : State} (hphase : s.host.psPhase = .exiting 0) (hwait : s.rings.powerWait = []) :
    ∃ t, execPowerStateExitComplete s = .next t ∧ t.host.pstate = 0 ∧
      t.host.psPhase = (if s.host.d3hot then .d3Stopping else .steady) := by
  obtain ⟨hp, hph, -⟩ := reachPs0_reaches hwait
  simp only [execPowerStateExitComplete, hphase]
  exact ⟨_, rfl, hp, hph⟩

theorem execPowerStateExitComplete_goesOn {p : Nat} {s : State} (hphase : s.host.psPhase = .exiting (p + 1)) :
    ∃ t late, execPowerStateExitComplete s = .next t ∧ t.host.pstate = 0 ∧ t.host.psPhase = .entering (p + 1) late := by
  simp only [execPowerStateExitComplete, hphase]
  refine ⟨_, _, rfl, ?_, rfl⟩
  have h1 := keepsPower_reachPower 0 s
  show HostSide.pstate (State.host (if p + 1 = 2 then reachPower 0 s else releaseDelayed (reachPower 0 s))) = 0
  split
  · exact h1.pstate
  · exact (h1.trans (keepsPower_releaseDelayed _)).pstate

theorem execPowerStateExitComplete_ps3 {s : State} (hphase : s.host.psPhase = .exitingPs3) (hwait : s.rings.powerWait = []) :
    ∃ t, execPowerStateExitComplete s = .next t ∧ t.host.pstate = 0 ∧ t.power.rails.vcore = true ∧
      t.power.rails.vopt = true := by
  have hports : ∀ (ps : List Nat) (u : State), KeepsPower u (ps.foldl (fun acc p => if ((portOf p acc).enable &&
      !(portOf p acc).laserWait) = true then setPort p { portOf p acc with state := 1 } acc else acc) u) := fun ps u => by
    refine KeepsPower.foldl (fun u p => ?_) _ _
    split
    · exact ⟨.refl _, rfl, rfl⟩
    · exact .refl u
  have hlast : ∀ u : State, KeepsPower (readAllLines u) (postHeld (readAllLines u)) := fun u =>
    (keepsPower_postAll _ _).after rfl rfl rfl
  have hlines : ∀ u : State, (readAllLines u).host.pstate = u.host.pstate ∧ (readAllLines u).power = u.power := fun u => by
    unfold readAllLines readLines
    split <;> exact ⟨rfl, rfl⟩
  simp only [execPowerStateExitComplete, hphase]
  unfold leavePs3
  extract_lets _ _ on up
  have hup : KeepsPower on up := hports _ _
  obtain ⟨hp, -, hpow⟩ := reachPs0_reaches (hup.waiting.trans hwait)
  obtain ⟨hlp, hlpow⟩ := hlines (reachPs0 up)
  have hend := hlast (reachPs0 up)
  have hpower : (postHeld (readAllLines (reachPs0 up))).power = on.power :=
    hend.power.trans (hlpow.trans (hpow.trans hup.power))
  exact ⟨_, rfl, hend.pstate.trans (hlp.trans hp), by rw [hpower], by rw [hpower]⟩

theorem execD3hotRequest_stops {s : State} (halive : alive s = true) (hrel : released 1 s = true) (hup : s.host.linkUp = true)
    (hd3 : s.host.d3hot = false) : ∃ t, execD3hotRequest s = .next t ∧ t.host.d3hot = true ∧ t.host.lines = [] ∧
      t.host.reading = [] ∧
      ∀ e j, ownerJob s = some (e, j) → j.state = .running → s.tensor.heldByStep4 = false → t.tensor.request = true := by
  unfold execD3hotRequest
  rw [if_neg (by simp [halive, hrel, hup, hd3])]
  extract_lets s1
  have howner : ownerJob s1 = ownerJob s := rfl
  have hleave : ∀ e, KeepsPower s1 (requestLeave e .d3hot s1) := fun e => by
    unfold requestLeave
    dsimp only
    split
    · exact (keepsPower_leaveWaypoint _ _ _ _).after rfl rfl rfl
    · exact ⟨.refl _, rfl, rfl⟩
  have hreq : ∀ e, s.tensor.heldByStep4 = false → (requestLeave e .d3hot s1).tensor.request = true := fun e hheld => by
    have hheld1 : s1.tensor.heldByStep4 = false := hheld
    unfold requestLeave
    dsimp only
    rw [if_neg (by simp [hheld1])]
  rw [howner]
  refine ⟨_, rfl, ?_⟩
  cases hown : ownerJob s with
  | none => exact ⟨rfl, rfl, rfl, fun e j h => absurd h.symm (Option.some_ne_none _)⟩
  | some p =>
    obtain ⟨e, j⟩ := p
    dsimp only
    split
    · obtain ⟨m, b, g, hhost⟩ := (hleave e).host
      rw [hhost]
      exact ⟨rfl, rfl, rfl, fun _ _ _ _ hheld => hreq e hheld⟩
    · rename_i hrun
      refine ⟨rfl, rfl, rfl, fun e2 j2 h hj => absurd ?_ hrun⟩
      obtain ⟨-, rfl⟩ := Prod.mk.inj (Option.some.inj h)
      simp [hj]

theorem execPs3Entry_enters {s : State} (hphase : s.host.psPhase = .d3Stopping) (howner : s.tensor.owner = none)
    (hwork : removedWork s = false) : ∃ t, execPs3Entry s = .next t ∧ t.host.pstate = 3 ∧ t.host.psPhase = .steady ∧
      t.power.rails.vcore = false ∧ t.power.rails.vopt = false := by
  unfold execPs3Entry
  rw [if_neg (by simp [hphase, howner, hwork])]
  extract_lets down _ _ off
  have h := keepsPower_reachPower 3 (setHost (fun h => { h with psPhase := .steady }) off)
  refine ⟨_, rfl, h.pstate, h.psPhase, ?_, ?_⟩ <;> rw [h.power] <;> rfl

theorem execD0Request_wakes {s : State} (hd3 : s.host.d3hot = true) (hphase : s.host.psPhase = .d3Stopping)
    (hwait : s.rings.powerWait = []) : ∃ t, execD0Request s = .next t ∧ t.host.d3hot = false ∧
      (s.host.pstate = 0 → t.host.psPhase = .steady) := by
  unfold execD0Request
  rw [if_neg (by simp [hd3])]
  dsimp only
  rw [if_pos (by simp [hphase])]
  have hlines : ∀ u : State, (readAllLines u).host.d3hot = u.host.d3hot ∧ (readAllLines u).host.psPhase = u.host.psPhase ∧
      (readAllLines u).rings = u.rings := fun u => by
    unfold readAllLines readLines
    split <;> exact ⟨rfl, rfl, rfl⟩
  obtain ⟨hd, hp, hr⟩ := hlines (setHost (fun h => { h with psPhase := .steady }) (setHost (fun h => { h with d3hot := false }) s))
  rw [retryPower_of_none (by rw [hr]; exact hwait)]
  have h := keepsPower_schedule (readAllLines (setHost (fun h => { h with psPhase := .steady })
    (setHost (fun h => { h with d3hot := false }) s)))
  exact ⟨_, rfl, h.d3hot.trans hd, fun _ => h.psPhase.trans hp⟩

end Sys2Proof.Machine
end

section
set_option Elab.async false
open Sys2Proof Sys2Proof.Machine

/-- Settles O54: by the phase that the power state is in; what completes on the way keeps it. -/
theorem powerStateCommandsComplete : Obligations.PowerStateCommandsComplete := by
  unfold Obligations.PowerStateCommandsComplete
  refine ⟨?same, ?enter, ?exit, ?wait, ?woken, ?entered, ?exited, ?goesOn, ?ps3, ?d3, ?ps3Entry, ?d0, ?d0Ps3⟩
  case same =>
    intro tr task s hready hphase htarget hfree
    exact (execSetPower_of_ready hready).trans
      (congrArg Host.Outcome.next (handlePower_same (readyTask_look hready) hphase htarget hfree))
  case enter =>
    intro tr task target s hready hphase htarget hne hjobs hralid hps
    refine ⟨_, execSetPower_of_ready hready, ?_⟩
    rw [handlePower_starts (readyTask_look hready) hphase htarget (.inr ⟨hjobs, hralid⟩) (by omega), if_pos hps]
    exact ⟨rfl, rfl⟩
  case exit =>
    intro tr task target s hready hphase htarget hfree hps hne
    refine ⟨_, execSetPower_of_ready hready, ?_⟩
    rw [handlePower_starts (readyTask_look hready) hphase htarget hfree hne, if_neg hps]
    exact ⟨rfl, rfl⟩
  case wait =>
    intro tr task s hready hphase
    refine ⟨_, execSetPower_of_ready hready, ?_⟩
    simp only [handlePower, readyTask_look hready]
    rw [if_pos (by simpa using hphase)]
    exact ⟨rfl, rfl⟩
  case woken => exact fun p s hphase => execPowerStateEntryComplete_woken hphase
  case entered => exact fun p s hphase hwait => execPowerStateEntryComplete_rests hphase hwait
  case exited => exact fun s hphase hwait => execPowerStateExitComplete_rests hphase hwait
  case goesOn => exact fun p s hphase => execPowerStateExitComplete_goesOn hphase
  case ps3 => exact fun s hphase hwait => execPowerStateExitComplete_ps3 hphase hwait
  case d3 => exact fun s ha hr hup hd3 => execD3hotRequest_stops ha hr hup hd3
  case ps3Entry => exact fun s hphase howner hwork => execPs3Entry_enters hphase howner hwork
  case d0 => exact fun s hd3 hphase hwait => execD0Request_wakes hd3 hphase hwait
  case d0Ps3 =>
    intro s hd3 hphase hps
    refine ⟨_, (if_neg (by simp [hd3])).trans ((if_neg (by simp [hphase])).trans (if_pos (by simp [hphase, hps]))), rfl⟩

end

section
set_option Elab.async false
/-! SUPPORT. The ADMIN commands of chapter 13 (R409 to R414): what completions leave of the rings. -/

namespace Sys2Proof.Machine

/-- A CQ to which records were posted: its place in memory and its settings are the same. -/
def Cq.SameRing (x y : Cq) : Prop := ∃ t p n, y = { x with tail := t, phase := p, since := n }

/-- From `s` to `t` the rings change only by completions: tasks leave, records are posted or held. -/
structure RingsPosted (s t : State) : Prop where
  rest : ∃ ta c h, t.rings = { s.rings with tasks := ta, cqs := c, heldRecs := h }
  tasks : ∀ m, Tbl.look t.rings.tasks m = Tbl.look s.rings.tasks m ∨ Tbl.look t.rings.tasks m = none
  cqs : ∀ n, Option.Rel Cq.SameRing (Tbl.look s.rings.cqs n) (Tbl.look t.rings.cqs n)

theorem optionRel_refl {α : Type} {R : α → α → Prop} (hR : ∀ a, R a a) (o : Option α) : Option.Rel R o o := by
  cases o with
  | none => exact .none
  | some a => exact .some (hR a)

theorem optionRel_trans {α : Type} {R : α → α → Prop} (hR : ∀ a b c, R a b → R b c → R a c) {a b c : Option α}
    (h : Option.Rel R a b) (h2 : Option.Rel R b c) : Option.Rel R a c := by
  cases h with
  | none => cases h2; exact .none
  | some h1 => cases h2 with | some h2 => exact .some (hR _ _ _ h1 h2)

theorem Cq.SameRing.refl (x : Cq) : x.SameRing x := ⟨_, _, _, rfl⟩

theorem RingsPosted.of_rings {s t : State} (h : t.rings = s.rings) : RingsPosted s t where
  rest := ⟨_, _, _, h⟩
  tasks m := .inl (by rw [h])
  cqs n := by rw [h]; exact optionRel_refl Cq.SameRing.refl _

theorem RingsPosted.trans {s t u : State} (h : RingsPosted s t) (h2 : RingsPosted t u) : RingsPosted s u where
  rest := by
    obtain ⟨_, _, _, ht⟩ := h.rest
    obtain ⟨a, b, c, hu⟩ := h2.rest
    exact ⟨a, b, c, by rw [hu, ht]⟩
  tasks m := by
    rcases h2.tasks m with hm | hm
    · rw [hm]
      exact h.tasks m
    · exact .inr hm
  cqs n := optionRel_trans (fun a b c hab hbc => by
    obtain ⟨_, _, _, rfl⟩ := hab
    obtain ⟨_, _, _, rfl⟩ := hbc
    exact ⟨_, _, _, rfl⟩) (h.cqs n) (h2.cqs n)

theorem RingsPosted.foldl {α : Type} {f : State → α → State} (hf : ∀ s a, RingsPosted s (f s a)) (as : List α) (s : State) :
    RingsPosted s (as.foldl f s) := by
  induction as generalizing s with
  | nil => exact .of_rings rfl
  | cons a as ih => exact (hf s a).trans (ih _)

theorem ringsPosted_postOn (n : Nat) (more : Bool) (c : Completion) (s : State) : RingsPosted s (postOn n more c s) := by
  have hput : ∀ (q q1 : Cq) (u : State), Tbl.look s.rings.cqs n = some q → q.SameRing q1 →
      u.rings = { s.rings with cqs := Tbl.put s.rings.cqs n q1 } → RingsPosted s u := fun q q1 u hq hsame hu =>
    { rest := ⟨_, _, _, hu⟩
      tasks := fun m => .inl (by rw [hu])
      cqs := fun m => by
        rw [hu]
        dsimp only
        by_cases h : m = n
        · subst h
          rw [hq, Tbl.look_put_self]
          exact .some hsame
        · rw [Tbl.look_put_ne _ _ h]
          exact optionRel_refl Cq.SameRing.refl _ }
  unfold postOn
  split
  · exact .of_rings rfl
  · rename_i q hq
    split
    · exact .of_rings rfl
    · split
      · exact ⟨⟨_, _, _, rfl⟩, fun m => .inl rfl, fun m => optionRel_refl Cq.SameRing.refl _⟩
      · extract_lets +onlyGivenNames s1 wrap due q1 _ s2
        have h2 : s2.rings = { s.rings with cqs := Tbl.put s.rings.cqs n q1 } :=
          congrArg (fun r : Rings => { r with cqs := Tbl.put r.cqs n q1 }) (by simp [s1] : s1.rings = s.rings)
        split
        · exact hput q q1 _ hq ⟨_, _, _, rfl⟩ (by simpa using h2)
        · exact hput q q1 _ hq ⟨_, _, _, rfl⟩ h2

theorem ringsPosted_complete (tr status result detail : Nat) (s : State) : RingsPosted
    s (complete tr status result detail s) := by
  unfold complete
  split
  · exact .of_rings rfl
  · dsimp only
    have hfreed : ∀ u : State, u.rings = { s.rings with tasks := Tbl.del s.rings.tasks tr } → RingsPosted s u := fun u hu =>
      { rest := ⟨_, _, _, hu⟩
        tasks := fun m => by
          rw [hu]
          by_cases h : m = tr
          · exact .inr (by rw [h]; exact Tbl.look_del_self _ _)
          · exact .inl (Tbl.look_del_ne _ h)
        cqs := fun m => by rw [hu]; exact optionRel_refl Cq.SameRing.refl _ }
    split
    · exact (hfreed _ (by simp)).trans (ringsPosted_postOn _ _ _ _)
    · exact hfreed _ (by simp)

theorem ringsPosted_completeAll (trs : List Nat) (status : Nat) (s : State) : RingsPosted s (completeAll trs status s) := by
  induction trs generalizing s with
  | nil => exact .of_rings rfl
  | cons tr rest ih => exact (ringsPosted_complete _ _ _ _ _).trans (ih _)

theorem ringsPosted_finishEmbed (tr : Nat) (s : State) : RingsPosted s (finishEmbed tr s) := by
  unfold finishEmbed
  (repeat' split)
  · exact .of_rings rfl
  · exact .of_rings rfl
  · exact RingsPosted.trans (.of_rings (by simp)) (ringsPosted_complete _ _ _ _ _)

theorem ringsPosted_leaveDoc (d : EmbedDoc) (status : Nat) (inserted : Bool) (vec sketch : List Byte) (s : State) :
    RingsPosted s (leaveDoc d status inserted vec sketch s) := by
  unfold leaveDoc
  split
  · exact .of_rings rfl
  · extract_lets +onlyGivenNames at_ s1 c1 w w1
    exact RingsPosted.trans (.of_rings (by simp [s1])) (ringsPosted_finishEmbed _ _)

theorem ringsPosted_abortCmd (tr : Nat) (s : State) : RingsPosted s (abortCmd tr s) := by
  unfold abortCmd
  split
  · exact .of_rings rfl
  · exact RingsPosted.foldl (fun _ d => ringsPosted_leaveDoc d _ _ _ _ _) _ _

theorem ringsPosted_finishUnbind (s : State) : RingsPosted s (finishUnbind s) := by
  unfold finishUnbind
  (repeat' split)
  · exact .of_rings rfl
  · exact .of_rings rfl
  · exact RingsPosted.trans (.of_rings (by simp)) (ringsPosted_complete _ _ _ _ _)

theorem ringsPosted_endService (s : State) : RingsPosted s (endService s) := by
  unfold endService
  extract_lets +onlyGivenNames s1 s2 _ s3
  have h1 : RingsPosted s s1 := RingsPosted.foldl (fun _ (p : Nat × EmbedDoc) => ringsPosted_leaveDoc p.2 _ _ _ _ _) _ _
  have h2 : RingsPosted s s2 := h1.trans (RingsPosted.foldl (fun _ tr => ringsPosted_abortCmd tr _) _ _)
  have h3 : RingsPosted s s3 := h2.trans (.of_rings (by simp [s3]))
  split
  · exact h3.trans (ringsPosted_finishUnbind _)
  · exact h3.trans (.of_rings (by simp))

theorem ringsPosted_endJob (e status cause : Nat) (s : State) : RingsPosted s (endJob e status cause s) := by
  unfold endJob
  split
  · exact .of_rings rfl
  · extract_lets +onlyGivenNames own s0 j s1 s2 s3 s4 s5 _ s6 s7 s8 rec_ s9 s10
    have h0 : RingsPosted s s0 := .of_rings (by unfold s0; split <;> simp)
    have h1 : RingsPosted s0 s1 := .of_rings (by unfold s1; split <;> simp)
    have h2 : RingsPosted s1 s2 := .of_rings (by simp [s2])
    have h4 : RingsPosted s2 s4 := (ringsPosted_completeAll _ _ _).trans (ringsPosted_completeAll _ _ _)
    have h6 : RingsPosted s4 s6 := .of_rings (by simp [s6, s5])
    have h8 : RingsPosted s6 s8 := .of_rings (by simp only [s8, s7]; split <;> simp)
    have h9 : RingsPosted s8 s9 := (ringsPosted_postOn j.cq false rec_ s8).trans (.of_rings (by simp [s9]))
    have h10 : RingsPosted s9 s10 := by
      unfold s10
      split
      · exact ringsPosted_endService _
      · exact .of_rings rfl
    have hall := ((((((h0.trans h1).trans h2).trans h4).trans h6).trans h8).trans h9).trans h10
    split
    · exact hall.trans (.of_rings (by simp))
    · exact hall

theorem ringsPosted_drainJobs (s : State) : RingsPosted s (drainJobs s) := by
  have hend : ∀ (e : Nat) (f : Job → Job) (j : Job) (v h : Bool) (u : State),
      RingsPosted u (endJob e 0x31 0 (writeHeader j v h (modJob e f u))) := fun e f j v h u =>
    RingsPosted.trans (.of_rings (by simp)) (ringsPosted_endJob _ _ _ _)
  have hleave : ∀ (e : Nat) (f : Job → Job) (k : LeaveKind) (u : State),
      RingsPosted u (requestLeave e k (modJob e f u)) := fun e f k u => .of_rings (by simp)
  unfold drainJobs
  refine RingsPosted.foldl (fun u e => ?_) _ _
  unfold drainJob
  cases jobOf e u with
  | none => exact .of_rings rfl
  | some j =>
    dsimp only
    cases j.state with
    | running => exact hleave _ _ _ _
    | saving => exact .of_rings (by simp)
    | restoring => exact .of_rings (by simp)
    | exchanging => exact .of_rings (by simp)
    | ready => exact hend _ _ _ _ _ _
    | suspended => exact hend _ _ _ _ _ _
    | waiting => exact hend _ _ _ _ _ _
    | parked => exact hend _ _ _ _ _ _
    | idle => exact hend _ _ _ _ _ _

theorem RingsPosted.sqs {s t : State} (h : RingsPosted s t) : t.rings.sqs = s.rings.sqs := by
  obtain ⟨_, _, _, hr⟩ := h.rest
  rw [hr]

theorem RingsPosted.deleting {s t : State} (h : RingsPosted s t) : t.rings.deleting = s.rings.deleting := by
  obtain ⟨_, _, _, hr⟩ := h.rest
  rw [hr]

theorem RingsPosted.drainTr {s t : State} (h : RingsPosted s t) : t.rings.drainTr = s.rings.drainTr := by
  obtain ⟨_, _, _, hr⟩ := h.rest
  rw [hr]

theorem RingsPosted.cq_some {s t : State} (h : RingsPosted s t) {n : Nat} {q : Cq} (hq : Tbl.look s.rings.cqs n = some q) :
    ∃ r, Tbl.look t.rings.cqs n = some r ∧ q.SameRing r := by
  have hrel := h.cqs n
  rw [hq] at hrel
  generalize Tbl.look t.rings.cqs n = o at hrel
  cases hrel with | some h => exact ⟨_, rfl, h⟩

theorem RingsPosted.cq_none {s t : State} (h : RingsPosted s t) {n : Nat} (hq : Tbl.look s.rings.cqs n = none) :
    Tbl.look t.rings.cqs n = none := by
  have hrel := h.cqs n
  rw [hq] at hrel
  generalize Tbl.look t.rings.cqs n = o at hrel
  cases hrel
  rfl

theorem rings_readLines (ls : List Nat) (s : State) : (readLines ls s).rings = s.rings := by
  unfold readLines
  split <;> rfl

theorem execCreateSq_creates {tr cq : Nat} {task : Task} {c : Cq} {s : State} (hready : readyTask tr 0x02 s = some task)
    (hplace : placeOk (dPtr1 task.desc) (dPtr0 task.desc, crDepth task.desc * 128) s = true)
    (hnew : Tbl.look s.rings.sqs (crNum task.desc) = none) (hcq : cq = dParam task.desc 351 344) (hcq0 : cq ≠ 0)
    (hlook : Tbl.look s.rings.cqs cq = some c) (hroom : boundTo cq s + 2 ≤ c.depth - 1) (hcache : s.host.cacheEn = true)
    (hfits : lineFits (dPtr1 task.desc) s = true) : ∃ t q, execCreateSq tr s = .next t ∧
      Tbl.look t.rings.sqs (crNum task.desc) = some q ∧ q.state = .running ∧ q.cls = dParam task.desc 354 352 ∧ q.cq = cq ∧
      q.base = dPtr0 task.desc ∧ q.depth = crDepth task.desc ∧ q.db = dPtr1 task.desc ∧ q.head = 0 ∧ q.tail = 0 ∧
      q.trLimit = dParam task.desc 368 355 ∧ Tbl.look t.rings.tasks tr = none := by
  subst hcq
  simp only [execCreateSq, hready, hlook]
  rw [if_neg (by simp [hplace]), if_neg (by simp [hnew, hcq0, hroom, hcache]), if_neg (by simp [hfits])]
  generalize hu : readLines _ _ = u
  have hq := (congrArg (fun r => Tbl.look (Rings.sqs r) (crNum task.desc)) ((congrArg State.rings hu).symm.trans
    (rings_readLines _ _))).trans (Tbl.look_put_self _ _ _)
  have hkept := (congrArg (Tbl.look · (crNum task.desc)) (ringsPosted_complete tr 0 0 0 u).sqs).trans hq
  exact ⟨_, _, rfl, hkept, rfl, rfl, rfl, rfl, rfl, rfl, rfl, rfl, rfl, look_tasks_complete _ _ _ _ _⟩

theorem execCreateCq_creates {tr : Nat} {task : Task} {s : State} (hready : readyTask tr 0x03 s = some task)
    (hplace : placeOk (dPtr1 task.desc) (dPtr0 task.desc, crDepth task.desc * 32) s = true)
    (hnew : Tbl.look s.rings.cqs (crNum task.desc) = none) (hcache : s.host.cacheEn = true)
    (hfits : lineFits (dPtr1 task.desc) s = true) : ∃ t q, execCreateCq tr s = .next t ∧
      Tbl.look t.rings.cqs (crNum task.desc) = some q ∧ q.error = false ∧ q.vector = dParam task.desc 355 344 ∧
      q.base = dPtr0 task.desc ∧ q.depth = crDepth task.desc ∧ q.db = dPtr1 task.desc ∧ q.agg = dParam task.desc 363 356 ∧
      Tbl.look t.rings.tasks tr = none := by
  simp only [execCreateCq, hready]
  rw [if_neg (by simp [hplace]), if_neg (by simp [hnew, hcache]), if_neg (by simp [hfits])]
  generalize hu : readLines _ _ = u
  have hq := (congrArg (fun r => Tbl.look (Rings.cqs r) (crNum task.desc)) ((congrArg State.rings hu).symm.trans
    (rings_readLines _ _))).trans (Tbl.look_put_self _ _ _)
  obtain ⟨q, hlook, t, p, n, rfl⟩ := (ringsPosted_complete tr 0 0 0 u).cq_some hq
  exact ⟨_, _, rfl, hlook, rfl, rfl, rfl, rfl, rfl, rfl, look_tasks_complete _ _ _ _ _⟩

theorem execDeleteSq_deletes {tr : Nat} {task : Task} {q : Sq} {s : State} (hready : readyTask tr 0x04 s = some task)
    (hlook : Tbl.look s.rings.sqs (crNum task.desc) = some q) (hstate : q.state ≠ .deleting) (hn : crNum task.desc ≠ 0) :
    ∃ t, execDeleteSq tr s = .next t ∧ Tbl.look t.rings.sqs (crNum task.desc) = some { q with state := .deleting } ∧
      Tbl.look t.rings.deleting (crNum task.desc) = some tr ∧
      Tbl.look t.rings.tasks tr = some { task with phase := .running } := by
  simp only [execDeleteSq, hready, hlook]
  rw [if_neg (by simp [hstate, hn])]
  refine ⟨_, rfl, ?_, Tbl.look_put_self _ _ _, ?_⟩
  · exact (Tbl.look_adjust_self _ _ _).trans (congrArg (Option.map _) hlook)
  · exact (Tbl.look_adjust_self _ _ _).trans (congrArg (Option.map _) (readyTask_look hready))

theorem execDeleteSqComplete_ends {sq : Fin 256} {tr : Nat} {s : State} (hdel : Tbl.look s.rings.deleting sq.val = some tr)
    (htasks : ∀ p ∈ s.rings.tasks, p.2.sq ≠ sq.val) (hheld : ∀ p ∈ s.rings.heldRecs, p.2.sq ≠ sq.val) :
    ∃ t, execDeleteSqComplete sq s = .next t ∧ Tbl.look t.rings.sqs sq.val = none ∧
      Tbl.look t.rings.deleting sq.val = none ∧ Tbl.look t.rings.tasks tr = none := by
  simp only [execDeleteSqComplete, hdel]
  rw [if_neg ?_]
  · refine ⟨_, rfl, ?_, ?_, look_tasks_complete _ _ _ _ _⟩
    · rw [(ringsPosted_complete _ _ _ _ _).sqs]
      exact Tbl.look_del_self _ _
    · rw [(ringsPosted_complete _ _ _ _ _).deleting]
      exact Tbl.look_del_self _ _
  · have h1 : s.rings.tasks.any (fun p => p.2.sq == sq.val) = false := by simpa using htasks
    have h2 : s.rings.heldRecs.any (fun p => p.2.sq == sq.val) = false := by simpa using hheld
    simp [h1, h2]

theorem execDeleteCq_deletes {tr : Nat} {task : Task} {c : Cq} {s : State} (hready : readyTask tr 0x05 s = some task)
    (hlook : Tbl.look s.rings.cqs (crNum task.desc) = some c) (hn : crNum task.desc ≠ 0)
    (hbound : boundTo (crNum task.desc) s = 0) (hjobs : ∀ p ∈ s.tensor.jobs, p.2.cq ≠ crNum task.desc) :
    ∃ t, execDeleteCq tr s = .next t ∧ Tbl.look t.rings.cqs (crNum task.desc) = none ∧ Tbl.look t.rings.tasks tr = none := by
  have hnone : s.tensor.jobs.any (fun p => p.2.cq == crNum task.desc) = false := by simpa using hjobs
  simp only [execDeleteCq, hready]
  rw [if_neg (by simp [hlook, hn, hbound, hnone])]
  refine ⟨_, rfl, (ringsPosted_complete _ _ _ _ _).cq_none ?_, look_tasks_complete _ _ _ _ _⟩
  exact Tbl.look_del_self _ _

theorem execDrain_drains {tr : Nat} {task : Task} {s : State} (hready : readyTask tr 0x07 s = some task)
    (hdev : s.boot.dev = .ready) : ∃ t, execDrain tr s = .next t ∧ t.boot.dev = .draining ∧ t.rings.drainTr = some tr := by
  simp only [execDrain, hready]
  rw [if_neg (by simp [hdev])]
  refine ⟨_, rfl, ?_, (ringsPosted_drainJobs _).drainTr⟩
  simp only [drainJobs_frame]

end Sys2Proof.Machine
end

section
set_option Elab.async false
open Sys2Proof Sys2Proof.Machine

/-- Settles O53: each ADMIN command past its checks; what its completion posts leaves the rings' places alone. -/
theorem adminCommandsComplete : Obligations.AdminCommandsComplete := by
  unfold Obligations.AdminCommandsComplete
  refine ⟨?identify, ?createSq, ?createCq, ?deleteSq, ?deleteSqEnd, ?deleteCq, ?drain, ?drained, ?resume⟩
  case identify =>
    intro tr task s hready
    show execIdentify tr s = _
    simp only [execIdentify, hready]
  case createSq =>
    exact fun tr task cq c s hr hp hnew hcq h0 hl hroom hcache hfits => execCreateSq_creates hr hp hnew hcq h0 hl hroom hcache hfits
  case createCq => exact fun tr task s hr hp hnew hcache hfits => execCreateCq_creates hr hp hnew hcache hfits
  case deleteSq => exact fun tr task q s hr hl hs hn => execDeleteSq_deletes hr hl hs hn
  case deleteSqEnd => exact fun sq tr s hd ht hh => execDeleteSqComplete_ends hd ht hh
  case deleteCq => exact fun tr task c s hr hl hn hb hj => execDeleteCq_deletes hr hl hn hb hj
  case drain => exact fun tr task s hr hd => execDrain_drains hr hd
  case drained =>
    intro tr s hdrain hjobs hralid hwrites htrims hslots
    have hlost : s.flash.slots.any (fun p => p.2.lost == 0) = false := by simpa using hslots
    show execDrainComplete s = _
    simp only [execDrainComplete, hdrain]
    rw [if_neg (by simp [hjobs, hralid, hwrites, htrims, hlost])]
  case resume =>
    intro tr task s hready hdev hdrain
    refine ⟨complete tr 0 0 0 { s with boot := { s.boot with dev := .ready } }, ?_, by simp, look_tasks_complete _ _ _ _ _⟩
    show execResume tr s = _
    simp only [execResume, hready]
    rw [if_neg (by simp [hdev, hdrain])]

end

section
set_option Elab.async false
/-! SUPPORT. Doorbell lines, the ADMIN pair and the fetcher (R394 to R398, R401, R405 to R408, R421). -/

namespace Sys2Proof.Machine

/-- A fold over a table, in which each entry's step reaches its own key, does for one key what that entry's step does. -/
theorem look_foldl_once {α : Type} {n : Nat} {q r : α} (tbl : State → Tbl α) (f : State → Nat × α → State)
    (hother : ∀ u p, p.1 ≠ n → Tbl.look (tbl (f u p)) n = Tbl.look (tbl u) n)
    (hself : ∀ u, Tbl.look (tbl u) n = some q → Tbl.look (tbl (f u (n, q))) n = some r) (l : Tbl α)
    (hl : l.Pairwise (fun x y => x.1 < y.1)) (hmem : (n, q) ∈ l) (u : State) (hu : Tbl.look (tbl u) n = some q) :
    Tbl.look (tbl (l.foldl f u)) n = some r := by
  have hrest : ∀ (l : Tbl α) (u : State), (∀ p ∈ l, p.1 ≠ n) → Tbl.look (tbl (l.foldl f u)) n = Tbl.look (tbl u) n := by
    intro l
    induction l with
    | nil => exact fun u _ => rfl
    | cons p l ih =>
      intro u hne
      rw [List.foldl_cons, ih _ fun x hx => hne x (List.mem_cons_of_mem _ hx), hother u p (hne p List.mem_cons_self)]
  induction l generalizing u with
  | nil => cases hmem
  | cons p l ih =>
    obtain ⟨hlt, hl⟩ := List.pairwise_cons.mp hl
    rw [List.foldl_cons]
    rcases List.mem_cons.mp hmem with rfl | hmem
    · rw [hrest l _ fun x hx => (hlt x hx).ne']
      exact hself u hu
    · exact ih hl hmem _ ((hother u p (hlt _ hmem).ne).trans hu)

theorem rings_dropLines (s : State) : (dropLines s).rings = s.rings := rfl

theorem look_sqs_modSq_ne {n m : Nat} (f : Sq → Sq) (s : State) (h : n ≠ m) :
    Tbl.look (modSq m f s).rings.sqs n = Tbl.look s.rings.sqs n := Tbl.look_adjust_ne _ _ h

theorem look_sqs_modSq_self {n : Nat} {q : Sq} (f : Sq → Sq) {s : State} (h : Tbl.look s.rings.sqs n = some q) :
    Tbl.look (modSq n f s).rings.sqs n = some (f q) := (Tbl.look_adjust_self _ _ _).trans (congrArg (Option.map f) h)

theorem look_cqs_modCq_ne {n m : Nat} (f : Cq → Cq) (s : State) (h : n ≠ m) :
    Tbl.look (modCq m f s).rings.cqs n = Tbl.look s.rings.cqs n := Tbl.look_adjust_ne _ _ h

theorem look_cqs_modCq_self {n : Nat} {q : Cq} (f : Cq → Cq) {s : State} (h : Tbl.look s.rings.cqs n = some q) :
    Tbl.look (modCq n f s).rings.cqs n = some (f q) := (Tbl.look_adjust_self _ _ _).trans (congrArg (Option.map f) h)

/-- An SQ in error is set so; its record and its event touch no SQ and no task. -/
theorem rings_sqError {n cause value : Nat} {q : Sq} {s : State} (hq : Tbl.look s.rings.sqs n = some q) (hrun : q.state = .running) :
    (sqError n cause value s).rings.sqs = (modSq n (fun x => { x with state := .error }) s).rings.sqs ∧
    (sqError n cause value s).rings.tasks = s.rings.tasks := by
  unfold sqError
  rw [hq]
  dsimp only
  rw [if_neg (by simp [hrun])]
  simp only [logEvent_frame, (ringsPosted_postOn _ _ _ _).sqs, tasks_postOn]
  exact ⟨rfl, rfl⟩

theorem look_sqs_takeSqTail_ne {n m w : Nat} (s : State) (h : n ≠ m) :
    Tbl.look (takeSqTail m w s).rings.sqs n = Tbl.look s.rings.sqs n := by
  unfold takeSqTail
  split
  · rfl
  · rename_i q hq
    by_cases hrun : q.state = .running
    · have herr : ∀ c v, Tbl.look (sqError m c v s).rings.sqs n = Tbl.look s.rings.sqs n := fun c v => by
        rw [(rings_sqError hq hrun).1, look_sqs_modSq_ne _ _ h]
      split
      · rfl
      · split
        · exact herr _ _
        · split
          · exact herr _ _
          · exact look_sqs_modSq_ne _ _ h
    · rw [if_pos (by simp [hrun])]

theorem look_sqs_takeSqTail_self {n w : Nat} {q : Sq} {s : State} (hq : Tbl.look s.rings.sqs n = some q) (hrun : q.state = .running)
    (hw : w < q.depth) (hw16 : w < 65536) : Tbl.look (takeSqTail n w s).rings.sqs n = some { q with tail := w } := by
  simp only [takeSqTail, hq]
  by_cases htail : w = q.tail
  · rw [if_pos (by simp [htail]), hq, htail]
  · rw [if_neg (by simp [hrun, htail]), if_neg (by rw [Nat.mod_eq_of_lt hw16]; omega), if_neg (by simp; omega)]
    exact look_sqs_modSq_self _ hq

theorem look_cqs_takeCqHead_ne {n m w : Nat} (s : State) (h : n ≠ m) :
    Tbl.look (takeCqHead m w s).rings.cqs n = Tbl.look s.rings.cqs n := by
  have herr : ∀ c, Tbl.look (cqError m c s).rings.cqs n = Tbl.look s.rings.cqs n := fun c => by
    unfold cqError
    split
    · rfl
    · split
      · rfl
      · simp only [logEvent_frame]
        exact look_cqs_modCq_ne _ _ h
  unfold takeCqHead
  split
  · rfl
  · split
    · rfl
    · split
      · exact herr _
      · split
        · exact herr _
        · exact look_cqs_modCq_ne _ _ h

theorem look_cqs_takeCqHead_self {n w : Nat} {q : Cq} {s : State} (hq : Tbl.look s.rings.cqs n = some q) (herr : q.error = false)
    (hw : w < q.depth) (hw16 : w < 65536) (hroom : (w + q.depth - q.head) % q.depth ≤ cqUnreleased q) :
    Tbl.look (takeCqHead n w s).rings.cqs n = some { q with head := w } := by
  simp only [takeCqHead, hq]
  by_cases hhead : w = q.head
  · rw [if_pos (by simp [hhead]), hq, hhead]
  · rw [if_neg (by simp [herr, hhead]), if_neg (by rw [Nat.mod_eq_of_lt hw16]; simp; omega), if_neg (by simp; omega)]
    exact look_cqs_modCq_self _ hq

theorem execDoorbellSnoop_rereads {line : BitVec 58} {s : State} (hcache : cacheUsable s = true) (hline : line.toNat ∈ s.host.lines) :
    ∃ t, execDoorbellSnoop line s = .next t ∧ t.host.lines = s.host.lines.filter (· != line.toNat) ∧
      line.toNat ∈ t.host.reading := by
  have hread : ∀ u : State, cacheUsable u = true → (readLines [line.toNat] u).host.lines = u.host.lines ∧
      line.toNat ∈ (readLines [line.toNat] u).host.reading := fun u hu => by
    unfold readLines
    rw [if_pos hu]
    refine ⟨rfl, ?_⟩
    by_cases h : line.toNat ∈ u.host.reading
    · exact List.mem_append_left _ h
    · exact List.mem_append_right _ (List.mem_filter.mpr ⟨List.mem_singleton_self _, by simpa using h⟩)
  unfold execDoorbellSnoop
  dsimp only
  rw [if_neg (by simp [hcache, hline])]
  generalize hu : countReread _ _ = u
  have hhost : u.host = { s.host with lines := s.host.lines.filter (· != line.toNat) } := by rw [← hu]; simp
  obtain ⟨hlines, hreading⟩ := hread u (by unfold cacheUsable at hcache ⊢; rw [hhost]; exact hcache)
  exact ⟨_, rfl, by rw [hlines, hhost], hreading⟩

theorem execDoorbellRereadTimer_rereads {s : State} (hcache : cacheUsable s = true) : ∃ t, execDoorbellRereadTimer s = .next t ∧
    t.host.lines = s.host.lines ∧ ∀ l ∈ s.host.lines, l ∈ t.host.reading := by
  have hfold : ∀ (ls : List Nat) (u : State), (ls.foldl (fun acc l => countReread l acc) u).host = u.host := by
    intro ls
    induction ls with
    | nil => exact fun u => rfl
    | cons l ls ih =>
      intro u
      rw [List.foldl_cons, ih]
      simp
  unfold execDoorbellRereadTimer
  rw [if_pos hcache]
  unfold readLines
  rw [if_pos (by unfold cacheUsable at hcache ⊢; rw [hfold]; exact hcache)]
  refine ⟨_, rfl, (congrArg HostSide.lines (hfold s.host.lines s)).trans rfl, fun l hl => ?_⟩
  by_cases h : l ∈ s.host.reading
  · exact List.mem_append_left _ (by rw [hfold]; exact h)
  · exact List.mem_append_right _ (List.mem_filter.mpr ⟨hl, by rw [hfold]; simpa using h⟩)

theorem filter_line_eq_nil {α : Type} {t : Tbl α} {db : α → Nat} {l : Nat} (h : ∀ p ∈ t, db p.2 / 64 ≠ l) :
    t.filter (fun p => db p.2 / 64 == l) = [] := by
  rw [List.filter_eq_nil_iff]
  simpa using h

theorem execDoorbellLineReturn_tail {line : BitVec 58} {words : List W32} {n w : Nat} {q : Sq} {s : State}
    (hcache : cacheUsable s = true) (hline : line.toNat ∈ s.host.reading) (hsorted : Tbl.sorted s.rings.sqs = true)
    (hcqs : ∀ p ∈ s.rings.cqs, p.2.db / 64 ≠ line.toNat) (hq : Tbl.look s.rings.sqs n = some q) (hrun : q.state = .running)
    (hdb : q.db / 64 = line.toNat) (hword : w = ((padTo 16 0#32 words).getD (q.db / 4 % 16) 0#32).toNat) (hw : w < q.depth)
    (hw16 : w < 65536) : ∃ t r, execDoorbellLineReturn line words s = .next t ∧ Tbl.look t.rings.sqs n = some r ∧
      r = { q with tail := w } := by
  unfold execDoorbellLineReturn
  dsimp only
  rw [if_neg (by simp [hcache, hline])]
  refine ⟨_, _, rfl, ?_, rfl⟩
  generalize hu : setHost _ s = u
  have hrings : u.rings = s.rings := by rw [← hu]; rfl
  rw [hrings, filter_line_eq_nil hcqs, List.foldl_nil]
  refine look_foldl_once (n := n) (q := q) (fun x => x.rings.sqs) _ (fun v p hp => look_sqs_takeSqTail_ne _ hp.symm)
    (fun v hv => ?_) _ (List.Pairwise.filter _ ((Tbl.sorted_iff _).mp hsorted))
    (List.mem_filter.mpr ⟨Tbl.mem_of_look hq, by simp [hdb]⟩) u (by rw [hrings]; exact hq)
  subst hword
  exact look_sqs_takeSqTail_self hv hrun hw hw16

theorem execDoorbellLineReturn_head {line : BitVec 58} {words : List W32} {n w : Nat} {q : Cq} {s : State}
    (hcache : cacheUsable s = true) (hline : line.toNat ∈ s.host.reading) (hsorted : Tbl.sorted s.rings.cqs = true)
    (hsqs : ∀ p ∈ s.rings.sqs, p.2.db / 64 ≠ line.toNat) (hq : Tbl.look s.rings.cqs n = some q) (herr : q.error = false)
    (hdb : q.db / 64 = line.toNat) (hword : w = ((padTo 16 0#32 words).getD (q.db / 4 % 16) 0#32).toNat) (hw : w < q.depth)
    (hw16 : w < 65536) (hroom : (w + q.depth - q.head) % q.depth ≤ cqUnreleased q) :
    ∃ t r, execDoorbellLineReturn line words s = .next t ∧ Tbl.look t.rings.cqs n = some r ∧ r = { q with head := w } := by
  unfold execDoorbellLineReturn
  dsimp only
  rw [if_neg (by simp [hcache, hline])]
  refine ⟨_, _, rfl, ?_, rfl⟩
  generalize hu : setHost _ s = u
  have hrings : u.rings = s.rings := by rw [← hu]; rfl
  rw [hrings, filter_line_eq_nil (t := s.rings.sqs) hsqs, List.foldl_nil]
  refine look_foldl_once (n := n) (q := q) (fun x => x.rings.cqs) _ (fun v p hp => look_cqs_takeCqHead_ne _ hp.symm)
    (fun v hv => ?_) _ (List.Pairwise.filter _ ((Tbl.sorted_iff _).mp hsorted))
    (List.mem_filter.mpr ⟨Tbl.mem_of_look hq, by simp [hdb]⟩) u (by rw [hrings]; exact hq)
  subst hword
  exact look_cqs_takeCqHead_self hv herr hw hw16 hroom

/-- The state in which a command that was fetched takes its register. -/
def fetchedBase (n tr : Nat) (cls : Nat) (t : Task) (s : State) : State :=
  bump 5 cls 0 1 (setRings (fun r => { r with tasks := Tbl.put r.tasks tr t }) (passEntry n s))

theorem rings_fetchedBase {n tr cls : Nat} {t : Task} {q : Sq} {s : State} (hq : Tbl.look s.rings.sqs n = some q) :
    Tbl.look (fetchedBase n tr cls t s).rings.tasks tr = some t ∧
    Tbl.look (fetchedBase n tr cls t s).rings.sqs n = some { q with head := (q.head + 1) % q.depth, nextOrder := q.nextOrder + 1 } ∧
    (fetchedBase n tr cls t s).rings.round = n := by
  unfold fetchedBase
  simp only [bump_frame]
  exact ⟨Tbl.look_put_self _ _ _, look_sqs_modSq_self _ hq, rfl⟩

/-- The task register that a descriptor fetched from entry `q` of an SQ takes. -/
def fetchedTask (n : Nat) (q : Sq) (desc : BitVec 1024) (s : State) : Task :=
  { sq := n, order := q.nextOrder, desc := desc, phase := .ready,
    owes2 := checkDescriptor q.cls desc s == 0 && (dOpcode desc == 0x40 || dOpcode desc == 0x50) }

theorem execCommandFetch_fetches {sq : Fin 256} {desc : BitVec 1024} {q : Sq} {tr : Nat} {s : State} (hfetch : fetching s = true)
    (hnext : nextSq s = some sq.val) (hq : Tbl.look s.rings.sqs sq.val = some q) (hfree : freeReg sq.val s = some tr)
    (hexit : (startsExit q.cls (dOpcode desc) && inPs2 s) = false) :
    execCommandFetch sq desc s = .next (placeTask tr (checkDescriptor q.cls desc s)
      (fetchedBase sq.val tr q.cls (fetchedTask sq.val q desc s) s)) := by
  have hps2 : inPs2 (fetchedBase sq.val tr q.cls (fetchedTask sq.val q desc s) s) = inPs2 s := by
    unfold fetchedBase inPs2
    simp [passEntry, setRings, modSq]
  simp only [execCommandFetch, hq, hfree]
  rw [if_neg (by simp [hfetch, hnext])]
  exact if_neg (by rw [← fetchedTask, ← fetchedBase, hps2, hexit]; exact Bool.false_ne_true)

theorem placeTask_placed {tr : Nat} {t : Task} {s : State} (h : Tbl.look s.rings.tasks tr = some t) :
    ∃ p, placeTask tr 0 s = setPhase tr p s ∧ (p = .ready ∨ p = .fenced) := by
  simp only [placeTask, h]
  rw [if_neg (by simp)]
  refine ⟨_, rfl, ?_⟩
  split
  · exact .inr rfl
  · exact .inl rfl

theorem execCommandFetch_places {sq : Fin 256} {desc : BitVec 1024} {q : Sq} {tr : Nat} {s : State} (hfetch : fetching s = true)
    (hnext : nextSq s = some sq.val) (hq : Tbl.look s.rings.sqs sq.val = some q) (hfree : freeReg sq.val s = some tr)
    (hok : checkDescriptor q.cls desc s = 0) (hexit : (startsExit q.cls (dOpcode desc) && inPs2 s) = false) :
    ∃ t k r, execCommandFetch sq desc s = .next t ∧ Tbl.look t.rings.tasks tr = some k ∧ k.desc = desc ∧ k.sq = sq.val ∧
      (k.phase = .ready ∨ k.phase = .fenced) ∧ Tbl.look t.rings.sqs sq.val = some r ∧ r.head = (q.head + 1) % q.depth ∧
      t.rings.round = sq.val := by
  obtain ⟨htask, hsq, hround⟩ := rings_fetchedBase (tr := tr) (cls := q.cls) (t := fetchedTask sq.val q desc s) hq
  obtain ⟨p, hp, hphase⟩ := placeTask_placed htask
  rw [execCommandFetch_fetches hfetch hnext hq hfree hexit, hok, hp]
  exact ⟨_, { fetchedTask sq.val q desc s with phase := p }, _, rfl,
    (Tbl.look_adjust_self _ _ _).trans (congrArg (Option.map _) htask), rfl, rfl, hphase, hsq, rfl, hround⟩

theorem execCommandFetch_rejects {sq : Fin 256} {desc : BitVec 1024} {q : Sq} {tr : Nat} {s : State} (hfetch : fetching s = true)
    (hnext : nextSq s = some sq.val) (hq : Tbl.look s.rings.sqs sq.val = some q) (hfree : freeReg sq.val s = some tr)
    (hbad : checkDescriptor q.cls desc s ≠ 0) (hexit : (startsExit q.cls (dOpcode desc) && inPs2 s) = false) :
    ∃ t r, execCommandFetch sq desc s = .next t ∧ Tbl.look t.rings.tasks tr = none ∧
      Tbl.look t.rings.sqs sq.val = some r ∧ r.head = (q.head + 1) % q.depth := by
  obtain ⟨htask, hsq, -⟩ := rings_fetchedBase (tr := tr) (cls := q.cls) (t := fetchedTask sq.val q desc s) hq
  have hfail : placeTask tr (checkDescriptor q.cls desc s) (fetchedBase sq.val tr q.cls (fetchedTask sq.val q desc s) s) =
      fail tr (checkDescriptor q.cls desc s) (fetchedBase sq.val tr q.cls (fetchedTask sq.val q desc s) s) := by
    simp only [placeTask, htask]
    exact if_pos (by simpa using hbad)
  rw [execCommandFetch_fetches hfetch hnext hq hfree hexit, hfail]
  exact ⟨_, _, rfl, look_tasks_complete _ _ _ _ _,
    (congrArg (Tbl.look · _) (ringsPosted_complete _ _ _ _ _).sqs).trans hsq, rfl⟩

theorem execDescriptorReadError_stops {sq : Fin 256} {q : Sq} {s : State} (hfetch : fetching s = true)
    (hnext : nextSq s = some sq.val) (hq : Tbl.look s.rings.sqs sq.val = some q) (hrun : q.state = .running) :
    ∃ t r, execDescriptorReadError sq s = .next t ∧ Tbl.look t.rings.sqs sq.val = some r ∧ r.state = .error ∧
      r.head = (q.head + 1) % q.depth ∧ t.rings.tasks = s.rings.tasks := by
  have hpass : Tbl.look (passEntry sq.val s).rings.sqs sq.val = _ := look_sqs_modSq_self _ hq
  unfold execDescriptorReadError
  dsimp only
  rw [if_neg (by simp [hfetch, hnext])]
  obtain ⟨hsqs, htasks⟩ := rings_sqError (cause := 3)
    (value := ((Tbl.look (passEntry sq.val s).rings.sqs sq.val).map (·.head)).getD 0) hpass hrun
  exact ⟨_, _, rfl, (congrArg (Tbl.look · _) hsqs).trans (look_sqs_modSq_self _ hpass), rfl, rfl, htasks⟩

theorem fenced_may_start {k : Task} {s : State} (hphase : k.phase = .fenced)
    (hfirst : ∀ p ∈ s.rings.tasks, p.2.sq = k.sq → k.order ≤ p.2.order) (hheld : ∀ p ∈ s.rings.heldRecs, p.2.sq ≠ k.sq) :
    ¬ (k.phase != .fenced || s.rings.tasks.any (fun p => p.2.sq == k.sq && decide (p.2.order < k.order))
        || s.rings.heldRecs.any (fun p => p.2.sq == k.sq)) = true := by
  have h1 : s.rings.tasks.any (fun p => p.2.sq == k.sq && decide (p.2.order < k.order)) = false := by
    rw [List.any_eq_false]
    intro p hp h
    obtain ⟨hsq, hlt⟩ := Bool.and_eq_true_iff.mp h
    exact absurd (hfirst p hp (by simpa using hsq)) (by simpa using hlt)
  have h2 : s.rings.heldRecs.any (fun p => p.2.sq == k.sq) = false := by simpa using hheld
  simp [hphase, h1, h2]

theorem writeAdminCtrl_start {value : W32} {r : Rings} {s : State} (hrun : s.rings.running = false)
    (hr : r = { s.rings with vectorReg := bits value.toNat 27 16, depthReg := bits value.toNat 15 0 }) (hok : adminOk r s = true) :
    ∃ b, writeAdminCtrl (value ||| 0x80000000#32) s = startAdmin { s with rings := { r with enable := true, refused := b } } := by
  obtain ⟨hbit, hd, hv⟩ := start_value value
  subst hr
  unfold writeAdminCtrl
  simp only [hbit, hd, hv, hrun, Bool.not_true, Bool.false_eq_true, if_false]
  rw [if_pos (by exact hok)]
  exact ⟨_, rfl⟩

theorem execAdminPairStart_starts {value : W32} {r : Rings} {s : State} (hworks : regWorks 1 true s = true)
    (hrun : s.rings.running = false)
    (hr : r = { s.rings with vectorReg := bits value.toNat 27 16, depthReg := bits value.toNat 15 0 }) (hok : adminOk r s = true) :
    ∃ t q c, execAdminPairStart value s = .next t ∧ t.rings.running = true ∧ t.rings.enable = true ∧
      Tbl.look t.rings.sqs 0 = some q ∧ q.state = .running ∧ q.base = s.rings.sqBase ∧ q.depth = r.depthReg + 1 ∧
      q.db = s.rings.sqDb ∧ q.head = 0 ∧ q.tail = 0 ∧ Tbl.look t.rings.cqs 0 = some c ∧ c.base = s.rings.cqBase ∧
      c.depth = r.depthReg + 1 ∧ c.db = s.rings.cqDb ∧ c.tail = 0 ∧ c.head = 0 := by
  obtain ⟨b, hstart⟩ := writeAdminCtrl_start hrun hr hok
  unfold execAdminPairStart
  rw [regWrite_of_works _ hworks, hstart]
  unfold startAdmin
  extract_lets r1 sq cq
  refine ⟨_, sq, cq, rfl, ?_⟩
  rw [rings_readLines]
  have hbase : r.sqBase = s.rings.sqBase ∧ r.cqBase = s.rings.cqBase ∧ r.sqDb = s.rings.sqDb ∧ r.cqDb = s.rings.cqDb := by
    subst hr
    exact ⟨rfl, rfl, rfl, rfl⟩
  obtain ⟨hsb, hcb, hsd, hcd⟩ := hbase
  exact ⟨rfl, rfl, Tbl.look_put_self _ _ _, rfl, hsb, rfl, hsd, rfl, rfl, Tbl.look_put_self _ _ _, hcb, rfl, hcd, rfl, rfl⟩

theorem execAdminPairStop_stops (value : W32) {s : State} (hworks : regWorks 1 true s = true) :
    ∃ t, execAdminPairStop value s = .next t ∧ t.rings.enable = false ∧ t.rings.running = s.rings.running ∧
      ∀ q, Tbl.look s.rings.sqs 0 = some q → Tbl.look t.rings.sqs 0 = some { q with stopped := true } := by
  unfold execAdminPairStop
  rw [regWrite_of_works _ hworks]
  unfold writeAdminCtrl
  simp only [stop_value, Bool.not_false, if_true]
  refine ⟨_, rfl, ?_, ?_, fun q hq => look_sqs_modSq_self _ ?_⟩
  · split <;> rfl
  · split <;> rfl
  · split <;> exact hq

theorem execAdminPairStopped_ends {q : Sq} {s : State} (hq : Tbl.look s.rings.sqs 0 = some q) (hstop : q.stopped = true)
    (htasks : ∀ p ∈ s.rings.tasks, p.2.sq ≠ 0) : ∃ t, execAdminPairStopped s = .next t ∧ t.rings.running = false ∧
      Tbl.look t.rings.sqs 0 = none ∧ Tbl.look t.rings.cqs 0 = none := by
  have hnone : s.rings.tasks.any (fun p => p.2.sq == 0) = false := by simpa using htasks
  simp only [execAdminPairStopped, hq]
  rw [if_neg (by simp [hstop, hnone])]
  exact ⟨_, rfl, rfl, Tbl.look_del_self _ _, Tbl.look_del_self _ _⟩

end Sys2Proof.Machine
end

section
set_option Elab.async false
open Sys2Proof Sys2Proof.Machine

/-- Settles O52: doorbell lines by a fold that reaches each ring once; a fetch by what its checks give. -/
theorem ringCommandsComplete : Obligations.RingCommandsComplete := by
  unfold Obligations.RingCommandsComplete
  refine ⟨?snoop, ?tail, ?head, ?timer, ?fetch, ?reject, ?readError, ?fence, ?fenceOp, ?start, ?stop, ?stopped⟩
  case snoop => exact fun line s hc hl => execDoorbellSnoop_rereads hc hl
  case tail =>
    exact fun line words n q w s hc hl hs hn hq hr hdb hw hd h16 => execDoorbellLineReturn_tail hc hl hs hn hq hr hdb hw hd h16
  case head =>
    exact fun line words n q w s hc hl hs hn hq he hdb hw hd h16 hroom =>
      execDoorbellLineReturn_head hc hl hs hn hq he hdb hw hd h16 hroom
  case timer => exact fun s hc => execDoorbellRereadTimer_rereads hc
  case fetch => exact fun sq desc q tr s hf hn hq hfr hok hex => execCommandFetch_places hf hn hq hfr hok hex
  case reject => exact fun sq desc q tr s hf hn hq hfr hbad hex => execCommandFetch_rejects hf hn hq hfr hbad hex
  case readError => exact fun sq q s hf hn hq hr => execDescriptorReadError_stops hf hn hq hr
  case fence =>
    intro tr k s hk hphase hfirst hheld hop
    show execFencedCommandStart tr s = _
    simp only [execFencedCommandStart, hk, hop]
    exact if_neg (fenced_may_start hphase hfirst hheld)
  case fenceOp =>
    intro tr k o n l s hk hphase hfirst hheld hop hlock hclear
    have hmine : (setPhase tr .running s).flash.locks.find? (fun p => p.2.holder == .command tr) = some (n, l) := hlock
    have hopen : lockClear n (setPhase tr .running s) = true := hclear
    show execFencedCommandStart tr s = _
    simp only [execFencedCommandStart, hk, hop, hmine, hopen, if_true]
    exact if_neg (fenced_may_start hphase hfirst hheld)
  case start => exact fun value r s hw hr heq hok => execAdminPairStart_starts hw hr heq hok
  case stop => exact fun value s hw => execAdminPairStop_stops value hw
  case stopped => exact fun q s hq hs ht => execAdminPairStopped_ends hq hs ht

end

section
set_option Elab.async false
/-! SUPPORT. The configuration flash (R469 to R474, R482 to R485): the bank's record after each change of it, and the starts of
host operations. -/

namespace Sys2Proof.Machine

@[simp] theorem cflBank_setBank_self (b : Nat) (f : CflBank → CflBank) (s : State) : cflBank b (setBank b f s) = f (cflBank b s) :=
  Tbl.lookD_upd_self _ _ _ _

@[simp] theorem cfl_array_setBank (b : Nat) (f : CflBank → CflBank) (s : State) : (setBank b f s).cfl.array = s.cfl.array := rfl

@[simp] theorem cflBank_abandonSeq_self (b : Nat) (err : Bool) (s : State) : cflBank b (abandonSeq b err s) =
    { cflBank b s with seq := CflSeq.empty, seqErr := (cflBank b s).seqErr || err } :=
  cflBank_setBank_self _ _ _

theorem bankStore_abort (b : Nat) (s : State) : bankStore b 0xA3C 1 0xF0 s = abandonSeq b false s := rfl

theorem bankStore_busy {b off size v : Nat} {s : State} (h : ¬ (size = 1 ∧ off = 0xA3C ∧ v = 0xF0))
    (hbusy : (cflBank b s).host.isSome = true ∨ (cflBank b s).run.isSome = true) :
    bankStore b off size v s = setBank b (fun k => { k with seqErr := true }) s := by
  unfold bankStore
  dsimp only
  rw [if_neg (by simpa [and_assoc] using h), if_pos (by simpa using .inl hbusy)]

/-- What the effect of a cycle makes of a bank's record. -/
def CycleEffect.on (e : CycleEffect) (k : CflBank) : CflBank :=
  match e with
  | .goOn q => { k with seq := q }
  | .last op _ => { k with seq := CflSeq.empty, host := some op }
  | .abandon => { k with seq := CflSeq.empty, seqErr := true }

theorem bankStore_takes {b off size v : Nat} {s : State} (h : ¬ (size = 1 ∧ off = 0xA3C ∧ v = 0xF0))
    (hhost : (cflBank b s).host = none) (hrun : (cflBank b s).run = none)
    (hdev : (cflBank b s).dev = none ∨ (cflBank b s).seq.cycles ≠ 0) :
    cflBank b (bankStore b off size v s) = ((cflBank b s).seq.store off size v).on (cflBank b s) ∧
    (bankStore b off size v s).cfl.array = s.cfl.array := by
  have hfree : ¬ ((cflBank b s).host.isSome || (cflBank b s).run.isSome ||
      ((cflBank b s).dev.isSome && (cflBank b s).seq.cycles == 0)) = true := by
    rcases hdev with hd | hd <;> simp [hhost, hrun, hd]
  unfold bankStore
  dsimp only
  rw [if_neg (by simpa [and_assoc] using h), if_neg hfree]
  cases (cflBank b s).seq.store off size v with
  | goOn q => exact ⟨cflBank_setBank_self _ _ _, rfl⟩
  | last op cmd => exact ⟨cflBank_setBank_self _ _ _, rfl⟩
  | abandon => exact ⟨(cflBank_abandonSeq_self _ _ _).trans (by simp [CycleEffect.on]), rfl⟩

theorem execCflCycleStore_stores {offset : BitVec 29} {size : Nat} {value : W64} {s : State} (hserves : cflServes s = true)
    (hd3 : s.host.d3hot = false) : execCflCycleStore offset size value s = .next (bankStore (offset.toNat / 2 ^ 28)
      (offset.toNat % 2 ^ 28) size (if size = 1 then value.toNat % 256 else value.toNat) s) :=
  if_pos (by simp [hserves, hd3])

theorem startHostOp_program {b page : Nat} {words : List (Nat × W64)} {s : State}
    (h : (cflBank b s).host = some (.program page words)) (hprot : cflProtected (16 * b + page / 32768) s = false) :
    startHostOp b s = startBankOp b (.program page words) 0x10 0 s := by
  simp only [startHostOp, h]
  exact if_neg (by simp [hprot])

theorem startHostOp_program_refused {b page : Nat} {words : List (Nat × W64)} {s : State}
    (h : (cflBank b s).host = some (.program page words)) (hprot : cflProtected (16 * b + page / 32768) s = true) :
    startHostOp b s = refuseBankOp b (fun k => { k with protErr := true }) s := by
  simp only [startHostOp, h]
  exact if_pos hprot

theorem startHostOp_erase {b sector : Nat} {s : State} (h : (cflBank b s).host = some (.erase sector))
    (hprot : cflProtected (16 * b + sector / 64) s = false) :
    startHostOp b s = startBankOp b (.erase sector) 0x20 (eraseCount (1024 * b + sector) s)
      (eraseBegin (1024 * b + sector) (eraseCount (1024 * b + sector) s) s) := by
  simp only [startHostOp, h]
  exact if_neg (by simp [hprot])

theorem startHostOp_erase_refused {b sector : Nat} {s : State} (h : (cflBank b s).host = some (.erase sector))
    (hprot : cflProtected (16 * b + sector / 64) s = true) :
    startHostOp b s = refuseBankOp b (fun k => { k with protErr := true }) s := by
  simp only [startHostOp, h]
  exact if_pos hprot

/-- A protection command whose group is open and whose password agrees starts, and the group's count of failures is gone. -/
theorem startHostOp_prot {b cmd g : Nat} {pw pw2 : W64} {s : State} (h : (cflBank b s).host = some (.prot cmd g pw pw2))
    (hg : g < 15) (hlock : cflLocked (16 * b + g) s = false) (hpw : (currentRow b s).2.passwords.getD g 0#64 = pw) :
    (cflBank b (startHostOp b s)).run = some (.prot cmd g pw pw2) ∧ (cflBank b (startHostOp b s)).host = none ∧
      Tbl.look (startHostOp b s).cfl.fails (16 * b + g) = none := by
  have hcheck : checkPassword b g pw s = (true, setCfl (fun c => { c with fails := Tbl.del c.fails (16 * b + g) }) s) :=
    if_pos hpw
  have hstart : startHostOp b s = startBankOp b (.prot cmd g pw pw2) cmd 0
      (setCfl (fun c => { c with fails := Tbl.del c.fails (16 * b + g) }) s) := by
    simp only [startHostOp, h]
    rw [if_neg (by omega), if_neg (by simp [hlock])]
    simp only [hcheck, if_true]
  rw [hstart]
  unfold startBankOp
  rw [cflBank_setBank_self]
  exact ⟨rfl, rfl, Tbl.look_del_self _ _⟩

theorem startProt_starts {b cmd g : Nat} {pw pw2 : W64} {s : State} (h : (cflBank b s).host = some (.prot cmd g pw pw2))
    (hfree : bankFree b s = true) : startProt b cmd s = startHostOp b s := by
  simp only [startProt, h]
  exact if_pos (by simp [hfree])

theorem execPageProgram_starts {bank : Fin 2} {page : Nat} {words : List (Nat × W64)} {s : State}
    (h : (cflBank bank.val s).host = some (.program page words)) (hfree : bankFree bank.val s = true) :
    execPageProgram bank s = .next (startHostOp bank.val s) := by
  simp only [execPageProgram, h]
  exact if_pos hfree

theorem execSectorErase_starts {bank : Fin 2} {sector : Nat} {s : State} (h : (cflBank bank.val s).host = some (.erase sector))
    (hfree : bankFree bank.val s = true) : execSectorErase bank s = .next (startHostOp bank.val s) := by
  simp only [execSectorErase, h]
  exact if_pos hfree

theorem execContReadEnter_enters {bank : Fin 2} {code : Nat} {s : State} (h : (cflBank bank.val s).host = some (.contEnter code))
    (hfree : bankFree bank.val s = true) : ∃ t, execContReadEnter bank s = .next t ∧ cflBank bank.val t =
      { cflBank bank.val s with host := none, contCode := code, prefetch := none, lastCmd := 0x30 } := by
  simp only [execContReadEnter, startHostOp, h]
  exact ⟨_, if_pos hfree, cflBank_setBank_self _ _ _⟩

theorem execContReadExit_leaves {bank : Fin 2} {s : State} (h : (cflBank bank.val s).host = some .contExit)
    (hfree : bankFree bank.val s = true) : ∃ t, execContReadExit bank s = .next t ∧ cflBank bank.val t =
      { cflBank bank.val s with host := none, contCode := 0, prefetch := none, lastCmd := 0x31 } := by
  simp only [execContReadExit, startHostOp, h]
  exact ⟨_, if_pos hfree, cflBank_setBank_self _ _ _⟩

end Sys2Proof.Machine
end

section
set_option Elab.async false
open Sys2Proof Sys2Proof.Machine

/-- Settles O55: each start is one branch of `startHostOp`, each cycle one branch of `bankStore`. -/
theorem flashSequencesComplete : Obligations.FlashSequencesComplete := by
  unfold Obligations.FlashSequencesComplete
  refine ⟨?cycle, ?busy, ?abandon, ?timeout, ?program, ?programRefused, ?erase, ?eraseRefused, ?contEnter, ?contExit, ?set, ?clear,
    ?change, ?queued⟩
  case cycle =>
    intro offset size value b off v s hserves hd3 hb hoff hv habort hhost hrun hdev
    subst hb hoff hv
    obtain ⟨hbank, harray⟩ := bankStore_takes habort hhost hrun hdev
    exact ⟨_, execCflCycleStore_stores hserves hd3, hbank, harray⟩
  case busy =>
    intro offset size value b off v s hserves hd3 hb hoff hv habort hbusy
    subst hb hoff hv
    exact ⟨_, execCflCycleStore_stores hserves hd3, (congrArg (cflBank _) (bankStore_busy habort hbusy)).trans (cflBank_setBank_self _ _ _)⟩
  case abandon =>
    intro bank s hserves hd3
    refine ⟨_, if_pos (by simp [hserves, hd3]), ?_⟩
    rw [bankStore_abort, cflBank_abandonSeq_self, Bool.or_false]
  case timeout =>
    intro bank s hserves hcycles
    refine ⟨_, if_pos (by simp [hserves, hcycles]), ?_⟩
    rw [cflBank_abandonSeq_self, Bool.or_true]
  case program =>
    intro bank page words s hhost hfree hprot
    refine ⟨_, execPageProgram_starts hhost hfree, ?_⟩
    rw [startHostOp_program hhost hprot, startBankOp, cflBank_setBank_self]
    exact ⟨rfl, rfl, rfl, rfl, rfl⟩
  case programRefused =>
    intro bank page words s hhost hfree hprot
    refine ⟨_, execPageProgram_starts hhost hfree, ?_⟩
    rw [startHostOp_program_refused hhost hprot]
    exact ⟨cflBank_setBank_self _ _ _, rfl⟩
  case erase =>
    intro bank sector s hhost hfree hprot
    refine ⟨_, execSectorErase_starts hhost hfree, ?_⟩
    rw [startHostOp_erase hhost hprot, startBankOp, cflBank_setBank_self]
    exact ⟨rfl, rfl, rfl, rfl⟩
  case eraseRefused =>
    intro bank sector s hhost hfree hprot
    refine ⟨_, execSectorErase_starts hhost hfree, ?_⟩
    rw [startHostOp_erase_refused hhost hprot]
    exact ⟨cflBank_setBank_self _ _ _, rfl, rfl⟩
  case contEnter => exact fun bank code s hhost hfree => execContReadEnter_enters hhost hfree
  case contExit => exact fun bank s hhost hfree => execContReadExit_leaves hhost hfree
  case set =>
    exact fun bank g pw s hhost hfree hg hlock hpw =>
      ⟨_, congrArg Host.Outcome.next (startProt_starts hhost hfree), startHostOp_prot hhost hg hlock hpw⟩
  case clear =>
    exact fun bank g pw s hhost hfree hg hlock hpw =>
      ⟨_, congrArg Host.Outcome.next (startProt_starts hhost hfree), startHostOp_prot hhost hg hlock hpw⟩
  case change =>
    exact fun bank g pw pw2 s hhost hfree hg hlock hpw =>
      ⟨_, congrArg Host.Outcome.next (startProt_starts hhost hfree), startHostOp_prot hhost hg hlock hpw⟩
  case queued => exact fun bank op s _ hfree => if_pos hfree

end

section
set_option Elab.async false
/-! SUPPORT. The pulses of the configuration flash (R475 to R479, R485): markers, erased sectors, and protection rows. -/

namespace Sys2Proof.Machine

theorem bits_markerHalf_low {v : Nat} (h : v < 2 ^ 64) (hi lo : Nat) (hhi : hi < 64) (hlo : lo ≤ hi) :
    bits (markerHalf v) hi lo = bits v hi lo := by
  have hsplit : 2 ^ 64 = 2 ^ lo * (2 ^ (hi + 1 - lo) * 2 ^ (63 - hi)) := by
    rw [← Nat.pow_add, ← Nat.pow_add]
    congr 1
    omega
  unfold bits markerHalf
  rw [Nat.mod_eq_of_lt h]
  generalize compl 64 v = c
  rw [show v + c * 2 ^ 64 = v + 2 ^ lo * (2 ^ (hi + 1 - lo) * (2 ^ (63 - hi) * c)) by rw [hsplit]; ring,
    Nat.add_mul_div_left _ _ (Nat.two_pow_pos _), Nat.add_mul_mod_self_left]

theorem isCompl_markerHalf {v : Nat} (h : v < 2 ^ 64) :
    isCompl 64 (bits (markerHalf v) 63 0) (bits (markerHalf v) 127 64) = true := by
  have hhigh : bits (markerHalf v) 127 64 = 2 ^ 64 - 1 - v := by
    unfold bits markerHalf compl
    rw [Nat.mod_eq_of_lt h, Nat.add_mul_div_right _ _ (Nat.two_pow_pos _), Nat.div_eq_of_lt h, Nat.zero_add]
    exact Nat.mod_eq_of_lt (by omega)
  have hlow : bits v 63 0 = v := by
    unfold bits
    rw [Nat.pow_zero, Nat.div_one]
    exact Nat.mod_eq_of_lt h
  rw [bits_markerHalf_low h 63 0 (by omega) (by omega), hhigh, hlow]
  unfold isCompl
  rw [beq_iff_eq]
  omega

theorem markerHalf_lt (v : Nat) : markerHalf v < 2 ^ 128 - 1 := by
  unfold markerHalf compl
  norm_num
  omega

/-- The value that a done marker holds beside its complement. -/
def doneValue (count pulses : Nat) : Nat := 0x444E * 2 ^ 48 + count % 2 ^ 32 * 2 ^ 16 + min 15 pulses * 2 ^ 12

theorem doneValue_lt (count pulses : Nat) : doneValue count pulses < 2 ^ 64 := by
  unfold doneValue
  omega

/-- The marker area that an erase leaves. -/
def erasedMarks (count pulses : Nat) : BitVec 256 := BitVec.ofNat 256 (blankHalf + doneMarker count pulses * 2 ^ 128)

theorem halves_erasedMarks (count pulses : Nat) : startHalf (erasedMarks count pulses) = blankHalf ∧
    doneHalf (erasedMarks count pulses) = doneMarker count pulses := by
  have hlt := markerHalf_lt (doneValue count pulses)
  have heq : doneMarker count pulses = markerHalf (doneValue count pulses) := rfl
  unfold startHalf doneHalf erasedMarks
  rw [heq, BitVec.toNat_ofNat]
  generalize markerHalf (doneValue count pulses) = m at hlt
  unfold blankHalf
  norm_num at hlt ⊢
  omega

theorem marks_erased (count pulses : Nat) : doneState (erasedMarks count pulses) = .valid ∧
    startState (erasedMarks count pulses) = .blank ∧ doneCount (erasedMarks count pulses) = count % 2 ^ 32 := by
  obtain ⟨hstart, hdone⟩ := halves_erasedMarks count pulses
  have hlt := markerHalf_lt (doneValue count pulses)
  have hv := doneValue_lt count pulses
  have htag : bits (markerHalf (doneValue count pulses)) 63 48 = 0x444E := by
    rw [bits_markerHalf_low hv 63 48 (by omega) (by omega)]
    unfold bits doneValue
    omega
  have hcount : bits (markerHalf (doneValue count pulses)) 47 16 = count % 2 ^ 32 := by
    rw [bits_markerHalf_low hv 47 16 (by omega) (by omega)]
    unfold bits doneValue
    omega
  unfold doneState startState doneCount
  rw [hdone, hstart]
  refine ⟨?_, if_pos rfl, hcount⟩
  unfold markState
  rw [show doneMarker count pulses = markerHalf (doneValue count pulses) from rfl, if_neg (by unfold blankHalf; omega),
    if_pos (by rw [htag, isCompl_markerHalf hv]; rfl)]

@[simp] theorem cflBank_endRun_self (b : Nat) (f : CflBank → CflBank) (s : State) :
    cflBank b (endRun b f s) = f { cflBank b s with run := none, pulses := 0 } :=
  cflBank_setBank_self _ _ _

theorem execCflWindowRead_answers {offset : BitVec 29} {len : Nat} {s : State} (hserves : cflServes s = true)
    (hd3 : s.host.d3hot = false) : ∃ t, execCflWindowRead offset len s = .next t ∧
      t.host.answer = .data ((List.range len).map (fun i => windowByte ((offset.toNat + i) % 2 ^ 29) s)) ∧
      t.cfl.array = s.cfl.array := by
  have halive : alive s = true := by
    unfold cflServes at hserves
    simp only [Bool.and_eq_true] at hserves
    exact hserves.1.1
  have harray : ∀ b p, (prefetchAfter b p s).cfl.array = s.cfl.array := fun b p => by
    unfold prefetchAfter
    dsimp only
    split <;> rfl
  unfold execCflWindowRead
  dsimp only
  rw [if_neg (by simp [halive]), if_neg (by simp [hd3]), if_neg (by simp [hserves])]
  refine ⟨_, rfl, rfl, ?_⟩
  by_cases hlen : len = 0
  · rw [if_pos hlen]
  · rw [if_neg hlen]
    exact harray _ _

theorem length_pageBuffer (words : List (Nat × W64)) : (pageBuffer words).length = 512 := by
  unfold pageBuffer pageBytes Mem.read
  simp

theorem length_zipRead (m : Mem) (a : Nat) (bytes : List Byte) :
    (List.zipWith (· &&& ·) (Mem.read onesByte m a bytes.length) bytes).length = bytes.length := by
  simp [Mem.read]

theorem read_cflProgram (a : Nat) (bytes : List Byte) (s : State) :
    Mem.read onesByte (cflProgram a bytes s).cfl.array a bytes.length =
      List.zipWith (· &&& ·) (Mem.read onesByte s.cfl.array a bytes.length) bytes := by
  have h := Mem.read_write onesByte s.cfl.array a
    (List.zipWith (· &&& ·) (Mem.read onesByte s.cfl.array a bytes.length) bytes)
  rw [length_zipRead] at h
  exact h

theorem byte_cflProgram_out {a x : Nat} {bytes : List Byte} (s : State) (h : x < a ∨ a + bytes.length ≤ x) :
    Mem.byte onesByte (cflProgram a bytes s).cfl.array x = Mem.byte onesByte s.cfl.array x :=
  Mem.byte_write_out _ _ _ _ _ (by rw [length_zipRead]; exact h)

/-- The bank's record that a pulse's end looks at. -/
theorem heldBank_of_free {b : Nat} {s : State} (h : cflHeld s = false) :
    (if cflHeld s then CflBank.reset else cflBank b s) = cflBank b s := if_neg (by simp [h])

theorem execCflProgramPulseEnd_of_program {bank : Fin 2} {verified : Bool} {page : Nat} {words : List (Nat × W64)} {s : State}
    (hheld : cflHeld s = false) (hrun : (cflBank bank.val s).run = some (.program page words)) :
    execCflProgramPulseEnd bank verified s =
      if verified then
        .next (endRun bank.val id (cflProgram (bank.val * 2 ^ 28 + page * 512) (pageBuffer words) s))
      else if (cflBank bank.val s).pulses + 1 < 8 then
        .next (setBank bank.val (fun k => { k with pulses := k.pulses + 1 }) s)
      else .next (endRun bank.val id (programFailed bank.val (bank.val * 2 ^ 28 + page * 512) s)) := by
  unfold execCflProgramPulseEnd
  simp only [heldBank_of_free hheld, hrun, pageBytes]

theorem progErr_programFailed (b a : Nat) (s : State) : (cflBank b (programFailed b a s)).progErr = true := by
  unfold programFailed cflBank
  simp only [logEvent_frame]
  exact congrArg CflBank.progErr (cflBank_setBank_self _ _ _)

theorem execCflErasePulseEnd_of_erase {bank : Fin 2} {verified : Bool} {sector : Nat} {s : State}
    (hheld : cflHeld s = false) (hrun : (cflBank bank.val s).run = some (.erase sector)) :
    execCflErasePulseEnd bank verified s =
      if verified || (cflBank bank.val s).pulses + 1 = 10 then
        .next (endRun bank.val (fun k => if verified then k else { k with eraseErr := true })
          (if verified then
            eraseDone (1024 * bank.val + sector) (cflBank bank.val s).count ((cflBank bank.val s).pulses + 1)
              (logSlowErase (1024 * bank.val + sector) ((cflBank bank.val s).pulses + 1) (cflBank bank.val s).count s)
          else eraseFailed (1024 * bank.val + sector) ((cflBank bank.val s).pulses + 1) (cflBank bank.val s).count
              (logSlowErase (1024 * bank.val + sector) ((cflBank bank.val s).pulses + 1) (cflBank bank.val s).count s)))
      else .next (setBank bank.val (fun k => { k with pulses := (cflBank bank.val s).pulses + 1 }) s) := by
  unfold execCflErasePulseEnd
  simp only [heldBank_of_free hheld, hrun]

@[simp] theorem cfl_array_logSlowErase (sec p count : Nat) (s : State) :
    (logSlowErase sec p count s).cfl.array = s.cfl.array := by
  unfold logSlowErase
  split
  · rfl
  · simp only [logEvent_frame]
    rfl

@[simp] theorem cfl_marks_logSlowErase (sec p count : Nat) (s : State) :
    (logSlowErase sec p count s).cfl.marks = s.cfl.marks := by
  unfold logSlowErase
  split
  · rfl
  · simp only [logEvent_frame]
    rfl

@[simp] theorem cfl_rows_logSlowErase (sec p count : Nat) (s : State) : (logSlowErase sec p count s).cfl.rows = s.cfl.rows := by
  unfold logSlowErase
  split
  · rfl
  · simp only [logEvent_frame]
    rfl

@[simp] theorem cfl_prot_logSlowErase (sec p count : Nat) (s : State) : (logSlowErase sec p count s).cfl.prot = s.cfl.prot := by
  unfold logSlowErase
  split
  · rfl
  · simp only [logEvent_frame]
    rfl

theorem byte_eraseContent (sec a : Nat) {s : State} (h : sec < 2048) :
    Mem.byte onesByte (eraseContent sec s).cfl.array a =
      if a / 0x40000 = sec then 0xFF#8 else Mem.byte onesByte s.cfl.array a := by
  have hlook := Tbl.look_filter s.cfl.array (fun k => k / sectorBytes != sec) a
  unfold eraseContent
  rw [if_pos h]
  unfold Mem.byte Tbl.lookD
  refine (congrArg (fun o => Option.getD o _) hlook).trans ?_
  unfold sectorBytes
  by_cases ha : a / 0x40000 = sec
  · rw [if_pos ha, if_neg (by simp [ha])]
    rfl
  · rw [if_neg ha, if_pos (by simp [ha])]

theorem execCflErasePulseEnd_erases {bank : Fin 2} {sector : Nat} {s : State} (hheld : cflHeld s = false)
    (hrun : (cflBank bank.val s).run = some (.erase sector)) (hsec : sector < 1024) :
    ∃ t, execCflErasePulseEnd bank true s = .next t ∧ (cflBank bank.val t).run = none ∧
      doneState (marksOf (1024 * bank.val + sector) t) = .valid ∧ startState (marksOf (1024 * bank.val + sector) t) = .blank ∧
      doneCount (marksOf (1024 * bank.val + sector) t) = (cflBank bank.val s).count % 2 ^ 32 ∧
      (∀ i < 0x40000, Mem.byte onesByte t.cfl.array ((1024 * bank.val + sector) * 0x40000 + i) = 0xFF#8) ∧
      ∀ a, a / 0x40000 ≠ 1024 * bank.val + sector → Mem.byte onesByte t.cfl.array a = Mem.byte onesByte s.cfl.array a := by
  rw [execCflErasePulseEnd_of_erase hheld hrun]
  generalize (cflBank bank.val s).count = count
  generalize (cflBank bank.val s).pulses + 1 = p
  obtain ⟨hdone, hstart, hcount⟩ := marks_erased count p
  have hbyte := fun a => byte_eraseContent (1024 * bank.val + sector) a
    (s := logSlowErase (1024 * bank.val + sector) p count s) (by omega)
  simp only [cfl_array_logSlowErase] at hbyte
  refine ⟨_, if_pos rfl, ?_⟩
  generalize hu : endRun _ _ _ = u
  have harray : u.cfl.array =
      (eraseContent (1024 * bank.val + sector) (logSlowErase (1024 * bank.val + sector) p count s)).cfl.array := by
    rw [← hu]
    rfl
  have hmarks : marksOf (1024 * bank.val + sector) u = erasedMarks count p := by
    rw [← hu]
    exact Tbl.lookD_put_self _ _ _ _
  rw [harray, hmarks]
  refine ⟨by rw [← hu, cflBank_endRun_self]; rfl, hdone, hstart, hcount, fun i hi => ?_, fun a ha => ?_⟩
  · rw [hbyte, if_pos (by omega)]
  · rw [hbyte, if_neg ha]

theorem execCflErasePulseEnd_fails {bank : Fin 2} {sector : Nat} {s : State} (hheld : cflHeld s = false)
    (hrun : (cflBank bank.val s).run = some (.erase sector)) (hpulses : (cflBank bank.val s).pulses = 9) :
    ∃ t, execCflErasePulseEnd bank false s = .next t ∧ (cflBank bank.val t).run = none ∧
      (cflBank bank.val t).eraseErr = true ∧ t.cfl.marks = s.cfl.marks := by
  have hmarks : ∀ (sec p count : Nat) (u : State), (eraseFailed sec p count u).cfl.marks = u.cfl.marks := fun sec p count u => by
    unfold eraseFailed
    simp only [logEvent_frame]
    rfl
  rw [execCflErasePulseEnd_of_erase hheld hrun]
  refine ⟨_, if_pos (by simp [hpulses]), ?_⟩
  rw [cflBank_endRun_self]
  refine ⟨rfl, rfl, ?_⟩
  exact (hmarks _ _ _ _).trans (cfl_marks_logSlowErase _ _ _ _)

theorem currentRow_le (b : Nat) (s : State) : (currentRow b s).1 ≤ 1 := by
  unfold currentRow
  split
  · dsimp only
    split <;> split <;> simp
  · exact Nat.zero_le _
  · exact Nat.le_refl _
  · exact Nat.le_refl _

/-- A protection command that ends has its new row in force and the old row erased. -/
theorem cfl_endProt {b cmd g pulses : Nat} {pw2 : W64} {s : State} (hpulses : pulses ≤ 10) :
    (endProt b cmd g pw2 pulses s).cfl.rows = Tbl.del (Tbl.put s.cfl.rows (2 * b + (1 - (currentRow b s).1))
      (protRow cmd g pw2 (currentRow b s).2)) (2 * b + (currentRow b s).1) ∧
    (endProt b cmd g pw2 pulses s).cfl.prot =
      (if cmd = 0x42 then s.cfl.prot else setBitN s.cfl.prot (16 * b + g) (cmd == 0x40)) := by
  unfold endProt
  dsimp only
  generalize hold : 2048 + 2 * b + (currentRow b s).1 = old
  generalize eraseCount old (protWritten b cmd g pw2 s) = count
  have hrows : ∀ u : State, (eraseWhole old count pulses u).cfl.rows = Tbl.del u.cfl.rows (old - 2048) ∧
      (eraseWhole old count pulses u).cfl.prot = u.cfl.prot := fun u => by
    unfold eraseWhole eraseDone eraseContent
    dsimp only
    rw [if_pos hpulses, if_neg (by omega)]
    exact ⟨congrArg (Tbl.del · _) (cfl_rows_logSlowErase ..), cfl_prot_logSlowErase ..⟩
  obtain ⟨hr, hp⟩ := hrows (protWritten b cmd g pw2 s)
  refine ⟨hr.trans ?_, hp⟩
  rw [show old - 2048 = 2 * b + (currentRow b s).1 by omega]
  rfl

theorem execCflProtectionOpComplete_ends {bank : Fin 2} {cmd g : Nat} {pw pw2 : W64} {s : State} (hheld : cflHeld s = false)
    (hrun : (cflBank bank.val s).run = some (.prot cmd g pw pw2)) (hpulses : (cflBank bank.val s).pulses ≤ 10) :
    ∃ t, execCflProtectionOpComplete bank s = .next t ∧ (cflBank bank.val t).run = none ∧
      Tbl.look t.cfl.rows (2 * bank.val + (1 - (currentRow bank.val s).1)) = some (protRow cmd g pw2 (currentRow bank.val s).2) ∧
      Tbl.look t.cfl.rows (2 * bank.val + (currentRow bank.val s).1) = none ∧
      t.cfl.prot = (if cmd = 0x42 then s.cfl.prot else setBitN s.cfl.prot (16 * bank.val + g) (cmd == 0x40)) := by
  have hp : Nat.max 1 (cflBank bank.val s).pulses ≤ 10 := Nat.max_le.mpr ⟨by omega, hpulses⟩
  have hexec : execCflProtectionOpComplete bank s =
      .next (endProt bank.val cmd g pw2 (Nat.max 1 (cflBank bank.val s).pulses) s) := by
    unfold execCflProtectionOpComplete
    simp only [heldBank_of_free hheld, hrun]
  obtain ⟨hrows, hprot⟩ := cfl_endProt (b := bank.val) (cmd := cmd) (g := g) (pw2 := pw2) (s := s) hp
  have hle := currentRow_le bank.val s
  refine ⟨_, hexec, ?_, ?_, ?_, hprot⟩
  · unfold endProt
    dsimp only
    rw [cflBank_endRun_self]
    split <;> rfl
  · rw [hrows, Tbl.look_del_ne _ (by omega), Tbl.look_put_self]
  · rw [hrows, Tbl.look_del_self]

theorem mayRecord {s : State} (hserves : cflServes s = true) (hbusy : (cflBank 0 s).busy = false)
    (hcycles : (cflBank 0 s).seq.cycles < 3) (hloss : s.power.inputLoss = false) :
    ¬ (!cflServes s || (cflBank 0 s).busy || decide (3 ≤ (cflBank 0 s).seq.cycles) || s.power.inputLoss) = true := by
  simp [hserves, hbusy, hloss]
  omega

theorem execDeviceRecordWrite_layout {s : State} (hserves : cflServes s = true) (hbusy : (cflBank 0 s).busy = false)
    (hcycles : (cflBank 0 s).seq.cycles < 3) (hloss : s.power.inputLoss = false) (hdue : s.cfl.layoutDue = true) :
    ∃ t, execDeviceRecordWrite s = .next t ∧ (cflBank 0 t).dev =
        some (.record (s.cfl.layoutRec.sector 962 * 0x40000 + s.cfl.layoutRec.next * 32) (layoutBytes s) true) ∧
      t.cfl.layoutDue = false := by
  unfold execDeviceRecordWrite
  dsimp only
  rw [if_neg (mayRecord hserves hbusy hcycles hloss), if_pos hdue]
  refine ⟨_, rfl, ?_, rfl⟩
  rw [startRecord, cflBank_setBank_self]
  rfl

theorem execDeviceRecordWrite_event {s : State} {e : EvtRec} {rest : List EvtRec} (hserves : cflServes s = true)
    (hbusy : (cflBank 0 s).busy = false) (hcycles : (cflBank 0 s).seq.cycles < 3) (hloss : s.power.inputLoss = false)
    (hdue : s.cfl.layoutDue = false) (hqueue : s.evt.copyQueue = e :: rest) :
    ∃ t, execDeviceRecordWrite s = .next t ∧ (cflBank 0 t).dev =
        some (.record (s.cfl.gbRec.sector 968 * 0x40000 + s.cfl.gbRec.next * 32) (e.bytes false) false) ∧
      t.evt.copyQueue = rest := by
  unfold execDeviceRecordWrite
  dsimp only
  rw [if_neg (mayRecord hserves hbusy hcycles hloss), if_neg (by simp [hdue])]
  simp only [hqueue]
  refine ⟨_, rfl, ?_, rfl⟩
  rw [startRecord, cflBank_setBank_self]
  rfl

end Sys2Proof.Machine
end

section
set_option Elab.async false
open Sys2Proof Sys2Proof.Machine

/-- Settles O56: a verified pulse ANDs the page, filters the sector, or puts the row; the others count pulses. -/
theorem flashPulsesComplete : Obligations.FlashPulsesComplete := by
  unfold Obligations.FlashPulsesComplete
  refine ⟨?read, ?program, ?programAgain, ?programFails, ?erase, ?eraseAgain, ?eraseFails, ?prot, ?layout, ?event, ?sel⟩
  case read => exact fun offset len s hserves hd3 => execCflWindowRead_answers hserves hd3
  case program =>
    intro bank page words s hheld hrun
    have hread := read_cflProgram (bank.val * 2 ^ 28 + page * 512) (pageBuffer words) s
    rw [length_pageBuffer] at hread
    refine ⟨_, (execCflProgramPulseEnd_of_program hheld hrun).trans (if_pos rfl), ?_, hread, fun a ha => ?_⟩
    · rw [cflBank_endRun_self]
      rfl
    · exact byte_cflProgram_out s (by rw [length_pageBuffer]; exact ha)
  case programAgain =>
    intro bank page words s hheld hrun hpulses
    refine ⟨_, (execCflProgramPulseEnd_of_program hheld hrun).trans
      ((if_neg Bool.false_ne_true).trans (if_pos (by omega))), cflBank_setBank_self _ _ _, rfl⟩
  case programFails =>
    intro bank page words s hheld hrun hpulses
    refine ⟨_, (execCflProgramPulseEnd_of_program hheld hrun).trans
      ((if_neg Bool.false_ne_true).trans (if_neg (by omega))), ?_⟩
    rw [cflBank_endRun_self]
    exact ⟨rfl, progErr_programFailed _ _ _⟩
  case erase => exact fun bank sector s hheld hrun hsec => execCflErasePulseEnd_erases hheld hrun hsec
  case eraseAgain =>
    intro bank sector s hheld hrun hpulses
    exact ⟨_, (execCflErasePulseEnd_of_erase hheld hrun).trans (if_neg (by simp; omega)), cflBank_setBank_self _ _ _, rfl⟩
  case eraseFails => exact fun bank sector s hheld hrun hpulses => execCflErasePulseEnd_fails hheld hrun hpulses
  case prot => exact fun bank cmd g pw pw2 s hheld hrun hpulses => execCflProtectionOpComplete_ends hheld hrun hpulses
  case layout => exact fun s hserves hbusy hcycles hloss hdue => execDeviceRecordWrite_layout hserves hbusy hcycles hloss hdue
  case event =>
    exact fun e rest s hserves hbusy hcycles hloss hdue hqueue =>
      execDeviceRecordWrite_event hserves hbusy hcycles hloss hdue hqueue
  case sel => exact fun value s hworks => ⟨_, congrArg Host.Outcome.next (regWrite_of_works _ hworks), rfl⟩

end

section
set_option Elab.async false
/-! SUPPORT. Flits (R305 to R316): what parcels on their way leave of a port, and what each kind of flit does to its port. -/

namespace Sys2Proof.Machine

theorem portOf_modPort_self (n : Nat) (f : Port → Port) (s : State) : portOf n (modPort n f s) = f (portOf n s) :=
  portOf_setPort_self _ _ _

@[simp] theorem portOf_bump (bank inst idx k n : Nat) (s : State) : portOf n (bump bank inst idx k s) = portOf n s :=
  portOf_congr (by simp) n

theorem sameLine_arriveParcel (m : Nat) (p : Parcel) (n : Nat) (s : State) :
    (portOf n s).SameLine (portOf n (arriveParcel m p s)) := by
  have hanswer : ∀ (code : Nat) (u : State), portOf n u = portOf n s → (portOf n s).SameLine (portOf n (answer p code u)) :=
    fun code u hu => hu ▸ sameLine_sendParcel (rspParcel p code u) n u
  have hdrop : portOf n (hopDrop m s) = portOf n s := by
    have hlogged : ∀ c : Prop, ∀ [Decidable c] (k : Option Nat), portOf n (if c then bump 4 m 8 1 s else
        { logEvent .kybHopLimit 0 (bump 4 m 8 1 s) with
          fabric := { (logEvent .kybHopLimit 0 (bump 4 m 8 1 s)).fabric with hopLogged := k } }) = portOf n s := by
      intro c _ k
      split
      · exact portOf_bump ..
      · exact (portOf_logEvent ..).trans (portOf_bump ..)
    exact hlogged _ _
  unfold arriveParcel
  split
  · split
    · exact hanswer _ _ rfl
    · exact sameLine_modPort (fun _ => ⟨_, _, _, _, rfl⟩) _ _ _
  · split
    · dsimp only
      split
      · exact hanswer _ _ hdrop
      · rw [hdrop]
        exact .refl _
    · dsimp only
      split
      · rw [portOf_bump]
        exact sameLine_queueAt _ _ _ _
      · split
        · exact hanswer _ _ rfl
        · exact .refl _

theorem sameLine_arriveAll (m : Nat) (ps : List Parcel) (n : Nat) (s : State) :
    (portOf n s).SameLine (portOf n (ps.foldl (fun acc p => arriveParcel m p acc) s)) := by
  induction ps generalizing s with
  | nil => exact .refl _
  | cons p ps ih => exact (sameLine_arriveParcel m p n s).trans (ih _)

/-- A control flit of the given kind that port `q` sends. -/
def controlWords (q : Port) (kind : Nat) : List W72 := encodeWords (mkFlitHeader q q.txSeq kind 0 0) []

theorem portOf_sendControl (n kind : Nat) (s : State) :
    portOf n (sendControl n kind s) = { (portOf n s).returned with lastSent := controlWords (portOf n s) kind } :=
  portOf_modPort_self _ _ _

theorem asm_setAsm (q : Port) (vc : Nat) (ws : List W64) : (q.setAsm vc ws).asm vc = ws := by
  unfold Port.setAsm Port.asm
  by_cases h0 : vc = 0
  · simp [h0]
  by_cases h1 : vc = 1
  · simp [h1]
  simp [h0, h1]

theorem tx_setTx (q : Port) (vc : Nat) (c : TxChannel) : (q.setTx vc c).tx vc = c := by
  unfold Port.setTx Port.tx
  by_cases h0 : vc = 0
  · simp [h0]
  by_cases h1 : vc = 1
  · simp [h1]
  simp [h0, h1]

/-- What reception keeps of a port: the number expected, the wait for a replay, and the words in assembly. -/
structure Port.SameReception (q r : Port) : Prop where
  rxSeq : r.rxSeq = q.rxSeq
  rxWait : r.rxWait = q.rxWait
  asm : ∀ vc, r.asm vc = q.asm vc

theorem Port.SameReception.trans {p q r : Port} (h : p.SameReception q) (h2 : q.SameReception r) : p.SameReception r :=
  ⟨h2.rxSeq.trans h.rxSeq, h2.rxWait.trans h.rxWait, fun vc => (h2.asm vc).trans (h.asm vc)⟩

theorem Port.SameLine.sameReception {q r : Port} (h : q.SameLine r) : q.SameReception r := by
  obtain ⟨_, _, _, _, rfl⟩ := h
  exact ⟨rfl, rfl, fun _ => rfl⟩

theorem sameReception_sendControl (n kind : Nat) (s : State) :
    (portOf n s).SameReception (portOf n (sendControl n kind s)) := by
  rw [portOf_sendControl]
  exact ⟨rfl, rfl, fun _ => rfl⟩

theorem badFlit_iff {f : Flit} {q : Port} :
    (!f.fecOk || badWords f != 0 || fhKind (flitHeader f) != 1 || fhVc (flitHeader f) == 3 || fhSeq (flitHeader f) != q.rxSeq) = true ↔
      (f.fecOk = false ∨ badWords f ≠ 0 ∨ fhKind (flitHeader f) ≠ 1 ∨ fhVc (flitHeader f) = 3 ∨
        fhSeq (flitHeader f) ≠ q.rxSeq) := by
  simp [or_assoc]

/-- The port after a data flit in sequence, before its parcels go on: `ws` are the words left in assembly. -/
def tookFlit (q : Port) (h : Nat) (ws : List W64) : Port :=
  { ((q.acked (fhAck h)).credit h).setAsm (fhVc h) ws with
    rxSeq := (q.rxSeq + 1) % 4096, rxWait := false, rxSince := q.rxSince + 1 }

theorem sameReception_setTx (q : Port) (vc : Nat) (c : TxChannel) : q.SameReception (q.setTx vc c) :=
  (sameLine_setTx vc c q).sameReception

theorem execDataFlitReceive_takes {n : Fin 16} {f : Flit} {s : State} (hup : (portOf n.val s).state = 5) (hfec : f.fecOk = true)
    (hbad : badWords f = 0) (hkind : fhKind (flitHeader f) = 1) (hvc : fhVc (flitHeader f) ≠ 3)
    (hseq : fhSeq (flitHeader f) = (portOf n.val s).rxSeq) : ∃ t, execDataFlitReceive n f s = .next t ∧
      (portOf n.val t).rxSeq = ((portOf n.val s).rxSeq + 1) % 4096 ∧ (portOf n.val t).rxWait = false ∧
      (portOf n.val t).asm (fhVc (flitHeader f)) = (feed ((f.words.drop 1).map (fun w => w.extractLsb' 0 64))
        (if fhFirst (flitHeader f) = 1 then [] else (portOf n.val s).asm (fhVc (flitHeader f))) []).1 := by
  unfold execDataFlitReceive
  dsimp only
  rw [if_neg (by simp [hup]), if_neg (fun h => (badFlit_iff.mp h).elim (by simp [hfec]) (by simp [hbad, hkind, hvc, hseq]))]
  generalize feed _ _ _ = r
  generalize hq3 : Port.setTx _ _ _ = q3
  have hq : (tookFlit (portOf n.val s) (flitHeader f) r.1).SameReception q3 := hq3 ▸ sameReception_setTx _ _ _
  have hasm : (tookFlit (portOf n.val s) (flitHeader f) r.1).asm (fhVc (flitHeader f)) = r.1 := asm_setAsm _ _ _
  have hall := (sameLine_arriveAll n.val r.2 n.val (bump 4 n.val 1 1 (setPort n.val q3 s))).sameReception
  rw [portOf_bump, portOf_setPort_self] at hall
  have hdone := hq.trans hall
  generalize List.foldl _ _ _ = u at hdone ⊢
  have hend : (tookFlit (portOf n.val s) (flitHeader f) r.1).SameReception
      (portOf n.val (if 64 ≤ q3.rxSince then sendControl n.val 0 u else u)) := by
    split
    · exact hdone.trans (sameReception_sendControl _ _ _)
    · exact hdone
  exact ⟨_, rfl, hend.rxSeq, hend.rxWait, (hend.asm _).trans hasm⟩

theorem execDataFlitReceive_rejects {n : Fin 16} {f : Flit} {s : State} (hup : (portOf n.val s).state = 5)
    (hwait : (portOf n.val s).rxWait = false) (hbad : f.fecOk = false ∨ badWords f ≠ 0 ∨ fhKind (flitHeader f) ≠ 1 ∨
      fhVc (flitHeader f) = 3 ∨ fhSeq (flitHeader f) ≠ (portOf n.val s).rxSeq) :
    ∃ t, execDataFlitReceive n f s = .next t ∧ (portOf n.val t).rxSeq = (portOf n.val s).rxSeq ∧
      (portOf n.val t).rxWait = true ∧ (portOf n.val t).inbox = (portOf n.val s).inbox ∧
      (portOf n.val t).lastSent = controlWords (portOf n.val s) 2 := by
  unfold execDataFlitReceive
  dsimp only
  rw [if_neg (by simp [hup]), if_pos (badFlit_iff.mpr hbad), if_neg (by simp [hwait])]
  refine ⟨_, rfl, ?_⟩
  rw [portOf_sendControl, portOf_bump, portOf_modPort_self, portOf_bump, portOf_bump]
  exact ⟨rfl, rfl, rfl, rfl⟩

theorem ack_kept {q : Port} {ack : Nat} : ∀ x ∈ (q.acked ack).replay, x ∈ q.replay ∧ 2048 ≤ (ack + 4096 - x.seq) % 4096 := by
  intro x hx
  obtain ⟨hmem, hwin⟩ := List.mem_filter.mp hx
  exact ⟨hmem, by simpa using hwin⟩

theorem execReplayRequestReceive_replays {n : Fin 16} {f : Flit} {x : SentFlit} {rest : List SentFlit} {s : State}
    (hup : (portOf n.val s).state = 5) (hfec : f.fecOk = true) (hword : w72Syndrome (flitWord f 0) = 0)
    (hkind : fhKind (flitHeader f) = 2) (hreplay : ((portOf n.val s).acked (fhAck (flitHeader f))).replay = x :: rest) :
    ∃ t, execReplayRequestReceive n f s = .next t ∧ (portOf n.val t).lastSent = x.words ∧
      (portOf n.val t).state = (if ((portOf n.val s).acked (fhAck (flitHeader f))).replays = 7 then 7 else 5) := by
  have hq : (((portOf n.val s).acked (fhAck (flitHeader f))).credit (flitHeader f)).replay = x :: rest := hreplay
  unfold execReplayRequestReceive
  dsimp only
  rw [if_neg (by simp [hup, hfec, hword, hkind])]
  simp only [hq]
  refine ⟨_, rfl, ?_⟩
  rw [portOf_setPort_self]
  refine ⟨rfl, ?_⟩
  simp only [Port.credit, Nat.reduceEqDiff]

theorem execFlitSend_sends {n : Fin 16} {v : Fin 3} {s : State} (hup : (portOf n.val s).state = 5)
    (hcredit : 0 < ((portOf n.val s).tx v.val).credits)
    (hwork : ((portOf n.val s).tx v.val).queue ≠ [] ∨ ((portOf n.val s).tx v.val).rest ≠ [])
    (hroom : (portOf n.val s).replay.length < Config.replayFlits) : ∃ t, execFlitSend n v s = .next t ∧
      (portOf n.val t).txSeq = ((portOf n.val s).txSeq + 1) % 4096 ∧
      ((portOf n.val t).tx v.val).credits = ((portOf n.val s).tx v.val).credits - 1 ∧
      (∃ x, (portOf n.val t).replay = (portOf n.val s).replay ++ [x] ∧ x.seq = (portOf n.val s).txSeq ∧
        x.words = (portOf n.val t).lastSent) := by
  have hempty : (((portOf n.val s).tx v.val).queue.isEmpty && ((portOf n.val s).tx v.val).rest.isEmpty) = false := by
    rcases hwork with h | h <;> simp [h]
  unfold execFlitSend
  dsimp only
  rw [if_neg (by simp [hup, hempty]; omega)]
  refine ⟨_, rfl, ?_⟩
  rw [portOf_bump, portOf_setPort_self]
  exact ⟨rfl, congrArg TxChannel.credits (tx_setTx _ _ _), _, rfl, rfl, rfl⟩

theorem quiet_iff {s : State} : (List.range 16).all (fun p => (portOf p s).state == 0) = true ↔ ∀ p < 16, (portOf p s).state = 0 := by
  simp

theorem routeOf_writeRoute (d : Nat) (v : W64) (s : State) :
    routeOf d (writeRoute d v s) = (v &&& 0xFFC1FFFFFF000000#64).toNat ∧ ∀ e, e ≠ d → routeOf e (writeRoute d v s) = routeOf e s := by
  unfold routeOf writeRoute Tbl.lookD
  dsimp only
  by_cases hv : v &&& 0xFFC1FFFFFF000000#64 = 0#64
  · rw [if_pos hv, hv, Tbl.look_del_self]
    exact ⟨rfl, fun e he => by rw [Tbl.look_del_ne _ he]⟩
  · rw [if_neg hv, Tbl.look_put_self]
    exact ⟨rfl, fun e he => by rw [Tbl.look_put_ne _ _ he]⟩

end Sys2Proof.Machine
end

section
set_option Elab.async false
open Sys2Proof Sys2Proof.Machine

/-- Settles O45: the parcels that a flit delivers move on without touching what reception counts. -/
theorem flitCommandsComplete : Obligations.FlitCommandsComplete := by
  unfold Obligations.FlitCommandsComplete
  refine ⟨?data, ?bad, ?idle, ?replay, ?timer, ?send, ?id, ?idRefused, ?route⟩
  case data => exact fun n f s hup hfec hbad hkind hvc hseq => execDataFlitReceive_takes hup hfec hbad hkind hvc hseq
  case bad => exact fun n f s hup hwait hbad => execDataFlitReceive_rejects hup hwait hbad
  case idle =>
    intro n f s hup hfec hword hkind
    refine ⟨_, if_neg (by simp [hup, hfec, hword, hkind]), ?_⟩
    rw [portOf_setPort_self]
    exact ⟨ack_kept, rfl, rfl, rfl⟩
  case replay => exact fun n f x rest s hup hfec hword hkind hreplay => execReplayRequestReceive_replays hup hfec hword hkind hreplay
  case timer =>
    intro n s hup hsince
    refine ⟨_, if_neg (by simp [hup]; omega), ?_⟩
    rw [portOf_sendControl]
    exact ⟨rfl, rfl⟩
  case send => exact fun n v s hup hcredit hwork hroom => execFlitSend_sends hup hcredit hwork hroom
  case id =>
    intro v s hworks hquiet
    refine ⟨_, congrArg Host.Outcome.next ((regWrite_of_works _ hworks).trans (if_pos (quiet_iff.mpr hquiet))), ?_⟩
    simp only [bits, Nat.pow_zero, Nat.div_one]
    rfl
  case idRefused =>
    intro v p s hworks hp hstate
    exact ⟨_, congrArg Host.Outcome.next ((regWrite_of_works _ hworks).trans
      (if_neg (fun h => hstate (quiet_iff.mp h p hp)))), rfl⟩
  case route =>
    exact fun d v s hworks => ⟨_, congrArg Host.Outcome.next (regWrite_of_works _ hworks), routeOf_writeRoute _ _ _⟩

end

section
set_option Elab.async false
/-! SUPPORT. Switches, exchanges and ends (R163, R213 to R219, R226, R228): what reads and saves leave of a job, and what a job
holds once it runs. -/

namespace Sys2Proof.Machine

theorem jobOf_modJob_of {e : Nat} {j : Job} (f : Job → Job) {s : State} (h : jobOf e s = some j) :
    jobOf e (modJob e f s) = some (f j) := by
  rw [jobOf_modJob_self, h]
  rfl

/-- From `s` to `t` jobs, owner, saved tiles and power stay; memory and tiles may change. -/
structure SameJobs (s t : State) : Prop where
  jobs : t.tensor.jobs = s.tensor.jobs
  owner : t.tensor.owner = s.tensor.owner
  saves : t.tensor.saves = s.tensor.saves
  power : t.power = s.power

theorem SameJobs.trans {s t u : State} (h : SameJobs s t) (h2 : SameJobs t u) : SameJobs s u :=
  ⟨h2.jobs.trans h.jobs, h2.owner.trans h.owner, h2.saves.trans h.saves, h2.power.trans h.power⟩

theorem SameJobs.of_tensor {s t : State} (htensor : t.tensor = s.tensor) (hpower : t.power = s.power) : SameJobs s t :=
  ⟨by rw [htensor], by rw [htensor], by rw [htensor], hpower⟩

theorem SameJobs.jobOf {s t : State} (h : SameJobs s t) (e : Nat) : jobOf e t = jobOf e s := by
  rw [Machine.jobOf, Machine.jobOf, h.jobs]

theorem sameJobs_putRange (r : Nat) (bytes : List Byte) (s : State) : SameJobs s (putRange r bytes s) := by
  unfold putRange
  split <;> exact ⟨rfl, rfl, rfl, rfl⟩

theorem sameJobs_restoreRanges {rs : List Nat} {a : Nat} {s t : State} (h : restoreRanges rs a s = some t) : SameJobs s t := by
  induction rs generalizing a s with
  | nil => cases h; exact ⟨rfl, rfl, rfl, rfl⟩
  | cons r rs ih =>
    unfold restoreRanges at h
    split at h
    · cases h
    next b s1 hread =>
      obtain rfl := snd_of_eq hread
      exact (SameJobs.of_tensor (by simp) (by simp)).trans ((sameJobs_putRange _ _ _).trans (ih h))

@[simp] theorem setAddr_tensor (list k : Nat) (s : State) : (setAddr list k s).2.tensor = s.tensor := by
  induction k generalizing s with
  | zero => rfl
  | succ k ih =>
    unfold setAddr
    repeat' (split <;> obtain rfl := snd_of_eq ‹_ = (_, _)›)
    all_goals simp [ih]

@[simp] theorem readSetNo_tensor (j : Job) (k : Nat) (s : State) : (readSetNo j k s).2.tensor = s.tensor := by
  unfold readSetNo
  repeat' (split <;> obtain rfl := snd_of_eq ‹_ = (_, _)›)
  all_goals simp

theorem tensor_loadTables {e : Nat} {j : Job} {s t : State} (h : loadTables e j s = .ok t) :
    t.tensor.owner = s.tensor.owner ∧ ∃ f, t.tensor.jobs = Tbl.adjust s.tensor.jobs e f := by
  unfold loadTables at h
  split at h
  · cases h
  next pe s1 hentry =>
  split at h
  · cases h
  · cases h
  next root s2 hmap =>
  split at h
  · cases h
  · cases h
  next its s3 hitins =>
  split at h
  · cases h
  next cs s4 hcaravans =>
  dsimp only at h
  split at h
  · cases h
  · cases h
  · cases h
  next set n s6 hset =>
  have htensor : s4.tensor = s.tensor := by
    simp [snd_of_eq hcaravans, snd_of_eq hitins, snd_of_eq hmap, snd_of_eq hentry]
  have hset6 := congrArg State.tensor (snd_of_eq hset)
  rw [readSetNo_tensor] at hset6
  cases h
  refine ⟨?_, fun k => { k with root := root }, ?_⟩
  · show s6.tensor.owner = _
    rw [hset6]
    show s4.tensor.owner = _
    rw [htensor]
  · show s6.tensor.jobs = _
    rw [hset6]
    show Tbl.adjust s4.tensor.jobs e _ = _
    rw [htensor]

theorem jobOf_loadTables {e : Nat} {j : Job} {s t : State} (howner : ownerJob s = some (e, j)) (h : loadTables e j s = .ok t) :
    t.tensor.owner = some e ∧ ∃ k, jobOf e t = some k := by
  obtain ⟨ho, hj⟩ := jobOf_of_ownerJob howner
  obtain ⟨hkept, f, hjobs⟩ := tensor_loadTables h
  refine ⟨hkept.trans ho, f j, ?_⟩
  rw [Machine.jobOf, hjobs, Tbl.look_adjust_self]
  exact congrArg (Option.map f) hj

theorem onlyTiles_landAll (fs : List FlagSetOp) (s : State) : OnlyTiles s (fs.foldl (fun acc f => landFlag f acc) s) :=
  OnlyTiles.foldl (fun _ _ => onlyTiles_raiseSigs _ _ _) fs s

/-- What a job that has been switched in shows: it runs, and its held flags have landed. -/
structure Job.Entered (k : Job) : Prop where
  state : k.state = .running
  held : k.heldFlags = []

/-- The owner `e` holds a job that has been switched in, and no throttle step holds back a switch. -/
structure Entered (e : Nat) (s : State) : Prop where
  owner : s.tensor.owner = some e
  free : s.tensor.heldByStep4 = false
  job : ∃ k, jobOf e s = some k ∧ k.Entered

theorem entered_raiseFault (cause tile kind word slot : Nat) (outside : Bool) {e : Nat} {s : State} (h : Entered e s) :
    Entered e (raiseFault cause tile outside kind word slot s) := by
  obtain ⟨howner, hfree, k, hk, hrun⟩ := h
  simp only [raiseFault, ownerJob_of_jobOf howner hk]
  have hset : ∀ r, Entered e (writeSnapshot { k with stop := some r } r (setJob e { k with stop := some r } s)) := fun r =>
    ⟨by simp only [writeSnapshot_frame]; exact howner, by simp only [writeSnapshot_frame]; exact hfree,
      _, (jobOf_writeSnapshot _ _ _ _).trans (jobOf_setJob _ _ _), hrun.state, hrun.held⟩
  cases k.stop with
  | none => exact hset _
  | some o =>
    dsimp only
    split
    · exact ⟨howner, hfree, k, hk, hrun⟩
    · exact hset _

theorem tensor_windowsEnd (k : WinEnd) (s : State) : (windowsEnd k s).tensor.owner = s.tensor.owner ∧
    (windowsEnd k s).tensor.heldByStep4 = s.tensor.heldByStep4 := by
  have hsat : ∀ (banks : Tbl QBank) (u : State), (saturationEvent banks u).tensor.owner = u.tensor.owner ∧
      (saturationEvent banks u).tensor.heldByStep4 = u.tensor.heldByStep4 := fun banks u => by
    unfold saturationEvent
    extract_lets
    split
    · exact ⟨rfl, rfl⟩
    · split
      · exact ⟨rfl, rfl⟩
      · simp only [logEvent_frame]
        exact ⟨rfl, rfl⟩
  have hstep : ∀ (bs : List Nat) (u : State), (bs.foldl (fun acc b =>
      if k.ends (winMode (winOf b acc).inUse) then bankLatch b acc else acc) u).tensor = u.tensor := by
    intro bs
    induction bs with
    | nil => exact fun u => rfl
    | cons b bs ih =>
      intro u
      rw [List.foldl_cons, ih]
      split <;> rfl
  unfold windowsEnd
  dsimp only
  rw [hstep]
  split
  · exact hsat _ _
  · exact ⟨rfl, rfl⟩

theorem entered_schedule {e : Nat} {s : State} (h : Entered e s) : Entered e (schedule s) := by
  obtain ⟨howner, hfree, k, hk, hrun⟩ := h
  unfold schedule
  simp only [howner, hk]
  cases bestEligible s with
  | none => exact ⟨howner, hfree, k, hk, hrun⟩
  | some p =>
    dsimp only
    split
    · rw [if_neg (by simp [hfree])]
      exact ⟨rfl, hfree, k, hk, hrun⟩
    · exact ⟨howner, hfree, k, hk, hrun⟩

theorem entered_enterRunning {e : Nat} {j : Job} {s : State} (howner : s.tensor.owner = some e) (hj : jobOf e s = some j)
    (hstep : s.power.step ≠ 4) : Entered e (enterRunning e s) := by
  simp only [enterRunning, hj]
  generalize hs2 : State.mk _ _ _ _ _ _ _ _ _ _ _ _ _ _ _ _ _ _ _ = s2
  have h2 : Entered e s2 := by
    rw [← hs2]
    exact ⟨howner, by simpa [modJob] using hstep, _, (jobOf_modJob_self _ _ _).trans (congrArg _ hj), rfl, rfl⟩
  have h3 : Entered e (j.heldFlags.foldl (fun acc f => landFlag f acc) s2) := by
    obtain ⟨T, hT⟩ := onlyTiles_landAll j.heldFlags s2
    rw [hT]
    exact ⟨h2.owner, h2.free, h2.job⟩
  generalize j.heldFlags.foldl (fun acc f => landFlag f acc) s2 = s3 at h3
  have h4 : Entered e (if j.abortPending then raiseFault causeAbort 0 true 0 0 7 s3 else s3) := by
    split
    · exact entered_raiseFault _ _ _ _ _ _ h3
    · exact h3
  generalize (if j.abortPending then raiseFault causeAbort 0 true 0 0 7 s3 else s3) = s4 at h4
  refine entered_schedule ?_
  split
  · exact h4
  · obtain ⟨ho, hf⟩ := tensor_windowsEnd .step s4
    obtain ⟨k, hk, hrun⟩ := h4.job
    exact ⟨ho.trans h4.owner, hf.trans h4.free, k, by rw [Machine.jobOf, jobs_windowsEnd]; exact hk, hrun⟩

/-- The job that a switch brings in. -/
def Job.switched (j : Job) : Job :=
  { j with state := .restoring, sliceOver := false, leave := none, mapped := j.window.isSome }

theorem jobOf_startSwitch (n e : Nat) (s : State) :
    jobOf e (startSwitch n s) = jobOf e s ∨ jobOf e (startSwitch n s) = (jobOf e s).map Job.switched := by
  by_cases h : e = n
  · subst h
    exact .inr (jobOf_modJob_self e Job.switched s)
  · exact .inl (jobOf_modJob_ne Job.switched s h)

theorem jobOf_pickOwner (e : Nat) (s : State) :
    jobOf e (pickOwner s) = jobOf e s ∨ jobOf e (pickOwner s) = (jobOf e s).map Job.switched := by
  unfold pickOwner
  split
  · exact .inl rfl
  · extract_lets
    split
    · exact jobOf_startSwitch _ _ _
    · exact .inl rfl

theorem saves_pickOwner (s : State) : (pickOwner s).tensor.saves = s.tensor.saves := by
  unfold pickOwner
  split
  · rfl
  · extract_lets
    split <;> rfl

theorem jobOf_schedule_waiting {e : Nat} {j : Job} {s : State} (hj : jobOf e s = some j) (hstate : j.state ≠ .running) :
    jobOf e (schedule s) = some j ∨ jobOf e (schedule s) = some j.switched := by
  have hpick : jobOf e (pickOwner s) = some j ∨ jobOf e (pickOwner s) = some j.switched :=
    (jobOf_pickOwner e s).imp (·.trans hj) (·.trans (congrArg (Option.map Job.switched) hj))
  unfold schedule
  cases howner : s.tensor.owner with
  | none => exact hpick
  | some o =>
    dsimp only
    cases hjo : jobOf o s with
    | none => exact .inl hj
    | some i =>
      cases bestEligible s with
      | none => exact .inl hj
      | some p =>
        dsimp only
        split
        next hrun =>
          split
          · have hne : e ≠ o := by
              rintro rfl
              obtain rfl : j = i := Option.some.inj (hj.symm.trans hjo)
              exact hstate (by simp_all)
            refine .inl ((jobOf_modJob_ne _ _ hne).trans ?_)
            rw [Machine.jobOf, jobs_windowsEnd]
            exact hj
          · exact .inl hj
        next => exact .inl hj

theorem afterSave_cases (j : Job) (remote : Bool) : afterSave j remote ≠ .saving := by
  unfold afterSave
  repeat' split
  all_goals nofun

theorem look_saves_saveJob (e : Nat) (j : Job) (ranges : List Nat) (s : State) :
    Tbl.lookD (saveJob e j ranges s).tensor.saves (jSaveArea j.desc) [] =
      (List.range Config.tiles).map (fun t => (t, saveTile (tileOf t s))) := by
  have hput : (saveJob e j ranges s).tensor.saves =
      Tbl.put s.tensor.saves (jSaveArea j.desc) ((List.range Config.tiles).map (fun t => (t, saveTile (tileOf t s)))) := by
    unfold saveJob mergeIeee modJob
    simp
  rw [hput, Tbl.lookD_put_self]

theorem jobOf_saveJob {e : Nat} {j : Job} (i : Job) (ranges : List Nat) {s : State} (hj : jobOf e s = some j) :
    ∃ k, jobOf e (saveJob e i ranges s) = some k ∧ k.hasWp = j.hasWp := by
  unfold saveJob mergeIeee
  dsimp only
  refine ⟨_, jobOf_modJob_of _ (jobOf_modJob_of (j := j) _ ?_), rfl⟩
  unfold Machine.jobOf
  simp only [putStacked_frame, writeTileBlocks_frame]
  exact hj

/-- The state in which job `e` has left its run: its tiles and held flags are in `saves`. -/
def savedState (e : Nat) (j : Job) (remote : Bool) (saves : Tbl TileSave) (s : State) : State :=
  let taken := j.yieldDecided && j.workPending && !j.suspendPending
  modJob e (fun k => { k with mapped := remote, workPending := if taken then false else k.workPending, leave := none })
    (modJob e (fun k => { k with heldFlags := [], flagsSaved := satAdd 32 k.flagsSaved k.heldFlags.length }) (setSaves j saves s))

/-- The state in which job `e` waits in state `st`, and no job owns the tensor complex. -/
def leftState (e : Nat) (j : Job) (st : JobState) (s : State) : State :=
  let s7 := writeStatus ((jobOf e s).getD j) 0 (stateCode st) 0 (writeHeader ((jobOf e s).getD j) true false s)
  let s8 := modJob e (fun k => { k with suspendPending := false, suspendTrs := [] }) s7
  let s9 := completeAll (if j.suspendPending then j.suspendTrs else []) 0 s8
  let s10 := if st == .waiting || st == .parked then becomeEligible e st s9 else modJob e (fun k => { k with state := st }) s9
  handOver none { s10 with tensor := { s10.tensor with
    owner := none, switch := .none, tiles := [], landings := [], caravans := [], region := RegionTable.empty } }

theorem execJobSaveComplete_leaves {e d : Nat} {j : Job} {ranges : List Nat} {saves : Tbl TileSave × Bool} {s s1 s2 : State}
    (howner : ownerJob s = some (e, j)) (hstate : j.state = .saving) (hd : lrDescriptor j j.lr s = (some d, s1))
    (hr : lrRanges d s1 = (some ranges, s2)) (habort : j.abortPending = false) (hdrain : j.drainPending = false)
    (hsaves : addSavedAll j.heldFlags (Tbl.lookD (saveJob e j ranges s2).tensor.saves (jSaveArea j.desc) []) = saves)
    (hfits : saves.2 = false) : execJobSaveComplete s =
      .next (pickOwner (leftState e j (afterSave j (lrRemote d && j.leave != some .d3hot))
        (savedState e j (lrRemote d && j.leave != some .d3hot) saves.1 (saveJob e j ranges s2)))) := by
  subst hsaves
  unfold execJobSaveComplete
  split
  next h => cases howner.symm.trans h
  next e' j' h =>
  obtain ⟨rfl, rfl⟩ : e = e' ∧ j = j' := by simpa using howner.symm.trans h
  rw [if_neg (by simp [hstate])]
  split
  next h => cases hd.symm.trans h
  next d' s1' h =>
  obtain ⟨rfl, rfl⟩ : d = d' ∧ s1 = s1' := by simpa using hd.symm.trans h
  split
  next h => cases hr.symm.trans h
  next ranges' s2' h =>
  obtain ⟨rfl, rfl⟩ : ranges = ranges' ∧ s2 = s2' := by simpa using hr.symm.trans h
  exact (if_neg (by simp [habort])).trans ((if_neg (by simp [hfits])).trans ((if_neg (by simp [hdrain])).trans rfl))

theorem jobOf_completeAll (e : Nat) (trs : List Nat) (status : Nat) (s : State) : jobOf e (completeAll trs status s) = jobOf e s :=
  jobOf_congr (by simp) e

theorem jobOf_savedState {e : Nat} {j k : Job} (remote : Bool) (saves : Tbl TileSave) {s : State} (hk : jobOf e s = some k) :
    ∃ i, jobOf e (savedState e j remote saves s) = some i ∧ i.heldFlags = [] ∧ i.hasWp = k.hasWp :=
  ⟨_, jobOf_modJob_of _ (jobOf_modJob_of _ (show jobOf e (setSaves j saves s) = some k from hk)), rfl, rfl⟩

theorem jobOf_leftState {e : Nat} {j k : Job} {st : JobState} {s : State} (hk : jobOf e s = some k) :
    ∃ i, jobOf e (leftState e j st s) = some i ∧ i.heldFlags = k.heldFlags ∧ i.hasWp = k.hasWp ∧ i.state = st := by
  unfold leftState
  extract_lets s7 s8 s9 s10
  have hk7 : jobOf e s7 = some k := (jobOf_congr (by simp [s7]) e).trans hk
  have hk9 : jobOf e s9 = some { k with suspendPending := false, suspendTrs := [] } :=
    (jobOf_completeAll _ _ _ _).trans (jobOf_modJob_of _ hk7)
  clear_value s9
  have hk10 : ∃ i, jobOf e s10 = some i ∧ i.heldFlags = k.heldFlags ∧ i.hasWp = k.hasWp ∧ i.state = st := by
    unfold s10
    split
    · exact ⟨_, (jobOf_becomeEligible_self _ _ _).trans (congrArg (Option.map _) hk9), rfl, rfl, rfl⟩
    · exact ⟨_, jobOf_modJob_of _ hk9, rfl, rfl, rfl⟩
  exact hk10

theorem saves_leftState (e : Nat) (j : Job) (st : JobState) (s : State) : (leftState e j st s).tensor.saves = s.tensor.saves := by
  unfold leftState
  extract_lets s7 s8 s9 s10
  have h9 : s9.tensor.saves = s.tensor.saves := by simp [s9, s8, s7, modJob]
  clear_value s9
  have h10 : s10.tensor.saves = s9.tensor.saves := by
    unfold s10
    split
    · unfold becomeEligible
      simp [modJob, nextOrder]
    · rfl
  exact h10.trans h9

/-- The job after its save: its held flags are in the saved tiles, and it is no longer in state `saving`. -/
theorem execJobSaveComplete_saves {e d : Nat} {j : Job} {ranges : List Nat} {saves : Tbl TileSave × Bool} {s s1 s2 : State}
    (howner : ownerJob s = some (e, j)) (hstate : j.state = .saving) (hd : lrDescriptor j j.lr s = (some d, s1))
    (hr : lrRanges d s1 = (some ranges, s2)) (habort : j.abortPending = false) (hdrain : j.drainPending = false)
    (hsaves : saves = addSavedAll j.heldFlags ((List.range Config.tiles).map (fun t => (t, saveTile (tileOf t s)))))
    (hfits : saves.2 = false) : ∃ t k, execJobSaveComplete s = .next t ∧ jobOf e t = some k ∧ k.state ≠ .saving ∧
      k.heldFlags = [] ∧ k.hasWp = j.hasWp ∧ Tbl.look t.tensor.saves (jSaveArea j.desc) = some saves.1 := by
  have htensor : s2.tensor = s.tensor := by simp [snd_of_eq hr, snd_of_eq hd]
  obtain ⟨k3, hk3, hwp3⟩ := jobOf_saveJob j ranges ((jobOf_congr htensor e).trans (jobOf_of_ownerJob howner).2)
  have hp : addSavedAll j.heldFlags (Tbl.lookD (saveJob e j ranges s2).tensor.saves (jSaveArea j.desc) []) = saves := by
    rw [look_saves_saveJob, hsaves]
    simp only [tileOf, htensor]
  rw [execJobSaveComplete_leaves howner hstate hd hr habort hdrain hp hfits]
  have hst := afterSave_cases j (lrRemote d && j.leave != some .d3hot)
  generalize (lrRemote d && j.leave != some .d3hot) = remote at hst
  generalize afterSave j remote = st at hst
  generalize saveJob e j ranges s2 = s3 at hk3
  obtain ⟨k5, hk5, hheld5, hwp5⟩ := jobOf_savedState (j := j) remote saves.1 hk3
  obtain ⟨k, hk, hheld, hwp, hstate⟩ := jobOf_leftState (j := j) (st := st) hk5
  have hsaved : Tbl.look (pickOwner (leftState e j st (savedState e j remote saves.1 s3))).tensor.saves (jSaveArea j.desc) =
      some saves.1 := by
    rw [saves_pickOwner, saves_leftState]
    exact Tbl.look_put_self _ _ _
  rcases jobOf_pickOwner e (leftState e j st (savedState e j remote saves.1 s3)) with h | h
  · exact ⟨_, k, rfl, h.trans hk, hstate ▸ hst, hheld.trans hheld5, hwp.trans (hwp5.trans hwp3), hsaved⟩
  · exact ⟨_, k.switched, rfl, h.trans (congrArg (Option.map _) hk), nofun, hheld.trans hheld5, hwp.trans (hwp5.trans hwp3), hsaved⟩

theorem execSwitchTableLoadComplete_of {e : Nat} {j : Job} {s s1 : State} (howner : ownerJob s = some (e, j))
    (hswitch : s.tensor.switch = .loading) (hload : loadTables e j s = .ok s1) : execSwitchTableLoadComplete s =
      if !j.hasWp && sweepClear s1 then .next (enterRunning e { s1 with tensor := { s1.tensor with switch := .restoring } })
      else .next { s1 with tensor := { s1.tensor with switch := .restoring } } := by
  unfold execSwitchTableLoadComplete
  rw [howner]
  refine (if_neg (by simp [hswitch])).trans ?_
  rw [hload]
  rfl

theorem execJobRestoreComplete_enters {e d : Nat} {j : Job} {ranges : List Nat} {s s1 s2 s3 : State}
    (howner : ownerJob s = some (e, j)) (hswitch : s.tensor.switch = .restoring) (hsweep : sweepClear s = true)
    (hwp : j.hasWp = true) (hd : lrDescriptor j j.lr s = (some d, s1)) (hr : lrRanges d s1 = (some ranges, s2))
    (hput : restoreRanges ranges (jSaveArea j.desc + 0x11000) s2 = some s3) :
    execJobRestoreComplete s = .next (enterRunning e s3) := by
  simp only [execJobRestoreComplete, howner, hd, hr, hput]
  exact (if_neg (by simp [hswitch, hsweep])).trans (if_neg (by simp [hwp]))

theorem exchanging_cases {tag : W32} {st : XStage} {e : Nat} {j : Job} {x : Exchange} {s : State}
    (h : exchanging tag st s = some (e, j, x)) : j.exchange = some x ∧ j.state = .exchanging := by
  unfold exchanging at h
  split at h
  · split at h
    next hx =>
      split at h
      next hc =>
        cases h
        exact ⟨hx, by simpa using (Bool.and_eq_true_iff.mp hc).1⟩
      next => cases h
    · cases h
  · cases h

theorem jobOf_setStage {e : Nat} {j : Job} {x : Exchange} (st : XStage) {s : State} (hj : jobOf e s = some j)
    (hx : j.exchange = some x) : jobOf e (setStage e st s) = some { j with exchange := some { x with stage := st } } :=
  (jobOf_modJob_of _ hj).trans (by rw [hx]; rfl)

theorem issueBarrier_issues {e : Nat} {j : Job} {s : State} (hj : jobOf e s = some j) (htree : treeOk j.root s = true)
    (hheld : heldOf (reduceKey (jFabricCtx j.desc) 4095) s = []) : ∃ r, r.barrier = true ∧ r.owner = e ∧
      reduceKey r.ctx r.rid = reduceKey (jFabricCtx j.desc) 4095 ∧ issueBarrier e s = addReduction r s := by
  refine ⟨{ ctx := jFabricCtx j.desc, rid := 4095, root := j.root, fmt := 1, data := List.replicate 8 0#8, dest := none, owner := e,
            barrier := true, combined := [], written := [] }, rfl, rfl, rfl, ?_⟩
  simp only [issueBarrier, hj]
  rw [if_neg (by simp [htree])]
  refine if_neg ?_
  have hsame : ∀ r, heldOf (reduceKey (jFabricCtx j.desc) 4095) (addReduction r s) = [] := fun _ => hheld
  unfold heldBad
  rw [hsame]
  exact Bool.false_ne_true

theorem execExchangeLanded_goesOn {tag : W32} {e : Nat} {j : Job} {x : Exchange} {s : State}
    (hex : exchanging tag .sending s = some (e, j, x)) (hj : jobOf e s = some j) (hout : x.outstanding = 0)
    (hbytes : x.inBytes ≤ x.landed) (htree : treeOk j.root s = true)
    (hheld : heldOf (reduceKey (jFabricCtx j.desc) 4095) s = []) :
    ∃ t k y r, execExchangeLanded tag s = .next t ∧ jobOf e t = some k ∧ k.exchange = some y ∧ y.stage = .barrier2 ∧
      Tbl.look t.fabric.reductions (reduceKey (jFabricCtx j.desc) 4095) = some r ∧ r.barrier = true ∧ r.owner = e := by
  have hset := jobOf_setStage .barrier2 hj (exchanging_cases hex).1
  obtain ⟨r, hbarrier, hr, hkey, hissue⟩ := issueBarrier_issues hset htree hheld
  simp only [execExchangeLanded, hex]
  rw [if_pos (by simp [hout, hbytes]), hissue]
  exact ⟨_, _, _, r, rfl, hset, rfl, rfl, by rw [← hkey]; exact Tbl.look_put_self _ _ _, hbarrier, hr⟩

/-- What the entry of a phase leaves: the job is in phase `ph`, and its exchange is over. -/
theorem jobOf_readyInPhase {e ph : Nat} {j : Job} (kept : List Region) {s : State} (hj : jobOf e s = some j)
    (hdrain : j.drainPending = false) : ∃ k, jobOf e (readyInPhase e ph kept s) = some k ∧ k.phase = ph ∧ k.exchange = none ∧
      (k.state = .suspended ∨ k.state = .ready) ∧ (readyInPhase e ph kept s).fabric = s.fabric := by
  unfold readyInPhase
  extract_lets s1
  have h1 : ∃ k, jobOf e s1 = some k ∧ k.phase = ph ∧ k.exchange = none ∧ k.drainPending = false :=
    ⟨_, jobOf_modJob_of _ hj, rfl, rfl, hdrain⟩
  have hfabric : s1.fabric = s.fabric := rfl
  clear_value s1
  obtain ⟨k, hk, hph, hx, hd⟩ := h1
  simp only [hk]
  rw [if_neg (by simp [hd])]
  have hk2 : jobOf e (writeStatus k 0 0 0 s1) = some k := (jobOf_congr (by simp) e).trans hk
  have hfabric2 : (writeStatus k 0 0 0 s1).fabric = s.fabric := by simpa using hfabric
  generalize writeStatus k 0 0 0 s1 = s2 at hk2 hfabric2
  split
  · exact ⟨_, (jobOf_completeAll _ _ _ _).trans (jobOf_modJob_of _ hk2), hph, hx, .inl rfl, by simpa [modJob] using hfabric2⟩
  · exact ⟨_, (jobOf_becomeEligible_self _ _ _).trans (congrArg (Option.map _) hk2), hph, hx, .inr rfl, by simpa using hfabric2⟩

theorem execExchangeComplete_completes {tag : W32} {e : Nat} {j : Job} {x : Exchange} {s : State}
    (hex : exchanging tag .barrier2 s = some (e, j, x)) (hj : jobOf e s = some j) (hdone : barrierDone j s = true)
    (hdrain : j.drainPending = false) : ∃ t k, execExchangeComplete tag s = .next t ∧ jobOf e t = some k ∧ k.phase = x.next ∧
      k.exchange = none ∧ k.state ≠ .exchanging ∧
      Tbl.look t.fabric.reductions (reduceKey (jFabricCtx j.desc) 4095) = none := by
  obtain ⟨k, hk, hph, hx, hstate, hfabric⟩ := jobOf_readyInPhase (e := e) (ph := x.next) x.kept
    (show jobOf e (dropBarrier j s) = some j from hj) hdrain
  simp only [execExchangeComplete, hex]
  rw [if_pos hdone]
  generalize readyInPhase e x.next x.kept (dropBarrier j s) = u at hk hfabric
  have hgone : Tbl.look (schedule u).fabric.reductions (reduceKey (jFabricCtx j.desc) 4095) = none := by
    simp only [schedule_frame]
    rw [hfabric]
    exact Tbl.look_del_self _ _
  have hne : k.state ≠ .running ∧ k.state ≠ .exchanging := by rcases hstate with h | h <;> rw [h] <;> exact ⟨nofun, nofun⟩
  rcases jobOf_schedule_waiting hk hne.1 with h | h
  · exact ⟨_, k, rfl, h, hph, hx, hne.2, hgone⟩
  · exact ⟨_, k.switched, rfl, h, hph, hx, nofun, hgone⟩

theorem jobOf_failJob_exchanging {e cause tile : Nat} {j : Job} {s : State} (hj : jobOf e s = some j)
    (hstate : j.state = .exchanging) : jobOf e (failJob e cause tile s) = none := by
  simp only [failJob, hj]
  rw [if_neg (by simp [hstate])]
  exact jobOf_endJob _ _ _ _

end Sys2Proof.Machine
end

section
set_option Elab.async false
open Sys2Proof Sys2Proof.Machine

/-- Settles O39: saves, switches and exchanges each end in one of the states that the owner's record names. -/
theorem switchCommandsComplete : Obligations.SwitchCommandsComplete := by
  unfold Obligations.SwitchCommandsComplete
  refine ⟨?save, ?clear, ?load, ?loadRun, ?restore, ?restoreWp, ?barrier1, ?landed, ?complete, ?timeout, ?jobEnd⟩
  case save =>
    exact fun e j d ranges saves s s1 s2 howner hstate hd hr habort hdrain hsaves hfits =>
      execJobSaveComplete_saves howner hstate hd hr habort hdrain hsaves hfits
  case clear => exact fun s hswitch hactive hnext => ⟨_, if_pos (by simp [hswitch, hactive, hnext]), rfl, rfl, rfl⟩
  case load =>
    intro e j s s1 howner hswitch hload hwait
    refine ⟨_, (execSwitchTableLoadComplete_of howner hswitch hload).trans (if_neg ?_), rfl, rfl, rfl⟩
    rcases hwait with h | h <;> simp [h]
  case loadRun =>
    intro e j s s1 howner hswitch hload hwp hsweep hstep
    obtain ⟨ho, k, hk⟩ := jobOf_loadTables howner hload
    have hentered := entered_enterRunning (s := { s1 with tensor := { s1.tensor with switch := .restoring } }) ho hk
      (by rw [← loadTables_power hload] at hstep; exact hstep)
    obtain ⟨i, hi, hrun⟩ := hentered.job
    exact ⟨_, i, (execSwitchTableLoadComplete_of howner hswitch hload).trans (if_pos (by simp [hwp, hsweep])), hi, hrun.state⟩
  case restore =>
    intro e j s howner hswitch hsweep hwp hstep
    obtain ⟨ho, hj⟩ := jobOf_of_ownerJob howner
    obtain ⟨k, hk, hrun⟩ := (entered_enterRunning ho hj hstep).job
    simp only [exec, execJobRestoreComplete, howner]
    exact ⟨_, k, (if_neg (by simp [hswitch, hsweep])).trans (if_pos (by simp [hwp])), hk, hrun.state⟩
  case restoreWp =>
    intro e j d ranges s s1 s2 s3 howner hswitch hsweep hwp hd hr hput hstep
    obtain ⟨ho, hj⟩ := jobOf_of_ownerJob howner
    have hsame : SameJobs s s3 := (SameJobs.of_tensor (by simp [snd_of_eq hr, snd_of_eq hd])
      (by simp [snd_of_eq hr, snd_of_eq hd])).trans (sameJobs_restoreRanges hput)
    obtain ⟨k, hk, hrun⟩ := (entered_enterRunning (hsame.owner.trans ho) ((hsame.jobOf e).trans hj)
      (by rw [hsame.power]; exact hstep)).job
    exact ⟨_, k, execJobRestoreComplete_enters howner hswitch hsweep hwp hd hr hput, hk, hrun.state, hrun.held⟩
  case barrier1 =>
    intro tag e j x pe rs n outs s s2 s3 s4 hex hdone hpe hread hsend
    simp only [exec, execExchangeFirstBarrierDone, hex, hpe, hread, hsend]
    exact if_neg (by simp [hdone])
  case landed => exact fun tag e j x s hex hj hout hbytes htree hheld => execExchangeLanded_goesOn hex hj hout hbytes htree hheld
  case complete => exact fun tag e j x s hex hj hdone hdrain => execExchangeComplete_completes hex hj hdone hdrain
  case timeout =>
    intro tag e j s hfind hj hstate
    simp only [exec, execExchangeTimeout, hfind]
    exact ⟨_, if_pos (by simp [hstate]), jobOf_failJob_exchanging hj hstate⟩
  case jobEnd =>
    intro tag e j r s howner hstop htag hquiet
    simp only [exec, execJobEnd, howner, hstop]
    refine ⟨_, if_neg ?_, jobOf_endJob _ _ _ _⟩
    simpa [htag] using hquiet

end

section
set_option Elab.async false
/-! SUPPORT. Cellar Porters (R181 to R185, R355, R452): a request that has ended does not come back, whatever its end starts. -/

namespace Sys2Proof.Machine

/-- Request `n` has been and is no more: its number is not given again. -/
structure CellarGone (n : Nat) (s : State) : Prop where
  gone : Tbl.look s.mem.cellar n = none
  past : n < s.mem.cellarNext

theorem CellarGone.of_mem {n : Nat} {s t : State} (h : CellarGone n s) (hmem : t.mem = s.mem) : CellarGone n t :=
  ⟨by rw [hmem]; exact h.gone, by rw [hmem]; exact h.past⟩

theorem CellarGone.foldl {α : Type} {n : Nat} {f : State → α → State} (hf : ∀ s a, CellarGone n s → CellarGone n (f s a))
    (as : List α) {s : State} (h : CellarGone n s) : CellarGone n (as.foldl f s) := by
  induction as generalizing s with
  | nil => exact h
  | cons a as ih => exact ih (hf s a h)

theorem cellarGone_cellarDel {n : Nat} {s : State} (h : n < s.mem.cellarNext) : CellarGone n (cellarDel n s) :=
  ⟨Tbl.look_del_self _ _, h⟩

theorem Tbl.look_filter_eq_none {α : Type} {t : Tbl α} {k : Nat} (f : Nat × α → Bool) (h : Tbl.look t k = none) :
    Tbl.look (t.filter f) k = none := by
  refine Tbl.look_eq_none_of_forall_ne fun p hp hk => ?_
  obtain ⟨v, hv⟩ := Tbl.look_of_mem (List.mem_filter.mp hp).1
  rw [hk, h] at hv
  cases hv

theorem CellarGone.dropReads {n : Nat} {s : State} (h : CellarGone n s) (q : Nat) : CellarGone n (dropReads q s) :=
  ⟨Tbl.look_filter_eq_none _ h.gone, h.past⟩

theorem CellarGone.endQuery {n : Nat} {s : State} (h : CellarGone n s) (q status : Nat) (hits : List Hit) :
    CellarGone n (endQuery q status hits s) := by
  unfold Machine.endQuery
  split
  · exact h
  · extract_lets
    split
    · refine (CellarGone.dropReads (s := s) h q).of_mem ?_
      simp only [sendResult_frame]
      rfl
    · refine (CellarGone.dropReads (s := s) h q).of_mem ?_
      simp only [complete_frame, hostWrite_frame, bump_frame]
      rfl

theorem CellarGone.finishQuery {n : Nat} {s : State} (h : CellarGone n s) (q : Nat) : CellarGone n (finishQuery q s) := by
  unfold Machine.finishQuery
  split
  · exact h
  · split
    · exact h
    · exact h.endQuery _ _ _

theorem CellarGone.takeList {n : Nat} {s : State} (h : CellarGone n s) (q : Nat) (l : ShardList) : CellarGone n (takeList q l s) := by
  unfold Machine.takeList
  split
  · exact h
  · split
    · exact h
    · exact (h.of_mem (by simp)).finishQuery _

theorem CellarGone.ownList {n : Nat} {s : State} (h : CellarGone n s) (q status : Nat) (hits : List Hit) (late failed : Nat) :
    CellarGone n (ownList q status hits late failed s) := by
  unfold Machine.ownList
  split
  · exact h
  · extract_lets s1 l
    have h1 : CellarGone n s1 := (h.of_mem (by simp)).dropReads q
    split
    · exact (h1.of_mem (by simp)).takeList _ _
    · exact (h1.of_mem (by simp)).endQuery _ _ _

theorem CellarGone.maybeRank {n : Nat} {s : State} (h : CellarGone n s) (q : Nat) : CellarGone n (maybeRank q s) := by
  unfold Machine.maybeRank Machine.rankQuery
  split
  · exact h
  · split
    · exact h
    · split
      · exact h
      · split
        · exact h
        · exact h.ownList _ _ _ _ _

theorem CellarGone.readReturned {n : Nat} {s : State} (h : CellarGone n s) (q node : Nat) (st : RankState) :
    CellarGone n (readReturned q node st s) := by
  unfold Machine.readReturned
  split
  · exact h
  · split
    · exact h
    · exact (h.of_mem (by simp)).maybeRank _

theorem CellarGone.cellarAdd {n cls idx : Nat} {place : LedgerEntry} {f : CellarFor} {s t : State} (h : CellarGone n s)
    (hadd : cellarAdd cls idx place f s = some t) : CellarGone n t := by
  unfold Machine.cellarAdd at hadd
  dsimp only at hadd
  split at hadd
  · cases hadd
  · cases hadd
    exact ⟨(Tbl.look_put_ne _ _ (by have := h.past; omega)).trans h.gone, Nat.lt_succ_of_lt h.past⟩

theorem CellarGone.requestVector {n : Nat} {s : State} (h : CellarGone n s) (x : RalIndex) (q : Nat) (vec : List Nat) (late : Bool)
    (c : RankEntry) : CellarGone n (requestVector x q vec late c s).2 := by
  unfold Machine.requestVector
  split
  · exact h
  · dsimp only
    split
    · split
      next hread => exact h.of_mem (by rw [snd_of_eq hread]; simp)
      next hread => exact h.of_mem (by rw [snd_of_eq hread]; simp)
    · split
      · exact h
      · split
        next hadd => exact h.cellarAdd hadd
        next => exact h

theorem CellarGone.requestAll {n : Nat} (x : RalIndex) (q : Nat) (vec : List Nat) (late : Bool) (cs : List RankEntry) {s : State}
    (h : CellarGone n s) : CellarGone n (requestAll x q vec late cs s).2 := by
  induction cs generalizing s with
  | nil => exact h
  | cons c cs ih =>
    unfold Machine.requestAll
    dsimp only
    refine ih ?_
    split
    · exact h.requestVector _ _ _ _ _
    · exact h

theorem CellarGone.topUpReads {n : Nat} {s : State} (h : CellarGone n s) : CellarGone n (topUpReads s) := by
  unfold Machine.topUpReads
  split
  · exact h
  · refine h.foldl (fun u p hu => ?_) _
    dsimp only
    split
    · refine CellarGone.of_mem ?_ (setRalid_mem _ _)
      exact hu.requestAll _ _ _ _ _
    · exact hu

theorem mem_deliverUnit (o : StoreOp) (base u lost : Nat) (bus : Bool) (s : State) : (deliverUnit o base u lost bus s).2.mem = s.mem := by
  unfold deliverUnit
  refine foldl_snd_mem _ (fun acc b => ?_) _ _
  dsimp only
  (repeat' split) <;> simp

theorem CellarGone.deliverRead {n : Nat} {r : CellarReq} {tr lost : Nat} {bus : Bool} {s : State} (h : n < s.mem.cellarNext)
    (hfor : r.for_ = .command tr) : CellarGone n (deliverRead n r lost bus s) := by
  have hgone := cellarGone_cellarDel h
  unfold Machine.deliverRead
  simp only [hfor]
  split
  · exact hgone
  · split
    · exact hgone
    · refine hgone.of_mem ?_
      simp only [finishOp_frame, setOp_frame, mem_deliverUnit]

theorem execCellarUnitIssue_issues {p : Fin 32} {c n : Nat} {r : CellarReq} {s : State} (hclass : nextClass p.val s = some c)
    (hfirst : firstWaiting p.val c s = some (n, r)) : ∃ t x, execCellarUnitIssue p s = .next t ∧
      Tbl.look t.mem.cellar n = some x ∧ x.issued = true ∧ t.mem.stacked = s.mem.stacked := by
  obtain ⟨v, hv⟩ := Tbl.look_of_mem (List.mem_of_find?_eq_some hfirst)
  simp only [execCellarUnitIssue, hclass, hfirst]
  exact ⟨_, _, rfl, (Tbl.look_adjust_self _ _ _).trans (congrArg (Option.map _) hv), rfl, rfl⟩

theorem look_cellarMod_self {n : Nat} {r : CellarReq} (f : CellarReq → CellarReq) {s : State} (h : Tbl.look s.mem.cellar n = some r) :
    Tbl.look (cellarMod n f s).mem.cellar n = some (f r) :=
  (Tbl.look_adjust_self _ _ _).trans (congrArg (Option.map f) h)

/-- A page read of a job's slot ends: its request takes the result, or is issued again after a first error of the bus. -/
theorem execNandReadComplete_slot {n tile entry addr sb off : Nat} {r : CellarReq} {inb fua : Bool} {o : PageOutcome} {s : State}
    (hr : Tbl.look s.mem.cellar n = some r) (hplace : r.place = .flash sb off) (hissued : r.issued = true)
    (hnone : r.result = none) (hfor : r.for_ = .slot tile inb entry addr fua) : execNandReadComplete n o s =
      if o.busError then
        if r.again then .next (cellarMod n (fun q => { q with result := some .busError }) s)
        else .next (cellarMod n (fun q => { q with issued := false, again := true }) s)
      else .next (cellarMod n (fun q => { q with result := some (.read (lostMask o.steps)) }) (noteRead sb off o.steps s)) := by
  simp only [execNandReadComplete, hr, hplace, hfor]
  rw [if_neg (by simp [hissued, hnone])]
  cases r.again <;> simp

theorem execNandReadComplete_command {n tr sb off : Nat} {r : CellarReq} {o : PageOutcome} {s : State} (hpast : n < s.mem.cellarNext)
    (hr : Tbl.look s.mem.cellar n = some r) (hplace : r.place = .flash sb off) (hissued : r.issued = true)
    (hnone : r.result = none) (hfor : r.for_ = .command tr) :
    ∃ t, execNandReadComplete n o s = .next t ∧ Tbl.look t.mem.cellar n = none := by
  have hgone : ∀ (lost : Nat) (bus : Bool) (u : State), u.mem = s.mem →
      Tbl.look (topUpReads (deliverRead n r lost bus u)).mem.cellar n = none := fun lost bus u hu =>
    (CellarGone.deliverRead (by rw [hu]; exact hpast) hfor).topUpReads.gone
  simp only [execNandReadComplete, hr, hplace, hfor]
  rw [if_neg (by simp [hissued, hnone])]
  cases o.busError with
  | true => exact ⟨_, rfl, hgone _ _ _ rfl⟩
  | false => exact ⟨_, rfl, hgone _ _ _ (by simp)⟩

theorem execCellarUnitComplete_loads {n tile entry addr lost : Nat} {r : CellarReq} {fua : Bool} {bytes : List Byte} {s s1 : State}
    (hr : Tbl.look s.mem.cellar n = some r) (hfor : r.for_ = .slot tile true entry addr fua) (hres : r.result = some (.read lost))
    (hclear : (hostClear true [(addr, 16384)] s).1 = true) (hread : readUnit r.index lost s = (some bytes, s1))
    (haddr : addr % 8 = 0) (hlen : bytes.length % 8 = 0) : ∃ t, execCellarUnitComplete n s = .next t ∧
      Mem.read zeroByte t.mem.stacked addr bytes.length = bytes ∧ Tbl.look t.mem.cellar n = none := by
  have hunit : completeSlotUnit n r tile true entry addr fua s = unitDone n tile true entry (putStacked addr bytes s1) := by
    simp only [completeSlotUnit, hres, hread]
    exact (if_neg (by simp [hclear])).trans (if_pos trivial)
  simp only [execCellarUnitComplete, hr, hfor]
  refine ⟨_, rfl, ?_⟩
  rw [hunit]
  unfold unitDone
  simp only [modEntry_frame]
  refine ⟨?_, Tbl.look_del_self _ _⟩
  show Mem.read zeroByte (putStacked addr bytes s1).mem.stacked addr bytes.length = bytes
  rw [(putStacked_aligned haddr hlen).1, Mem.read_write]

theorem execCellarRequestDeadline_drops {n q node : Nat} {r : CellarReq} {s : State} (hpast : n < s.mem.cellarNext)
    (hr : Tbl.look s.mem.cellar n = some r) (hfor : r.for_ = .rerank q node) (hissued : r.issued = false) :
    ∃ t, execCellarRequestDeadline n s = .next t ∧ Tbl.look t.mem.cellar n = none := by
  simp only [execCellarRequestDeadline, hr, hfor]
  rw [if_neg (by simp [hissued])]
  exact ⟨_, rfl, (((cellarGone_cellarDel hpast).of_mem (by simp)).readReturned _ _ _).topUpReads.gone⟩

end Sys2Proof.Machine
end

section
set_option Elab.async false
open Sys2Proof Sys2Proof.Machine

/-- Settles O43: a request that ends is deleted, and what its end starts takes new numbers (`CellarGone`). -/
theorem cellarCommandsComplete : Obligations.CellarCommandsComplete := by
  unfold Obligations.CellarCommandsComplete
  refine ⟨?issue, ?read, ?bus, ?command, ?unit, ?late, ?drop⟩
  case issue => exact fun p c n r s hclass hfirst => execCellarUnitIssue_issues hclass hfirst
  case read =>
    intro n r tile inb entry addr fua sb off o s hr hplace hissued hnone hfor hbus
    exact ⟨_, (execNandReadComplete_slot hr hplace hissued hnone hfor).trans (if_neg (by simp [hbus])),
      look_cellarMod_self _ (by simpa using hr)⟩
  case bus =>
    intro n r tile inb entry addr fua sb off o s hr hplace hissued hnone hfor hbus
    refine ⟨_, (execNandReadComplete_slot hr hplace hissued hnone hfor).trans ((if_pos hbus).trans (apply_ite _ _ _ _).symm), ?_⟩
    split
    · exact look_cellarMod_self _ hr
    · exact look_cellarMod_self _ hr
  case command =>
    exact fun n r tr sb off o s hpast hr hplace hissued hnone hfor => execNandReadComplete_command hpast hr hplace hissued hnone hfor
  case unit =>
    exact fun n r tile entry addr fua lost bytes s s1 hr hfor hres hclear hread haddr hlen =>
      execCellarUnitComplete_loads hr hfor hres hclear hread haddr hlen
  case late =>
    intro n r q node s hr hfor hissued
    refine ⟨_, ?_, look_cellarMod_self (fun x => { x with late := true }) hr⟩
    simp only [exec, execCellarRequestDeadline, hr, hfor]
    exact if_pos hissued
  case drop => exact fun n r q node s hpast hr hfor hissued => execCellarRequestDeadline_drops hpast hr hfor hissued

end

section
set_option Elab.async false
/-! SUPPORT. A counterexample for the embedding service. The list of contexts is a table with two entries for context 0, which no
command makes: the model's `Tbl.adjust` changes the first of them and leaves the second as it is. -/

namespace Sys2Proof.Machine

/-- A document whose staging read is in flight, and one whose window is staged. -/
def readingDoc : EmbedDoc := { docOf 0 0 0 with reading := true }
def stagedDoc : EmbedDoc := { docOf 0 0 0 with staged := true }

/-- A job at the boundary Waypoint, without the complex. -/
def boundaryJob : Job :=
  { newJob 0#1024 { sq := 0, order := 0, desc := 0#1024, phase := .running, owes2 := false } 0 [] with hasWp := true }

/-- Both documents are listed for context 0, and the first word of the context is uncorrectable. -/
def doubledContext : State :=
  { State.reset with
    embed := { Embed.reset with bound := some 0, ctxs := [(0, readingDoc), (0, stagedDoc)] }
    tensor := { Tensor.reset with jobs := [(0, boundaryJob)] }
    mem := { MemSide.reset with werr := [((area 6 State.reset).1 / 8, 3#72)] } }

/-- The failure that a command leaves in context 0. -/
def contextFailure : Host.Outcome State Fault Refusal → Option Nat
  | .next t => (Tbl.look t.embed.ctxs 0).map (·.fail)
  | _ => none

/-- The read of the first document fails with 0x10; the admission then runs again, finds the second one staged, fails to read its
context, and puts 0x11 in the first entry. -/
theorem contextFailure_doubledContext : contextFailure (exec (.stagingReadComplete 0 .mediaError []) doubledContext) = some 0x11 := by
  decide

end Sys2Proof.Machine
end

section
set_option Elab.async false
open Sys2Proof Sys2Proof.Machine

/-- Refutes O40: no clause asks that a context is listed once. Where context 0 is listed twice, a staging read that ends with a
media error leaves failure 0x11 there, and not 0x10. -/
theorem not_embeddingCommandsComplete : ¬ Obligations.EmbeddingCommandsComplete := by
  unfold Obligations.EmbeddingCommandsComplete
  rintro ⟨-, -, -, -, -, -, -, hmedia, -⟩
  obtain ⟨t, x, ht, hx, -, -, hfail⟩ := hmedia 0 readingDoc [] doubledContext rfl rfl
  have hleft := contextFailure_doubledContext
  rw [ht] at hleft
  simp [contextFailure, hx, hfail] at hleft

end

section
set_option Elab.async false
/-! SUPPORT. Queries (R265 to R277, R294 to R297): reads of the index, the queries sent to other devices, and what ends a query. -/

namespace Sys2Proof.Machine

theorem firstBad_congr {a n : Nat} {s t : State} (hmem : t.mem = s.mem) (hcells : t.ecc.cells = s.ecc.cells) :
    firstBad a n t = firstBad a n s := by
  have hraw : ∀ w, rawWord w t = rawWord w s := fun w => by simp only [rawWord, hmem, hcells]
  simp only [firstBad, touchedWords, hmem, hcells, hraw]

theorem stackedBytes_congr {a n : Nat} {s t : State} (hmem : t.mem = s.mem) (hcells : t.ecc.cells = s.ecc.cells) :
    stackedBytes a n t = stackedBytes a n s := by
  have hraw : ∀ w, rawWord w t = rawWord w s := fun w => by simp only [rawWord, hmem, hcells]
  have hwords : correctedWords a n t = correctedWords a n s := by simp only [correctedWords, touchedWords, hmem, hcells, hraw]
  simp only [stackedBytes, hwords, hmem]

@[simp] theorem cells_countCorrected (u k : Nat) (s : State) : (countCorrected u k s).ecc.cells = s.ecc.cells := by
  unfold countCorrected
  split <;> rfl

@[simp] theorem cells_readStacked (a n : Nat) (s : State) : (readStacked a n s).2.ecc.cells = s.ecc.cells := by
  unfold readStacked
  dsimp only
  split
  · unfold logUncorrectable
    simp only [logEvent_frame]
    exact cells_countCorrected _ _ _
  · exact cells_countCorrected _ _ _

theorem readStacked_ok_iff {a n : Nat} {s : State} : (∃ b, (readStacked a n s).1 = .ok b) ↔ firstBad a n s = none := by
  unfold readStacked
  dsimp only
  cases firstBad a n s with
  | none => exact ⟨fun _ => rfl, fun _ => ⟨_, rfl⟩⟩
  | some p => exact ⟨nofun, nofun⟩

/-- Reads of the index change its memory, its queries and its cells in nothing. -/
theorem checkReads_keeps (l : List (Nat × Nat)) (s : State) : (checkReads l s).2.mem = s.mem ∧ (checkReads l s).2.ralid = s.ralid ∧
    (checkReads l s).2.fabric = s.fabric ∧ (checkReads l s).2.ecc.cells = s.ecc.cells := by
  induction l generalizing s with
  | nil => exact ⟨rfl, rfl, rfl, rfl⟩
  | cons p l ih =>
    obtain ⟨hmem, hralid, hfabric, hcells⟩ := ih (readStacked p.1 p.2 s).2
    unfold checkReads
    split
    next hread => rw [snd_of_eq hread]; simp
    next hread =>
      rw [snd_of_eq hread]
      exact ⟨by rw [hmem]; simp, by rw [hralid]; simp, by rw [hfabric]; simp, by rw [hcells]; simp⟩

theorem checkReads_ok_iff (l : List (Nat × Nat)) (s : State) :
    (checkReads l s).1 = true ↔ ∀ p ∈ l, firstBad p.1 p.2 s = none := by
  induction l generalizing s with
  | nil => exact ⟨fun _ => nofun, fun _ => rfl⟩
  | cons p l ih =>
    have hsame : ∀ q : Nat × Nat, firstBad q.1 q.2 (readStacked p.1 p.2 s).2 = firstBad q.1 q.2 s := fun q =>
      firstBad_congr (by simp) (cells_readStacked _ _ _)
    have hok := readStacked_ok_iff (a := p.1) (n := p.2) (s := s)
    rw [List.forall_mem_cons]
    unfold checkReads
    split
    next hread =>
      have hbad : firstBad p.1 p.2 s ≠ none := fun h => by
        obtain ⟨b, hb⟩ := hok.mpr h
        rw [hread] at hb
        cases hb
      exact ⟨nofun, fun h => absurd h.1 hbad⟩
    next b s1 hread =>
      have hgood : firstBad p.1 p.2 s = none := hok.mp ⟨b, by rw [hread]⟩
      rw [ih, snd_of_eq hread]
      simp only [hsame]
      exact ⟨fun h => ⟨hgood, h⟩, fun h => h.2⟩

theorem ralid_expandNode (i : RalIndex) (e l sketch node : Nat) (queue : List Candidate) (s : State) :
    (expandNode i e l sketch node queue s).2.ralid = s.ralid := by
  unfold expandNode
  dsimp only
  split
  next hread => rw [snd_of_eq hread, (checkReads_keeps _ _).2.1]
  next hread =>
    split
    · simp only [logEvent_frame]
      rw [snd_of_eq hread, (checkReads_keeps _ _).2.1]
    · rw [snd_of_eq hread, (checkReads_keeps _ _).2.1]

theorem look_modQuery_self {q : Nat} {x : Query} (f : Query → Query) {s : State} (h : Tbl.look s.ralid.queries q = some x) :
    Tbl.look (modQuery q f s).ralid.queries q = some (f x) :=
  (Tbl.look_adjust_self _ _ _).trans (congrArg (Option.map f) h)

theorem portOf_dropParcel (n : Nat) (s : State) : portOf n (dropParcel n s) = { portOf n s with inbox := (portOf n s).inbox.drop 1 } :=
  portOf_modPort_self _ _ _

/-! Admission (R274, R294). -/

/-- The query came from another device. -/
def Query.remote (x : Query) : Bool :=
  match x.origin with
  | .shard _ _ => true
  | .host _ => false

/-- The query after its admission to walker `w` at epoch `e`. -/
def Query.admitted (x : Query) (w e : Nat) (shards : List Nat) : Query :=
  { x with epoch := some e, walker := some w, expect := if x.remote then [] else shards, stage := .merging }

/-- The state in which the query has been sent to the other devices of `shards`. -/
def sentOut (i : RalIndex) (q : Nat) (y : Query) (e : Nat) (shards : List Nat) (s : State) : State :=
  (shards.filter (· != s.fabric.id)).foldl (fun acc d => sendQuery q d (queryMessage i y e acc) acc)
    (bump 2 0 (if y.remote then 10 else 0) 1 (setRalid { s.ralid with queries := Tbl.put s.ralid.queries q y } s))

/-- Sending a query changes the fabric and the counters only. -/
theorem sentOut_keeps (i : RalIndex) (q : Nat) (y : Query) (e : Nat) (shards : List Nat) (s : State) :
    (sentOut i q y e shards s).mem = s.mem ∧ (sentOut i q y e shards s).ecc = s.ecc ∧
    (sentOut i q y e shards s).ralid = { s.ralid with queries := Tbl.put s.ralid.queries q y } := by
  have hfold : ∀ (ds : List Nat) (u : State),
      (ds.foldl (fun acc d => sendQuery q d (queryMessage i y e acc) acc) u).mem = u.mem ∧
      (ds.foldl (fun acc d => sendQuery q d (queryMessage i y e acc) acc) u).ecc = u.ecc ∧
      (ds.foldl (fun acc d => sendQuery q d (queryMessage i y e acc) acc) u).ralid = u.ralid := by
    intro ds
    induction ds with
    | nil => exact fun _ => ⟨rfl, rfl, rfl⟩
    | cons d ds ih =>
      intro u
      simp only [List.foldl_cons]
      obtain ⟨hmem, hecc, hralid⟩ := ih (sendQuery q d (queryMessage i y e u) u)
      exact ⟨hmem.trans (by simp), hecc.trans (by simp), hralid.trans (by simp)⟩
  unfold sentOut
  obtain ⟨hmem, hecc, hralid⟩ := hfold (shards.filter (· != s.fabric.id))
    (bump 2 0 (if y.remote then 10 else 0) 1 (setRalid { s.ralid with queries := Tbl.put s.ralid.queries q y } s))
  exact ⟨hmem.trans (by simp), hecc.trans (by simp), hralid.trans (by simp)⟩

theorem execQueryAdmit_admits {i : RalIndex} {q : Nat} {x : Query} {s : State} (hindex : s.ralid.index = some i)
    (hfirst : firstWaitingQuery s = some (q, x)) (hon : walkersOn s = true)
    (hpub : ∀ p, s.ralid.publish = some p → p.holds = false) (hroom : (bestWalker s).2 < perWalker s) (hok : epochsOk s = true)
    (hwindow : inWindow (x.epoch.getD s.ralid.current.v) s = true) (shards : List Nat)
    (hshards : shards = if x.fanout then noRepeat s.ralid.shards else [s.fabric.id]) (e : Nat)
    (he : e = x.epoch.getD s.ralid.current.v) :
    execQueryAdmit s = .next (if shards.contains s.fabric.id then
        startWalk i q (x.admitted (bestWalker s).1 e shards) (sentOut i q (x.admitted (bestWalker s).1 e shards) e shards s)
      else sentOut i q (x.admitted (bestWalker s).1 e shards) e shards s) := by
  have hholds : (s.ralid.publish.map (·.holds)).getD false = false := by
    cases hp : s.ralid.publish with
    | none => rfl
    | some p => exact hpub p hp
  subst hshards he
  unfold execQueryAdmit
  rw [hindex, hfirst]
  exact (if_neg (by simp [hon, hholds]; omega)).trans ((if_neg (by simp [hok])).trans ((if_neg (by simp [hwindow])).trans rfl))

theorem startWalk_walks {i : RalIndex} {q : Nat} {y : Query} {s u : State}
    (hread : (checkReads [(adjAddr i.entry s, 8), (sketchAddr i i.entry s, sketchBytes i)] s).1 = true) (hmem : u.mem = s.mem)
    (hecc : u.ecc = s.ecc) : Tbl.look (startWalk i q y u).ralid.queries q =
      some { y with stage := .walking, queue := [readCandidate i y.sketch i.entry s] } := by
  have harea : ∀ c, area c u = area c s := fun c => by simp only [area, hmem]
  have hbytes : ∀ a n, stackedBytes a n u = stackedBytes a n s := fun a n => stackedBytes_congr hmem (by rw [hecc])
  have hadj : adjAddr i.entry u = adjAddr i.entry s := by simp only [adjAddr, harea]
  have hsketch : sketchAddr i i.entry u = sketchAddr i i.entry s := by simp only [sketchAddr, harea]
  have hcand : readCandidate i y.sketch i.entry u = readCandidate i y.sketch i.entry s := by
    simp only [readCandidate, recordOf, sketchOf, hadj, hsketch, hbytes]
  have hok : (checkReads [(adjAddr i.entry u, 8), (sketchAddr i i.entry u, sketchBytes i)] u).1 = true := by
    rw [hadj, hsketch, checkReads_ok_iff]
    rw [checkReads_ok_iff] at hread
    exact fun p hp => (firstBad_congr hmem (by rw [hecc])).trans (hread p hp)
  unfold startWalk
  split
  next hc =>
    rw [hc] at hok
    cases hok
  next =>
    rw [hcand]
    exact Tbl.look_put_self _ _ _

theorem mem_noRepeat {ds : List Nat} {d : Nat} : d ∈ noRepeat ds ↔ d ∈ ds := by
  have hfold : ∀ (ds acc : List Nat), d ∈ ds.foldl (fun acc d => if acc.contains d then acc else acc ++ [d]) acc ↔ d ∈ acc ∨ d ∈ ds := by
    intro ds
    induction ds with
    | nil => simp
    | cons e ds ih =>
      intro acc
      rw [List.foldl_cons, ih]
      split
      next h =>
        have he : e ∈ acc := by simpa using h
        constructor
        · rintro (h | h)
          · exact .inl h
          · exact .inr (List.mem_cons_of_mem _ h)
        · rintro (h | h)
          · exact .inl h
          · rcases List.mem_cons.mp h with rfl | h
            · exact .inl he
            · exact .inr h
      next => simp [or_assoc]
  exact (hfold ds []).trans (by simp)

/-! The end of a query. -/

theorem look_endQuery (q status : Nat) (hits : List Hit) (s : State) : Tbl.look (endQuery q status hits s).ralid.queries q = none := by
  unfold endQuery
  split
  · assumption
  · extract_lets
    split
    · simp only [sendResult_frame]
      exact Tbl.look_del_self _ _
    · simp only [complete_frame, hostWrite_frame, bump_frame]
      exact Tbl.look_del_self _ _

theorem look_refuseQuery (q status : Nat) (s : State) : Tbl.look (refuseQuery q status s).ralid.queries q = none := by
  unfold refuseQuery
  split
  · assumption
  · split
    · simp only [fail_frame, bump_frame]
      exact Tbl.look_del_self _ _
    · simp only [bump_frame]
      exact look_endQuery _ _ _ _

/-- While a query waits for other devices than `device`, it goes on without it; else it ends. -/
theorem shardMissing_cases {q device : Nat} {x : Query} {s : State} (h : Tbl.look s.ralid.queries q = some x) (hmem : device ∈ x.expect) :
    Tbl.look (shardMissing q device s).ralid.queries q =
      if x.expect.filter (· != device) = [] then none
      else some { x with expect := x.expect.filter (· != device), missing := x.missing + 1 } := by
  simp only [shardMissing, h]
  rw [if_neg (by simp [hmem])]
  unfold finishQuery
  simp only [setRalid_ralid, Tbl.look_put_self]
  by_cases hnil : x.expect.filter (· != device) = []
  · rw [if_pos hnil, if_neg (by simp [hnil])]
    exact look_endQuery _ _ _ _
  · rw [if_neg hnil, if_pos (by simpa using hnil)]
    exact Tbl.look_put_self _ _ _

theorem shardMissing_other {q device : Nat} {s : State}
    (h : ∀ x, Tbl.look s.ralid.queries q = some x → device ∉ x.expect) : shardMissing q device s = s := by
  unfold shardMissing
  split
  · rfl
  next x hx => rw [if_pos (by simpa using h x hx)]

/-- Once every device that a query waits for is missing, the query has ended. -/
theorem look_allMissing {q : Nat} (ds : List Nat) {s : State}
    (h : ∀ x, Tbl.look s.ralid.queries q = some x → x.expect ≠ [] ∧ ∀ d ∈ x.expect, d ∈ ds) :
    Tbl.look (ds.foldl (fun acc d => shardMissing q d acc) s).ralid.queries q = none := by
  induction ds generalizing s with
  | nil =>
    cases hx : Tbl.look s.ralid.queries q with
    | none => exact hx
    | some x =>
      obtain ⟨hne, hall⟩ := h x hx
      exact absurd (List.eq_nil_iff_forall_not_mem.mpr fun d hd => by simpa using hall d hd) hne
  | cons d ds ih =>
    rw [List.foldl_cons]
    refine ih fun y hy => ?_
    cases hx : Tbl.look s.ralid.queries q with
    | none =>
      rw [shardMissing_other (fun x h => by rw [hx] at h; cases h), hx] at hy
      cases hy
    | some x =>
      obtain ⟨hne, hall⟩ := h x hx
      by_cases hd : d ∈ x.expect
      · rw [shardMissing_cases hx hd] at hy
        split at hy
        · cases hy
        next hrest =>
          cases hy
          refine ⟨hrest, fun c hc => ?_⟩
          obtain ⟨hc, hcd⟩ := List.mem_filter.mp hc
          exact (List.mem_cons.mp (hall c hc)).resolve_left (by simpa using hcd)
      · rw [shardMissing_other (fun z h => by rw [hx] at h; cases h; exact hd), hx] at hy
        cases hy
        refine ⟨hne, fun c hc => (List.mem_cons.mp (hall c hc)).resolve_left ?_⟩
        rintro rfl
        exact hd hc

theorem execMergeDeadline_ends {q : Nat} {x : Query} {s : State} (hx : Tbl.look s.ralid.queries q = some x) (hfan : x.fanout = true) :
    ∃ t, execMergeDeadline q s = .next t ∧ Tbl.look t.ralid.queries q = none := by
  simp only [execMergeDeadline, hx]
  rw [if_neg (by simp [hfan])]
  refine ⟨_, rfl, ?_⟩
  generalize (if x.walker.isSome then x.expect else noRepeat s.ralid.shards) = left
  have hmod := look_modQuery_self (fun y => { y with expect := left }) hx
  generalize modQuery q (fun y => { y with expect := left }) s = u at hmod
  by_cases hnil : left = []
  · subst hnil
    rw [if_pos List.isEmpty_nil]
    simp only [finishQuery, hmod]
    exact look_endQuery _ _ _ _
  · rw [if_neg (by simpa using hnil)]
    refine look_allMissing left fun y hy => ?_
    rw [hmod] at hy
    cases hy
    exact ⟨hnil, fun _ hd => hd⟩

/-! Commands (R265, R268, R295, R296, R330). -/

theorem look_setPhase_self {tr : Nat} {task : Task} (p : TaskPhase) {s : State} (h : Tbl.look s.rings.tasks tr = some task) :
    Tbl.look (setPhase tr p s).rings.tasks tr = some { task with phase := p } :=
  (Tbl.look_adjust_self _ _ _).trans (congrArg (Option.map _) h)

/-- The query that a QUERY command makes. -/
def queryOf (tr : Nat) (d : BitVec 1024) (i : RalIndex) (bytes : List Byte) (s : State) : Query :=
  { origin := .host tr, stage := .waiting, walker := none, k := qK d, rerank := qRerank d, l := qL d, maxExp := qMaxExp d,
    epoch := if qEpochSel d then some (qEpoch d) else none, vec := vectorOf i.dims bytes, sketch := leNat (bytes.drop (4 * i.dims)),
    resAddr := dPtr1 d, fanout := qFanout d, since := s.tclk, budget := qDeadline d, queue := [], expansions := 0, limit := false,
    ranks := [], readsOver := false, expect := [], lists := [], missing := 0, refused := 0, parts := [] }

theorem execQuery_waits {tr : Nat} {buffer : List Byte} {task : Task} {i : RalIndex} {s : State}
    (hready : readyTask tr 0x30 s = some task)
    (hepoch : qEpochSel task.desc = true → isCompl 24 (qEpoch task.desc) (qEpochN task.desc) = true ∧ inWindow (qEpoch task.desc) s = true)
    (hfields : queryFieldsOk task.desc = true) (hindex : s.ralid.index = some i) (hlen0 : queryMin i ≤ dLen0 task.desc)
    (hlen1 : resultMin task.desc ≤ dLen1 task.desc) (hserves : ralidServes s = true)
    (hfan : qFanout task.desc = true → s.ralid.shards ≠ []) : execQuery tr buffer s =
      .next (addQuery (queryOf tr task.desc i (padTo (queryMin i) 0#8 buffer) s) (setPhase tr .running s)) := by
  have hcompl : (qEpochSel task.desc && !isCompl 24 (qEpoch task.desc) (qEpochN task.desc)) = false := by
    cases hsel : qEpochSel task.desc with
    | false => rfl
    | true => simp [(hepoch hsel).1]
  have hwindow : (qEpochSel task.desc && !inWindow (qEpoch task.desc) s) = false := by
    cases hsel : qEpochSel task.desc with
    | false => rfl
    | true => simp [(hepoch hsel).2]
  have hshards : (qFanout task.desc && s.ralid.shards.isEmpty) = false := by
    cases hf : qFanout task.desc with
    | false => rfl
    | true => simpa using hfan hf
  unfold execQuery
  rw [hready]
  refine (if_neg (by rw [hcompl]; exact Bool.false_ne_true)).trans ((if_neg (by simp [hfields])).trans ?_)
  rw [hindex]
  exact (if_neg (by simp; omega)).trans (if_neg (by simp [hserves, hwindow, hshards]))

theorem execWalkExpand_grows {q : Nat} {i : RalIndex} {x : Query} {c : Candidate} {queue : List Candidate} {s s1 : State}
    (hindex : s.ralid.index = some i) (hx : Tbl.look s.ralid.queries q = some x) (hstage : x.stage = .walking)
    (hon : walkersOn s = true) (hfirst : firstUnexpanded x.queue = some c) (hmax : x.expansions + 1 < x.maxExp)
    (hgrown : expandNode i (x.epoch.getD s.ralid.current.v) x.l x.sketch c.node x.queue s = (.grown queue, s1))
    (hmore : (firstUnexpanded queue).isSome = true) : ∃ t, execWalkExpand q s = .next t ∧
      Tbl.look t.ralid.queries q = some { x with queue := queue, expansions := x.expansions + 1 } := by
  have hx1 : Tbl.look s1.ralid.queries q = some x := by rw [snd_of_eq hgrown, ralid_expandNode]; exact hx
  refine ⟨_, ?_, look_modQuery_self (fun _ => { x with queue := queue, expansions := x.expansions + 1 }) hx1⟩
  simp only [execWalkExpand, hindex, hx, hfirst, hgrown]
  exact (if_neg (by simp [hstage, hon])).trans ((if_neg (by omega)).trans ((if_neg (by simpa [Option.isSome_iff_ne_none] using hmore)).trans (if_neg (by omega))))

theorem execWalkExpand_ends {q : Nat} {i : RalIndex} {x : Query} {s : State} (hindex : s.ralid.index = some i)
    (hx : Tbl.look s.ralid.queries q = some x) (hstage : x.stage = .walking) (hon : walkersOn s = true)
    (hfirst : firstUnexpanded x.queue = none) :
    execWalkExpand q s = .next (endWalk i q x (x.epoch.getD s.ralid.current.v) s) := by
  simp only [execWalkExpand, hindex, hx, hfirst]
  exact if_neg (by simp [hstage, hon])

theorem messageOk_segment {p : Parcel} (h : messageOk p = true) : mSeg p < mSegs p := by
  unfold messageOk at h
  simp only [Bool.and_eq_true, decide_eq_true_eq] at h
  exact h.2

/-- One segment of two or more is not a whole message. -/
theorem wholeMessage_single {segs seg : Nat} {ws : List W64} (h : 1 < segs) : wholeMessage segs [(seg, ws)] = none := by
  unfold wholeMessage
  dsimp only
  refine if_neg fun hall => ?_
  have hmissing : ∃ k < segs, k ≠ seg := ⟨if seg = 0 then 1 else 0, by split <;> omega, by split <;> omega⟩
  obtain ⟨k, hk, hne⟩ := hmissing
  have hfound := List.all_eq_true.mp hall _ (List.mem_map.mpr ⟨k, List.mem_range.mpr hk, rfl⟩)
  simp [List.find?, beq_eq_false_iff_ne.mpr (Ne.symm hne)] at hfound

theorem execQueryParcel_keeps {n : Fin 16} {p : Parcel} {s : State} (hhead : headParcel n.val 7 s = some p) (hon : walkersOn s = true)
    (hok : messageOk p = true) (hsegs : 1 < mSegs p) (hnew : ∀ x ∈ s.ralid.parts, x.1 ≠ phSrc p ∨ x.2.1 ≠ mId p) :
    execQueryParcel n s = .next (setRalid { s.ralid with parts := s.ralid.parts ++ [(phSrc p, mId p, mSeg p, mSegs p, p.payload)] }
      (dropParcel n.val s)) := by
  have hmine : (s.ralid.parts ++ [(phSrc p, mId p, mSeg p, mSegs p, p.payload)]).filter
      (fun x => x.1 == phSrc p && x.2.1 == mId p) = [(phSrc p, mId p, mSeg p, mSegs p, p.payload)] := by
    have hnone : s.ralid.parts.filter (fun x => x.1 == phSrc p && x.2.1 == mId p) = [] := by
      rw [List.filter_eq_nil_iff]
      intro x hx
      rcases hnew x hx with h | h <;> simp [h]
    rw [List.filter_append, hnone]
    simp
  unfold execQueryParcel
  dsimp only
  rw [hhead]
  refine (if_neg (by simp [hon])).trans ((if_neg (by simp [hok])).trans ?_)
  rw [hmine]
  simp only [List.map_cons, List.map_nil, wholeMessage_single hsegs]

/-- The state in which no request for a segment of query `q` to `device` is outstanding. -/
def withoutQuery (q device : Nat) (s : State) : State :=
  let gone := fun (r : FabReq) => match r.for_ with
    | .query k d => k == q && d == device
    | _ => false
  { s with fabric := { s.fabric with reqs := s.fabric.reqs.filter (fun r => !gone r.2) } }

theorem execResult_of {n : Fin 16} {p : Parcel} {x : Query} {s : State} (hhead : headParcel n.val 8 s = some p)
    (hx : Tbl.look s.ralid.queries (mId p) = some x) (hok : messageOk p = true) (hexp : phSrc p ∈ x.expect)
    (hself : phSrc p ≠ s.fabric.id) (parts : List (Nat × Nat × Nat × List W64))
    (hparts : parts = x.parts ++ [(phSrc p, mSeg p, mSegs p, p.payload)]) :
    ∃ u : State, Tbl.look u.ralid.queries (mId p) = some { x with parts := parts } ∧ execResult n s =
      match wholeMessage (mSegs p) ((parts.filter (fun y => y.1 == phSrc p)).map (fun y => (y.2.1, y.2.2.2))) with
      | none => .next (modQuery (mId p) (fun y => { y with parts := parts }) (dropParcel n.val s))
      | some bytes => .next (takeList (mId p) (listOf (phSrc p) bytes) u) := by
  subst hparts
  have hx1 : Tbl.look (dropParcel n.val s).ralid.queries (mId p) = some x := hx
  have hmod := look_modQuery_self (fun y => { y with parts := x.parts ++ [(phSrc p, mSeg p, mSegs p, p.payload)] }) hx1
  refine ⟨withoutQuery (mId p) (phSrc p) (modQuery (mId p)
    (fun y => { y with parts := x.parts ++ [(phSrc p, mSeg p, mSegs p, p.payload)] }) (dropParcel n.val s)), hmod, ?_⟩
  unfold execResult
  dsimp only
  rw [hhead]
  dsimp only
  rw [hx1]
  dsimp only
  rw [if_neg (by simp [hok, hexp, hself])]
  generalize wholeMessage (mSegs p) _ = o
  cases o <;> rfl

theorem takeList_goesOn {q : Nat} {l : ShardList} {x : Query} {s : State} (hx : Tbl.look s.ralid.queries q = some x)
    (hexp : l.device ∈ x.expect) (hmore : ∃ d ∈ x.expect, d ≠ l.device) (hstatus : l.status ≠ 0x03) :
    Tbl.look (takeList q l s).ralid.queries q =
      some { x with expect := x.expect.filter (· != l.device), lists := x.lists ++ [l] } := by
  obtain ⟨d, hd, hne⟩ := hmore
  have hrest : x.expect.filter (· != l.device) ≠ [] :=
    List.ne_nil_of_mem (List.mem_filter.mpr ⟨hd, by simpa using hne⟩)
  simp only [takeList, hx]
  rw [if_neg (by simp [hexp]), if_neg hstatus]
  unfold finishQuery
  simp only [setRalid_ralid, Tbl.look_put_self]
  rw [if_pos (by simpa using hrest)]
  exact Tbl.look_put_self _ _ _

/-! Responses (R319, R321, R324). -/

theorem look_of_matchRequest {p : Parcel} {r : FabReq} {s : State} (h : matchRequest p s = some r) :
    Tbl.look s.fabric.reqs (phTag p) = some r := by
  unfold matchRequest at h
  split at h
  next hr =>
    split at h
    · cases h
      exact hr
    · cases h
  next => cases h

theorem fabric_requestOk (r : FabReq) (s : State) : (requestOk r s).fabric = s.fabric := by simp

theorem execRsp_ok {n : Fin 16} {p : Parcel} {r : FabReq} {s : State} (hhead : headParcel n.val 9 s = some p)
    (hmatch : matchRequest p s = some r) (hcode : phRsp p = 0) :
    ∃ t, execRsp n s = .next t ∧ t.fabric = (endRequest (phTag p) (dropParcel n.val s)).fabric := by
  unfold execRsp
  dsimp only
  rw [hhead]
  dsimp only
  rw [hmatch]
  dsimp only
  rw [hcode]
  split
  · exact ⟨_, if_pos rfl, rfl⟩
  · exact ⟨_, rfl, fabric_requestOk _ _⟩

theorem reqs_sendParcel (p : Parcel) (s : State) : (sendParcel p s).fabric.reqs = s.fabric.reqs := by
  unfold sendParcel
  split
  · rfl
  · split <;> rfl

theorem execRsp_resends {n : Fin 16} {p : Parcel} {r : FabReq} {s : State} (hhead : headParcel n.val 9 s = some p)
    (hmatch : matchRequest p s = some r) (hcode : phRsp p = 4) (hresends : r.resends < 2) :
    ∃ t f, execRsp n s = .next t ∧ Tbl.look t.fabric.reqs (phTag p) = some f ∧ f.resends = r.resends + 1 := by
  have hrespond : ∃ f, Tbl.look (respond (phTag p) r 4 (dropParcel n.val s)).fabric.reqs (phTag p) = some f ∧
      f.resends = r.resends + 1 := by
    unfold respond
    rw [if_neg (by decide), if_pos (by simp [hresends])]
    dsimp only
    rw [reqs_sendParcel]
    exact ⟨_, Tbl.look_put_self _ _ _, rfl⟩
  obtain ⟨f, hf, hcount⟩ := hrespond
  refine ⟨_, f, ?_, hf, hcount⟩
  unfold execRsp
  dsimp only
  rw [hhead]
  dsimp only
  rw [hmatch]
  dsimp only
  rw [hcode]
  split
  · exact (if_neg (by decide)).trans (if_pos (by simp [hresends]))
  · rfl

/-- The request with this tag is outstanding no longer. -/
def Answered (tag : Nat) (s : State) : Prop := Tbl.look s.fabric.reqs tag = none

theorem answered_sendResult {tag device id : Nat} {bytes : List Byte} {s : State} (h : Answered tag s) : Answered tag (sendResult device id bytes s) := by
  have hfold : ∀ (ps : List (List Byte × Nat)) (k : Nat) (u : State), (ps.foldl (fun acc p =>
      sendParcel (mkParcel 8 device 0 false 0 0 0 (messageSpec id p.2 k) 0 (wordsOf p.1) acc) acc) u).fabric.reqs =
      u.fabric.reqs := by
    intro ps k
    induction ps with
    | nil => exact fun _ => rfl
    | cons p ps ih =>
      intro u
      rw [List.foldl_cons, ih, reqs_sendParcel]
  unfold Answered sendResult
  dsimp only
  rw [hfold]
  exact h

theorem answered_shardMissing {tag q device : Nat} {s : State} (h : Answered tag s) : Answered tag (shardMissing q device s) := by
  have hend : ∀ (status : Nat) (hits : List Hit) (u : State), Answered tag u → Answered tag (endQuery q status hits u) := by
    intro status hits u hu
    unfold endQuery
    split
    · exact hu
    · extract_lets
      split
      · exact answered_sendResult (Tbl.look_filter_eq_none _ hu)
      · unfold Answered
        simp only [complete_frame, hostWrite_frame, bump_frame]
        exact Tbl.look_filter_eq_none _ hu
  unfold shardMissing
  split
  · exact h
  · split
    · exact h
    · unfold finishQuery
      dsimp only
      split
      · exact h
      · split
        · exact h
        · exact hend _ _ _ h

theorem answered_releaseJob {tag : Nat} {s : State} (h : Answered tag s) (e : Nat) (j : Job) : Answered tag (releaseJob e j s) := by
  unfold releaseJob
  extract_lets
  split
  · exact Tbl.look_filter_eq_none _ h
  · exact Tbl.look_filter_eq_none _ h

theorem answered_endJob {tag : Nat} {s : State} (h : Answered tag s) (e status cause : Nat) : Answered tag (endJob e status cause s) := by
  have hsame : ∀ {u v : State}, Answered tag u → v.fabric = u.fabric → Answered tag v := fun hu hv => by
    unfold Answered
    rw [hv]
    exact hu
  unfold endJob
  split
  · exact h
  · extract_lets +onlyGivenNames own s0 j s1 s2 s3 s4 s5 _ s6 s7 s8 rec_ s9 s10
    have h0 : s0.fabric = s.fabric := by
      unfold s0
      split <;> simp
    have h1 : s1.fabric = s0.fabric := by
      unfold s1
      split <;> simp
    have h4 : s4.fabric = s.fabric := by simp [s4, s3, s2, h1, h0]
    have h5 : Answered tag s5 := answered_releaseJob (hsame h h4) _ _
    have h7 : s7.fabric = s5.fabric := by
      unfold s7
      split <;> rfl
    have h10 : s10.fabric = s5.fabric := by
      unfold s10
      split <;> simp [s9, s8, h7]
    split
    · exact hsame h5 (by simp [h10])
    · exact hsame h5 h10

theorem answered_requestFailed {tag : Nat} {s : State} (h : Answered tag s) (r : FabReq) (cause : Nat) :
    Answered tag (requestFailed r cause s) := by
  unfold requestFailed
  split
  · unfold Answered
    dsimp only
    simp only [requestOk_frame, raiseFault_frame]
    exact h
  · split
    · unfold failJob
      split
      · exact h
      · split
        · unfold Answered
          simp only [raiseFault_frame]
          exact h
        · refine answered_endJob ?_ _ _ _
          unfold Answered
          dsimp only
          simp only [writeSnapshot_frame]
          exact h
    · exact h

end Sys2Proof.Machine
end

section
set_option Elab.async false
open Sys2Proof Sys2Proof.Machine

/-- Settles O41: a query is one entry of the table of queries, which only its own commands, and what ends it, change. -/
theorem queryCommandsComplete : Obligations.QueryCommandsComplete := by
  unfold Obligations.QueryCommandsComplete
  refine ⟨?query, ?admitted, ?admittedRemote, ?grow, ?endWalk, ?rank, ?late, ?merge, ?budget, ?segment, ?message, ?part, ?list, ?ok, ?resend,
    ?timeout⟩
  case query =>
    intro tr buffer task i d s hready hd hepoch hfields hindex hlen0 hlen1 hserves hfan
    subst hd
    refine ⟨_, _, execQuery_waits hready hepoch hfields hindex hlen0 hlen1 hserves hfan, Tbl.look_put_self _ _ _, ?_⟩
    exact ⟨rfl, rfl, rfl, rfl, rfl, rfl, rfl, rfl, rfl, rfl, rfl, look_setPhase_self _ (readyTask_look hready)⟩
  case admitted =>
    intro i q x shards s hindex hfirst hon hpub hroom hok hwindow hshards hself hread
    have hadmit := execQueryAdmit_admits hindex hfirst hon hpub hroom hok hwindow shards hshards _ rfl
    rw [if_pos (by simpa using hself)] at hadmit
    obtain ⟨hmem, hecc, -⟩ := sentOut_keeps i q (x.admitted (bestWalker s).1 (x.epoch.getD s.ralid.current.v) shards)
      (x.epoch.getD s.ralid.current.v) shards s
    refine ⟨_, _, hadmit, startWalk_walks hread hmem hecc, rfl, rfl, rfl, rfl, ?_⟩
    rcases ho : x.origin with ⟨⟩ | ⟨⟩ <;> simp [Query.admitted, Query.remote, ho]
  case admittedRemote =>
    intro i q x s hindex hfirst hon hpub hroom hok hwindow hfan hself
    have hadmit := execQueryAdmit_admits hindex hfirst hon hpub hroom hok hwindow (noRepeat s.ralid.shards) (by rw [hfan]; rfl) _ rfl
    rw [if_neg (by simpa [mem_noRepeat] using hself)] at hadmit
    obtain ⟨-, -, hralid⟩ := sentOut_keeps i q
      (x.admitted (bestWalker s).1 (x.epoch.getD s.ralid.current.v) (noRepeat s.ralid.shards))
      (x.epoch.getD s.ralid.current.v) (noRepeat s.ralid.shards) s
    exact ⟨_, _, hadmit, by rw [hralid]; exact Tbl.look_put_self _ _ _, rfl, rfl, rfl⟩
  case grow =>
    exact fun q i x c queue s s1 hindex hx hstage hon hfirst hmax hgrown hmore =>
      execWalkExpand_grows hindex hx hstage hon hfirst hmax hgrown hmore
  case endWalk => exact fun q i x s hindex hx hstage hon hfirst => execWalkExpand_ends hindex hx hstage hon hfirst
  case rank =>
    intro q x s hx hstage
    simp only [exec, execRerankDeadline, hx]
    exact (if_neg (by simp [hstage])).trans (congrArg Host.Outcome.next (if_pos (by simp [hstage])))
  case late =>
    intro q x s hx hrank hmerge
    refine ⟨_, ?_, look_modQuery_self (fun y => { y with readsOver := true }) hx⟩
    simp only [exec, execRerankDeadline, hx]
    exact (if_neg (by simpa using hmerge)).trans (congrArg Host.Outcome.next (if_neg (by simpa using hrank)))
  case merge => exact fun q x s hx hfan => execMergeDeadline_ends hx hfan
  case budget =>
    intro q x s hx hstage
    simp only [exec, execShardQueryBudgetExpiry, hx]
    exact ⟨_, if_pos (by simp [hstage]), look_refuseQuery _ _ _⟩
  case segment =>
    intro n p s hhead hon hok hsegs hnew
    exact ⟨_, execQueryParcel_keeps hhead hon hok hsegs hnew, rfl, congrArg Port.inbox (portOf_dropParcel _ _)⟩
  case message =>
    intro n p bytes mine s hhead hon hok hmine hwhole hroom
    subst hmine
    simp only [exec, execQueryParcel, hhead]
    rw [if_neg (by simp [hon]), if_neg (by simp [hok])]
    simp only [hwhole]
    exact if_neg (by omega)
  case part =>
    intro n p x s hhead hx hok hexp hself hnone
    obtain ⟨u, -, hexec⟩ := execResult_of hhead hx hok hexp hself _ rfl
    rw [hnone] at hexec
    exact ⟨_, hexec, look_modQuery_self (fun y => { y with parts := x.parts ++ [(phSrc p, mSeg p, mSegs p, p.payload)] })
      (show Tbl.look (dropParcel n.val s).ralid.queries (mId p) = some x from hx)⟩
  case list =>
    intro n p x bytes s hhead hx hok hexp hself hwhole hmore hstatus
    obtain ⟨u, hu, hexec⟩ := execResult_of hhead hx hok hexp hself _ rfl
    rw [hwhole] at hexec
    exact ⟨_, _, hexec, takeList_goesOn hu hexp hmore hstatus, rfl, rfl⟩
  case ok =>
    intro n p r s hhead hmatch hcode
    obtain ⟨t, ht, hfabric⟩ := execRsp_ok hhead hmatch hcode
    refine ⟨t, ht, by rw [hfabric]; exact Tbl.look_del_self _ _, ?_⟩
    rw [portOf_congr hfabric]
    exact congrArg Port.inbox (portOf_dropParcel _ _)
  case resend => exact fun n p r s hhead hmatch hcode hresends => execRsp_resends hhead hmatch hcode hresends
  case timeout =>
    intro tag r s hr
    have hended : Answered tag.toNat (endRequest tag.toNat s) := Tbl.look_del_self _ _
    simp only [exec, execResponseTimeout, hr]
    split
    · exact ⟨_, rfl, answered_shardMissing hended⟩
    · exact ⟨_, rfl, answered_requestFailed hended _ _⟩

end

section
set_option Elab.async false
/-! SUPPORT. Ralid (R280, R283 to R293): what inserts, deletes, the edit log and a PUBLISH leave of Ralid's record. -/

namespace Sys2Proof.Machine

theorem ralid_writeUnit {idx pool n : Nat} {blocks : List (Nat × List Byte)} {s t : State}
    (h : writeUnit idx pool blocks s = some (n, t)) : t.ralid = s.ralid := by
  unfold writeUnit at h
  split at h
  · cases h
  · cases h
    rw [foldl_ralid _ (by simp)]
    simp [nextSeq]

theorem ralid_writeVector {i : RalIndex} {n : Nat} {vector : List Byte} {s t : State} (h : writeVector i n vector s = some t) :
    t.ralid = s.ralid := by
  unfold writeVector at h
  split at h
  · cases h
    rfl
  · dsimp only at h
    obtain ⟨⟨k, u⟩, hu, rfl⟩ := Option.map_eq_some_iff.mp h
    refine (ralid_writeUnit hu).trans ?_
    exact foldl_snd_ralid _ (fun acc b => by simp) _ _

theorem ralid_insertWalk (i : RalIndex) (e l sketch fuel : Nat) (queue : List Candidate) (s : State) :
    (insertWalk i e l sketch fuel queue s).2.ralid = s.ralid := by
  induction fuel generalizing queue s with
  | zero => rfl
  | succ fuel ih =>
    unfold insertWalk
    split
    · rfl
    · split
      next hgrown => rw [ih, snd_of_eq hgrown, ralid_expandNode]
      next hother => rw [snd_of_eq hother, ralid_expandNode]

/-- An insert that starts has its entry for the node, which is taken from the free ones. -/
theorem startInsert_starts {tr : Option Nat} {key sketch n : Nat} {vector : List Byte} {i : RalIndex} {s : State}
    (hfree : i.lowestFree = some n) : ∃ t r, startInsert tr key vector sketch i s = some t ∧ Tbl.look t.ralid.inserts n = some r ∧
      r.tr = tr ∧ r.birth = openNow s ∧ r.near.length ≤ buildDegree s ∧ t.ralid.index = some (i.take n) := by
  simp only [startInsert, hfree]
  generalize hs2 : putStacked _ _ _ = s2
  have h2 : s2.ralid.index = some (i.take n) := by
    rw [← hs2]
    simp
  have h3 : ((writeVector i n vector s2).getD s2).ralid = s2.ralid := by
    cases hv : writeVector i n vector s2 with
    | none => rfl
    | some u => exact ralid_writeVector hv
  refine ⟨_, _, rfl, Tbl.look_put_self _ _ _, rfl, rfl, ?_, ?_⟩
  · rw [List.length_map, List.length_take]
    exact Nat.min_le_left _ _
  · show (insertWalk _ _ _ _ _ _ _).2.ralid.index = _
    rw [ralid_insertWalk, h3, h2]

theorem ralid_setInsertWaits (tr : Nat) (b : Bool) (s : State) : (setInsertWaits tr b s).ralid = s.ralid := by simp

theorem execInsert_starts {tr n : Nat} {buffer : List Byte} {task : Task} {i : RalIndex} {s : State}
    (hready : readyTask tr 0x31 s = some task) (hindex : s.ralid.index = some i) (hserves : ralidServes s = true)
    (hlen : vecBytes i.dims + sketchBytes i ≤ dLen0 task.desc) (hroom : insertRoom s = true) (hfree : i.lowestFree = some n) :
    ∃ t r, execInsert tr buffer s = .next t ∧ Tbl.look t.ralid.inserts n = some r ∧ r.tr = some tr ∧
      r.birth = openNow s ∧ r.near.length ≤ buildDegree s ∧ t.ralid.index = some (i.take n) := by
  have hralid : (setPhase tr .running (setInsertWaits tr false s)).ralid = s.ralid := by simp
  unfold execInsert
  rw [hready]
  dsimp only
  rw [hindex]
  dsimp only
  rw [if_neg (by omega), if_neg (by simp [hserves]), if_neg (by simp [hroom])]
  obtain ⟨t, r, ht, hr, htr, hbirth, hnear, hi⟩ := startInsert_starts (tr := some tr) (key := dParam task.desc 383 320)
    (vector := (padTo (vecBytes i.dims + sketchBytes i) 0#8 buffer).take (vecBytes i.dims))
    (sketch := leNat ((padTo (vecBytes i.dims + sketchBytes i) 0#8 buffer).drop (vecBytes i.dims)))
    (s := setPhase tr .running (setInsertWaits tr false s)) hfree
  rw [ht]
  refine ⟨t, r, rfl, hr, htr, hbirth.trans ?_, hnear.trans (Nat.le_of_eq ?_), hi⟩
  · simp only [openNow, hralid]
  · simp only [buildDegree, hralid]

theorem execInsertComplete_completes {n : Nat} {i : RalIndex} {r : Insert} {s : State} (hindex : s.ralid.index = some i)
    (hr : Tbl.look s.ralid.inserts n = some r) (hvector : r.vector = []) : ∃ t, execInsertComplete n s = .next t ∧
      Tbl.look t.ralid.inserts n = none ∧ (∀ tr, r.tr = some tr → Tbl.look t.rings.tasks tr = none) := by
  unfold execInsertComplete
  rw [hindex, hr]
  dsimp only
  rw [hvector, if_pos List.isEmpty_nil]
  refine ⟨_, rfl, ?_⟩
  generalize hu : bump 2 0 8 1 _ = u
  have hgone : Tbl.look u.ralid.inserts n = none := by
    rw [← hu]
    simp
  cases r.tr with
  | none => exact ⟨hgone, nofun⟩
  | some tr =>
    refine ⟨by simpa using hgone, fun tr' h => ?_⟩
    cases h
    exact look_tasks_complete _ _ _ _ _

theorem mem_insertSorted_self (n : Nat) (l : List Nat) : n ∈ insertSorted n l := by
  induction l with
  | nil => exact List.mem_singleton_self n
  | cons m ms ih =>
    unfold insertSorted
    split
    · exact List.mem_cons_self
    · split
      next h => rw [h]; exact List.mem_cons_self
      next => exact List.mem_cons_of_mem _ ih

theorem execDeleteByNode_deletes {tr : Nat} {task : Task} {i : RalIndex} {s : State} (hready : readyTask tr 0x32 s = some task)
    (hby : dByNode task.desc = true) (hserves : ralidServes s = true) (hindex : s.ralid.index = some i)
    (hcap : dNode task.desc < i.capacity) (hkey : keyOf (dNode task.desc) s = dKey task.desc) (hhas : i.has (dNode task.desc) = true)
    (hlive : rDeath (recordOf (dNode task.desc) s) = noDeath) : ∃ t k, execDeleteByNode tr s = .next t ∧
      t.ralid.index = some k ∧ dNode task.desc ∈ k.dead ∧ Tbl.look t.rings.tasks tr = none := by
  have hdead : (setDeath (dNode task.desc) (openNow s) s).ralid.index =
      some { i with dead := insertSorted (dNode task.desc) i.dead } := by
    unfold setDeath
    rw [hindex]
    simp
  unfold execDeleteByNode
  rw [hready]
  dsimp only
  rw [if_neg (by simp [hby]), if_neg (by simp [hserves]), hindex]
  dsimp only
  rw [if_neg (by simp [hcap, hkey]), if_neg (by simp [hhas, hlive])]
  exact ⟨_, _, rfl, by simpa using hdead, mem_insertSorted_self _ _, look_tasks_complete _ _ _ _ _⟩

theorem execDeleteByKey_stages {tr : Nat} {task : Task} {s : State} (hready : readyTask tr 0x32 s = some task)
    (hby : dByNode task.desc = false) (hnode : dNode task.desc = 0) (hserves : ralidServes s = true)
    (hroom : s.ralid.staged.length + ((s.ralid.publish.map (·.keys.length)).getD 0) < Config.stagedKeys) :
    ∃ t, execDeleteByKey tr s = .next t ∧ dKey task.desc ∈ t.ralid.staged ∧ Tbl.look t.rings.tasks tr = none := by
  unfold execDeleteByKey
  rw [hready]
  dsimp only
  rw [if_neg (by simp [hby]), if_neg (by simp [hnode]), if_neg (by simp [hserves])]
  by_cases hkey : dKey task.desc ∈ s.ralid.staged
  · rw [if_pos (by simpa using hkey)]
    exact ⟨_, rfl, by simpa using hkey, look_tasks_complete _ _ _ _ _⟩
  · rw [if_neg (by simpa using hkey), if_neg (by omega)]
    exact ⟨_, rfl, by simp, look_tasks_complete _ _ _ _ _⟩

theorem execPublish_waits {tr : Nat} {task : Task} {s : State} (hready : readyTask tr 0x33 s = some task)
    (hepoch : isCompl 24 (pEpoch task.desc) (pEpochN task.desc) = true)
    (hfloor : isCompl 24 (pFloor task.desc) (pFloorN task.desc) = true) (hserves : ralidServes s = true)
    (hpub : s.ralid.publish = none) (hattach : s.ralid.attach = none) (hok : epochsOk s = true)
    (hopen : pEpoch task.desc = s.ralid.open_.v) (hlow : s.ralid.floor.v ≤ pFloor task.desc)
    (hhigh : pFloor task.desc ≤ pEpoch task.desc) (hcompact : pCompact task.desc = true → pFloor task.desc = pEpoch task.desc)
    (hlimit : pEpoch task.desc ≠ 0xFFFFFE) : execPublish tr s = .next (setRalid { s.ralid with
      publish := some { tr := tr, epoch := pEpoch task.desc, floor := pFloor task.desc, compact := pCompact task.desc,
                        keys := s.ralid.staged, holds := false }
      staged := [] } (setPhase tr .running s)) := by
  have hsame : (pCompact task.desc && pFloor task.desc != pEpoch task.desc) = false := by
    cases hc : pCompact task.desc with
    | false => rfl
    | true => simp [hcompact hc]
  unfold execPublish
  rw [hready]
  refine (if_neg (by simp [hepoch, hfloor])).trans ((if_neg (by simp [hserves, hpub, hattach])).trans
    ((if_neg (by simp [hok])).trans ((if_neg ?_).trans (if_neg hlimit))))
  rw [hsame]
  simp [hopen]
  omega

/-! PUBLISH (R286, R287). -/

/-- The state `t` differs from `s` in Ralid's index only, as far as Ralid's record goes. -/
def SameButIndex (s t : State) : Prop := ∃ k, t.ralid = { s.ralid with index := k }

theorem SameButIndex.refl (s : State) : SameButIndex s s := ⟨s.ralid.index, rfl⟩

theorem SameButIndex.of_eq {s t : State} (h : t.ralid = s.ralid) : SameButIndex s t := ⟨s.ralid.index, h⟩

theorem SameButIndex.trans {s t u : State} (h : SameButIndex s t) (h2 : SameButIndex t u) : SameButIndex s u := by
  obtain ⟨k, hk⟩ := h
  obtain ⟨m, hm⟩ := h2
  exact ⟨m, by rw [hm, hk]⟩

theorem SameButIndex.foldl {α : Type} {f : State → α → State} (hf : ∀ s a, SameButIndex s (f s a)) (as : List α) (s : State) :
    SameButIndex s (as.foldl f s) := by
  induction as generalizing s with
  | nil => exact .refl s
  | cons a as ih => exact (hf s a).trans (ih _)

theorem sameButIndex_setDeath (n e : Nat) (s : State) : SameButIndex s (setDeath n e s) := by
  unfold setDeath
  split
  · exact ⟨_, rfl⟩
  next i _ => exact ⟨some { i with dead := insertSorted n i.dead }, by simp⟩

theorem sameButIndex_sweepKeys (keys : List Nat) (p : Nat) (s : State) : SameButIndex s (sweepKeys keys p s) := by
  unfold sweepKeys
  split
  · exact .refl s
  · split
    · exact .refl s
    · refine SameButIndex.foldl (fun u n => ?_) _ _
      dsimp only
      split
      · exact sameButIndex_setDeath _ _ _
      · exact .refl u

theorem sameButIndex_freeNode (s : State) (n : Nat) : SameButIndex s (freeNode s n) := by
  unfold freeNode
  split
  · exact .refl s
  next i _ => exact ⟨some { i with dead := i.dead.filter (· != n), freed := insertSorted n i.freed }, by simp⟩

theorem ralid_startPass (s : State) : ∃ p, (startPass s).ralid = { s.ralid with pass := p } := by
  unfold startPass
  split
  · exact ⟨s.ralid.pass, rfl⟩
  next i _ =>
    extract_lets +onlyGivenNames ds s1
    refine ⟨some ds, ?_⟩
    have h1 : s1.ralid = s.ralid := by
      refine foldl_ralid _ (fun u n => ?_) _ _
      dsimp only
      split <;> simp
    simp only [setRalid_ralid, h1]

/-- What the advance of the epoch leaves: the PUBLISH is over and its epochs are in force. -/
theorem advanceEpoch_advances (p : Publish) (s : State) : (advanceEpoch p s).ralid.publish = none ∧
    (advanceEpoch p s).ralid.current = Epoch.of p.epoch ∧ (advanceEpoch p s).ralid.open_ = Epoch.of (p.epoch + 1) ∧
    (advanceEpoch p s).ralid.floor = Epoch.of p.floor ∧ (advanceEpoch p s).ralid.log = s.ralid.log ∧
    (advanceEpoch p s).ralid.covered = s.ralid.covered ∧ Tbl.look (advanceEpoch p s).rings.tasks p.tr = none := by
  unfold advanceEpoch
  extract_lets release r s1
  obtain ⟨q, hq⟩ := ralid_startPass s1
  have hralid : (complete p.tr 0 0 0 (startPass s1)).ralid = { s1.ralid with pass := q } := by simp only [complete_frame, hq]
  rw [hralid]
  exact ⟨rfl, rfl, rfl, rfl, rfl, rfl, look_tasks_complete _ _ _ _ _⟩

theorem mayProceed {p : Publish} {s : State} (hholds : p.holds = false) (hinserts : ∀ x ∈ s.ralid.inserts, p.epoch < x.2.birth) :
    ¬ (p.holds || s.ralid.inserts.any (fun x => decide (x.2.birth ≤ p.epoch))) = true := by
  simp only [hholds, Bool.false_or, List.any_eq_true, decide_eq_true_eq, not_exists, not_and, not_le]
  exact hinserts

theorem execPublishProceed_of {p : Publish} {s : State} (hpub : s.ralid.publish = some p) (hholds : p.holds = false)
    (hinserts : ∀ x ∈ s.ralid.inserts, p.epoch < x.2.birth) (hok : epochsOk s = true) : execPublishProceed s =
      if p.compact then .next (setRalid { (sweepKeys p.keys p.epoch s).ralid with publish := some { p with keys := [], holds := true } }
        (sweepKeys p.keys p.epoch s))
      else .next (advanceEpoch p (sweepKeys p.keys p.epoch s)) := by
  unfold execPublishProceed
  rw [hpub]
  exact (if_neg (mayProceed hholds hinserts)).trans (if_neg (by simp [hok]))

theorem execPublishApply_applies {p : Publish} {i : RalIndex} {s : State} (hpub : s.ralid.publish = some p)
    (hindex : s.ralid.index = some i) (hholds : p.holds = true)
    (holder : ∀ q ∈ s.ralid.queries, q.2.walker.isSome = true → p.epoch ≤ q.2.epoch.getD 0) :
    ∃ u, execPublishApply s = .next (advanceEpoch p u) ∧ u.ralid.log = [] ∧ u.ralid.covered = none := by
  have hquiet : s.ralid.queries.any (fun q => q.2.walker.isSome && decide ((q.2.epoch.getD 0) < p.epoch)) = false := by
    rw [List.any_eq_false]
    intro q hq h
    obtain ⟨hw, hlt⟩ := Bool.and_eq_true_iff.mp h
    have := holder q hq hw
    simp at hlt
    omega
  unfold execPublishApply
  rw [hpub, hindex]
  dsimp only
  rw [if_neg (by simp [hholds, hquiet])]
  refine ⟨_, rfl, ?_, rfl⟩
  generalize newEntry i p.epoch _ = e
  obtain ⟨k, hk⟩ := SameButIndex.foldl sameButIndex_freeNode (s.ralid.covered.getD [])
    (setRalid { e.2.ralid with index := some { i with entry := e.1 }, log := [] } e.2)
  rw [setRalid_ralid, hk]
  rfl

/-! ATTACH (R292). -/

theorem ralid_copyUnits (k idx at_ bytes : Nat) (s : State) : (copyUnits k idx at_ bytes s).2.ralid = s.ralid := by
  induction k generalizing idx at_ bytes s with
  | zero => rfl
  | succ k ih =>
    unfold copyUnits
    split
    next hread => rw [snd_of_eq hread]; simp
    next hread => rw [ih, snd_of_eq hread]; simp

theorem ralid_copyImage (a : Attach) (s : State) : (copyImage a s).2.ralid = s.ralid := by
  unfold copyImage
  refine foldl_snd_ralid _ (fun acc p => ?_) _ _
  split
  · rfl
  · exact ralid_copyUnits _ _ _ _ _

theorem execAttach_reads {tr : Nat} {task : Task} {x : Namespace} {bytes : List Byte} {h : Nat} {s s1 : State}
    (hready : readyTask tr 0x34 s = some task) (hindex : s.ralid.index = none) (hattach : s.ralid.attach = none)
    (hns : nsFind (dParam task.desc 324 320 + 1) s = some x) (hunit : dParam task.desc 357 325 < x.blocks / 4)
    (hread : readUnit (x.base + dParam task.desc 357 325) 0 s = (some bytes, s1)) (hh : h = leNat (bytes.take 64))
    (hepoch : isCompl 24 (hEpoch h) (hEpochN h) = true) (hheader : headerOk h (x.blocks / 4 - dParam task.desc 357 325) = true)
    (hcap : hCount h ≤ nodeCapacity (hSketchSel h) s1)
    (hvec : (hCount h + vecsPerUnit (hDims h) - 1) / vecsPerUnit (hDims h)
      ≤ ((nsFind (hVecNs h + 1) s1).map (fun n => n.blocks / 4)).getD 0)
    (hlog : (nodeCapacity (hSketchSel h) s1 + 4 * 2 ^ 20 - 1) / (4 * 2 ^ 20) + 64 ≤ bits s1.ralid.logReg.toNat 63 48) :
    execAttach tr s = .next (setRalid { s1.ralid with
      attach := some { tr := tr, header := h, base := x.base + dParam task.desc 357 325 } } (setPhase tr .running s1)) := by
  unfold execAttach
  rw [hready]
  dsimp only
  rw [if_neg (by simp [hindex, hattach]), hns]
  dsimp only
  rw [if_neg (by omega), hread]
  dsimp only
  rw [← hh, if_neg (by simp [hepoch]), if_neg (by simp [hheader]), if_neg]
  simp only [Bool.or_eq_true, decide_eq_true_eq, not_or, not_lt]
  exact ⟨⟨hcap, hvec⟩, hlog⟩

/-- The index that an image with header `h` attaches. -/
def attachedIndex (h : Nat) (s : State) : RalIndex :=
  { capacity := nodeCapacity (hSketchSel h) s, dims := hDims h, sketchSel := hSketchSel h, metric := bit h 386, vecNs := hVecNs h + 1,
    entry := hEntry h, top := hCount h, freed := [],
    dead := (List.range (hCount h)).filter (fun n => decide (rDeath (recordOf n s) ≤ hEpoch h)) }

theorem execAttachLoadComplete_attaches {a : Attach} {s s1 : State} (hattach : s.ralid.attach = some a)
    (hcopy : copyImage a (setRalid { s.ralid with attach := none } s) = (true, s1)) :
    ∃ t, execAttachLoadComplete .ok s = .next t ∧ t.ralid.attach = none ∧ t.ralid.index = some (attachedIndex a.header s1) ∧
      t.ralid.current = Epoch.of (hEpoch a.header) ∧ t.ralid.open_ = Epoch.of (hEpoch a.header + 1) ∧
      t.ralid.floor = Epoch.of (hEpoch a.header) ∧ Tbl.look t.rings.tasks a.tr = none := by
  have hnone : s1.ralid.attach = none := by
    rw [snd_of_eq hcopy, ralid_copyImage]
    rfl
  unfold execAttachLoadComplete
  rw [hattach]
  dsimp only
  rw [hcopy]
  refine ⟨_, rfl, ?_⟩
  generalize hu : setRalid _ s1 = u
  obtain ⟨q, hq⟩ := ralid_startPass u
  have hralid : (complete a.tr 0 0 0 (startPass u)).ralid = { u.ralid with pass := q } := by simp only [complete_frame, hq]
  rw [hralid, ← hu]
  exact ⟨hnone, rfl, rfl, rfl, rfl, look_tasks_complete _ _ _ _ _⟩

end Sys2Proof.Machine
end

section
set_option Elab.async false
open Sys2Proof Sys2Proof.Machine

/-- Settles O42: what Ralid's commands write beside Ralid's record (stacked memory, slots, logs) leaves that record as it is. -/
theorem ralidCommandsComplete : Obligations.RalidCommandsComplete := by
  unfold Obligations.RalidCommandsComplete
  refine ⟨?insert, ?insertEnd, ?byNode, ?byKey, ?publish, ?compact, ?advance, ?apply, ?pass, ?logFull, ?attach, ?attached, ?failed,
    ?detach, ?detached, ?log, ?param, ?shards⟩
  case insert =>
    exact fun tr buffer task i n s hready hindex hserves hlen hroom hfree =>
      execInsert_starts hready hindex hserves hlen hroom hfree
  case insertEnd => exact fun n i r s hindex hr hvector => execInsertComplete_completes hindex hr hvector
  case byNode =>
    exact fun tr task i s hready hby hserves hindex hcap hkey hhas hlive =>
      execDeleteByNode_deletes hready hby hserves hindex hcap hkey hhas hlive
  case byKey => exact fun tr task s hready hby hnode hserves hroom => execDeleteByKey_stages hready hby hnode hserves hroom
  case publish =>
    intro tr task d s hready hd hepoch hfloor hserves hpub hattach hok hopen hlow hhigh hcompact hlimit
    subst hd
    exact ⟨_, _, execPublish_waits hready hepoch hfloor hserves hpub hattach hok hopen hlow hhigh hcompact hlimit,
      rfl, rfl, rfl, rfl, rfl, rfl, rfl, rfl⟩
  case compact =>
    intro p i s hpub hindex hholds hinserts hok hcompact
    obtain ⟨k, hk⟩ := sameButIndex_sweepKeys p.keys p.epoch s
    refine ⟨_, (execPublishProceed_of hpub hholds hinserts hok).trans (if_pos hcompact), rfl, ?_⟩
    rw [setRalid_ralid, hk]
  case advance =>
    intro p i s hpub hindex hholds hinserts hok hcompact
    obtain ⟨hnone, hcur, hopen, hfloor, -, -, htask⟩ := advanceEpoch_advances p (sweepKeys p.keys p.epoch s)
    exact ⟨_, (execPublishProceed_of hpub hholds hinserts hok).trans (if_neg (by simp [hcompact])), hnone, hcur, hopen, hfloor, htask⟩
  case apply =>
    intro p i s hpub hindex hholds holder
    obtain ⟨u, hexec, hlog, hcov⟩ := execPublishApply_applies hpub hindex hholds holder
    obtain ⟨hnone, hcur, hopen, hfloor, hlog', hcov', htask⟩ := advanceEpoch_advances p u
    exact ⟨_, hexec, hnone, hlog'.trans hlog, hcov'.trans hcov, hcur, hopen, hfloor, htask⟩
  case pass =>
    intro i ds s hindex hpass
    simp only [exec, execConsolidationPassComplete, hindex, hpass]
    exact ⟨_, rfl, rfl, rfl⟩
  case logFull =>
    intro ds s hpass
    simp only [exec, execConsolidationLogFull, hpass]
    exact ⟨_, rfl, by simp, by simp, by simp⟩
  case attach =>
    intro tr task x bytes h s s1 hready hindex hattach hns hunit hread hh hepoch hheader hcap hvec hlog
    refine ⟨_, execAttach_reads hready hindex hattach hns hunit hread hh hepoch hheader hcap hvec hlog, rfl, ?_⟩
    rw [setRalid_ralid]
    show s1.ralid.index = none
    rw [snd_of_eq hread]
    simpa using hindex
  case attached =>
    intro a s s1 hattach hcopy
    obtain ⟨t, ht, hnone, hindex, hcur, hopen, hfloor, htask⟩ := execAttachLoadComplete_attaches hattach hcopy
    exact ⟨t, _, ht, hnone, hindex, rfl, rfl, rfl, rfl, rfl, hcur, hopen, hfloor, htask⟩
  case failed =>
    intro r a s hattach hr
    simp only [exec, execAttachLoadComplete, hattach]
    cases r with
    | ok => exact absurd rfl hr
    | mediaError => exact ⟨_, rfl, by simp, by simp, look_tasks_complete _ _ _ _ _⟩
    | unrecoverable => exact ⟨_, rfl, by simp, by simp, look_tasks_complete _ _ _ _ _⟩
  case detach =>
    intro tr task s hready hserves
    simp only [exec, execDetach, hready]
    exact ⟨_, if_neg (by simp [hserves]), rfl⟩
  case detached =>
    intro tr s hdetach hbusy hpub
    simp only [exec, execDetachComplete, hdetach]
    exact ⟨_, if_neg (by simp [hbusy, hpub]), by simp [detachIndex], by simp [detachIndex], look_tasks_complete _ _ _ _ _⟩
  case log =>
    intro v s hworks hindex
    exact ⟨_, congrArg Host.Outcome.next ((regWrite_of_works _ hworks).trans (if_neg (by simp [hindex]))), rfl⟩
  case param =>
    intro v s hworks hindex
    exact ⟨_, congrArg Host.Outcome.next ((regWrite_of_works _ hworks).trans (if_neg (by simp [hindex]))), rfl⟩
  case shards => exact fun v s hworks => ⟨_, congrArg Host.Outcome.next (regWrite_of_works _ hworks), rfl⟩

end

section
set_option Elab.async false
/-! SUPPORT. Frames: the parts of the state that an operation, or the outcome of a command, may reach. -/

namespace Sys2Proof.Machine

theorem Part.same_refl (p : Part) (s : State) : p.same s s := by
  cases p <;> rfl

theorem Part.same.trans {p : Part} {s t u : State} (h : p.same s t) (h' : p.same t u) : p.same s u := by
  cases p <;> exact Eq.trans h' h

/-- `t` is `s` but for the parts `ps`. -/
def Frame (ps : List Part) (s t : State) : Prop := ∀ p, p ∉ ps → p.same s t

@[simp] theorem frame_iff (ps : List Part) (s t : State) : Frame ps s t ↔
    (.pending ∈ ps ∨ t.pending = s.pending) ∧ (.tclk ∈ ps ∨ t.tclk = s.tclk) ∧ (.gZero ∈ ps ∨ t.gZero = s.gZero) ∧
    (.drawn ∈ ps ∨ t.drawn = s.drawn) ∧ (.power ∈ ps ∨ t.power = s.power) ∧ (.boot ∈ ps ∨ t.boot = s.boot) ∧
    (.host ∈ ps ∨ t.host = s.host) ∧ (.rings ∈ ps ∨ t.rings = s.rings) ∧ (.evt ∈ ps ∨ t.evt = s.evt) ∧
    (.tensor ∈ ps ∨ t.tensor = s.tensor) ∧ (.mem ∈ ps ∨ t.mem = s.mem) ∧ (.ecc ∈ ps ∨ t.ecc = s.ecc) ∧
    (.spaces ∈ ps ∨ t.spaces = s.spaces) ∧ (.flash ∈ ps ∨ t.flash = s.flash) ∧ (.fabric ∈ ps ∨ t.fabric = s.fabric) ∧
    (.embed ∈ ps ∨ t.embed = s.embed) ∧ (.ralid ∈ ps ∨ t.ralid = s.ralid) ∧ (.cfl ∈ ps ∨ t.cfl = s.cfl) ∧
    (.sec ∈ ps ∨ t.sec = s.sec) := by
  constructor
  · intro h
    simp only [or_iff_not_imp_left]
    exact ⟨h .pending, h .tclk, h .gZero, h .drawn, h .power, h .boot, h .host, h .rings, h .evt, h .tensor, h .mem, h .ecc,
      h .spaces, h .flash, h .fabric, h .embed, h .ralid, h .cfl, h .sec⟩
  · simp only [or_iff_not_imp_left]
    rintro ⟨hpending, htclk, hgZero, hdrawn, hpower, hboot, hhost, hrings, hevt, htensor, hmem, hecc, hspaces, hflash, hfabric,
      hembed, hralid, hcfl, hsec⟩ p
    cases p <;> assumption

theorem Frame.refl (ps : List Part) (s : State) : Frame ps s s := fun p _ => p.same_refl s

theorem Frame.trans {ps : List Part} {s t u : State} (h : Frame ps s t) (h' : Frame ps t u) : Frame ps s u :=
  fun p hp => (h p hp).trans (h' p hp)

theorem Frame.mono {ps qs : List Part} {s t : State} (h : Frame ps s t) (hsub : ∀ p ∈ ps, p ∈ qs) : Frame qs s t :=
  fun p hp => h p (fun hmem => hp (hsub p hmem))

theorem Frame.foldl {α : Type} {ps : List Part} {f : State → α → State} (h : ∀ x a, Frame ps x (f x a)) (l : List α) (s : State) :
    Frame ps s (l.foldl f s) := by
  induction l generalizing s with
  | nil => exact .refl ps s
  | cons a l ih => exact (h s a).trans (ih _)

theorem Frame.foldl_snd {α β : Type} {ps : List Part} {f : β × State → α → β × State} (h : ∀ x a, Frame ps x.2 (f x a).2)
    (l : List α) (s : β × State) : Frame ps s.2 (l.foldl f s).2 := by
  induction l generalizing s with
  | nil => exact .refl ps s.2
  | cons a l ih => exact (h s a).trans (ih _)

/-- The command goes on, and its next state is `s` but for the parts `ps`. -/
def Reaches (ps : List Part) (s : State) (o : Host.Outcome State Fault Refusal) : Prop := ∃ t, o = .next t ∧ Frame ps s t

theorem Reaches.mono {ps qs : List Part} {s : State} {o : Host.Outcome State Fault Refusal} (h : Reaches ps s o)
    (hsub : ∀ p ∈ ps, p ∈ qs) : Reaches qs s o := by
  obtain ⟨t, ho, hframe⟩ := h
  exact ⟨t, ho, hframe.mono hsub⟩

theorem Reaches.after {ps : List Part} {s s' : State} {o : Host.Outcome State Fault Refusal} (h : Reaches ps s' o)
    (hs : Frame ps s s') : Reaches ps s o := by
  obtain ⟨t, ho, hframe⟩ := h
  exact ⟨t, ho, hs.trans hframe⟩

@[simp] theorem reaches_next (ps : List Part) (s t : State) : Reaches ps s (.next t) ↔ Frame ps s t := by
  simp [Reaches]

@[simp] theorem reaches_ite (ps : List Part) (s : State) (p : Prop) [Decidable p] (a b : Host.Outcome State Fault Refusal) :
    Reaches ps s (if p then a else b) ↔ (p → Reaches ps s a) ∧ (¬ p → Reaches ps s b) := by
  split <;> simp_all

end Sys2Proof.Machine
end

section
/-! SUPPORT. What the operations below the commands leave as they are, beyond those of the frame laws, by parts of the state. An
operation that may answer none has its law under the hypothesis that it answers. -/

namespace Sys2Proof.Machine
@[simp] theorem readRows_within (as : List Nat) (n : Nat) (s : State) :
    Within s (readRows as n s).2 (host := reached) (evt := reached) (ecc := reached) := by
  induction as generalizing s with
  | nil => simp [readRows]
  | cons a rest ih =>
    unfold readRows
    repeat' (split <;> obtain rfl := snd_of_eq ‹_ = (_, _)›)
    all_goals simp [ih]

@[simp] theorem fetchUnits_within (t k a : Nat) (s : State) :
    Within s (fetchUnits t k a s) (host := reached) (evt := reached) (tensor := reached) (mem := reached) (ecc := reached) := by
  induction k generalizing a s with
  | zero => simp [fetchUnits]
  | succ k ih =>
    unfold fetchUnits
    dsimp only
    split
    · simp
    split
    · simp
    split
    · simp
    split
    · simp
    split <;> obtain rfl := snd_of_eq ‹_ = (_, _)› <;> simp [ih]

theorem openSb_within {t : Stream} {k n : Nat} {s s' : State} (h : openSb t k s = some (n, s')) : Within s s' (host := reached)
    (evt := reached) (flash := reached) := by
  unfold openSb at h
  repeat' split at h
  all_goals cases h
  simp

theorem placeUnit_within {t : Stream} {u : MediaUnit} {src : RowSource} {n : Nat} {s s' : State}
    (h : placeUnit t u src s = some (n, s')) : Within s s' (host := reached) (evt := reached) (flash := reached) := by
  unfold placeUnit at h
  dsimp only at h
  split at h
  · cases h
  next m s1 hfound =>
    have hs1 : Within s s1 (host := reached) (evt := reached) (flash := reached) := by
      split at hfound
      · cases hfound; simp
      · exact openSb_within hfound
    split at h
    · cases h
    · cases h; simpa using hs1

theorem writeUnit_within {idx pool n : Nat} {blocks : List (Nat × List Byte)} {s s' : State}
    (h : writeUnit idx pool blocks s = some (n, s')) : Within s s' (mem := reached) (flash := reached) := by
  unfold writeUnit at h
  split at h
  · cases h
  · cases h; simp

theorem cellarAdd_within {cls idx : Nat} {place : LedgerEntry} {f : CellarFor} {s s' : State}
    (h : cellarAdd cls idx place f s = some s') : Within s s' (mem := reached) := by
  unfold cellarAdd at h
  dsimp only at h
  split at h
  · cases h
  · cases h; simp

theorem takeLock_within {l : RangeLock} {n : Nat} {s s' : State} (h : takeLock l s = some (n, s')) : Within s s'
    (flash := reached) := by
  unfold takeLock at h
  split at h
  · cases h
  · cases h; simp

@[simp] theorem deliverUnit_within (o : StoreOp) (base u lost : Nat) (bus : Bool) (s : State) :
    Within s (deliverUnit o base u lost bus s).2 (host := reached) (evt := reached) (ecc := reached) := by
  unfold deliverUnit
  refine List.foldlRecOn (motive := fun p : StoreOp × State => Within s p.2 (host := reached) (evt := reached)
    (ecc := reached)) _ _
    (by simp) (fun acc hacc b _ => ?_)
  dsimp only
  repeat' split
  all_goals simpa using hacc

@[simp] theorem startReads_within (o : StoreOp) (base : Nat) (s : State) :
    Within s (startReads o base s) (drawn := reached) (host := reached) (rings := reached) (evt := reached) (mem := reached)
      (ecc := reached) (flash := reached) := by
  unfold startReads
  extract_lets r
  have hr : Within s r.2 (host := reached) (evt := reached) (mem := reached) (ecc := reached) := by
    refine List.foldlRecOn (motive := fun p : StoreOp × State => Within s p.2 (host := reached) (evt := reached) (mem := reached)
      (ecc := reached)) _ _ (by simp) (fun acc hacc u _ => ?_)
    split <;> simpa using hacc
  simp [hr]

@[simp] theorem startWrites_within (o : StoreOp) (x : Namespace) (s : State) :
    Within s (startWrites o x s) (drawn := reached) (host := reached) (rings := reached) (evt := reached) (mem := reached)
      (flash := reached) := by
  unfold startWrites
  extract_lets need zero r trimmed s2 q src flash s3
  have hr : Within s r.2 (mem := reached) (flash := reached) := by
    refine List.foldlRecOn (motive := fun p : List Nat × State => Within s p.2 (mem := reached) (flash := reached)) _ _ (by simp)
      (fun acc hacc u _ => ?_)
    dsimp only
    split
    next hwrite => simpa [writeUnit_within hwrite] using hacc
    · exact hacc
  have hs3 : Within s s3 (mem := reached) (flash := reached) := by
    unfold s3
    split <;> simp [src, q, s2, hr]
  split <;> simp [hs3]

@[simp] theorem startOp_within (o : StoreOp) (s : State) :
    Within s (startOp o s) (drawn := reached) (host := reached) (rings := reached) (evt := reached) (mem := reached)
      (ecc := reached) (flash := reached) := by
  unfold startOp
  split <;> simp

@[simp] theorem dataCommand_within (tr opcode : Nat) (data : List Byte) (s : State) :
    Within s (dataCommand tr opcode data s) (drawn := reached) (host := reached) (rings := reached) (evt := reached)
      (mem := reached) (ecc := reached) (flash := reached) := by
  unfold dataCommand
  dsimp only
  split
  · simp
  split
  · simp
  split
  · simp
  split
  · simp
  split
  · simp
  next hlock => simp [takeLock_within hlock]

theorem cellarUnit_within {t : Nat} {inbound : Bool} {q : QEntry} {j : Job} {x : Namespace} {u : Nat} {s s' : State}
    (h : cellarUnit t inbound q j x u s = some s') : Within s s' (mem := reached) := by
  simp only [cellarUnit, Option.ite_none_left_eq_some, Option.some.injEq] at h
  obtain ⟨-, rfl⟩ := h
  simp

@[simp] theorem cellarUnits_within (t : Nat) (inbound : Bool) (q : QEntry) (j : Job) (x : Namespace) (k u : Nat) (s : State) :
    Within s (cellarUnits t inbound q j x k u s).2 (mem := reached) := by
  induction k generalizing u s with
  | zero => simp [cellarUnits]
  | succ k ih =>
    unfold cellarUnits
    split
    next hunit => simp [ih, cellarUnit_within hunit]
    · simp

@[simp] theorem cellarSlot_within (t : Nat) (inbound : Bool) (s : State) :
    Within s (cellarSlot t inbound s) (tensor := reached) (mem := reached) (flash := reached) := by
  unfold cellarSlot
  split
  next j q _ _ =>
    split
    · simp
    dsimp only
    split
    · simp
    next n s1 hheld =>
      have hs1 : Within s s1 (flash := reached) := by
        split at hheld
        · cases hheld; simp
        · exact takeLock_within hheld
      simp [hs1]
  · simp

@[simp] theorem completeSlotUnit_within (n : Nat) (r : CellarReq) (t : Nat) (inbound : Bool) (entry addr : Nat) (fua : Bool)
    (s : State) :
    Within s (completeSlotUnit n r t inbound entry addr fua s) (host := reached) (evt := reached) (tensor := reached)
      (mem := reached) (ecc := reached) (flash := reached) := by
  unfold completeSlotUnit
  dsimp only
  split
  · simp
  split
  · split
    · simp
    · simp
    · split <;> obtain rfl := snd_of_eq ‹_ = (_, _)› <;> simp
  · split
    · split <;> obtain rfl := snd_of_eq ‹_ = (_, _)›
      · simp
      · split
        · simp
        next hwrite => split <;> simp [writeUnit_within hwrite]
    · simp
    · simp

@[simp] theorem closeSb_within (n : Nat) (s : State) :
    Within s (closeSb n s) (flash := reached) := by
  unfold closeSb
  extract_lets b close src flash s1 s2 s3
  have hs2 : Within s s2 (flash := reached) := by
    refine List.foldlRecOn (motive := fun x => Within s x (flash := reached)) _ _ (by simp [s1, src]) (fun acc hacc c _ => ?_)
    dsimp only
    (repeat' split) <;> simpa using hacc
  simp [s3, hs2]

@[simp] theorem enterTrims_within (s : State) :
    Within s (enterTrims s) (host := reached) (evt := reached) (flash := reached) := by
  unfold enterTrims
  refine List.foldlRecOn (motive := fun x => Within s x (host := reached) (evt := reached) (flash := reached)) _ _ (by simp)
    (fun acc hacc p _ => ?_)
  dsimp only
  split
  · simpa using hacc
  split
  next hplace => simpa [placeUnit_within hplace] using hacc
  · exact hacc

@[simp] theorem copyUnit_within (t : Stream) (sb off : Nat) (s : State) :
    Within s (copyUnit t sb off s) (host := reached) (evt := reached) (flash := reached) := by
  unfold copyUnit
  split
  · simp
  split
  next hplace => exact placeUnit_within hplace
  · simp

@[simp] theorem relocateNext_within (sb counter : Nat) (s : State) :
    Within s (relocateNext sb counter s) (host := reached) (evt := reached) (flash := reached) := by
  unfold relocateNext
  split <;> simp

@[simp] theorem setAddr_within (list k : Nat) (s : State) :
    Within s (setAddr list k s).2 (host := reached) (evt := reached) (ecc := reached) := by
  induction k generalizing s with
  | zero => simp [setAddr]
  | succ k ih =>
    unfold setAddr
    repeat' (split <;> obtain rfl := snd_of_eq ‹_ = (_, _)›)
    all_goals simp [ih]

@[simp] theorem readSetNo_within (j : Job) (k : Nat) (s : State) :
    Within s (readSetNo j k s).2 (host := reached) (evt := reached) (ecc := reached) := by
  unfold readSetNo
  repeat' (split <;> obtain rfl := snd_of_eq ‹_ = (_, _)›)
  all_goals simp

@[simp] theorem checkLr_within (d : BitVec 1024) (k lr big : Nat) (s : State) :
    Within s (checkLr d k lr big s).2 (host := reached) (evt := reached) (ecc := reached) := by
  induction k generalizing lr big s with
  | zero => simp [checkLr]
  | succ k ih =>
    unfold checkLr
    split <;> obtain rfl := snd_of_eq ‹_ = (_, _)›
    · simp
    split
    · simp
    split <;> obtain rfl := snd_of_eq ‹_ = (_, _)›
    · simp
    split <;> simp [ih]

theorem restoreRanges_within {rs : List Nat} {a : Nat} {s s' : State} (h : restoreRanges rs a s = some s') :
    Within s s' (host := reached) (evt := reached) (tensor := reached) (mem := reached) (ecc := reached) := by
  induction rs generalizing a s with
  | nil => cases h; simp
  | cons r rs ih =>
    unfold restoreRanges at h
    split at h
    · cases h
    next hread => obtain rfl := snd_of_eq hread; simpa using ih h

@[simp] theorem finishBoundary_within (s : State) :
    Within s (finishBoundary s) (host := reached) (evt := reached) (tensor := reached) (mem := reached) := by
  unfold finishBoundary
  extract_lets r tensor s1 host tensor2 s2
  split
  · simp
  split
  · simp
  refine List.foldlRecOn (motive := fun x => Within s x (host := reached) (evt := reached) (tensor := reached)
    (mem := reached)) _ _
    (by simp [s2, s1]) (fun acc hacc t _ => ?_)
  dsimp only
  split <;> simpa using hacc

@[simp] theorem boundaryDue_within (s : State) :
    Within s (boundaryDue s) (host := reached) (evt := reached) (tensor := reached) (mem := reached) := by
  unfold boundaryDue
  split <;> simp

@[simp] theorem boundaryResume_within (s : State) :
    Within s (boundaryResume s) (host := reached) (evt := reached) (tensor := reached) (mem := reached) := by
  simp [boundaryResume]

theorem loadTables_within {e : Nat} {j : Job} {s s' : State} (h : loadTables e j s = .ok s') : Within s s' (host := reached)
    (evt := reached) (tensor := reached) (ecc := reached) := by
  unfold loadTables at h
  split at h
  · cases h
  next hentry =>
  split at h
  · cases h
  · cases h
  next hmap =>
  split at h
  · cases h
  · cases h
  next hitins =>
  split at h
  · cases h
  next hcaravans =>
  dsimp only at h
  split at h
  · cases h
  · cases h
  · cases h
  next hset =>
  cases h
  simp [snd_of_eq hset, snd_of_eq hcaravans, snd_of_eq hitins, snd_of_eq hmap, snd_of_eq hentry]

@[simp] theorem readExchange_within (j : Job) (a : Nat) (s : State) :
    Within s (readExchange j a s).2 (host := reached) (evt := reached) (ecc := reached) := by
  unfold readExchange
  split <;> obtain rfl := snd_of_eq ‹_ = (_, _)›
  · simp
  dsimp only
  split
  · simp
  split <;> obtain rfl := snd_of_eq ‹_ = (_, _)›
  · simp
  split <;> obtain rfl := snd_of_eq ‹_ = (_, _)›
  · simp
  split <;> simp

@[simp] theorem enterExchange_within (e : Nat) (j : Job) (table next : Nat) (kept : List Region) (s : State) :
    Within s (enterExchange e j table next kept s) (drawn := reached) (host := reached) (rings := reached) (evt := reached)
      (tensor := reached) (mem := reached) (ecc := reached) (flash := reached) (fabric := reached) (embed := reached) := by
  unfold enterExchange
  split <;> obtain rfl := snd_of_eq ‹_ = (_, _)› <;> simp

theorem sendPieces_within {e ctx dst k src dest n : Nat} {s s' : State} (h : sendPieces e ctx dst k src dest n s = some s') :
    Within s s' (host := reached) (evt := reached) (tensor := reached) (mem := reached) (ecc := reached) (fabric := reached) := by
  induction k generalizing src dest n s with
  | zero => cases h; simp
  | succ k ih =>
    unfold sendPieces at h
    dsimp only at h
    split at h
    · cases h
    next hread => obtain rfl := snd_of_eq hread; simpa using ih h

theorem sendOuts_within {e : Nat} {j : Job} {xs : List Nat} {s s' : State} (h : sendOuts e j xs s = .ok s') :
    Within s s' (host := reached) (evt := reached) (tensor := reached) (mem := reached) (ecc := reached) (fabric := reached) := by
  induction xs generalizing s with
  | nil => cases h; simp
  | cons x xs ih =>
    unfold sendOuts at h
    dsimp only at h
    split at h
    · cases h
    split at h
    · cases h
    next hsend => simpa [sendPieces_within hsend] using ih h

@[simp] theorem phaseEnd_within (e : Nat) (j : Job) (s : State) :
    Within s (phaseEnd e j s) (drawn := reached) (host := reached) (rings := reached) (evt := reached) (tensor := reached)
      (mem := reached) (ecc := reached) (flash := reached) (fabric := reached) (embed := reached) := by
  unfold phaseEnd
  split <;> obtain rfl := snd_of_eq ‹_ = (_, _)›
  · simp
  split
  · simp
  split <;> simp

@[simp] theorem checkBarriers_within (s : State) :
    Within s (checkBarriers s) (drawn := reached) (host := reached) (rings := reached) (evt := reached) (tensor := reached)
      (mem := reached) (ecc := reached) (flash := reached) (fabric := reached) (embed := reached) := by
  unfold checkBarriers
  dsimp only
  repeat' split
  all_goals simp

@[simp] theorem submitCheck_within (addr : Nat) (lib : LibVerdict) (extra : ExtraCheck) (s : State)
    (hextra : ∀ d x, Within x (extra d x).2 (host := reached) (evt := reached) (ecc := reached)) :
    Within s (submitCheck addr lib extra s).2 (host := reached) (evt := reached) (ecc := reached) := by
  unfold submitCheck
  split
  · simp
  split <;> obtain rfl := snd_of_eq ‹_ = (_, _)›
  · simp
  dsimp only
  split
  · simp
  split
  · simp
  split <;> obtain rfl := snd_of_eq ‹_ = (_, _)›
  · simp [hextra]
  split <;> obtain rfl := snd_of_eq ‹_ = (_, _)›
  · simp [hextra]
  · simp [hextra]
  split
  · simp [hextra]
  have hsaved : ∀ (p : Prop) [Decidable p] (a n v : Nat) (x : State),
      Within x (if p then readNat a n x else (some v, x)).2 (host := reached) (evt := reached) (ecc := reached) := by
    intro p _ a n v x
    split <;> simp
  split <;> obtain rfl := snd_of_eq ‹_ = (_, _)›
  · simp [hextra, hsaved]
  split
  · simp [hextra, hsaved]
  split <;> obtain rfl := snd_of_eq ‹_ = (_, _)› <;> simp [hextra, hsaved]

theorem admitJob_within {tr : Nat} {t : Task} {d : BitVec 1024} {hv n : Nat} {signed : List (Nat × Nat × Nat)} {s s' : State}
    (h : admitJob tr t d hv signed s = .ok (n, s')) : Within s s' (drawn := reached) (host := reached) (rings := reached)
      (evt := reached) (tensor := reached) := by
  unfold admitJob at h
  dsimp only at h
  split at h
  · cases h
  split at h
  · cases h
  split at h
  · cases h
  · cases h; simp

theorem flagLands_within {e : Nat} {j : Job} {f : FlagSetOp} {s s' : State} (h : flagLands e j f s = some s') :
    Within s s' (drawn := reached) (host := reached) (rings := reached) (evt := reached) (tensor := reached) (mem := reached)
      (flash := reached) (fabric := reached) (embed := reached) := by
  unfold flagLands at h
  dsimp only at h
  repeat' split at h
  all_goals cases h
  all_goals simp

@[simp] theorem checkReads_within (l : List (Nat × Nat)) (s : State) :
    Within s (checkReads l s).2 (host := reached) (evt := reached) (ecc := reached) := by
  induction l generalizing s with
  | nil => simp [checkReads]
  | cons p rest ih =>
    unfold checkReads
    split <;> obtain rfl := snd_of_eq ‹_ = (_, _)› <;> simp [ih]

@[simp] theorem expandNode_within (x : RalIndex) (e l sketch node : Nat) (queue : List Candidate) (s : State) :
    Within s (expandNode x e l sketch node queue s).2 (host := reached) (evt := reached) (ecc := reached) := by
  unfold expandNode
  dsimp only
  split <;> obtain rfl := snd_of_eq ‹_ = (_, _)›
  · simp
  split <;> simp

@[simp] theorem requestVector_within (x : RalIndex) (q : Nat) (vec : List Nat) (lateAll : Bool) (c : RankEntry) (s : State) :
    Within s (requestVector x q vec lateAll c s).2 (host := reached) (evt := reached) (mem := reached) (ecc := reached) := by
  unfold requestVector
  split
  · simp
  dsimp only
  split
  · split <;> obtain rfl := snd_of_eq ‹_ = (_, _)› <;> simp
  split
  · simp
  split
  next hadd => simp [cellarAdd_within hadd]
  · simp

@[simp] theorem requestAll_within (x : RalIndex) (q : Nat) (vec : List Nat) (lateAll : Bool) (l : List RankEntry) (s : State) :
    Within s (requestAll x q vec lateAll l s).2 (host := reached) (evt := reached) (mem := reached) (ecc := reached) := by
  induction l generalizing s with
  | nil => simp [requestAll]
  | cons c cs ih =>
    unfold requestAll
    dsimp only
    split <;> simp [ih]

@[simp] theorem topUpReads_within (s : State) :
    Within s (topUpReads s) (host := reached) (evt := reached) (mem := reached) (ecc := reached) (ralid := reached) := by
  unfold topUpReads
  split
  · simp
  refine List.foldlRecOn (motive := fun x => Within s x (host := reached) (evt := reached) (mem := reached) (ecc := reached)
    (ralid := reached)) _ _ (by simp) (fun acc hacc p _ => ?_)
  dsimp only
  split <;> simpa using hacc

@[simp] theorem endWalk_within (i : RalIndex) (q : Nat) (x : Query) (e : Nat) (s : State) :
    Within s (endWalk i q x e s) (drawn := reached) (host := reached) (rings := reached) (evt := reached) (mem := reached)
      (ecc := reached) (fabric := reached) (ralid := reached) := by
  simp [endWalk]

@[simp] theorem epochCorrupt_within (s : State) :
    Within s (epochCorrupt s) (drawn := reached) (host := reached) (rings := reached) (evt := reached) (mem := reached)
      (fabric := reached) (ralid := reached) := by
  unfold epochCorrupt
  extract_lets s0 s1 f status s2 s3 s4
  have h1 : Within s s1 (drawn := reached) (host := reached) (rings := reached) (evt := reached) (mem := reached)
      (fabric := reached) (ralid := reached) := by
    refine List.foldlRecOn (motive := fun x => Within s x (drawn := reached) (host := reached) (rings := reached) (evt := reached)
      (mem := reached) (fabric := reached) (ralid := reached)) _ _ (by simp [s0]) (fun acc hacc q _ => ?_)
    split <;> simpa using hacc
  have h3 : Within s s3 (drawn := reached) (host := reached) (rings := reached) (evt := reached) (mem := reached)
      (fabric := reached) (ralid := reached) := by
    unfold s3
    split <;> simp [s2, f, h1]
  have h4 : Within s s4 (drawn := reached) (host := reached) (rings := reached) (evt := reached) (mem := reached)
      (fabric := reached) (ralid := reached) := by
    unfold s4
    split <;> simp [h3]
  simp [h4]

@[simp] theorem abortWalkers_within (group : Nat) (s : State) :
    Within s (abortWalkers group s) (drawn := reached) (host := reached) (rings := reached) (evt := reached) (mem := reached)
      (fabric := reached) (ralid := reached) := by
  unfold abortWalkers
  refine List.foldlRecOn (motive := fun x => Within s x (drawn := reached) (host := reached) (rings := reached) (evt := reached)
    (mem := reached) (fabric := reached) (ralid := reached)) _ _ (by simp) (fun acc hacc p _ => ?_)
  split <;> simpa using hacc

@[simp] theorem startWalk_within (i : RalIndex) (q : Nat) (x : Query) (s : State) :
    Within s (startWalk i q x s) (drawn := reached) (host := reached) (rings := reached) (evt := reached) (mem := reached)
      (ecc := reached) (fabric := reached) (ralid := reached) := by
  unfold startWalk
  split <;> obtain rfl := snd_of_eq ‹_ = (_, _)› <;> simp

@[simp] theorem insertWalk_within (i : RalIndex) (e l sketch fuel : Nat) (queue : List Candidate) (s : State) :
    Within s (insertWalk i e l sketch fuel queue s).2 (host := reached) (evt := reached) (ecc := reached) := by
  induction fuel generalizing queue s with
  | zero => simp [insertWalk]
  | succ fuel ih =>
    unfold insertWalk
    split
    · simp
    split <;> obtain rfl := snd_of_eq ‹_ = (_, _)› <;> simp [ih]

theorem writeVector_within {i : RalIndex} {n : Nat} {vector : List Byte} {s s' : State} (h : writeVector i n vector s = some s') :
    Within s s' (host := reached) (evt := reached) (mem := reached) (ecc := reached) (flash := reached) := by
  unfold writeVector at h
  split at h
  · cases h; simp
  dsimp only at h
  obtain ⟨⟨m, _⟩, hwrite, rfl⟩ := Option.map_eq_some_iff.mp h
  generalize hr : List.foldl _ _ _ = r at hwrite
  have hread : Within s r.2 (host := reached) (evt := reached) (ecc := reached) := by
    rw [← hr]
    refine List.foldlRecOn (motive := fun p : List (Nat × List Byte) × State => Within s p.2 (host := reached) (evt := reached)
      (ecc := reached)) _ _ (by simp) (fun acc hacc b _ => ?_)
    simpa only [Within, kept, reached, readBlock_frame] using hacc
  simp [writeUnit_within hwrite, hread]

theorem startInsert_within {tr : Option Nat} {key : Nat} {vector : List Byte} {sketch : Nat} {i : RalIndex} {s s' : State}
    (h : startInsert tr key vector sketch i s = some s') : Within s s' (host := reached) (evt := reached) (mem := reached)
      (ecc := reached) (flash := reached) (ralid := reached) := by
  have hvector : ∀ (n : Nat) (x : State), Within x ((writeVector i n vector x).getD x) (host := reached) (evt := reached)
    (mem := reached)
      (ecc := reached) (flash := reached) := by
    intro n x
    cases hv : writeVector i n vector x with
    | none => simp
    | some y => exact writeVector_within hv
  unfold startInsert at h
  split at h
  · cases h
  · cases h
    simp [hvector]

@[simp] theorem copyUnits_within (k idx at_ bytes : Nat) (s : State) :
    Within s (copyUnits k idx at_ bytes s).2 (host := reached) (evt := reached) (mem := reached) (ecc := reached) := by
  induction k generalizing idx at_ bytes s with
  | zero => simp [copyUnits]
  | succ k ih =>
    unfold copyUnits
    split <;> obtain rfl := snd_of_eq ‹_ = (_, _)› <;> simp [ih]

@[simp] theorem copyImage_within (a : Attach) (s : State) :
    Within s (copyImage a s).2 (host := reached) (evt := reached) (mem := reached) (ecc := reached) := by
  unfold copyImage
  refine List.foldlRecOn (motive := fun p : Bool × State => Within s p.2 (host := reached) (evt := reached) (mem := reached)
    (ecc := reached)) _ _ (by simp) (fun acc hacc p _ => ?_)
  split <;> simpa using hacc

@[simp] theorem deliverRead_within (n : Nat) (r : CellarReq) (lost : Nat) (bus : Bool) (s : State) :
    Within s (deliverRead n r lost bus s) (drawn := reached) (host := reached) (rings := reached) (evt := reached)
      (mem := reached) (ecc := reached) (flash := reached) (fabric := reached) (ralid := reached) := by
  unfold deliverRead
  dsimp only
  split
  · split
    · split
      · simp
      split
      · simp
      split <;> obtain rfl := snd_of_eq ‹_ = (_, _)› <;> simp
    · simp
  · split
    · simp
    split <;> simp
  · simp

@[simp] theorem admitDoc_within (s : State) (d : EmbedDoc) :
    Within s (admitDoc s d) (mem := reached) (embed := reached) := by
  unfold admitDoc
  split
  · simp
  · simp only [Within, kept, reached, setEmbed_frame, putStacked_frame, and_self]

@[simp] theorem admitCommands_within (l : List Nat) (s : State) :
    Within s (admitCommands l s) (mem := reached) (embed := reached) := by
  induction l generalizing s with
  | nil => simp [admitCommands]
  | cons tr rest ih =>
    unfold admitCommands
    split
    · simp
    split
    · simp
    · simp [ih]

@[simp] theorem admitAndSelect_within (s : State) :
    Within s (admitAndSelect s) (host := reached) (evt := reached) (mem := reached) (ecc := reached) (embed := reached) := by
  simp [admitAndSelect]

@[simp] theorem rerunAdmission_within (s : State) :
    Within s (rerunAdmission s) (host := reached) (evt := reached) (tensor := reached) (mem := reached) (ecc := reached)
      (embed := reached) := by
  unfold rerunAdmission
  split
  · simp
  dsimp only
  split <;> simp

theorem handInsert_within {key : Nat} {vec : List Byte} {sketch : Nat} {s s' : State} {b : Bool}
    (h : handInsert key vec sketch s = some (b, s')) : Within s s' (host := reached) (evt := reached) (mem := reached)
      (ecc := reached) (flash := reached) (ralid := reached) := by
  unfold handInsert at h
  split at h
  · cases h; simp
  split at h
  · cases h; simp
  split at h
  · cases h
  split at h
  next hstart => cases h; exact startInsert_within hstart
  · cases h; simp

theorem endSlot_within {k : Nat} {b : BatchSlot} {s s' : State} (h : endSlot k b s = .done s') : Within s s' (drawn := reached)
    (host := reached) (rings := reached) (evt := reached) (mem := reached) (ecc := reached) (flash := reached) (embed := reached)
    (ralid := reached) := by
  unfold endSlot at h
  split at h
  · cases h; simp
  dsimp only at h
  split at h <;> obtain rfl := snd_of_eq ‹_ = (_, _)›
  · cases h; simp
  split at h
  · cases h; simp
  split at h
  · cases h; simp
  split at h
  · cases h; simp
  split at h
  · cases h
  next hhand => cases h; simp [handInsert_within hhand]
  next hhand => cases h; simp [handInsert_within hhand]

@[simp] theorem endSlots_within (l : List (Nat × BatchSlot)) (s : State) :
    Within s (endSlots l s) (drawn := reached) (host := reached) (rings := reached) (evt := reached) (mem := reached)
      (ecc := reached) (flash := reached) (embed := reached) (ralid := reached) := by
  induction l generalizing s with
  | nil => simp [endSlots]
  | cons p rest ih =>
    unfold endSlots
    split
    · simp
    next hdone => simp [ih, endSlot_within hdone]

@[simp] theorem runBoundary_within (s : State) :
    Within s (runBoundary s) (drawn := reached) (host := reached) (rings := reached) (evt := reached) (mem := reached)
      (ecc := reached) (flash := reached) (embed := reached) (ralid := reached) := by
  unfold runBoundary
  dsimp only
  split <;> simp

@[simp] theorem releaseDelayed_within (s : State) :
    Within s (releaseDelayed s) (drawn := reached) (host := reached) (rings := reached) (evt := reached) := by
  unfold releaseDelayed
  refine List.foldlRecOn (motive := fun x => Within s x (drawn := reached) (host := reached) (rings := reached)
    (evt := reached)) _ _
    (by simp) (fun acc hacc p _ => ?_)
  split <;> simpa using hacc

@[simp] theorem reachPs0_within (s : State) :
    Within s (reachPs0 s) (drawn := reached) (host := reached) (rings := reached) (evt := reached) (tensor := reached)
      (mem := reached) := by
  simp [reachPs0]

@[simp] theorem failChannel_within (mine : Nat → Bool) (s : State) :
    Within s (failChannel mine s) (mem := reached) := by
  unfold failChannel
  refine List.foldlRecOn (motive := fun x => Within s x (mem := reached)) _ _ (by simp) (fun acc hacc p _ => ?_)
  split <;> simpa using hacc

@[simp] theorem resetWalkers_within (g : Nat) (byHost : Bool) (s : State) :
    Within s (resetWalkers g byHost s) (drawn := reached) (boot := reached) (host := reached) (rings := reached) (evt := reached)
      (mem := reached) (fabric := reached) (ralid := reached) := by
  simp [resetWalkers]

@[simp] theorem resetChannel_within (c : Nat) (byHost : Bool) (s : State) :
    Within s (resetChannel c byHost s) (boot := reached) (host := reached) (evt := reached) (mem := reached) := by
  simp [resetChannel]

@[simp] theorem resetPorters_within (g : Nat) (byHost : Bool) (s : State) :
    Within s (resetPorters g byHost s) (boot := reached) (host := reached) (evt := reached) (mem := reached) := by
  simp [resetPorters]

@[simp] theorem writeRstBlock_within (v : W32) (s : State) :
    Within s (writeRstBlock v s) (drawn := reached) (boot := reached) (host := reached) (rings := reached) (evt := reached)
      (tensor := reached) (mem := reached) (fabric := reached) (ralid := reached) := by
  unfold writeRstBlock
  dsimp only
  split
  · simp
  split <;> simp

theorem recordLine_within {line : Nat} {exclusive : Bool} {s s' : State} (h : recordLine line exclusive s = some s') :
    Within s s' (host := reached) := by
  unfold recordLine at h
  repeat' split at h
  all_goals cases h
  all_goals simp

@[simp] theorem resumeWaiting_within (s : State) :
    Within s (resumeWaiting s) (host := reached) (evt := reached) (ecc := reached) := by
  unfold resumeWaiting
  split
  · simp
  split
  next hline => simp [recordLine_within hline]
  · simp

@[simp] theorem copyLost_within (unit tile entry : Nat) (s : State) :
    Within s (copyLost unit tile entry s) (drawn := reached) (host := reached) (rings := reached) (evt := reached)
      (tensor := reached) (mem := reached) (ecc := reached) (flash := reached) (fabric := reached) (ralid := reached) := by
  unfold copyLost
  repeat' split
  all_goals simp

@[simp] theorem leavePs3_within (s : State) :
    Within s (leavePs3 s) (drawn := reached) (power := reached) (host := reached) (rings := reached) (evt := reached)
      (tensor := reached) (mem := reached) (fabric := reached) := by
  simp [leavePs3]

@[simp] theorem write32_within (off : Nat) (v : W32) (s : State) :
    Within s (write32 off v s) (gZero := reached) (drawn := reached) (power := reached) (boot := reached) (host := reached)
      (rings := reached) (evt := reached) (tensor := reached) (mem := reached) (ecc := reached) (flash := reached)
      (fabric := reached) (embed := reached) (ralid := reached) (cfl := reached) (sec := reached) := by
  simp [write32]

@[simp] theorem store4_within (off : Nat) (v : W32) (s : State) :
    Within s (store4 off v s) (gZero := reached) (drawn := reached) (power := reached) (boot := reached) (host := reached)
      (rings := reached) (evt := reached) (tensor := reached) (mem := reached) (ecc := reached) (flash := reached)
      (fabric := reached) (embed := reached) (ralid := reached) (cfl := reached) (sec := reached) := by
  unfold store4
  dsimp only
  split
  · simp
  split
  · simp
  split <;> simp

@[simp] theorem store8_within (off : Nat) (v : W64) (s : State) :
    Within s (store8 off v s) (gZero := reached) (drawn := reached) (power := reached) (boot := reached) (host := reached)
      (rings := reached) (evt := reached) (tensor := reached) (mem := reached) (ecc := reached) (flash := reached)
      (fabric := reached) (embed := reached) (ralid := reached) (cfl := reached) (sec := reached) := by
  unfold store8
  split <;> simp

theorem withJob_frame {ps : List Part} {tr : Nat} {t : Task} {f : Nat → Job → State} {s : State}
    (hfail : ∀ status, Frame ps s (fail tr status s)) (h : ∀ e j, Frame ps s (f e j)) : Frame ps s (withJob tr t f s) := by
  unfold withJob
  split
  · exact h _ _
  · exact hfail _

/-- The parts that a data request reaches before it is performed, by refusing it or by failing its job. -/
def requestParts : List Part := [.drawn, .host, .rings, .evt, .tensor, .mem, .flash, .fabric, .embed]

theorem dataRequest_frame {ps : List Part} {n len : Nat} {p : Parcel} {ok write : Bool} {perform : Nat → Job → State → State}
    {s : State} (hps : ∀ p ∈ requestParts, p ∈ ps) (h : ∀ e j x, Frame ps x (perform e j x)) :
    Frame ps s (dataRequest n p ok write len perform s) := by
  unfold dataRequest
  split
  · exact Frame.mono (ps := requestParts) (by simp [requestParts]) hps
  split
  · exact Frame.mono (ps := requestParts) (by simp [requestParts]) hps
  split
  · exact Frame.mono (ps := requestParts) (by simp [requestParts]) hps
  split
  · exact Frame.mono (ps := requestParts) (by simp [requestParts]) hps
  dsimp only
  split
  · exact Frame.mono (ps := requestParts) (by simp [requestParts]) hps
  · exact (Frame.mono (ps := requestParts) (by simp [requestParts]) hps).trans (h _ _ _)

end Sys2Proof.Machine
end

section
/-! SUPPORT. What each command reaches, chapter by chapter: it goes on, and leaves every part of the state outside its reach. -/

namespace Sys2Proof.Machine

/-! Module, connectors and ratings. -/

@[simp] theorem execPwrdisRelease_reaches (straps : Straps) (s : State) : Reaches [.power] s (execPwrdisRelease straps s) := by
  unfold execPwrdisRelease
  (repeat' split) <;> simp

@[simp] theorem execPowerOnResetRelease_reaches (straps : Straps) (s : State) :
    Reaches [.gZero, .power, .boot, .evt, .fabric] s (execPowerOnResetRelease straps s) := by
  simp [execPowerOnResetRelease]

@[simp] theorem execCoolantFault_reaches (cause : CoolantCause) (s : State) :
    Reaches [.host, .evt] s (execCoolantFault cause s) := by
  simp [execCoolantFault]

/-! Itineraries. -/

@[simp] theorem execItineraryFetchReturn_reaches (tile : Fin 128) (units : Nat) (s : State) :
    Reaches [.host, .evt, .tensor, .mem, .ecc] s (execItineraryFetchReturn tile units s) := by
  simp [execItineraryFetchReturn]

@[simp] theorem execWordDispatch_reaches (tile : Fin 128) (s : State) : Reaches [.tensor, .mem] s (execWordDispatch tile s) := by
  unfold execWordDispatch
  dsimp only
  (repeat' split) <;> simp

@[simp] theorem execDispatcherUnblock_reaches (tile : Fin 128) (s : State) :
    Reaches [.tensor] s (execDispatcherUnblock tile s) := by
  unfold execDispatcherUnblock
  dsimp only
  (repeat' split) <;> simp

@[simp] theorem execEngineEntryStart_reaches (tile : Fin 128) (eng : Engine) (s : State) :
    Reaches [.tensor, .mem] s (execEngineEntryStart tile eng s) := by
  unfold execEngineEntryStart
  dsimp only
  (repeat' split) <;> simp

@[simp] theorem execNullEntryRun_reaches (tile : Fin 128) (eng : Engine) (s : State) :
    Reaches [.tensor] s (execNullEntryRun tile eng s) := by
  simp [execNullEntryRun]

@[simp] theorem execNop_reaches (tile : Fin 128) (eng : Engine) (s : State) : Reaches [.tensor] s (execNop tile eng s) := by
  simp [execNop]

@[simp] theorem execWaitTimeout_reaches (tile : Fin 128) (who : WaitEntity) (s : State) :
    Reaches [.tensor, .mem] s (execWaitTimeout tile who s) := by
  unfold execWaitTimeout
  dsimp only
  (repeat' split) <;> simp

/-! Grid. -/

@[simp] theorem execGrid_reaches (tile : Fin 128) (s : State) : Reaches [.tensor, .mem] s (execGrid tile s) := by
  unfold execGrid
  dsimp only
  (repeat' split) <;> simp

@[simp] theorem execGridStreamStart_reaches (tile : Fin 128) (s : State) :
    Reaches [.evt, .tensor] s (execGridStreamStart tile s) := by
  unfold execGridStreamStart
  dsimp only
  (repeat' split) <;> simp

@[simp] theorem execGridRowDeliver_reaches (tile : Fin 128) (s : State) :
    Reaches [.tensor] s (execGridRowDeliver tile s) := by
  unfold execGridRowDeliver
  dsimp only
  (repeat' split) <;> simp

@[simp] theorem execCorrectionPassStart_reaches (tile : Fin 128) (s : State) :
    Reaches [.tensor] s (execCorrectionPassStart tile s) := by
  simp [execCorrectionPassStart]

@[simp] theorem execCorrectionPassEnd_reaches (tile : Fin 128) (s : State) :
    Reaches [.evt, .tensor] s (execCorrectionPassEnd tile s) := by
  unfold execCorrectionPassEnd
  dsimp only
  (repeat' split) <;> simp

@[simp] theorem execEpilogueRowEnter_reaches (tile : Fin 128) (s : State) :
    Reaches [.tensor] s (execEpilogueRowEnter tile s) := by
  unfold execEpilogueRowEnter
  dsimp only
  (repeat' split) <;> simp

@[simp] theorem execGridComplete_reaches (tile : Fin 128) (s : State) : Reaches [.tensor] s (execGridComplete tile s) := by
  unfold execGridComplete
  dsimp only
  (repeat' split) <;> simp

/-! Vector unit. Every operation but VEC_CVT is `runVec` of its own function. -/

@[simp] theorem runVec_reaches (t op : Nat) (f : Rm → BitVec 128 → Tile → QBank → VecResult) (s : State) :
    Reaches [.tensor] s (runVec t op f s) := by
  unfold runVec
  split <;> simp

@[simp] theorem execVecCvt_reaches (tile : Fin 128) (s : State) : Reaches [.evt, .tensor] s (execVecCvt tile s) := by
  exact ((runVec_reaches _ _ _ _).mono (by simp)).after (by simp)

@[simp] theorem execVecOpComplete_reaches (tile : Fin 128) (s : State) :
    Reaches [.tensor] s (execVecOpComplete tile s) := by
  simp [execVecOpComplete]

/-! SYNC and LOOP slots, drains and barriers. -/

@[simp] theorem execSetctr_reaches (tile : Fin 128) (s : State) : Reaches [.tensor] s (execSetctr tile s) := by
  unfold execSetctr
  (repeat' split) <;> simp

@[simp] theorem execAddctr_reaches (tile : Fin 128) (s : State) : Reaches [.tensor] s (execAddctr tile s) := by
  unfold execAddctr
  (repeat' split) <;> simp

@[simp] theorem execCmpset_reaches (tile : Fin 128) (s : State) : Reaches [.tensor] s (execCmpset tile s) := by
  unfold execCmpset
  (repeat' split) <;> simp

@[simp] theorem execFence_reaches (tile : Fin 128) (s : State) : Reaches [.tensor] s (execFence tile s) := by
  unfold execFence
  (repeat' split) <;> simp

@[simp] theorem execStepSlot_reaches (tile : Fin 128) (s : State) : Reaches [.tensor] s (execStepSlot tile s) := by
  unfold execStepSlot
  (repeat' split) <;> simp

@[simp] theorem execPhaseSlot_reaches (tile : Fin 128) (s : State) : Reaches [.tensor] s (execPhaseSlot tile s) := by
  unfold execPhaseSlot
  (repeat' split) <;> simp

@[simp] theorem execEndSlot_reaches (tile : Fin 128) (s : State) : Reaches [.tensor] s (execEndSlot tile s) := by
  unfold execEndSlot
  (repeat' split) <;> simp

@[simp] theorem execFlaginit_reaches (tile : Fin 128) (s : State) : Reaches [.tensor] s (execFlaginit tile s) := by
  unfold execFlaginit
  (repeat' split) <;> simp

@[simp] theorem execLoopBegin_reaches (tile : Fin 128) (s : State) : Reaches [.tensor, .mem] s (execLoopBegin tile s) := by
  unfold execLoopBegin
  dsimp only
  (repeat' split) <;> simp

@[simp] theorem execTileDrainComplete_reaches (tile : Fin 128) (s : State) :
    Reaches [.drawn, .host, .rings, .evt, .tensor, .mem, .ecc, .flash, .fabric, .embed] s (execTileDrainComplete tile s) := by
  unfold execTileDrainComplete
  dsimp only
  split
  · simp
  split <;> simp

@[simp] theorem execStepBarrierEnd_reaches (s : State) : Reaches [.host, .evt, .tensor, .mem] s (execStepBarrierEnd s) := by
  simp [execStepBarrierEnd]

@[simp] theorem execStepSetLoadComplete_reaches (s : State) : Reaches [.host, .evt, .tensor, .mem, .ecc]
    s (execStepSetLoadComplete s) := by
  unfold execStepSetLoadComplete
  (repeat' split) <;> simp

/-! Porters, Caravans, Cellar Porters. -/

@[simp] theorem execLoad_reaches (tile : Fin 128) (s : State) : Reaches [.host, .evt, .tensor, .mem, .ecc]
    s (execLoad tile s) := by
  unfold execLoad
  dsimp only
  split
  · simp
  split
  · simp
  split <;> obtain rfl := snd_of_eq ‹_ = (_, _)› <;> simp

@[simp] theorem execStore_reaches (tile : Fin 128) (s : State) : Reaches [.host, .tensor, .mem] s (execStore tile s) := by
  unfold execStore
  dsimp only
  (repeat' split) <;> simp

@[simp] theorem execCaravanLoad_reaches (tile : Fin 128) (s : State) : Reaches [.tensor] s (execCaravanLoad tile s) := by
  simp [execCaravanLoad]

@[simp] theorem execCaravanRecv_reaches (tile : Fin 128) (s : State) : Reaches [.tensor] s (execCaravanRecv tile s) := by
  simp [execCaravanRecv]

@[simp] theorem execCellarRead_reaches (tile : Fin 128) (s : State) : Reaches [.tensor, .mem, .flash]
    s (execCellarRead tile s) := by
  simp [execCellarRead]

@[simp] theorem execCellarWrite_reaches (tile : Fin 128) (s : State) : Reaches [.tensor, .mem, .flash]
    s (execCellarWrite tile s) := by
  simp [execCellarWrite]

@[simp] theorem execRemoteGet_reaches (tile : Fin 128) (s : State) : Reaches [.tensor, .fabric] s (execRemoteGet tile s) := by
  simp [execRemoteGet]

@[simp] theorem execRemotePut_reaches (tile : Fin 128) (s : State) : Reaches [.tensor, .fabric] s (execRemotePut tile s) := by
  simp [execRemotePut]

@[simp] theorem execRemoteAdd_reaches (tile : Fin 128) (s : State) : Reaches [.tensor, .fabric] s (execRemoteAdd tile s) := by
  simp [execRemoteAdd]

@[simp] theorem execReduce_reaches (tile : Fin 128) (s : State) : Reaches [.tensor, .mem, .fabric] s (execReduce tile s) := by
  unfold execReduce
  dsimp only
  (repeat' split) <;> simp

@[simp] theorem execFlagTile_reaches (tile : Fin 128) (s : State) : Reaches [.tensor] s (execFlagTile tile s) := by
  unfold execFlagTile
  dsimp only
  (repeat' split) <;> simp

@[simp] theorem execFlagRemote_reaches (tile : Fin 128) (s : State) : Reaches [.tensor, .fabric] s (execFlagRemote tile s) := by
  unfold execFlagRemote
  dsimp only
  (repeat' split) <;> simp

@[simp] theorem execPorterEntryComplete_reaches (tile : Fin 128) (eng : Engine) (s : State) :
    Reaches [.tensor, .flash] s (execPorterEntryComplete tile eng s) := by
  unfold execPorterEntryComplete
  dsimp only
  (repeat' split) <;> simp

@[simp] theorem execCaravanDeliveryStart_reaches (group : Fin 256) (s : State) :
    Reaches [.tensor, .mem] s (execCaravanDeliveryStart group s) := by
  unfold execCaravanDeliveryStart
  extract_lets +onlyGivenNames g
  split
  · simp
  split
  · simp
  extract_lets +onlyGivenNames ms joined
  split
  · simp
  extract_lets +onlyGivenNames differs bad
  split
  · simp
  extract_lets +onlyGivenNames start s1
  have hstart : ∀ op t acc, Within acc (start op t acc) (tensor := reached) := by
    intro op t acc
    unfold start
    split <;> simp
  simp [s1, hstart]

@[simp] theorem execCaravanDeliveryComplete_reaches (group : Fin 256) (s : State) :
    Reaches [.host, .evt, .tensor, .mem, .ecc] s (execCaravanDeliveryComplete group s) := by
  unfold execCaravanDeliveryComplete
  dsimp only
  split
  · simp
  split
  · simp
  split
  · simp
  split
  · simp
  split <;> obtain rfl := snd_of_eq ‹_ = (_, _)› <;> rw [reaches_next]
  all_goals
    refine List.foldlRecOn (motive := Frame [.host, .evt, .tensor, .mem, .ecc] s) _ _ (by simp) (fun acc hacc p _ => ?_)
    refine hacc.trans ?_
    split <;> simp

@[simp] theorem execCellarUnitIssue_reaches (porter : Fin 32) (s : State) :
    Reaches [.mem] s (execCellarUnitIssue porter s) := by
  unfold execCellarUnitIssue
  dsimp only
  (repeat' split) <;> simp

@[simp] theorem execCellarRequestDeadline_reaches (request : Nat) (s : State) :
    Reaches [.drawn, .host, .rings, .evt, .mem, .ecc, .fabric, .ralid] s (execCellarRequestDeadline request s) := by
  unfold execCellarRequestDeadline
  (repeat' split) <;> simp

@[simp] theorem execCellarUnitComplete_reaches (request : Nat) (s : State) :
    Reaches [.drawn, .host, .rings, .evt, .tensor, .mem, .ecc, .flash, .fabric, .ralid] s (execCellarUnitComplete request s) := by
  unfold execCellarUnitComplete
  (repeat' split) <;> simp

@[simp] theorem execReservationFrameEnd_reaches (short : List (Fin 64 × Fin 256)) (s : State) :
    Reaches [.host, .evt, .mem] s (execReservationFrameEnd short s) := by
  unfold execReservationFrameEnd
  dsimp only
  (repeat' split) <;> simp

@[simp] theorem execPtrAreaWrite_reaches (index : Fin 8) (value : W32) (s : State) :
    Reaches [.mem, .cfl] s (execPtrAreaWrite index value s) := by
  simp [execPtrAreaWrite]

@[simp] theorem execPtrResvWrite_reaches (index : Fin 64) (value : W64) (s : State) :
    Reaches [.mem] s (execPtrResvWrite index value s) := by
  simp [execPtrResvWrite]

/-! Jobs. -/

@[simp] theorem execJobSubmit_reaches (tr : Nat) (lib : LibVerdict) (s : State) :
    Reaches [.drawn, .host, .rings, .evt, .tensor, .mem, .ecc] s (execJobSubmit tr lib s) := by
  unfold execJobSubmit
  split
  · simp
  split <;> obtain rfl := snd_of_eq ‹_ = (_, _)›
  · simp
  split
  · simp
  next hadmit => simp [admitJob_within hadmit]

@[simp] theorem execJobAbort_reaches (tr : Nat) (s : State) :
    Reaches [.drawn, .host, .rings, .evt, .tensor, .mem, .flash, .fabric, .embed] s (execJobAbort tr s) := by
  unfold execJobAbort
  split
  · simp
  refine (reaches_next _ _ _).mpr (withJob_frame (by simp) (fun e j => ?_))
  dsimp only
  split <;> simp

@[simp] theorem execJobKick_reaches (tr : Nat) (s : State) : Reaches [.drawn, .host, .rings, .evt, .tensor, .mem]
    s (execJobKick tr s) := by
  unfold execJobKick
  split
  · simp
  exact (reaches_next _ _ _).mpr (withJob_frame (by simp) (by simp))

@[simp] theorem execJobSuspend_reaches (tr : Nat) (s : State) : Reaches [.drawn, .host, .rings, .evt, .tensor]
    s (execJobSuspend tr s) := by
  unfold execJobSuspend
  split
  · simp
  refine (reaches_next _ _ _).mpr (withJob_frame (by simp) (fun e j => ?_))
  dsimp only
  split <;> simp

@[simp] theorem execJobResume_reaches (tr : Nat) (s : State) : Reaches [.drawn, .host, .rings, .evt, .tensor, .mem]
    s (execJobResume tr s) := by
  unfold execJobResume
  split
  · simp
  refine (reaches_next _ _ _).mpr (withJob_frame (by simp) (fun e j => ?_))
  split <;> simp

@[simp] theorem execJobQuery_reaches (tr : Nat) (s : State) : Reaches [.drawn, .host, .rings, .evt] s (execJobQuery tr s) := by
  unfold execJobQuery
  (repeat' split) <;> simp

@[simp] theorem execSliceExpiry_reaches (s : State) : Reaches [.host, .evt, .tensor, .mem] s (execSliceExpiry s) := by
  unfold execSliceExpiry
  (repeat' split) <;> simp

@[simp] theorem execStarvationPromotion_reaches (jobTag : W32) (s : State) :
    Reaches [.host, .evt, .tensor, .mem] s (execStarvationPromotion jobTag s) := by
  unfold execStarvationPromotion
  (repeat' split) <;> simp

@[simp] theorem execUrgentQuantumEnd_reaches (s : State) : Reaches [.host, .evt, .tensor, .mem] s (execUrgentQuantumEnd s) := by
  unfold execUrgentQuantumEnd
  (repeat' split) <;> simp

@[simp] theorem execPreemptLate_reaches (s : State) : Reaches [.host, .evt, .tensor] s (execPreemptLate s) := by
  unfold execPreemptLate
  (repeat' split) <;> simp

@[simp] theorem execJobSaveComplete_reaches (s : State) :
    Reaches [.drawn, .host, .rings, .evt, .tensor, .mem, .ecc, .flash, .fabric, .embed] s (execJobSaveComplete s) := by
  unfold execJobSaveComplete
  split
  · simp
  split
  · simp
  split <;> obtain rfl := snd_of_eq ‹_ = (_, _)›
  · simp
  split <;> obtain rfl := snd_of_eq ‹_ = (_, _)›
  · simp
  simp

@[simp] theorem execSwitchClearComplete_reaches (s : State) : Reaches [.tensor, .mem] s (execSwitchClearComplete s) := by
  simp [execSwitchClearComplete]

@[simp] theorem execSwitchTableLoadComplete_reaches (s : State) :
    Reaches [.drawn, .host, .rings, .evt, .tensor, .mem, .ecc, .flash, .fabric, .embed] s (execSwitchTableLoadComplete s) := by
  unfold execSwitchTableLoadComplete
  split
  · simp
  split
  · simp
  split
  · simp
  next hload => simp [loadTables_within hload]

@[simp] theorem execJobRestoreComplete_reaches (s : State) :
    Reaches [.drawn, .host, .rings, .evt, .tensor, .mem, .ecc, .flash, .fabric, .embed] s (execJobRestoreComplete s) := by
  unfold execJobRestoreComplete
  split
  · simp
  split
  · simp
  split
  · simp
  split <;> obtain rfl := snd_of_eq ‹_ = (_, _)›
  · simp
  split <;> obtain rfl := snd_of_eq ‹_ = (_, _)›
  · simp
  split
  · simp
  next hrestore => simp [restoreRanges_within hrestore]

@[simp] theorem execExchangeFirstBarrierDone_reaches (jobTag : W32) (s : State) :
    Reaches [.drawn, .host, .rings, .evt, .tensor, .mem, .ecc, .flash, .fabric, .embed]
      s (execExchangeFirstBarrierDone jobTag s) := by
  unfold execExchangeFirstBarrierDone
  split
  · simp
  split
  · simp
  dsimp only
  split <;> obtain rfl := snd_of_eq ‹_ = (_, _)›
  · simp
  split <;> obtain rfl := snd_of_eq ‹_ = (_, _)›
  · split
    next hsend => simp [sendOuts_within hsend]
    · simp
  · simp
  · simp

@[simp] theorem execExchangeLanded_reaches (jobTag : W32) (s : State) :
    Reaches [.drawn, .host, .rings, .evt, .tensor, .mem, .flash, .fabric, .embed] s (execExchangeLanded jobTag s) := by
  unfold execExchangeLanded
  (repeat' split) <;> simp

@[simp] theorem execExchangeComplete_reaches (jobTag : W32) (s : State) :
    Reaches [.drawn, .host, .rings, .evt, .tensor, .mem, .flash, .fabric, .embed] s (execExchangeComplete jobTag s) := by
  unfold execExchangeComplete
  (repeat' split) <;> simp

@[simp] theorem execExchangeTimeout_reaches (jobTag : W32) (s : State) :
    Reaches [.drawn, .host, .rings, .evt, .tensor, .mem, .flash, .fabric, .embed] s (execExchangeTimeout jobTag s) := by
  unfold execExchangeTimeout
  (repeat' split) <;> simp

@[simp] theorem execJobEnd_reaches (jobTag : W32) (s : State) :
    Reaches [.drawn, .host, .rings, .evt, .tensor, .mem, .flash, .fabric, .embed] s (execJobEnd jobTag s) := by
  unfold execJobEnd
  (repeat' split) <;> simp

/-! Embedding service. -/

@[simp] theorem execEmbedBind_reaches (tr : Nat) (lib : LibVerdict) (s : State) :
    Reaches [.drawn, .host, .rings, .evt, .tensor, .mem, .ecc, .embed] s (execEmbedBind tr lib s) := by
  unfold execEmbedBind
  split
  · simp
  split
  · simp
  split <;> obtain rfl := snd_of_eq ‹_ = (_, _)›
  · simp
  split
  · simp
  next hadmit => simp [admitJob_within hadmit]

@[simp] theorem execEmbedSubmit_reaches (tr : Nat) (list : List Byte) (s : State) :
    Reaches [.drawn, .host, .rings, .evt, .tensor, .mem, .ecc, .embed] s (execEmbedSubmit tr list s) := by
  unfold execEmbedSubmit
  (repeat' split) <;> simp

@[simp] theorem execEmbedCancel_reaches (tr : Nat) (s : State) : Reaches [.drawn, .host, .rings, .evt, .embed]
    s (execEmbedCancel tr s) := by
  unfold execEmbedCancel
  dsimp only
  (repeat' split) <;> simp

@[simp] theorem execEmbedUnbind_reaches (tr : Nat) (s : State) : Reaches [.drawn, .host, .rings, .evt, .embed]
    s (execEmbedUnbind tr s) := by
  unfold execEmbedUnbind
  (repeat' split) <;> simp

@[simp] theorem execEmbedUnbindComplete_reaches (s : State) : Reaches [.drawn, .host, .rings, .evt, .embed]
    s (execEmbedUnbindComplete s) := by
  simp [execEmbedUnbindComplete]

@[simp] theorem execStagingReadStart_reaches (s : State) : Reaches [.embed] s (execStagingReadStart s) := by
  unfold execStagingReadStart
  (repeat' split) <;> simp

@[simp] theorem execStagingReadComplete_reaches (ctx : Nat) (result : MediaResult) (tokens : List W32) (s : State) :
    Reaches [.host, .evt, .tensor, .mem, .ecc, .embed] s (execStagingReadComplete ctx result tokens s) := by
  unfold execStagingReadComplete
  (repeat' split) <;> simp

@[simp] theorem execBatchStepBoundary_reaches (s : State) :
    Reaches [.drawn, .host, .rings, .evt, .mem, .ecc, .flash, .embed, .ralid] s (execBatchStepBoundary s) := by
  simp [execBatchStepBoundary]

@[simp] theorem execBoundaryInsertResume_reaches (s : State) :
    Reaches [.drawn, .host, .rings, .evt, .mem, .ecc, .flash, .embed, .ralid] s (execBoundaryInsertResume s) := by
  unfold execBoundaryInsertResume
  (repeat' split) <;> simp

@[simp] theorem execBoundaryProcedureEnd_reaches (durationUs : Nat) (s : State) :
    Reaches [.host, .evt, .tensor, .mem, .ecc, .embed] s (execBoundaryProcedureEnd durationUs s) := by
  unfold execBoundaryProcedureEnd
  (repeat' split) <;> simp

/-! Ralid. -/

@[simp] theorem execQuery_reaches (tr : Nat) (buffer : List Byte) (s : State) :
    Reaches [.drawn, .host, .rings, .evt, .ralid] s (execQuery tr buffer s) := by
  unfold execQuery
  (repeat' split) <;> simp

@[simp] theorem execQueryAdmit_reaches (s : State) : Reaches [.drawn, .host, .rings, .evt, .mem, .ecc, .fabric, .ralid]
    s (execQueryAdmit s) := by
  unfold execQueryAdmit
  (repeat' split) <;> simp

@[simp] theorem execWalkExpand_reaches (query : Nat) (s : State) :
    Reaches [.drawn, .host, .rings, .evt, .mem, .ecc, .fabric, .ralid] s (execWalkExpand query s) := by
  unfold execWalkExpand
  split
  · split
    · simp
    dsimp only
    split
    · simp
    split
    · simp
    split <;> obtain rfl := snd_of_eq ‹_ = (_, _)› <;> simp
  · simp

@[simp] theorem execRerankDeadline_reaches (query : Nat) (s : State) :
    Reaches [.drawn, .host, .rings, .evt, .mem, .fabric, .ralid] s (execRerankDeadline query s) := by
  unfold execRerankDeadline
  (repeat' split) <;> simp

@[simp] theorem execMergeDeadline_reaches (query : Nat) (s : State) : Reaches [.drawn, .host, .rings, .evt, .mem, .fabric, .ralid]
    s (execMergeDeadline query s) := by
  unfold execMergeDeadline
  dsimp only
  (repeat' split) <;> simp

@[simp] theorem execInsert_reaches (tr : Nat) (buffer : List Byte) (s : State) :
    Reaches [.drawn, .host, .rings, .evt, .mem, .ecc, .flash, .ralid] s (execInsert tr buffer s) := by
  unfold execInsert
  split
  · simp
  split
  · simp
  dsimp only
  split
  · simp
  split
  · simp
  split
  · simp
  split
  next hstart => simp [startInsert_within hstart]
  · simp

@[simp] theorem execInsertComplete_reaches (node : Nat) (s : State) :
    Reaches [.drawn, .host, .rings, .evt, .mem, .ecc, .flash, .ralid] s (execInsertComplete node s) := by
  unfold execInsertComplete
  split
  next i r _ _ =>
    split
    · simp
    next s1 hvector =>
      have hs1 : Within s s1 (host := reached) (evt := reached) (mem := reached) (ecc := reached) (flash := reached) := by
        split at hvector
        · cases hvector
          simp
        · exact writeVector_within hvector
      dsimp only
      rw [reaches_next]
      split <;> simp [hs1]
  · simp

@[simp] theorem execDeleteByNode_reaches (tr : Nat) (s : State) : Reaches [.drawn, .host, .rings, .evt, .mem, .ralid]
    s (execDeleteByNode tr s) := by
  unfold execDeleteByNode
  (repeat' split) <;> simp

@[simp] theorem execDeleteByKey_reaches (tr : Nat) (s : State) : Reaches [.drawn, .host, .rings, .evt, .ralid]
    s (execDeleteByKey tr s) := by
  unfold execDeleteByKey
  (repeat' split) <;> simp

@[simp] theorem execPublish_reaches (tr : Nat) (s : State) : Reaches [.drawn, .host, .rings, .evt, .mem, .fabric, .ralid]
    s (execPublish tr s) := by
  unfold execPublish
  (repeat' split) <;> simp

@[simp] theorem execPublishProceed_reaches (s : State) : Reaches [.drawn, .host, .rings, .evt, .mem, .fabric, .ralid]
    s (execPublishProceed s) := by
  unfold execPublishProceed
  (repeat' split) <;> simp

@[simp] theorem execPublishApply_reaches (s : State) : Reaches [.drawn, .host, .rings, .evt, .mem, .ralid]
    s (execPublishApply s) := by
  unfold execPublishApply
  split
  next p i _ _ =>
    extract_lets +onlyGivenNames older
    split
    · simp
    extract_lets +onlyGivenNames s1
    have hs1 : Frame [.drawn, .host, .rings, .evt, .mem, .ralid] s s1 := by
      refine Frame.foldl (fun acc l => ?_) _ _
      split <;> simp
    exact (reaches_next _ _ _).mpr (hs1.trans (by simp))
  · simp

@[simp] theorem execConsolidationPassComplete_reaches (s : State) :
    Reaches [.ralid] s (execConsolidationPassComplete s) := by
  unfold execConsolidationPassComplete
  (repeat' split) <;> simp

@[simp] theorem execConsolidationLogFull_reaches (s : State) : Reaches [.host, .evt, .ralid] s (execConsolidationLogFull s) := by
  unfold execConsolidationLogFull
  (repeat' split) <;> simp

@[simp] theorem execAttach_reaches (tr : Nat) (s : State) : Reaches [.drawn, .host, .rings, .evt, .ecc, .ralid]
    s (execAttach tr s) := by
  unfold execAttach
  split
  · simp
  extract_lets +onlyGivenNames unit
  split
  · simp
  split
  · simp
  split
  · simp
  split <;> obtain rfl := snd_of_eq ‹_ = (_, _)›
  · simp
  extract_lets +onlyGivenNames h cap vecUnits log
  split
  · simp
  split
  · simp
  split
  · simp
  · simp

@[simp] theorem execAttachLoadComplete_reaches (result : MediaResult) (s : State) :
    Reaches [.drawn, .host, .rings, .evt, .mem, .ecc, .ralid] s (execAttachLoadComplete result s) := by
  unfold execAttachLoadComplete
  dsimp only
  split
  · simp
  split
  · simp
  · simp
  split <;> obtain rfl := snd_of_eq ‹_ = (_, _)› <;> simp

@[simp] theorem execDetach_reaches (tr : Nat) (s : State) : Reaches [.drawn, .host, .rings, .evt, .ralid]
    s (execDetach tr s) := by
  unfold execDetach
  (repeat' split) <;> simp

@[simp] theorem execDetachComplete_reaches (s : State) : Reaches [.drawn, .host, .rings, .evt, .ralid]
    s (execDetachComplete s) := by
  unfold execDetachComplete
  (repeat' split) <;> simp

@[simp] theorem execRalLogWrite_reaches (value : W64) (s : State) : Reaches [.ralid] s (execRalLogWrite value s) := by
  simp [execRalLogWrite]

@[simp] theorem execRalParamWrite_reaches (value : W64) (s : State) : Reaches [.ralid] s (execRalParamWrite value s) := by
  simp [execRalParamWrite]

@[simp] theorem execRalShardsWrite_reaches (value : W64) (s : State) :
    Reaches [.ralid] s (execRalShardsWrite value s) := by
  simp [execRalShardsWrite]

/-! Kyober fabric. -/

@[simp] theorem execPortEnable_reaches (port : Fin 16) (s : State) : Reaches [.fabric] s (execPortEnable port s) := by
  simp [execPortEnable]

@[simp] theorem execPortDisable_reaches (port : Fin 16) (s : State) : Reaches [.host, .evt, .fabric]
    s (execPortDisable port s) := by
  simp [execPortDisable]

@[simp] theorem execPortRetrain_reaches (port : Fin 16) (s : State) : Reaches [.fabric] s (execPortRetrain port s) := by
  simp [execPortRetrain]

@[simp] theorem execSignalDetected_reaches (port : Fin 16) (s : State) :
    Reaches [.fabric] s (execSignalDetected port s) := by
  simp [execSignalDetected]

@[simp] theorem execEqualiseComplete_reaches (port : Fin 16) (s : State) :
    Reaches [.fabric] s (execEqualiseComplete port s) := by
  simp [execEqualiseComplete]

@[simp] theorem execAlignComplete_reaches (port : Fin 16) (healthy : BitVec 4) (s : State) :
    Reaches [.fabric] s (execAlignComplete port healthy s) := by
  simp [execAlignComplete]

@[simp] theorem execLinkExchangeComplete_reaches (port : Fin 16) (peer : PeerInfo) (s : State) :
    Reaches [.host, .evt, .fabric] s (execLinkExchangeComplete port peer s) := by
  simp [execLinkExchangeComplete]

@[simp] theorem execTrainingStateTimeout_reaches (port : Fin 16) (s : State) :
    Reaches [.host, .evt, .fabric] s (execTrainingStateTimeout port s) := by
  simp [execTrainingStateTimeout]

@[simp] theorem execTrainingRetryWaitExpiry_reaches (port : Fin 16) (s : State) :
    Reaches [.fabric] s (execTrainingRetryWaitExpiry port s) := by
  simp [execTrainingRetryWaitExpiry]

@[simp] theorem execQuadFail_reaches (port : Fin 16) (quad : Fin 4) (s : State) :
    Reaches [.fabric] s (execQuadFail port quad s) := by
  simp [execQuadFail]

@[simp] theorem execFastRetrainComplete_reaches (port : Fin 16) (result : Option PeerInfo) (s : State) :
    Reaches [.host, .evt, .fabric] s (execFastRetrainComplete port result s) := by
  unfold execFastRetrainComplete
  (repeat' split) <;> simp

@[simp] theorem execPeerTransmitStop_reaches (port : Fin 16) (s : State) :
    Reaches [.host, .evt, .fabric] s (execPeerTransmitStop port s) := by
  simp [execPeerTransmitStop]

@[simp] theorem execDataFlitReceive_reaches (port : Fin 16) (flit : Flit) (s : State) :
    Reaches [.host, .evt, .fabric] s (execDataFlitReceive port flit s) := by
  simp [execDataFlitReceive]

@[simp] theorem execIdleFlitReceive_reaches (port : Fin 16) (flit : Flit) (s : State) :
    Reaches [.fabric] s (execIdleFlitReceive port flit s) := by
  simp [execIdleFlitReceive]

@[simp] theorem execReplayRequestReceive_reaches (port : Fin 16) (flit : Flit) (s : State) :
    Reaches [.fabric] s (execReplayRequestReceive port flit s) := by
  unfold execReplayRequestReceive
  dsimp only
  (repeat' split) <;> simp

@[simp] theorem execAckTimer_reaches (port : Fin 16) (s : State) : Reaches [.fabric] s (execAckTimer port s) := by
  simp [execAckTimer]

@[simp] theorem execFlitSend_reaches (port : Fin 16) (vc : Fin 3) (s : State) :
    Reaches [.evt, .fabric] s (execFlitSend port vc s) := by
  simp [execFlitSend]

@[simp] theorem execPut_reaches (port : Fin 16) (s : State) :
    Reaches [.drawn, .host, .rings, .evt, .tensor, .mem, .flash, .fabric, .embed] s (execPut port s) := by
  unfold execPut
  dsimp only
  (repeat' split) <;> simp

@[simp] theorem execGet_reaches (port : Fin 16) (s : State) :
    Reaches [.drawn, .host, .rings, .evt, .tensor, .mem, .ecc, .flash, .fabric, .embed] s (execGet port s) := by
  unfold execGet
  dsimp only
  split
  · simp
  refine (reaches_next _ _ _).mpr (dataRequest_frame (by simp [requestParts]) (fun e j x => ?_))
  split <;> obtain rfl := snd_of_eq ‹_ = (_, _)› <;> simp

@[simp] theorem execAdd_reaches (port : Fin 16) (s : State) :
    Reaches [.drawn, .host, .rings, .evt, .tensor, .mem, .ecc, .flash, .fabric, .embed] s (execAdd port s) := by
  unfold execAdd
  dsimp only
  split
  · simp
  refine (reaches_next _ _ _).mpr (dataRequest_frame (by simp [requestParts]) (fun e j x => ?_))
  split <;> obtain rfl := snd_of_eq ‹_ = (_, _)› <;> simp

@[simp] theorem execFlagSet_reaches (port : Fin 16) (s : State) :
    Reaches [.drawn, .host, .rings, .evt, .tensor, .mem, .flash, .fabric, .embed] s (execFlagSet port s) := by
  unfold execFlagSet
  dsimp only
  split
  · simp
  split
  · simp
  split
  · simp
  split
  next hlands => simp [flagLands_within hlands]
  · simp

@[simp] theorem execReduceUp_reaches (port : Fin 16) (s : State) :
    Reaches [.drawn, .host, .rings, .evt, .tensor, .mem, .flash, .fabric, .embed] s (execReduceUp port s) := by
  unfold execReduceUp
  dsimp only
  (repeat' split) <;> simp

@[simp] theorem execReduceSegmentCombine_reaches (ctx : BitVec 12) (reduceId : BitVec 12) (segment : Nat) (s : State) :
    Reaches [.drawn, .host, .rings, .evt, .tensor, .mem, .flash, .fabric, .embed]
      s (execReduceSegmentCombine ctx reduceId segment s) := by
  unfold execReduceSegmentCombine
  dsimp only
  (repeat' split) <;> simp

@[simp] theorem execReduceDown_reaches (port : Fin 16) (s : State) :
    Reaches [.drawn, .host, .rings, .evt, .tensor, .mem, .flash, .fabric, .embed] s (execReduceDown port s) := by
  unfold execReduceDown
  dsimp only
  (repeat' split) <;> simp

@[simp] theorem execQueryParcel_reaches (port : Fin 16) (s : State) : Reaches [.host, .evt, .fabric, .ralid]
    s (execQueryParcel port s) := by
  unfold execQueryParcel
  dsimp only
  (repeat' split) <;> simp

@[simp] theorem execResult_reaches (port : Fin 16) (s : State) : Reaches [.drawn, .host, .rings, .evt, .mem, .fabric, .ralid]
    s (execResult port s) := by
  unfold execResult
  dsimp only
  (repeat' split) <;> simp

@[simp] theorem execRsp_reaches (port : Fin 16) (s : State) :
    Reaches [.drawn, .host, .rings, .evt, .tensor, .mem, .flash, .fabric, .embed, .ralid] s (execRsp port s) := by
  unfold execRsp
  dsimp only
  (repeat' split) <;> simp

@[simp] theorem execGetData_reaches (port : Fin 16) (s : State) :
    Reaches [.drawn, .host, .rings, .evt, .tensor, .mem, .flash, .fabric, .embed] s (execGetData port s) := by
  unfold execGetData
  dsimp only
  (repeat' split) <;> simp

@[simp] theorem execResponseTimeout_reaches (tag : BitVec 16) (s : State) :
    Reaches [.drawn, .host, .rings, .evt, .tensor, .mem, .flash, .fabric, .embed, .ralid] s (execResponseTimeout tag s) := by
  unfold execResponseTimeout
  (repeat' split) <;> simp

@[simp] theorem execKybDeviceIdWrite_reaches (value : W32) (s : State) :
    Reaches [.fabric] s (execKybDeviceIdWrite value s) := by
  simp [execKybDeviceIdWrite]

@[simp] theorem execKybRouteWrite_reaches (dest : BitVec 12) (value : W64) (s : State) :
    Reaches [.fabric] s (execKybRouteWrite dest value s) := by
  simp [execKybRouteWrite]

/-! Flash media and the Ledger. -/

@[simp] theorem execNandReadComplete_reaches (request : Nat) (outcome : PageOutcome) (s : State) :
    Reaches [.drawn, .host, .rings, .evt, .mem, .ecc, .flash, .fabric, .ralid] s (execNandReadComplete request outcome s) := by
  unfold execNandReadComplete
  split
  · simp
  split
  · simp
  · simp

@[simp] theorem execNandProgramComplete_reaches (sb : Nat) (failed : BitVec 32) (dur10us : Nat) (s : State) :
    Reaches [.drawn, .host, .rings, .evt, .mem, .flash] s (execNandProgramComplete sb failed dur10us s) := by
  unfold execNandProgramComplete
  extract_lets +onlyGivenNames s0 b full
  split
  · simp [s0]
  extract_lets +onlyGivenNames ch limit s1 s2
  have hs2 : Within s s2 (drawn := reached) (host := reached) (rings := reached) (evt := reached) (mem := reached)
    (flash := reached) := by simp [s2, s1, s0]
  split
  · simp [hs2]
  · extract_lets s3 back
    have hback : ∀ acc u, Within acc (back acc u) (flash := reached) := by
      intro acc u
      unfold back
      split <;> simp
    simp [s3, hback, hs2]

@[simp] theorem execNandEraseComplete_reaches (sb : Nat) (failed : BitVec 32) (dur10us : Nat) (s : State) :
    Reaches [.host, .evt, .flash] s (execNandEraseComplete sb failed dur10us s) := by
  simp [execNandEraseComplete]

@[simp] theorem execDieStatusTimeout_reaches (channel : Fin 64) (die : Fin 8) (s : State) :
    Reaches [.host, .evt, .flash] s (execDieStatusTimeout channel die s) := by
  simp [execDieStatusTimeout]

@[simp] theorem execWriteBufferLeave_reaches (slot : Nat) (lost : BitVec 4) (s : State) :
    Reaches [.drawn, .host, .rings, .evt, .ecc, .flash] s (execWriteBufferLeave slot lost s) := by
  unfold execWriteBufferLeave
  split
  · simp
  extract_lets +onlyGivenNames earlier
  split
  · simp
  extract_lets +onlyGivenNames missing lostNow
  split
  · simp
  extract_lets +onlyGivenNames r
  have hr : Frame [.drawn, .host, .rings, .evt, .ecc, .flash] s r.2 := by
    refine Frame.foldl_snd (fun acc b => ?_) _ _
    extract_lets +onlyGivenNames here
    change Frame _ acc.2 here.2
    unfold here
    split
    · split <;> obtain rfl := snd_of_eq ‹_ = (_, _)› <;> simp
    · split
      · simp
      · split <;> obtain rfl := snd_of_eq ‹_ = (_, _)› <;> simp
      · simp
  split
  · exact (reaches_next _ _ _).mpr hr
  extract_lets +onlyGivenNames u
  split
  · exact (reaches_next _ _ _).mpr hr
  next hplace => exact (reaches_next _ _ _).mpr (hr.trans (by simp [placeUnit_within hplace]))

@[simp] theorem execFoldStart_reaches (s : State) : Reaches [.host, .evt, .flash] s (execFoldStart s) := by
  unfold execFoldStart
  (repeat' split) <;> simp

@[simp] theorem execGcVictimSelect_reaches (s : State) : Reaches [.host, .evt, .flash] s (execGcVictimSelect s) := by
  unfold execGcVictimSelect
  (repeat' split) <;> simp

@[simp] theorem execRefreshRelocate_reaches (s : State) : Reaches [.host, .evt, .flash] s (execRefreshRelocate s) := by
  unfold execRefreshRelocate
  (repeat' split) <;> simp

@[simp] theorem execBackgroundErase_reaches (sb : Nat) (s : State) : Reaches [.flash] s (execBackgroundErase sb s) := by
  simp [execBackgroundErase]

@[simp] theorem execLedgerSegmentWrite_reaches (segment : Fin 8192) (s : State) :
    Reaches [.flash] s (execLedgerSegmentWrite segment s) := by
  simp [execLedgerSegmentWrite]

@[simp] theorem execLdgClockMinuteTick_reaches (s : State) : Reaches [.flash] s (execLdgClockMinuteTick s) := by
  simp [execLdgClockMinuteTick]

@[simp] theorem execLdgClockWrite_reaches (value : W32) (s : State) : Reaches [.flash] s (execLdgClockWrite value s) := by
  simp [execLdgClockWrite]

@[simp] theorem execLdgPoolWrite_reaches (pool : Fin 3) (value : W32) (s : State) :
    Reaches [.flash] s (execLdgPoolWrite pool value s) := by
  simp [execLdgPoolWrite]

@[simp] theorem execLedgerRecoveryComplete_reaches (ok : Bool) (lost : List (Nat × Nat)) (s : State) :
    Reaches [.drawn, .boot, .host, .evt, .flash, .cfl] s (execLedgerRecoveryComplete ok lost s) := by
  simp [execLedgerRecoveryComplete]

/-! Host attachment. -/

@[simp] theorem execLinkUp_reaches (rate : BitVec 2) (width : BitVec 2) (cxl : Bool) (latOpt : Bool) (s : State) :
    Reaches [.host, .evt] s (execLinkUp rate width cxl latOpt s) := by
  simp [execLinkUp]

@[simp] theorem execL0pWidthChange_reaches (width : BitVec 2) (s : State) :
    Reaches [.host] s (execL0pWidthChange width s) := by
  simp [execL0pWidthChange]

@[simp] theorem execCxlHotReset_reaches (s : State) :
    Reaches [.drawn, .boot, .host, .rings, .evt, .tensor, .mem, .flash, .fabric, .embed, .ralid, .cfl, .sec]
    s (execCxlHotReset s) := by simp [execCxlHotReset]

@[simp] theorem execLinkDown_reaches (s : State) :
    Reaches [.drawn, .boot, .host, .rings, .evt, .tensor, .mem, .flash, .fabric, .embed, .ralid, .cfl, .sec]
    s (execLinkDown s) := by simp [execLinkDown]

@[simp] theorem execFlr_reaches (s : State) :
    Reaches [.drawn, .boot, .host, .rings, .evt, .tensor, .mem, .flash, .fabric, .embed, .ralid, .cfl, .sec]
    s (execFlr s) := by simp [execFlr]

@[simp] theorem execHostResetComplete_reaches (s : State) : Reaches [.boot, .host, .evt] s (execHostResetComplete s) := by
  simp [execHostResetComplete]

@[simp] theorem execConfigRequest_reaches (req : ConfigReq) (s : State) :
    Reaches [.host] s (execConfigRequest req s) := by
  unfold execConfigRequest
  (repeat' split) <;> simp

@[simp] theorem execD3hotRequest_reaches (s : State) : Reaches [.host, .evt, .tensor] s (execD3hotRequest s) := by
  unfold execD3hotRequest
  dsimp only
  (repeat' split) <;> simp

@[simp] theorem execD0Request_reaches (s : State) : Reaches [.drawn, .host, .rings, .evt, .tensor, .mem]
    s (execD0Request s) := by simp [execD0Request]

@[simp] theorem execBar0AccessError_reaches (write : Bool) (s : State) :
    Reaches [.host] s (execBar0AccessError write s) := by
  simp [execBar0AccessError]

@[simp] theorem execCacheEnableSet_reaches (s : State) : Reaches [.host] s (execCacheEnableSet s) := by
  simp [execCacheEnableSet]

@[simp] theorem execCacheEnableClear_reaches (s : State) : Reaches [.host, .evt] s (execCacheEnableClear s) := by
  simp [execCacheEnableClear]

@[simp] theorem execHdmDecoderCommit_reaches (base : W64) (s : State) :
    Reaches [.host] s (execHdmDecoderCommit base s) := by
  simp [execHdmDecoderCommit]

@[simp] theorem execHdmHostRead_reaches (addr : BitVec 34) (intent : HdmIntent) (s : State) :
    Reaches [.drawn, .host, .evt, .mem, .ecc] s (execHdmHostRead addr intent s) := by
  unfold execHdmHostRead
  split
  · simp
  split
  · simp
  split
  · simp
  extract_lets +onlyGivenNames line page s1
  have hs1 : Within s s1 (drawn := reached) (host := reached) (evt := reached) (mem := reached) := by
    unfold s1
    split
    · split <;> simp
    · simp
  split
  · simp [hs1]
  split
  next hline => simp [recordLine_within hline, hs1]
  · simp [hs1]

@[simp] theorem execHdmHostWrite_reaches (addr : BitVec 34) (bytes : List Byte) (poison : Bool) (s : State) :
    Reaches [.drawn, .host, .evt, .tensor, .mem] s (execHdmHostWrite addr bytes poison s) := by
  unfold execHdmHostWrite
  dsimp only
  (repeat' split) <;> simp

@[simp] theorem execBisnpResponse_reaches (line : BitVec 28) (writeBack : List Byte) (s : State) :
    Reaches [.host, .evt, .tensor, .mem, .ecc] s (execBisnpResponse line writeBack s) := by
  unfold execBisnpResponse
  dsimp only
  (repeat' split) <;> simp

@[simp] theorem execIdeIntegrityFail_reaches (stream : IdeStream) (s : State) :
    Reaches [.host, .evt] s (execIdeIntegrityFail stream s) := by
  unfold execIdeIntegrityFail
  (repeat' split) <;> simp

@[simp] theorem execIdeKeyProgram_reaches (stream : IdeStream) (s : State) :
    Reaches [.host] s (execIdeKeyProgram stream s) := by
  unfold execIdeKeyProgram
  (repeat' split) <;> simp

@[simp] theorem execDoeDiscovery_reaches (inst : Fin 2) (index : Byte) (s : State) :
    Reaches [.host] s (execDoeDiscovery inst index s) := by
  simp [execDoeDiscovery]

@[simp] theorem execCdatRead_reaches (s : State) : Reaches [.host] s (execCdatRead s) := by simp [execCdatRead]

@[simp] theorem execDoeAbort_reaches (inst : Fin 2) (s : State) : Reaches [.host] s (execDoeAbort inst s) := by
  simp [execDoeAbort]

@[simp] theorem execMsixUnmask_reaches (vector : Fin 2048) (s : State) : Reaches [.host] s (execMsixUnmask vector s) := by
  simp [execMsixUnmask]

/-! Rings. -/

@[simp] theorem execDoorbellSnoop_reaches (line : BitVec 58) (s : State) :
    Reaches [.host, .evt] s (execDoorbellSnoop line s) := by
  simp [execDoorbellSnoop]

@[simp] theorem execDoorbellLineReturn_reaches (line : BitVec 58) (words : List W32) (s : State) :
    Reaches [.drawn, .host, .rings, .evt] s (execDoorbellLineReturn line words s) := by
  simp [execDoorbellLineReturn]

@[simp] theorem execDoorbellRereadTimer_reaches (s : State) : Reaches [.host, .evt] s (execDoorbellRereadTimer s) := by
  simp [execDoorbellRereadTimer]

@[simp] theorem execCommandFetch_reaches (sq : Fin 256) (desc : BitVec 1024) (s : State) :
    Reaches [.drawn, .host, .rings, .evt] s (execCommandFetch sq desc s) := by
  unfold execCommandFetch
  dsimp only
  (repeat' split) <;> simp

@[simp] theorem execDescriptorReadError_reaches (sq : Fin 256) (s : State) :
    Reaches [.drawn, .host, .rings, .evt] s (execDescriptorReadError sq s) := by
  simp [execDescriptorReadError]

@[simp] theorem execFencedCommandStart_reaches (tr : Nat) (s : State) :
    Reaches [.drawn, .host, .rings, .evt, .mem, .ecc, .flash] s (execFencedCommandStart tr s) := by
  unfold execFencedCommandStart
  dsimp only
  (repeat' split) <;> simp

@[simp] theorem execAdminPairStart_reaches (value : W32) (s : State) :
    Reaches [.host, .rings] s (execAdminPairStart value s) := by
  simp [execAdminPairStart]

@[simp] theorem execAdminPairStop_reaches (value : W32) (s : State) : Reaches [.host, .rings] s (execAdminPairStop value s) := by
  simp [execAdminPairStop]

@[simp] theorem execAdminPairStopped_reaches (s : State) : Reaches [.host, .rings] s (execAdminPairStopped s) := by
  unfold execAdminPairStopped
  (repeat' split) <;> simp

@[simp] theorem execIdentify_reaches (tr : Nat) (s : State) : Reaches [.drawn, .host, .rings, .evt] s (execIdentify tr s) := by
  unfold execIdentify
  (repeat' split) <;> simp

@[simp] theorem execCreateSq_reaches (tr : Nat) (s : State) : Reaches [.drawn, .host, .rings, .evt] s (execCreateSq tr s) := by
  unfold execCreateSq
  (repeat' split) <;> simp

@[simp] theorem execCreateCq_reaches (tr : Nat) (s : State) : Reaches [.drawn, .host, .rings, .evt] s (execCreateCq tr s) := by
  unfold execCreateCq
  (repeat' split) <;> simp

@[simp] theorem execDeleteSq_reaches (tr : Nat) (s : State) : Reaches [.drawn, .host, .rings, .evt] s (execDeleteSq tr s) := by
  unfold execDeleteSq
  dsimp only
  (repeat' split) <;> simp

@[simp] theorem execDeleteSqComplete_reaches (sq : Fin 256) (s : State) :
    Reaches [.drawn, .host, .rings, .evt] s (execDeleteSqComplete sq s) := by
  unfold execDeleteSqComplete
  dsimp only
  (repeat' split) <;> simp

@[simp] theorem execDeleteCq_reaches (tr : Nat) (s : State) : Reaches [.drawn, .host, .rings, .evt] s (execDeleteCq tr s) := by
  unfold execDeleteCq
  (repeat' split) <;> simp

@[simp] theorem execSetPower_reaches (tr : Nat) (s : State) : Reaches [.drawn, .host, .rings, .evt] s (execSetPower tr s) := by
  unfold execSetPower
  (repeat' split) <;> simp

@[simp] theorem execPowerStateEntryComplete_reaches (s : State) : Reaches [.drawn, .host, .rings, .evt]
    s (execPowerStateEntryComplete s) := by
  unfold execPowerStateEntryComplete
  (repeat' split) <;> simp

@[simp] theorem execDrain_reaches (tr : Nat) (s : State) :
    Reaches [.drawn, .boot, .host, .rings, .evt, .tensor, .mem, .flash, .fabric, .embed] s (execDrain tr s) := by
  unfold execDrain
  (repeat' split) <;> simp

@[simp] theorem execDrainComplete_reaches (s : State) : Reaches [.drawn, .host, .rings, .evt] s (execDrainComplete s) := by
  unfold execDrainComplete
  (repeat' split) <;> simp

@[simp] theorem execResume_reaches (tr : Nat) (s : State) : Reaches [.drawn, .boot, .host, .rings, .evt] s (execResume tr s) := by
  unfold execResume
  (repeat' split) <;> simp

/-! Storage. -/

@[simp] theorem execNsCreate_reaches (tr : Nat) (s : State) : Reaches [.drawn, .host, .rings, .evt, .spaces]
    s (execNsCreate tr s) := by
  unfold execNsCreate
  dsimp only
  (repeat' split) <;> simp

@[simp] theorem execNsDelete_reaches (tr : Nat) (s : State) : Reaches [.drawn, .host, .rings, .evt, .spaces, .flash]
    s (execNsDelete tr s) := by
  unfold execNsDelete
  dsimp only
  (repeat' split) <;> simp

@[simp] theorem execNsQuery_reaches (tr : Nat) (s : State) : Reaches [.drawn, .host, .rings, .evt] s (execNsQuery tr s) := by
  unfold execNsQuery
  dsimp only
  (repeat' split) <;> simp

@[simp] theorem execRead_reaches (tr : Nat) (s : State) : Reaches [.drawn, .host, .rings, .evt, .mem, .ecc, .flash]
    s (execRead tr s) := by simp [execRead]

@[simp] theorem execWrite_reaches (tr : Nat) (buffer : List Byte) (s : State) :
    Reaches [.drawn, .host, .rings, .evt, .mem, .ecc, .flash] s (execWrite tr buffer s) := by
  simp [execWrite]

@[simp] theorem execFlush_reaches (tr : Nat) (s : State) : Reaches [.drawn, .host, .rings, .evt, .flash] s (execFlush tr s) := by
  unfold execFlush
  (repeat' split) <;> simp

@[simp] theorem execTrim_reaches (tr : Nat) (s : State) : Reaches [.drawn, .host, .rings, .evt, .mem, .ecc, .flash]
    s (execTrim tr s) := by simp [execTrim]

@[simp] theorem execVerify_reaches (tr : Nat) (s : State) : Reaches [.drawn, .host, .rings, .evt, .mem, .ecc, .flash]
    s (execVerify tr s) := by simp [execVerify]

@[simp] theorem execRangeLockGrant_reaches (entry : Nat) (s : State) :
    Reaches [.drawn, .host, .rings, .evt, .mem, .ecc, .flash] s (execRangeLockGrant entry s) := by
  unfold execRangeLockGrant
  (repeat' split) <;> simp

@[simp] theorem execWriteSlotGrant_reaches (tr : Nat) (s : State) : Reaches [.drawn, .host, .rings, .evt, .mem, .ecc, .flash]
    s (execWriteSlotGrant tr s) := by
  unfold execWriteSlotGrant
  (repeat' split) <;> simp

/-! Reset and bring-up. -/

@[simp] theorem execRefclkAbsent_reaches (s : State) : Reaches [.boot, .host, .evt] s (execRefclkAbsent s) := by
  simp [execRefclkAbsent]

@[simp] theorem execRefclkLost_reaches (s : State) :
    Reaches [.drawn, .boot, .host, .rings, .evt, .tensor, .mem, .flash, .fabric, .embed, .ralid, .cfl, .sec]
    s (execRefclkLost s) := by simp [execRefclkLost]

@[simp] theorem execTileReset_reaches (tile : Fin 128) (byHost : Bool) (s : State) :
    Reaches [.boot, .host, .evt, .tensor, .mem] s (execTileReset tile byHost s) := by
  simp [execTileReset]

@[simp] theorem execWalkerGroupReset_reaches (group : Fin 64) (byHost : Bool) (s : State) :
    Reaches [.drawn, .boot, .host, .rings, .evt, .mem, .fabric, .ralid] s (execWalkerGroupReset group byHost s) := by
  simp [execWalkerGroupReset]

@[simp] theorem execFlashChannelReset_reaches (channel : Fin 64) (byHost : Bool) (s : State) :
    Reaches [.boot, .host, .evt, .mem] s (execFlashChannelReset channel byHost s) := by
  simp [execFlashChannelReset]

@[simp] theorem execFabricPortReset_reaches (port : Fin 16) (byHost : Bool) (s : State) :
    Reaches [.boot, .host, .evt, .fabric] s (execFabricPortReset port byHost s) := by
  simp [execFabricPortReset]

@[simp] theorem execPorterGroupReset_reaches (group : Fin 8) (byHost : Bool) (s : State) :
    Reaches [.boot, .host, .evt, .mem] s (execPorterGroupReset group byHost s) := by
  simp [execPorterGroupReset]

@[simp] theorem execReleaseStep_reaches (work : StepWork) (elapsedMs : Nat) (first second : ImageVerdict) (s0 : State) :
   
      Reaches [.drawn, .boot, .host, .evt, .mem, .ecc, .flash, .fabric, .cfl, .sec] s0 (execReleaseStep work elapsedMs first second s0) := by
  unfold execReleaseStep
  dsimp only
  (repeat' split) <;> simp

@[simp] theorem execClearCounter_reaches (value : W32) (s : State) : Reaches [.drawn, .boot, .host, .evt, .cfl]
    s (execClearCounter value s) := by
  simp [execClearCounter]

@[simp] theorem execImageTransfer_reaches (message : List Byte) (verdict : ImageVerdict) (s : State) :
    Reaches [.boot, .host, .evt, .sec] s (execImageTransfer message verdict s) := by
  simp [execImageTransfer]

/-! Configuration flash. -/

@[simp] theorem execCflCycleStore_reaches (offset : BitVec 29) (size : Nat) (value : W64) (s : State) :
    Reaches [.cfl] s (execCflCycleStore offset size value s) := by
  simp [execCflCycleStore]

@[simp] theorem execCflAbandon_reaches (bank : Fin 2) (s : State) : Reaches [.cfl] s (execCflAbandon bank s) := by
  simp [execCflAbandon]

@[simp] theorem execCflSequenceTimeout_reaches (bank : Fin 2) (s : State) :
    Reaches [.cfl] s (execCflSequenceTimeout bank s) := by
  simp [execCflSequenceTimeout]

@[simp] theorem execPageProgram_reaches (bank : Fin 2) (s : State) : Reaches [.host, .evt, .cfl] s (execPageProgram bank s) := by
  unfold execPageProgram
  (repeat' split) <;> simp

@[simp] theorem execSectorErase_reaches (bank : Fin 2) (s : State) : Reaches [.host, .evt, .cfl] s (execSectorErase bank s) := by
  unfold execSectorErase
  (repeat' split) <;> simp

@[simp] theorem execContReadEnter_reaches (bank : Fin 2) (s : State) : Reaches [.host, .evt, .cfl]
    s (execContReadEnter bank s) := by
  unfold execContReadEnter
  (repeat' split) <;> simp

@[simp] theorem execContReadExit_reaches (bank : Fin 2) (s : State) : Reaches [.host, .evt, .cfl]
    s (execContReadExit bank s) := by
  unfold execContReadExit
  (repeat' split) <;> simp

@[simp] theorem execProtSet_reaches (bank : Fin 2) (s : State) : Reaches [.host, .evt, .cfl] s (execProtSet bank s) := by
  simp [execProtSet]

@[simp] theorem execProtClear_reaches (bank : Fin 2) (s : State) : Reaches [.host, .evt, .cfl] s (execProtClear bank s) := by
  simp [execProtClear]

@[simp] theorem execPasswordChange_reaches (bank : Fin 2) (s : State) :
    Reaches [.host, .evt, .cfl] s (execPasswordChange bank s) := by
  simp [execPasswordChange]

@[simp] theorem execCflWindowRead_reaches (offset : BitVec 29) (len : Nat) (s : State) :
    Reaches [.host, .cfl] s (execCflWindowRead offset len s) := by
  simp [execCflWindowRead]

@[simp] theorem execCflProgramPulseEnd_reaches (bank : Fin 2) (verified : Bool) (s : State) :
    Reaches [.drawn, .host, .evt, .cfl] s (execCflProgramPulseEnd bank verified s) := by
  unfold execCflProgramPulseEnd
  dsimp only
  (repeat' split) <;> simp

@[simp] theorem execCflErasePulseEnd_reaches (bank : Fin 2) (verified : Bool) (s : State) :
    Reaches [.drawn, .host, .evt, .cfl] s (execCflErasePulseEnd bank verified s) := by
  unfold execCflErasePulseEnd
  dsimp only
  (repeat' split) <;> simp

@[simp] theorem execCflProtectionOpComplete_reaches (bank : Fin 2) (s : State) :
    Reaches [.drawn, .host, .evt, .cfl] s (execCflProtectionOpComplete bank s) := by
  unfold execCflProtectionOpComplete
  dsimp only
  (repeat' split) <;> simp

@[simp] theorem execCflQueuedHostOpStart_reaches (bank : Fin 2) (s : State) :
    Reaches [.host, .evt, .cfl] s (execCflQueuedHostOpStart bank s) := by
  simp [execCflQueuedHostOpStart]

@[simp] theorem execDeviceRecordWrite_reaches (s : State) : Reaches [.evt, .cfl] s (execDeviceRecordWrite s) := by
  unfold execDeviceRecordWrite
  (repeat' split) <;> simp

@[simp] theorem execCflSectorSelWrite_reaches (value : W32) (s : State) :
    Reaches [.cfl] s (execCflSectorSelWrite value s) := by
  simp [execCflSectorSelWrite]

/-! Integrity. -/

@[simp] theorem execPatrolRead_reaches (addr : BitVec 40) (errors : W72) (stuck : W72) (s : State) :
    Reaches [.host, .evt, .mem, .ecc] s (execPatrolRead addr errors stuck s) := by
  simp [execPatrolRead]

@[simp] theorem execCopyRefetchComplete_reaches (unit : Fin 16) (result : RefetchResult) (tile : Fin 128) (entry : W32)
    (mask : Byte) (s : State) :
    Reaches [.drawn, .host, .rings, .evt, .tensor, .mem, .ecc, .flash, .fabric, .ralid]
      s (execCopyRefetchComplete unit result tile entry mask s) := by
  unfold execCopyRefetchComplete
  (repeat' split) <;> simp

@[simp] theorem execIntegrityCorrectedRateCheck_reaches (unit : Fin 16) (s : State) :
    Reaches [.host, .evt, .ecc] s (execIntegrityCorrectedRateCheck unit s) := by
  simp [execIntegrityCorrectedRateCheck]

/-! Security. -/

@[simp] theorem execSecEnroll_reaches (tr : Nat) (digest : BitVec 512) (auth : AuthInput) (s : State) :
    Reaches [.drawn, .host, .rings, .evt, .sec] s (execSecEnroll tr digest auth s) := by
  simp [execSecEnroll]

@[simp] theorem execSecRevoke_reaches (tr : Nat) (auth : AuthInput) (s : State) :
    Reaches [.drawn, .host, .rings, .evt, .sec] s (execSecRevoke tr auth s) := by
  simp [execSecRevoke]

@[simp] theorem execSecSetPolicy_reaches (tr : Nat) (auth : AuthInput) (s : State) :
    Reaches [.drawn, .host, .rings, .evt, .sec] s (execSecSetPolicy tr auth s) := by
  simp [execSecSetPolicy]

@[simp] theorem execSecAdvanceSvn_reaches (tr : Nat) (auth : AuthInput) (s : State) :
    Reaches [.drawn, .host, .rings, .evt, .sec] s (execSecAdvanceSvn tr auth s) := by
  simp [execSecAdvanceSvn]

@[simp] theorem execSecChallenge_reaches (tr : Nat) (s : State) : Reaches [.drawn, .host, .rings, .evt, .sec]
    s (execSecChallenge tr s) := by
  unfold execSecChallenge
  (repeat' split) <;> simp

@[simp] theorem execFuseWriteComplete_reaches (s : State) : Reaches [.drawn, .host, .rings, .evt, .sec]
    s (execFuseWriteComplete s) := by
  unfold execFuseWriteComplete
  (repeat' split) <;> simp

@[simp] theorem execSpdmGetVersion_reaches (s : State) : Reaches [.host, .sec] s (execSpdmGetVersion s) := by
  simp [execSpdmGetVersion]

@[simp] theorem execSpdmGetCapabilities_reaches (s : State) : Reaches [.host, .sec] s (execSpdmGetCapabilities s) := by
  simp [execSpdmGetCapabilities]

@[simp] theorem execSpdmNegotiateAlgorithms_reaches (request : List Byte) (s : State) :
    Reaches [.host, .sec] s (execSpdmNegotiateAlgorithms request s) := by
  simp [execSpdmNegotiateAlgorithms]

@[simp] theorem execSpdmGetCertificate_reaches (slot : Byte) (offset : Nat) (len : Nat) (s : State) :
    Reaches [.host, .sec] s (execSpdmGetCertificate slot offset len s) := by
  simp [execSpdmGetCertificate]

@[simp] theorem execSpdmChallenge_reaches (request : List Byte) (s : State) :
    Reaches [.drawn, .host, .sec] s (execSpdmChallenge request s) := by
  simp [execSpdmChallenge]

@[simp] theorem execSpdmGetMeasurements_reaches (index : Byte) (raw : Bool) (request : List Byte) (s : State) :
    Reaches [.host, .sec] s (execSpdmGetMeasurements index raw request s) := by
  simp [execSpdmGetMeasurements]

@[simp] theorem execSpdmKeyExchange_reaches (request : List Byte) (s : State) :
    Reaches [.drawn, .host, .sec] s (execSpdmKeyExchange request s) := by
  simp [execSpdmKeyExchange]

@[simp] theorem execSpdmKeyUpdate_reaches (request : List Byte) (s : State) :
    Reaches [.host, .sec] s (execSpdmKeyUpdate request s) := by
  simp [execSpdmKeyUpdate]

@[simp] theorem execSpdmHeartbeat_reaches (s : State) : Reaches [.host, .sec] s (execSpdmHeartbeat s) := by
  simp [execSpdmHeartbeat]

@[simp] theorem execSpdmChunkGet_reaches (handle : Byte) (seq : BitVec 16) (s : State) :
    Reaches [.host, .sec] s (execSpdmChunkGet handle seq s) := by
  simp [execSpdmChunkGet]

/-! Guest Book, counters and telemetry. -/

@[simp] theorem execGbRingStart_reaches (value : W32) (s : State) : Reaches [.host, .evt] s (execGbRingStart value s) := by
  simp [execGbRingStart]

@[simp] theorem execGbRingStop_reaches (value : W32) (s : State) : Reaches [.host, .evt] s (execGbRingStop value s) := by
  simp [execGbRingStop]

@[simp] theorem execGbHeadWrite_reaches (value : W32) (s : State) : Reaches [.host, .evt] s (execGbHeadWrite value s) := by
  simp [execGbHeadWrite]

@[simp] theorem execGbCopyBudgetTick_reaches (s : State) : Reaches [.evt] s (execGbCopyBudgetTick s) := by
  simp [execGbCopyBudgetTick]

@[simp] theorem execQstatCtrlWrite_reaches (value : W32) (s : State) :
    Reaches [.host, .evt, .tensor] s (execQstatCtrlWrite value s) := by
  simp [execQstatCtrlWrite]

@[simp] theorem execQstatWindowLatch_reaches (s : State) : Reaches [.host, .evt, .tensor] s (execQstatWindowLatch s) := by
  simp [execQstatWindowLatch]

@[simp] theorem execEvtWinCtrlWrite_reaches (bank : Fin 7) (value : W32) (s : State) :
    Reaches [.evt] s (execEvtWinCtrlWrite bank value s) := by
  simp [execEvtWinCtrlWrite]

@[simp] theorem execStatsWindowEnd_reaches (bank : Fin 7) (s : State) :
    Reaches [.evt] s (execStatsWindowEnd bank s) := by
  simp [execStatsWindowEnd]

@[simp] theorem execEvtCtrSelWrite_reaches (value : W32) (s : State) :
    Reaches [.evt] s (execEvtCtrSelWrite value s) := by
  simp [execEvtCtrSelWrite]

@[simp] theorem execGbRead_reaches (request : List Byte) (s : State) : Reaches [.host, .ecc] s (execGbRead request s) := by
  simp [execGbRead]

@[simp] theorem execTelemetryRead_reaches (request : List Byte) (s : State) :
    Reaches [.host] s (execTelemetryRead request s) := by
  simp [execTelemetryRead]

@[simp] theorem execCounterRead_reaches (request : List Byte) (s : State) :
    Reaches [.host] s (execCounterRead request s) := by
  simp [execCounterRead]

/-! Later rows of the table. -/

@[simp] theorem execWatchdogRestart_reaches (s : State) : Reaches [.boot] s (execWatchdogRestart s) := by
  simp [execWatchdogRestart]

@[simp] theorem execShardQueryBudgetExpiry_reaches (query : Nat) (s : State) :
    Reaches [.drawn, .host, .rings, .evt, .mem, .fabric, .ralid] s (execShardQueryBudgetExpiry query s) := by
  unfold execShardQueryBudgetExpiry
  (repeat' split) <;> simp

@[simp] theorem execPwrdisAssert_reaches (s : State) :
    Reaches [.gZero, .drawn, .power, .boot, .host, .rings, .evt, .tensor, .mem, .ecc, .flash, .fabric, .embed, .ralid, .cfl, .sec]
      s (execPwrdisAssert s) := by
  simp [execPwrdisAssert]

@[simp] theorem execBladeSeated_reaches (vinMv : Nat) (s : State) :
    Reaches [.power] s (execBladeSeated vinMv s) := by
  simp [execBladeSeated]

@[simp] theorem execBladeUnseated_reaches (s : State) :
    Reaches [.power, .boot, .tensor, .mem, .fabric, .cfl] s (execBladeUnseated s) := by
  simp [execBladeUnseated]

@[simp] theorem execVin48OvervoltageDisconnect_reaches (vinMv : Nat) (s : State) :
    Reaches [.power, .boot, .host, .evt, .tensor, .mem, .fabric, .cfl] s (execVin48OvervoltageDisconnect vinMv s) := by
  simp [execVin48OvervoltageDisconnect]

@[simp] theorem execInputLossDetect_reaches (vinMv : Nat) (s : State) :
    Reaches [.power, .boot, .tensor, .mem, .fabric, .cfl] s (execInputLossDetect vinMv s) := by
  simp [execInputLossDetect]

@[simp] theorem execInputLossRecordProgram_reaches (s : State) :
    Reaches [.gZero, .drawn, .power, .boot, .host, .rings, .evt, .tensor, .mem, .ecc, .flash, .fabric, .embed, .ralid, .cfl, .sec]
      s (execInputLossRecordProgram s) := by
  simp [execInputLossRecordProgram]

@[simp] theorem execSmbrstAssert_reaches (s : State) :
    Reaches [.power] s (execSmbrstAssert s) := by
  simp [execSmbrstAssert]

@[simp] theorem execGovernorSample_reaches (vinMv : Nat) (currentMa : Nat) (s : State) :
    Reaches [.power, .host, .evt] s (execGovernorSample vinMv currentMa s) := by
  simp [execGovernorSample]

@[simp] theorem execGovernorWindowEnd_reaches (s : State) :
    Reaches [.power, .evt] s (execGovernorWindowEnd s) := by
  simp [execGovernorWindowEnd]

@[simp] theorem execThrottleStepChange_reaches (s : State) :
    Reaches [.power, .host, .evt, .tensor] s (execThrottleStepChange s) := by
  simp [execThrottleStepChange]

@[simp] theorem execClkPwrLimitWrite_reaches (value : W32) (s : State) :
    Reaches [.power] s (execClkPwrLimitWrite value s) := by
  simp [execClkPwrLimitWrite]

@[simp] theorem execPwrLimitLock_reaches (value : W32) (s : State) :
    Reaches [.power] s (execPwrLimitLock value s) := by
  simp [execPwrLimitLock]

@[simp] theorem execSensorSample_reaches (readings : List (BitVec 16)) (s : State) :
    Reaches [.gZero, .drawn, .power, .boot, .host, .rings, .evt, .tensor, .mem, .ecc, .flash, .fabric, .embed, .ralid, .cfl, .sec]
      s (execSensorSample readings s) := by
  simp [execSensorSample]

@[simp] theorem execTamperOpen_reaches (s : State) :
    Reaches [.power, .host, .evt] s (execTamperOpen s) := by
  simp [execTamperOpen]

@[simp] theorem execPs3Entry_reaches (s : State) :
    Reaches [.power, .host, .evt, .fabric] s (execPs3Entry s) := by
  simp [execPs3Entry]

@[simp] theorem execRegisterWrite_reaches (offset : BitVec 23) (wide : Bool) (value : W64) (s : State) :
    Reaches [.gZero, .drawn, .power, .boot, .host, .rings, .evt, .tensor, .mem, .ecc, .flash, .fabric, .embed, .ralid, .cfl, .sec]
      s (execRegisterWrite offset wide value s) := by
  unfold execRegisterWrite
  (repeat' split) <;> simp

@[simp] theorem execPowerStateExitComplete_reaches (s : State) :
    Reaches [.drawn, .power, .host, .rings, .evt, .tensor, .mem, .fabric] s (execPowerStateExitComplete s) := by
  unfold execPowerStateExitComplete
  (repeat' split) <;> simp

@[simp] theorem execPerstAssert_reaches (s : State) :
    Reaches [.gZero, .drawn, .power, .boot, .host, .rings, .evt, .tensor, .mem, .ecc, .flash, .fabric, .embed, .ralid, .cfl, .sec]
      s (execPerstAssert s) := by
  simp [execPerstAssert]

@[simp] theorem execPerstRelease_reaches (s : State) :
    Reaches [.power, .boot] s (execPerstRelease s) := by
  simp [execPerstRelease]

@[simp] theorem execSoftwareDeviceReset_reaches (value : W32) (s : State) :
    Reaches [.gZero, .drawn, .power, .boot, .host, .rings, .evt, .tensor, .mem, .ecc, .flash, .fabric, .embed, .ralid, .cfl, .sec]
      s (execSoftwareDeviceReset value s) := by
  simp [execSoftwareDeviceReset]

@[simp] theorem execWatchdogExpiry_reaches (s : State) :
    Reaches [.gZero, .drawn, .power, .boot, .host, .rings, .evt, .tensor, .mem, .ecc, .flash, .fabric, .embed, .ralid, .cfl, .sec]
      s (execWatchdogExpiry s) := by
  simp [execWatchdogExpiry]

@[simp] theorem execStepFailureReset_reaches (s : State) :
    Reaches [.gZero, .drawn, .power, .boot, .host, .rings, .evt, .tensor, .mem, .ecc, .flash, .fabric, .embed, .ralid, .cfl, .sec]
      s (execStepFailureReset s) := by
  simp [execStepFailureReset]

@[simp] theorem execBringupTimeout_reaches (s : State) :
    Reaches [.gZero, .drawn, .power, .boot, .host, .rings, .evt, .tensor, .mem, .ecc, .flash, .fabric, .embed, .ralid, .cfl, .sec]
      s (execBringupTimeout s) := by
  simp [execBringupTimeout]

@[simp] theorem execDeferredResetTake_reaches (unit : PulseUnit) (s : State) :
    Reaches [.drawn, .power, .boot, .flash, .cfl] s (execDeferredResetTake unit s) := by
  unfold execDeferredResetTake
  (repeat' split) <;> simp

@[simp] theorem execChannelResetForce_reaches (channel : Fin 64) (s : State) :
    Reaches [.drawn, .power, .boot, .flash, .cfl] s (execChannelResetForce channel s) := by
  unfold execChannelResetForce
  (repeat' split) <;> simp

@[simp] theorem execBlockResetEnd_reaches (selftest : StepWork) (s : State) :
    Reaches [.gZero, .drawn, .power, .boot, .host, .rings, .evt, .tensor, .mem, .ecc, .flash, .fabric, .embed, .ralid, .cfl, .sec]
      s (execBlockResetEnd selftest s) := by
  unfold execBlockResetEnd
  dsimp only
  (repeat' split) <;> simp

@[simp] theorem execSecDebugUnlock_reaches (tr : Nat) (auth : AuthInput) (s : State) :
    Reaches [.drawn, .power, .host, .rings, .evt, .sec] s (execSecDebugUnlock tr auth s) := by
  unfold execSecDebugUnlock
  (repeat' split) <;> simp

@[simp] theorem execVin48Return_reaches (vinMv : Nat) (s : State) :
    Reaches [.power] s (execVin48Return vinMv s) := by
  simp [execVin48Return]

@[simp] theorem execTamperCoverClose_reaches (s : State) :
    Reaches [.power] s (execTamperCoverClose s) := by
  simp [execTamperCoverClose]

end Sys2Proof.Machine
end

section
set_option Elab.async false
/-! SUPPORT. The frame of `exec`, by what each of its commands reaches. -/

namespace Sys2Proof.Machine

/-- Every command goes on, and leaves the parts of the state that `mayChange` leaves out. -/
theorem exec_reaches (c : Instr) (s : State) : Reaches (mayChange c) s (exec c s) := by
  cases c with
  | vecAdd | vecSub | vecMul | vecFma | vecDiv | vecSqrt | vecMin | vecMax | vecMinnum | vecMaxnum | vecCmp | vecSel | vecAbs
  | vecNeg | vecCopysign | vecRint | vecScaleb | vecSplit2 | vecSplit3 | vecExp | vecExp2 | vecLog | vecLog2 | vecTanh
  | vecErf | vecSigmoid | vecRsqrt | vecRsum | vecRmax | vecRmin | vecRargmax | vecSignpack | vecIadd | vecIsub | vecImul
  | vecAnd | vecOr | vecXor | vecShl | vecShr =>
    simp only [exec, mayChange, execVecAdd, execVecSub, execVecMul, execVecFma, execVecDiv, execVecSqrt, execVecMin, execVecMax,
      execVecMinnum, execVecMaxnum, execVecCmp, execVecSel, execVecAbs, execVecNeg, execVecCopysign, execVecRint, execVecScaleb,
      execVecSplit2, execVecSplit3, execVecExp, execVecExp2, execVecLog, execVecLog2, execVecTanh, execVecErf, execVecSigmoid,
      execVecRsqrt, execVecRsum, execVecRmax, execVecRmin, execVecRargmax, execVecSignpack, execVecIadd, execVecIsub,
      execVecImul, execVecAnd, execVecOr, execVecXor, execVecShl, execVecShr, runVec_reaches]
  | pwrdisAssert => exact execPwrdisAssert_reaches s
  | pwrdisRelease => exact execPwrdisRelease_reaches _ s
  | bladeSeated => exact execBladeSeated_reaches _ s
  | bladeUnseated => exact execBladeUnseated_reaches s
  | vin48OvervoltageDisconnect => exact execVin48OvervoltageDisconnect_reaches _ s
  | powerOnResetRelease => exact execPowerOnResetRelease_reaches _ s
  | inputLossDetect => exact execInputLossDetect_reaches _ s
  | inputLossRecordProgram => exact execInputLossRecordProgram_reaches s
  | smbrstAssert => exact execSmbrstAssert_reaches s
  | governorSample => exact execGovernorSample_reaches _ _ s
  | governorWindowEnd => exact execGovernorWindowEnd_reaches s
  | throttleStepChange => exact execThrottleStepChange_reaches s
  | clkPwrLimitWrite => exact execClkPwrLimitWrite_reaches _ s
  | pwrLimitLock => exact execPwrLimitLock_reaches _ s
  | sensorSample => exact execSensorSample_reaches _ s
  | coolantFault => exact execCoolantFault_reaches _ s
  | tamperOpen => exact execTamperOpen_reaches s
  | itineraryFetchReturn => exact execItineraryFetchReturn_reaches _ _ s
  | wordDispatch => exact execWordDispatch_reaches _ s
  | dispatcherUnblock => exact execDispatcherUnblock_reaches _ s
  | engineEntryStart => exact execEngineEntryStart_reaches _ _ s
  | nullEntryRun => exact execNullEntryRun_reaches _ _ s
  | nop => exact execNop_reaches _ _ s
  | waitTimeout => exact execWaitTimeout_reaches _ _ s
  | grid => exact execGrid_reaches _ s
  | gridStreamStart => exact execGridStreamStart_reaches _ s
  | gridRowDeliver => exact execGridRowDeliver_reaches _ s
  | correctionPassStart => exact execCorrectionPassStart_reaches _ s
  | correctionPassEnd => exact execCorrectionPassEnd_reaches _ s
  | epilogueRowEnter => exact execEpilogueRowEnter_reaches _ s
  | gridComplete => exact execGridComplete_reaches _ s
  | vecCvt => exact execVecCvt_reaches _ s
  | vecOpComplete => exact execVecOpComplete_reaches _ s
  | setctr => exact execSetctr_reaches _ s
  | addctr => exact execAddctr_reaches _ s
  | cmpset => exact execCmpset_reaches _ s
  | fence => exact execFence_reaches _ s
  | stepSlot => exact execStepSlot_reaches _ s
  | phaseSlot => exact execPhaseSlot_reaches _ s
  | endSlot => exact execEndSlot_reaches _ s
  | flaginit => exact execFlaginit_reaches _ s
  | loopBegin => exact execLoopBegin_reaches _ s
  | tileDrainComplete => exact execTileDrainComplete_reaches _ s
  | stepBarrierEnd => exact execStepBarrierEnd_reaches s
  | stepSetLoadComplete => exact execStepSetLoadComplete_reaches s
  | load => exact execLoad_reaches _ s
  | store => exact execStore_reaches _ s
  | caravanLoad => exact execCaravanLoad_reaches _ s
  | caravanRecv => exact execCaravanRecv_reaches _ s
  | cellarRead => exact execCellarRead_reaches _ s
  | cellarWrite => exact execCellarWrite_reaches _ s
  | remoteGet => exact execRemoteGet_reaches _ s
  | remotePut => exact execRemotePut_reaches _ s
  | remoteAdd => exact execRemoteAdd_reaches _ s
  | reduce => exact execReduce_reaches _ s
  | flagTile => exact execFlagTile_reaches _ s
  | flagRemote => exact execFlagRemote_reaches _ s
  | porterEntryComplete => exact execPorterEntryComplete_reaches _ _ s
  | caravanDeliveryStart => exact execCaravanDeliveryStart_reaches _ s
  | caravanDeliveryComplete => exact execCaravanDeliveryComplete_reaches _ s
  | cellarUnitIssue => exact execCellarUnitIssue_reaches _ s
  | cellarRequestDeadline => exact execCellarRequestDeadline_reaches _ s
  | cellarUnitComplete => exact execCellarUnitComplete_reaches _ s
  | reservationFrameEnd => exact execReservationFrameEnd_reaches _ s
  | ptrAreaWrite => exact execPtrAreaWrite_reaches _ _ s
  | ptrResvWrite => exact execPtrResvWrite_reaches _ _ s
  | jobSubmit => exact execJobSubmit_reaches _ _ s
  | jobAbort => exact execJobAbort_reaches _ s
  | jobKick => exact execJobKick_reaches _ s
  | jobSuspend => exact execJobSuspend_reaches _ s
  | jobResume => exact execJobResume_reaches _ s
  | jobQuery => exact execJobQuery_reaches _ s
  | sliceExpiry => exact execSliceExpiry_reaches s
  | starvationPromotion => exact execStarvationPromotion_reaches _ s
  | urgentQuantumEnd => exact execUrgentQuantumEnd_reaches s
  | preemptLate => exact execPreemptLate_reaches s
  | jobSaveComplete => exact execJobSaveComplete_reaches s
  | switchClearComplete => exact execSwitchClearComplete_reaches s
  | switchTableLoadComplete => exact execSwitchTableLoadComplete_reaches s
  | jobRestoreComplete => exact execJobRestoreComplete_reaches s
  | exchangeFirstBarrierDone => exact execExchangeFirstBarrierDone_reaches _ s
  | exchangeLanded => exact execExchangeLanded_reaches _ s
  | exchangeComplete => exact execExchangeComplete_reaches _ s
  | exchangeTimeout => exact execExchangeTimeout_reaches _ s
  | jobEnd => exact execJobEnd_reaches _ s
  | embedBind => exact execEmbedBind_reaches _ _ s
  | embedSubmit => exact execEmbedSubmit_reaches _ _ s
  | embedCancel => exact execEmbedCancel_reaches _ s
  | embedUnbind => exact execEmbedUnbind_reaches _ s
  | embedUnbindComplete => exact execEmbedUnbindComplete_reaches s
  | stagingReadStart => exact execStagingReadStart_reaches s
  | stagingReadComplete => exact execStagingReadComplete_reaches _ _ _ s
  | batchStepBoundary => exact execBatchStepBoundary_reaches s
  | boundaryInsertResume => exact execBoundaryInsertResume_reaches s
  | boundaryProcedureEnd => exact execBoundaryProcedureEnd_reaches _ s
  | query => exact execQuery_reaches _ _ s
  | queryAdmit => exact execQueryAdmit_reaches s
  | walkExpand => exact execWalkExpand_reaches _ s
  | rerankDeadline => exact execRerankDeadline_reaches _ s
  | mergeDeadline => exact execMergeDeadline_reaches _ s
  | insert => exact execInsert_reaches _ _ s
  | insertComplete => exact execInsertComplete_reaches _ s
  | deleteByNode => exact execDeleteByNode_reaches _ s
  | deleteByKey => exact execDeleteByKey_reaches _ s
  | publish => exact execPublish_reaches _ s
  | publishProceed => exact execPublishProceed_reaches s
  | publishApply => exact execPublishApply_reaches s
  | consolidationPassComplete => exact execConsolidationPassComplete_reaches s
  | consolidationLogFull => exact execConsolidationLogFull_reaches s
  | attach => exact execAttach_reaches _ s
  | attachLoadComplete => exact execAttachLoadComplete_reaches _ s
  | detach => exact execDetach_reaches _ s
  | detachComplete => exact execDetachComplete_reaches s
  | ralLogWrite => exact execRalLogWrite_reaches _ s
  | ralParamWrite => exact execRalParamWrite_reaches _ s
  | ralShardsWrite => exact execRalShardsWrite_reaches _ s
  | portEnable => exact execPortEnable_reaches _ s
  | portDisable => exact execPortDisable_reaches _ s
  | portRetrain => exact execPortRetrain_reaches _ s
  | signalDetected => exact execSignalDetected_reaches _ s
  | equaliseComplete => exact execEqualiseComplete_reaches _ s
  | alignComplete => exact execAlignComplete_reaches _ _ s
  | linkExchangeComplete => exact execLinkExchangeComplete_reaches _ _ s
  | trainingStateTimeout => exact execTrainingStateTimeout_reaches _ s
  | trainingRetryWaitExpiry => exact execTrainingRetryWaitExpiry_reaches _ s
  | quadFail => exact execQuadFail_reaches _ _ s
  | fastRetrainComplete => exact execFastRetrainComplete_reaches _ _ s
  | peerTransmitStop => exact execPeerTransmitStop_reaches _ s
  | dataFlitReceive => exact execDataFlitReceive_reaches _ _ s
  | idleFlitReceive => exact execIdleFlitReceive_reaches _ _ s
  | replayRequestReceive => exact execReplayRequestReceive_reaches _ _ s
  | ackTimer => exact execAckTimer_reaches _ s
  | flitSend => exact execFlitSend_reaches _ _ s
  | put => exact execPut_reaches _ s
  | get => exact execGet_reaches _ s
  | add => exact execAdd_reaches _ s
  | flagSet => exact execFlagSet_reaches _ s
  | reduceUp => exact execReduceUp_reaches _ s
  | reduceSegmentCombine => exact execReduceSegmentCombine_reaches _ _ _ s
  | reduceDown => exact execReduceDown_reaches _ s
  | queryParcel => exact execQueryParcel_reaches _ s
  | result => exact execResult_reaches _ s
  | rsp => exact execRsp_reaches _ s
  | getData => exact execGetData_reaches _ s
  | responseTimeout => exact execResponseTimeout_reaches _ s
  | kybDeviceIdWrite => exact execKybDeviceIdWrite_reaches _ s
  | kybRouteWrite => exact execKybRouteWrite_reaches _ _ s
  | nandReadComplete => exact execNandReadComplete_reaches _ _ s
  | nandProgramComplete => exact execNandProgramComplete_reaches _ _ _ s
  | nandEraseComplete => exact execNandEraseComplete_reaches _ _ _ s
  | dieStatusTimeout => exact execDieStatusTimeout_reaches _ _ s
  | writeBufferLeave => exact execWriteBufferLeave_reaches _ _ s
  | foldStart => exact execFoldStart_reaches s
  | gcVictimSelect => exact execGcVictimSelect_reaches s
  | refreshRelocate => exact execRefreshRelocate_reaches s
  | backgroundErase => exact execBackgroundErase_reaches _ s
  | ledgerSegmentWrite => exact execLedgerSegmentWrite_reaches _ s
  | ldgClockMinuteTick => exact execLdgClockMinuteTick_reaches s
  | ldgClockWrite => exact execLdgClockWrite_reaches _ s
  | ldgPoolWrite => exact execLdgPoolWrite_reaches _ _ s
  | ledgerRecoveryComplete => exact execLedgerRecoveryComplete_reaches _ _ s
  | linkUp => exact execLinkUp_reaches _ _ _ _ s
  | l0pWidthChange => exact execL0pWidthChange_reaches _ s
  | cxlHotReset => exact execCxlHotReset_reaches s
  | linkDown => exact execLinkDown_reaches s
  | flr => exact execFlr_reaches s
  | hostResetComplete => exact execHostResetComplete_reaches s
  | configRequest => exact execConfigRequest_reaches _ s
  | d3hotRequest => exact execD3hotRequest_reaches s
  | ps3Entry => exact execPs3Entry_reaches s
  | d0Request => exact execD0Request_reaches s
  | bar0AccessError => exact execBar0AccessError_reaches _ s
  | registerWrite => exact execRegisterWrite_reaches _ _ _ s
  | cacheEnableSet => exact execCacheEnableSet_reaches s
  | cacheEnableClear => exact execCacheEnableClear_reaches s
  | hdmDecoderCommit => exact execHdmDecoderCommit_reaches _ s
  | hdmHostRead => exact execHdmHostRead_reaches _ _ s
  | hdmHostWrite => exact execHdmHostWrite_reaches _ _ _ s
  | bisnpResponse => exact execBisnpResponse_reaches _ _ s
  | ideIntegrityFail => exact execIdeIntegrityFail_reaches _ s
  | ideKeyProgram => exact execIdeKeyProgram_reaches _ s
  | doeDiscovery => exact execDoeDiscovery_reaches _ _ s
  | cdatRead => exact execCdatRead_reaches s
  | doeAbort => exact execDoeAbort_reaches _ s
  | msixUnmask => exact execMsixUnmask_reaches _ s
  | doorbellSnoop => exact execDoorbellSnoop_reaches _ s
  | doorbellLineReturn => exact execDoorbellLineReturn_reaches _ _ s
  | doorbellRereadTimer => exact execDoorbellRereadTimer_reaches s
  | commandFetch => exact execCommandFetch_reaches _ _ s
  | descriptorReadError => exact execDescriptorReadError_reaches _ s
  | fencedCommandStart => exact execFencedCommandStart_reaches _ s
  | adminPairStart => exact execAdminPairStart_reaches _ s
  | adminPairStop => exact execAdminPairStop_reaches _ s
  | adminPairStopped => exact execAdminPairStopped_reaches s
  | identify => exact execIdentify_reaches _ s
  | createSq => exact execCreateSq_reaches _ s
  | createCq => exact execCreateCq_reaches _ s
  | deleteSq => exact execDeleteSq_reaches _ s
  | deleteSqComplete => exact execDeleteSqComplete_reaches _ s
  | deleteCq => exact execDeleteCq_reaches _ s
  | setPower => exact execSetPower_reaches _ s
  | powerStateEntryComplete => exact execPowerStateEntryComplete_reaches s
  | powerStateExitComplete => exact execPowerStateExitComplete_reaches s
  | drain => exact execDrain_reaches _ s
  | drainComplete => exact execDrainComplete_reaches s
  | resume => exact execResume_reaches _ s
  | nsCreate => exact execNsCreate_reaches _ s
  | nsDelete => exact execNsDelete_reaches _ s
  | nsQuery => exact execNsQuery_reaches _ s
  | read => exact execRead_reaches _ s
  | write => exact execWrite_reaches _ _ s
  | flush => exact execFlush_reaches _ s
  | trim => exact execTrim_reaches _ s
  | verify => exact execVerify_reaches _ s
  | rangeLockGrant => exact execRangeLockGrant_reaches _ s
  | writeSlotGrant => exact execWriteSlotGrant_reaches _ s
  | perstAssert => exact execPerstAssert_reaches s
  | perstRelease => exact execPerstRelease_reaches s
  | softwareDeviceReset => exact execSoftwareDeviceReset_reaches _ s
  | watchdogExpiry => exact execWatchdogExpiry_reaches s
  | stepFailureReset => exact execStepFailureReset_reaches s
  | bringupTimeout => exact execBringupTimeout_reaches s
  | refclkAbsent => exact execRefclkAbsent_reaches s
  | refclkLost => exact execRefclkLost_reaches s
  | deferredResetTake => exact execDeferredResetTake_reaches _ s
  | channelResetForce => exact execChannelResetForce_reaches _ s
  | tileReset => exact execTileReset_reaches _ _ s
  | walkerGroupReset => exact execWalkerGroupReset_reaches _ _ s
  | flashChannelReset => exact execFlashChannelReset_reaches _ _ s
  | fabricPortReset => exact execFabricPortReset_reaches _ _ s
  | porterGroupReset => exact execPorterGroupReset_reaches _ _ s
  | blockResetEnd => exact execBlockResetEnd_reaches _ s
  | releaseStep => exact execReleaseStep_reaches _ _ _ _ s
  | clearCounter => exact execClearCounter_reaches _ s
  | imageTransfer => exact execImageTransfer_reaches _ _ s
  | cflCycleStore => exact execCflCycleStore_reaches _ _ _ s
  | cflAbandon => exact execCflAbandon_reaches _ s
  | cflSequenceTimeout => exact execCflSequenceTimeout_reaches _ s
  | pageProgram => exact execPageProgram_reaches _ s
  | sectorErase => exact execSectorErase_reaches _ s
  | contReadEnter => exact execContReadEnter_reaches _ s
  | contReadExit => exact execContReadExit_reaches _ s
  | protSet => exact execProtSet_reaches _ s
  | protClear => exact execProtClear_reaches _ s
  | passwordChange => exact execPasswordChange_reaches _ s
  | cflWindowRead => exact execCflWindowRead_reaches _ _ s
  | cflProgramPulseEnd => exact execCflProgramPulseEnd_reaches _ _ s
  | cflErasePulseEnd => exact execCflErasePulseEnd_reaches _ _ s
  | cflProtectionOpComplete => exact execCflProtectionOpComplete_reaches _ s
  | cflQueuedHostOpStart => exact execCflQueuedHostOpStart_reaches _ s
  | deviceRecordWrite => exact execDeviceRecordWrite_reaches s
  | cflSectorSelWrite => exact execCflSectorSelWrite_reaches _ s
  | patrolRead => exact execPatrolRead_reaches _ _ _ s
  | copyRefetchComplete => exact execCopyRefetchComplete_reaches _ _ _ _ _ s
  | integrityCorrectedRateCheck => exact execIntegrityCorrectedRateCheck_reaches _ s
  | secEnroll => exact execSecEnroll_reaches _ _ _ s
  | secRevoke => exact execSecRevoke_reaches _ _ s
  | secSetPolicy => exact execSecSetPolicy_reaches _ _ s
  | secAdvanceSvn => exact execSecAdvanceSvn_reaches _ _ s
  | secChallenge => exact execSecChallenge_reaches _ s
  | secDebugUnlock => exact execSecDebugUnlock_reaches _ _ s
  | fuseWriteComplete => exact execFuseWriteComplete_reaches s
  | spdmGetVersion => exact execSpdmGetVersion_reaches s
  | spdmGetCapabilities => exact execSpdmGetCapabilities_reaches s
  | spdmNegotiateAlgorithms => exact execSpdmNegotiateAlgorithms_reaches _ s
  | spdmGetCertificate => exact execSpdmGetCertificate_reaches _ _ _ s
  | spdmChallenge => exact execSpdmChallenge_reaches _ s
  | spdmGetMeasurements => exact execSpdmGetMeasurements_reaches _ _ _ s
  | spdmKeyExchange => exact execSpdmKeyExchange_reaches _ s
  | spdmKeyUpdate => exact execSpdmKeyUpdate_reaches _ s
  | spdmHeartbeat => exact execSpdmHeartbeat_reaches s
  | spdmChunkGet => exact execSpdmChunkGet_reaches _ _ s
  | gbRingStart => exact execGbRingStart_reaches _ s
  | gbRingStop => exact execGbRingStop_reaches _ s
  | gbHeadWrite => exact execGbHeadWrite_reaches _ s
  | gbCopyBudgetTick => exact execGbCopyBudgetTick_reaches s
  | qstatCtrlWrite => exact execQstatCtrlWrite_reaches _ s
  | qstatWindowLatch => exact execQstatWindowLatch_reaches s
  | evtWinCtrlWrite => exact execEvtWinCtrlWrite_reaches _ _ s
  | statsWindowEnd => exact execStatsWindowEnd_reaches _ s
  | evtCtrSelWrite => exact execEvtCtrSelWrite_reaches _ s
  | gbRead => exact execGbRead_reaches _ s
  | telemetryRead => exact execTelemetryRead_reaches _ s
  | counterRead => exact execCounterRead_reaches _ s
  | vin48Return => exact execVin48Return_reaches _ s
  | tamperCoverClose => exact execTamperCoverClose_reaches s
  | watchdogRestart => exact execWatchdogRestart_reaches s
  | shardQueryBudgetExpiry => exact execShardQueryBudgetExpiry_reaches _ s

theorem exec_goesOn (c : Instr) (s : State) : ∃ t, exec c s = .next t := by
  obtain ⟨t, ht, -⟩ := exec_reaches c s
  exact ⟨t, ht⟩

theorem exec_frame {c : Instr} {s t : State} (h : exec c s = .next t) : Frame (mayChange c) s t := by
  obtain ⟨u, hu, hframe⟩ := exec_reaches c s
  cases hu.symm.trans h
  exact hframe

theorem pending_notMem_mayChange (c : Instr) : Part.pending ∉ mayChange c := by
  have h : (mayChange c).contains .pending = false := by cases c <;> rfl
  simpa using h

theorem tclk_notMem_mayChange (c : Instr) : Part.tclk ∉ mayChange c := by
  have h : (mayChange c).contains .tclk = false := by cases c <;> rfl
  simpa using h

end Sys2Proof.Machine
end

section
set_option Elab.async false
open Sys2Proof Sys2Proof.Machine

/-- Settles O3: every command's law says that it goes on. -/
theorem everyCommandGoesOn : Obligations.EveryCommandGoesOn := exec_goesOn

/-- Settles O4: every command's law says which parts it reaches, and none reaches the queue or the clock. -/
theorem commandsLeaveOtherPartsUnchanged : Obligations.CommandsLeaveOtherPartsUnchanged :=
  ⟨fun _ _ _ p hexec hp => exec_frame hexec p hp, fun c => ⟨pending_notMem_mayChange c, tclk_notMem_mayChange c⟩⟩
end

section
set_option Elab.async false
/-! SUPPORT. What holds of every next state of a command. -/

namespace Sys2Proof.Machine

/-- `P` holds of the next state, where the outcome has one. -/
def Ends (P : State → Prop) (o : Host.Outcome State Fault Refusal) : Prop := ∀ t, o = .next t → P t

@[simp] theorem ends_next (P : State → Prop) (t : State) : Ends P (.next t) ↔ P t := by
  simp [Ends]

@[simp] theorem ends_ite (P : State → Prop) (p : Prop) [Decidable p] (a b : Host.Outcome State Fault Refusal) :
    Ends P (if p then a else b) ↔ (p → Ends P a) ∧ (¬ p → Ends P b) := by
  split <;> simp_all

/-- A property of one part of the state passes from the state to the outcome of a command that does not reach the part. -/
theorem ends_exec_of_not_contains {P : State → Prop} {c : Instr} {s : State} {p : Part} (h : (mayChange c).contains p = false)
    (hpart : ∀ t, p.same s t → P t) : Ends P (exec c s) :=
  fun t ht => hpart t (exec_frame ht p (by simpa using h))

end Sys2Proof.Machine
end

section
set_option Elab.async false
/-! SUPPORT. The requests and the step in force of the governor stay legal (R27, R33). -/

namespace Sys2Proof.Machine

/-- Every request, and the step in force, is at most 4. -/
def PowerLegal (p : Power) : Prop := p.powerReq ≤ 4 ∧ p.thermDie ≤ 4 ∧ p.thermMem ≤ 4 ∧ p.thermFlash ≤ 4 ∧ p.step ≤ 4

theorem stepsLegal_iff (s : State) : StepsLegal s = true ↔ PowerLegal s.power := by
  simp [StepsLegal, PowerLegal, and_assoc]

/-- What does not write a request or the step keeps them legal. -/
theorem PowerLegal.of_eq {p q : Power} (h : PowerLegal p) (hreq : q.powerReq = p.powerReq := by simp)
    (hdie : q.thermDie = p.thermDie := by simp) (hmem : q.thermMem = p.thermMem := by simp)
    (hflash : q.thermFlash = p.thermFlash := by simp) (hstep : q.step = p.step := by simp) : PowerLegal q := by
  simpa only [PowerLegal, hreq, hdie, hmem, hflash, hstep] using h

theorem toggleTrip_powerLegal {s : State} (h : PowerLegal s.power) : PowerLegal (toggleTrip s).power := by
  unfold toggleTrip
  split
  · exact h.of_eq
  · exact h

theorem dropRails_powerLegal {s : State} (h : PowerLegal s.power) : PowerLegal (dropRails s).power := by
  unfold dropRails
  split
  · exact h.of_eq
  · exact h

theorem clearPower_powerLegal (s : State) : PowerLegal (clearPower s).power := by
  simp [clearPower, PowerLegal, Power.reset]

theorem clearAll_powerLegal (rails : Bool) (s : State) : PowerLegal (clearAll rails s).power := by
  simpa [clearAll] using clearPower_powerLegal _

theorem fullReset_powerLegal {source : Nat} {rails : Bool} {s : State} (h : PowerLegal s.power) :
    PowerLegal (fullReset source rails s).power := by
  unfold fullReset
  dsimp only
  split
  · simpa using dropRails_powerLegal (by simpa using h)
  · simp only [startRelease_frame]
    refine dropRails_powerLegal ?_
    split <;> simpa using clearAll_powerLegal rails s

theorem startInputLoss_powerLegal {s : State} (h : PowerLegal s.power) : PowerLegal (startInputLoss s).power := by
  unfold startInputLoss
  split
  · exact h
  · exact h.of_eq

theorem thermalTrip_powerLegal {s : State} (h : PowerLegal s.power) : PowerLegal (thermalTrip s).power := by
  unfold thermalTrip
  dsimp only
  split
  · exact h
  split
  · exact h.of_eq
  · refine fullReset_powerLegal ?_
    split <;> exact h.of_eq

theorem tryConnect_powerLegal {vinMv : Nat} {s : State} (h : PowerLegal s.power) : PowerLegal (tryConnect vinMv s).power := by
  unfold tryConnect
  split
  · exact h.of_eq
  · exact h

theorem noteOvervoltage_powerLegal {s : State} (h : PowerLegal s.power) : PowerLegal (noteOvervoltage s).power := by
  unfold noteOvervoltage
  split
  · exact h
  · exact h.of_eq

theorem noteSupply_powerLegal {vinMv : Nat} {s : State} (h : PowerLegal s.power) : PowerLegal (noteSupply vinMv s).power := by
  unfold noteSupply
  extract_lets low high s1 s2
  have hs1 : PowerLegal s1.power := h
  have hs2 : PowerLegal s2.power := by
    unfold s2
    split
    · simp only [logEvent_frame]
      exact hs1
    · exact hs1
  split
  · exact noteOvervoltage_powerLegal hs2
  · exact hs2

theorem writePwrLimit_powerLegal {v : W32} {s : State} (h : PowerLegal s.power) : PowerLegal (writePwrLimit v s).power := by
  unfold writePwrLimit
  split
  · exact h
  · exact h.of_eq

theorem opticsSample_powerLegal {n : Nat} {t : Int} {s : State} (h : PowerLegal s.power) :
    PowerLegal (opticsSample n t s).power := by
  unfold opticsSample
  extract_lets warn off set hot s1 s2 s3 q s4 q'
  have hs1 : PowerLegal s1.power := h
  have hs2 : PowerLegal s2.power := by
    unfold s2
    split
    · simpa only [logEvent_frame] using hs1
    · exact hs1
  have hs3 : PowerLegal s3.power := hs2
  have hs4 : PowerLegal s4.power := hs2
  split
  · split
    · exact hs3.of_eq
    · exact hs3
  split
  · exact hs4
  · exact hs2

theorem regWrite_powerLegal {stage : Nat} {lantern : Bool} {f : State → State} {s : State} (h : PowerLegal s.power)
    (hf : PowerLegal (f s).power) : PowerLegal (regWrite stage lantern f s).power := by
  unfold regWrite
  split
  · exact hf
  · exact h

theorem writeRstCtrl_powerLegal {v : W32} {s : State} (h : PowerLegal s.power) : PowerLegal (writeRstCtrl v s).power := by
  unfold writeRstCtrl
  split
  · exact regWrite_powerLegal h (fullReset_powerLegal h)
  · exact h

theorem takeUnit_powerLegal {u : PulseUnit} {s : State} (h : PowerLegal s.power) : PowerLegal (takeUnit u s).power := by
  refine dropRails_powerLegal ?_
  cases u with
  | configFlash =>
    simp only [setBoot_power]
    split <;> simpa using h
  | channel c => exact h

theorem leavePs3_powerLegal {s : State} (h : PowerLegal s.power) : PowerLegal (leavePs3 s).power := by
  refine h.of_eq ?_ ?_ ?_ ?_ ?_ <;> simp [leavePs3]

theorem write32_power {off : Nat} (v : W32) (s : State) (hlimit : off ≠ 0x11000) (hreset : off ≠ 0x12000) :
    (write32 off v s).power = s.power := by
  simp [write32, hlimit, hreset]

theorem write32_powerLegal {off : Nat} {v : W32} {s : State} (h : PowerLegal s.power) : PowerLegal (write32 off v s).power := by
  by_cases hlimit : off = 0x11000
  · subst hlimit
    exact regWrite_powerLegal h (writePwrLimit_powerLegal h)
  by_cases hreset : off = 0x12000
  · subst hreset
    exact writeRstCtrl_powerLegal h
  · rwa [write32_power v s hlimit hreset]

theorem write64_powerLegal {off : Nat} {v : W64} {s : State} (h : PowerLegal s.power) : PowerLegal (write64 off v s).power := by
  have hpower : (write64 off v s).power = s.power := by simp [write64]
  rwa [hpower]

theorem store4_powerLegal {off : Nat} {v : W32} {s : State} (h : PowerLegal s.power) : PowerLegal (store4 off v s).power := by
  unfold store4
  dsimp only
  split
  · exact write32_powerLegal h
  split
  · exact h
  · refine write64_powerLegal ?_
    split <;> exact h

theorem store8_powerLegal {off : Nat} {v : W64} {s : State} (h : PowerLegal s.power) : PowerLegal (store8 off v s).power := by
  unfold store8
  split
  · exact write64_powerLegal h
  · exact write32_powerLegal (write32_powerLegal h)

theorem thermStep_le (start : Int) {old : Nat} (t : Int) (h : old ≤ 4) : thermStep start old t ≤ 4 := by
  unfold thermStep
  have hup : ∀ p : Nat → Bool, ((List.range 4).filter p).length ≤ 4 := fun p => by simpa using List.length_filter_le p (List.range 4)
  have hheld : ∀ p : Nat → Bool, ((List.range old).filter p).length ≤ 4 := fun p => by
    have := List.length_filter_le p (List.range old)
    simp only [List.length_range] at this
    omega
  exact max_le (hup _) (hheld _)

theorem wantedStep_le {s : State} (h : PowerLegal s.power) : wantedStep s ≤ 4 := by
  obtain ⟨hreq, hdie, hmem, hflash, -⟩ := h
  have huv : uvRequest s ≤ 4 := by
    unfold uvRequest
    split <;> omega
  simp [wantedStep, thermRequest, stepFloor, hreq, huv, hdie, hmem, hflash]

end Sys2Proof.Machine
end

section
set_option Elab.async false
/-! SUPPORT. Each command that writes the supply and governor keeps the requests and the step legal. -/

namespace Sys2Proof.Machine

/-- Every next state has legal requests and a legal step. -/
abbrev EndsLegal (o : Host.Outcome State Fault Refusal) : Prop := Ends (fun t => PowerLegal t.power) o

section
set_option Elab.async false
variable {s : State} (h : PowerLegal s.power)
include h

theorem execPwrdisAssert_endsLegal : EndsLegal (execPwrdisAssert s) :=
  (ends_next ..).mpr (fullReset_powerLegal (toggleTrip_powerLegal h))

theorem execPwrdisRelease_endsLegal (straps : Straps) : EndsLegal (execPwrdisRelease straps s) := by
  unfold execPwrdisRelease
  split <;> exact (ends_next ..).mpr h

theorem execBladeSeated_endsLegal (vinMv : Nat) : EndsLegal (execBladeSeated vinMv s) :=
  (ends_next ..).mpr (tryConnect_powerLegal h)

theorem execBladeUnseated_endsLegal : EndsLegal (execBladeUnseated s) :=
  (ends_next ..).mpr (startInputLoss_powerLegal h)

theorem execVin48Return_endsLegal (vinMv : Nat) : EndsLegal (execVin48Return vinMv s) :=
  (ends_next ..).mpr (tryConnect_powerLegal h)

theorem execVin48OvervoltageDisconnect_endsLegal (vinMv : Nat) : EndsLegal (execVin48OvervoltageDisconnect vinMv s) := by
  unfold execVin48OvervoltageDisconnect
  split
  · exact (ends_next ..).mpr h
  · refine (ends_next ..).mpr (startInputLoss_powerLegal ?_)
    split
    · exact noteOvervoltage_powerLegal h
    · exact h

theorem execInputLossDetect_endsLegal (vinMv : Nat) : EndsLegal (execInputLossDetect vinMv s) := by
  unfold execInputLossDetect
  split
  · exact (ends_next ..).mpr h
  · exact (ends_next ..).mpr (startInputLoss_powerLegal h)

theorem execPowerOnResetRelease_endsLegal (straps : Straps) : EndsLegal (execPowerOnResetRelease straps s) := by
  unfold execPowerOnResetRelease
  dsimp only
  split
  · exact (ends_next ..).mpr h
  · simp only [ends_next, startRelease_frame]
    exact h

theorem execInputLossRecordProgram_endsLegal : EndsLegal (execInputLossRecordProgram s) := by
  unfold execInputLossRecordProgram
  split
  · exact (ends_next ..).mpr h
  · refine (ends_next ..).mpr (dropRails_powerLegal ?_)
    simp only [setBoot_power]
    exact clearAll_powerLegal _ _

theorem execSmbrstAssert_endsLegal : EndsLegal (execSmbrstAssert s) := (ends_next ..).mpr h

theorem execGovernorSample_endsLegal (vinMv currentMa : Nat) : EndsLegal (execGovernorSample vinMv currentMa s) := by
  obtain ⟨hreq, htherm⟩ := h
  unfold execGovernorSample
  split
  · exact (ends_next ..).mpr ⟨hreq, htherm⟩
  · refine (ends_next ..).mpr (noteSupply_powerLegal ?_)
    simp only [bump_frame, setPower_power]
    refine ⟨?_, htherm⟩
    dsimp only
    (repeat' split) <;> omega

theorem execGovernorWindowEnd_endsLegal : EndsLegal (execGovernorWindowEnd s) := by
  obtain ⟨hreq, htherm⟩ := h
  unfold execGovernorWindowEnd
  dsimp only
  split
  · exact (ends_next ..).mpr ⟨hreq, htherm⟩
  · simp only [ends_next, keepHighest_frame, setPower_power]
    refine ⟨?_, htherm⟩
    dsimp only
    (repeat' split) <;> omega

theorem execThrottleStepChange_endsLegal : EndsLegal (execThrottleStepChange s) := by
  have hstep := wantedStep_le h
  unfold execThrottleStepChange
  extract_lets w thermal s1 s2
  split
  · exact (ends_next ..).mpr h
  have hs2 : PowerLegal s2.power := by
    obtain ⟨hreq, hdie, hmem, hflash, -⟩ := h
    simp only [s2, logEvent_frame]
    exact ⟨hreq, hdie, hmem, hflash, hstep⟩
  split
  · exact (ends_next ..).mpr (by simpa using hs2)
  · exact (ends_next ..).mpr hs2

theorem execClkPwrLimitWrite_endsLegal (value : W32) : EndsLegal (execClkPwrLimitWrite value s) :=
  (ends_next ..).mpr (regWrite_powerLegal h (writePwrLimit_powerLegal h))

theorem execPwrLimitLock_endsLegal (value : W32) : EndsLegal (execPwrLimitLock value s) :=
  (ends_next ..).mpr (regWrite_powerLegal h (writePwrLimit_powerLegal h))

omit h in
theorem foldl_opticsSample_powerLegal (t : List (BitVec 16)) (l : List Nat) {s : State} (h : PowerLegal s.power) :
    PowerLegal (l.foldl (fun x n => opticsSample n (t.getD (88 + n) 0#16).toInt x) s).power := by
  induction l generalizing s with
  | nil => exact h
  | cons n l ih => exact ih (opticsSample_powerLegal h)

theorem execSensorSample_endsLegal (readings : List (BitVec 16)) : EndsLegal (execSensorSample readings s) := by
  unfold execSensorSample
  extract_lets t old s1 s2 s3
  split
  · exact (ends_next ..).mpr h
  split
  · refine (ends_next ..).mpr ?_
    split
    · exact thermalTrip_powerLegal h
    · exact h
  split
  · exact (ends_next ..).mpr h
  have hs2 : PowerLegal s2.power := by
    obtain ⟨hreq, hdie, hmem, hflash, hstep⟩ := h
    simp only [s2, bump_frame]
    exact ⟨hreq, thermStep_le _ _ hdie, thermStep_le _ _ hmem, thermStep_le _ _ hflash, hstep⟩
  have hs3 : PowerLegal s3.power := foldl_opticsSample_powerLegal t _ hs2
  refine (ends_next ..).mpr ?_
  split
  · exact thermalTrip_powerLegal hs3
  · exact hs3

theorem execTamperOpen_endsLegal : EndsLegal (execTamperOpen s) := by
  unfold execTamperOpen
  extract_lets s1
  split
  · exact (ends_next ..).mpr h
  · refine (ends_next ..).mpr ?_
    split
    · simp only [logEvent_frame]
      exact h
    · exact h

theorem execTamperCoverClose_endsLegal : EndsLegal (execTamperCoverClose s) := by
  unfold execTamperCoverClose
  split <;> exact (ends_next ..).mpr h

theorem execPs3Entry_endsLegal : EndsLegal (execPs3Entry s) := by
  unfold execPs3Entry
  split
  · exact (ends_next ..).mpr h
  · refine (ends_next ..).mpr ?_
    simp only [reachPower_frame, setHost_power]
    refine h.of_eq ?_ ?_ ?_ ?_ ?_ <;> simp

theorem execRegisterWrite_endsLegal (offset : BitVec 23) (wide : Bool) (value : W64) :
    EndsLegal (execRegisterWrite offset wide value s) := by
  simp only [execRegisterWrite, EndsLegal, ends_ite, ends_next]
  refine ⟨fun _ => h, fun _ => ⟨fun _ => by simpa using h, fun _ => ?_⟩⟩
  split
  · exact store8_powerLegal h
  · exact store4_powerLegal h

theorem execPowerStateExitComplete_endsLegal : EndsLegal (execPowerStateExitComplete s) := by
  unfold execPowerStateExitComplete
  split
  · exact (ends_next ..).mpr (by simpa using h)
  · refine (ends_next ..).mpr ?_
    split <;> simpa using h
  · exact (ends_next ..).mpr (leavePs3_powerLegal h)
  · exact (ends_next ..).mpr h

theorem execPerstAssert_endsLegal : EndsLegal (execPerstAssert s) :=
  (ends_next ..).mpr (fullReset_powerLegal (toggleTrip_powerLegal h))

theorem execPerstRelease_endsLegal : EndsLegal (execPerstRelease s) :=
  (ends_next ..).mpr (by simp only [startRelease_frame]; exact h)

theorem execSoftwareDeviceReset_endsLegal (value : W32) : EndsLegal (execSoftwareDeviceReset value s) :=
  (ends_next ..).mpr (writeRstCtrl_powerLegal h)

theorem execWatchdogExpiry_endsLegal : EndsLegal (execWatchdogExpiry s) := by
  unfold execWatchdogExpiry
  split
  · exact (ends_next ..).mpr (fullReset_powerLegal h)
  · exact (ends_next ..).mpr h

theorem execStepFailureReset_endsLegal : EndsLegal (execStepFailureReset s) := by
  unfold execStepFailureReset
  split
  · exact (ends_next ..).mpr (fullReset_powerLegal h)
  · exact (ends_next ..).mpr h

theorem execBringupTimeout_endsLegal : EndsLegal (execBringupTimeout s) := by
  unfold execBringupTimeout
  split
  · exact (ends_next ..).mpr (fullReset_powerLegal h)
  · exact (ends_next ..).mpr h

theorem execDeferredResetTake_endsLegal (unit : PulseUnit) : EndsLegal (execDeferredResetTake unit s) := by
  unfold execDeferredResetTake
  split
  · exact (ends_next ..).mpr (takeUnit_powerLegal h)
  · cases unit with
    | channel c => simp [h]
    | configFlash => exact (ends_next ..).mpr h

theorem execChannelResetForce_endsLegal (channel : Fin 64) : EndsLegal (execChannelResetForce channel s) := by
  unfold execChannelResetForce
  split
  · exact (ends_next ..).mpr (takeUnit_powerLegal h)
  split
  · simp [h]
  · exact (ends_next ..).mpr h

theorem execBlockResetEnd_endsLegal (selftest : StepWork) : EndsLegal (execBlockResetEnd selftest s) := by
  unfold execBlockResetEnd
  split
  · exact (ends_next ..).mpr h
  split
  · exact (ends_next ..).mpr h
  cases selftest with
  | done => exact (ends_next ..).mpr h
  | failed => exact (ends_next ..).mpr (fullReset_powerLegal h)
  | selftestFailed u p y =>
    refine (ends_next ..).mpr (fullReset_powerLegal ?_)
    simpa using h

theorem execSecDebugUnlock_endsLegal (tr : Nat) (auth : AuthInput) : EndsLegal (execSecDebugUnlock tr auth s) := by
  unfold execSecDebugUnlock
  split
  · exact (ends_next ..).mpr h
  split
  · exact (ends_next ..).mpr (by simpa using h)
  refine (ends_next ..).mpr ?_
  unfold authorised
  dsimp only
  split
  · simpa using h.of_eq
  · simpa using h

end

/-- Every command keeps the requests and the step in force between 0 and 4. -/
theorem exec_endsLegal {s : State} (h : PowerLegal s.power) (c : Instr) : EndsLegal (exec c s) := by
  cases c with
  | pwrdisAssert => exact execPwrdisAssert_endsLegal h
  | pwrdisRelease straps => exact execPwrdisRelease_endsLegal h straps
  | bladeSeated vinMv => exact execBladeSeated_endsLegal h vinMv
  | bladeUnseated => exact execBladeUnseated_endsLegal h
  | vin48Return vinMv => exact execVin48Return_endsLegal h vinMv
  | vin48OvervoltageDisconnect vinMv => exact execVin48OvervoltageDisconnect_endsLegal h vinMv
  | powerOnResetRelease straps => exact execPowerOnResetRelease_endsLegal h straps
  | inputLossDetect vinMv => exact execInputLossDetect_endsLegal h vinMv
  | inputLossRecordProgram => exact execInputLossRecordProgram_endsLegal h
  | smbrstAssert => exact execSmbrstAssert_endsLegal h
  | governorSample vinMv currentMa => exact execGovernorSample_endsLegal h vinMv currentMa
  | governorWindowEnd => exact execGovernorWindowEnd_endsLegal h
  | throttleStepChange => exact execThrottleStepChange_endsLegal h
  | clkPwrLimitWrite value => exact execClkPwrLimitWrite_endsLegal h value
  | pwrLimitLock value => exact execPwrLimitLock_endsLegal h value
  | sensorSample readings => exact execSensorSample_endsLegal h readings
  | tamperOpen => exact execTamperOpen_endsLegal h
  | tamperCoverClose => exact execTamperCoverClose_endsLegal h
  | ps3Entry => exact execPs3Entry_endsLegal h
  | registerWrite offset wide value => exact execRegisterWrite_endsLegal h offset wide value
  | powerStateExitComplete => exact execPowerStateExitComplete_endsLegal h
  | perstAssert => exact execPerstAssert_endsLegal h
  | perstRelease => exact execPerstRelease_endsLegal h
  | softwareDeviceReset value => exact execSoftwareDeviceReset_endsLegal h value
  | watchdogExpiry => exact execWatchdogExpiry_endsLegal h
  | stepFailureReset => exact execStepFailureReset_endsLegal h
  | bringupTimeout => exact execBringupTimeout_endsLegal h
  | deferredResetTake unit => exact execDeferredResetTake_endsLegal h unit
  | channelResetForce channel => exact execChannelResetForce_endsLegal h channel
  | blockResetEnd selftest => exact execBlockResetEnd_endsLegal h selftest
  | secDebugUnlock tr auth => exact execSecDebugUnlock_endsLegal h tr auth
  | _ => exact ends_exec_of_not_contains (p := .power) rfl fun t ht => ht ▸ h

/-- Settles O9: the requests and the step in force stay at most 4, by cases on the commands that write them. -/
theorem throttleStepsStayLegal : Obligations.ThrottleStepsStayLegal := by
  unfold Obligations.ThrottleStepsStayLegal
  intro s t hs ht
  rw [stepsLegal_iff] at hs ⊢
  cases hq : s.pending with
  | nil =>
    rw [step_of_nil hq] at ht
    cases ht
    simpa using hs
  | cons c rest =>
    rw [step_of_cons hq] at ht
    exact exec_endsLegal (s := { s with pending := rest }) hs c t ht

end Sys2Proof.Machine
end

section
set_option Elab.async false
/-! SUPPORT. What leaves the array of the configuration flash as it is (chapter 16). -/

namespace Sys2Proof.Machine

@[simp] theorem setBank_array (b : Nat) (f : CflBank → CflBank) (s : State) : (setBank b f s).cfl.array = s.cfl.array := rfl

@[simp] theorem setMarks_array (sec v : Nat) (s : State) : (setMarks sec v s).cfl.array = s.cfl.array := rfl

@[simp] theorem eraseBegin_array (sec count : Nat) (s : State) : (eraseBegin sec count s).cfl.array = s.cfl.array := rfl

@[simp] theorem abandonSeq_array (b : Nat) (err : Bool) (s : State) : (abandonSeq b err s).cfl.array = s.cfl.array := rfl

@[simp] theorem refuseBankOp_array (b : Nat) (f : CflBank → CflBank) (s : State) :
    (refuseBankOp b f s).cfl.array = s.cfl.array := rfl

@[simp] theorem startBankOp_array (b : Nat) (op : CflOp) (cmd count : Nat) (s : State) :
    (startBankOp b op cmd count s).cfl.array = s.cfl.array := rfl

@[simp] theorem endRun_array (b : Nat) (f : CflBank → CflBank) (s : State) : (endRun b f s).cfl.array = s.cfl.array := rfl

@[simp] theorem endDev_array (f : CflBank → CflBank) (s : State) : (endDev f s).cfl.array = s.cfl.array := rfl

@[simp] theorem protWritten_array (b cmd g : Nat) (pw2 : W64) (s : State) :
    (protWritten b cmd g pw2 s).cfl.array = s.cfl.array := rfl

@[simp] theorem startRecord_array (a : Nat) (bytes : List Byte) (layout : Bool) (s : State) :
    (startRecord a bytes layout s).cfl.array = s.cfl.array := rfl

@[simp] theorem selectSector_array (v : W32) (s : State) : (selectSector v s).cfl.array = s.cfl.array := rfl

@[simp] theorem writeBankStatus_array (b : Nat) (v : W32) (s : State) : (writeBankStatus b v s).cfl.array = s.cfl.array := rfl

@[simp] theorem writePtrArea_array (n : Nat) (v : W32) (s : State) : (writePtrArea n v s).cfl.array = s.cfl.array := rfl

@[simp] theorem clearCfl_array (rails : Bool) (s : State) : (clearCfl rails s).cfl.array = s.cfl.array := rfl

@[simp] theorem clearAll_array (rails : Bool) (s : State) : (clearAll rails s).cfl.array = s.cfl.array := by
  simp [clearAll]

@[simp] theorem logSlowErase_array (sec pulses count : Nat) (s : State) :
    (logSlowErase sec pulses count s).cfl.array = s.cfl.array := by
  unfold logSlowErase
  split <;> simp

@[simp] theorem checkPassword_array (b g : Nat) (pw : W64) (s : State) :
    (checkPassword b g pw s).2.cfl.array = s.cfl.array := by
  unfold checkPassword
  dsimp only
  split
  · rfl
  split <;> simp

@[simp] theorem bankStore_array (b off size v : Nat) (s : State) : (bankStore b off size v s).cfl.array = s.cfl.array := by
  unfold bankStore
  dsimp only
  split
  · rfl
  split
  · rfl
  split <;> rfl

@[simp] theorem startHostOp_array (b : Nat) (s : State) : (startHostOp b s).cfl.array = s.cfl.array := by
  unfold startHostOp
  split
  · rfl
  next op _ =>
  cases op with
  | program page words => dsimp only; split <;> rfl
  | erase sector => dsimp only; split <;> rfl
  | contEnter code => rfl
  | contExit => rfl
  | prot cmd g pw pw2 =>
    dsimp only
    split
    · rfl
    split
    · rfl
    split <;> simp

@[simp] theorem startProt_array (b cmd : Nat) (s : State) : (startProt b cmd s).cfl.array = s.cfl.array := by
  unfold startProt
  split
  · split <;> simp
  · rfl

@[simp] theorem prefetchAfter_array (b p : Nat) (s : State) : (prefetchAfter b p s).cfl.array = s.cfl.array := by
  unfold prefetchAfter
  dsimp only
  split <;> rfl

@[simp] theorem recordDone_array (layout : Bool) (s : State) : (recordDone layout s).cfl.array = s.cfl.array := by
  unfold recordDone
  extract_lets r next r1 full sec s1
  have hs1 : s1.cfl.array = s.cfl.array := by cases layout <;> rfl
  split <;> exact hs1

@[simp] theorem partnerDone_array (sec : Nat) (s : State) : (partnerDone sec s).cfl.array = s.cfl.array := by
  unfold partnerDone
  split <;> rfl

@[simp] theorem loadGroup_array (b g : Nat) (s : State) : (loadGroup b g s).cfl.array = s.cfl.array := by
  unfold loadGroup
  dsimp only
  generalize List.find? ProtRow.agrees _ = agreed
  cases agreed with
  | some r => rfl
  | none => dsimp only; split <;> simp

theorem foldl_array {α : Type} (f : State → α → State) (h : ∀ x a, (f x a).cfl.array = x.cfl.array) (l : List α) (s : State) :
    (l.foldl f s).cfl.array = s.cfl.array := by
  induction l generalizing s with
  | nil => rfl
  | cons a l ih => rw [List.foldl_cons, ih, h]

@[simp] theorem loadProtection_array (s : State) : (loadProtection s).cfl.array = s.cfl.array := by
  unfold loadProtection
  exact foldl_array _ (fun x i => loadGroup_array (i / 16) (i % 16) x) _ _

@[simp] theorem countSkipped_array (s : State) : (countSkipped s).cfl.array = s.cfl.array := by simp

@[simp] theorem hostReset_array (source : Nat) (linkStays : Bool) (s : State) :
    (hostReset source linkStays s).cfl.array = s.cfl.array := by
  unfold hostReset
  dsimp only
  split
  · rfl
  split <;> simp

@[simp] theorem linkLost_array (s : State) : (linkLost s).cfl.array = s.cfl.array := by
  unfold linkLost
  dsimp only
  split <;> simp

@[simp] theorem startInputLoss_array (s : State) : (startInputLoss s).cfl.array = s.cfl.array := by
  unfold startInputLoss
  split <;> rfl

@[simp] theorem noteLoss_array (ev : Ev) (s : State) : (noteLoss ev s).cfl.array = s.cfl.array := by
  simp [noteLoss]

end Sys2Proof.Machine
end

section
set_option Elab.async false
/-! SUPPORT. The array of the configuration flash stays canonical under every operation that writes it (log 29). -/

namespace Sys2Proof.Machine

/-- The array lists its bytes by rising address, and none that reads as erased. -/
def ArrayCanonical (s : State) : Prop := Mem.wf onesByte s.cfl.array = true

theorem ArrayCanonical.of_eq {s t : State} (h : ArrayCanonical s) (heq : t.cfl.array = s.cfl.array := by simp) :
    ArrayCanonical t := by
  rwa [ArrayCanonical, heq]

/-- Giving each byte of some cells another value, and leaving out those that then read as erased, keeps the canonical form. -/
theorem Mem.wf_filterMap {d : Nat → Byte} {m : Mem} {f : Host.Cell → Option Host.Cell} (h : Mem.wf d m = true)
    (hkey : ∀ c c', f c = some c' → c'.1 = c.1) (hvalue : ∀ c c', c ∈ m → f c = some c' → c'.2 ≠ d c'.1) :
    Mem.wf d (m.filterMap f) = true := by
  rw [Mem.wf_iff] at h ⊢
  obtain ⟨hsorted, -⟩ := h
  refine ⟨List.pairwise_filterMap.2 (hsorted.imp ?_), ?_⟩
  · intro p q hpq p' hp' q' hq'
    rw [hkey p p' hp', hkey q q' hq']
    exact hpq
  · intro c' hc'
    obtain ⟨c, hc, hfc⟩ := List.mem_filterMap.1 hc'
    exact hvalue c c' hc hfc

section
set_option Elab.async false
variable {s : State} (h : ArrayCanonical s)
include h

theorem eraseContent_canonical (sec : Nat) : ArrayCanonical (eraseContent sec s) := by
  unfold eraseContent
  split
  · exact Mem.wf_filter _ _ _ h
  · exact h

theorem eraseDone_canonical (sec count pulses : Nat) : ArrayCanonical (eraseDone sec count pulses s) :=
  (eraseContent_canonical h sec).of_eq rfl

theorem spoilSector_canonical (sec : Nat) : ArrayCanonical (spoilSector sec s) := by
  refine Mem.wf_filterMap h ?_ ?_
  · intro c c' hc
    dsimp only at hc
    split at hc
    · split at hc
      · cases hc
      · cases hc
        rfl
    · cases hc
      rfl
  · intro c c' hmem hc
    dsimp only at hc
    split at hc
    · split at hc
      · cases hc
      · cases hc
        assumption
    · cases hc
      exact ((Mem.wf_iff _ _).1 h).2 c hmem

theorem eraseFailed_canonical (sec pulses count : Nat) : ArrayCanonical (eraseFailed sec pulses count s) :=
  (spoilSector_canonical h sec).of_eq (by simp [eraseFailed])

theorem eraseWhole_canonical (sec count pulses : Nat) : ArrayCanonical (eraseWhole sec count pulses s) := by
  unfold eraseWhole
  dsimp only
  split
  · exact eraseDone_canonical h.of_eq ..
  · exact eraseFailed_canonical h.of_eq ..

theorem eraseDrawn_canonical (sec : Nat) : ArrayCanonical (eraseDrawn sec s) :=
  eraseWhole_canonical (h.of_eq (t := (drawFree s).2) rfl) ..

theorem cflProgram_canonical (a : Nat) (bytes : List Byte) : ArrayCanonical (cflProgram a bytes s) := Mem.wf_write _ _ _ _ h

theorem cflSpoil_canonical (a n : Nat) : ArrayCanonical (cflSpoil a n s) := Mem.wf_write _ _ _ _ h

theorem counterWrite_canonical (n : Nat) : ArrayCanonical (counterWrite n s) := by
  unfold counterWrite
  extract_lets r v s1 s2 partner sec s3
  have hs1 : ArrayCanonical s1 := cflProgram_canonical h _ _
  have hs2 : ArrayCanonical s2 := hs1.of_eq rfl
  split
  · exact hs2
  · exact (eraseDrawn_canonical hs2 sec).of_eq rfl

theorem programFailed_canonical (b a : Nat) : ArrayCanonical (programFailed b a s) :=
  (cflSpoil_canonical h a pageBytes).of_eq (by simp [programFailed])

theorem endProt_canonical (b cmd g : Nat) (pw2 : W64) (pulses : Nat) : ArrayCanonical (endProt b cmd g pw2 pulses s) :=
  (eraseWhole_canonical (h.of_eq (protWritten_array b cmd g pw2 s)) _ _ _).of_eq (endRun_array ..)

theorem reErase_canonical (sec : Nat) : ArrayCanonical (reErase sec s) :=
  (eraseDrawn_canonical h sec).of_eq (by simp [reErase])

theorem scanSector_canonical (sec : Nat) : ArrayCanonical (scanSector sec s) := by
  unfold scanSector
  dsimp only
  split
  · exact h
  · exact reErase_canonical h sec
  · split
    · exact h
    · exact reErase_canonical h sec
  · exact reErase_canonical h sec

omit h in
theorem foldl_canonical {α : Type} {f : State → α → State} (hf : ∀ x a, ArrayCanonical x → ArrayCanonical (f x a)) (l : List α)
    {s : State} (h : ArrayCanonical s) : ArrayCanonical (l.foldl f s) := by
  induction l generalizing s with
  | nil => exact h
  | cons a l ih => exact ih (hf _ a h)

theorem scanMarks_canonical : ArrayCanonical (scanMarks s) :=
  foldl_canonical (fun _ sec hx => scanSector_canonical hx sec) _ h

theorem openCopy_canonical : ArrayCanonical (openCopy s) := by
  unfold openCopy
  extract_lets second sec used partner loss next s1
  have hs1 : ArrayCanonical s1 := by
    unfold s1
    split
    · exact h
    · exact eraseDrawn_canonical h partner
  split
  · exact hs1
  · exact h

theorem openLayout_canonical : ArrayCanonical (openLayout s) := by
  unfold openLayout
  extract_lets r partner sec
  split
  · exact h
  · refine ArrayCanonical.of_eq (s := if sectorBlank sec s then s else eraseDrawn sec s) ?_ rfl
    split
    · exact h
    · exact eraseDrawn_canonical h sec

theorem cflStartUp_canonical : ArrayCanonical (cflStartUp s) := by
  unfold cflStartUp
  extract_lets s1 s2
  refine openCopy_canonical (openLayout_canonical ?_)
  exact (scanMarks_canonical h).of_eq ((loadProtection_array _).trans (countSkipped_array _))

theorem interruptBank_canonical (b : Nat) : ArrayCanonical (interruptBank b s) := by
  have hdrawn : ArrayCanonical (drawFree s).2 := h
  refine ArrayCanonical.of_eq ?_ (setBank_array ..)
  generalize (cflBank b s).run = run
  generalize (cflBank b s).dev = dev
  split
  · split
    · exact cflProgram_canonical hdrawn ..
    · exact cflSpoil_canonical hdrawn ..
  · exact spoilSector_canonical hdrawn _
  · split <;> exact hdrawn
  · split
    · exact cflProgram_canonical hdrawn ..
    · exact cflSpoil_canonical hdrawn ..
  · exact spoilSector_canonical hdrawn _
  · exact h

theorem takeCfl_canonical : ArrayCanonical (takeCfl s) :=
  ArrayCanonical.of_eq (interruptBank_canonical (interruptBank_canonical h 0) 1) rfl

omit h in
theorem programLoss_canonical (slot : Nat) (l : List EvtRec) {s : State} (h : ArrayCanonical s) :
    ArrayCanonical (programLoss slot l s) := by
  induction l generalizing slot s with
  | nil => exact h
  | cons r l ih => exact ih _ (cflProgram_canonical h _ _)

theorem writeLoss_canonical (reserved : Bool) : ArrayCanonical (writeLoss reserved s) := programLoss_canonical _ _ h

theorem takeFree_canonical (deferred : List PulseUnit) : ArrayCanonical (takeFree deferred s) := by
  unfold takeFree
  split
  · exact h
  · exact takeCfl_canonical h

theorem fullReset_canonical (source : Nat) (rails : Bool) : ArrayCanonical (fullReset source rails s) := by
  unfold fullReset
  extract_lets d s1 s2 s3
  split
  · exact h.of_eq
  have hs2 : ArrayCanonical s2 := takeFree_canonical (h.of_eq (clearAll_array rails s)) d
  have hs3 : ArrayCanonical s3 := by
    unfold s3
    split
    · exact hs2
    · exact writeLoss_canonical hs2 false
  exact hs3.of_eq

theorem thermalTrip_canonical : ArrayCanonical (thermalTrip s) := by
  unfold thermalTrip
  dsimp only
  split
  · exact h
  split
  · exact h
  · refine fullReset_canonical ?_ 3 true
    split <;> exact h.of_eq

theorem takeUnit_canonical (u : PulseUnit) : ArrayCanonical (takeUnit u s) := by
  cases u with
  | configFlash =>
    have hwritten : ArrayCanonical (if (takeCfl s).cfl.loss.isEmpty then takeCfl s else writeLoss false (takeCfl s)) := by
      split
      · exact takeCfl_canonical h
      · exact writeLoss_canonical (takeCfl_canonical h) false
    exact hwritten.of_eq (by simp [takeUnit])
  | channel c => exact h.of_eq (by simp [takeUnit])

theorem enterReady_canonical : ArrayCanonical (enterReady s) := by
  unfold enterReady
  extract_lets s1 s2 flash s3
  have hs2 : ArrayCanonical s2 := by
    unfold s2
    split
    · exact counterWrite_canonical (s := s1) h 0
    · exact h
  rw [ArrayCanonical]
  simp only [logEvent_frame]
  exact hs2

theorem stepTwo_canonical : ArrayCanonical (stepTwo s) := by
  unfold stepTwo
  extract_lets s1 sel r
  have hs1 : ArrayCanonical s1 := by
    rw [ArrayCanonical]
    simp only [s1, setBoot_cfl]
    exact cflStartUp_canonical h
  clear_value s1
  split
  · exact hs1.of_eq
  split
  · exact hs1
  split
  · exact hs1.of_eq
  split
  · exact hs1.of_eq
  · exact counterWrite_canonical (s := setBoot _ s1) hs1 _

theorem stepEight_canonical (bad : Option Nat) : ArrayCanonical (stepEight bad s) := by
  unfold stepEight
  extract_lets train s1
  have hs1 : ArrayCanonical s1 := h.of_eq (by simp [s1, train])
  split
  · exact enterReady_canonical hs1
  · exact hs1

theorem writeBootCtrl_canonical (v : W32) : ArrayCanonical (writeBootCtrl v s) := by
  unfold writeBootCtrl
  dsimp only
  split
  · exact counterWrite_canonical (s := setBoot _ s) h 0
  · exact h

theorem writeRstCtrl_canonical (v : W32) : ArrayCanonical (writeRstCtrl v s) := by
  unfold writeRstCtrl
  split
  · unfold regWrite
    split
    · exact fullReset_canonical h ..
    · exact h
  · exact h

omit h in
theorem regWrite_array (stage : Nat) (lantern : Bool) (f : State → State) (s : State)
    (hf : ∀ x, (f x).cfl.array = x.cfl.array) : (regWrite stage lantern f s).cfl.array = s.cfl.array := by
  unfold regWrite
  split
  · exact hf s
  · rfl

omit h in
/-- Of the registers of 32 bits, only the one that resets the device and the one that clears the counter write the array. -/
theorem write32_array {off : Nat} (v : W32) (s : State) (hreset : off ≠ 0x12000) (hcounter : off ≠ 0x12010) :
    (write32 off v s).cfl.array = s.cfl.array := by
  simp [write32, hreset, hcounter, apply_ite State.cfl, apply_ite Cfl.array,
    regWrite_array 2 true _ s (writeBankStatus_array 0 v), regWrite_array 2 true _ s (writeBankStatus_array 1 v),
    regWrite_array 2 true _ s (selectSector_array v), fun n => regWrite_array 5 false _ s (writePtrArea_array n v)]

theorem write32_canonical (off : Nat) (v : W32) : ArrayCanonical (write32 off v s) := by
  by_cases hreset : off = 0x12000
  · subst hreset
    exact writeRstCtrl_canonical h v
  by_cases hcounter : off = 0x12010
  · subst hcounter
    exact writeBootCtrl_canonical h v
  · exact h.of_eq (write32_array v s hreset hcounter)

theorem write64_canonical (off : Nat) (v : W64) : ArrayCanonical (write64 off v s) := h.of_eq (by simp [write64])

theorem store4_canonical (off : Nat) (v : W32) : ArrayCanonical (store4 off v s) := by
  unfold store4
  dsimp only
  split
  · exact write32_canonical h _ _
  split
  · exact h
  · refine write64_canonical ?_ _ _
    split <;> exact h

theorem store8_canonical (off : Nat) (v : W64) : ArrayCanonical (store8 off v s) := by
  unfold store8
  split
  · exact write64_canonical h _ _
  · exact write32_canonical (write32_canonical h _ _) _ _

end

end Sys2Proof.Machine
end

section
set_option Elab.async false
/-! SUPPORT. Each command that reaches the configuration flash keeps its array canonical. -/

namespace Sys2Proof.Machine

/-- Every next state has a canonical array. -/
abbrev EndsCanonical (o : Host.Outcome State Fault Refusal) : Prop := Ends ArrayCanonical o

section
set_option Elab.async false
variable {s : State} (h : ArrayCanonical s)
include h

theorem execCflCycleStore_endsCanonical (offset : BitVec 29) (size : Nat) (value : W64) :
    EndsCanonical (execCflCycleStore offset size value s) := by
  unfold execCflCycleStore
  dsimp only
  split
  · exact (ends_next ..).mpr h.of_eq
  · exact (ends_next ..).mpr h

theorem execCflAbandon_endsCanonical (bank : Fin 2) : EndsCanonical (execCflAbandon bank s) := by
  unfold execCflAbandon
  split
  · exact (ends_next ..).mpr h.of_eq
  · exact (ends_next ..).mpr h

theorem execCflSequenceTimeout_endsCanonical (bank : Fin 2) : EndsCanonical (execCflSequenceTimeout bank s) := by
  unfold execCflSequenceTimeout
  split <;> exact (ends_next ..).mpr h

theorem startHostOp_ite_endsCanonical (p : Prop) [Decidable p] (b : Nat) :
    EndsCanonical (if p then .next (startHostOp b s) else .next s) := by
  split
  · exact (ends_next ..).mpr h.of_eq
  · exact (ends_next ..).mpr h

theorem execPageProgram_endsCanonical (bank : Fin 2) : EndsCanonical (execPageProgram bank s) := by
  unfold execPageProgram
  split
  · exact startHostOp_ite_endsCanonical h _ _
  · exact (ends_next ..).mpr h

theorem execSectorErase_endsCanonical (bank : Fin 2) : EndsCanonical (execSectorErase bank s) := by
  unfold execSectorErase
  split
  · exact startHostOp_ite_endsCanonical h _ _
  · exact (ends_next ..).mpr h

theorem execContReadEnter_endsCanonical (bank : Fin 2) : EndsCanonical (execContReadEnter bank s) := by
  unfold execContReadEnter
  split
  · exact startHostOp_ite_endsCanonical h _ _
  · exact (ends_next ..).mpr h

theorem execContReadExit_endsCanonical (bank : Fin 2) : EndsCanonical (execContReadExit bank s) := by
  unfold execContReadExit
  split
  · exact startHostOp_ite_endsCanonical h _ _
  · exact (ends_next ..).mpr h

theorem execCflQueuedHostOpStart_endsCanonical (bank : Fin 2) : EndsCanonical (execCflQueuedHostOpStart bank s) :=
  startHostOp_ite_endsCanonical h _ _

theorem execCflWindowRead_endsCanonical (offset : BitVec 29) (len : Nat) : EndsCanonical (execCflWindowRead offset len s) := by
  unfold execCflWindowRead
  extract_lets o answer last bytes
  split
  · exact (ends_next ..).mpr h
  split
  · exact (ends_next ..).mpr h
  split
  · exact (ends_next ..).mpr h
  · refine (ends_next ..).mpr (h.of_eq ?_)
    simp only [answer]
    split <;> simp

theorem execCflProgramPulseEnd_endsCanonical (bank : Fin 2) (verified : Bool) :
    EndsCanonical (execCflProgramPulseEnd bank verified s) := by
  unfold execCflProgramPulseEnd
  extract_lets b k
  clear_value k
  split
  · split
    · exact (ends_next ..).mpr (cflProgram_canonical h _ _)
    split
    · exact (ends_next ..).mpr h
    · exact (ends_next ..).mpr (programFailed_canonical h _ _)
  · split
    · exact (ends_next ..).mpr ((cflProgram_canonical h _ _).of_eq (recordDone_array ..))
    split
    · exact (ends_next ..).mpr h
    · exact (ends_next ..).mpr ((programFailed_canonical h _ _).of_eq (recordDone_array ..))
  · exact (ends_next ..).mpr h

theorem execCflErasePulseEnd_endsCanonical (bank : Fin 2) (verified : Bool) :
    EndsCanonical (execCflErasePulseEnd bank verified s) := by
  unfold execCflErasePulseEnd
  extract_lets b k p again whole fails
  have hagain : ArrayCanonical again := h
  have hwhole : ∀ sec, ArrayCanonical (whole sec) := by
    intro sec
    simp only [whole]
    split
    · exact eraseDone_canonical h.of_eq ..
    · exact eraseFailed_canonical h.of_eq ..
  split
  · split
    · exact (ends_next ..).mpr (hwhole _)
    · exact (ends_next ..).mpr hagain
  · split
    · exact (ends_next ..).mpr (endProt_canonical h ..)
    · exact (ends_next ..).mpr hagain
  · split
    · exact (ends_next ..).mpr ((hwhole _).of_eq (partnerDone_array ..))
    · exact (ends_next ..).mpr hagain
  · exact (ends_next ..).mpr h

theorem execCflProtectionOpComplete_endsCanonical (bank : Fin 2) : EndsCanonical (execCflProtectionOpComplete bank s) := by
  unfold execCflProtectionOpComplete
  dsimp only
  split
  · exact (ends_next ..).mpr (endProt_canonical h ..)
  · exact (ends_next ..).mpr h

theorem execDeviceRecordWrite_endsCanonical : EndsCanonical (execDeviceRecordWrite s) := by
  unfold execDeviceRecordWrite
  dsimp only
  split
  · exact (ends_next ..).mpr h
  split
  · exact (ends_next ..).mpr h
  split <;> exact (ends_next ..).mpr h

theorem execCflSectorSelWrite_endsCanonical (value : W32) : EndsCanonical (execCflSectorSelWrite value s) :=
  (ends_next ..).mpr (h.of_eq (regWrite_array _ _ _ _ (selectSector_array value)))

theorem execPtrAreaWrite_endsCanonical (index : Fin 8) (value : W32) : EndsCanonical (execPtrAreaWrite index value s) :=
  (ends_next ..).mpr (h.of_eq (regWrite_array _ _ _ _ (writePtrArea_array index.val value)))

theorem execClearCounter_endsCanonical (value : W32) : EndsCanonical (execClearCounter value s) :=
  (ends_next ..).mpr (writeBootCtrl_canonical h value)

theorem execRegisterWrite_endsCanonical (offset : BitVec 23) (wide : Bool) (value : W64) :
    EndsCanonical (execRegisterWrite offset wide value s) := by
  simp only [execRegisterWrite, EndsCanonical, ends_ite, ends_next]
  refine ⟨fun _ => h, fun _ => ⟨fun _ => h.of_eq, fun _ => ?_⟩⟩
  split
  · exact store8_canonical h _ _
  · exact store4_canonical h _ _

theorem execLedgerRecoveryComplete_endsCanonical (ok : Bool) (lost : List (Nat × Nat)) :
    EndsCanonical (execLedgerRecoveryComplete ok lost s) := by
  unfold execLedgerRecoveryComplete
  extract_lets b s1
  have hs1 : ArrayCanonical s1 := h.of_eq (by simp [s1])
  split
  · exact (ends_next ..).mpr h
  split
  · exact (ends_next ..).mpr (h.of_eq (by simp [stepFailure]))
  refine (ends_next ..).mpr ?_
  split
  · exact enterReady_canonical hs1
  · exact hs1

theorem execReleaseStep_endsCanonical (work : StepWork) (elapsedMs : Nat) (first second : ImageVerdict) :
    EndsCanonical (execReleaseStep work elapsedMs first second s) := by
  unfold execReleaseStep
  extract_lets b n s1 lantern
  have hs1 : ArrayCanonical s1 := h
  clear_value s1 n
  split
  · exact (ends_next ..).mpr h
  split
  · cases work <;> exact (ends_next ..).mpr hs1.of_eq
  · cases work with
    | done => exact (ends_next ..).mpr (stepTwo_canonical hs1)
    | failed => exact (ends_next ..).mpr (hs1.of_eq (by simp [lantern, enterLantern]))
    | selftestFailed u p y => exact (ends_next ..).mpr (hs1.of_eq (by simp [lantern, enterLantern]))
  · exact (ends_next ..).mpr hs1.of_eq
  · cases work with
    | done => exact (ends_next ..).mpr (stepEight_canonical hs1 none)
    | failed => exact (ends_next ..).mpr hs1.of_eq
    | selftestFailed u p y => exact (ends_next ..).mpr (stepEight_canonical hs1.of_eq (some u.val))
  · cases work with
    | done =>
      refine (ends_next ..).mpr ?_
      split
      · exact hs1.of_eq
      · exact hs1
    | failed => exact (ends_next ..).mpr hs1.of_eq
    | selftestFailed u p y => exact (ends_next ..).mpr hs1.of_eq

theorem execCxlHotReset_endsCanonical : EndsCanonical (execCxlHotReset s) := by
  unfold execCxlHotReset
  split
  · exact (ends_next ..).mpr (h.of_eq (hostReset_array ..))
  · exact (ends_next ..).mpr h

theorem execLinkDown_endsCanonical : EndsCanonical (execLinkDown s) := (ends_next ..).mpr (h.of_eq (linkLost_array s))

theorem execFlr_endsCanonical : EndsCanonical (execFlr s) := by
  unfold execFlr
  split
  · exact (ends_next ..).mpr (h.of_eq (hostReset_array ..))
  · exact (ends_next ..).mpr h

theorem execRefclkLost_endsCanonical : EndsCanonical (execRefclkLost s) := by
  unfold execRefclkLost
  split
  · exact (ends_next ..).mpr h.of_eq
  · exact (ends_next ..).mpr h

theorem execPwrdisAssert_endsCanonical : EndsCanonical (execPwrdisAssert s) :=
  (ends_next ..).mpr (fullReset_canonical h.of_eq 1 true)

theorem execBladeUnseated_endsCanonical : EndsCanonical (execBladeUnseated s) :=
  (ends_next ..).mpr (h.of_eq (by simp [-startInputLoss_frame]))

theorem execVin48OvervoltageDisconnect_endsCanonical (vinMv : Nat) :
    EndsCanonical (execVin48OvervoltageDisconnect vinMv s) := by
  unfold execVin48OvervoltageDisconnect
  dsimp only
  split
  · exact (ends_next ..).mpr h
  · refine (ends_next ..).mpr (h.of_eq ?_)
    rw [startInputLoss_array]
    split <;> simp

theorem execInputLossDetect_endsCanonical (vinMv : Nat) : EndsCanonical (execInputLossDetect vinMv s) := by
  unfold execInputLossDetect
  split
  · exact (ends_next ..).mpr h
  · exact (ends_next ..).mpr (h.of_eq (startInputLoss_array _))

theorem execInputLossRecordProgram_endsCanonical : EndsCanonical (execInputLossRecordProgram s) := by
  unfold execInputLossRecordProgram
  extract_lets served s1 s2 s3 s4 s5
  split
  · exact (ends_next ..).mpr h
  have hs2 : ArrayCanonical s2 := by
    unfold s2
    split <;> exact h.of_eq (by simp [s1])
  have hs3 : ArrayCanonical s3 := by
    unfold s3
    split
    · exact writeLoss_canonical hs2 true
    · exact hs2
  have hs5 : ArrayCanonical s5 :=
    (takeCfl_canonical (s := s4) hs3).of_eq (clearAll_array true _)
  exact (ends_next ..).mpr (hs5.of_eq (by simp))

theorem execSensorSample_endsCanonical (readings : List (BitVec 16)) : EndsCanonical (execSensorSample readings s) := by
  unfold execSensorSample
  extract_lets t old s1 s2 s3
  split
  · exact (ends_next ..).mpr h
  split
  · refine (ends_next ..).mpr ?_
    split
    · exact thermalTrip_canonical h
    · exact h
  split
  · exact (ends_next ..).mpr h
  have hs3 : ArrayCanonical s3 := h.of_eq (by simp [s3, s2, s1])
  refine (ends_next ..).mpr ?_
  split
  · exact thermalTrip_canonical hs3
  · exact hs3

theorem execPerstAssert_endsCanonical : EndsCanonical (execPerstAssert s) :=
  (ends_next ..).mpr (fullReset_canonical h.of_eq 4 false)

theorem execSoftwareDeviceReset_endsCanonical (value : W32) : EndsCanonical (execSoftwareDeviceReset value s) :=
  (ends_next ..).mpr (writeRstCtrl_canonical h value)

theorem fullReset_ite_endsCanonical (p : Prop) [Decidable p] (source : Nat) (rails : Bool) :
    EndsCanonical (if p then .next (fullReset source rails s) else .next s) := by
  split
  · exact (ends_next ..).mpr (fullReset_canonical h source rails)
  · exact (ends_next ..).mpr h

theorem execDeferredResetTake_endsCanonical (unit : PulseUnit) : EndsCanonical (execDeferredResetTake unit s) := by
  unfold execDeferredResetTake
  split
  · exact (ends_next ..).mpr (takeUnit_canonical h unit)
  · cases unit with
    | channel c =>
      dsimp only
      split
      · exact (ends_next ..).mpr h.of_eq
      · exact (ends_next ..).mpr h
    | configFlash => exact (ends_next ..).mpr h

theorem execChannelResetForce_endsCanonical (channel : Fin 64) : EndsCanonical (execChannelResetForce channel s) := by
  unfold execChannelResetForce
  split
  · exact (ends_next ..).mpr (takeUnit_canonical h _)
  split
  · split
    · exact (ends_next ..).mpr h.of_eq
    · exact (ends_next ..).mpr h
  · exact (ends_next ..).mpr h

theorem execBlockResetEnd_endsCanonical (selftest : StepWork) : EndsCanonical (execBlockResetEnd selftest s) := by
  unfold execBlockResetEnd
  split
  · exact (ends_next ..).mpr h
  split
  · exact (ends_next ..).mpr h
  cases selftest with
  | done => exact (ends_next ..).mpr h
  | failed => exact (ends_next ..).mpr (fullReset_canonical h.of_eq 8 false)
  | selftestFailed u p y => exact (ends_next ..).mpr (fullReset_canonical h.of_eq 8 false)

end

/-- Every command keeps the array canonical. -/
theorem exec_endsCanonical {s : State} (h : ArrayCanonical s) (c : Instr) : EndsCanonical (exec c s) := by
  cases c with
  | cflCycleStore offset size value => exact execCflCycleStore_endsCanonical h offset size value
  | cflAbandon bank => exact execCflAbandon_endsCanonical h bank
  | cflSequenceTimeout bank => exact execCflSequenceTimeout_endsCanonical h bank
  | pageProgram bank => exact execPageProgram_endsCanonical h bank
  | sectorErase bank => exact execSectorErase_endsCanonical h bank
  | contReadEnter bank => exact execContReadEnter_endsCanonical h bank
  | contReadExit bank => exact execContReadExit_endsCanonical h bank
  | protSet bank => exact (ends_next ..).mpr (h.of_eq (startProt_array ..))
  | protClear bank => exact (ends_next ..).mpr (h.of_eq (startProt_array ..))
  | passwordChange bank => exact (ends_next ..).mpr (h.of_eq (startProt_array ..))
  | cflQueuedHostOpStart bank => exact execCflQueuedHostOpStart_endsCanonical h bank
  | cflWindowRead offset len => exact execCflWindowRead_endsCanonical h offset len
  | cflProgramPulseEnd bank verified => exact execCflProgramPulseEnd_endsCanonical h bank verified
  | cflErasePulseEnd bank verified => exact execCflErasePulseEnd_endsCanonical h bank verified
  | cflProtectionOpComplete bank => exact execCflProtectionOpComplete_endsCanonical h bank
  | deviceRecordWrite => exact execDeviceRecordWrite_endsCanonical h
  | cflSectorSelWrite value => exact execCflSectorSelWrite_endsCanonical h value
  | ptrAreaWrite index value => exact execPtrAreaWrite_endsCanonical h index value
  | clearCounter value => exact execClearCounter_endsCanonical h value
  | registerWrite offset wide value => exact execRegisterWrite_endsCanonical h offset wide value
  | ledgerRecoveryComplete ok lost => exact execLedgerRecoveryComplete_endsCanonical h ok lost
  | releaseStep work ms first second => exact execReleaseStep_endsCanonical h work ms first second
  | cxlHotReset => exact execCxlHotReset_endsCanonical h
  | linkDown => exact execLinkDown_endsCanonical h
  | flr => exact execFlr_endsCanonical h
  | refclkLost => exact execRefclkLost_endsCanonical h
  | pwrdisAssert => exact execPwrdisAssert_endsCanonical h
  | bladeUnseated => exact execBladeUnseated_endsCanonical h
  | vin48OvervoltageDisconnect vinMv => exact execVin48OvervoltageDisconnect_endsCanonical h vinMv
  | inputLossDetect vinMv => exact execInputLossDetect_endsCanonical h vinMv
  | inputLossRecordProgram => exact execInputLossRecordProgram_endsCanonical h
  | sensorSample readings => exact execSensorSample_endsCanonical h readings
  | perstAssert => exact execPerstAssert_endsCanonical h
  | softwareDeviceReset value => exact execSoftwareDeviceReset_endsCanonical h value
  | watchdogExpiry => exact fullReset_ite_endsCanonical h _ 5 false
  | stepFailureReset => exact fullReset_ite_endsCanonical h _ 8 false
  | bringupTimeout => exact fullReset_ite_endsCanonical h _ 7 false
  | deferredResetTake unit => exact execDeferredResetTake_endsCanonical h unit
  | channelResetForce channel => exact execChannelResetForce_endsCanonical h channel
  | blockResetEnd selftest => exact execBlockResetEnd_endsCanonical h selftest
  | _ => exact ends_exec_of_not_contains (p := .cfl) rfl fun t ht => h.of_eq (congrArg Cfl.array ht)

/-- Settles O8: the array of the configuration flash stays canonical, by cases on the commands that reach it. -/
theorem configFlashStaysCanonical : Obligations.ConfigFlashStaysCanonical := by
  unfold Obligations.ConfigFlashStaysCanonical
  intro s t hs ht
  have hs : ArrayCanonical s := hs
  change ArrayCanonical t
  cases hq : s.pending with
  | nil =>
    rw [step_of_nil hq] at ht
    cases ht
    exact hs.of_eq
  | cons c rest =>
    rw [step_of_cons hq] at ht
    exact exec_endsCanonical (s := { s with pending := rest }) hs c t ht

end Sys2Proof.Machine
end

section
set_option Elab.async false
/-! SUPPORT. Operations that leave every fuse and the fuse write in progress as they are (chapter 18). -/

namespace Sys2Proof.Machine

/-- The fuses, and the fuse write in progress. -/
def Sec.fuses (x : Sec) : Tbl KeySlot × Bool × Bool × Nat × Option FuseOp :=
  (x.slots, x.requireSigned, x.debugDisable, x.svnMin, x.fuse)

@[simp] theorem setSpdm_fuses (f : Spdm → Spdm) (s : State) : (setSpdm f s).sec.fuses = s.sec.fuses := rfl

@[simp] theorem spdmTake_fuses (request : List Byte) (s : State) : (spdmTake request s).sec.fuses = s.sec.fuses := rfl

@[simp] theorem runImage_fuses (code : Nat) (h : List Byte) (s : State) : (runImage code h s).sec.fuses = s.sec.fuses := rfl

@[simp] theorem spdmError_fuses (code : Nat) (s : State) : (spdmError code s).sec.fuses = s.sec.fuses := by
  simp [spdmError]

@[simp] theorem spdmSend_fuses (msg : List Byte) (s : State) : (spdmSend msg s).sec.fuses = s.sec.fuses := by
  unfold spdmSend
  dsimp only
  split <;> simp

@[simp] theorem spdmSigned_fuses (code : Nat) (fields : List Byte) (s : State) :
    (spdmSigned code fields s).sec.fuses = s.sec.fuses := spdmSend_fuses _ _

theorem spdmAfter_fuses {f : State → State} {s : State} (hf : (f s).sec.fuses = s.sec.fuses) :
    (spdmAfter f s).sec.fuses = s.sec.fuses := by
  unfold spdmAfter
  split
  · rfl
  split
  · exact spdmError_fuses _ _
  · exact hf

@[simp] theorem checkAuth_fuses (op : Nat) (a : AuthInput) (s : State) : (checkAuth op a s).2.sec.fuses = s.sec.fuses := by
  unfold checkAuth
  dsimp only
  split
  · rfl
  · simp only [logEvent_frame]
    rfl

@[simp] theorem enterLantern_fuses (cause : Nat) (s : State) : (enterLantern cause s).sec.fuses = s.sec.fuses := by
  simp only [enterLantern, logEvent_frame]
  rfl

@[simp] theorem verifyImages_fuses (first : Nat) (v1 v2 : ImageVerdict) (s : State) :
    (verifyImages first v1 v2 s).sec.fuses = s.sec.fuses := by
  unfold verifyImages
  dsimp only
  split
  · simp
  split <;> simp

@[simp] theorem stepTwo_fuses (s : State) : (stepTwo s).sec.fuses = s.sec.fuses := by
  unfold stepTwo
  extract_lets s1 sel r
  have hs1 : s1.sec.fuses = s.sec.fuses := by simp [s1]
  clear_value s1
  repeat' split
  all_goals simp [hs1]

@[simp] theorem hostReset_fuses (source : Nat) (linkStays : Bool) (s : State) :
    (hostReset source linkStays s).sec.fuses = s.sec.fuses := by
  unfold hostReset
  dsimp only
  split
  · rfl
  split <;> simp [Sec.fuses]

@[simp] theorem linkLost_fuses (s : State) : (linkLost s).sec.fuses = s.sec.fuses := by
  unfold linkLost
  split <;> simp

end Sys2Proof.Machine
end

section
set_option Elab.async false
/-! SUPPORT. Fuses only burn: a relation between two states that every operation keeps (R506). -/

namespace Sys2Proof.Machine

/-- From a state in order, the fuses of `t` are those of `s` with more burnt, and `t` is in order. -/
def BurnsOnly (s t : State) : Prop := FusesOrdered s = true → FusesOrdered t = true ∧ FusesKept s t

/-- What is in order, by the write in progress. -/
theorem fusesOrdered_iff (s : State) :
    FusesOrdered s = true ↔ ∀ f, s.sec.fuse = some f →
      (∀ k d, f.write = .enroll k d →
        1 ≤ f.words ∧ f.words ≤ 9 ∧ (keySlotOf k s).valid = false ∧ (keySlotOf k s).revoked = false) ∧
      ((∀ k d, f.write ≠ .enroll k d) → f.words = 1) := by
  unfold FusesOrdered
  cases hfuse : s.sec.fuse with
  | none => simp
  | some f =>
    cases hwrite : f.write <;> simp [hwrite, and_assoc]

theorem fusesOrdered_of_none {s : State} (h : s.sec.fuse = none) : FusesOrdered s = true := by
  simp [fusesOrdered_iff, h]

theorem FusesKept.refl (s : State) : FusesKept s s := ⟨id, id, le_rfl, fun _ => ⟨id, fun h => ⟨h, rfl⟩⟩⟩

theorem FusesKept.trans {s t u : State} (h : FusesKept s t) (h' : FusesKept t u) : FusesKept s u := by
  obtain ⟨hsign, hdebug, hsvn, hslot⟩ := h
  obtain ⟨hsign', hdebug', hsvn', hslot'⟩ := h'
  refine ⟨hsign' ∘ hsign, hdebug' ∘ hdebug, hsvn.trans hsvn', fun k => ⟨(hslot' k).1 ∘ (hslot k).1, fun hvalid => ?_⟩⟩
  obtain ⟨hv, hd⟩ := (hslot k).2 hvalid
  obtain ⟨hv', hd'⟩ := (hslot' k).2 hv
  exact ⟨hv', hd'.trans hd⟩

theorem BurnsOnly.refl (s : State) : BurnsOnly s s := fun h => ⟨h, FusesKept.refl s⟩

theorem BurnsOnly.trans {s t u : State} (h : BurnsOnly s t) (h' : BurnsOnly t u) : BurnsOnly s u := by
  intro hs
  obtain ⟨ht, hst⟩ := h hs
  obtain ⟨hu, htu⟩ := h' ht
  exact ⟨hu, hst.trans htu⟩

/-- Only the fuses and the write in progress matter. -/
theorem burnsOnly_of_fuses_eq {s t : State} (h : t.sec.fuses = s.sec.fuses) : BurnsOnly s t := by
  simp only [Sec.fuses, Prod.mk.injEq] at h
  obtain ⟨hslots, hsign, hdebug, hsvn, hfuse⟩ := h
  have hkey : ∀ k, keySlotOf k t = keySlotOf k s := fun k => by simp [keySlotOf, hslots]
  intro hs
  rw [fusesOrdered_iff] at hs
  refine ⟨(fusesOrdered_iff t).2 (by simpa only [hfuse, hkey] using hs), ?_⟩
  simp [FusesKept, hkey, hsign, hdebug, hsvn]

theorem BurnsOnly.then_eq {s t u : State} (h : BurnsOnly s t) (heq : u.sec.fuses = t.sec.fuses := by simp) : BurnsOnly s u :=
  h.trans (burnsOnly_of_fuses_eq heq)

theorem keySlotOf_putSlot_ite (k j : Nat) (x : KeySlot) (s : State) :
    keySlotOf j (putSlot k x s) = if j = k then x else keySlotOf j s := by
  unfold keySlotOf Tbl.lookD putSlot
  simp only [setSec_sec]
  split
  next hjk => simp [hjk]
  next hjk => rw [Tbl.look_put_ne _ _ hjk]

/-- The end of a fuse write, with one slot written: no more is in progress. -/
theorem burnsOnly_putSlot {s t : State} {k : Nat} {x : KeySlot} (hfuses : t.sec.fuses = (putSlot k x s).sec.fuses)
    (hrevoked : (keySlotOf k s).revoked = true → x.revoked = true)
    (hvalid : (keySlotOf k s).valid = true → x.valid = true ∧ x.digest = (keySlotOf k s).digest) (hnone : s.sec.fuse = none) :
    BurnsOnly s t := by
  refine BurnsOnly.then_eq (t := putSlot k x s) (fun _ => ⟨fusesOrdered_of_none hnone, id, id, le_rfl, fun j => ?_⟩) hfuses
  rw [keySlotOf_putSlot_ite]
  split
  next hjk => subst hjk; exact ⟨hrevoked, hvalid⟩
  next => exact ⟨id, fun h => ⟨h, rfl⟩⟩

/-- A digest grows in a slot that is neither valid nor revoked. -/
theorem burnsOnly_burnDigest {s : State} {k : Nat} (d : BitVec 512) (n : Nat)
    (hvalid : (keySlotOf k s).valid = false) (hrevoked : (keySlotOf k s).revoked = false) : BurnsOnly s (burnDigest k d n s) := by
  have hkept : ∀ j, (keySlotOf j s).valid = (keySlotOf j (burnDigest k d n s)).valid ∧
      (keySlotOf j s).revoked = (keySlotOf j (burnDigest k d n s)).revoked ∧
      ((keySlotOf j s).valid = true → (keySlotOf j (burnDigest k d n s)).digest = (keySlotOf j s).digest) := by
    intro j
    unfold burnDigest
    rw [keySlotOf_putSlot_ite]
    split
    next hjk => subst hjk; simp [hvalid, hrevoked]
    next => simp
  intro hs
  rw [fusesOrdered_iff] at hs
  refine ⟨(fusesOrdered_iff _).2 fun f hf => ?_, id, id, le_rfl, fun j => ?_⟩
  · obtain ⟨henroll, hother⟩ := hs f hf
    refine ⟨fun j e hw => ?_, hother⟩
    rw [← (hkept j).1, ← (hkept j).2.1]
    exact henroll j e hw
  · obtain ⟨hv, hr, hd⟩ := hkept j
    exact ⟨fun h => hr ▸ h, fun h => ⟨hv ▸ h, hd h⟩⟩

/-- A write that starts is in order when it enrols into a slot that is neither valid nor revoked. -/
theorem burn_burnsOnly (tr : Nat) {w : FuseWrite} {s : State}
    (h : ∀ k d, w = .enroll k d → (keySlotOf k s).valid = false ∧ (keySlotOf k s).revoked = false) : BurnsOnly
      s (burn tr w s) := by
  intro _
  refine ⟨(fusesOrdered_iff _).2 fun f hf => ?_, id, id, le_rfl, fun j => ⟨id, fun h => ⟨h, rfl⟩⟩⟩
  cases hf
  refine ⟨fun k d hw => ?_, fun hw => ?_⟩
  · obtain ⟨hv, hr⟩ := h k d hw
    have hwords : w.words = 9 := by
      dsimp only at hw
      rw [hw]
      rfl
    exact ⟨by simp [hwords], by simp [hwords], hv, hr⟩
  · cases w with
    | enroll k d => exact absurd rfl (hw k d)
    | revoke k => rfl
    | policy sign dbg => rfl
    | svn n => rfl

/-- No write is in progress, and policies and the minimum version only rise. -/
theorem burnsOnly_of_slots {s t : State} (hfuse : t.sec.fuse = none) (hslots : t.sec.slots = s.sec.slots)
    (hsign : s.sec.requireSigned = true → t.sec.requireSigned = true)
    (hdebug : s.sec.debugDisable = true → t.sec.debugDisable = true) (hsvn : s.sec.svnMin ≤ t.sec.svnMin) : BurnsOnly s t := by
  refine fun _ => ⟨fusesOrdered_of_none hfuse, hsign, hdebug, hsvn, fun k => ?_⟩
  have hkey : keySlotOf k t = keySlotOf k s := by simp [keySlotOf, hslots]
  rw [hkey]
  exact ⟨id, fun h => ⟨h, rfl⟩⟩

/-- The write in progress is taken out. -/
theorem burnsOnly_fuse_none (s : State) : BurnsOnly s (setSec (fun x => { x with fuse := none }) s) :=
  burnsOnly_of_slots rfl rfl id id le_rfl

theorem cutFuse_burnsOnly (s : State) : BurnsOnly s (cutFuse s) := by
  intro hs
  have hordered := (fusesOrdered_iff s).1 hs
  refine (?_ : BurnsOnly s (cutFuse s)) hs
  unfold cutFuse
  cases hfuse : s.sec.fuse with
  | none => exact BurnsOnly.refl s
  | some f =>
    obtain ⟨henroll, -⟩ := hordered f hfuse
    dsimp only
    generalize hs1 : setSec (fun x => { x with fuse := none }) (drawFree s).2 = s1
    have hcut : BurnsOnly s s1 := hs1 ▸ burnsOnly_fuse_none s
    have hnone : s1.sec.fuse = none := by simp [← hs1]
    have hkey : ∀ k, keySlotOf k s1 = keySlotOf k s := fun k => by simp [← hs1, keySlotOf]
    refine hcut.trans ?_
    cases hwrite : f.write with
    | enroll k d =>
      obtain ⟨-, -, hvalid, hrevoked⟩ := henroll k d hwrite
      rw [← hkey k] at hvalid hrevoked
      dsimp only
      split
      · split
        · exact burnsOnly_putSlot rfl (by simp [hrevoked]) (by simp [hvalid]) hnone
        · exact BurnsOnly.refl s1
      · exact burnsOnly_burnDigest _ _ hvalid hrevoked
    | revoke k =>
      dsimp only
      split
      · exact burnsOnly_putSlot rfl (fun _ => rfl) (fun h => ⟨h, rfl⟩) hnone
      · exact BurnsOnly.refl s1
    | policy sign dbg => exact burnsOnly_of_slots hnone rfl (by simp +contextual) (by simp +contextual) le_rfl
    | svn n => exact burnsOnly_of_slots hnone rfl id id (Nat.le_add_right _ _)

theorem execFuseWriteComplete_burnsOnly (s : State) : Ends (BurnsOnly s) (execFuseWriteComplete s) := by
  intro t ht hs
  have hordered := (fusesOrdered_iff s).1 hs
  refine (?_ : BurnsOnly s t) hs
  revert t
  change Ends (BurnsOnly s) _
  unfold execFuseWriteComplete
  cases hfuse : s.sec.fuse with
  | none => exact (ends_next ..).mpr (BurnsOnly.refl s)
  | some f =>
    obtain ⟨henroll, hother⟩ := hordered f hfuse
    dsimp only
    split
    next hwords =>
      cases hwrite : f.write with
      | enroll k d =>
        obtain ⟨-, hle, hvalid, hrevoked⟩ := henroll k d hwrite
        refine (ends_next ..).mpr (BurnsOnly.trans ?_ (burnsOnly_burnDigest _ _ hvalid hrevoked))
        refine fun _ => ⟨(fusesOrdered_iff _).2 fun g hg => ?_, FusesKept.refl s⟩
        cases hg
        rw [← hwrite]
        refine ⟨fun j e hw => ?_, fun hw => absurd hwrite (hw k d)⟩
        obtain ⟨-, -, hv, hr⟩ := henroll j e hw
        exact ⟨by dsimp only; omega, by dsimp only; omega, hv, hr⟩
      | revoke k => exact absurd (hother (by simp [hwrite])) hwords.ne'
      | policy sign dbg => exact absurd (hother (by simp [hwrite])) hwords.ne'
      | svn n => exact absurd (hother (by simp [hwrite])) hwords.ne'
    next =>
      generalize hs1 : setSec (fun x => { x with fuse := none }) s = s1
      have hcut : BurnsOnly s s1 := hs1 ▸ burnsOnly_fuse_none s
      have hnone : s1.sec.fuse = none := by simp [← hs1]
      have hkey : ∀ k, keySlotOf k s1 = keySlotOf k s := fun k => by simp [← hs1, keySlotOf]
      cases hwrite : f.write with
      | enroll k d =>
        obtain ⟨-, -, hvalid, hrevoked⟩ := henroll k d hwrite
        rw [← hkey k] at hvalid hrevoked
        refine (ends_next ..).mpr (hcut.trans ?_)
        exact burnsOnly_putSlot (k := k) (x := KeySlot.enrolled d) (by simp) (by simp [hrevoked]) (by simp [hvalid]) hnone
      | revoke k =>
        refine (ends_next ..).mpr (hcut.trans ?_)
        exact burnsOnly_putSlot (k := k) (x := { keySlotOf k s1 with revoked := true }) (by simp) (fun _ => rfl) (fun h => ⟨h, rfl⟩) hnone
      | policy sign dbg =>
        refine (ends_next ..).mpr (hcut.trans ?_)
        exact burnsOnly_of_slots (by simpa using hnone) (by simp) (by simp +contextual) (by simp +contextual) (by simp)
      | svn n =>
        refine (ends_next ..).mpr (hcut.trans ?_)
        exact burnsOnly_of_slots (by simpa using hnone) (by simp) (by simp) (by simp) (by simp)

end Sys2Proof.Machine
end

section
set_option Elab.async false
/-! SUPPORT. The operations that lead to a fuse write, or cut one off. -/

namespace Sys2Proof.Machine

theorem clearSec_burnsOnly (s : State) : BurnsOnly s (clearSec s) := (cutFuse_burnsOnly s).then_eq rfl

theorem clearAll_burnsOnly (rails : Bool) (s : State) : BurnsOnly s (clearAll rails s) := by
  refine (burnsOnly_of_fuses_eq (t := clearMem rails (clearEvt rails (clearHost rails s))) (by simp)).trans ?_
  exact (clearSec_burnsOnly _).then_eq (by simp [clearAll])

theorem fullReset_burnsOnly (source : Nat) (rails : Bool) (s : State) : BurnsOnly s (fullReset source rails s) := by
  unfold fullReset
  extract_lets d s1 s2 s3
  split
  · exact burnsOnly_of_fuses_eq (by simp)
  · refine (clearAll_burnsOnly rails s).then_eq ?_
    have hs2 : s2.sec = (clearAll rails s).sec := by simp [s2, s1]
    have hs3 : s3.sec = s2.sec := by
      unfold s3
      split <;> simp
    simp [hs3, hs2]

theorem thermalTrip_burnsOnly (s : State) : BurnsOnly s (thermalTrip s) := by
  unfold thermalTrip
  extract_lets s1 served p s2
  split
  · exact BurnsOnly.refl s
  split
  · exact burnsOnly_of_fuses_eq (by simp [s1])
  · refine (burnsOnly_of_fuses_eq (t := s2) ?_).trans (fullReset_burnsOnly 3 true s2)
    unfold s2
    split <;> simp [p, s1]

theorem writeRstCtrl_burnsOnly (v : W32) (s : State) : BurnsOnly s (writeRstCtrl v s) := by
  unfold writeRstCtrl
  split
  · unfold regWrite
    split
    · exact fullReset_burnsOnly 6 false s
    · exact BurnsOnly.refl s
  · exact BurnsOnly.refl s

/-- Of the registers of 32 bits, only the one that resets the device reaches the fuses. -/
theorem write32_sec {off : Nat} (v : W32) (s : State) (hreset : off ≠ 0x12000) : (write32 off v s).sec = s.sec := by
  simp [write32, hreset]

theorem write32_burnsOnly (off : Nat) (v : W32) (s : State) : BurnsOnly s (write32 off v s) := by
  by_cases hreset : off = 0x12000
  · subst hreset
    exact writeRstCtrl_burnsOnly v s
  · exact burnsOnly_of_fuses_eq (by rw [write32_sec v s hreset])

theorem write64_sec (off : Nat) (v : W64) (s : State) : (write64 off v s).sec = s.sec := by
  simp [write64]

theorem store4_burnsOnly (off : Nat) (v : W32) (s : State) : BurnsOnly s (store4 off v s) := by
  unfold store4
  dsimp only
  split
  · exact write32_burnsOnly _ _ s
  split
  · exact BurnsOnly.refl s
  · refine burnsOnly_of_fuses_eq ?_
    rw [write64_sec]
    split <;> rfl

theorem store8_burnsOnly (off : Nat) (v : W64) (s : State) : BurnsOnly s (store8 off v s) := by
  unfold store8
  split
  · exact burnsOnly_of_fuses_eq (by rw [write64_sec])
  · exact (write32_burnsOnly _ _ s).trans (write32_burnsOnly _ _ _)

theorem authorised_burnsOnly (tr op : Nat) (a : AuthInput) {f : State → State} (hf : ∀ x, BurnsOnly x (f x)) (s : State) :
    BurnsOnly s (authorised tr op a f s) := by
  refine (burnsOnly_of_fuses_eq (checkAuth_fuses op a s)).trans ?_
  unfold authorised
  dsimp only
  split
  · exact hf _
  · exact burnsOnly_of_fuses_eq (by simp)

theorem fuseCommand_burnsOnly (tr op : Nat) (lockedOnly : Bool) {f : State → State} (hf : ∀ x, BurnsOnly x (f x)) (s : State) :
    BurnsOnly s (fuseCommand tr op lockedOnly f s) := by
  unfold fuseCommand
  split
  · exact BurnsOnly.refl s
  split
  · exact BurnsOnly.refl s
  split
  · exact burnsOnly_of_fuses_eq (by simp)
  · exact hf s

theorem enrolInto_burnsOnly (tr : Nat) (digest : BitVec 512) (s : State) : BurnsOnly s (enrolInto tr digest s) := by
  unfold enrolInto
  cases hblank : blankSlot s with
  | none => exact burnsOnly_of_fuses_eq (by simp)
  | some k =>
    have hkey : keySlotOf k s = KeySlot.blank := by simpa using List.find?_some hblank
    refine burn_burnsOnly tr fun j d hw => ?_
    cases hw
    simp [hkey, KeySlot.blank]

end Sys2Proof.Machine
end

section
set_option Elab.async false
/-! SUPPORT. Each command that reaches the security part only burns fuses. -/

namespace Sys2Proof.Machine

/-- Of every next state, the fuses are those before with more burnt. -/
abbrev EndsBurnt (s : State) (o : Host.Outcome State Fault Refusal) : Prop := Ends (BurnsOnly s) o

theorem endsBurnt_refl (s : State) : EndsBurnt s (.next s) := (ends_next ..).mpr (BurnsOnly.refl s)

theorem endsBurnt_of_eq {s t : State} (h : t.sec.fuses = s.sec.fuses := by simp) : EndsBurnt s (.next t) :=
  (ends_next ..).mpr (burnsOnly_of_fuses_eq h)

theorem fullReset_ite_endsBurnt (p : Prop) [Decidable p] (source : Nat) (rails : Bool) (s : State) :
    EndsBurnt s (if p then .next (fullReset source rails s) else .next s) := by
  split
  · exact (ends_next ..).mpr (fullReset_burnsOnly source rails s)
  · exact endsBurnt_refl s

theorem execCxlHotReset_endsBurnt (s : State) : EndsBurnt s (execCxlHotReset s) := by
  unfold execCxlHotReset
  split
  · exact endsBurnt_of_eq (hostReset_fuses ..)
  · exact endsBurnt_refl s

theorem execFlr_endsBurnt (s : State) : EndsBurnt s (execFlr s) := by
  unfold execFlr
  split
  · exact endsBurnt_of_eq (hostReset_fuses ..)
  · exact endsBurnt_refl s

theorem execRefclkLost_endsBurnt (s : State) : EndsBurnt s (execRefclkLost s) := by
  unfold execRefclkLost
  split
  · exact endsBurnt_of_eq
  · exact endsBurnt_refl s

theorem execReleaseStep_endsBurnt (work : StepWork) (elapsedMs : Nat) (first second : ImageVerdict) (s : State) :
    EndsBurnt s (execReleaseStep work elapsedMs first second s) := by
  unfold execReleaseStep
  extract_lets b n s1 lantern
  have hs1 : s1.sec.fuses = s.sec.fuses := by simp [s1]
  clear_value s1 n
  split
  · exact endsBurnt_refl s
  split
  · cases work <;> exact endsBurnt_of_eq (by simp [hs1])
  · cases work <;> exact endsBurnt_of_eq (by simp [lantern, hs1])
  · exact endsBurnt_of_eq (by simp [hs1])
  · cases work <;> exact endsBurnt_of_eq (by simp [hs1])
  · cases work with
    | done =>
      refine endsBurnt_of_eq ?_
      split <;> simp [hs1]
    | failed => exact endsBurnt_of_eq (by simp [hs1])
    | selftestFailed u p y => exact endsBurnt_of_eq (by simp [hs1])

theorem mgmtRequest_fuses (type : Nat) (request : List Byte) {f : State → State} {s : State} (hf : (f s).sec.fuses = s.sec.fuses) :
    (mgmtRequest type request f s).sec.fuses = s.sec.fuses := by
  unfold mgmtRequest
  dsimp only
  split
  · rfl
  split
  · simp
  split
  · simp
  · exact hf

theorem execImageTransfer_endsBurnt (message : List Byte) (verdict : ImageVerdict) (s : State) :
    EndsBurnt s (execImageTransfer message verdict s) := by
  refine endsBurnt_of_eq (mgmtRequest_fuses _ _ ?_)
  extract_lets held sizeOk bytes s1 c s2
  have hs1 : s1.sec.fuses = s.sec.fuses := by simp [s1]
  have hs2 : s2.sec.fuses = s.sec.fuses := by simp [s2, hs1]
  clear_value held s1 s2
  split
  · simp
  split
  · exact hs1
  split <;> simp [hs2]

theorem execSecEnroll_endsBurnt (tr : Nat) (digest : BitVec 512) (auth : AuthInput) (s : State) :
    EndsBurnt s (execSecEnroll tr digest auth s) := by
  refine (ends_next ..).mpr (fuseCommand_burnsOnly _ _ _ (fun x => ?_) s)
  split
  · exact enrolInto_burnsOnly tr digest x
  · exact authorised_burnsOnly _ _ _ (enrolInto_burnsOnly tr digest) x

theorem execSecRevoke_endsBurnt (tr : Nat) (auth : AuthInput) (s : State) : EndsBurnt s (execSecRevoke tr auth s) := by
  refine (ends_next ..).mpr (fuseCommand_burnsOnly _ _ _ (authorised_burnsOnly _ _ _ fun x => ?_) s)
  split
  · exact burnsOnly_of_fuses_eq (by simp)
  split
  · exact burnsOnly_of_fuses_eq (by simp)
  · exact burn_burnsOnly tr (by simp)

theorem execSecSetPolicy_endsBurnt (tr : Nat) (auth : AuthInput) (s : State) : EndsBurnt s (execSecSetPolicy tr auth s) :=
  (ends_next ..).mpr (fuseCommand_burnsOnly _ _ _ (authorised_burnsOnly _ _ _ fun _ => burn_burnsOnly tr (by simp)) s)

theorem execSecAdvanceSvn_endsBurnt (tr : Nat) (auth : AuthInput) (s : State) : EndsBurnt s (execSecAdvanceSvn tr auth s) := by
  refine (ends_next ..).mpr (fuseCommand_burnsOnly _ _ _ (authorised_burnsOnly _ _ _ fun x => ?_) s)
  split
  · exact burnsOnly_of_fuses_eq (by simp)
  split
  · exact burnsOnly_of_fuses_eq (by simp)
  · exact burn_burnsOnly tr (by simp)

theorem execSecChallenge_endsBurnt (tr : Nat) (s : State) : EndsBurnt s (execSecChallenge tr s) := by
  unfold execSecChallenge
  split
  · exact endsBurnt_refl s
  split
  · exact endsBurnt_of_eq
  · exact endsBurnt_of_eq (by simp [Sec.fuses])

theorem execSecDebugUnlock_endsBurnt (tr : Nat) (auth : AuthInput) (s : State) : EndsBurnt s (execSecDebugUnlock tr auth s) := by
  unfold execSecDebugUnlock
  split
  · exact endsBurnt_refl s
  split
  · exact endsBurnt_of_eq
  · exact (ends_next ..).mpr
      (authorised_burnsOnly _ _ _ (fun x => burnsOnly_of_fuses_eq (by simp [Sec.fuses])) s)

theorem spdmAfter_endsBurnt {f : State → State} (hf : ∀ x, (f x).sec.fuses = x.sec.fuses) (s : State) :
    EndsBurnt s (.next (spdmAfter f s)) := endsBurnt_of_eq (spdmAfter_fuses (hf s))

theorem execSpdmGetVersion_endsBurnt (s : State) : EndsBurnt s (execSpdmGetVersion s) := by
  unfold execSpdmGetVersion
  split
  · exact endsBurnt_refl s
  · exact endsBurnt_of_eq

theorem execSpdmGetCapabilities_endsBurnt (s : State) : EndsBurnt s (execSpdmGetCapabilities s) := by
  unfold execSpdmGetCapabilities
  split
  · exact endsBurnt_refl s
  split <;> exact endsBurnt_of_eq

theorem execSpdmNegotiateAlgorithms_endsBurnt (request : List Byte) (s : State) :
    EndsBurnt s (execSpdmNegotiateAlgorithms request s) := by
  unfold execSpdmNegotiateAlgorithms
  dsimp only
  split
  · exact endsBurnt_refl s
  split
  · exact endsBurnt_of_eq
  split <;> exact endsBurnt_of_eq

theorem execSpdmGetCertificate_endsBurnt (slot : Byte) (offset len : Nat) (s : State) :
    EndsBurnt s (execSpdmGetCertificate slot offset len s) := by
  refine spdmAfter_endsBurnt (fun x => ?_) s
  split <;> simp

theorem execSpdmChallenge_endsBurnt (request : List Byte) (s : State) : EndsBurnt s (execSpdmChallenge request s) :=
  spdmAfter_endsBurnt (fun x => by simp) s

theorem execSpdmGetMeasurements_endsBurnt (index : Byte) (raw : Bool) (request : List Byte) (s : State) :
    EndsBurnt s (execSpdmGetMeasurements index raw request s) := by
  refine spdmAfter_endsBurnt (fun x => ?_) s
  dsimp only
  split <;> simp

theorem execSpdmKeyExchange_endsBurnt (request : List Byte) (s : State) : EndsBurnt s (execSpdmKeyExchange request s) :=
  spdmAfter_endsBurnt (fun x => by simp) s

theorem execSpdmKeyUpdate_endsBurnt (request : List Byte) (s : State) : EndsBurnt s (execSpdmKeyUpdate request s) := by
  refine spdmAfter_endsBurnt (fun x => ?_) s
  split <;> simp

theorem execSpdmHeartbeat_endsBurnt (s : State) : EndsBurnt s (execSpdmHeartbeat s) := by
  refine spdmAfter_endsBurnt (fun x => ?_) s
  split <;> simp

theorem execSpdmChunkGet_endsBurnt (handle : Byte) (seq : BitVec 16) (s : State) : EndsBurnt
    s (execSpdmChunkGet handle seq s) := by
  refine spdmAfter_endsBurnt (fun x => ?_) s
  dsimp only
  split <;> simp

theorem execPwrdisAssert_endsBurnt (s : State) : EndsBurnt s (execPwrdisAssert s) := by
  refine (ends_next ..).mpr (BurnsOnly.trans (burnsOnly_of_fuses_eq ?_) (fullReset_burnsOnly 1 true _))
  simp

theorem execPerstAssert_endsBurnt (s : State) : EndsBurnt s (execPerstAssert s) := by
  refine (ends_next ..).mpr (BurnsOnly.trans (burnsOnly_of_fuses_eq ?_) (fullReset_burnsOnly 4 false _))
  simp

theorem execInputLossRecordProgram_endsBurnt (s : State) : EndsBurnt s (execInputLossRecordProgram s) := by
  unfold execInputLossRecordProgram
  extract_lets served s1 s2 s3 s4 s5
  split
  · exact endsBurnt_refl s
  have hs2 : s2.sec = s.sec := by
    unfold s2
    split <;> simp [s1]
  have hs3 : s3.sec = s2.sec := by
    unfold s3
    split <;> simp
  have hs4 : (takeCfl s4).sec.fuses = s.sec.fuses := by simp [s4, hs3, hs2]
  refine (ends_next ..).mpr (BurnsOnly.then_eq (t := s5) ?_)
  exact (burnsOnly_of_fuses_eq hs4).trans (clearAll_burnsOnly true _)

theorem execSensorSample_endsBurnt (readings : List (BitVec 16)) (s : State) : EndsBurnt s (execSensorSample readings s) := by
  unfold execSensorSample
  extract_lets t old s1 s2 s3
  split
  · exact endsBurnt_of_eq
  split
  · refine (ends_next ..).mpr ?_
    split
    · exact thermalTrip_burnsOnly s
    · exact BurnsOnly.refl s
  split
  · exact endsBurnt_refl s
  have hs3 : BurnsOnly s s3 := burnsOnly_of_fuses_eq (by simp [s3, s2, s1])
  refine (ends_next ..).mpr ?_
  split
  · exact hs3.trans (thermalTrip_burnsOnly s3)
  · exact hs3

theorem execRegisterWrite_endsBurnt (offset : BitVec 23) (wide : Bool) (value : W64) (s : State) :
    EndsBurnt s (execRegisterWrite offset wide value s) := by
  simp only [execRegisterWrite, EndsBurnt, ends_ite, ends_next]
  refine ⟨fun _ => BurnsOnly.refl s, fun _ => ⟨fun _ => burnsOnly_of_fuses_eq (by simp), fun _ => ?_⟩⟩
  split
  · exact store8_burnsOnly _ _ s
  · exact store4_burnsOnly _ _ s

theorem execBlockResetEnd_endsBurnt (selftest : StepWork) (s : State) : EndsBurnt s (execBlockResetEnd selftest s) := by
  unfold execBlockResetEnd
  split
  · exact endsBurnt_refl s
  split
  · exact endsBurnt_refl s
  cases selftest with
  | done => exact endsBurnt_of_eq
  | failed => exact (ends_next ..).mpr (BurnsOnly.trans (burnsOnly_of_fuses_eq (by simp)) (fullReset_burnsOnly 8 false _))
  | selftestFailed u p y =>
    exact (ends_next ..).mpr (BurnsOnly.trans (burnsOnly_of_fuses_eq (by simp)) (fullReset_burnsOnly 8 false _))

/-- Every command only burns fuses. -/
theorem exec_endsBurnt (c : Instr) (s : State) : EndsBurnt s (exec c s) := by
  cases c with
  | cxlHotReset => exact execCxlHotReset_endsBurnt s
  | linkDown => exact endsBurnt_of_eq (linkLost_fuses s)
  | flr => exact execFlr_endsBurnt s
  | refclkLost => exact execRefclkLost_endsBurnt s
  | releaseStep work ms first second => exact execReleaseStep_endsBurnt work ms first second s
  | imageTransfer message verdict => exact execImageTransfer_endsBurnt message verdict s
  | secEnroll tr digest auth => exact execSecEnroll_endsBurnt tr digest auth s
  | secRevoke tr auth => exact execSecRevoke_endsBurnt tr auth s
  | secSetPolicy tr auth => exact execSecSetPolicy_endsBurnt tr auth s
  | secAdvanceSvn tr auth => exact execSecAdvanceSvn_endsBurnt tr auth s
  | secChallenge tr => exact execSecChallenge_endsBurnt tr s
  | secDebugUnlock tr auth => exact execSecDebugUnlock_endsBurnt tr auth s
  | fuseWriteComplete => exact execFuseWriteComplete_burnsOnly s
  | spdmGetVersion => exact execSpdmGetVersion_endsBurnt s
  | spdmGetCapabilities => exact execSpdmGetCapabilities_endsBurnt s
  | spdmNegotiateAlgorithms request => exact execSpdmNegotiateAlgorithms_endsBurnt request s
  | spdmGetCertificate slot offset len => exact execSpdmGetCertificate_endsBurnt slot offset len s
  | spdmChallenge request => exact execSpdmChallenge_endsBurnt request s
  | spdmGetMeasurements index raw request => exact execSpdmGetMeasurements_endsBurnt index raw request s
  | spdmKeyExchange request => exact execSpdmKeyExchange_endsBurnt request s
  | spdmKeyUpdate request => exact execSpdmKeyUpdate_endsBurnt request s
  | spdmHeartbeat => exact execSpdmHeartbeat_endsBurnt s
  | spdmChunkGet handle seq => exact execSpdmChunkGet_endsBurnt handle seq s
  | pwrdisAssert => exact execPwrdisAssert_endsBurnt s
  | perstAssert => exact execPerstAssert_endsBurnt s
  | inputLossRecordProgram => exact execInputLossRecordProgram_endsBurnt s
  | sensorSample readings => exact execSensorSample_endsBurnt readings s
  | registerWrite offset wide value => exact execRegisterWrite_endsBurnt offset wide value s
  | softwareDeviceReset value => exact (ends_next ..).mpr (writeRstCtrl_burnsOnly value s)
  | watchdogExpiry => exact fullReset_ite_endsBurnt _ 5 false s
  | stepFailureReset => exact fullReset_ite_endsBurnt _ 8 false s
  | bringupTimeout => exact fullReset_ite_endsBurnt _ 7 false s
  | blockResetEnd selftest => exact execBlockResetEnd_endsBurnt selftest s
  | _ => exact ends_exec_of_not_contains (p := .sec) rfl fun t ht => burnsOnly_of_fuses_eq (congrArg Sec.fuses ht)

/-- Settles O7: fuses only burn, by cases on the commands that reach the security part. -/
theorem fusesOnlyBurn : Obligations.FusesOnlyBurn := by
  unfold Obligations.FusesOnlyBurn
  intro s t hs ht
  cases hq : s.pending with
  | nil =>
    rw [step_of_nil hq] at ht
    cases ht
    exact burnsOnly_of_fuses_eq (by simp) hs
  | cons c rest =>
    rw [step_of_cons hq] at ht
    exact exec_endsBurnt c { s with pending := rest } t ht hs

end Sys2Proof.Machine
end
